-- ==== Sys2Proof/Syntax.lean ====
section
/-! DEFINITION. The commands of the block: one constructor of `Instr` per row of spec/opcode_table.json, in the table's order, with the
operands a row needs: the instance it names, the value or message it carries, and what its event measured. -/

namespace Sys2Proof

/-- The two dies (R6). -/
inductive Die where
  | radio | host
deriving DecidableEq, Repr

/-- The width of one host access (R22). -/
inductive AccSize where
  | b1 | b2 | b4
deriving DecidableEq, Repr

/-- The apply units that own an apply register (R27, R29); the RTC's load strobe stands apart. -/
inductive ApplyUnit where
  | chan (n : Fin 64)
  | tx (n : Fin 2)
  | op (n : Fin 128)
  | step
  | rate
  | lamp (n : Fin 8)
  | port (n : Fin 2)
deriving DecidableEq, Repr

/-- An Eskel request as the runner of a command sees it: its window, and the header fields and payload of R330. -/
structure Req where
  win     : Fin 16
  target  : Byte
  tag     : BitVec 16
  counter : Word
  payload : List Byte
deriving DecidableEq, Repr

/-- A barrier message as it comes off the lanes (R308): `rsv` is header byte 1, `crc` the four CRC bytes read as a number. -/
structure BMsg where
  typ     : Byte
  rsv     : Byte
  len     : BitVec 16
  seq     : BitVec 16
  ack     : BitVec 16
  payload : List Byte
  crc     : Word
deriving DecidableEq, Repr

/-- A Mooring frame as it comes off a port (R261), with the symbols corrected and the codewords found uncorrectable in the codewords that
carried it (R258). -/
structure MFrame where
  port    : Fin 2
  cls     : Byte
  typ     : Byte
  dst     : Byte
  src     : Byte
  len     : BitVec 16
  chainId : BitVec 16
  seq     : BitVec 16
  ack     : BitVec 16
  payload : List Byte
  crc     : Word
  corr    : Nat := 0
  uncorr  : Nat := 0
deriving DecidableEq, Repr

/-- What one detector found at a channel bit (R125, R139): the mode of the detector, the bits of alternating preamble recognised before
the window, the last hard decisions with the first of the window in bit 0, the paths to which the combiner gives a weight, the measured
signal, and the AGC value of the channel (R124). -/
structure Match where
  mode     : Fin 8
  preamble : Nat
  window   : Word
  paths    : BitVec 4
  rssi     : BitVec 16
  snr      : BitVec 16
  foff     : BitVec 16
  agc      : BitVec 16
deriving DecidableEq, Repr

/-- What a Mooring port finds by the end of a training phase (R259): the highest rate that the peer announces, the measured SNR and echo
loss, and the HELLO fields of the peer learnt in IDENT. -/
structure TrainInfo where
  rate       : Fin 4
  snr        : BitVec 16
  erle       : BitVec 16
  peerDev    : Fin 16
  peerPrio   : Fin 16
  peerChain  : BitVec 16
  peerEui    : BitVec 64
deriving DecidableEq, Repr

/-- The sources that wake the host die (R437). -/
inductive WakeSrc where
  | tag | rtc | spi | perst
deriving DecidableEq, Repr

/-- The commands: one constructor per row of the table. -/
inductive Instr where
  | refClockFailure
  | registerWrite (die : Die) (addr : Word) (size : AccSize) (value : Word)
  | shadowWrite (addr : Word) (value : Word)
  | applyHoldWrite (u : ApplyUnit) (hold : Bool)
  | applyDiscard (u : ApplyUnit)
  | applyBoundary (u : ApplyUnit)
  | guardedValueWrite (die : Die) (addr : Word) (value : Word)
  | guardTimeout (die : Die)
  | lowWordLatchRead (die : Die) (addr : Word) (size : AccSize)
  | ntbTimeRead
  | ntbSet
  | ntbStep
  | ntbSecond
  | ppsSecArm (hi : Word)
  | ppsEdge (rising : Bool)
  | ppsLossTimeout
  | revertHoldExpiry
  | holdoverAlarm
  | captureEdge (cap : Fin 5) (rising : Bool)
  | captureRead (cap : Fin 5)
  | lampStart (n : Fin 8)
  | lampEnd (n : Fin 8)
  | agcWindowEnd (path : Fin 5) (peakCdb : Int) (clips : Nat)
  | dcReconverged (path : Fin 4) (residual : Byte)
  | satLong (path : Fin 4)
  | sAlignDone
  | pathSubst
  | pathReturn
  | surveyDone (bins : List Byte)
  | healthCheck (path : Fin 4) (fails : BitVec 5)
  | pathCalibrationDone (path : Fin 5)
  | bandRetune (band : Fin 2)
  | rxpBandWrite (addr : Word) (value : Word)
  | rxpPathCfgWrite (path : Fin 4) (value : Word)
  | synLock (n : Fin 4)
  | lockLost (n : Fin 4)
  | synCalTimeout (n : Fin 4)
  | staleEval
  | synRefreshStart (n : Fin 4)
  | rasterWrite (n : Fin 4) (isStep : Bool) (value : Word)
  | refreshStale (n : Fin 4)
  | calEntry (n : Fin 4)
  | calAllValid (n : Fin 4)
  | invalidateAll (n : Fin 4)
  | idleStandby (tx : Fin 2)
  | lockDue (op : Fin 128)
  | driverEnable (tx : Fin 2)
  | rampDownEnd (tx : Fin 2)
  | txpEnWrite (tx : Fin 2) (value : Word)
  | txLate (op : Fin 128)
  | carrierStart (op : Fin 128)
  | coexGntSample (tx : Fin 2)
  | coexGntEdge (level : Bool)
  | coexReqEdge (level : Bool) (pri : Bool)
  | coexCfgWrite (value : Word)
  | coexTimingWrite (value : Word)
  | syncMatch (ch : Fin 64) (found : List Match)
  | headerCheck (ch : Fin 64) (slot : Fin 2) (header : Word)
  | payloadCrc (ch : Fin 64) (slot : Fin 2) (soft : List Byte)
  | powerStep (ch : Fin 64) (slot : Fin 2) (power : BitVec 16)
  | powerStepClear (ch : Fin 64) (slot : Fin 2) (power : BitVec 16)
  | subtractStart (ch : Fin 64)
  | redecodeEnd (ch : Fin 64) (slot : Fin 2) (soft : List Byte)
  | statLatch (ch : Fin 64)
  | statClear (ch : Fin 64)
  | lbtAssess (op : Fin 128) (energy : BitVec 16)
  | maskEval (op : Fin 128) (bins : List (Int × BitVec 16))
  | immediateAck
  | beaconSchedule
  | lighthouseSchedule
  | nodeEventSchedule (ctx : BitVec 16)
  | opqFull (ctx : BitVec 16)
  | rxWindowClose (op : Fin 128)
  | supervisionTimeout (ctx : BitVec 16)
  | upstreamBeaconMissed
  | opqArm (op : Fin 128)
  | opqCancel (op : Fin 128)
  | opqStart (op : Fin 128)
  | measureEnd (op : Fin 128) (mean : BitVec 16)
  | opqRelease (op : Fin 128)
  | hostResWrite (value : Word)
  | slotCfgWrite (value : Word)
  | relayCfgWrite (value : Word)
  | opqNidWrite (value : Word)
  | recordIntake
  | micResult
  | loadWindow (loads : List Byte)
  | contextMove (ctx : BitVec 16) (dest : Fin 16)
  | marginPeriod
  | marginReport (f : MFrame)
  | finalSend (ctx : BitVec 16)
  | finalFrame (f : MFrame)
  | finalAck (f : MFrame)
  | finalAckTimeout (ctx : BitVec 16)
  | finalQuery (f : MFrame)
  | finalNak (f : MFrame)
  | counterUpdate (f : MFrame)
  | replicaPromote (dev : Fin 16)
  | heardTable (f : MFrame)
  | joinSeen (f : MFrame)
  | joinElection (eui : BitVec 64)
  | rescueWant (f : MFrame)
  | rescueCopy (f : MFrame)
  | rescueWaitExpiry (addr : BitVec 24)
  | rescueHoldExpiry (addr : BitVec 24) (k : Word)
  | guestAgeExpiry (ctx : BitVec 16)
  | frdLookup (value : Word)
  | contextFrame (f : MFrame)
  | downlinkFrame (f : MFrame)
  | linkPulseDetect (port : Fin 2)
  | trainPhaseEnd (port : Fin 2) (info : TrainInfo)
  | trainFail (port : Fin 2)
  | trainRetryWait (port : Fin 2)
  | codewordLockLost (port : Fin 2)
  | fallback (port : Fin 2)
  | rateUpHoldExpiry (port : Fin 2)
  | mrPortDisable (port : Fin 2) (value : Word)
  | mrRetxTimeout (port : Fin 2) (cls : Fin 5)
  | tmarkSend (port : Fin 2)
  | timeSync (f : MFrame) (arrival : Nat)
  | helloSend
  | hello (f : MFrame)
  | helloMiss (dev : Fin 16)
  | linkEvent (f : MFrame)
  | unreachableDrop (dev : Fin 16)
  | eskelForward (f : MFrame)
  | mrEskelAnswer (f : MFrame)
  | mrChainCfgWrite (value : Word)
  | evcFire (ch : Fin 96)
  | taskDelivery (t : Fin 192)
  | rhizomeNotify (n : Fin 4)
  | evfSwtrig (value : Word)
  | evfSwgateWrite (value : Word)
  | evfCountClr (value : Word)
  | timestampRead (n : Fin 4)
  | loopWatch
  | cphSubmit (submitter : Fin 17) (desc : List Byte)
  | cphStart (core : Fin 8)
  | cphCoreDone (core : Fin 8) (fault : Bool)
  | cphCompletion (submitter : Fin 18)
  | cphHsubmit (value : Word)
  | cphHresultRead
  | cphCfgWrite (value : Word)
  | keySlotChange
  | cphKeyInval (value : Word)
  | barrierTraining (toHost : BitVec 4) (toRadio : BitVec 4)
  | barrierRetry
  | barrierSilence
  | barrierRetxTimeout (die : Die)
  | ack (dst : Die) (m : BMsg)
  | linkState (dst : Die) (m : BMsg)
  | eskelReq (m : BMsg)
  | eskelAnswer (m : BMsg)
  | eskelEvent (m : BMsg)
  | uplink (m : BMsg)
  | logEntry (m : BMsg)
  | imageChunk (m : BMsg)
  | startKeeper (m : BMsg)
  | loadFronds (m : BMsg) (badBanks : Word)
  | radioUp (m : BMsg) (badPaths : BitVec 4)
  | wake (m : BMsg)
  | bootStatus (m : BMsg)
  | keyLoadMessage (m : BMsg)
  | netTime (m : BMsg)
  | radioReset (m : BMsg)
  | doorbell (value : Word)
  | reqWindowWrite (offset : Word) (size : AccSize) (value : Word)
  | tenderCopy (win : Fin 16)
  | responseWrite (cls : Fin 4)
  | ringHeadWrite (ring : Fin 4) (value : Word)
  | ringCfgWrite (offset : Word) (value : Word)
  | spiRelease (value : Word)
  | spiWindowTimer (second : Bool)
  | nop (q : Req)
  | sysStatus (q : Req)
  | sysReset (q : Req)
  | cancel (q : Req)
  | settingsSave (q : Req)
  | settingsDefault (q : Req)
  | idGet (q : Req)
  | certRead (q : Req)
  | planLoad (q : Req)
  | planGet (q : Req)
  | chSet (q : Req)
  | chStats (q : Req)
  | chTrace (q : Req)
  | radioStatus (q : Req)
  | bandCfg (q : Req)
  | pathEnable (q : Req)
  | radioRetune (q : Req)
  | survey (q : Req)
  | surveyRead (q : Req)
  | nodeAdd (q : Req)
  | nodeRemove (q : Req)
  | nodeGet (q : Req)
  | nodeList (q : Req)
  | nodeConn (q : Req)
  | nodeSupervise (q : Req)
  | dlSend (q : Req)
  | dlQueue (q : Req)
  | bcastSend (q : Req)
  | timeGet (q : Req)
  | timeSet (q : Req)
  | timeStep (q : Req)
  | ppsArm (q : Req)
  | timeSrcCfg (q : Req)
  | slotCfg (q : Req)
  | beaconCfg (q : Req)
  | relayCfg (q : Req)
  | rtcSync (q : Req)
  | mrStatus (q : Req)
  | mrChainSet (q : Req)
  | mrPortCfg (q : Req)
  | mrPortEnable (q : Req)
  | evcSet (q : Req)
  | evcGet (q : Req)
  | evfStatus (q : Req)
  | powerState (q : Req)
  | powerStatus (q : Req)
  | keyLoad (q : Req)
  | keyInval (q : Req)
  | keyAttr (q : Req)
  | ockReplace (q : Req)
  | updBegin (q : Req)
  | updWrite (q : Req)
  | updCommit (q : Req)
  | updStatus (q : Req)
  | updAbort (q : Req)
  | logRead (q : Req)
  | snapRead (q : Req)
  | sensRead (q : Req)
  | sensLimits (q : Req)
  | bistRun (q : Req)
  | pathTest (q : Req)
  | tone (q : Req)
  | loopback (q : Req)
  | unitService (q : Req)
  | regAccess (q : Req)
  | regAccessCrit (q : Req)
  | rtcTick
  | rtcShadowWrite (isDate : Bool) (value : Word)
  | rtcLoad (divReset : Bool)
  | rtcDiscard
  | rtcAlarmArm (arm : Bool)
  | crystalStop
  | rtcPowerOn
  | switchToVbat
  | switchReturn
  | switchLogClear
  | flashRead (addr : BitVec 24) (errs : Fin 4)
  | flashProgram (addr : BitVec 24) (data : BitVec 128) (twin : Word)
  | flashProgramDone
  | flashErase (addr : BitVec 24) (twin : Word)
  | flashEraseDone
  | blankCheck (addr : BitVec 24) (twin : Word)
  | blankCheckDone (weak : List Nat)
  | flashSuspend (runUs : Nat)
  | flashResume
  | suspendTakeEffect
  | settingsCompact
  | trialConfirm
  | trialTimerExpiry
  | pmbusTimeout (rail : Fin 5) (cause : Fin 6) (statusWord : BitVec 16)
  | pmbAlert (rail : Fin 5) (statusWord : BitVec 16)
  | avsStep (up : Bool) (belowMargin : Bool)
  | pwrStateRequest (value : Word)
  | transitionDone (badBanks : Word) (elapsedUs : Nat)
  | uplinkDrainExpiry
  | holdTimerWake
  | cap0Wake
  | wakeStageLate (rail : Fin 5)
  | islandBrownout (die : Die)
  | replicaRestoreTimeout (ctx : BitVec 16)
  | hpwStandby
  | hostWake (src : WakeSrc)
  | lockstepMismatch
  | eccError (double : Bool)
  | sensorSample (sensor : Fin 8) (temp : BitVec 16)
  | railSample (rail : Fin 13) (mv : BitVec 16)
  | wdtKick (value : Word) (tMs : Nat)
  | watchdogWarn
  | watchdogExpiry
  | kprWdtCfg (value : Word)
  | tenderWdogWarn
  | tenderWdtExpiry
  | fieldOn
  | fieldLost
  | reqa
  | wupa
  | anticollisionSelect (uid : BitVec 56)
  | hlta
  | rats
  | sDeselect
  | tagOtherFrame
  | getInfo (inf : List Byte)
  | authBegin (inf : List Byte)
  | authFinish (inf : List Byte)
  | readPage (inf : List Byte)
  | writePage (inf : List Byte)
  | setConfig (inf : List Byte)
  | pageWriteDone (page : Fin 65) (field fails : Bool)
  | quietExpiry
  | tagmWrite (offset : Word) (size : AccSize) (value : Word)
  | tagCommit
  | tagDiscard
  | quietClr
  | tagKeyLoad
  | cfgStore
  | commitHoldTimeout
  | powerOn (die : Die)
  | pinReset (die : Die)
  | sysResetWrite (value : Word)
  | hpwResetHostDie
  | hpwResetRadioDie
  | romBoot (straps : BitVec 4)
  | waitImageTimeout
  | bootAttemptTimeout
  | bistDone (fail : Bool) (detail : BitVec 24)
  | toneEnd
  | loopbackSwitch
  | extest (die : Die)
  | bypass (die : Die)
  | idcode (die : Die)
  | samplePreload (die : Die)
  | tapReset (die : Die)
  | downlinkLifetimeExpiry (tag : BitVec 16)
  | nodeAddWaitExpiry (tag : BitVec 16)
  | hostPllLockLoss
  | acknowledgementOnlyFrame (f : MFrame)
  | powerLoss
  | ownBurstImminent (tx : Fin 2)
  | timeExchangeMissing (port : Fin 2)
  | crystalRestart
  | rtcTimeRead (subsec : BitVec 15)
deriving DecidableEq, Repr

end Sys2Proof
end

