-- ==== Sys2Proof/Decode.lean ====
section
/-! DEFINITION. The table gives none of its rows any bits (every row's list of fields is empty), so no word spells a command: a command
reaches the block through its queue. -/

namespace Sys2Proof

/-- The command that a word spells by the bits of the opcode table: none, since the table gives bits to no row. -/
def decodeTableWord (_nbits _w : Nat) : Option Instr := none

end Sys2Proof
end

