-- ==== Sys2Proof/Machine/Line.lean ====
section
/-! DEFINITION. The Mooring line: the bytes of a frame as blocks, the scrambler, the Reed-Solomon codeword, the PAM-4 levels, and the time
a frame takes (R257, R258, R261); the lanes of the barrier and their code (R306). Pure functions; the frames themselves stand in State. -/

namespace Sys2Proof.Machine

/-- A block: its header bit and its eight bytes (R258). -/
structure LineBlock where
  control : Bool
  bytes : List Byte
deriving DecidableEq, Repr

/-- The data blocks and the Terminate block of the rest of a frame. -/
def restBlocks : Nat → List Byte → List LineBlock
  | 0, _ => []
  | n + 1, bs =>
    if bs.length < 8 then [⟨true, [BitVec.ofNat 8 (0x87 + bs.length)] ++ bs ++ List.replicate (7 - bs.length) 0⟩]
    else ⟨false, bs.take 8⟩ :: restBlocks n (bs.drop 8)

/-- The blocks of a frame: Start with its first seven bytes, data blocks, Terminate. -/
def frameBlocks (bs : List Byte) : List LineBlock := ⟨true, 0x78 :: bs.take 7⟩ :: restBlocks (bs.length / 8 + 1) (bs.drop 7)

/-- The Idle block. -/
def idleBlock : LineBlock := ⟨true, 0x1E :: List.replicate 7 0⟩

/-- The blocks of a frame of `n` bytes. -/
def blockCount (n : Nat) : Nat := 2 + (n - 7) / 8

/-- One bit through the self-synchronising scrambler x^58 + x^39 + 1: the register holds the last 58 bits sent, newest first. -/
def scrambleBit (reg : BitVec 58) (b : Bool) : Bool × BitVec 58 :=
  let o := xor b (xor (reg.getLsbD 38) (reg.getLsbD 57))
  (o, reg.shiftConcat o)

/-- Bits scrambled in order. -/
def scrambleBits (reg : BitVec 58) : List Bool → List Bool × BitVec 58
  | [] => ([], reg)
  | b :: bs =>
    let (o, r) := scrambleBit reg b
    let (os, r) := scrambleBits r bs
    (o :: os, r)

/-- The receiver's side: the register holds the last 58 bits received. -/
def descrambleBits (reg : BitVec 58) : List Bool → List Bool × BitVec 58
  | [] => ([], reg)
  | b :: bs =>
    let o := xor b (xor (reg.getLsbD 38) (reg.getLsbD 57))
    let (os, r) := descrambleBits (reg.shiftConcat b) bs
    (o :: os, r)

/-- The bits of a byte on the line, least significant first (log entry 158). -/
def lineBits (b : Byte) : List Bool := (List.range 8).map b.getLsbD

/-- Blocks as line bits: the header bit stays plain, the 64 bits are scrambled. -/
def blockBits (reg : BitVec 58) : List LineBlock → List Bool × BitVec 58
  | [] => ([], reg)
  | x :: xs =>
    let (b, r) := scrambleBits reg (x.bytes.flatMap lineBits)
    let (bs, r) := blockBits r xs
    (x.control :: b ++ bs, r)

/-- The product in GF(2^10) with x^10 + x^3 + 1 (IEEE 802.3 Clause 91). -/
def gfMul (a b : Nat) : Nat :=
  ((List.range 10).foldl (fun (r : Nat × Nat) i =>
    (if b.testBit i then r.1 ^^^ r.2 else r.1, if r.2.testBit 9 then (2 * r.2) ^^^ 0x409 else 2 * r.2)) (0, a)).1

/-- The generator polynomial, the product of x + a^j for j = 0 to 29, without its leading 1, highest power first. -/
def rsGenerator : List Nat :=
  let step := fun (r : List Nat × Nat) =>
    (((r.1 ++ [0]).zip (0 :: r.1)).map (fun (c : Nat × Nat) => c.1 ^^^ gfMul c.2 r.2), gfMul r.2 2)
  ((List.range 30).foldl (fun r _ => step r) ([1], 1)).1.drop 1

/-- The remainder after one more data symbol. -/
def rsStep (gen rem : List Nat) (d : Nat) : List Nat :=
  let f := d ^^^ rem.headD 0
  ((rem.drop 1 ++ [0]).zip gen).map (fun (c : Nat × Nat) => c.1 ^^^ gfMul f c.2)

/-- The 30 parity symbols of 514 data symbols. -/
def rsParity (data : List Nat) : List Nat := data.foldl (rsStep rsGenerator) (List.replicate 30 0)

/-- Ten line bits as a symbol, the first the least significant (log entry 158). -/
def symbolOf (bs : List Bool) : Nat := bs.foldr (fun b n => 2 * n + b.toNat) 0

/-- Line bits as symbols of ten. -/
def symbolsOf : Nat → List Bool → List Nat
  | 0, _ => []
  | n + 1, bs => symbolOf (bs.take 10) :: symbolsOf n (bs.drop 10)

/-- A codeword: CWH with TMARK, 79 blocks, parity: 5,440 bits (R258). -/
def codeword (tmark : Bool) (reg : BitVec 58) (blocks : List LineBlock) : List Bool × BitVec 58 :=
  let (bs, r) := blockBits reg (blocks.take 79)
  let data := [tmark, false, false, false, false] ++ bs
  (data ++ (rsParity (symbolsOf 514 data)).flatMap (fun s => (List.range 10).map s.testBit), r)

/-- The PAM-4 levels of line bits, the earlier bit of a pair first (R257). -/
def pamLevels : List Bool → List Int
  | a :: b :: bs => (match a, b with
      | false, false => -3
      | false, true => -1
      | true, true => 1
      | true, false => 3) :: pamLevels bs
  | _ => []

/-- The time of a codeword at a RATE code, in 10 ps (R257). -/
def codewordTime (rate : Nat) : Nat :=
  match rate with
  | 0 => 506050
  | 1 => 202420
  | 2 => 101210
  | _ => 50605

/-- The time a frame of `n` bytes takes on the line, ns. -/
def frameNs (rate n : Nat) : Nat := ceilDiv (blockCount n * codewordTime rate) 7900

/-! ### The lanes of the barrier (R306) -/

/-- The bytes that lane `j` of `n` carries: the bytes go round the lanes, lane 0 first. -/
def laneBytes (n j : Nat) (bs : List Byte) : List Byte := (bs.zipIdx.filter (fun b => b.2 % n == j)).map (fun b => b.1)

/-- The bits of a code group of `n` bits, the first in time first. -/
def groupBits (n v : Nat) : List Bool := (List.range n).map (fun i => v.testBit (n - 1 - i))

/-- The six-bit groups of 8b/10b by the low five bits of the byte, for negative running disparity (log entry 176). -/
def groups6 : List Nat :=
  [0b100111, 0b011101, 0b101101, 0b110001, 0b110101, 0b101001, 0b011001, 0b111000] ++
  [0b111001, 0b100101, 0b010101, 0b110100, 0b001101, 0b101100, 0b011100, 0b010111] ++
  [0b011011, 0b100011, 0b010011, 0b110010, 0b001011, 0b101010, 0b011010, 0b111010] ++
  [0b110011, 0b100110, 0b010110, 0b110110, 0b001110, 0b101110, 0b011110, 0b101011]

/-- The four-bit groups by the high three bits, for negative running disparity. -/
def groups4 : List Nat := [0b1011, 0b1001, 0b0101, 0b1100, 0b1101, 0b1010, 0b0110, 0b1110]

/-- Ones less zeros. -/
def disparity (bs : List Bool) : Int := bs.foldl (fun d b => if b then d + 1 else d - 1) 0

/-- A group for the running disparity `rd`: the complement where the group for negative disparity does not suit; balanced groups other
than 111000 and 1100 suit both. -/
def groupFor (rd : Bool) (g : List Bool) : List Bool :=
  if rd && (disparity g != 0 || g == groupBits 6 0b111000 || g == groupBits 4 0b1100) then g.map (fun b => !b) else g

/-- A byte in 8b/10b at the running disparity `rd` (true positive), and the disparity after it. -/
def code8b10b (rd : Bool) (b : Byte) : List Bool × Bool :=
  let x := b.toNat % 32
  let y := b.toNat / 32
  let six := groupFor rd (groupBits 6 (groups6.getD x 0))
  let mid := rd != (disparity six != 0)
  let alternate := y == 7 && (if mid then [11, 13, 14] else [17, 18, 20]).contains x
  let four := groupFor mid (if alternate then groupBits 4 0b0111 else groupBits 4 (groups4.getD y 0))
  (six ++ four, mid != (disparity four != 0))

/-- The line bits of one lane, from the running disparity `rd`. -/
def laneBits (rd : Bool) : List Byte → List Bool
  | [] => []
  | b :: bs => (code8b10b rd b).1 ++ laneBits (code8b10b rd b).2 bs

/-- The time that `len` message bytes take over `n` lanes of 500 Mbit/s each, ns. -/
def laneNs (n len : Nat) : Nat := ceilDiv (16 * len) n

end Sys2Proof.Machine
end

