-- ==== Sys2Proof/Machine/Crypto.lean ====
section
/-! DEFINITION. The published algorithms the device uses (R4): AES with 128-bit and 256-bit keys (FIPS 197), and CTR, CMAC, CCM, GCM and
key wrap over it (NIST SP 800-38A to -38F). A block is a list of 16 numbers below 256. -/

namespace Sys2Proof.Machine

/-- The S-box of FIPS 197: row `y` holds S(16*y) to S(16*y + 15), the first in the most significant byte. -/
def sbox : List Nat :=
  [0x637C777BF26B6FC53001672BFED7AB76,
   0xCA82C97DFA5947F0ADD4A2AF9CA472C0,
   0xB7FD9326363FF7CC34A5E5F171D83115,
   0x04C723C31896059A071280E2EB27B275,
   0x09832C1A1B6E5AA0523BD6B329E32F84,
   0x53D100ED20FCB15B6ACBBE394A4C58CF,
   0xD0EFAAFB434D338545F9027F503C9FA8,
   0x51A3408F929D38F5BCB6DA2110FFF3D2,
   0xCD0C13EC5F974417C4A77E3D645D1973,
   0x60814FDC222A908846EEB814DE5E0BDB,
   0xE0323A0A4906245CC2D3AC629195E479,
   0xE7C8376D8DD54EA96C56F4EA657AAE08,
   0xBA78252E1CA6B4C6E8DD741F4BBD8B8A,
   0x703EB5664803F60E613557B986C11D9E,
   0xE1F8981169D98E949B1E87E9CE5528DF,
   0x8CA1890DBFE6426841992D0FB054BB16]

/-- The inverse S-box of FIPS 197, in the same layout. -/
def invSbox : List Nat :=
  [0x52096AD53036A538BF40A39E81F3D7FB,
   0x7CE339829B2FFF87348E4344C4DEE9CB,
   0x547B9432A6C2233DEE4C950B42FAC34E,
   0x082EA16628D924B2765BA2496D8BD125,
   0x72F8F66486689816D4A45CCC5D65B692,
   0x6C704850FDEDB9DA5E154657A78D9D84,
   0x90D8AB008CBCD30AF7E45805B8B34506,
   0xD02C1E8FCA3F0F02C1AFBD0301138A6B,
   0x3A9111414F67DCEA97F2CFCEF0B4E673,
   0x96AC7422E7AD3585E2F937E81C75DF6E,
   0x47F11A711D29C5896FB7620EAA18BE1B,
   0xFC563E4BC6D279209ADBC0FE78CD5AF4,
   0x1FDDA8338807C731B11210592780EC5F,
   0x60517FA919B54A0D2DE57A9F93C99CEF,
   0xA0E03B4DAE2AF5B0C8EBBB3C83539961,
   0x172B047EBA77D626E169146355210C7D]

/-- The entry of an S-box for a byte. -/
def boxAt (t : List Nat) (x : Nat) : Nat := t.getD (x / 16) 0 / 256 ^ (15 - x % 16) % 256

/-- Multiplication by x in GF(2^8). -/
def xtime (a : Nat) : Nat := if a < 128 then 2 * a else (2 * a) ^^^ 0x11B

/-- Multiplication in GF(2^8) by a number below 16. -/
def gmul (a k : Nat) : Nat :=
  (if k.testBit 0 then a else 0) ^^^ (if k.testBit 1 then xtime a else 0) ^^^ (if k.testBit 2 then xtime (xtime a) else 0) ^^^
    (if k.testBit 3 then xtime (xtime (xtime a)) else 0)

/-- Bytewise exclusive or. -/
def xorL (a b : List Nat) : List Nat := List.zipWith (fun x y => x ^^^ y) a b

def subByte (x : Nat) : Nat := boxAt sbox x

/-- The expanded key, words newest last (FIPS 197): `nk` words of key, `n` words still to make. -/
def expandKey (nk : Nat) : Nat → Nat → Nat → List (List Nat) → List (List Nat)
  | 0, _, _, ws => ws
  | n + 1, i, rcon, ws =>
    let prev := ws.getD (i - 1) []
    let t :=
      if i % nk = 0 then
        let r := (prev.drop 1 ++ prev.take 1).map subByte
        xorL r [rcon, 0, 0, 0]
      else if nk = 8 ∧ i % nk = 4 then prev.map subByte
      else prev
    expandKey nk n (i + 1) (if i % nk = 0 then xtime rcon else rcon) (ws ++ [xorL (ws.getD (i - nk) []) t])

/-- A list cut into pieces of `k`, `n` of them. -/
def chunks (k : Nat) : Nat → List Nat → List (List Nat)
  | 0, _ => []
  | n + 1, xs => xs.take k :: chunks k n (xs.drop k)

/-- The round keys, 16 bytes each: 11 for a 16-byte key, 15 for a 32-byte key. -/
def roundKeys (key : List Nat) : List (List Nat) :=
  let nk := if key.length = 32 then 8 else 4
  let total := if nk = 8 then 60 else 44
  let ws := expandKey nk (total - nk) nk 1 (chunks 4 nk key)
  chunks 16 (total / 4) ws.flatten

def shiftRows (b : List Nat) : List Nat := [0, 5, 10, 15, 4, 9, 14, 3, 8, 13, 2, 7, 12, 1, 6, 11].map (fun i => b.getD i 0)
def invShiftRows (b : List Nat) : List Nat := [0, 13, 10, 7, 4, 1, 14, 11, 8, 5, 2, 15, 12, 9, 6, 3].map (fun i => b.getD i 0)

def mixColumn (m : List Nat) (c : List Nat) : List Nat :=
  (List.range 4).map (fun r => (List.range 4).foldl (fun acc j => acc ^^^ gmul (c.getD j 0) (m.getD ((4 + j - r) % 4) 0)) 0)

def mixColumns (m : List Nat) (b : List Nat) : List Nat := ((chunks 4 4 b).map (mixColumn m)).flatten

def encRounds : List (List Nat) → List Nat → List Nat
  | [], b => b
  | [k], b => xorL (shiftRows (b.map subByte)) k
  | k :: ks, b => encRounds ks (xorL (mixColumns [2, 3, 1, 1] (shiftRows (b.map subByte))) k)

/-- AES encryption of one block under round keys. -/
def aesEnc (ks : List (List Nat)) (b : List Nat) : List Nat := encRounds (ks.drop 1) (xorL b (ks.headD []))

def decRounds : List (List Nat) → List Nat → List Nat
  | [], b => b
  | [k], b => xorL ((invShiftRows b).map (boxAt invSbox)) k
  | k :: ks, b => decRounds ks (mixColumns [14, 11, 13, 9] (xorL ((invShiftRows b).map (boxAt invSbox)) k))

/-- AES decryption of one block under round keys. -/
def aesDec (ks : List (List Nat)) (b : List Nat) : List Nat :=
  let rs := ks.reverse
  decRounds (rs.drop 1) (xorL b (rs.headD []))

/-- Bytes as numbers and back. -/
def natsOf (bs : List Byte) : List Nat := bs.map BitVec.toNat
def bytesOf (ns : List Nat) : List Byte := ns.map (BitVec.ofNat 8)

/-- A number in `n` bytes, most significant first. -/
def beNats (n v : Nat) : List Nat := (natsOf (leBytes n v)).reverse

/-- Zero padding to whole blocks. -/
def padBlocks (xs : List Nat) : List Nat := xs ++ List.replicate ((16 - xs.length % 16) % 16) 0

/-- The counter-mode key stream applied from counter block `ctr i`. -/
def ctrRun (ks : List (List Nat)) (ctr : Nat → List Nat) : Nat → Nat → List Nat → List Nat
  | 0, _, _ => []
  | n + 1, i, xs => xorL (xs.take 16) (aesEnc ks (ctr i)) ++ ctrRun ks ctr n (i + 1) (xs.drop 16)

def ctrApply (ks : List (List Nat)) (ctr : Nat → List Nat) (i : Nat) (xs : List Nat) : List Nat :=
  ctrRun ks ctr (ceilDiv xs.length 16) i xs

/-- CBC-MAC over whole blocks. -/
def cbcMac (ks : List (List Nat)) : Nat → List Nat → List Nat → List Nat
  | 0, x, _ => x
  | n + 1, x, bs => cbcMac ks n (aesEnc ks (xorL x (bs.take 16))) (bs.drop 16)

def zeros16 : List Nat := List.replicate 16 0

/-- AES-CTR with a 16-byte initial counter block counted as one big-endian number (SP 800-38A). -/
def ctrMode (key iv xs : List Nat) : List Nat :=
  let base := iv.foldl (fun a x => a * 256 + x) 0
  ctrApply (roundKeys key) (fun i => beNats 16 ((base + i) % 2 ^ 128)) 0 xs

/-- The MIC of CCM with a 13-byte nonce and L = 2 (SP 800-38C, R182), before its encryption. -/
def ccmTag (ks : List (List Nat)) (nonce aad msg : List Nat) (mic : Nat) : List Nat :=
  let b0 := ((if aad.isEmpty then 0 else 64) + 8 * ((mic - 2) / 2) + 1) :: nonce ++ beNats 2 msg.length
  let a := if aad.isEmpty then []
    else padBlocks ((if aad.length < 65280 then beNats 2 aad.length else 0xFF :: 0xFE :: beNats 4 aad.length) ++ aad)
  let all := b0 ++ a ++ padBlocks msg
  (cbcMac ks (all.length / 16) zeros16 all).take mic

/-- CCM encryption: the ciphertext and the MIC. -/
def ccmSeal (key nonce aad msg : List Nat) (mic : Nat) : List Nat × List Nat :=
  let ks := roundKeys key
  let ctr := fun i => 1 :: nonce ++ beNats 2 i
  (ctrApply ks ctr 1 msg, xorL (ccmTag ks nonce aad msg mic) (aesEnc ks (ctr 0)))

/-- CCM decryption: the plaintext if the MIC checks. -/
def ccmOpen (key nonce aad ct tag : List Nat) : Option (List Nat) :=
  let ks := roundKeys key
  let ctr := fun i => 1 :: nonce ++ beNats 2 i
  let msg := ctrApply ks ctr 1 ct
  if xorL (ccmTag ks nonce aad msg tag.length) (aesEnc ks (ctr 0)) = tag then some msg else none

/-- Doubling in GF(2^128) as CMAC has it. -/
def cmacDouble (b : List Nat) : List Nat :=
  let v := b.foldl (fun a x => a * 256 + x) 0
  beNats 16 (if v < 2 ^ 127 then 2 * v else ((2 * v) % 2 ^ 128) ^^^ 0x87)

/-- AES-CMAC (SP 800-38B, RFC 4493). -/
def cmac (key msg : List Nat) : List Nat :=
  let ks := roundKeys key
  let k1 := cmacDouble (aesEnc ks zeros16)
  let n := ceilDiv msg.length 16
  if n = 0 then aesEnc ks (xorL (0x80 :: List.replicate 15 0) (cmacDouble k1))
  else
    let x := cbcMac ks (n - 1) zeros16 msg
    let last := msg.drop (16 * (n - 1))
    let m := if last.length = 16 then xorL last k1 else xorL (padBlocks (last ++ [0x80])) (cmacDouble k1)
    aesEnc ks (xorL x m)

/-- Multiplication in the field of GCM, bit 0 most significant: `n` bits of `x` still to take. -/
def gcmMul : Nat → Nat → Nat → Nat → Nat
  | 0, _, _, z => z
  | n + 1, x, v, z =>
    gcmMul n x (if v % 2 = 1 then (v / 2) ^^^ (0xE1 * 2 ^ 120) else v / 2) (if x.testBit n then z ^^^ v else z)

/-- GHASH over whole blocks. -/
def ghash (h : Nat) : Nat → Nat → List Nat → Nat
  | 0, y, _ => y
  | n + 1, y, bs => ghash h n (gcmMul 128 (y ^^^ (bs.take 16).foldl (fun a x => a * 256 + x) 0) h 0) (bs.drop 16)

/-- The tag of GCM over additional data and ciphertext (SP 800-38D), 12-byte IV. -/
def gcmTag (ks : List (List Nat)) (iv aad ct : List Nat) : List Nat :=
  let h := (aesEnc ks zeros16).foldl (fun a x => a * 256 + x) 0
  let all := padBlocks aad ++ padBlocks ct ++ beNats 8 (8 * aad.length) ++ beNats 8 (8 * ct.length)
  xorL (beNats 16 (ghash h (all.length / 16) 0 all)) (aesEnc ks (iv ++ beNats 4 1))

/-- GCM encryption: ciphertext and 16-byte tag. -/
def gcmSeal (key iv aad msg : List Nat) : List Nat × List Nat :=
  let ks := roundKeys key
  let ct := ctrApply ks (fun i => iv ++ beNats 4 i) 2 msg
  (ct, gcmTag ks iv aad ct)

/-- GCM decryption: the plaintext if the tag checks. -/
def gcmOpen (key iv aad ct tag : List Nat) : Option (List Nat) :=
  let ks := roundKeys key
  if (gcmTag ks iv aad ct).take tag.length = tag then some (ctrApply ks (fun i => iv ++ beNats 4 i) 2 ct) else none

/-- One pass of key wrap over the semiblocks (SP 800-38F). -/
def kwPass (ks : List (List Nat)) : Nat → List Nat → List (List Nat) → List Nat × List (List Nat)
  | _, a, [] => (a, [])
  | t, a, r :: rs =>
    let b := aesEnc ks (a ++ r)
    let q := kwPass ks (t + 1) (xorL (b.take 8) (beNats 8 t)) rs
    (q.1, b.drop 8 :: q.2)

/-- One pass of unwrap, last semiblock first. -/
def kwUnpass (ks : List (List Nat)) : Nat → List Nat → List (List Nat) → List Nat × List (List Nat)
  | _, a, [] => (a, [])
  | t, a, r :: rs =>
    let b := aesDec ks (xorL a (beNats 8 t) ++ r)
    let q := kwUnpass ks (t - 1) (b.take 8) rs
    (q.1, b.drop 8 :: q.2)

/-- AES key wrap (KW) of whole semiblocks. -/
def kwWrap (key msg : List Nat) : List Nat :=
  let ks := roundKeys key
  let n := msg.length / 8
  let q := (List.range 6).foldl (fun q j => kwPass ks (n * j + 1) q.1 q.2) (List.replicate 8 0xA6, chunks 8 n msg)
  q.1 ++ q.2.flatten

/-- AES key unwrap: the plaintext if the integrity value checks. -/
def kwUnwrap (key ct : List Nat) : Option (List Nat) :=
  let ks := roundKeys key
  let n := ct.length / 8 - 1
  let q := (List.range 6).foldl
    (fun q j => let r := kwUnpass ks (n * (6 - j)) q.1 q.2.reverse; (r.1, r.2.reverse))
    (ct.take 8, chunks 8 n (ct.drop 8))
  if q.1 = List.replicate 8 0xA6 then some q.2.flatten else none

end Sys2Proof.Machine
end

