-- ==== Sys2Proof/Config.lean ====
section
/-! DEFINITION. What one device fixes and the spec leaves open: constants of a device (grade, identities, keys in OTP) and free values,
which no proof can see. None of the opaque constants has a body. -/

namespace Sys2Proof

/-- The ordering grade of the device: true for -X, false for -I (R2, R443, R444). -/
opaque Config.gradeX : Bool

/-- The device EUI-64 burnt into OTP (R325). -/
opaque Config.eui : BitVec 64

/-- The PCI vendor identifier burnt into OTP (R325). -/
opaque Config.pciVendor : BitVec 16

/-- The 7-byte tag UID burnt into OTP, byte 0 lowest (R472). -/
opaque Config.tagUid : BitVec 56

/-- The manufacturer identity registered to Plaondas, IDCODE bits [11:1] (R486). -/
opaque Config.manufacturer : BitVec 11

/-- The radio-domain IDCODE (R486): step 2, part 0x6416, the manufacturer identity, bit 0 set as IEEE 1149.1 has it. -/
def Config.idcodeRadio : Word := BitVec.ofNat 32 (0x26416001 + 2 * Config.manufacturer.toNat)

/-- The host-domain IDCODE (R486). -/
def Config.idcodeHost : Word := BitVec.ofNat 32 (0x2E416001 + 2 * Config.manufacturer.toNat)

/-- Free value: the cells of a boundary register as captured (R486): their number, order and values are not in the spec; by the value of
the state's counter. -/
opaque Config.boundary : Nat → List Bool

/-- The certificates of the identity region by index; an empty one is absent (R356, R387). -/
opaque Config.cert : Nat → List (BitVec 8)

/-- The device unique key in OTP, 32 bytes (R298). -/
opaque Config.duk : BitVec 256

/-- Free value: the EUI-64 of the upstream concentrator of a relay, which nonces its beacons (R182, R217); the spec names no source of it. -/
opaque Config.upstreamEui : BitVec 64

/-- Free value: the frequency term the device's servo sets (R46), by the value of the state's counter. -/
opaque Config.freeRate : Nat → BitVec 64

/-- The fixed synchroniser delay of the capture inputs, in 2^-56 ns (R60). -/
opaque Config.syncDelay : Nat

/-- The calibrated group delay of a receive path with the channeliser and a channel filter, in 2^-56 ns (R58), by path and filter code. -/
opaque Config.groupDelay : Nat → Nat → Nat

/-- The fixed delay of a transmit path from its shaping filter to the ball, in 2^-56 ns (R153). -/
opaque Config.txDelay : Nat → Nat

/-- Free value: the power of a channel over the listen-before-talk window, 0.25 dBm, by channel and 20 us interval (R158). -/
opaque Config.channelPower : Nat → Nat → BitVec 16

/-- Free value: a uniform random draw (R160, the tag's challenge), by the value of the state's counter. -/
opaque Config.freeDraw : Nat → Nat

/-- Free value: a calibration result (R87, R116), by the value of the state's counter. -/
opaque Config.freeCal : Nat → BitVec 32

/-- Free value: random bytes, by the value of the state's counter. -/
opaque Config.freeBytes : Nat → BitVec 128

end Sys2Proof
end

