-- ==== Sys2Proof/Machine/RegMap.lean ====
section
/-! DEFINITION. The register maps of both dies: which bits a register has, how each bit is accessed (R22-R24), what it resets to, and
how a block's partial decoding folds an address onto its register (R38). One row per register of the blocks' own maps. -/

namespace Sys2Proof.Machine

/-- The bits `[hi:lo]` as a mask. -/
def bits (hi lo : Nat) : Nat := (2 ^ (hi + 1 - lo) - 1) <<< lo

/-- One register: the mask of the bits of each access code of R23, and the reset value. `rwb` bits go to the shadow, `rwg` bits are
written through a twin, `wo` bits read as 0; a bit in no mask is reserved (R24). -/
structure Desc where
  rw    : Nat := 0
  ro    : Nat := 0
  w1c   : Nat := 0
  rwb   : Nat := 0
  rwg   : Nat := 0
  wo    : Nat := 0
  reset : Nat := 0
deriving DecidableEq, Repr

/-- A reserved offset: reads 0, ignores writes. -/
def Desc.none : Desc := {}

/-- A whole register of one access code. -/
def roR (reset : Nat := 0) (mask : Nat := 0xFFFFFFFF) : Desc := { ro := mask, reset := reset }
def rwR (mask : Nat) (reset : Nat := 0) : Desc := { rw := mask, reset := reset }
def rwbR (mask : Nat) (reset : Nat := 0) : Desc := { rwb := mask, reset := reset }
def woR (mask : Nat) : Desc := { wo := mask }

/-- The apply register of a unit (R29). -/
def applyR : Desc := { ro := 0xFFFFF100, w1c := 0x200, rw := 1, wo := 2 }

/-- A guard status register (R36). -/
def guardStatusR : Desc := { ro := 0xFF0E, w1c := 1 }

/-- All bits. -/
def full : Nat := 0xFFFFFFFF

/-- SYS (R485). -/
def sysDesc (o : Nat) : Desc :=
  match o with
  | 0x000 => roR 0x02016416
  | 0x004 => roR 0x00010001 0xFF3F01FF
  | 0x008 => roR 0 0xFF0F
  | 0x00C => roR 0 0x1F
  | 0x010 => roR 0 0xFF3
  | 0x020 => guardStatusR
  | 0x024 => roR 0 0xFFFFFF
  | 0x040 => { rwg := 1 }
  | _ => Desc.none

/-- PWR (R438, R439). -/
def pwrDesc (o : Nat) : Desc :=
  match o with
  | 0x000 => roR 0 0x7333
  | 0x004 => { w1c := 0x1FE }
  | 0x008 => rwR 0xFFFF 0x6464
  | 0x00C => rwR 3
  | 0x010 => rwR full
  | 0x014 => roR
  | 0x018 => roR
  | 0x01C => roR 0x352 0x3FF
  | 0x020 => rwR 0x03FF0001 0x03520001
  | 0x040 => { rwg := 0x103 }
  | 0x060 => rwR 1 1
  | 0x080 => rwR 0x11F7F 0x10040
  | 0x084 => rwR 0x11F7F 0x10041
  | 0x088 => rwR 0x11F7F 0x10042
  | 0x08C => rwR 0x11F7F 0x10043
  | 0x090 => rwR 0x11F7F 0x10044
  | 0x0A0 => roR 0x1F 0x1F1F
  | 0x0A4 => roR 0 0xFFFF00F7
  | 0x0A8 => roR 0 0x1FF
  | _ => Desc.none

/-- The capture units and Lamps of NTB (R59, R61). -/
def capDesc (o : Nat) : Desc :=
  match o with
  | 0x00 => rwR 3
  | 0x04 => roR
  | 0x08 => roR
  | 0x0C => roR
  | 0x10 => roR 0 0xFFFF
  | 0x14 => { ro := 0xFFFF0001, w1c := 2 }
  | _ => Desc.none

/-- A Lamp (R61, R62). -/
def lampDesc (o : Nat) : Desc :=
  match o with
  | 0x00 => applyR
  | 0x04 => rwbR 7
  | 0x08 => rwbR full
  | 0x0C => rwbR full
  | 0x10 => rwbR 0x3FFFFFFF
  | 0x14 => rwbR full
  | 0x18 => rwbR full
  | 0x1C => rwbR 0x3FFFFFFF
  | 0x20 => { ro := 1, w1c := 0xE }
  | 0x24 => roR
  | 0x28 => roR
  | 0x2C => roR
  | 0x30 => roR 0 0xFFFF
  | _ => Desc.none

/-- NTB (R49-R51). -/
def ntbDesc (o : Nat) : Desc :=
  if 0x1000 ≤ o then lampDesc (o % 0x40)
  else if 0x100 ≤ o then (if o < 0x1A0 then capDesc (o % 0x20) else Desc.none)
  else if 0x080 ≤ o ∧ o ≤ 0x098 then rwR 0xFFF
  else
    match o with
    | 0x000 => roR
    | 0x004 => roR
    | 0x008 => roR 0 0x3FFFFFFF
    | 0x00C => roR 0 0xFFFF
    | 0x010 => roR
    | 0x014 => roR
    | 0x018 => roR 0 0x3FFFFFFF
    | 0x01C => roR 0 0xFFFF
    | 0x020 => rwR 0x7F81 0x7501
    | 0x024 => { ro := 0x3F, w1c := 0xF00 }
    | 0x028 => roR
    | 0x02C => roR full
    | 0x030 => rwR full 0x186A0
    | 0x034 => rwR full 0xF4240
    | 0x038 => rwR full
    | 0x03C => rwR full
    | 0x040 => applyR
    | 0x044 => rwbR 3
    | 0x048 => rwbR full
    | 0x04C => rwbR full
    | 0x050 => rwbR 0x3FFFFFFF
    | 0x054 => rwbR full
    | 0x058 => rwbR full
    | 0x05C => rwbR full 0xF4240
    | 0x060 => applyR
    | 0x064 => rwbR full
    | 0x068 => roR
    | _ => Desc.none

/-- A path page of RXP (R91). -/
def rxpPathDesc (o : Nat) : Desc :=
  match o with
  | 0x00 => rwR 0x1F
  | 0x04 => { ro := 0x437, w1c := 0xB00 }
  | 0x08 => roR 0 0x17F
  | 0x0C => rwR full 0x0AC31806
  | 0x10 => rwR 0x7F7F7F 0x285400
  | 0x14 => roR 0 0xFFFF01FF
  | 0x18 => { ro := 0xFFFFFF00, w1c := 0x1F }
  | 0x1C => rwR 0xFFFFF 0x2060A
  | 0x20 => roR
  | 0x24 => roR
  | 0x28 => roR
  | 0x2C => rwR 0xFF
  | 0x30 => roR
  | 0x40 => rwR 0x3F3F1F
  | 0x44 => rwR 0x3F3F1F
  | 0x48 => rwR 0x3F3F1F
  | 0x4C => rwR 0x3F3F1F
  | 0x50 => rwR 0x3F3F1F
  | 0x54 => rwR 0x3F3F1F
  | _ => Desc.none

/-- The path S page of RXP (R92). -/
def rxpSDesc (o : Nat) : Desc :=
  match o with
  | 0x00 => rwR 0xF3 0xF3
  | 0x04 => { ro := 0x377, w1c := 0x30000, reset := 0x70 }
  | 0x08 => roR 0 0x7F
  | 0x0C => rwR full 0x0AC31806
  | 0x10 => roR
  | 0x14 => roR
  | 0x18 => rwR 0xFFFF 0x32
  | 0x1C => rwR full 0x03E8000A
  | 0x20 => rwR full
  | 0x24 => rwR full
  | 0x28 => rwR 0xFF07 0x101
  | _ => Desc.none

/-- The common page of RXP (R92). -/
def rxpCommonDesc (o : Nat) : Desc :=
  match o with
  | 0x0 => rwR 0x331 0x220
  | 0x4 => rwR full
  | 0x8 => rwR full
  | 0xC => { w1c := 3 }
  | _ => Desc.none

/-- RXP (R90). -/
def rxpDesc (o : Nat) : Desc :=
  match o / 0x1000 with
  | 0 | 1 | 2 | 3 => rxpPathDesc (o % 0x1000)
  | 4 => rxpSDesc (o % 0x1000)
  | 8 => rxpCommonDesc (o % 0x1000)
  | _ => Desc.none

/-- A synthesiser page (R114-R116); on SYN0 and SYN1 RASTER_BASE reads 0 and CAL_IDX shows 8 entries. -/
def synPageDesc (n o : Nat) : Desc :=
  match o with
  | 0x00 => rwR 0xFFFF01 0xF01
  | 0x04 => { ro := 0xF, w1c := 0x1F00 }
  | 0x08 => roR
  | 0x0C => roR 0 0x7FF
  | 0x10 => if n < 2 then Desc.none else rwR full 0x16A65700
  | 0x14 => rwR full 0x140000
  | 0x18 => rwR (if n < 2 then 0x7 else 0x1FF)
  | 0x1C => roR 0 0xA1FFFFFF
  | 0x20 => woR 0xF
  | 0x24 => roR
  | 0x28 => roR
  | 0x2C => roR 0 0x3FF03FF
  | 0x30 => roR
  | 0x34 => roR
  | 0x38 => roR
  | _ => Desc.none

/-- The coexistence page (R117). -/
def coexDesc (o : Nat) : Desc :=
  match o with
  | 0x00 => rwR 0xF1F
  | 0x04 => rwR 0xFFFFFF 0x640A32
  | 0x08 => { ro := 0xF, w1c := 0x700 }
  | 0x0C => roR
  | 0x10 => roR
  | _ => Desc.none

/-- SYN (R113). -/
def synDesc (o : Nat) : Desc :=
  match o / 0x1000 with
  | 0 => synPageDesc 0 (o % 0x1000)
  | 1 => synPageDesc 1 (o % 0x1000)
  | 2 => synPageDesc 2 (o % 0x1000)
  | 3 => synPageDesc 3 (o % 0x1000)
  | 8 => coexDesc (o % 0x1000)
  | _ => Desc.none

/-- CHN, one channel (R141, R144, R145). -/
def chnDesc (o : Nat) : Desc :=
  if 0x100 ≤ o ∧ o < 0x180 then roR
  else if 0x040 ≤ o ∧ o < 0x07C then roR
  else
    match o with
    | 0x000 => applyR
    | 0x004 => rwbR 0x71 0x10
    | 0x008 => rwbR full
    | 0x00C => rwbR 0xFFF 0xFFF
    | 0x010 => rwbR 0xF03 0x602
    | 0x018 => rwbR 1
    | 0x01C => rwbR 7 3
    | 0x020 => rwbR full 0x9E4B35D1
    | 0x024 => { ro := 0x377, w1c := 0x10000 }
    | 0x028 => roR 0 0xFFFF
    | 0x02C => roR 0 0xFFFF
    | 0x030 => roR 0 0xFFFF
    | 0x034 => roR 0 0x11F
    | 0x080 => woR 3
    | 0x180 => roR 0 0xFFFF000F
    | _ => Desc.none

/-- The reset ramp profile (R152): point k is round(1,023 x (1 - cos(pi (k + 1) / 32)) / 2). -/
def rampReset : List Nat :=
  [2, 10, 22, 39, 60, 86, 116, 150, 187, 227, 270, 316, 363, 412, 461, 512,
   562, 611, 660, 707, 753, 796, 836, 873, 907, 937, 963, 984, 1001, 1013, 1021, 1023]

/-- A transmit-path page (R162, R163). -/
def txpDesc (o : Nat) : Desc :=
  if 0x100 ≤ o ∧ o < 0x200 then rwbR 0xFFFF (if o = 0x17C then 0x4000 else 0)
  else if 0x200 ≤ o ∧ o < 0x240 then
    let k := (o - 0x200) / 4
    rwbR 0x3FF03FF (rampReset.getD (2 * k) 0 + 65536 * rampReset.getD (2 * k + 1) 0)
  else if 0x240 ≤ o ∧ o < 0x280 then rwbR full
  else
    match o with
    | 0x000 => applyR
    | 0x004 => rwbR 0xF7F0E 0x6100A
    | 0x008 => rwR 1
    | 0x00C => { ro := 0xF, w1c := 0xF00 }
    | 0x010 => rwbR 0xFF 0xA0
    | 0x014 => rwbR 0xFF 0x53
    | 0x018 => rwbR 0x3FF03FF 0x3000000
    | 0x01C => rwbR 0x3F 0x1F
    | 0x020 => rwbR 3
    | 0x024 => roR
    | 0x028 => roR
    | 0x02C => roR
    | 0x030 => roR
    | 0x034 => roR 0 0x13F077F
    | 0x038 => roR 0 0xFFFFF
    | _ => Desc.none

/-- TXP (R162). -/
def txpBlockDesc (o : Nat) : Desc :=
  if o < 0x8000 then txpDesc (o % 0x4000)
  else if o = 0x8000 then rwR 0xFFFFFF 0x8FEAC else Desc.none

/-- An operation-queue entry (R219, R221, R223). -/
def opDesc (o : Nat) : Desc :=
  match o with
  | 0x00 => applyR
  | 0x04 => rwbR 0xFFF73FDF
  | 0x08 => rwbR full
  | 0x0C => rwbR full
  | 0x10 => rwbR 0x3FFFFFFF
  | 0x14 => rwbR 0xFFFFFF
  | 0x18 => rwbR 0x7FFFFFF 0x200000
  | 0x1C => rwbR 0x1F3FFFFF
  | 0x20 => roR 0x1F 0xFFFF011F
  | 0x24 => woR 3
  | 0x28 => { ro := 0xFFF07, w1c := 0x100000 }
  | 0x2C => roR
  | 0x30 => roR
  | 0x34 => roR 0 0x3FFFFFFF
  | 0x38 => roR 0 0xFFFF0FFF
  | _ => Desc.none

/-- The common page of OPQ (R229). -/
def opqCommonDesc (o : Nat) : Desc :=
  match o with
  | 0x00 => rwR 0xFF7F 0x3200
  | 0x04 => { ro := 0xFFFF, w1c := 0x70000, reset := 0x8000 }
  | 0x08 => roR
  | 0x0C => rwR 0xFFFF 0x2710
  | 0x10 => rwR 0xFFFF3FFF 0x7832000F
  | 0x14 => rwR full 0x4047800
  | 0x18 => rwR 0xBFBFBFBF
  | 0x1C => roR 0 0xF
  | 0x20 => rwR full 0x320014
  | 0x24 => rwR full 0x1F43C14
  | 0x28 => rwR 0xFF0F0F 0xA00304
  | 0x2C => { ro := 0xFFFF0007, w1c := 0x100 }
  | 0x30 => rwR 0xFFFFFF1F
  | 0x34 => { ro := 0xFFFF0033, w1c := 0x300 }
  | 0x38 => rwR 0xFFFF
  | 0x3C => rwR full
  | 0x40 => rwR full
  | 0x44 => rwR 0xFFFF
  | _ => Desc.none

/-- OPQ (R230). -/
def opqDesc (o : Nat) : Desc :=
  if o < 0x2000 then opDesc (o % 0x40)
  else if 0x8000 ≤ o ∧ o < 0xA000 then opqCommonDesc (o - 0x8000) else Desc.none

/-- EVF (R289). -/
def evfDesc (o : Nat) : Desc :=
  if o < 0x600 then
    match o % 0x10 with
    | 0x0 => rwR 0x80007FFF
    | 0x4 => rwR 0x1FF01FF
    | 0x8 => rwR 0xFFFF
    | _ => roR
  else if 0x840 ≤ o ∧ o < 0x858 then { w1c := full }
  else if 0x860 ≤ o ∧ o < 0x878 then { w1c := full }
  else if 0x880 ≤ o ∧ o < 0x88C then { w1c := full }
  else if 0x890 ≤ o ∧ o < 0x89C then { w1c := full }
  else if 0x900 ≤ o ∧ o < 0x980 then
    match o % 0x20 with
    | 0x00 => roR
    | 0x04 => roR
    | 0x08 => roR
    | 0x0C => roR 0 0xFFFF
    | 0x10 => { ro := 1, w1c := 2 }
    | _ => Desc.none
  else
    match o with
    | 0x800 => woR 0xF
    | 0x804 => rwR 0xF
    | 0x808 => { w1c := 0xFFFF }
    | 0x80C => woR 0xFF
    | 0x810 => rwR 0x10FFFFF 0x32710
    | _ => Desc.none

/-- CPH below the scratch window (R305); KEY_DATA and KEY_LOAD are the Keeper's own (R296). -/
def cphDesc (o : Nat) : Desc :=
  if 0x8000 ≤ o then rwR full
  else if 0x060 ≤ o ∧ o < 0x080 then woR full
  else if 0x0A0 ≤ o ∧ o < 0x0D0 then rwR full
  else
    match o with
    | 0x000 => rwR 0xFF 0xFF
    | 0x004 => { ro := 0x47F00FF, w1c := 0x300FF00 }
    | 0x008 => roR
    | 0x00C => roR
    | 0x010 => roR
    | 0x020 => rwR 0xFF
    | 0x024 => roR 0 0xFFFF00F3
    | 0x040 => { rwg := 0x1FF }
    | 0x080 => woR 0xF1FF
    | 0x0D0 => woR 1
    | 0x0D4 => roR 0 0xFFFF0077
    | 0x0D8 => roR 0 0xFFFF00FF
    | _ => Desc.none

/-- MRE and MRW, one port page (R275, R276). -/
def mrDesc (o : Nat) : Desc :=
  match o with
  | 0x00 => applyR
  | 0x04 => rwbR 0xFFFFFF1F 0x3C101E13
  | 0x08 => rwbR 3
  | 0x0C => rwbR full
  | 0x10 => { ro := 0x1BF, w1c := 0xE00 }
  | 0x14 => roR
  | 0x18 => roR
  | 0x1C => roR 0xFF 0xFFFF00FF
  | 0x20 => roR
  | 0x24 => roR
  | 0x28 => roR
  | 0x2C => roR
  | 0x30 => roR
  | 0x34 => roR
  | 0x38 => roR
  | 0x3C => roR
  | 0x40 => { rwg := 1 }
  | 0x44 => roR
  | 0x48 => roR
  | 0x4C => roR
  | 0xC0 => rwR 0xFFFF00FF
  | 0xC4 => { ro := 0x7F, w1c := 0x70000, reset := 0x10 }
  | 0xC8 => roR 1 0xFFFF
  | 0xCC => roR 0xFFFFFFF0
  | 0xD0 => roR full
  | 0xD4 => roR
  | 0xD8 => rwR 0xFFF 0x30A
  | _ => Desc.none

/-- FRD (R255, R256). -/
def frdDesc (o : Nat) : Desc :=
  if 0x100 ≤ o ∧ o < 0x180 then (if o % 8 = 0 then roR 0 0xFFFF else roR 0 0x1FFFF)
  else if 0x040 ≤ o ∧ o ≤ 0x080 then roR
  else
    match o with
    | 0x000 => rwR 0xFFFFF0F 0x40A550F
    | 0x004 => rwR 0xF3FFFFFF 0x133C0E10
    | 0x008 => rwR 0xFF0FFFFF 0x2C814
    | 0x00C => rwR full 0x140305A0
    | 0x010 => { ro := 0x1000F, w1c := 0x700 }
    | 0x014 => roR 0 0x1FFFF
    | 0x018 => roR 0 0x1FFFF
    | 0x01C => roR 0 0x1FFFF
    | 0x020 => roR 0x10000 0x1FFFF
    | 0x024 => woR 0xFFFFFF
    | 0x028 => roR 0 0x8F3FFFFF
    | _ => Desc.none

/-- KPR (R456). -/
def kprDesc (o : Nat) : Desc :=
  match o with
  | 0x000 => roR
  | 0x004 => { ro := 1, w1c := 0x100, reset := 1 }
  | 0x008 => roR
  | 0x00C => roR
  | 0x020 => roR
  | 0x024 => roR
  | 0x040 => { rwg := full, reset := 0x0A3203E8 }
  | 0x044 => woR full
  | 0x048 => { ro := 0x1FFFF, w1c := 0x60000 }
  | _ => Desc.none

/-- The reset limits of the rails 0 to 7 in mV, LOW and HIGH (R443): nominal plus and minus 5 %. -/
def railLimits : List (Nat × Nat) :=
  [(618, 893), (760, 840), (950, 1050), (950, 1050), (855, 945), (1710, 1890), (1710, 3465), (1710, 3465)]

/-- SNS (R457). -/
def snsDesc (o : Nat) : Desc :=
  if o < 0x18 then roR 0 0xFFFF
  else if 0x40 ≤ o ∧ o < 0x60 then roR 0 0xFFFF
  else if 0x80 ≤ o ∧ o < 0x98 then rwR full (if Config.gradeX then 0x01E0FF60 else 0x01A4FF60)
  else if 0xC0 ≤ o ∧ o < 0xE0 then
    let p := railLimits.getD ((o - 0xC0) / 4) (0, 0)
    rwR full (p.1 + 65536 * p.2)
  else if o = 0x100 then { w1c := 0x2FF3F, ro := 0x10000 } else Desc.none

/-- TST (R496); the IDCODE is R486's for the radio domain, with the manufacturer identity of Config. -/
def tstDesc (o : Nat) : Desc :=
  match o with
  | 0x00 => roR (Config.idcodeRadio.toNat)
  | 0x04 => roR 0 0x3031F
  | 0x08 => roR 0 0xFF07
  | 0x0C => roR
  | 0x10 => roR
  | 0x14 => roR 0 0xFFFF
  | 0x18 => roR 0 0x11F03
  | 0x1C => roR
  | _ => Desc.none

/-- The block number of a radio-die offset, bits [19:16] (R39). -/
def blockOf (off : Nat) : Nat := (off >>> 16) % 16

/-- The decode masks of the radio blocks (R38, with each block's own rule). -/
def radioMask (blk o : Nat) : Nat :=
  match blk with
  | 0 => 0x08FC
  | 1 => 0x08FC
  | 2 => 0x11FC
  | 3 => 0xF0FC
  | 4 => 0xF07C
  | 5 => 0xFDFC
  | 6 => 0xC3FC
  | 7 => 0x9FFC
  | 8 => 0x0FFC
  | 9 => if o < 0x8000 then 0x88FC else 0xFFFC
  | 10 => 0x88FC
  | 11 => 0x03FC
  | 12 => 0x08FC
  | 13 => 0x01FC
  | 14 => 0x00FC
  | _ => 0

/-- The register that a radio-die address selects, as its offset from 0x4000_0000 (R38, R39): block number, then the offset AND the
block's mask. The chain registers of Mooring are one set, kept under the East page (R275). -/
def canonRadio (addr : Word) : Nat :=
  let off := addr.toNat % 0x100000
  let blk := blockOf off
  let o := (off % 0x10000) &&& radioMask blk (off % 0x10000)
  let o := if blk = 10 ∧ 0x80C0 ≤ o ∧ o ≤ 0x80D8 then o - 0x8000 else o
  blk * 0x10000 + o

/-- The row of a canonical radio-die offset. -/
def radioDesc (off : Nat) : Desc :=
  let o := off % 0x10000
  match off / 0x10000 with
  | 0 => sysDesc o
  | 1 => pwrDesc o
  | 2 => ntbDesc o
  | 3 => rxpDesc o
  | 4 => synDesc o
  | 5 => chnDesc (o % 0x400)
  | 6 => txpBlockDesc o
  | 7 => opqDesc o
  | 8 => evfDesc o
  | 9 => cphDesc o
  | 10 => mrDesc (o % 0x8000)
  | 11 => frdDesc o
  | 12 => kprDesc o
  | 13 => snsDesc o
  | 14 => tstDesc o
  | _ => Desc.none

/-- What a radio-die register holds after a radio-die reset. -/
def radioReset (off : Nat) : Word := BitVec.ofNat 32 (radioDesc off).reset

/-- Whether an address lies in the register ranges of R39. -/
def inRadioBlocks (addr : Word) : Bool := 0x40000000 ≤ addr.toNat && addr.toNat < 0x400F0000

/-- Whether an address lies in the context-store window (R39, R40). -/
def inStoreWindow (addr : Word) : Bool := 0x50000000 ≤ addr.toNat && addr.toNat < 0x50800000

/-- ID (R325); the OTP and strap values are supplied from their own homes. -/
def idDesc (o : Nat) : Desc :=
  match o with
  | 0x00 => roR 0x16416
  | 0x04 => roR 2
  | 0x08 => roR (Config.eui.toNat % 2 ^ 32)
  | 0x0C => roR (Config.eui.toNat / 2 ^ 32)
  | 0x10 => roR 0 0xF
  | 0x14 => roR
  | 0x18 => roR (0x64160000 + Config.pciVendor.toNat)
  | 0x1C => rwR full
  | _ => Desc.none

/-- HPW (R326). -/
def hpwDesc (o : Nat) : Desc :=
  match o with
  | 0x00 => roR 0x30 0x33
  | 0x04 => rwR 7 7
  | 0x08 => roR 0x00010001 0xFF3F01FF
  | 0x40 => { rwg := 1 }
  | 0x44 => { rwg := 3 }
  | 0x50 => guardStatusR
  | 0x54 => roR
  | _ => Desc.none

/-- BST (R327). -/
def bstDesc (o : Nat) : Desc :=
  match o with
  | 0x00 => { ro := 0x20FF3, w1c := 0x50000 }
  | 0x04 => roR
  | 0x08 => roR
  | 0x0C => roR
  | 0x10 => roR
  | 0x14 => roR
  | 0x18 => roR 0 0xFFFF07FF
  | 0x1C => roR
  | _ => Desc.none

/-- MBX (R328). -/
def mbxDesc (o : Nat) : Desc :=
  if 0x40 ≤ o ∧ o < 0xC0 then
    match o % 0x20 with
    | 0x00 => rwR 0xFFFFF000
    | 0x04 => rwR full
    | 0x08 => rwR 0x71F01
    | 0x0C => roR
    | 0x10 => rwR full
    | 0x14 => rwR 0xFFFFFFFC
    | 0x18 => rwR full
    | 0x1C => { ro := 0xFFFF0001, w1c := 0x100 }
    | _ => Desc.none
  else
    match o with
    | 0x00 => woR 0xF
    | 0x04 => roR
    | 0x08 => { ro := 0x10FF0, w1c := 3 }
    | 0x0C => rwR 0xFF 0xE4
    | 0x10 => roR 0 0xFFFF
    | 0x14 => woR 0xFFFF
    | 0x18 => roR 0 0x1FFF1FFF
    | _ => Desc.none

/-- MSX (R329): the MSI-X table follows the PCI Express specification (R4). -/
def msxDesc (o : Nat) : Desc :=
  if o < 0x200 then
    match o % 0x10 with
    | 0x0 => rwR 0xFFFFFFFC
    | 0x4 => rwR full
    | 0x8 => rwR full
    | _ => rwR 1 1
  else if 0xC00 ≤ o ∧ o < 0xC40 then rwR 0x9F9F9F9F
  else
    match o with
    | 0x800 => roR
    | 0x804 => roR
    | 0xD00 => { w1c := full }
    | 0xD04 => { w1c := full }
    | 0xD08 => rwR 3
    | _ => Desc.none

/-- RTC (R385, R386). -/
def rtcDesc (o : Nat) : Desc :=
  match o with
  | 0x00 => rwbR 0x73F7F7F 0x6000000
  | 0x04 => rwbR 0xFFFF1F3F 0x20000101
  | 0x08 => roR 0 0x7FFF
  | 0x0C => woR 7
  | 0x10 => { ro := 0x700, w1c := 0xF, reset := 1 }
  | 0x14 => rwR 0x3F7F7F
  | 0x18 => rwR 0xFFFF1F3F 0x20000101
  | 0x1C => { rw := 1, w1c := 0x300 }
  | 0x20 => roR
  | 0x24 => roR
  | 0x28 => { ro := 0x1FF, wo := 0x80000000 }
  | _ => Desc.none

/-- TAG (R472, R473). -/
def tagDesc (o : Nat) : Desc :=
  if 0x40 ≤ o ∧ o < 0x58 then woR full
  else
    match o with
    | 0x00 => rwR 0x1F01
    | 0x04 => { ro := 0x31D, w1c := 0x3E0000 }
    | 0x08 => woR 0x1F00
    | 0x0C => roR 0xFF 0xFFFF3FFF
    | 0x10 => roR (Config.tagUid.toNat % 2 ^ 32)
    | 0x14 => roR (Config.tagUid.toNat / 2 ^ 32)
    | 0x18 => roR 0 0xFFFF003F
    | 0x20 => rwR 0xFFFFFFFC
    | 0x24 => rwR full
    | 0x28 => rwR full
    | 0x2C => rwR full
    | 0x60 => roR
    | 0x64 => roR
    | _ => Desc.none

/-- FLC, the Tender's private flash controller (R400, R401), kept under block 8 of the host offsets; no host address reaches it. -/
def flcDesc (o : Nat) : Desc :=
  match o with
  | 0x00 => { rw := 0x30F, ro := 0x10000, reset := 0x207 }
  | 0x04 => { ro := 0x3000F, w1c := 0xFF00 }
  | 0x08 => rwR 0xFFFFF0
  | 0x0C => roR 0 0xFFFFFF
  | 0x10 => roR 0 0x30FFFFF0
  | 0x20 => rwR full
  | 0x24 => rwR full
  | 0x28 => rwR full
  | 0x2C => rwR full
  | 0x40 => { rwg := 3 }
  | 0x44 => woR 3
  | 0x48 => roR
  | 0x4C => roR
  | _ => Desc.none

/-- The decode masks of the host blocks (each block's own rule). -/
def hostMask (blk : Nat) : Nat :=
  match blk with
  | 0 => 0x0FC
  | 1 => 0x8FC
  | 2 => 0x0FC
  | 3 => 0x0FC
  | 4 => 0xFFC
  | 5 => 0x03C
  | 6 => 0x0FC
  | 8 => 0x8FC
  | _ => 0

/-- The row of a canonical host offset: block number x 0x1000 and the masked offset. -/
def hostDesc (off : Nat) : Desc :=
  let o := off % 0x1000
  match off / 0x1000 with
  | 0 => idDesc o
  | 1 => hpwDesc o
  | 2 => bstDesc o
  | 3 => mbxDesc o
  | 4 => msxDesc o
  | 5 => rtcDesc o
  | 6 => tagDesc o
  | 8 => flcDesc o
  | _ => Desc.none

/-- What a host-die register holds after the reset of its domain. -/
def hostReset (off : Nat) : Word := BitVec.ofNat 32 (hostDesc off).reset

/-- Where a host-die access lands (R41). -/
inductive HostTarget where
  | register (off : Nat)
  | reqWindow (off : Nat)
  | rspWindow (off : Nat)
  | tagMemory (off : Nat)
deriving DecidableEq, Repr

/-- The decoding of a host-die offset (R38, R41, R324). BAR0 repeats the space every 0x8_0000. DEDUCED (log entry 12): 0x0003_2000 to
0x0007_FFFF repeat 0x0000_0000 to 0x0003_1FFF end to end. Bit 15 is ignored below 0x1_0000, where 0x7000 to 0x7FFF select ID. -/
def hostTarget (addr : Word) : HostTarget :=
  let a := addr.toNat % 0x80000 % 0x32000
  if a < 0x10000 then
    let a := a % 0x8000
    let b := if a / 0x1000 = 7 then 0 else a / 0x1000
    .register (b * 0x1000 + ((a % 0x1000) &&& hostMask b))
  else if a < 0x20000 then .reqWindow (a - 0x10000)
  else if a < 0x30000 then .rspWindow (a - 0x20000)
  else .tagMemory (a - 0x30000)

/-- The readable bits of a register (R23: wo bits read 0). -/
def Desc.readable (d : Desc) : Nat := d.rw ||| d.ro ||| d.w1c ||| d.rwb ||| d.rwg

end Sys2Proof.Machine
end

