-- ==== Sys2Proof/Machine/Tab.lean ====
section
/-! DEFINITION. Sparse tables in one canonical form: a list of (key, value) pairs with strictly rising keys, none equal to what an
unlisted key reads as. Registers, memories and per-instance records are tables. -/

namespace Sys2Proof.Machine

/-- A sparse table. -/
abbrev Tab (α : Type) := List (Nat × α)

/-- The listed value of a key. -/
def tabFind {α : Type} : Tab α → Nat → Option α
  | [], _ => none
  | (a, v) :: t, k => if a = k then some v else tabFind t k

/-- The value of a key: the listed one, or what the default function `d` gives. -/
def tabGet {α : Type} (d : Nat → α) (t : Tab α) (k : Nat) : α := (tabFind t k).getD (d k)

/-- The table without a key. -/
def tabErase {α : Type} (t : Tab α) (k : Nat) : Tab α := t.filter (fun p => p.1 != k)

/-- A pair put before the first greater key. -/
def tabInsert {α : Type} : Tab α → Nat → α → Tab α
  | [], k, v => [(k, v)]
  | (a, w) :: t, k, v => if k < a then (k, v) :: (a, w) :: t else (a, w) :: tabInsert t k v

/-- The table with a key set; a key set to its default is not listed. -/
def tabSet {α : Type} [DecidableEq α] (d : Nat → α) (t : Tab α) (k : Nat) (v : α) : Tab α :=
  if v = d k then tabErase t k else tabInsert (tabErase t k) k v

/-- Every listed value replaced, in canonical form. -/
def tabMap {α β : Type} [DecidableEq β] (d : Nat → β) (f : Nat → α → β) (t : Tab α) : Tab β :=
  t.foldl (fun r p => tabSet d r p.1 (f p.1 p.2)) []

/-- The keys rise strictly from `lo`. -/
def tabRising {α : Type} : Nat → Tab α → Bool
  | _, [] => true
  | lo, (a, _) :: t => decide (lo ≤ a) && tabRising (a + 1) t

/-- The canonical form. -/
def tabWf {α : Type} [DecidableEq α] (d : Nat → α) (t : Tab α) : Bool :=
  tabRising 0 t && t.all (fun p => !decide (p.2 = d p.1))

/-- Bytes written at rising addresses. -/
def tabWriteBytes (d : Nat → Byte) (t : Tab Byte) (a : Nat) : List Byte → Tab Byte
  | [] => t
  | b :: bs => tabWriteBytes d (tabSet d t a b) (a + 1) bs

/-- `n` bytes read at rising addresses. -/
def tabReadBytes (d : Nat → Byte) (t : Tab Byte) (a : Nat) : Nat → List Byte
  | 0 => []
  | n + 1 => tabGet d t a :: tabReadBytes d t (a + 1) n

/-- What an unwritten byte of the device's RAMs reads as (log entry 3). -/
def zeroByte (_ : Nat) : Byte := 0

end Sys2Proof.Machine
end

