-- ==== Sys2Proof/Machine/State.lean ====
section
/-! DEFINITION. The state of the block: every register, memory, queue, counter, mode and latch the spec gives the two dies, as plain data,
and the queue of the commands that wait. `State.reset` is the machine right after power-on. -/

namespace Sys2Proof.Machine

/-- The time base (R44-R57). Times are counted in 2^-56 ns, the unit of R46. -/
structure TimeBase where
  /-- network time, 2^-56 ns (R44) -/
  net : Nat := 0
  /-- anchored time, 2^-56 ns (R48) -/
  anch : Nat := 0
  /-- core clocks since the radio-die reset (R14) -/
  clk : Nat := 0
  /-- frequency term of RATE, 2^-40 (R46) -/
  freq : Int := 0
  /-- slew term of RATE, 2^-40 (R46) -/
  slew : Int := 0
  /-- phase offset the slew still has to remove, 2^-56 ns (R46, R56) -/
  slewLeft : Int := 0
  /-- OP of a step unit that applied and awaits its clock: 0 none, 1 SET, 2 STEP (R47) -/
  stepReady : Nat := 0
  /-- TAI seconds armed for the next PPS_IN edge (R55) -/
  armed : Option Nat := none
  /-- the count of seconds given to the last accepted edge (R55) -/
  ppsSec : Option Nat := none
  /-- network time, moved along with every step, and core clock of the last accepted edge (R55; log entry 135) -/
  ppsLast : Option (Int × Nat) := none
  /-- good intervals in a row, up to 3 (R55) -/
  ppsGood : Nat := 0
  /-- outliers in a row (R55) -/
  ppsOut : Nat := 0
  /-- PPS is qualified (R55) -/
  ppsQual : Bool := false
  /-- the offset network time - source time last seen of MOORING and of PPS, 2^-56 ns -/
  mrOffset : Int := 0
  ppsOffset : Int := 0
  /-- MOORING is qualified (R268) and the accuracy it carries, ns -/
  mrQual : Bool := false
  mrAcc : Nat := 0
  /-- starting bound E0 in ns and whether F is 0.5 ppm (R57) -/
  e0 : Nat := 0
  fHalf : Bool := true
  /-- core clock at which the lock, and at which the holdover, began -/
  lockClk : Nat := 0
  holdClk : Nat := 0
  /-- temperature at the start of the holdover and its largest change since, 0.25 degC -/
  holdTemp : Int := 0
  dTmax : Nat := 0
  /-- HOLDOVER_ALARM was raised in this holdover -/
  alarmed : Bool := false
  /-- the higher-priority source that waits out REVERT_HOLD: 0 none, 1 MOORING, 2 PPS, and the core clock at which it qualified (R56) -/
  candidate : Nat := 0
  candClk : Nat := 0
deriving DecidableEq, Repr

/-- One Lamp (R61-R68). -/
structure Lamp where
  /-- armed: a one-shot that has not fired, or an enabled periodic Lamp -/
  armed : Bool := false
  /-- the next scheduled start, network nanoseconds -/
  next : Nat := 0
  /-- the pulse in progress ends at this core clock -/
  pulseEnd : Option Nat := none
  /-- the polarity of the pulse in progress (R65) -/
  pol : Bool := false
  /-- the pulse in progress is the one of a one-shot Lamp (R64) -/
  oneShot : Bool := false
  /-- a new configuration has been applied over the pulse in progress (R65) -/
  cut : Bool := false
  /-- core clock + 1 of the last scheduled start, 0 for none: the boundary of a periodic Lamp (R27, R65) -/
  startClk : Nat := 0
deriving DecidableEq, Repr

/-- The Rhizome beside its registers (R278-R288). -/
structure Fabric where
  /-- last_fire of each channel, as core clock + 1; 0 is clear (R279) -/
  lastFire : Tab Nat := []
  /-- source events that reached an enabled channel through its gate: channel and clock -/
  arrivals : List (Nat × Nat) := []
  /-- events delivered to task inputs: task input and clock -/
  deliveries : List (Nat × Nat) := []
  /-- sources raised in the present clock (R278): source and clock -/
  raised : List (Nat × Nat) := []
  /-- core clock + 1 of the last task event that cleared SWGATE n (R283) -/
  swClear : Tab Nat := []
  /-- HOST_NOTIFY n busy with the event of this network time, 2^-56 ns, and step count (R283) -/
  notify : Tab (Option (Nat × Nat)) := []
  /-- the count WRAPS x 65,536 + FIRES at the last reading, and readings in a row at LOOP_THR (R288) -/
  lastCount : Tab Nat := []
  loopRun : Tab Nat := []
  /-- the core clock of the last reading of the loop watch (R288) -/
  watchClk : Option Nat := none
deriving DecidableEq, Repr

/-- One end of the barrier link (R306-R314). -/
structure LinkEnd where
  /-- messages not yet acknowledged, oldest first: type and payload -/
  q : List (Nat × List Byte) := []
  /-- SEQ of the oldest of them -/
  base : Nat := 0
  /-- how many of them have been sent -/
  sent : Nat := 0
  /-- times the oldest has been sent without an acknowledgement (R307), and the age of the machine at the last of them or since it is the
  oldest (R310) -/
  tries : Nat := 0
  since : Nat := 0
  /-- the age at which the die was last reset: causes of one clock are one reset (R475) -/
  resetAt : Option Nat := none
  /-- the age at which the last valid message arrived; of the host end also that at which the link began to train or went DOWN (R307) -/
  heard : Nat := 0
  train : Nat := 0
  /-- SEQ of the next message expected (R308) -/
  rxNext : Nat := 0
  /-- resets of this die since power-up, and the peer's as last reported (R309, R312) -/
  resets : Nat := 0
  peerResets : Option Nat := none
  /-- the XOFF bits in force: received by the radio end, set by the host end (R309, R314) -/
  xoff : Nat := 0
deriving DecidableEq, Repr

/-- A command that runs on this device and has answered PENDING (R334): its tag, opcode, target and origin, and the object it holds. -/
structure Pend where
  tag    : Nat
  opcode : Nat
  target : Nat
  /-- the device whose host posted it: 16 for this one -/
  origin : Nat
  /-- what it holds, by opcode (R336): a node address, a path, a block... -/
  obj    : Nat
  /-- bytes kept for its completion -/
  info   : List Byte
deriving DecidableEq, Repr

/-- A tag in use on the attached device (R333). -/
structure TagUse where
  tag     : Nat
  opcode  : Nat
  target  : Nat
  counter : Nat
  win     : Nat
  /-- the answer was PENDING: a completion follows -/
  pend    : Bool
  /-- the request was sent to the radio die -/
  radio   : Bool
deriving DecidableEq, Repr

/-- A decoder slot beside its state code, which CHNn_STATUS holds (R127, R139). -/
structure Slot where
  rxseq : Nat := 0
  mode : Nat := 0
  /-- stamp, network time, with its step count (R58, R69), and the anchored time latched in the same clock (R49) -/
  stamp : Nat := 0
  step : Nat := 0
  anch : Nat := 0
  rssi : BitVec 16 := 0
  snr : BitVec 16 := 0
  foff : BitVec 16 := 0
  /-- FLAGS of R140 -/
  flags : Word := 0
  related : Nat := 0
  /-- the header, once it has been checked (R169) -/
  header : Nat := 0
  /-- the core clock of the commit -/
  clk : Nat := 0
  /-- the channel's AGC value latched at the commit (R124), 0.25 dBm, and whether a later packet exceeded its headroom of 18 dB -/
  agc : BitVec 16 := 0
  clipped : Bool := false
  /-- a power step is recorded over this reception (R131), and the core clock at which it was -/
  stepSeen : Bool := false
  stepClk : Nat := 0
  /-- the core clock of the first recorded sample (R133) and the 1 KiB blocks of the hold region taken so far; 0 with no recording (R135) -/
  recClk : Nat := 0
  blocks : Nat := 0
  /-- committed as a shadow while a step was recorded over the other reception (R132) -/
  pendCapture : Bool := false
  /-- HELD and its live demodulation has failed its CRC (R133) -/
  liveFailed : Bool := false
  /-- the capturing reception has ended, and whether it ended OK, with its RXSEQ (R133) -/
  captorEnd : Option (Bool × Nat) := none
  /-- the re-decode follows a subtraction (R133) -/
  subtracted : Bool := false
deriving DecidableEq, Repr

/-- A receive record with its payload (R138, R139). -/
structure RxRec where
  ch : Nat
  slot : Nat
  mode : Nat
  header : Nat
  stamp : Nat
  step : Nat
  anch : Nat
  outcome : Nat
  flags : Word
  rssi : BitVec 16
  snr : BitVec 16
  foff : BitVec 16
  rxseq : Nat
  related : Nat
  payload : List Byte
  crc : Nat
  soft : List Byte
deriving DecidableEq, Repr

/-- A receive path beside its registers (R75-R87). -/
structure RxPath where
  /-- core clock of the last gain step, of the start of the present saturation, and of its last end -/
  lastStep : Nat := 0
  satSince : Option Nat := none
  unsatSince : Option Nat := none
  /-- core clock since which every health check has been clean -/
  cleanSince : Option Nat := none
  /-- temperature at the last calibration, 0.25 degC, and the draw that stands for its measured results, none before the first (R87) -/
  calTemp : Int := 0
  calDraw : Option Nat := none
  /-- the LNA is in protect mode (R105) -/
  protect : Bool := false
  /-- the cause for which the path is out of service without substitution (R80) -/
  outCause : Option Nat := none
deriving DecidableEq, Repr

/-- Path S beside its registers (R79-R83). -/
structure PathS where
  /-- core clock at which the present cause was raised, and whether the alignment is done (R81) -/
  since : Nat := 0
  aligned : Bool := false
  /-- the test it stands in for has ended (R82) -/
  testEnded : Bool := false
  /-- paths whose TEST cause waits to be presented again (R80), and paths that PATH_TEST has put under test (R372) -/
  waiting : List Nat := []
  test : List Nat := []
  /-- bands that are down, bit b for band b (R85) -/
  bandDown : Nat := 0
  /-- the bins of the last survey, and whether it was cut short (R83) -/
  bins : List Byte := []
  partialBins : Bool := false
  /-- frequencies a retune of band 0 and of band 1 waits to set, Hz (R88) -/
  retune : Tab (Option Nat) := []
  /-- core clock + 1 at which the serving paths of a band were last all blanked; 0 for never (R159) -/
  deaf : Tab Nat := []
  /-- the core clock from which the channels of a band detect again after a retune (R88) -/
  resume : Tab Nat := []
deriving DecidableEq, Repr

/-- A calibration entry of a synthesiser (R96); its trims are the free value of draw `draw` (R116). -/
structure CalEntry where
  valid : Bool := false
  stale : Bool := false
  /-- temperature at which it was taken, degC -/
  temp : Int := 0
  draw : Nat := 0
  /-- SYN0 and SYN1: the exact LO frequency it serves and the core clock of its last use -/
  freq : Nat := 0
  used : Nat := 0
deriving DecidableEq, Repr

/-- A synthesiser beside its registers (R93-R100). -/
structure Synth where
  table : Tab CalEntry := []
  /-- entries queued as idle-gap work, oldest request first (R99, R114) -/
  work : List Nat := []
  /-- the entry being refreshed (R99) -/
  refreshing : Option Nat := none
  /-- the frequency being acquired, Hz -/
  target : Nat := 0
  /-- the calibration in progress is the second attempt (R108), and the core clock at which the acquisition began -/
  retried : Bool := false
  since : Nat := 0
  /-- it was locked before the present refresh, and to this frequency -/
  before : Option Nat := none
deriving DecidableEq, Repr

/-- A transmit path beside its registers (R147-R157). -/
structure TxPath where
  /-- LO of the burst, Hz (R147) -/
  lo : Nat := 0
  /-- ramp lengths, passes and pending probes by 64 x mode + power class (R157) -/
  rampLen : Tab Nat := []
  passes : Tab Nat := []
  probes : Tab Bool := []
  /-- COEX_GNT was sampled as granted for the coming burst (R110) -/
  granted : Bool := false
  /-- core clock at which the first ramp-up of the last burst began, its ramp length in us, and at which its last ramp-down ended, none
  while it runs (R89, R105, R154) -/
  rampClk : Option Nat := none
  rampUs : Nat := 2
  endClk : Option Nat := none
deriving DecidableEq, Repr

/-- The coexistence balls as the other radio drives them, and the core clock of the last grant-out (R109, R112). -/
structure CoexIn where
  req : Bool := false
  pri : Bool := false
  gnt : Bool := false
  grantClk : Option Nat := none
deriving DecidableEq, Repr

/-- An operation-queue entry while it is armed or active, beside its registers (R220-R228). -/
structure OpRun where
  /-- the transmit path taken: 0 TX A, 1 TX B, 2 none yet -/
  path : Nat := 2
  /-- start time taken from a trigger with zero START registers: nanoseconds (R283) -/
  trigger : Option Nat := none
  /-- armed after its start, within its tolerance (R224) -/
  lateArm : Bool := false
  /-- overtaken by a step and released at this network time, ns (R67) -/
  released : Option Nat := none
  /-- its lock fell due: the path, ramp and plan are fixed (R103, R157) -/
  due : Bool := false
  /-- planned for the coming burst (R147) -/
  planned : Bool := false
  /-- held under R106, R110 or R148: 0 no, 1 for its synthesiser, 2 for a grant, 3 behind a burst -/
  held : Nat := 0
  /-- its assessment was clear (R159), and the preamble start it planned, ns -/
  clear : Bool := false
  plannedAt : Option Nat := none
  /-- backoff: tries so far and BE (R160) -/
  tries : Nat := 0
  be : Nat := 0
  /-- ramp length in us, whether it is a probe, the active power code (R149, R157) -/
  ramp : Nat := 2
  probe : Bool := false
  power : Nat := 0
  /-- the instant from which the lateness tolerance is counted, where it is not the start: the preamble start that a clear assessment
  after backoff planned (R148), ns -/
  base : Option Nat := none
  /-- the carrier radiates, its preamble stamp and step count (R58), and the core clocks of that instant and of the end of its frame -/
  radiating : Bool := false
  stamp : Nat := 0
  stampStep : Nat := 0
  startClk : Nat := 0
  endClk : Nat := 0
  /-- an RX_WINDOW has closed (R222), at the time `stamp` -/
  closed : Bool := false
  /-- a match or an outcome that waits: RXSEQ and stamp of the match -/
  found : Option (Nat × Nat) := none
  /-- a beacon that has been filled: its key slot, the key and its FCNT (R189) -/
  fill : Option (Nat × List Byte × Nat) := none
  /-- the last run of the entry radiated its frame to its end (R222) -/
  sent : Bool := false
deriving DecidableEq, Repr

/-- What a device owner took an operation-queue entry for. -/
inductive OpUse where
  | none
  /-- a beacon on BEACON_CH, a rescue copy of it (R196), a lighthouse beacon -/
  | beacon
  | rescueBeacon
  | lighthouse
  /-- a BCAST_SEND, with its tag and key slot -/
  | broadcast (tag key fcnt : Nat)
  /-- the window of an event of a context -/
  | window (ctx k : Nat)
  /-- an immediate acknowledgement -/
  | ackFrame
  /-- a downlink of a context, and the window for its acknowledgement (R210) -/
  | downlink (ctx : Nat)
  | ackWindow (ctx : Nat)
  /-- a join response, with the tag of its NODE_ADD -/
  | joinResponse (tag : Nat)
deriving DecidableEq, Repr

/-- The Keeper's scheduling state beside the OPQ registers (R191-R196, R216-R218). -/
structure Mac where
  /-- SLOT_US in force and the accepted value that waits for a second boundary (R194) -/
  slotUs : Nat := 10000
  slotNext : Option Nat := none
  /-- the beacon interval in force, s (R194) -/
  bi : Nat := 16
  /-- a new interval that waits, and the end of the slotframe in which it was written, s (R194) -/
  biNext : Option (Nat × Nat) := none
  /-- BEACON_EN as it stood at the start of the slotframe (R192) -/
  beaconOn : Bool := false
  /-- the EXTRA bytes of the beacons (R188) -/
  extra : List Byte := []
  /-- relay mode: slot length, interval and next window of the upstream learnt from its beacons (R217), ns -/
  upSlotUs : Nat := 0
  upBi : Nat := 0
  upNext : Nat := 0
deriving DecidableEq, Repr

/-- A frame as a transmit path radiates it (R146, R166-R168): `stamp` is the instant its first symbol leaves the antenna, `enters` that at
which it enters the path (R58, R153), `devs` the deviation of each symbol, Hz. -/
structure AirFrame where
  tx : Nat
  freq : Nat
  mode : Nat
  power : Nat
  stamp : Nat
  enters : Nat
  preamble : Nat
  sync : Word
  syncLen : Nat
  header : Nat
  payload : List Byte
  bits : List Bool
  devs : List Int
deriving DecidableEq, Repr

/-- A register-access message that waits in a POLL (R343, R344): who asked and whether it is critical, its items, how many are done, the
values of those, and the core clock at which LIMIT has passed. -/
structure RegRun where
  win     : Nat
  tag     : Nat
  opcode  : Nat
  target  : Nat
  counter : Nat
  origin  : Nat
  items   : List Byte
  done    : Nat
  values  : List Byte
  limit   : Nat
deriving DecidableEq, Repr

/-- The Keeper's own bookkeeping for Eskel (R333-R348). -/
structure Keeper where
  /-- requests delivered and not yet run, oldest first: window and message -/
  reqs : List (Nat × List Byte) := []
  /-- commands that answered PENDING -/
  pend : List Pend := []
  /-- the register-access message that waits in a POLL -/
  run : Option RegRun := none
  /-- COUNTER of the next event and of the next uplink record (R348) -/
  evSeq : Nat := 0
  upSeq : Nat := 0
  /-- events that wait while EVENT is held, oldest first, and the number dropped since (R314) -/
  evHold : List (List Byte) := []
  evLost : Nat := 0
  /-- uplink records that wait (R18), oldest first -/
  upHold : List (List Byte) := []
  /-- the trouble log: the entries held, oldest first, 32 bytes each (R450, R451) -/
  log : List (List Byte) := []
  /-- the index of the next entry (R450) -/
  logNext : Nat := 0
  /-- the core clock at which the Keeper started (R456) -/
  startClk : Nat := 0
  /-- the watchdog runs; the core clock of the last accepted kick or of the start, and the configuration in force (R446, R448) -/
  wdtOn : Bool := false
  kickClk : Nat := 0
  /-- the warning of this count is written (R447) -/
  warned : Bool := false
  wdtCfg : Word := 0x0A3203E8
  /-- alarms not yet armed again: sensors by number, rails by 16 + number (R443) -/
  alarms : List Nat := []
  /-- the core clock at which the running self-test started (R488) -/
  bistClk : Nat := 0
  /-- units out of service that failed their test: 256 x block + index (R488) -/
  failed : List Nat := []
  /-- the core clock of the last AVS step (R424) -/
  avsClk : Nat := 0
  /-- a transmit loopback that waits for its slot boundary: 0 off, 1 TX A, 2 TX B (R492) -/
  loopNext : Option Nat := none
  /-- a test tone ends at this core clock (R491) -/
  toneEnd : Option Nat := none
deriving DecidableEq, Repr

/-- The Tender and the mailbox beside their registers (R317-R323, R333-R342, R454). -/
structure Tender where
  /-- tags in use (R333) -/
  tags : List TagUse := []
  /-- LAST and P of R339, R340 -/
  last : Nat := 0
  persisted : Nat := 0
  /-- requests the host die serves, oldest first: window and message (R317) -/
  reqs : List (Nat × List Byte) := []
  /-- the holds of the four classes ANSWER, EVENT, UPLINK, LOG, oldest first (R320) -/
  hold0 : List (List Byte) := []
  hold1 : List (List Byte) := []
  hold2 : List (List Byte) := []
  hold3 : List (List Byte) := []
  /-- MSEQ of each ring (R319) -/
  mseq : Tab Nat := []
  /-- the SPI response window 14 or 15 being filled, its bytes so far, and the rest of a message that did not fit (R321) -/
  spiWin : Nat := 14
  spiFill : Nat := 0
  /-- the age of the machine at the first entry of the window being filled (R321) -/
  spiAge : Nat := 0
  spiRest : List Byte := []
  /-- posted writes to host memory, oldest first: address and bytes (R315) -/
  posted : List (Nat × List Byte) := []
  /-- Bus Master Enable and MSI-X Enable of the configuration space, which no command of the table writes (log entry 5) -/
  busMaster : Bool := true
  msixEnable : Bool := true
  /-- the mirror of the trouble log and the snapshot, oldest first (R454) -/
  mirror : List (List Byte) := []
  snapshot : Option (List (List Byte)) := none
  /-- the latest NET_TIME: seconds, ns, step, tstate, and whether one has arrived (R309) -/
  netS : Nat := 0
  netNs : Nat := 0
  netStep : Nat := 0
  netState : Nat := 0
  netSeen : Bool := false
  /-- radio ready has been reported since the last radio reset (R342) -/
  radioReady : Bool := false
  /-- a RADIO_RESET waits for the link to come UP (R313) -/
  resetHeld : Bool := false
  /-- sensors 6 and 7 and rails 8 to 12, their limits as in SNS_TLIM and SNS_VLIM, and the alarms not yet armed again: sensors by number,
  rails by 16 + number (R442, R443, R445) -/
  temps : Tab Nat := []
  rails : Tab Nat := []
  tlims : Tab (Option Word) := []
  vlims : Tab (Option Word) := []
  alarms : List Nat := []
  /-- radio-die resets seen since host-die power-up, and the age of the machine at the host-die reset (R356) -/
  radioResets : Nat := 0
  start : Nat := 0
  /-- POWER_STATE commands the Tender serves by WAKE, oldest first: the state requested, and whether it leaves OFF (R433, R435) -/
  wakes : List (TagUse × Nat × Bool) := []
  /-- those from OFF whose rails are up: they complete at RADIO_READY, or once the radio die shows the state requested (R435) -/
  wakeWait : List (TagUse × Nat) := []
deriving DecidableEq, Repr

/-- A code word of the flash that is not blank (R388, R391): its 16 bytes, or, for one whose program or erase was cut short (R393), the
draw of the free value that it reads as. -/
structure FlashWord where
  data : List Byte
  cut : Option Nat := none
deriving DecidableEq, Repr

/-- The flash and its controller beside the FLC registers (R387-R401). -/
structure Flash where
  /-- the code words by address / 16; unlisted ones are blank -/
  words : Tab (Option FlashWord) := []
  /-- the operation in progress: 0 none, 1 program, 2 erase, 3 blank check -/
  op : Nat := 0
  /-- the sector of the erase, and that of the blank check -/
  sector : Nat := 0
  checkSec : Nat := 0
  /-- the age of the machine at the start of the operation, or at the resume of an erase, and the erase time that was then left, in core
  clocks (R391, R394, R395, R397) -/
  opAge : Nat := 0
  left : Nat := 0
  /-- a read held by a running erase: address and bits in error (R394) -/
  heldRead : Option (BitVec 24 × Fin 4) := none
  /-- the sector was erased and awaits its blank check, and how often it has been erased again (R397) -/
  erased : Bool := false
  again : Nat := 0
  /-- words reported by FLASH_EARLY_WARN, oldest first (R390) -/
  warned : List Nat := []
  /-- the bytes that the last read returned -/
  read : List Byte := []
deriving DecidableEq, Repr

/-- A core settings record (R415). -/
structure CoreRec where
  cseq : Nat
  data : List Byte
deriving DecidableEq, Repr

/-- A settings bank beside the header word that the flash holds (R415): the registers SETTINGS_SAVE persisted and the core items: 0 to 255
the key slots, 256 the command counter, 257 the chain configuration. -/
structure SetBank where
  valid : Bool := false
  format : Nat := 0
  seq : Nat := 0
  config : Option (List (Nat × Word)) := none
  /-- the EXTRA bytes of the beacon configuration -/
  extra : List Byte := []
  core : Tab (Option CoreRec) := []
deriving DecidableEq, Repr

/-- The settings region (R415-R417). -/
structure Settings where
  banks : Tab SetBank := []
  active : Nat := 0
  /-- a bank kept untouched after a format change (R416) -/
  kept : Option Nat := none
  /-- the commit generation of the image that caused that change (R416) -/
  keptGen : Nat := 0
  /-- SETTINGS_DEFAULT waits for the next boot (R356) -/
  resetNext : Bool := false
  nextCseq : Nat := 0
  /-- the operator command key in the identity region, once it has been replaced (R304, R341) -/
  ock : Option (List Byte) := none
deriving DecidableEq, Repr

/-- Firmware update and boot on the host die (R402-R413, R474-R484). -/
structure Boot where
  /-- what the Tender runs: 0 nothing (reset, ROM), 1 the relay firmware, 2 the recovery loader, 3 halted -/
  mode : Nat := 0
  /-- the running slot: 0 A, 1 B -/
  slot : Nat := 0
  /-- the trial timer is armed (R412) -/
  trial : Bool := false
  /-- the age at which it was armed -/
  trialAge : Nat := 0
  /-- an update session is open, the sectors it has erased, NEXT and the image key (R407, R408) -/
  session : Bool := false
  entered : List Nat := []
  next : Nat := 0
  key : List Byte := []
  /-- a slot was rejected since the last UPD_BEGIN (R413) -/
  fellBack : Bool := false
  /-- the delayed action after an answer: 0 none, 1 to 3 the scope of SYS_RESET, 4 the slot switch of UPD_COMMIT (R356, R409) -/
  due : Nat := 0
  dueAge : Nat := 0
  /-- radio-die boot attempts that failed, and whether the Tender has stopped (R483) -/
  attempts : Nat := 0
  stopped : Bool := false
  /-- START_KEEPER has been sent and RADIO_READY not yet reported, and the age at which it was sent or, before it, at which the relay
  firmware started (R483) -/
  starting : Bool := false
  startAge : Nat := 0
  /-- STANDBY was commanded and waits for the owed answers (R437) -/
  standby : Bool := false
  /-- a host-island brown-out not yet reported (R420) -/
  brown : Bool := false
  /-- the latest stage the radio die reported since its reset, and the age at which radio ready was reported (R412, R479) -/
  stage : Nat := 0
  readyAge : Nat := 0
  /-- a settings reset to report once the Tender runs: the old and new formats (R416) -/
  formats : Option (Nat × Nat) := none
deriving DecidableEq, Repr

/-- The power controller of the radio die and its requests, beside the PWR registers (R418-R435). -/
structure Power where
  /-- the state at the start of the transition in progress -/
  start : Nat := 0
  /-- the POWER_STATE commands of the transition in progress and of the pending request -/
  asker : Option Pend := none
  nextAsker : Option Pend := none
  /-- whether they came as a WAKE, whose outcome BOOT_STATUS reports (R435) -/
  report : Bool := false
  nextReport : Bool := false
  /-- the state to enter after a wake to RUN (R431, R435) -/
  second : Option Nat := none
  /-- OFF was entered by a power fault (R423); the radio domain is unpowered (R9) -/
  fault : Bool := false
  dead : Bool := false
  /-- an island brown-out not yet reported; the retained set was lost by it (R420) -/
  brown : Bool := false
  lostSet : Bool := false
  /-- the age at which the first rail is lowered on the way to HOLD or OFF (R431) -/
  ponrDue : Option Nat := none
  /-- the age at which the transition in progress began (R429), and that at which HOLD was reached (R433) -/
  since : Nat := 0
  holdAge : Nat := 0
  /-- VDD_CORE and AVS_EN as they were before WATCH (R424) -/
  vcore : Nat := 0x352
  avs : Bool := true
deriving DecidableEq, Repr

/-- The real-time clock beside the RTC registers, which hold the running time (R374-R384). -/
structure Rtc where
  /-- the shadow (R377) -/
  time : Word := 0
  date : Word := 0
  /-- the crystal has stopped (R382) -/
  stopped : Bool := false
  /-- an RTC_SYNC that waits for the next NET_TIME, with its UTC_OFS (R384) -/
  sync : Option (TagUse × Int) := none
  /-- the age of the machine at which the tick after a DIV_RESET comes (R377) -/
  tickDue : Option Nat := none
  /-- RTC_ALARM and RTC_SWITCHOVER owed to the host die's next ON (R380, R383) -/
  owedAlarm : Bool := false
  owedSwitch : Bool := false
deriving DecidableEq, Repr

/-- One physical copy of a tag page or of the configuration record (R468): its data and SEQ; `valid` is the check of its commit word. -/
structure TagCopy where
  valid : Bool := false
  seq : Nat := 0
  data : List Byte := []
deriving DecidableEq, Repr

/-- What a command of the tag writes: 1 COMMIT or WRITE_PAGE, 2 KEY_LOAD, 3 CFG_STORE or SET_CONFIG (R464, R470-R472), to a page (64 is the
record, of which `data` is the part it replaces); the machine's age at the command and at the start of the write (R469, R471). -/
structure TagWrite where
  cmd : Nat
  page : Nat
  data : List Byte
  asked : Nat := 0
  since : Nat := 0
deriving DecidableEq, Repr

/-- The commissioning tag beside the TAG registers (R458-R473). -/
structure Tag where
  /-- 0 POWER_OFF, 1 IDLE, 2 READY, 3 ACTIVE, 4 HALT, 5 PROTOCOL (R459) -/
  st : Nat := 0
  /-- READY or ACTIVE was entered by WUPA from HALT -/
  fromHalt : Bool := false
  /-- the record the session loaded: ACCESS, QUIET_S, ATTR 16, TAK 16 (R463, R468) -/
  cfg : List Byte := []
  /-- a tag command completed OK in this session, and TAG_FIELD was raised for this field -/
  served : Bool := false
  raised : Bool := false
  /-- Rt of an AUTH_BEGIN whose AUTH_FINISH must come next (R465) -/
  rt : Option (List Byte) := none
  /-- the session key and the message counters to and from the tag (R466) -/
  sk : List Byte := []
  ctrIn : Nat := 0
  ctrOut : Nat := 0
  /-- the quiet latch (R462), which the TAG_STATUS bit shows; the ages at which its time ends and, with the field absent, at which its
  capacitor drops -/
  quiet : Bool := false
  quietEnd : Nat := 0
  quietDrop : Nat := 0
  /-- the age until which TAG_FD stays high after the field was lost (R461) -/
  fdLow : Nat := 0
  /-- the copies by 2 x page + copy; page 64 is the configuration record -/
  copies : Tab TagCopy := []
  /-- a field write and a host write in progress, and a host or a field write that waits (R471) -/
  fieldWrite : Option TagWrite := none
  hostWrite : Option TagWrite := none
  held : Option TagWrite := none
  fieldWait : Option TagWrite := none
  /-- the host's page buffer (R470) -/
  buf : List Byte := []
  /-- what the tag sent to the reader, oldest first -/
  sent : List (List Byte) := []
deriving DecidableEq, Repr

/-- The two TAPs (R4, R486, R487): the instruction selected: 0 IDCODE (also after a TAP reset), 1 BYPASS, 2 SAMPLE/PRELOAD, 3 EXTEST; and
the data register it puts between TDI and TDO, as captured, the bit nearest TDO first. -/
structure Taps where
  radio : Nat := 0
  host : Nat := 0
  radioDr : List Bool := []
  hostDr : List Bool := []
deriving DecidableEq, Repr

/-- A key slot (R296, R297). -/
structure KeySlot where
  valid : Bool := false
  /-- 256 bits -/
  big : Bool := false
  usage : Nat := 0
  gen : Nat := 0
  key : List Byte := []
deriving DecidableEq, Repr

/-- A request that holds an entry of the cipher queue (R291): its submitter (0 to 15 the Fronds, 16 the Keeper, 17 the host port), its
descriptor, the core it runs on, the key bound at its start, its status once it has finished, and the core clock at which it was
submitted, started or ended (R290, R292). -/
structure CphReq where
  sub    : Nat
  desc   : List Byte
  core   : Option Nat := none
  key    : List Byte := []
  result : Option Nat := none
  clk    : Nat := 0
deriving DecidableEq, Repr

/-- A key change that waits for the requests running under its key (R298): the key code, and the new slot or the invalid one. -/
structure KeyChange where
  code : Nat
  slot : KeySlot
deriving DecidableEq, Repr

/-- The radio-die cipher engine beside its registers (R290-R302). -/
structure Cipher where
  slots : Tab KeySlot := []
  /-- the requests in the queue, in order of submission -/
  reqs : List CphReq := []
  /-- submissions that wait in hardware for an entry, oldest first (R291) -/
  waiting : List (Nat × List Byte) := []
  /-- the submitter the round robin offers a core to next -/
  turn : Nat := 0
  changes : List KeyChange := []
  /-- host results not yet read: status and RTAG (R301) -/
  results : List (Nat × Nat) := []
  /-- next FCNT of the frames the device sends under each network key, by the key's bytes (R181) -/
  fcnt : List (List Byte × Nat) := []
  /-- lighthouse beacons radiated since the radio-die reset (R526) -/
  lighthouses : Nat := 0
deriving DecidableEq, Repr

/-- A node context (R232), with the Frond that owns it (R238). -/
structure Ctx where
  addr : Nat := 0
  mstate : Nat := 0
  role : Nat := 0
  transit : Bool := false
  resync : Bool := false
  eui : Nat := 0
  nid : Nat := 0
  anchorSlot : Nat := 0
  anchorS : Nat := 0
  ci : Nat := 0
  hop : Nat := 0
  chmap : Nat := 0
  k : Nat := 0
  u0 : Nat := 0
  phy : Nat := 0
  pre : Nat := 0
  tempOfs : Nat := 0
  supTo : Nat := 0
  txOfs : Nat := 0
  tlS : Nat := 0
  tlNs : Nat := 0
  jLast : Nat := 0
  temp0 : Int := 0
  tempLast : Int := 0
  f : Int := 0
  c : Int := 0
  /-- empty while the context holds no key -/
  key : List Byte := []
  upFcnt : Nat := 0
  upWin : Nat := 0
  dnFcnt : Nat := 0
  dnSeq : Nat := 0
  dlPend : Nat := 0
  missed : Nat := 0
  upCount : Nat := 0
  oow : Nat := 0
  rssiLast : Int := 0
  marginOwn : Int := 0
  dlTries : Nat := 0
  homeDev : Nat := 0
  replDev : Nat := 0
  lastS : Nat := 0
  chalDev : Nat := 0
  chalRun : Nat := 0
  chalValid : Bool := false
  chalMargin : Int := 0
  homeSince : Nat := 0
  gen : Nat := 0
  /-- the owning Frond of the directory -/
  frond : Nat := 0
deriving DecidableEq, Repr

/-- A downlink payload that waits at the home of its node (R20, R201, R264, R363). -/
structure Downlink where
  tag : Nat
  target : Nat
  /-- the device whose host posted it: 16 for this one -/
  origin : Nat
  /-- ENC, MIC64 and CMD of DL_SEND -/
  flags : Nat
  /-- the core clock at which its lifetime ends -/
  expires : Option Nat
  data : List Byte
  /-- sends that radiated in full -/
  tries : Nat := 0
  /-- sealed: FCNT, SEQ, PENDING and the frame -/
  fcnt : Option Nat := none
  seq : Nat := 0
  more : Bool := false
  frame : List Byte := []
  /-- preamble stamp of the last send, ns, and its step count -/
  stamp : Nat := 0
  step : Nat := 0
deriving DecidableEq, Repr

/-- A NODE_CONN in progress (R363): its frame travels as the downlink `dl`. -/
structure ConnChange where
  what : Nat
  chmap : Nat
  hop : Nat
  applyK : Nat
  acked : Bool := false
  dl : Downlink
deriving DecidableEq, Repr

/-- The window of a node's event: event number, opening and length in anchored ns (R208), and whether it has no entry (R226). -/
structure EventWin where
  k : Nat
  opens : Nat
  dur : Nat
  internal : Bool
deriving DecidableEq, Repr

/-- A hand-over decided by this home (R245): the new home, the first event it runs, and whether FINAL was sent. -/
structure HandOver where
  dest : Nat
  k : Nat
  sent : Bool := false
  /-- the core clock at which FINAL was sent -/
  clk : Nat := 0
deriving DecidableEq, Repr

/-- The rescue of an event that this home has missed (R254): copies considered, the sum so far with its form (mode, FEC, length), the
first contributing device, and the segments of copies that are not complete. -/
structure RescueRun where
  k : Nat
  count : Nat := 0
  sum : List Int := []
  form : Option (Nat × Bool × Nat) := none
  /-- the core clock of RESCUE_WANT, and whether a copy has passed its CRC-32 -/
  clk : Nat := 0
  passed : Bool := false
  first : Option Nat := none
  parts : List (Nat × List Byte) := []
deriving DecidableEq, Repr

/-- What a Frond keeps for a node beside its context. -/
structure NodeRun where
  dls : List Downlink := []
  conn : Option ConnChange := none
  win : Option EventWin := none
  /-- the window of an acknowledgement that found no entry (R210, R226) -/
  ackWin : Option EventWin := none
  hand : Option HandOver := none
  /-- kept receptions of the windows followed (R252, R254): event and record -/
  kept : List (Nat × RxRec) := []
  rescue : Option RescueRun := none
  /-- a frame of the node was accepted in this margin period (R242) -/
  heard : Bool := false
  /-- MARGIN_OWN has had its first sample on this device (R241) -/
  sampled : Bool := false
  /-- devices that hold a guest copy from this home (R243) -/
  guests : List Nat := []
  /-- the downlink counter reserved at the replica (R248) -/
  reserve : Nat := 0
  /-- downlink frames sent in the present event (R201) -/
  burst : Nat := 0
  /-- end of the last downlink sent, network ns, and the channel, mode and sync length of the exchange -/
  endNs : Nat := 0
  exCh : Nat := 0
  /-- the hold bound and the core clock at t_last (R208) -/
  obsBound : Nat := 0
  obsClk : Nat := 0
  /-- MSTATE before the node was LOST -/
  mstateWas : Nat := 0
deriving DecidableEq, Repr

/-- A frame whose MIC check is under way (R237): the record, the context that owns it, or what else it is. -/
inductive MicKind where
  | node (ctx : Nat)
  | join
  | upstream
  /-- the inner frame of a relay frame (R184) -/
  | inner (ctx : Nat)
deriving DecidableEq, Repr

structure MicWait where
  rx : RxRec
  /-- the MAC frame to check: the payload, or the inner frame -/
  bytes : List Byte
  kind : MicKind
  /-- the first contributing device of a rescued frame -/
  rescued : Option Nat := none
deriving DecidableEq, Repr

/-- An immediate acknowledgement that is due (R176). -/
structure AckDue where
  ctx : Nat
  ch : Nat
  mode : Nat
  fec : Bool
  aseq : Nat
  /-- its first preamble symbol, network ns -/
  start : Nat
deriving DecidableEq, Repr

/-- A join request heard (R244): reports by device, and this device's own copy with its decrypted bytes. -/
structure JoinHeard where
  eui : Nat
  /-- the core clock of the first report -/
  clk : Nat := 0
  reports : List (Nat × Int) := []
  own : Option (RxRec × List Byte × List Byte) := none
deriving DecidableEq, Repr

/-- A NODE_ADD that waits for its join request (R362). -/
structure JoinWait where
  tag : Nat
  ctx : Nat
  eui : Nat
  jkey : Nat
  /-- the core clock at which WAIT ends -/
  expires : Option Nat
  /-- a response is on its way -/
  answering : Bool := false
deriving DecidableEq, Repr

/-- What the Keeper and the Fronds keep for the node space beside the contexts. -/
structure NodeSpace where
  runs : Tab NodeRun := []
  mics : List MicWait := []
  acks : List AckDue := []
  /-- the heard table, oldest first: address, mode, margin in quarter decibels (R235) -/
  heard : List (Nat × Nat × Int) := []
  joins : List JoinHeard := []
  waits : List JoinWait := []
  /-- EUIs whose join request a device delivered: EUI, that device, and the core clock (R244, R362) -/
  delivered : List (Nat × Nat × Nat) := []
  /-- consecutive windows of each Frond above REBAL_THR (R239); the core clock at which the present window began -/
  loadRuns : Tab Nat := []
  loadClk : Nat := 0
  /-- the core clock of the last margin reports (R242) -/
  marginClk : Nat := 0
  /-- contexts to be moved to another Frond (R239): context and destination; the core clock from which the 10 ms of R240 run -/
  moves : List (Nat × Nat) := []
  moveClk : Nat := 0
  /-- FINALs that came before their CONTEXT (R245): address, K, GEN and the old home -/
  finals : List (Nat × Nat × Nat × Nat) := []
  /-- ABANDONED records counted and dropped by the Fronds (R138) -/
  abandoned : Nat := 0
  /-- contexts lost with their bank and not yet restored: index, address, role (R251) -/
  lost : List (Nat × Nat × Nat) := []
  /-- the core clock at which the last bank was lost (R430) -/
  lostClk : Nat := 0
  /-- node commands that wait for the end of a hand-over (R246): node, window and message -/
  parked : List (Nat × Nat × List Byte) := []
deriving DecidableEq, Repr

/-- A Mooring frame without its link fields: TYPE, DST, SRC, payload (R261). -/
structure MrMsg where
  typ : Nat
  dst : Nat
  src : Nat
  payload : List Byte
deriving DecidableEq, Repr

/-- One direction of an acknowledged class on a port (R263). -/
structure MrClass where
  /-- frames not yet acknowledged, oldest first, SEQ of the oldest, how many have been sent, and how often the oldest was sent again -/
  q : List MrMsg := []
  base : Nat := 0
  sent : Nat := 0
  tries : Nat := 0
  /-- SEQ of the next frame expected -/
  rxNext : Nat := 0
  /-- the core clock from which the 200 us of the oldest frame count (R263) -/
  since : Nat := 0
deriving DecidableEq, Repr

/-- A Mooring port beside its registers (R257-R277). -/
structure MrPort where
  cls : Tab MrClass := []
  /-- SEQ of the classes that are not acknowledged -/
  seq0 : Nat := 0
  seq3 : Nat := 0
  /-- the rate under trial (R259, R260) -/
  trial : Nat := 0
  /-- the attempt has failed and its random wait runs (R259) -/
  waiting : Bool := false
  /-- the core clock of detection or of the retraining from EQUALISE, and whether it is the latter; the core clock at which the phase or
  trial began; MRx_CFG as the training took it (R259, R260, R275) -/
  t0 : Nat := 0
  retrain : Bool := false
  phaseClk : Nat := 0
  cfg : Word := 0
  /-- the core clock at which the port came UP; uncorrectable codewords counted: core clock and number (R260) -/
  upClk : Nat := 0
  uncorr : List (Nat × Nat) := []
  /-- the core clock of the last marker sent (R265) -/
  markClk : Option Nat := none
  /-- EUI-64 of the peer -/
  peerEui : Nat := 0
  /-- MSEQ of the next marker; the departures of the last 16 markers, in 2^-16 ns; the last peer marker and its arrival (R265) -/
  mseq : Nat := 0
  marks : List (Nat × Nat) := []
  peerMark : Option (Nat × Nat) := none
  /-- the last 16 delays, 2^-16 ns, newest first; exchanges in a row that are good, and that are missing or outliers (R267, R268) -/
  delays : List Int := []
  good : Nat := 0
  bad : Nat := 0
deriving DecidableEq, Repr

/-- What the HELLO of a device said (R269). -/
structure MrPeer where
  eui : Nat := 0
  prio : Nat := 0
  portE : Nat := 0
  portW : Nat := 0
  neighE : Nat := 255
  neighW : Nat := 255
  tstate : Nat := 0
  root : Nat := 0
  /-- the core clock at which the device became unreachable (R249), and that of its last HELLO (R269) -/
  lost : Nat := 0
  heard : Nat := 0
deriving DecidableEq, Repr

/-- A Mooring frame handed to a line (R261, R262): port, CLASS, SEQ, ACK, the frame, and the core clock at which it starts. -/
structure MrOut where
  port : Nat
  cls : Nat
  seq : Nat
  ack : Nat
  msg : MrMsg
  start : Nat := 0
deriving DecidableEq, Repr

/-- A frame held for an unreachable destination (R272): CLASS, frame, and the core clock since which it is held. -/
structure MrHeld where
  cls : Nat
  msg : MrMsg
  since : Nat
deriving DecidableEq, Repr

/-- A request of this device's host that runs on other devices (R332, R334): the devices that have not answered, and the answers: device,
status and payload. `node` marks one sent out to find the home of its node (R246). -/
structure Ask where
  tag : Nat
  opcode : Nat
  target : Nat
  node : Bool
  waits : List Nat
  results : List (Nat × Nat × List Byte) := []
deriving DecidableEq, Repr

/-- The chain as this device sees it (R261-R273). -/
structure Chain where
  ports : Tab MrPort := []
  peers : Tab MrPeer := []
  /-- the next BSEQ, and the broadcasts already forwarded: source and BSEQ, the last 64 of each source (log entry 44) -/
  bseq : Nat := 0
  seen : List (Nat × Nat) := []
  /-- frames held for unreachable destinations, oldest first (R272) -/
  held : List MrHeld := []
  /-- frames handed to the lines, those of a port in the order they leave it -/
  out : List MrOut := []
  /-- the core clock of the last HELLO sent (R269) -/
  helloClk : Option Nat := none
  /-- forwarded requests executed here (R264): origin, tag, core clock, and the answer once given -/
  fwd : List (Nat × Nat × Nat × Option (List Byte)) := []
  /-- requests this device forwarded that await answers -/
  asked : List Ask := []
deriving DecidableEq, Repr

/-- The machine. The groups follow the dies; `pending` is the queue of waiting commands. -/
structure State where
  /-- the commands that wait, first in first out -/
  pending : List Instr := []
  /-- the model's own counter of free values drawn (log entry 2) -/
  free : Nat := 0
  /-- the word that the last read command returned (R23), an output -/
  lastRead : Word := 0
  /-- the radio-die registers, by canonical offset; unlisted ones read their reset value -/
  reg : Tab Word := []
  /-- written shadows not yet applied (R30): the shadow of an unlisted register equals its active copy -/
  shadow : Tab (Option Word) := []
  /-- high words latched by a read of their low word (R26) -/
  latch : Tab (Option Word) := []
  /-- the pending guarded value of the radio die: register offset and value (R34) -/
  guard : Option (Nat × Word) := none
  ntb : TimeBase := {}
  lamps : Tab Lamp := []
  /-- the times stored by CAP0 to CAP4 and by EVF_TS0 to EVF_TS3: network time and step count (R60, R283) -/
  caps : Tab (Nat × Nat) := []
  stamps : Tab (Nat × Nat) := []
  evf : Fabric := {}
  /-- the four paths and path S (R70-R89) -/
  paths : Tab RxPath := []
  pathS : PathS := {}
  /-- the decoder slots: 2 x channel + slot (R127) -/
  slots : Tab Slot := []
  /-- the live counters: 16 x channel + counter (R141) -/
  live : Tab Word := []
  /-- the AGC value of each channel, 0.25 dBm (R124), and the 20 us interval + 1 to which CHNn_ENERGY belongs (R158) -/
  agc : Tab (BitVec 16) := []
  energyAt : Tab Nat := []
  /-- receive records on their way to the node directory, oldest first (R138) -/
  intake : List RxRec := []
  syns : Tab Synth := []
  txs : Tab TxPath := []
  ops : Tab OpRun := []
  coexIn : CoexIn := {}
  /-- what each device-owned entry was taken for -/
  uses : Tab OpUse := []
  mac : Mac := {}
  /-- the packet and soft-symbol buffer (R10, R220) -/
  pkt : Tab Byte := []
  /-- the frames radiated, oldest first -/
  air : List AirFrame := []
  cipher : Cipher := {}
  /-- the context store (R231): unlisted slots are FREE -/
  ctx : Tab Ctx := []
  nodes : NodeSpace := {}
  chain : Chain := {}
  linkR : LinkEnd := {}
  keeper : Keeper := {}
  /-- the host-die registers, by canonical offset -/
  hreg : Tab Word := []
  hlatch : Tab (Option Word) := []
  /-- the registers of the two dies as the present core clock found them: a flag that hardware has set in it is not among them (R25) -/
  regWas : Tab Word := []
  hregWas : Tab Word := []
  hguard : Option (Nat × Word) := none
  /-- the machine's age at the pending value writes of the two dies (R34) -/
  guardAge : Nat := 0
  hguardAge : Nat := 0
  /-- the request and response windows (R41) -/
  reqMem : Tab Byte := []
  rspMem : Tab Byte := []
  linkH : LinkEnd := {}
  tender : Tender := {}
  flash : Flash := {}
  settings : Settings := {}
  boot : Boot := {}
  /-- core-clock periods since power-on: the time line that the dies share (log entry 23) -/
  age : Nat := 0
  /-- the Keeper and Frond memories as the boot loads them: 2^21 x target + offset (R478) -/
  image : Tab Byte := []
  power : Power := {}
  rtc : Rtc := {}
  tag : Tag := {}
  taps : Taps := {}
deriving DecidableEq, Repr

/-- Why the block stops. -/
inductive Fault where
  /-- A command names an address that does not exist: outside R39 on the radio die, outside BAR0 on the host die. Raised by the register
  commands. Safe: the hardware has no such access. -/
  | noSuchAddress (addr : Word)
deriving DecidableEq, Repr

/-- Why a command has no meaning in the model. -/
inductive Refusal where
  /-- The command of this mnemonic has no meaning yet. Raised by the dispatcher only. Safe: no step is claimed. -/
  | notModelled (mnemonic : String)
deriving DecidableEq, Repr

/-- What a step answers. -/
abbrev Res := Host.Outcome State Fault Refusal

/-- The machine right after the power-on of both dies: every register at its reset value, every memory and queue empty. -/
def State.reset : State := {}

end Sys2Proof.Machine
end

