-- ==== Sys2Proof/Machine/Ops.lean ====
section
/-! DEFINITION. The named operations over registers, time, the event fabric, events, the trouble log, the two link ends and the host's
interrupt sources. Every meaning is built from them. -/

namespace Sys2Proof.Machine

/-! ### Radio-die registers -/

/-- The value of a radio-die register. -/
def rd (s : State) (off : Nat) : Word := tabGet radioReset s.reg off

/-- A radio-die register set, by hardware: no access rule. -/
def wr (off : Nat) (v : Word) (s : State) : State := { s with reg := tabSet radioReset s.reg off v }

/-- A field of a radio-die register. -/
def getF (s : State) (off hi lo : Nat) : Nat := fieldOf (rd s off) hi lo

/-- A field of a radio-die register set. -/
def setF (off hi lo v : Nat) (s : State) : State := wr off (withField (rd s off) hi lo v) s

/-- A bit of a radio-die register. -/
def getB (s : State) (off i : Nat) : Bool := bitOf (rd s off) i

/-- A bit of a radio-die register set to a value. -/
def setB (off i : Nat) (b : Bool) (s : State) : State := wr off (withBit (rd s off) i b) s

/-- A 32-bit counter register advanced; it wraps. -/
def incW (off : Nat) (s : State) : State := wr off (rd s off + 1) s

/-- A counter field advanced by `n`; it wraps in its field. -/
def incF (off hi lo n : Nat) (s : State) : State := setF off hi lo (getF s off hi lo + n) s

/-- A counter field advanced that stops at its greatest value. -/
def incSat (off hi lo n : Nat) (s : State) : State := setF off hi lo (min (getF s off hi lo + n) (2 ^ (hi + 1 - lo) - 1)) s

/-- A register as a signed 32-bit number. -/
def getS (s : State) (off : Nat) : Int := (rd s off).toInt

/-- What the shadow of a buffered register holds (R27). -/
def rdShadow (s : State) (off : Nat) : Word := (tabGet (fun _ => none) s.shadow off).getD (rd s off)

/-! ### Host-die registers -/

/-- The value of a host-die register. -/
def hrd (s : State) (off : Nat) : Word := tabGet hostReset s.hreg off

/-- A host-die register set, by hardware. -/
def hwr (off : Nat) (v : Word) (s : State) : State := { s with hreg := tabSet hostReset s.hreg off v }

def hgetF (s : State) (off hi lo : Nat) : Nat := fieldOf (hrd s off) hi lo
def hsetF (off hi lo v : Nat) (s : State) : State := hwr off (withField (hrd s off) hi lo v) s
def hgetB (s : State) (off i : Nat) : Bool := bitOf (hrd s off) i
def hsetB (off i : Nat) (b : Bool) (s : State) : State := hwr off (withBit (hrd s off) i b) s
def hincW (off : Nat) (s : State) : State := hwr off (hrd s off + 1) s
def hincF (off hi lo n : Nat) (s : State) : State := hsetF off hi lo (hgetF s off hi lo + n) s

/-! ### Choice and repetition -/

/-- An operation applied where a condition holds. -/
def onlyIf (c : Bool) (f : State → State) (s : State) : State := if c then f s else s

/-- An operation applied for every element, in order. -/
def forAll {α : Type} (xs : List α) (f : α → State → State) (s : State) : State := xs.foldl (fun s x => f x s) s

/-- A free value drawn: the counter moves on. -/
def drawFree (s : State) : State := { s with free := s.free + 1 }

/-! ### Time -/

/-- One nanosecond in the time base's unit (R46). -/
def nsUnit : Nat := 2 ^ 56

/-- One second in the time base's unit. -/
def secUnit : Nat := 1000000000 * 2 ^ 56

/-- The clamp of RATE, 500 ppm (R46). -/
def rateMax : Int := 549755813

/-- RATE in effect (R46). -/
def rateOf (s : State) : Int := clampInt (-rateMax) rateMax (s.ntb.freq + s.ntb.slew)

/-- The increment of network time in one core clock (R46). -/
def netInc (s : State) : Nat := (100000 * (2 ^ 40 + rateOf s)).toNat

/-- The increment of anchored time in one core clock (R48): the frequency term only. -/
def anchInc (s : State) : Nat := (100000 * (2 ^ 40 + clampInt (-rateMax) rateMax s.ntb.freq)).toNat

/-- The core clock of the radio die runs: the die is powered and in RUN or WATCH (R425, R428). -/
def coreRuns (s : State) : Bool := !s.power.dead && decide (getF s 0x10000 1 0 < 2)

/-- The radio die is in WATCH (R426). -/
def inWatch (s : State) : Bool := getF s 0x10000 1 0 == 1

/-- `n` core clocks pass at the present RATE (R46, R48); with the core clock stopped only the age of the machine grows. -/
def plainClocks (n : Nat) (s : State) : State :=
  let s := if n = 0 then s else { s with regWas := s.reg, hregWas := s.hreg }
  if coreRuns s then
    { s with
      age := s.age + n
      ntb := { s.ntb with net := s.ntb.net + n * netInc s, anch := s.ntb.anch + n * anchInc s, clk := s.ntb.clk + n } }
  else { s with age := s.age + n }

/-- The part of RATE that the slew term adds under the clamp of R46. -/
def slewRate (s : State) : Int := rateOf s - clampInt (-rateMax) rateMax s.ntb.freq

/-- The clocks a slew in effect still needs to remove its offset (R46). -/
def slewClocks (s : State) : Nat := ceilDiv s.ntb.slewLeft.natAbs (100000 * (slewRate s).natAbs)

/-- A slew term ends (R46, R51). -/
def endSlew (s : State) : State :=
  setB 0x20024 4 false { s with ntb := { s.ntb with slew := 0, slewLeft := 0 } }

/-- `n` core clocks pass; a slew ends in the clock in which its offset is removed, and one that the clamp leaves no room removes
nothing. -/
def clocks (n : Nat) (s : State) : State :=
  if slewRate s = 0 ∨ !coreRuns s then plainClocks n s
  else if n < slewClocks s then
    plainClocks n { s with ntb := { s.ntb with slewLeft := s.ntb.slewLeft - n * 100000 * slewRate s } }
  else plainClocks (n - slewClocks s) (endSlew (plainClocks (slewClocks s) s))

/-- The clocks until network time reaches an instant at the present RATE. -/
def clocksToNet (t : Nat) (s : State) : Nat := ceilDiv (t - s.ntb.net) (netInc s)

/-- The core clocks pass until network time has reached an instant; none where it lies in the past. -/
def reachNet (t : Nat) (s : State) : State :=
  if slewRate s = 0 ∨ !coreRuns s ∨ clocksToNet t s < slewClocks s then clocks (clocksToNet t s) s
  else
    let s := clocks (slewClocks s) s
    clocks (clocksToNet t s) s

/-- The core clocks pass until anchored time has reached an instant. -/
def reachAnch (t : Nat) (s : State) : State := clocks (ceilDiv (t - s.ntb.anch) (anchInc s)) s

/-- The core clocks pass until the given core clock. -/
def reachClk (c : Nat) (s : State) : State := clocks (c - s.ntb.clk) s

/-- The core clocks pass until the machine has the given age, whether the core clock runs or not. -/
def reachAge (a : Nat) (s : State) : State := clocks (a - s.age) s

/-- Whole nanoseconds of a time. -/
def nsTotal (t : Nat) : Nat := t / nsUnit

/-- Network time in whole nanoseconds. -/
def nowNs (s : State) : Nat := nsTotal s.ntb.net

def secOf (t : Nat) : Nat := t / secUnit
def nanoOf (t : Nat) : Nat := t / nsUnit % 1000000000
def fracOf (t : Nat) : Nat := t / 2 ^ 40 % 65536

/-- The low 8 bits of NTB_STEP_COUNT (R47). -/
def stepByte (s : State) : Nat := (rd s 0x20028).toNat % 256

/-- This device's DEV (R255, R275). -/
def devOf (s : State) : Nat := getF s 0xA00C0 3 0

/-- Core clocks in a number of nanoseconds, rounded up (R14). -/
def clocksOfNs (ns : Nat) : Nat := ceilDiv (ns * 65536) 100000

/-! ### The Rhizome (R278-R283) -/

/-- The level of a gate (R282). -/
def gateLevel (s : State) (g : Nat) : Bool :=
  if g = 0 then true
  else if g ≤ 8 then getB s (0x21000 + (g - 1) * 0x40 + 0x20) 0
  else if g = 9 then getB s 0x6000C 0
  else if g = 10 then getB s 0x6400C 0
  else if g = 11 then getF s 0x20024 1 0 == 1
  else if g = 12 then getF s 0x20024 1 0 == 2
  else if g ≤ 16 then
    let st := getF s (0x30000 + (g - 13) * 0x1000 + 4) 2 0
    st == 2 || st == 3
  else if g ≤ 20 then getB s (0x40000 + (g - 17) * 0x1000 + 4) 3
  else if g = 21 then getB s 0x48008 2
  else if g = 22 then getB s 0x48008 0
  else if g ≤ 26 then getB s 0x80804 (g - 23)
  else if g = 27 then getF s 0xA0010 3 0 == 8
  else if g = 28 then getF s 0xA8010 3 0 == 8
  else false

/-- The gate of a channel as it stands: GATE with GATE_INV (R282). -/
def gateOf (s : State) (ch : Nat) : Bool :=
  let src := rd s (0x80000 + ch * 0x10)
  gateLevel s (fieldOf src 13 8) != bitOf src 14

/-- The channels a source event reaches in this clock: enabled, carrying that source, gate true (R278, R279). -/
def channelsOf (s : State) (src : Nat) : List Nat :=
  (List.range 96).filter (fun ch =>
    let w := rd s (0x80000 + ch * 0x10)
    bitOf w 31 && fieldOf w 7 0 == src && gateOf s ch)

/-- A source raises its event in this clock; raised again in the same clock it stays one event (R278). SRC 0 and unlisted never fire. -/
def raiseSrc (src : Nat) (s : State) : State :=
  let here := s.evf.raised.filter (fun p => p.2 == s.ntb.clk)
  if src = 0 ∨ here.contains (src, s.ntb.clk) then s
  else
    { s with evf := { s.evf with
        raised := (src, s.ntb.clk) :: here
        arrivals := s.evf.arrivals ++ (channelsOf s src).map (fun ch => (ch, s.ntb.clk)) } }

/-! ### The barrier (R306-R314) -/

/-- The window of the link in messages (R310). -/
def linkWindow : Nat := 32

/-- Whether the link is UP, as the radio end and the host end see it (R307). -/
def upR (s : State) : Bool := getF s 0x10 1 0 == 2
def upH (s : State) : Bool := hgetF s 0x2000 1 0 == 2

/-- The messages of a link end that its window lets it send while UP. -/
def LinkEnd.pump (l : LinkEnd) (up : Bool) : LinkEnd := if up then { l with sent := max l.sent (min linkWindow l.q.length) } else l

/-- A message enters the queue of a link end: the oldest counts its 10 us from now (R310). -/
def LinkEnd.push (l : LinkEnd) (typ age : Nat) (payload : List Byte) : LinkEnd :=
  { l with q := l.q ++ [(typ, payload)], since := if l.q.isEmpty then age else l.since }

/-- The radio end sends a message to the host die. -/
def sendR (typ : Nat) (payload : List Byte) (s : State) : State :=
  { s with linkR := (s.linkR.push typ s.age payload).pump (upR s) }

/-- The uplink records held leave, oldest first, as far as the window of the link has room; the others wait in their region (R18, R312). -/
def drainUp (s : State) : State :=
  if upR s && !(s.linkR.xoff.testBit 2) then
    let n := linkWindow - s.linkR.q.length
    forAll (s.keeper.upHold.take n) (fun u => sendR 5 u) { s with keeper := { s.keeper with upHold := s.keeper.upHold.drop n } }
  else s

/-- The host end sends a message to the radio die; BST_TX_MSGS counts what leaves. -/
def sendH (typ : Nat) (payload : List Byte) (s : State) : State :=
  let l := (s.linkH.push typ s.age payload).pump (upH s)
  hwr 0x2004 (hrd s 0x2004 + BitVec.ofNat 32 (l.sent - s.linkH.sent)) { s with linkH := l }

/-! ### Eskel messages (R330, R347) -/

/-- The 16-byte header of an Eskel message (R330). -/
def eskelHeader (opcode kind target tag len counter status : Nat) : List Byte :=
  leBytes 2 opcode ++ leBytes 1 kind ++ leBytes 1 target ++ leBytes 2 tag ++ leBytes 2 len ++ leBytes 4 counter ++
    leBytes 2 status ++ leBytes 1 1 ++ leBytes 1 0

/-- The 16 bytes that open an event payload (R347), for a time in 2^-56 ns. -/
def eventStamp (t step dev : Nat) : List Byte :=
  leBytes 8 (secOf t) ++ leBytes 4 (nanoOf t) ++ leBytes 1 step ++ leBytes 1 dev ++ leBytes 2 0

/-- An event message (R347). -/
def eventMsg (code target tag status counter t step dev : Nat) (args : List Byte) : List Byte :=
  eskelHeader code 2 target tag (16 + args.length) counter status ++ eventStamp t step dev ++ args

/-- The bytes held in a queue of messages. -/
def heldBytes (q : List (List Byte)) : Nat := (q.map List.length).sum

/-- The Keeper hands an event message to the barrier; while EVENT is held, the link is not UP or its window is full it waits in the
Keeper's queue of 256 KiB, and a full queue drops it (R314). -/
def sendEvent (m : List Byte) (s : State) : State :=
  if upR s && !(s.linkR.xoff.testBit 1) && s.keeper.evHold.isEmpty && decide (s.linkR.q.length < linkWindow) then sendR 4 m s
  else if heldBytes s.keeper.evHold + m.length ≤ 262144 then
    { s with keeper := { s.keeper with evHold := s.keeper.evHold ++ [m] } }
  else { s with keeper := { s.keeper with evLost := s.keeper.evLost + 1 } }

/-- Bytes cut or zero-padded to a length. -/
def padTo (n : Nat) (bs : List Byte) : List Byte := (bs ++ List.replicate n 0).take n

/-- A trouble-log entry (R451). -/
def logBytes (index t step source code : Nat) (args : List Byte) : List Byte :=
  leBytes 4 index ++ leBytes 4 (secOf t) ++ leBytes 4 (nanoOf t) ++ leBytes 1 step ++ leBytes 1 source ++ leBytes 2 code ++ padTo 16 args

/-- The ring of the trouble log and of its mirror: 4,096 entries, the oldest overwritten (R450, R454). -/
def ringPush (q : List (List Byte)) (e : List Byte) : List (List Byte) :=
  if 4096 ≤ q.length then q.drop 1 ++ [e] else q ++ [e]

/-- An entry written to the trouble log and, unless LOG is held, mirrored to the host die (R450, R454, R314). -/
def logWrite (source code : Nat) (args : List Byte) (s : State) : State :=
  let e := logBytes s.keeper.logNext s.ntb.net (stepByte s) source code args
  let q := ringPush s.keeper.log e
  let n := (s.keeper.logNext + 1) % 2 ^ 32
  let s := { s with keeper := { s.keeper with log := q, logNext := n } }
  let s := wr 0xC0020 (BitVec.ofNat 32 n) s
  let s := wr 0xC0024 (BitVec.ofNat 32 n - BitVec.ofNat 32 q.length) s
  if s.linkR.xoff.testBit 3 then s else sendR 6 e s

/-- The radio die raises an event of R351: the message with its number (R348) and the trouble-log entry (R352). -/
def raiseEvtAt (t step source code : Nat) (args : List Byte) (s : State) : State :=
  let m := eventMsg code 0x1E 0 0 s.keeper.evSeq t step (devOf s) args
  let s := { s with keeper := { s.keeper with evSeq := (s.keeper.evSeq + 1) % 2 ^ 32 } }
  logWrite source code args (sendEvent m s)

/-- The same at the present network time. -/
def raiseEvt (source code : Nat) (args : List Byte) (s : State) : State :=
  raiseEvtAt s.ntb.net (stepByte s) source code args s

/-- The completion of a command that answered PENDING (R334): one COMPLETION event with its tag and final status. -/
def completion (tag target opcode status : Nat) (payload : List Byte) (s : State) : State :=
  let args := leBytes 2 opcode ++ leBytes 2 0 ++ payload
  let m := eventMsg 0x100 target tag status s.keeper.evSeq s.ntb.net (stepByte s) (devOf s) args
  let s := { s with keeper := { s.keeper with evSeq := (s.keeper.evSeq + 1) % 2 ^ 32 } }
  logWrite 0xD 0x100 args (sendEvent m s)

/-! ### Host interrupts (R322, R323) -/

/-- Whether the host interface is SPI, from the strap (R325). -/
def spiMode (s : State) : Bool := hgetB s 0x010 0

/-- The map byte of an interrupt source. -/
def srcMap (s : State) (n : Nat) : Nat := (hrd s (0x4C00 + n / 4 * 4)).toNat >>> (8 * (n % 4)) % 256

/-- The device posts a memory write to host memory (R315). -/
def post (addr : Nat) (bs : List Byte) (s : State) : State :=
  { s with tender := { s.tender with posted := s.tender.posted ++ [(addr, bs)] } }

/-- A vector becomes pending; its message leaves unless it is masked (R323, R329). -/
def vectorPend (v : Nat) (s : State) : State :=
  if hgetB s (0x4000 + v * 16 + 12) 0 ∨ !s.tender.busMaster ∨ !s.tender.msixEnable then hsetB 0x4800 v true s
  else post ((hrd s (0x4000 + v * 16)).toNat + 2 ^ 32 * (hrd s (0x4000 + v * 16 + 4)).toNat)
    (leBytes 4 (hrd s (0x4000 + v * 16 + 8)).toNat) s

/-- An interrupt source sets its bit; under PCIe an enabled source whose bit rises makes its vector pending (R323). -/
def irq (n : Nat) (s : State) : State :=
  let off := 0x4D00 + n / 32 * 4
  let was := hgetB s off (n % 32)
  let s' := hsetB off (n % 32) true s
  if !was && !spiMode s && (srcMap s n).testBit 7 then vectorPend (srcMap s n % 32) s' else s'

/-! ### The classes towards the host (R319-R321) -/

/-- The hold of a class. -/
def holdOf (t : Tender) (cls : Nat) : List (List Byte) :=
  match cls with
  | 0 => t.hold0
  | 1 => t.hold1
  | 2 => t.hold2
  | _ => t.hold3

/-- The hold of a class replaced. -/
def setHold (t : Tender) (cls : Nat) (q : List (List Byte)) : Tender :=
  match cls with
  | 0 => { t with hold0 := q }
  | 1 => { t with hold1 := q }
  | 2 => { t with hold2 := q }
  | _ => { t with hold3 := q }

/-- XOFF follows a class's hold: set when its 64 KiB are full, clear when emptied to half; MBX_STATUS shows the classes held, and a
newly held class raises CLASS_HELD (R320, R322). -/
def xoffUpdate (cls : Nat) (s : State) : State :=
  let n := heldBytes (holdOf s.tender cls)
  let on := if n ≥ 65536 then true else if n ≤ 32768 then false else s.linkH.xoff.testBit cls
  let was := s.linkH.xoff.testBit cls
  let x := if on == was then s.linkH.xoff else s.linkH.xoff ^^^ 2 ^ cls
  let s := hsetB 0x3008 (8 + cls) on { s with linkH := { s.linkH with xoff := x } }
  if on && !was then irq 9 s else s

/-- A message enters the hold of its class, from which RESPONSE_WRITE writes it. -/
def toHost (cls : Nat) (m : List Byte) (s : State) : State :=
  xoffUpdate cls { s with tender := setHold s.tender cls (holdOf s.tender cls ++ [m]) }

/-- The Tender's time: the latest NET_TIME. -/
def tenderTime (s : State) : Nat := (s.tender.netS * 1000000000 + s.tender.netNs) * nsUnit

/-- The Tender's own event (R455): in the LOG class only, its trouble-log entry with INDEX 0xFFFF_FFFF and SOURCE 0x20, and then its
event message with COUNTER 0xFFFF_FFFF. DEDUCED (log entry 14): both forms, in that order. -/
def tenderEvtMsg (code target tag status : Nat) (args : List Byte) (s : State) : State :=
  toHost 3 (eventMsg code target tag status 0xFFFFFFFF (tenderTime s) s.tender.netStep 0 args)
    (toHost 3 (logBytes 0xFFFFFFFF (tenderTime s) s.tender.netStep 0x20 code args) s)

def tenderEvt (code : Nat) (args : List Byte) (s : State) : State := tenderEvtMsg code 0x1E 0 0 args s

end Sys2Proof.Machine
end

