-- ==== Sys2Proof/Machine/Flags.lean ====
section
/-! DEFINITION. The status words every block shares: the apply register of a buffered unit (R27-R32) and the guard status of a die
(R33-R36). -/

namespace Sys2Proof.Machine

/-! ### Buffered registers -/

/-- Whether a unit has an apply pending, and whether it is held (R29). -/
def applyPending (s : State) (a : Nat) : Bool := getB s a 8
def applyHeld (s : State) (a : Nat) : Bool := getB s a 0

/-- The shadows written in `[lo, hi)`. -/
def shadowsIn (s : State) (lo hi : Nat) : List (Nat × Word) :=
  s.shadow.filterMap (fun p => if lo ≤ p.1 ∧ p.1 < hi then p.2.map (fun v => (p.1, v)) else none)

/-- The shadows of a unit dropped: they equal the active copies again. -/
def dropShadows (lo hi : Nat) (s : State) : State :=
  { s with shadow := s.shadow.filter (fun p => !(decide (lo ≤ p.1) && decide (p.1 < hi))) }

/-- A write to a shadowed register lands in its shadow and sets APPLY_PENDING (R30). -/
def shadowPut (a off : Nat) (v : Word) (s : State) : State :=
  let m : Word := BitVec.ofNat 32 (radioDesc off).rwb
  setB a 8 true
    { s with shadow := tabSet (fun _ => none) s.shadow off (some ((rd s off &&& ~~~m) ||| (v &&& m))) }

/-- All shadowed fields of a unit copied to their active copies (R27). -/
def copyShadows (lo hi : Nat) (s : State) : State :=
  dropShadows lo hi (forAll (shadowsIn s lo hi) (fun p => wr p.1 p.2) s)

/-- DISCARD reloads the shadow and clears APPLY_PENDING (R29). -/
def applyDrop (a lo hi : Nat) (s : State) : State := setB a 8 false (dropShadows lo hi s)

/-- The procedure of R30 at a boundary of the unit: with an apply pending and no hold, the checks run over the shadow; a passing shadow
is copied and counted, a failing one discarded with its code. Both are Rhizome sources, and a rejection is an event (R32). -/
def applyRun (a lo hi src blk : Nat) (check : State → Nat) (after : State → State) (s : State) : State :=
  if applyPending s a && !applyHeld s a then
    if check s = 0 then
      after (raiseSrc src (setB a 8 false (incF a 31 16 1 (copyShadows lo hi s))))
    else
      raiseEvt blk 0x121 (leBytes 4 (0x40000000 + a) ++ leBytes 1 (check s))
        (raiseSrc (src + 16) (setB a 8 false (setF a 15 12 (check s) (setB a 9 true (dropShadows lo hi s)))))
  else s

/-! ### Guarded registers -/

/-- A guard fault of the radio die (R35, R36): counted; the first since GUARD_FAULT was cleared is recorded; event and Rhizome source. -/
def guardFaultR (cause off : Nat) (s : State) : State :=
  let first := !getB s 0x20 0
  let s1 := incSat 0x20 15 8 1 s
  let s2 := if first then wr 0x24 (BitVec.ofNat 32 off) (setF 0x20 3 1 cause (setB 0x20 0 true s1)) else s1
  raiseEvt 0 0x120 (leBytes 4 off ++ leBytes 1 cause) (raiseSrc 228 s2)

/-- A guard fault of the host die (R36, R322); a register of the Tender's flash controller shows its offset there (log entry 156). -/
def guardFaultH (cause off : Nat) (s : State) : State :=
  let first := !hgetB s 0x1050 0
  let s1 := hsetF 0x1050 15 8 (min (hgetF s 0x1050 15 8 + 1) 255) s
  let s2 := if first then hwr 0x1054 (BitVec.ofNat 32 (off % 0x8000)) (hsetF 0x1050 3 1 cause (hsetB 0x1050 0 true s1)) else s1
  irq 10 s2

/-- 256 register clocks in core clocks, at 327.68 MHz on the radio die and at 200 MHz on the host die (R34). -/
def guardSpanR : Nat := 512
def guardSpanH : Nat := 838

/-- The complement of a pending value is still in time (R34). -/
def guardInTimeR (s : State) : Bool := decide (s.age ≤ s.guardAge + guardSpanR)
def guardInTimeH (s : State) : Bool := decide (s.age ≤ s.hguardAge + guardSpanH)

/-- No complement within 256 register clocks (R35). -/
def guardLateR (s : State) : State :=
  match s.guard with
  | none => s
  | some (off, _) => guardFaultR 2 off { s with guard := none }

def guardLateH (s : State) : State :=
  match s.hguard with
  | none => s
  | some (off, _) => guardFaultH 2 off { s with hguard := none }

/-- A value write to a guarded register (R34): it becomes pending, or overlaps a pending one and both are discarded (R35). A pending value
whose time is over has timed out before. -/
def guardValueR (off : Nat) (v : Word) (s : State) : State :=
  let s := if guardInTimeR s then s else guardLateR s
  match s.guard with
  | none => { s with guard := some (off, v), guardAge := s.age }
  | some _ => guardFaultR 4 off { s with guard := none }

def guardValueH (off : Nat) (v : Word) (s : State) : State :=
  let s := if guardInTimeH s then s else guardLateH s
  match s.hguard with
  | none => { s with hguard := some (off, v), hguardAge := s.age }
  | some _ => guardFaultH 4 off { s with hguard := none }

/-- A write to the twin of the guarded register `off` (R34, R35): the exact complement of the pending value makes `effect` act with it;
any other write is a mismatch, and one with nothing pending is out of order. -/
def guardTwinR (off : Nat) (w : Word) (effect : Nat → Word → State → State) (s : State) : State :=
  let s := if guardInTimeR s then s else guardLateR s
  match s.guard with
  | none => guardFaultR 3 off s
  | some (o, v) =>
    if o = off ∧ w = ~~~v then effect off v { s with guard := none } else guardFaultR 1 o { s with guard := none }

def guardTwinH (off : Nat) (w : Word) (effect : Nat → Word → State → State) (s : State) : State :=
  let s := if guardInTimeH s then s else guardLateH s
  match s.hguard with
  | none => guardFaultH 3 off s
  | some (o, v) =>
    if o = off ∧ w = ~~~v then effect off v { s with hguard := none } else guardFaultH 1 o { s with hguard := none }

end Sys2Proof.Machine
end

