-- ==== Sys2Proof/Machine/Cipher.lean ====
section
/-! DEFINITION. The radio-die cipher engine: its queue and scheduler, the checks before a start, the modes over the packet buffer, key
slots and key changes, the host request port and cores out of service (R290-R302, R305). -/

namespace Sys2Proof.Machine

/-! ### Keys -/

def getKey (s : State) (k : Nat) : KeySlot := tabGet (fun _ => {}) s.cipher.slots k
def setKey (k : Nat) (v : KeySlot) (s : State) : State :=
  { s with cipher := { s.cipher with slots := tabSet (fun _ => {}) s.cipher.slots k v } }

def getCtx (s : State) (n : Nat) : Ctx := tabGet (fun _ => {}) s.ctx n
def setCtx (n : Nat) (c : Ctx) (s : State) : State := { s with ctx := tabSet (fun _ => {}) s.ctx n c }

/-- CPH_KEY_ATTR of a slot (R305). -/
def keyAttr (s : State) (k : Nat) : Word :=
  let x := getKey s k
  BitVec.ofNat 32 ((if x.valid then 1 else 0) + (if x.valid && x.big then 2 else 0) +
    (if x.valid then 16 * (x.usage % 16) else 0) + 65536 * (x.gen % 65536))

/-- A load that R297 refuses: AIR or JOIN with 256 bits, CHAIN outside KS0, no usage at all. -/
def usageRefused (slot usage : Nat) (big : Bool) : Bool :=
  usage % 16 == 0 || (big && usage % 4 != 0) || (usage.testBit 2 && slot != 0)

/-! ### The descriptor (R293) -/

def dMode (d : List Byte) : Nat := leAt d 0 1 % 16
def dDir (d : List Byte) : Bool := (leAt d 0 1).testBit 4
def dTagCode (d : List Byte) : Nat := leAt d 0 1 / 32 % 4
def dTagLen (d : List Byte) : Nat := [4, 8, 16, 0].getD (dTagCode d) 0
def dNonceLen (d : List Byte) : Nat := leAt d 1 1 % 32
def dRtag (d : List Byte) : Nat := leAt d 2 2
def dKey (d : List Byte) : Nat := leAt d 4 4 % 2 ^ 17
def dAad (d : List Byte) : Nat := leAt d 8 4 % 2 ^ 22
def dAadLen (d : List Byte) : Nat := leAt d 12 2
def dLen (d : List Byte) : Nat := leAt d 14 2
def dSrc (d : List Byte) : Nat := leAt d 16 4 % 2 ^ 22
def dDst (d : List Byte) : Nat := leAt d 20 4 % 2 ^ 22
def dTag (d : List Byte) : Nat := leAt d 24 4 % 2 ^ 22
def dNonce (d : List Byte) : List Byte := (d.drop 32).take (dNonceLen d)

/-- The output length of a descriptor. -/
def dOut (d : List Byte) : Nat :=
  let m := dMode d
  if m ≤ 2 then dLen d else if m = 4 then dLen d + 8 else if m = 5 then dLen d - 8 else 0

/-- Whether a tag is read or written. -/
def dTagUsed (d : List Byte) : Bool := (dMode d == 0 && dTagCode d != 3) || dMode d == 1 || dMode d == 3

/-- The lengths of R294 hold. -/
def lengthsOk (d : List Byte) : Bool :=
  let n := dNonceLen d
  let m := dMode d
  if m = 0 then n == 13
  else if m = 1 then n == 12
  else if m = 2 then n == 16 && dAadLen d == 0
  else if m = 3 then n == 0 && dAadLen d == 0
  else if m = 4 then n == 0 && dAadLen d == 0 && dLen d % 8 == 0 && decide (16 ≤ dLen d) && decide (dLen d ≤ 4096)
  else n == 0 && dAadLen d == 0 && dLen d % 8 == 0 && decide (24 ≤ dLen d) && decide (dLen d ≤ 4104)

/-- A buffer of `n` bytes at `a` lies in the packet buffer and, for a host request, in the scratch window (R295, R301). -/
def bufferOk (sub a n : Nat) : Bool := n == 0 || (decide (a + n ≤ 0x400000) && (sub != 17 || decide (0x3F8000 ≤ a)))

def buffersOk (sub : Nat) (d : List Byte) : Bool :=
  bufferOk sub (dAad d) (dAadLen d) && bufferOk sub (dSrc d) (dLen d) && bufferOk sub (dDst d) (dOut d) &&
    (!dTagUsed d || bufferOk sub (dTag d) (dTagLen d))

/-- The key a code names, if it is there (R293, R295). -/
def keyOf (s : State) (code : Nat) : Option (List Byte) :=
  if code < 256 then (if (getKey s code).valid then some (getKey s code).key else none)
  else
    let c := getCtx s (code - 256)
    if 65536 ≤ code - 256 ∨ c.role = 0 ∨ c.key.isEmpty then none else some c.key

/-- Whether a key's usage permits a mode to a submitter (R297). -/
def usageOk (s : State) (sub code mode : Nat) : Bool :=
  if code < 256 then
    let u := (getKey s code).usage
    if sub = 17 then u.testBit 3
    else (mode == 0 && (u.testBit 0 || u.testBit 1)) || (sub == 16 && (mode == 4 || mode == 5) && u.testBit 2)
  else
    (mode == 0 && (sub == 16 || sub == (getCtx s (code - 256)).frond)) || (mode == 4 && sub == 16)

/-- The checks before a start, in the order of R295: 0 when the request may start. -/
def preStart (s : State) (sub : Nat) (d : List Byte) : Nat :=
  if 5 < dMode d ∨ (dTagCode d = 3 ∧ dMode d ≠ 0) then 5
  else if !lengthsOk d then 4
  else if !buffersOk sub d then 6
  else match keyOf s (dKey d) with
    | none => 2
    | some _ => if usageOk s sub (dKey d) (dMode d) then 0 else 3

/-! ### The modes (R182, R294) -/

def pktRead (s : State) (a n : Nat) : List Byte := tabReadBytes zeroByte s.pkt a n
def pktWrite (a : Nat) (bs : List Byte) (s : State) : State := { s with pkt := tabWriteBytes zeroByte s.pkt a bs }

/-- What a request writes: the bytes for DST_ADDR and those for TAG_ADDR; none where a check fails. -/
def cipherRun (key d aad src tag : List Byte) : Option (List Byte × List Byte) :=
  let k := natsOf key
  let n := natsOf (dNonce d)
  let t := dTagLen d
  if dMode d = 0 then
    if dDir d then (ccmOpen k n (natsOf aad) (natsOf src) (natsOf (tag.take t))).map (fun p => (bytesOf p, []))
    else let r := ccmSeal k n (natsOf aad) (natsOf src) t; some (bytesOf r.1, bytesOf r.2)
  else if dMode d = 1 then
    if dDir d then (gcmOpen k n (natsOf aad) (natsOf src) (natsOf (tag.take t))).map (fun p => (bytesOf p, []))
    else let r := gcmSeal k n (natsOf aad) (natsOf src); some (bytesOf r.1, bytesOf (r.2.take t))
  else if dMode d = 2 then some (bytesOf (ctrMode k n (natsOf src)), [])
  else if dMode d = 3 then
    let r := (cmac k (natsOf src)).take t
    if dDir d then (if r = natsOf (tag.take t) then some ([], []) else none) else some ([], bytesOf r)
  else if dMode d = 4 then some (bytesOf (kwWrap k (natsOf src)), [])
  else (kwUnwrap k (natsOf src)).map (fun p => (bytesOf p, []))

/-! ### The queue -/

/-- The requests of a submitter that hold an entry (R291). -/
def heldBy (s : State) (sub : Nat) : Nat := (s.cipher.reqs.filter (fun r => r.sub == sub)).length

/-- Whether a submitter finds an entry. -/
def hasRoom (s : State) (sub : Nat) : Bool := decide (s.cipher.reqs.length < 64) && decide (heldBy s sub < 16)

/-- CORE_BUSY, the count of queued requests, RESULT_READY and CPH_HSTATUS follow the queue (R305). -/
def cphSync (s : State) : State :=
  let busy := (s.cipher.reqs.map (fun r => match r.core with | some c => 2 ^ c | none => 0)).sum
  let s := setF 0x90004 7 0 busy (setF 0x90004 22 16 s.cipher.reqs.length (setB 0x90004 26 (!s.cipher.results.isEmpty) s))
  setF 0x900D4 2 0 (heldBy s 17) (setF 0x900D4 6 4 s.cipher.results.length s)

/-- A submission that finds an entry takes it (R291). -/
def enqueue (sub : Nat) (d : List Byte) (s : State) : State :=
  cphSync { s with cipher := { s.cipher with reqs := s.cipher.reqs ++ [{ sub := sub, desc := padTo 48 d, clk := s.ntb.clk }] } }

/-- The waiting submissions that now find an entry, oldest first. -/
def admitAll : List (Nat × List Byte) → State → State
  | [], s => s
  | (sub, d) :: ws, s =>
    if hasRoom s sub then admitAll ws (enqueue sub d s)
    else admitAll ws { s with cipher := { s.cipher with waiting := s.cipher.waiting ++ [(sub, d)] } }

/-- CPH_SUBMIT (R291): a Frond or the Keeper waits in hardware where it finds no entry; the host port is CPH_HSUBMIT. -/
def cphSubmit (submitter : Fin 17) (desc : List Byte) (s : State) : State :=
  if hasRoom s submitter.val && !(s.cipher.waiting.any (fun w => w.1 == submitter.val)) then enqueue submitter.val desc s
  else { s with cipher := { s.cipher with waiting := s.cipher.waiting ++ [(submitter.val, padTo 48 desc)] } }

/-- Whether a running request holds a key, and whether a change of it waits (R298). -/
def keyHeld (s : State) (code : Nat) : Bool := s.cipher.reqs.any (fun r => r.core.isSome && dKey r.desc == code)
def keyWaits (s : State) (code : Nat) : Bool := s.cipher.changes.any (fun c => c.code == code)

/-- The oldest request of a submitter that has neither started nor ended. -/
def oldestOf (s : State) (sub : Nat) : Option Nat :=
  s.cipher.reqs.findIdx? (fun r => r.sub == sub && r.core.isNone && r.result.isNone)

/-- The submitter that the round robin chooses: the first one, from its turn, whose oldest request is not kept back by a key change. -/
def chooseSub (s : State) : Option (Nat × Nat) :=
  ((List.range 18).map (fun i => (s.cipher.turn + i) % 18)).findSome? (fun sub =>
    match oldestOf s sub with
    | some i => if keyWaits s (dKey (s.cipher.reqs.getD i { sub := 0, desc := [] }).desc) then none else some (sub, i)
    | none => none)

/-- Request `i` of the queue replaced. -/
def setReq (i : Nat) (r : CphReq) (s : State) : State :=
  cphSync { s with cipher := { s.cipher with reqs := s.cipher.reqs.set i r } }

/-- The one core that serves in WATCH: CORE0, or the lowest-numbered one in service (R426, R495). -/
def watchCore (s : State) : Nat := ((List.range 8).find? (fun c => getB s 0x90000 c && !getB s 0x90004 (8 + c))).getD 8

/-- The AES blocks of a request (R290). -/
def cipherBlocks (d : List Byte) : Nat :=
  let m := ceilDiv (dLen d) 16
  match dMode d with
  | 0 => (if dAadLen d = 0 then 1 else 1 + ceilDiv (2 + dAadLen d) 16) + m + (m + 1)
  | 1 => m + 2
  | 2 => m
  | 3 => max 1 m + 1
  | 4 => 6 * (dLen d / 8)
  | _ => 6 * ((dLen d - 8) / 8)

/-- The core clocks that a request takes on its core: set-up, then 32 clocks a block, 44 under a 256-bit key (R290). -/
def cipherClocks (d key : List Byte) : Nat := 40 + cipherBlocks d * (if key.length = 32 then 44 else 32)

/-- A core that can take a request: enabled, not faulted, idle (R302). -/
def coreFree (s : State) (c : Nat) : Bool :=
  getB s 0x90000 c && !getB s 0x90004 (8 + c) && (!inWatch s || watchCore s == c) && !(s.cipher.reqs.any (fun r => r.core == some c))

/-- CPH_START (R291, R295, R298): a request starts 4 clocks after its submission at the earliest; one refused by its checks ends at once
and leaves the core idle. -/
def cphStart (core : Fin 8) (s : State) : State :=
  if !coreFree s core.val then s
  else match chooseSub s with
    | none => s
    | some (sub, i) =>
      let r := s.cipher.reqs.getD i { sub := 0, desc := [] }
      let s := reachClk (r.clk + 4) { s with cipher := { s.cipher with turn := (sub + 1) % 18 } }
      let e := preStart s sub r.desc
      if e ≠ 0 then setReq i { r with result := some e, clk := s.ntb.clk } s
      else setReq i { r with core := some core.val, key := (keyOf s (dKey r.desc)).getD [], clk := s.ntb.clk } s

/-- CPH_CORE_DONE (R292, R295, R302): a core whose result fails its duplicate-round check leaves service. -/
def cphCoreDone (core : Fin 8) (fault : Bool) (s : State) : State :=
  match s.cipher.reqs.findIdx? (fun r => r.core == some core.val) with
  | none => s
  | some i =>
    let r := s.cipher.reqs.getD i { sub := 0, desc := [] }
    let d := r.desc
    let s := reachClk (r.clk + cipherClocks d r.key) s
    let r := { r with clk := s.ntb.clk }
    if fault then
      raiseEvt 9 0x150 (leBytes 1 core.val) (setB 0x90004 (8 + core.val) true (setReq i { r with core := none, result := some 7 } s))
    else
      match cipherRun r.key d (pktRead s (dAad d) (dAadLen d)) (pktRead s (dSrc d) (dLen d)) (pktRead s (dTag d) (dTagLen d)) with
      | none => setReq i { r with core := none, result := some 1 } s
      | some (out, tag) => setReq i { r with core := none, result := some 0 } (pktWrite (dTag d) tag (pktWrite (dDst d) out s))

/-- The statistics of a completion (R305). -/
def countCompletion (status : Nat) (s : State) : State :=
  let s := incW 0x90008 s
  if status = 0 then s else if status = 1 then incW 0x9000C s else incW 0x90010 s

/-- CPH_COMPLETION (R292, R301): the oldest request of a submitter, once finished for 4 clocks, gives up its entry. An aborted request of a Frond or
the Keeper is submitted again (R302). A host result goes to its FIFO of four; DEDUCED (log entry 33): a full FIFO keeps it back. -/
def cphCompletion (submitter : Fin 18) (s : State) : State :=
  let sub := submitter.val
  match s.cipher.reqs.findIdx? (fun r => r.sub == sub) with
  | none => s
  | some i =>
    let r := s.cipher.reqs.getD i { sub := 0, desc := [] }
    match r.result with
    | none => s
    | some st =>
      if sub = 17 ∧ 4 ≤ s.cipher.results.length then s
      else
        let s := reachClk (r.clk + 4) s
        let s := { s with cipher := { s.cipher with reqs := s.cipher.reqs.eraseIdx i } }
        let s := if sub = 17 then incF 0x900D4 31 16 1 { s with cipher := { s.cipher with results := s.cipher.results ++ [(st, dRtag r.desc)] } } else s
        let s := if st = 7 ∧ sub ≠ 17 then { s with cipher := { s.cipher with waiting := s.cipher.waiting ++ [(sub, r.desc)] } } else s
        let ws := s.cipher.waiting
        admitAll ws { raiseSrc 229 (countCompletion st (cphSync s)) with cipher := { s.cipher with waiting := [] } }

/-- The host descriptor in CPH_HREQ0 to CPH_HREQ11. -/
def hostDesc12 (s : State) : List Byte := (List.range 12).flatMap (fun k => leBytes 4 (rd s (0x900A0 + 4 * k)).toNat)

/-- CPH_HSUBMIT (R301): at most four host requests are outstanding. -/
def cphHsubmit (value : Word) (s : State) : State :=
  if !bitOf value 0 then s
  else if 4 ≤ heldBy s 17 ∨ 64 ≤ s.cipher.reqs.length then setB 0x90004 25 true s
  else enqueue 17 (hostDesc12 s) s

/-- CPH_HRESULT (R305). -/
def cphHresult (s : State) : Word :=
  match s.cipher.results with
  | [] => 0xFFFF00FF
  | (st, tag) :: _ => BitVec.ofNat 32 (st % 256 + 65536 * (tag % 65536))

/-- CPH_HRESULT_READ: the read returns the oldest result and pops it. -/
def cphHresultRead (s : State) : State :=
  cphSync { s with lastRead := cphHresult s, cipher := { s.cipher with results := s.cipher.results.drop 1 } }

/-- CPH_CFG_WRITE (R302): a write that would leave no core in service is discarded. -/
def cphCfgWrite (value : Word) (s : State) : State :=
  if (List.range 8).any (fun c => bitOf value c && !getB s 0x90004 (8 + c)) then wr 0x90000 (value &&& 0xFF) s
  else setB 0x90004 24 true s

/-! ### Key changes (R298) -/

/-- A change made: each load increments GEN; a slot invalidated loses key and usage; a context takes or loses its key, and another key in
the place of the present one counts its downlinks from 0 (R181). -/
def makeChange (c : KeyChange) (s : State) : State :=
  if c.code < 256 then
    setKey c.code { c.slot with gen := if c.slot.valid then ((getKey s c.code).gen + 1) % 65536 else (getKey s c.code).gen } s
  else
    let n := c.code - 256
    let x := getCtx s n
    let fresh := !x.key.isEmpty && !c.slot.key.isEmpty && x.key != c.slot.key
    setCtx n { x with key := c.slot.key, gen := (x.gen + 1) % 2 ^ 32, dnFcnt := if fresh then 0 else x.dnFcnt } s

/-- A change arrives: at once where no running request holds its key, else it waits. -/
def keyChange (c : KeyChange) (s : State) : State :=
  if keyHeld s c.code || keyWaits s c.code then { s with cipher := { s.cipher with changes := s.cipher.changes ++ [c] } }
  else makeChange c s

/-- KEY_SLOT_CHANGE (R298): the oldest waiting change whose key no running request holds any more is made. -/
def keySlotChange (s : State) : State :=
  match s.cipher.changes.find? (fun c => !keyHeld s c.code) with
  | none => s
  | some c => makeChange c { s with cipher := { s.cipher with changes := s.cipher.changes.erase c } }

/-- The slots an invalidation names (R298). -/
def invalSlots (slot : Nat) (all : Bool) : List Nat := if all then (List.range 255).map (· + 1) else [slot]

def keyInvalidate (slot : Nat) (all : Bool) (s : State) : State :=
  forAll (invalSlots slot all) (fun k => keyChange { code := k, slot := {} }) s

/-- An accepted value of CPH_KEY_INVAL. -/
def keyInvalEffect (off : Nat) (v : Word) (s : State) : State := keyInvalidate (fieldOf v 7 0) (bitOf v 8) (wr off (v &&& 0x1FF) s)

/-- CPH_KEY_INVAL: the twin write that completes the guarded pair (R33, R34, R298). -/
def cphKeyInval (value : Word) (s : State) : State := guardTwinR 0x90040 value keyInvalEffect s

def execCphSubmit (submitter : Fin 17) (desc : List Byte) (s : State) : Res := .next (cphSubmit submitter desc s)
def execCphStart (core : Fin 8) (s : State) : Res := .next (cphStart core s)
def execCphCoreDone (core : Fin 8) (fault : Bool) (s : State) : Res := .next (cphCoreDone core fault s)
def execCphCompletion (submitter : Fin 18) (s : State) : Res := .next (cphCompletion submitter s)
def execCphHsubmit (value : Word) (s : State) : Res := .next (cphHsubmit value s)
def execCphHresultRead (s : State) : Res := .next (cphHresultRead s)
def execCphCfgWrite (value : Word) (s : State) : Res := .next (cphCfgWrite value s)
def execKeySlotChange (s : State) : Res := .next (keySlotChange s)
def execCphKeyInval (value : Word) (s : State) : Res := .next (cphKeyInval value s)

end Sys2Proof.Machine
end

