-- ==== Sys2Proof/Machine/Codec.lean ====
section
/-! DEFINITION. The codes of the air and of the links: CRC-8 and CRC-32, PN9 whitening, the convolutional code with its interleaver and
soft Viterbi decoder, and the air time of a frame. -/

namespace Sys2Proof.Machine

/-- The bits of bytes in air order: least significant bit first (R165). -/
def bitsOf (bs : List Byte) : List Bool := bs.flatMap (fun b => (List.range 8).map (fun i => b.getLsbD i))

/-- A number from bits, least significant first. -/
def natOfBits : List Bool → Nat
  | [] => 0
  | b :: bs => (if b then 1 else 0) + 2 * natOfBits bs

/-- Bytes from bits in air order, `n` of them. -/
def bytesOfBits : Nat → List Bool → List Byte
  | 0, _ => []
  | n + 1, bs => BitVec.ofNat 8 (natOfBits (bs.take 8)) :: bytesOfBits n (bs.drop 8)

/-- One step of a reflected CRC of polynomial `p`. -/
def crcStep (p c : Nat) : Nat := if c % 2 = 1 then (c / 2) ^^^ p else c / 2

/-- Eight steps. -/
def crcByte (p c : Nat) (b : Byte) : Nat :=
  crcStep p (crcStep p (crcStep p (crcStep p (crcStep p (crcStep p (crcStep p (crcStep p (c ^^^ b.toNat))))))))

/-- HCRC over the header bits [23:0] (R170). -/
def hcrc (h : Nat) : Nat := (leBytes 3 h).foldl (crcByte 0xE0) 0xFF

/-- CRC-32 of IEEE 802.3, reflected, initial value and final inversion all ones (R173). -/
def crc32 (bs : List Byte) : Nat := (bs.foldl (crcByte 0xEDB88320) 0xFFFFFFFF) ^^^ 0xFFFFFFFF

/-- Bits whitened with PN9 from state `s` (R174). -/
def pn9 : Nat → List Bool → List Bool
  | _, [] => []
  | s, d :: ds =>
    let w := s % 2 == 1
    let f := (s ^^^ (s / 32)) % 2
    (d != w) :: pn9 (s / 2 + f * 256) ds

/-- Payload and CRC-32 whitened (R174). -/
def whiten (bs : List Byte) : List Byte := bytesOfBits bs.length (pn9 0x1FF (bitsOf bs))

/-- The parity of a number below 128. -/
def parity7 (n : Nat) : Bool :=
  ((List.range 7).foldl (fun (p : Bool) i => p != n.testBit i) false)

/-- The output pair of the rate-1/2 code for a 7-bit register, current bit most significant (R528). -/
def convPair (reg : Nat) : Bool × Bool := (parity7 (reg &&& 0x5B), parity7 (reg &&& 0x79))

/-- The encoder from a state of six bits, the latest most significant. -/
def convEncode : Nat → List Bool → List Bool
  | _, [] => []
  | st, b :: bs =>
    let reg := (if b then 64 else 0) + st
    let p := convPair reg
    p.1 :: p.2 :: convEncode (reg / 2) bs

/-- The header of M0 and M1 in tail-biting form (R527): 64 channel bits. -/
def tailBite (header : List Bool) : List Bool :=
  let st := (header.drop 26).foldl (fun s b => ((if b then 64 else 0) + s) / 2) 0
  convEncode st header

/-- The order in which a block of `n` cells is read out: column by column of 8 rows of 16, empty cells skipped (R123). -/
def blockOrder (n : Nat) : List Nat :=
  ((List.range 16).flatMap (fun c => (List.range 8).map (fun r => r * 16 + c))).filter (fun i => i < n)

/-- The read order of `n` coded bits in blocks of 128 (R123). -/
def interleaveOrder (n : Nat) : List Nat :=
  (List.range (ceilDiv n 128)).flatMap (fun b => (blockOrder (min 128 (n - b * 128))).map (fun i => b * 128 + i))

/-- The interleaver. -/
def interleave {α : Type} (dflt : α) (xs : List α) : List α := (interleaveOrder xs.length).map (fun i => xs.getD i dflt)

/-- The de-interleaver: cell `i` is taken from where the interleaver put it. -/
def deinterleave {α : Type} (dflt : α) (xs : List α) : List α :=
  let order := interleaveOrder xs.length
  (List.range xs.length).map (fun i => xs.getD (order.findIdx (· == i)) dflt)

/-- The channel bits of a payload (R123): whitened when the flag is 1, CRC-32 appended first, coded and interleaved when FEC is 1. -/
def payloadBits (fec white : Bool) (payload : List Byte) : List Bool :=
  let bs := payload ++ leBytes 4 (crc32 payload)
  let bs := bitsOf (if white then whiten bs else bs)
  if fec then interleave false (convEncode 0 (bs ++ List.replicate 6 false)) else bs

/-- The header word of a frame with its HCRC (R169, R170). -/
def headerWord (mode len : Nat) (fec white dir ackf : Bool) (aseq : Nat) : Nat :=
  let h := mode % 8 + 8 * (len % 2048) + (if fec then 2 ^ 14 else 0) + (if white then 2 ^ 15 else 0) + 2 ^ 18 +
    (if dir then 2 ^ 20 else 0) + (if ackf then 2 ^ 21 else 0) + 2 ^ 22 * (aseq % 4)
  h + 2 ^ 24 * hcrc h

/-- The channel bits of a header (R122, R527). -/
def headerBits (mode h : Nat) : List Bool :=
  let bs := bitsOf (leBytes 4 h)
  if mode < 2 then tailBite bs else bs

/-- The preamble of `n` bits: alternating, the first sent bit 0 (R167). -/
def preambleBits (n : Nat) : List Bool := (List.range n).map (fun i => i % 2 == 1)

/-- A survivor of the Viterbi decoder: metric and decided bits, newest first. -/
abbrev Survivor := Int × List Bool

/-- One step of the decoder over the soft pair `(a, b)`; positive values favour 1. Of equal metrics the lower predecessor wins. -/
def viterbiStep (surv : List Survivor) (a b : Int) : List Survivor :=
  (List.range 64).map (fun st =>
    let bit := st / 32
    let p0 := (2 * st) % 64
    let p1 := p0 + 1
    let metric := fun (p : Nat) =>
      let o := convPair (bit * 64 + p)
      let m := surv.getD p (-(2 ^ 40), [])
      (m.1 + (if o.1 then a else -a) + (if o.2 then b else -b), (bit == 1) :: m.2)
    let m0 := metric p0
    let m1 := metric p1
    if m0.1 < m1.1 then m1 else m0)

/-- The survivor of the greatest metric, the lowest state winning a tie. -/
def bestSurvivor (surv : List Survivor) : Survivor :=
  surv.foldl (fun best m => if best.1 < m.1 then m else best) (surv.headD (0, []))

/-- The decoder with a traceback of 64 bits (R123): a bit is decided from the best survivor 64 bits later; the last bits from state 0,
where the tail ends. DESIGN CHOICE (log entry 20): ties. -/
def viterbiRun : List Survivor → Nat → List Int → List Bool
  | surv, _, [] => ((surv.headD (0, [])).2.take 64).reverse
  | surv, _, [_] => ((surv.headD (0, [])).2.take 64).reverse
  | surv, n, a :: b :: rest =>
    let surv' := viterbiStep surv a b
    if 64 ≤ n then ((bestSurvivor surv').2.getD 64 false) :: viterbiRun (surv'.map (fun m => (m.1, m.2.take 64))) n rest
    else viterbiRun surv' (n + 1) rest

/-- A coded payload decoded from its soft symbols, taken before de-interleaving (R123, R137): `len` payload bytes and the CRC-32. -/
def decodeSoft (fec white : Bool) (len : Nat) (soft : List Int) : List Byte :=
  let bits :=
    if fec then viterbiRun ((0, []) :: List.replicate 63 (-(2 ^ 40), [])) 0 (deinterleave 0 soft)
    else soft.map (fun v => decide (0 < v))
  let bs := bytesOfBits (len + 4) bits
  if white then whiten bs else bs

/-- Two copies combined bit by bit with saturation at 127 (R137). -/
def combineSoft (a b : List Int) : List Int := List.zipWith (fun x y => clampInt (-127) 127 (x + y)) a b

/-- A soft symbol from its byte: it saturates at 127 either way (R137). -/
def softOfByte (b : Byte) : Int := clampInt (-127) 127 b.toInt

/-- Symbol rate and bit rate of a mode in units of 6.25 k (R121). -/
def symbolRate (mode : Nat) : Nat := [1, 2, 4, 8, 16, 32, 32, 64].getD mode 1
def bitRate (mode : Nat) : Nat := [1, 2, 4, 8, 16, 32, 64, 128].getD mode 1

/-- The least filter of a mode, as a filter code (R121). -/
def minFilter (mode : Nat) : Nat := [0, 1, 2, 3, 4, 5, 5, 6].getD mode 6

/-- The width of a filter code, Hz (R144). -/
def filterHz (code : Nat) : Nat := [12500, 25000, 50000, 100000, 200000, 400000, 800000].getD code 0

/-- The channel bits of a payload of `len` bytes (R175). -/
def codedBits (fec : Bool) (len : Nat) : Nat := if len = 0 then 0 else if fec then 2 * (8 * (len + 4) + 6) else 8 * (len + 4)

/-- The header's channel bits (R175). -/
def headerLen (mode : Nat) : Nat := if mode < 2 then 64 else 32

/-- The air time of a frame in ns (R175): one symbol of M0 lasts 160,000 ns. -/
def airNs (mode pre sync : Nat) (fec : Bool) (len : Nat) : Nat :=
  (pre + sync) * (160000 / symbolRate mode) + (headerLen mode + codedBits fec len) * 160000 / bitRate mode

end Sys2Proof.Machine
end

