-- ==== Sys2Proof/Machine/Operands.lean ====
section
/-! DEFINITION. The forms a command's bytes take: MAC frames with their security (R178-R187), transmit descriptors (R220), beacons
(R188, R190), and the fields of Eskel requests (R353, R354). -/

namespace Sys2Proof.Machine

/-- A MAC frame taken apart (R178-R181, R184). -/
structure MacFrame where
  typ : Nat
  sec : Bool
  ackreq : Bool
  pending : Bool
  seq : Nat
  nid : Nat
  dst : Nat
  src : Nat
  /-- EUI-64 of a join frame -/
  eui : Nat
  keyIndex : Nat
  enc : Bool
  mic64 : Bool
  fcnt : Nat
  hops : Nat
  origin : Nat
  /-- the bytes from FC to the end of MESHHDR -/
  head : List Byte
  payload : List Byte
  mic : List Byte
deriving DecidableEq, Repr

/-- The length of the parts before the MAC payload (R178). -/
def macHead (typ : Nat) (sec : Bool) : Nat := 11 + (if typ = 4 then 8 else 0) + (if sec then 6 else 0) + (if typ = 5 then 4 else 0)

/-- A PHY payload as a MAC frame; none for a frame that R186 counts as MAC_MALFORMED whatever its DIR. NID 0xFFFF is valid in a join frame
only (R180) and malformed in any other (log entry 153). -/
def parseMac (bs : List Byte) : Option MacFrame :=
  let fc := leAt bs 0 2
  let typ := fc % 8
  let sec := fc.testBit 3
  let h := macHead typ sec
  let o := 11 + (if typ = 4 then 8 else 0)
  let ctl := leAt bs (o + 1) 1
  let mic := if sec then (if ctl.testBit 1 then 8 else 4) else 0
  let m := if sec then o + 6 else o
  let hops := leAt bs m 1 % 16
  if bs.length < 11 ∨ typ = 7 ∨ fc / 256 % 4 ≠ 0 ∨ leAt bs 3 2 = 0 ∨ (leAt bs 3 2 = 0xFFFF ∧ typ ≠ 4) ∨ (fc.testBit 5 != (typ == 5)) ∨ bs.length < h + mic ∨
      (typ = 5 ∧ hops = 0) ∨ ((typ = 4 ∨ typ = 5) ∧ bs.length = h + mic) then none
  else some
    { typ := typ, sec := sec, ackreq := fc.testBit 4, pending := fc.testBit 6, seq := leAt bs 2 1, nid := leAt bs 3 2,
      dst := leAt bs 5 3, src := leAt bs 8 3, eui := if typ = 4 then leAt bs 11 8 else 0,
      keyIndex := if sec then leAt bs o 1 else 0, enc := sec && ctl.testBit 0, mic64 := sec && ctl.testBit 1,
      fcnt := if sec then leAt bs (o + 2) 4 else 0, hops := if typ = 5 then hops else 0,
      origin := if typ = 5 then leAt bs (m + 1) 3 else 0, head := bs.take h,
      payload := (bs.drop h).take (bs.length - h - mic), mic := bs.drop (bs.length - mic) }

/-- A join frame with DIR = 0 whose addresses break R186. -/
def joinMalformed (f : MacFrame) (dir : Bool) : Bool := f.typ == 4 && !dir && (f.src != 0xFFFFFF || f.dst != 0)

/-- The nonce of R182. -/
def nonceOf (eui fcnt : Nat) (dir mic64 : Bool) : List Nat :=
  natsOf (leBytes 8 eui ++ leBytes 4 fcnt ++ leBytes 1 ((if dir then 1 else 0) + (if mic64 then 2 else 0)))

/-- The MAC payload of a secured frame if its MIC checks (R182). -/
def macOpen (key : List Byte) (eui : Nat) (dir : Bool) (f : MacFrame) : Option (List Byte) :=
  let n := nonceOf eui f.fcnt dir f.mic64
  if f.enc then (ccmOpen (natsOf key) n (natsOf f.head) (natsOf f.payload) (natsOf f.mic)).map bytesOf
  else (ccmOpen (natsOf key) n (natsOf (f.head ++ f.payload)) [] (natsOf f.mic)).map (fun _ => f.payload)

/-- A frame the device builds (R526): FC, SEQ, NID, addresses, the EUI of a join frame. -/
def macHeader (typ : Nat) (sec ackreq pending : Bool) (seq nid dst src : Nat) (eui : Option Nat) : List Byte :=
  leBytes 2 (typ + (if sec then 8 else 0) + (if ackreq then 16 else 0) + (if pending then 64 else 0)) ++ leBytes 1 seq ++ leBytes 2 nid ++
    leBytes 3 dst ++ leBytes 3 src ++ (match eui with | some e => leBytes 8 e | none => [])

/-- The security header (R181). -/
def secHeader (keyIndex : Nat) (enc mic64 : Bool) (fcnt : Nat) : List Byte :=
  leBytes 1 keyIndex ++ leBytes 1 ((if enc then 1 else 0) + (if mic64 then 2 else 0)) ++ leBytes 4 fcnt

/-- A frame of the device sealed (R182): DIR = 1. -/
def macSeal (key : List Byte) (eui fcnt : Nat) (enc mic64 : Bool) (head payload : List Byte) : List Byte :=
  let n := nonceOf eui fcnt true mic64
  let t := if mic64 then 8 else 4
  if enc then
    let r := ccmSeal (natsOf key) n (natsOf head) (natsOf payload) t
    head ++ bytesOf r.1 ++ bytesOf r.2
  else
    let r := ccmSeal (natsOf key) n (natsOf (head ++ payload)) [] t
    head ++ payload ++ bytesOf r.2

/-- A transmit descriptor (R220): header bits [23:0] of R169 in 4 bytes, then the payload. -/
def descriptor (mode : Nat) (fec white ackf : Bool) (aseq : Nat) (payload : List Byte) : List Byte :=
  leBytes 4 (headerWord mode payload.length fec white true ackf aseq % 2 ^ 24) ++ payload

/-- The field of `n` bytes at an offset of an Eskel request payload. -/
def fld (q : Req) (o n : Nat) : Nat := leAt q.payload o n

/-- A signed field. -/
def sgn (q : Req) (o n : Nat) : Int := signedOf (8 * n) (leAt q.payload o n)

/-- The length of the request payload. -/
def lenOf (q : Req) : Nat := q.payload.length

end Sys2Proof.Machine
end

