-- ==== Sys2Proof/Machine/Channel.lean ====
section
/-! DEFINITION. The channels and their demodulators: detection, the two decoder slots, capture and overlap, holding and re-decoding,
receive records, statistics and trace (R118-R145). -/

namespace Sys2Proof.Machine

/-- The first register of a channel. -/
def chBase (ch : Nat) : Nat := 0x50000 + ch * 0x400

def getSlot (s : State) (ch k : Nat) : Slot := tabGet (fun _ => {}) s.slots (2 * ch + k)
def setSlot (ch k : Nat) (v : Slot) (s : State) : State := { s with slots := tabSet (fun _ => {}) s.slots (2 * ch + k) v }

/-- The state code of a slot (R127), CHNn_STATUS. -/
def slotState (s : State) (ch k : Nat) : Nat := getF s (chBase ch + 0x24) (4 * k + 2) (4 * k)
def setSlotState (ch k v : Nat) (s : State) : State := setF (chBase ch + 0x24) (4 * k + 2) (4 * k) v s

/-- A live counter advanced (R141): counter `k` is read at offset 0x040 + 4k. -/
def count (ch k : Nat) (s : State) : State :=
  { s with live := tabSet (fun _ => 0) s.live (16 * ch + k) (tabGet (fun _ => 0) s.live (16 * ch + k) + 1) }

/-- A trace entry written to the ring of 16 (R143). -/
def trace (ch event slot mode rxseq : Nat) (noSeq : Bool) (s : State) : State :=
  let p := getF s (chBase ch + 0x180) 3 0
  let w0 := rxseq % 65536 + 65536 * event + 2 ^ 20 * slot + (if noSeq then 2 ^ 21 else 0) + 2 ^ 22 * mode
  let w1 := nanoOf s.ntb.net + 2 ^ 30 * (secOf s.ntb.net % 4)
  incF (chBase ch + 0x180) 31 16 1
    (setF (chBase ch + 0x180) 3 0 (p + 1)
      (wr (chBase ch + 0x104 + 8 * p) (BitVec.ofNat 32 w1) (wr (chBase ch + 0x100 + 8 * p) (BitVec.ofNat 32 w0) s)))

/-- The LO and bandwidth of a band, Hz (R71, R92). -/
def bandLo (s : State) (b : Nat) : Nat := (rd s (0x38004 + 4 * b)).toNat
def bandBw (s : State) (b : Nat) : Nat :=
  let code := if b = 0 then getF s 0x38000 5 4 else getF s 0x38000 9 8
  [8000000, 16000000, 32000000, 0].getD code 0

/-- Whether a passband of `width` around `f` lies wholly inside a band (R71). -/
def inBand (s : State) (b f width : Nat) : Bool :=
  decide (2 * ((f : Int) - bandLo s b).natAbs + width ≤ bandBw s b)

/-- The band a passband belongs to: band 0 first; band 1 exists only in 2x2 (R71). -/
def bandOf (s : State) (f width : Nat) : Option Nat :=
  if inBand s 0 f width then some 0 else if getB s 0x38000 0 && inBand s 1 f width then some 1 else none

/-- The active band of a channel: the one its passband lies in, else band 1 (R71). -/
def chBand (s : State) (ch : Nat) : Nat :=
  (bandOf s (rd s (chBase ch + 8)).toNat (filterHz (getF s (chBase ch + 4) 6 4))).getD 1

/-- Whether a channel's power is measured: its passband lies wholly inside a band (R158). -/
def measured (s : State) (ch : Nat) : Bool :=
  (bandOf s (rd s (chBase ch + 8)).toNat (filterHz (getF s (chBase ch + 4) 6 4))).isSome

/-- The 20 us interval of the present clock: the power of a measured channel is updated once in each (R158). -/
def energySlot (s : State) : Nat := s.ntb.clk * 5 / 65536

/-- CHNn_ENERGY (R144, R158): what was measured in this interval, a free value unless a command brought it. -/
def chEnergy (s : State) (ch : Nat) : Word :=
  if !measured s ch ∨ tabGet (fun _ => 0) s.energyAt ch = energySlot s + 1 then rd s (chBase ch + 0x28)
  else (Config.channelPower ch (energySlot s)).setWidth 32

/-- CHNn_ENERGY as a command brings it for this interval. -/
def setEnergy (ch : Nat) (v : BitVec 16) (s : State) : State :=
  wr (chBase ch + 0x28) (v.setWidth 32) { s with energyAt := tabSet (fun _ => 0) s.energyAt ch (energySlot s + 1) }

/-- The paths of a band (R71). -/
def bandPaths (s : State) (b : Nat) : List Nat :=
  if getB s 0x38000 0 then (if b = 0 then [0, 1] else [2, 3]) else (if b = 0 then [0, 1, 2, 3] else [])

/-- The state of a path, RXPn_STATUS.STATE. -/
def pathState (s : State) (p : Nat) : Nat := getF s (0x30004 + p * 0x1000) 2 0

/-- Whether a path delivers samples: SERVICE or SUBSTITUTED. -/
def pathServes (s : State) (p : Nat) : Bool := pathState s p == 2 || pathState s p == 3

/-! ### Shared antennas (R89) -/

/-- The transmit path that shares the antenna of a receive path. -/
def shareTx (s : State) (r : Nat) : Option Nat :=
  let v := getF s (0x30000 + r * 0x1000) 3 2
  if v = 1 then some 0 else if v = 2 then some 1 else none

/-- The greatest of a field of the TRSW_TX and PA_EN outputs of a path, ns: LEAD at bit 8, LAG at bit 16. -/
def feMost (s : State) (r lo : Nat) : Nat :=
  ((List.range 6).map (fun k =>
    let w := rd s (0x30040 + r * 0x1000 + 4 * k)
    if fieldOf w 3 0 = 4 ∨ fieldOf w 3 0 = 6 then 250 * fieldOf w (lo + 5) lo else 0)).foldl max 0

/-- Whether any of the core clocks `lo` to `hi` lies from `lead` ns before the ramp start of a transmit path's last burst to `lag` ns after
its ramp end. -/
def inRampSpan (s : State) (p lead lag lo hi : Nat) : Bool :=
  let t : TxPath := tabGet (fun _ => {}) s.txs p
  match t.rampClk with
  | none => false
  | some a => decide (a ≤ hi + clocksOfNs lead) &&
      (match t.endClk with
        | none => true
        | some e => decide (lo ≤ e + clocksOfNs lag))

/-- Whether a path is blanked in any of the core clocks `lo` to `hi`: from ramp start - LEAD to ramp end + LAG + 2 us of the transmit path
that shares its antenna. -/
def blankedIn (s : State) (r lo hi : Nat) : Bool :=
  match shareTx s r with
  | none => false
  | some p => inRampSpan s p (feMost s r 8) (feMost s r 16 + 2000) lo hi

/-- Whether a path is blanked now. -/
def blanked (s : State) (r : Nat) : Bool := blankedIn s r s.ntb.clk s.ntb.clk

/-- The paths that have a weight on a channel now: source paths in service or substituted, not blanked (R72, R84). -/
def weighted (s : State) (ch : Nat) : List Nat := (bandPaths s (chBand s ch)).filter (fun p => pathServes s p && !blanked s p)

/-- CHNn_SRC: the source paths that serve, path S standing in, and the band (R71, R144). -/
def chSrc (s : State) (ch : Nat) : Word :=
  let b := chBand s ch
  let ps := (bandPaths s b).filter (pathServes s)
  let stand := ps.any (fun p => pathState s p == 3)
  BitVec.ofNat 32 ((ps.map (fun p => 2 ^ p)).sum + (if stand then 16 else 0) + 256 * b)

/-- The modes of a channel's detection set (R118). -/
def chModes (s : State) (ch : Nat) : List Nat :=
  let w := rd s (chBase ch + 0xC)
  [fieldOf w 3 0, fieldOf w 7 4, fieldOf w 11 8].filter (fun m => m < 8)

/-- The cross-field checks of a channel apply, over the shadow (R120). -/
def chanCheck (ch : Nat) (s : State) : Nat :=
  let sh := fun o => rdShadow s (chBase ch + o)
  let en := bitOf (sh 4) 0
  let filt := fieldOf (sh 4) 6 4
  let fields := [fieldOf (sh 0xC) 3 0, fieldOf (sh 0xC) 7 4, fieldOf (sh 0xC) 11 8]
  let named := fields.filter (fun m => m < 8)
  if en && filt != 7 && (bandOf s (sh 8).toNat (filterHz filt)).isNone then 1
  else if en && (named.isEmpty || fields.any (fun m => 8 ≤ m && m ≤ 14) || !decide named.Nodup) then 2
  else if bitOf (sh 0x18) 0 && 3 < fieldOf (sh 0x1C) 2 0 then 3
  else if filt == 7 || named.any (fun m => filt < minFilter m) then 4
  else if fieldOf (sh 0x10) 1 0 == 3 || fieldOf (sh 0x10) 11 8 < 3 || 15 < fieldOf (sh 0x10) 11 8 then 5
  else 0

/-- Whether the boundary of a channel unit is reached: both slots free, so no re-decode pends (R27). -/
def chanBoundary (s : State) (ch : Nat) : Bool := slotState s ch 0 == 0 && slotState s ch 1 == 0

/-- STEP_SEEN follows the recorded steps of the two slots (R145). -/
def stepSeenUpdate (ch : Nat) (s : State) : State :=
  setB (chBase ch + 0x24) 9 ((getSlot s ch 0).stepSeen || (getSlot s ch 1).stepSeen) s

/-- The record of a reception (R138, R139). -/
def recordOf (ch k : Nat) (x : Slot) (outcome : Nat) (payload : List Byte) (crc : Nat) (soft : List Byte) : RxRec :=
  { ch := ch, slot := k, mode := x.mode, header := x.header, stamp := x.stamp, step := x.step, anch := x.anch, outcome := outcome, flags := x.flags,
    rssi := x.rssi, snr := x.snr, foff := x.foff, rxseq := x.rxseq, related := x.related, payload := payload, crc := crc, soft := soft }

/-- The bytes of a record (R139). -/
def recordBytes (r : RxRec) : List Byte :=
  let fec := r.header.testBit 14
  let white := r.header.testBit 15
  leBytes 8 (secOf r.stamp) ++ leBytes 4 (nanoOf r.stamp) ++ leBytes 1 r.step ++ leBytes 1 r.ch ++
    leBytes 1 (r.mode + 8 * r.slot + (if fec then 16 else 0) + (if white then 32 else 0)) ++ leBytes 1 r.outcome ++
    leBytes 4 r.flags.toNat ++ leBytes 2 r.rssi.toNat ++ leBytes 2 r.snr.toNat ++ leBytes 2 r.foff.toNat ++
    leBytes 2 (r.header / 8 % 2048) ++ leBytes 2 r.rxseq ++ leBytes 2 r.related

/-- The payload length and the number of channel bits that a checked header announces (R169, R175). -/
def slotLen (x : Slot) : Nat := x.header / 8 % 2048
def slotBits (x : Slot) : Nat := codedBits (x.header.testBit 14) (slotLen x)

/-- The core clock of a proven reception's last channel bit. -/
def lastBitClk (x : Slot) : Nat := x.clk + clocksOfNs ((headerLen x.mode + slotBits x) * 160000 / bitRate x.mode)

/-- A reception that its channel's signal still feeds: up to its last channel bit. -/
def slotLive (s : State) (ch k : Nat) : Bool :=
  let st := slotState s ch k
  st == 1 || ((st == 2 || st == 3) && decide (s.ntb.clk ≤ lastBitClk (getSlot s ch k)))

/-- A source path of a reception's channel was blanked during the reception (R140). -/
def blankedDuring (s : State) (ch k : Nat) : Bool :=
  let x := getSlot s ch k
  slotState s ch k != 0 && (bandPaths s (chBand s ch)).any (fun r => blankedIn s r x.clk (min s.ntb.clk (lastBitClk x)))

/-- The payload bytes and CRC-32 that a released reception has received so far: free values (R138; log entry 142). -/
def cutPayload (s : State) (x : Slot) : List Byte × Nat :=
  (((List.range (ceilDiv (slotLen x) 16)).flatMap (fun i => leBytes 16 (Config.freeBytes (s.free + i)).toNat)).take (slotLen x),
    (Config.freeCal s.free).toNat)

/-- A reception reaches its outcome and its slot is freed (R127, R138, R141): 0 OK, 1 CRC_FAIL, 2 ABANDONED, 3 FALSE_SYNC,
4 HDR_INVALID. A held reception it captured learns of the end (R133); a pending capture over it is forgotten (R132). -/
def endReception (ch k outcome : Nat) (payload : List Byte) (crc : Nat) (soft : List Byte) (s : State) : State :=
  let x := getSlot s ch k
  let x := if blankedDuring s ch k then { x with flags := x.flags ||| 2 } else x
  let checked := slotState s ch k != 1 || outcome == 0
  let s := count ch ([1, 2, 5, 3, 4].getD outcome 5) s
  let s := trace ch ([9, 10, 11, 3, 4].getD outcome 11) k x.mode x.rxseq false s
  let s := raiseSrc (112 + ch) s
  let s := if checked && outcome < 3 then { s with intake := s.intake ++ [recordOf ch k x outcome payload crc soft] } else s
  let o := getSlot s ch (1 - k)
  let o := if slotState s ch (1 - k) == 3 && o.captorEnd.isNone then { o with captorEnd := some (outcome == 0, x.rxseq) } else { o with pendCapture := false }
  let s := if slotState s ch (1 - k) == 0 then s else setSlot ch (1 - k) o s
  stepSeenUpdate ch (setSlotState ch k 0 (setSlot ch k {} s))

/-- A flag bit set in a slot's record. -/
def flagSlot (ch k bit : Nat) (s : State) : State :=
  setSlot ch k { getSlot s ch k with flags := (getSlot s ch k).flags ||| BitVec.ofNat 32 (2 ^ bit) } s

/-- A slot's reception is released as ABANDONED with what it has received (R138). -/
def abandonSlot (ch k : Nat) (s : State) : State :=
  let p := cutPayload s (getSlot s ch k)
  endReception ch k 2 p.1 p.2 [] { s with free := s.free + ceilDiv (slotLen (getSlot s ch k)) 16 + 1 }

/-- Every reception in progress whose channel draws on a path and that `live` names gets a flag (R84). -/
def flagWhere (live : State → Nat → Nat → Bool) (p bit : Nat) (s : State) : State :=
  forAll (List.range 64) (fun ch s =>
    if (bandPaths s (chBand s ch)).contains p then forAll [0, 1] (fun k => onlyIf (live s ch k) (flagSlot ch k bit)) s
    else s) s

/-- A flag of the whole reception: BLANKED or PATH_SWITCHED. -/
def flagPath (p bit : Nat) (s : State) : State := flagWhere slotLive p bit s

/-- AGC_MOVED (R84, R140): a gain step of a path that has a weight falls within the payload. A step within the sync word is found at the
match, and the header is neither. -/
def flagMoved (p : Nat) (s : State) : State :=
  if pathServes s p && !blanked s p then flagWhere (fun s ch k => slotLive s ch k && slotState s ch k != 1) p 0 s else s

/-- Every reception in progress on a band is abandoned with the flag BAND_RETUNE (R84, R88, R104). -/
def abandonBand (b : Nat) (s : State) : State :=
  forAll (List.range 64) (fun ch s =>
    if chBand s ch == b then
      forAll [0, 1] (fun k => onlyIf (slotState s ch k != 0) (fun s => abandonSlot ch k (flagSlot ch k 3 s))) s
    else s) s

/-- The blocks of the hold region in use (R135). -/
def holdUsed (s : State) : Nat := (s.slots.map (fun p => p.2.blocks)).sum

/-- Sixteen symbols of a mode in core clocks: 64 of them fill a block (R135). -/
def symbolClocks (mode n : Nat) : Nat := clocksOfNs (n * 160000 / symbolRate mode)

/-- The core clock at which a recording needs its next block, if it still grows: 16 B for each symbol, up to the last channel bit. -/
def nextBlockClk (x : Slot) : Option Nat :=
  let c := x.recClk + symbolClocks x.mode (64 * x.blocks)
  if x.blocks ≠ 0 ∧ c < lastBitClk x then some c else none

/-- A recording that gets no block stops and is discarded (R135). -/
def holdFails (ch k : Nat) (s : State) : State :=
  let x := getSlot s ch k
  trace ch 15 k x.mode x.rxseq false
    (count ch 13 (setB (chBase ch + 0x24) 16 true (flagSlot ch k 9 (setSlot ch k { x with blocks := 0 } s))))

/-- One more block for a recording, or none left. -/
def takeBlock (ch k : Nat) (s : State) : State :=
  let x := getSlot s ch k
  if holdUsed s < 1024 then setSlot ch k { x with blocks := x.blocks + 1 } s else holdFails ch k s

/-- The recording that needs a block first, by the present clock: its slot's key. -/
def blockDue (s : State) : Option Nat :=
  (s.slots.foldl (fun (b : Option (Nat × Nat)) p =>
    match nextBlockClk p.2 with
    | some c => if c < s.ntb.clk ∧ (b.all (fun q => decide (c < q.2))) then some (p.1, c) else b
    | none => b) none).map (fun q => q.1)

/-- The recordings grow block by block as time passes (R135). -/
def growHolds : Nat → State → State
  | 0, s => s
  | fuel + 1, s =>
    match blockDue s with
    | none => s
    | some i => growHolds fuel (takeBlock (i / 2) (i % 2) s)

/-- Every allocation that fell due up to now. -/
def holdCatchUp (s : State) : State := growHolds 2048 s

/-- A recording starts 16 symbols before the step, or cannot be allocated and sets HOLD_FAIL (R133, R135). -/
def startRecording (ch k : Nat) (s : State) : State :=
  let x := getSlot s ch k
  holdCatchUp (takeBlock ch k (setSlot ch k { x with recClk := x.stepClk - symbolClocks x.mode 16, blocks := 0 } s))

/-- A slot becomes HELD (R133). -/
def holdSlot (ch k : Nat) (s : State) : State :=
  let x := getSlot s ch k
  trace ch 7 k x.mode x.rxseq false (setSlotState ch k 3 (flagSlot ch k 6 s))

/-- The clock of a path's last gain step lies within the sync word of a match now (R140). -/
def movedInSync (s : State) (ch mode : Nat) : Bool :=
  let syms := if getB s (chBase ch + 0x18) 0 then 16 else 32
  (weighted s ch).any (fun p =>
    let t := (tabGet (fun _ => {}) s.paths (if pathState s p = 3 then 4 else p)).lastStep
    t != 0 && decide (s.ntb.clk - t ≤ symbolClocks mode syms))

/-- The source paths with a non-zero weight at the sync end of a match (R72, R140). -/
def matchPaths (s : State) (ch : Nat) (m : Match) : List Nat := (weighted s ch).filter (fun p => m.paths.getLsbD p)

/-- The delays between the antenna and the instant of detection (R58), 2^-56 ns: those of the reference path, the lowest-lettered of
PATHS, whichever path stands in for it. -/
def stampDelay (s : State) (ch : Nat) (ps : List Nat) : Nat :=
  match ps with
  | [] => 0
  | p :: _ => Config.groupDelay p (getF s (chBase ch + 4) 6 4) + getF s (0x20080 + 4 * p) 11 0 * nsUnit

/-- The sync bits in which the window of a match differs from the channel's sync word (R125). -/
def syncErrs (s : State) (ch : Nat) (m : Match) : Nat :=
  let len := if getB s (chBase ch + 0x18) 0 then 16 else 32
  ((List.range len).filter (fun i => bitOf m.window i != bitOf (rd s (chBase ch + 0x20)) i)).length

/-- FLAGS at the commit of a match (R140). -/
def commitFlags (s : State) (ch : Nat) (m : Match) : Nat :=
  let ps := matchPaths s ch m
  (if movedInSync s ch m.mode.val then 1 else 0) + (if (bandPaths s (chBand s ch)).any (blanked s) then 2 else 0) +
    (if ps.any (fun p => pathState s p == 3) then 2 ^ 10 else 0) + 2 ^ 16 * (ps.map (2 ^ ·)).sum + 2 ^ 24 * (syncErrs s ch m % 8)

/-- A match commits into slot `k` (R127, R139): the next RXSEQ, the stamp, the latched signal and AGC value (R124). -/
def commitSlot (ch k : Nat) (m : Match) (flags related : Nat) (pend : Bool) (event : Nat) (s : State) : State :=
  let seq := getF s (chBase ch + 0x30) 15 0
  let dly := stampDelay s ch (matchPaths s ch m)
  let x : Slot := { rxseq := seq, mode := m.mode.val, stamp := s.ntb.net - dly, step := stepByte s, anch := s.ntb.anch - dly, rssi := m.rssi,
                    snr := m.snr, foff := m.foff, clk := s.ntb.clk, agc := tabGet (fun _ => 0) s.agc ch,
                    flags := BitVec.ofNat 32 (flags + commitFlags s ch m), related := related, pendCapture := pend }
  let s := setSlotState ch k 1 (setSlot ch k x s)
  let s := wr (chBase ch + 0x2C) (BitVec.ofNat 32 m.rssi.toNat) (setF (chBase ch + 0x30) 15 0 (seq + 1) s)
  let s := count ch 0 s
  let s := if k == 1 then count ch 10 s else s
  raiseSrc (48 + ch) (trace ch event k m.mode.val seq false s)

/-- Whether a band delivers samples: its synthesiser is locked, a path serves, and the cancellers have converged after a retune (R81, R88,
R104). -/
def bandHears (s : State) (b : Nat) : Bool :=
  getB s (0x40004 + b * 0x1000) 3 && (bandPaths s b).any (pathServes s) && decide (tabGet (fun _ => 0) s.pathS.resume b ≤ s.ntb.clk)

/-- Whether a carrier offset, 20 Hz units, is one that the filter of a channel tolerates for a mode (R119; log entry 143). -/
def offsetOk (s : State) (ch mode : Nat) (foff : BitVec 16) : Bool :=
  let spare := filterHz (getF s (chBase ch + 4) 6 4) - filterHz (minFilter mode)
  decide (40 * foff.toInt.natAbs ≤ max spare (3125 * symbolRate mode))

/-- A match that is taken as the same frame as a reception already in a slot in its mode (R126). -/
def sameFrame (s : State) (ch mode k : Nat) : Bool :=
  slotState s ch k != 0 && (getSlot s ch k).mode == mode && decide (s.ntb.clk - (getSlot s ch k).clk ≤ symbolClocks mode 2)

/-- The matches that pass the detector's conditions (R125), all but the apply refusal. -/
def passing (s : State) (ch : Nat) (found : List Match) : List Match :=
  if getB s (chBase ch + 4) 0 && !getB s (chBase ch + 0x24) 8 && !(inWatch s && (decide (8 ≤ ch) || chBand s ch == 1)) && bandHears s (chBand s ch) then
    found.filter (fun m => decide (m.mode.val ∈ chModes s ch) && decide (16 ≤ m.preamble) && !(matchPaths s ch m).isEmpty &&
      decide (syncErrs s ch m ≤ getF s (chBase ch + 0x1C) 2 0) && offsetOk s ch m.mode.val m.foff &&
      !([0, 1].any (sameFrame s ch m.mode.val)))
  else []

/-- Of several matches in one clock the one with fewer sync errors, then the lower mode (R126). -/
def bestMatch (s : State) (ch : Nat) : List Match → Option Match
  | [] => none
  | m :: ms =>
    match bestMatch s ch ms with
    | none => some m
    | some b =>
      if syncErrs s ch m < syncErrs s ch b ∨ (syncErrs s ch m = syncErrs s ch b ∧ m.mode.val ≤ b.mode.val) then some m else some b

/-- A match against a free slot `k` while the other slot is in state `st` (R127-R134). -/
def placeMatch (ch k : Nat) (m : Match) (s : State) : State :=
  let j := 1 - k
  let st := slotState s ch j
  let o := getSlot s ch j
  let policy := getF s (chBase ch + 0x10) 1 0
  let seq := getF s (chBase ch + 0x30) 15 0
  if st = 0 then commitSlot ch k m 0 0 false 1 s
  else if st = 1 then commitSlot ch k m (2 ^ 8) 0 o.stepSeen 1 s
  else if o.stepSeen then
    let s := count ch 7 s
    if policy = 0 then trace ch 13 k m.mode.val 0 true (count ch 8 s)
    else
      let s := setSlot ch j { o with flags := o.flags ||| 0x20, related := seq } s
      let s := if policy = 1 ∨ st ≠ 2 then abandonSlot ch j s else s
      let s := commitSlot ch k m (2 ^ 4) o.rxseq false 5 s
      if policy ≠ 1 ∧ st = 2 ∧ o.blocks ≠ 0 then holdSlot ch j s else s
  else if st = 2 then
    let s := setSlot ch j { o with flags := o.flags ||| 0x20, related := seq } s
    count ch 14 (commitSlot ch k m (2 ^ 5) o.rxseq false 6 s)
  else commitSlot ch k m 0 0 false 1 s

/-- The AGC of a channel runs on (R124): the value that stands at the match. -/
def agcSeen (ch : Nat) (found : List Match) (s : State) : State :=
  match found with
  | [] => s
  | m :: _ => { s with agc := tabSet (fun _ => 0) s.agc ch m.agc }

/-- SYNC_MATCH (R124-R134). -/
def syncMatch (ch : Fin 64) (found : List Match) (s : State) : State :=
  let s := agcSeen ch.val found (holdCatchUp s)
  match bestMatch s ch.val (passing s ch.val found) with
  | none => s
  | some m =>
    if applyPending s (chBase ch.val) && !applyHeld s (chBase ch.val) then
      trace ch.val 14 0 m.mode.val 0 true (count ch.val 11 s)
    else if slotState s ch.val 0 = 0 then placeMatch ch.val 0 m s
    else if slotState s ch.val 1 = 0 then placeMatch ch.val 1 m s
    else trace ch.val 12 0 m.mode.val 0 true (count ch.val 6 s)

/-- Whether a header that passed its CRC-8 is invalid for a detector of mode `mode` (R122, R171). -/
def headerInvalid (mode h : Nat) : Bool :=
  h / 2 ^ 18 % 4 != 1 || (h.testBit 21 && h / 8 % 2048 != 0) || h % 8 != mode ||
    (mode == 0 && !h.testBit 14) || (2 ≤ mode && h.testBit 14)

/-- A pending capture takes effect when the earlier reception proves itself (R132): slot `k` earlier, the other the new one. -/
def pendingCapture (ch k : Nat) (s : State) : State :=
  let j := 1 - k
  let n := getSlot s ch j
  let x := getSlot s ch k
  let policy := getF s (chBase ch + 0x10) 1 0
  if slotState s ch j != 0 && n.pendCapture then
    let s := trace ch 5 j n.mode n.rxseq false (count ch 7 s)
    if policy = 0 then abandonSlot ch j s
    else
      let s := setSlot ch j { n with pendCapture := false, flags := n.flags ||| 0x10, related := x.rxseq } s
      let s := setSlot ch k { x with flags := x.flags ||| 0x20, related := n.rxseq } s
      if policy = 1 then abandonSlot ch k s
      else
        let s := if x.blocks = 0 ∧ !x.flags.getLsbD 9 then startRecording ch k s else s
        if (getSlot s ch k).blocks ≠ 0 then holdSlot ch k s else s
  else s

/-- HEADER_CHECK (R128, R129, R171, R172). -/
def headerCheck (ch : Fin 64) (slot : Fin 2) (header : Word) (s : State) : State :=
  let c := ch.val
  let k := slot.val
  let h := header.toNat
  let s := holdCatchUp s
  let x := getSlot s c k
  if slotState s c k ≠ 1 then s
  else if hcrc (h % 2 ^ 24) ≠ h / 2 ^ 24 then endReception c k 3 [] 0 [] s
  else if headerInvalid x.mode h then endReception c k 4 [] 0 [] s
  else
    let s := trace c 2 k x.mode x.rxseq false (setSlot c k { x with header := h } s)
    if h / 8 % 2048 = 0 then endReception c k 0 [] 0 [] (count c 12 s)
    else
      let s := setSlotState c k 2 s
      let s := if x.stepSeen && getF s (chBase c + 0x10) 1 0 == 2 then startRecording c k s else s
      pendingCapture c k s

/-- The soft symbols of a reception: one for each channel bit of its payload, within 127 either way (R137). -/
def softOf (x : Slot) (soft : List Byte) : List Byte :=
  (padTo (slotBits x) soft).map (fun b => BitVec.ofInt 8 (softOfByte b))

/-- What the decoder makes of a reception's soft symbols (R123): the payload and the CRC-32 received with it. -/
def slotDecode (x : Slot) (soft : List Byte) : List Byte × Nat :=
  let bs := decodeSoft (x.header.testBit 14) (x.header.testBit 15) (slotLen x) ((softOf x soft).map softOfByte)
  (bs.take (slotLen x), leAt bs (slotLen x) 4)

/-- Whether a decoded payload has the CRC-32 that came with it (R128, R173). -/
def payloadGood (d : List Byte × Nat) : Bool := crc32 d.1 == d.2

/-- A decoded reception ends OK, or CRC_FAIL with its soft symbols left (R137, R138). -/
def endDecoded (ch k : Nat) (soft : List Byte) (s : State) : State :=
  let x := getSlot s ch k
  let d := slotDecode x soft
  if payloadGood d then endReception ch k 0 d.1 d.2 [] s else endReception ch k 1 d.1 d.2 (softOf x soft) s

/-- PAYLOAD_CRC (R123, R128, R133, R138): the result of the live demodulation, from its soft symbols. A HELD reception that fails waits
for its re-decode unless its recording is lost, and one that passes after its re-decode began ends OK. -/
def payloadCrc (ch : Fin 64) (slot : Fin 2) (soft : List Byte) (s : State) : State :=
  let c := ch.val
  let k := slot.val
  let s := holdCatchUp s
  let x := getSlot s c k
  let st := slotState s c k
  if st = 2 ∨ (st = 3 ∧ x.blocks = 0) then endDecoded c k soft s
  else if st = 3 ∨ st = 4 then
    if payloadGood (slotDecode x soft) then endDecoded c k soft s else setSlot c k { x with liveFailed := true } s
  else s

/-- The level at which a power step is recorded over a reception (R131), 0.25 dBm. -/
def stepLevel (s : State) (ch : Nat) (x : Slot) : Int := x.rssi.toInt + 4 * getF s (chBase ch + 0x10) 11 8

/-- POWER_STEP (R124, R131, R133): the channel power over 8 symbols. From the level of the step on, the step is recorded over a live
reception, and under BOTH a payload is recorded. -/
def powerStep (ch : Fin 64) (slot : Fin 2) (power : BitVec 16) (s : State) : State :=
  let c := ch.val
  let k := slot.val
  let s := holdCatchUp s
  let x := getSlot s c k
  let st := slotState s c k
  if (st = 1 ∨ st = 2 ∨ (st = 3 ∧ !x.liveFailed)) ∧ stepLevel s c x ≤ power.toInt then
    let clk := if x.stepSeen then x.stepClk else s.ntb.clk
    let s := stepSeenUpdate c
      (setSlot c k { x with stepSeen := true, stepClk := clk, clipped := x.clipped || decide (x.agc.toInt + 72 < power.toInt) } s)
    if st = 2 ∧ getF s (chBase c + 0x10) 1 0 = 2 ∧ x.blocks = 0 ∧ !x.flags.getLsbD 9 then startRecording c k s else s
  else s

/-- POWER_STEP_CLEAR (R131, R133): the power has fallen 1 dB below the level, so the step clears; a recording with no capture is
discarded. -/
def powerStepClear (ch : Fin 64) (slot : Fin 2) (power : BitVec 16) (s : State) : State :=
  let c := ch.val
  let k := slot.val
  let s := holdCatchUp s
  let x := getSlot s c k
  let st := slotState s c k
  if power.toInt < stepLevel s c x - 4 then
    stepSeenUpdate c (setSlot c k { x with stepSeen := false, blocks := if st = 3 ∨ st = 4 then x.blocks else 0 } s)
  else s

/-- The slot of a channel that waits for its subtraction: HELD with its recording, its captor ended, its last channel bit past (R133). -/
def waitingHeld (s : State) (ch k : Nat) : Bool :=
  let x := getSlot s ch k
  slotState s ch k == 3 && x.captorEnd.isSome && x.blocks != 0 && decide (lastBitClk x < s.ntb.clk)

/-- A held slot enters REDECODE, subtracted when its captor ended OK (R133). -/
def enterRedecode (ch k : Nat) (s : State) : State :=
  let x := getSlot s ch k
  match x.captorEnd with
  | some (true, seq) =>
    trace ch 8 k x.mode x.rxseq false (setSlotState ch k 4 (setSlot ch k { x with subtracted := true, related := seq } s))
  | _ => setSlotState ch k 4 s

/-- SUBTRACT_START (R133). -/
def subtractStart (ch : Fin 64) (s : State) : State :=
  let s := holdCatchUp s
  if waitingHeld s ch.val 0 then enterRedecode ch.val 0 s
  else if waitingHeld s ch.val 1 then enterRedecode ch.val 1 s
  else s

/-- REDECODE_END (R133, R140, R141): the soft symbols of the re-decode. -/
def redecodeEnd (ch : Fin 64) (slot : Fin 2) (soft : List Byte) (s : State) : State :=
  let c := ch.val
  let k := slot.val
  let s := holdCatchUp s
  let x := getSlot s c k
  if slotState s c k ≠ 4 then s
  else if payloadGood (slotDecode x soft) && x.subtracted then endDecoded c k soft (count c 9 (flagSlot c k 7 s))
  else endDecoded c k soft s

/-- The fifteen live counters copied to their read registers (R142). -/
def latchStats (ch : Nat) (s : State) : State :=
  forAll (List.range 15) (fun k s => wr (chBase ch + 0x40 + 4 * k) (tabGet (fun _ => 0) s.live (16 * ch + k)) s) s

/-- All live counters of a channel set to 0 (R142). -/
def clearStats (ch : Nat) (s : State) : State :=
  { s with live := s.live.filter (fun p => p.1 / 16 != ch) }

/-- STAT_LATCH (R142). -/
def statLatch (ch : Fin 64) (s : State) : State := latchStats ch.val s

/-- STAT_CLEAR (R142). -/
def statClear (ch : Fin 64) (s : State) : State := clearStats ch.val s

def execSyncMatch (ch : Fin 64) (found : List Match) (s : State) : Res := .next (syncMatch ch found s)
def execPowerStep (ch : Fin 64) (slot : Fin 2) (power : BitVec 16) (s : State) : Res := .next (powerStep ch slot power s)
def execPowerStepClear (ch : Fin 64) (slot : Fin 2) (power : BitVec 16) (s : State) : Res := .next (powerStepClear ch slot power s)
def execSubtractStart (ch : Fin 64) (s : State) : Res := .next (subtractStart ch s)
def execStatLatch (ch : Fin 64) (s : State) : Res := .next (statLatch ch s)
def execStatClear (ch : Fin 64) (s : State) : Res := .next (statClear ch s)

end Sys2Proof.Machine
end

