-- ==== Sys2Proof/Machine/Synth.lean ====
section
/-! DEFINITION. The synthesisers: states, hops, calibration tables, staleness and idle-gap refreshes (R93-R101, R108, R113-R116). -/

namespace Sys2Proof.Machine

/-- Core clocks in a millisecond (R14): 655,360. -/
def clkMs : Nat := 655360

/-- A radio-die temperature sensor, signed 0.25 degC (R457). -/
def sensorTemp (s : State) (n : Nat) : Int := signedOf 16 (getF s (0xD0000 + 4 * n) 15 0)

/-- The first register of a synthesiser page. -/
def synBase (n : Nat) : Nat := 0x40000 + n * 0x1000
def getSyn (s : State) (n : Nat) : Synth := tabGet (fun _ => {}) s.syns n
def setSyn (n : Nat) (v : Synth) (s : State) : State := { s with syns := tabSet (fun _ => {}) s.syns n v }
def synState (s : State) (n : Nat) : Nat := getF s (synBase n + 4) 2 0

/-- STATE and LOCK of a synthesiser set together: LOCK is 1 in LOCKED only (R95, R101). -/
def setSynState (n v : Nat) (s : State) : State := setB (synBase n + 4) 3 (v == 4) (setF (synBase n + 4) 2 0 v s)

/-- The sensor nearest a synthesiser (R442). -/
def synSensor (n : Nat) : Nat := [0, 0, 2, 3].getD n 0

/-- Its temperature in whole degC, rounded down (R114). -/
def synTemp (s : State) (n : Nat) : Int := sensorTemp s (synSensor n) / 4

/-- The table entry that covers a frequency (R96): by raster on SYN2 and SYN3, by exact frequency on SYN0 and SYN1. -/
def entryFor (s : State) (n f : Nat) : Option Nat :=
  if n < 2 then ((getSyn s n).table.find? (fun p => p.2.valid && p.2.freq == f)).map (fun p => p.1)
  else
    let base := (rd s (synBase n + 0x10)).toNat
    let k := (f - base) / (rd s (synBase n + 0x14)).toNat
    if base ≤ f ∧ k < 512 then some k else none

def getEntry (s : State) (n k : Nat) : CalEntry := tabGet (fun _ => {}) (getSyn s n).table k
def setEntry (n k : Nat) (e : CalEntry) (s : State) : State :=
  setSyn n { getSyn s n with table := tabSet (fun _ => {}) (getSyn s n).table k e } s

/-- Whether an entry is stale at the present temperature (R97). -/
def staleNow (s : State) (n : Nat) (e : CalEntry) : Bool :=
  let dt := getF s (synBase n) 15 8
  e.valid && dt != 0 && decide (4 * dt < (sensorTemp s (synSensor n) - 4 * e.temp).natAbs)

/-- Every entry of a synthesiser judged afresh (R97). -/
def judgeStale (n : Nat) (s : State) : State :=
  forAll ((getSyn s n).table.map (fun p => p.1)) (fun k s => setEntry n k { getEntry s n k with stale := staleNow s n (getEntry s n k) } s) s

/-- The entry a fresh calibration of SYN0 or SYN1 replaces: its own, a free one, or the least recently used (R96). -/
def rxVictim (s : State) (n f : Nat) : Nat :=
  match entryFor s n f with
  | some k => k
  | none =>
    match (List.range 8).find? (fun k => !(getEntry s n k).valid) with
    | some k => k
    | none => (List.range 8).foldl (fun b k => if (getEntry s n k).used < (getEntry s n b).used then k else b) 0

/-- A fresh entry written after a full calibration (R98): its trims are free values. A frequency outside the table stores none. -/
def storeEntry (n f : Nat) (s : State) : State :=
  match (if n < 2 then some (rxVictim s n f) else entryFor s n f) with
  | none => s
  | some k =>
    drawFree (setEntry n k { valid := true, stale := false, temp := synTemp s n, draw := s.free, freq := if n < 2 then f else 0, used := s.ntb.clk } s)

/-- Whether a hop to a frequency finds an entry that is VALID and not STALE, as judged at the hop (R97, R98). -/
def hopFresh (s : State) (n f : Nat) : Bool :=
  match entryFor s n f with
  | none => false
  | some k => (getEntry s n k).valid && !staleNow s n (getEntry s n k)

/-- The tuning word nearest a frequency, in steps of 40.96 MHz / 2^24 (R93), and the LO that a word gives, to the nearest Hz (log entry
144). -/
def tuneWord (f : Nat) : Nat := (f * 2 ^ 24 + 20480000) / 40960000
def tunedHz (w : Nat) : Nat := (w * 40960000 + 2 ^ 23) / 2 ^ 24

/-- A synthesiser is locked to a frequency. -/
def lockedTo (s : State) (n f : Nat) : Bool := synState s n == 4 && tuneWord (getSyn s n).target == tuneWord f

/-- A synthesiser acquires: SETTLING or CAL (R101). -/
def acquiring (s : State) (n : Nat) : Bool := synState s n == 2 || synState s n == 3

/-- A synthesiser moves to a frequency (R98): with a fresh entry it settles, otherwise it calibrates in full. -/
def hop (n f : Nat) (s : State) : State :=
  if lockedTo s n f then s
  else
    let s := judgeStale n s
    let s := setSyn n { getSyn s n with target := f, retried := false, since := s.ntb.clk } s
    if hopFresh s n f then setSynState n 2 (incW (synBase n + 0x24) s)
    else setSynState n 3 (incW (synBase n + 0x28) s)

/-- A full calibration from scratch, as after a lock loss of SYN0 or SYN1 (R104). -/
def fullCal (n f : Nat) (s : State) : State :=
  setSynState n 3 (incW (synBase n + 0x28) (setSyn n { getSyn s n with target := f, retried := false, since := s.ntb.clk } s))

/-- Lock is detected (R95): a calibration is stored. A refresh then hops to the LO that a waiting command wants, or back to where it came
from, or returns to Standby, and to Sleep in WATCH on SYN3 (R426). -/
def lockReached (n : Nat) (wanted : Option Nat) (s : State) : State :=
  let y := getSyn s n
  if synState s n = 3 ∧ y.refreshing.isSome then
    let s := storeEntry n y.target s
    let s := setSyn n { getSyn s n with refreshing := none, before := none } s
    match wanted.orElse (fun _ => y.before) with
    | some f => hop n f (setSynState n 1 s)
    | none => setSynState n (if n = 3 && inWatch s then 0 else 1) s
  else if acquiring s n then
    let s := if synState s n = 3 then storeEntry n y.target s
      else match entryFor s n y.target with
        | some k => setEntry n k { getEntry s n k with used := s.ntb.clk } s
        | none => s
    setSynState n 4 (wr (synBase n + 8) (BitVec.ofNat 32 (tunedHz (tuneWord y.target))) s)
  else s

/-- Where a refresh of an entry calibrates: its exact frequency on SYN0 and SYN1, the centre of its raster step on SYN2 and SYN3. -/
def entryFreq (s : State) (n k : Nat) : Nat :=
  if n < 2 then (getEntry s n k).freq
  else (rd s (synBase n + 0x10)).toNat + k * (rd s (synBase n + 0x14)).toNat + (rd s (synBase n + 0x14)).toNat / 2

/-- SYNn_CAL_DATA: the entry that CAL_IDX shows (R116); its trims are free values. -/
def synCalData (s : State) (n : Nat) : Word :=
  let e := getEntry s n (getF s (synBase n + 0x18) 8 0)
  if e.valid then
    BitVec.ofNat 32 (2 ^ 31 + (if e.stale then 2 ^ 29 else 0) + 2 ^ 17 * unsignedOf 8 e.temp) |||
      (Config.freeCal e.draw &&& 0x1FFFF)
  else 0

/-- SYNn_TABLE_STATE (R114). -/
def synTableState (s : State) (n : Nat) : Word :=
  let es := (getSyn s n).table
  BitVec.ofNat 32 ((es.filter (fun p => p.2.valid && p.2.stale)).length + 65536 * (es.filter (fun p => p.2.valid)).length)

/-- SYNn_TEMP of the synthesisers nearest a sensor, as it takes a reading (R114). -/
def synTempSample (sensor : Nat) (s : State) : State :=
  forAll ([0, 1, 2, 3].filter (fun n => synSensor n == sensor))
    (fun n s => wr (synBase n + 0xC) (BitVec.ofNat 32 (unsignedOf 8 (synTemp s n) + 256 * synSensor n)) s) s

/-- Idle-gap work of a synthesiser queued (R99, R114). -/
def queueWork (n : Nat) (ks : List Nat) (s : State) : State :=
  let y := getSyn s n
  setSyn n { y with work := y.work ++ ks.filter (fun k => !y.work.contains k) } s

/-- STALE_EVAL (R97): all four synthesisers, every 100 ms. -/
def staleEval (s : State) : State := forAll [0, 1, 2, 3] judgeStale s

/-- The entries of a kind, the oldest temperature first (R99). -/
def oldestFirst (s : State) (n : Nat) (want : CalEntry → Bool) : List Nat :=
  (((getSyn s n).table.filter (fun p => want p.2)).mergeSort (fun a b => decide (a.2.draw ≤ b.2.draw))).map (fun p => p.1)

/-- REFRESH_STALE (R114). -/
def refreshStale (n : Nat) (s : State) : State :=
  queueWork n (oldestFirst s n (fun e => e.valid && e.stale)) s

/-- CAL_ENTRY (R114): the entry that CAL_IDX names; one of SYN0 or SYN1 that holds no calibration has no frequency to calibrate at. -/
def calEntry (n : Nat) (s : State) : State :=
  let k := if n < 2 then getF s (synBase n + 0x18) 2 0 else getF s (synBase n + 0x18) 8 0
  if n < 2 && !(getEntry s n k).valid then s else queueWork n [k] s

/-- CAL_ALL_VALID (R114). -/
def calAllValid (n : Nat) (s : State) : State :=
  queueWork n (oldestFirst s n (fun e => e.valid)) s

/-! ### Idle gaps (R99) -/

/-- The entry a refresh takes (R99, R114): queued work first, else on SYN2 and SYN3 the stale entry of the oldest temperature. -/
def refreshPick (s : State) (y : Nat) : Option Nat :=
  match (getSyn s y).work with
  | k :: _ => some k
  | [] => if decide (2 ≤ y) && getB s (synBase y) 0 then (oldestFirst s y (fun e => e.valid && e.stale)).head? else none

/-- A refresh begins (R98, R99). -/
def refreshBegin (y : Nat) (s : State) : State :=
  match refreshPick s y with
  | none => s
  | some k =>
    let x := getSyn s y
    let f := entryFreq s y k
    setSynState y 3 (incW (synBase y + 0x28)
      (setSyn y { x with work := x.work.filter (· != k), refreshing := some k, before := if synState s y = 4 then some x.target else none,
                         target := f, retried := false, since := s.ntb.clk } s))

/-- INVALIDATE_ALL (R114). -/
def invalidateAll (n : Nat) (s : State) : State :=
  setSyn n { getSyn s n with table := [] } s

def execStaleEval (s : State) : Res := .next (staleEval s)
def execRefreshStale (n : Fin 4) (s : State) : Res := .next (refreshStale n.val s)
def execCalEntry (n : Fin 4) (s : State) : Res := .next (calEntry n.val s)
def execCalAllValid (n : Fin 4) (s : State) : Res := .next (calAllValid n.val s)
def execInvalidateAll (n : Fin 4) (s : State) : Res := .next (invalidateAll n.val s)

end Sys2Proof.Machine
end

