-- ==== Sys2Proof/Machine/RxFront.lean ====
section
/-! DEFINITION. The receive front end: headroom AGC, offset cancellation, saturation, path S and its causes, health checks, calibration and
the band registers (R70-R92). A path number 0 to 3 is A to D, 4 is S. -/

namespace Sys2Proof.Machine

def rxBase (p : Nat) : Nat := 0x30000 + p * 0x1000
def getPath (s : State) (p : Nat) : RxPath := tabGet (fun _ => {}) s.paths p
def setPath (p : Nat) (v : RxPath) (s : State) : State := { s with paths := tabSet (fun _ => {}) s.paths p v }

/-- The band of a path under the present mode (R71). -/
def pathBand (s : State) (p : Nat) : Nat := if getB s 0x38000 0 && 2 ≤ p then 1 else 0

/-- The sensor nearest a path (R442). -/
def pathSensor (p : Nat) : Nat := if p = 2 ∨ p = 3 then 1 else 0

/-- RXPn_CAL_DATA of an index (R87, R91): what the last calibration measured, a free value; 0 before the first. -/
def calWord (s : State) (p idx : Nat) : Word :=
  match (getPath s p).calDraw with
  | none => 0
  | some d => Config.freeCal (1000000 * (d + 1) + 256 * p + idx)

/-- RXPn_CAL_DATA: the calibration of the index that RXPn_CAL_IDX shows. -/
def calData (s : State) (p : Nat) : Word := calWord s p (getF s (rxBase p + 0x2C) 7 0)

/-- The gain of the external LNA as calibration measured it, rounded to whole dB (R77). -/
def extLnaGain (s : State) (p : Nat) : Int := (signedOf 16 (fieldOf (calWord s p 128) 15 0) + 50) / 100

/-- BAND_DOWN of every channel shows its band (R85, R145). -/
def bandSync (s : State) : State :=
  forAll (List.range 64) (fun ch s => setB (chBase ch + 0x24) 8 (s.pathS.bandDown.testBit (chBand s ch)) s) s

/-- A band has a path in service, or one that waits for the band's synthesiser to lock again (R85, R101). -/
def bandUp (s : State) (b : Nat) : Bool :=
  (bandPaths s b).any (fun p => pathServes s p || (pathState s p == 1 && acquiring s b && !s.pathS.bandDown.testBit b))

/-- A path's state set, with the bands re-judged (R85): a band that loses its last path is down and its channels stop detecting, until a
path returns. -/
def bandJudge (b : Nat) (s : State) : State :=
  let up := bandUp s b
  let was := s.pathS.bandDown.testBit b
  if up = was then
    let s := bandSync { s with pathS := { s.pathS with bandDown := s.pathS.bandDown ^^^ 2 ^ b } }
    if up then s else raiseEvt 3 0x113 (leBytes 1 b) s
  else s

/-- A running test tone on a path ends (R491): TST_TONE shows none. -/
def toneStop (p : Nat) (s : State) : State :=
  if s.keeper.toneEnd.isSome ∧ getF s 0xE0008 2 0 = p then
    wr 0xE000C 0 (wr 0xE0008 7 { s with keeper := { s.keeper with toneEnd := none } })
  else s

def setPathState (p v : Nat) (s : State) : State :=
  let was := pathServes s p
  let s := if v = 2 then toneStop p s else s
  let s := setF (rxBase p + 4) 2 0 v s
  let now := pathServes s p
  let b := pathBand s p
  if was ∧ !now then
    -- the last path leaving takes the band down
    (if bandUp s b then s else bandJudge b s)
  else if !was ∧ now then (if s.pathS.bandDown.testBit b then bandJudge b s else s)
  else s

/-! ### Path S and its causes (R80-R82) -/

def sRole (s : State) : Nat := getF s 0x34004 2 0
def sServes (s : State) : Nat := getF s 0x34004 6 4
def sCause (s : State) : Nat := getF s 0x34004 9 8
def setRole (v : Nat) (s : State) : State := setF 0x34004 2 0 v s
def setServes (v : Nat) (s : State) : State := setF 0x34004 6 4 v s

/-- A path leaves service without substitution, for a cause (R80, R84); of two causes the higher keeps it out. -/
def pathOut (cause p : Nat) (s : State) : State :=
  if pathState s p = 0 then s
  else
    let s := setPath p { getPath s p with outCause := some (min cause ((getPath s p).outCause.getD cause)) } s
    if pathState s p = 4 then s else setPathState p 4 (flagPath p 2 s)

/-- What a path comes back to: SERVICE, CAL while its synthesiser is not locked, OFF where it is no longer enabled (R101). -/
def backState (s : State) (p : Nat) : Nat :=
  if !getB s (rxBase p) 0 then 0 else if synState s (pathBand s p) = 4 then 2 else 1

/-- A path comes back. -/
def pathIn (p : Nat) (s : State) : State :=
  setPathState p (backState s p) (flagPath p 2 (setPath p { getPath s p with outCause := none } s))

/-- What a cause does when path S cannot take it (R80). -/
def causeUnserved (cause p : Nat) (s : State) : State :=
  if cause = 0 ∨ cause = 1 then pathOut cause p s
  else if cause = 2 then { s with pathS := { s.pathS with waiting := s.pathS.waiting.filter (· != p) ++ [p] } }
  else s

/-- The width of a span of a survey, Hz, and the core clocks it dwells in one (R83, R92). -/
def surveySpan : Nat := 32000000
def surveyDwell (s : State) : Nat :=
  if getF s 0x34028 15 8 = 0 then clocksOfNs 25000 else getF s 0x34028 15 8 * clkMs

/-- The centre of span `i` of a survey: the middle of the part of START to STOP that lies in it (log entry 145). -/
def surveyCentre (s : State) (i : Nat) : Nat :=
  let a := (rd s 0x34020).toNat + i * surveySpan
  a + min surveySpan ((rd s 0x34024).toNat - a) / 2

/-- The last span of a survey, and the span it is in now (R83). -/
def surveyLast (s : State) : Nat := ceilDiv ((rd s 0x34024).toNat - (rd s 0x34020).toNat) surveySpan - 1
def surveyAt (s : State) : Nat := min (surveyLast s) ((s.ntb.clk - s.pathS.since) / surveyDwell s)

/-- RXPS_DDC_FREQ (R81, R83): in a survey the down-converter steps from span to span. -/
def ddcFreq (s : State) : Word := if sRole s = 3 then BitVec.ofNat 32 (surveyCentre s (surveyAt s)) else rd s 0x34010

/-- Path S takes a cause (R81): its down-converter goes to the band and it starts aligning; a survey aligns with nothing. -/
def sTake (cause p : Nat) (s : State) : State :=
  let b := pathBand s p
  let s := { s with pathS := { s.pathS with since := s.ntb.clk, aligned := false, testEnded := false } }
  let s := setF 0x34004 9 8 cause s
  if cause = 3 then setServes 7 (setRole 3 s)
  else setServes p (setRole 1 (wr 0x34010 (BitVec.ofNat 32 (bandLo s b)) s))

/-- Path S is taken from its present cause by a higher one (R80): a path whose cause persists leaves service, a test is aborted, a survey
ends with its partial result. -/
def sPreempted (s : State) : State :=
  let p := sServes s
  if sRole s = 3 then
    setB 0x34004 16 true (wr 0x34010 (ddcFreq s) { s with pathS := { s.pathS with partialBins := true } })
  else if sCause s = 2 then (if sRole s = 2 then pathIn p s else s)
  else pathOut (sCause s) p s

/-- A cause is presented to path S (R80, R92). A disabled path S or cause, and a path S that calibrates, count as not available; AUTO has
no effect (log entry 146). -/
def presentCause (cause p : Nat) (s : State) : State :=
  if !getB s 0x34000 0 ∨ !getB s 0x34000 (4 + cause) ∨ sRole s = 4 then causeUnserved cause p s
  else if sRole s = 0 then sTake cause p s
  else if cause < sCause s then sTake cause p (sPreempted s)
  else causeUnserved cause p (setB 0x34004 17 true s)

/-- Path S becomes free; a waiting test is presented again (R80). -/
def sFree (s : State) : State :=
  let s := setServes 7 (setRole 0 s)
  match s.pathS.waiting with
  | [] => s
  | p :: ps => presentCause 2 p { s with pathS := { s.pathS with waiting := ps } }

/-! ### AGC (R75-R78) -/

/-- The gain index and bypass after a reduction or a rise (R75, R77). The index never leaves 0 to 84 (R70); path S has no limit register
(log entry 146). -/
def ladder (s : State) (p : Nat) (idx : Nat) (byp : Bool) (delta : Int) : Nat × Bool :=
  let lim := rd s (rxBase p + 0x10)
  let lo := if p = 4 then 0 else min 84 (fieldOf lim 6 0)
  let hi := if p = 4 then 84 else max lo (min 84 (fieldOf lim 14 8))
  let ext := p != 4 && getB s (rxBase p) 1
  let t := (idx : Int) + delta
  let g := extLnaGain s p
  if delta < 0 ∧ ext ∧ !byp ∧ t < fieldOf lim 22 16 then ((clampInt lo hi (t + g)).toNat, true)
  else if 0 < delta ∧ ext ∧ byp ∧ (hi : Int) < t then ((clampInt lo hi (t - g)).toNat, false)
  else if delta < 0 then ((max (lo : Int) t).toNat, byp)
  else ((min (hi : Int) t).toNat, byp)

/-- An analog gain step of paths A to D is compensated (R74, R76, R84, R105): it is counted, the residual canceller restarts, and receptions
to which the path contributes in person are flagged. -/
def analogStep (p : Nat) (s : State) : State :=
  let s := setPath p { getPath s p with lastStep := s.ntb.clk } s
  let s := raiseSrc (216 + p) (setB (rxBase p + 0x14) 8 true (incW (rxBase p + 0x20) s))
  onlyIf (pathState s p == 2) (flagMoved p) s

/-- A gain step reaches the stream (R76, R84). One of path S moves the streams of the path it stands in for. -/
def gainStep (p : Nat) (idx : Nat) (byp : Bool) (s : State) : State :=
  if p = 4 then
    let s := setPath 4 { getPath s 4 with lastStep := s.ntb.clk } s
    onlyIf (sRole s == 2) (flagMoved (sServes s)) (wr 0x34008 (BitVec.ofNat 32 idx) s)
  else analogStep p (wr (rxBase p + 8) (BitVec.ofNat 32 (idx + (if byp then 256 else 0))) s)

/-- Saturation judged at a window's end (R78). -/
def judgeSat (p clips : Nat) (s : State) : State :=
  let idx := getF s (rxBase p + 8) 6 0
  let sat := idx == min 84 (getF s (rxBase p + 0x10) 6 0) && (getB s (rxBase p + 8) 8 || !getB s (rxBase p) 1) && decide (4 < clips)
  let x := getPath s p
  if sat then
    let since := x.satSince.getD s.ntb.clk
    let run := (s.ntb.clk - since) / clkMs
    let s := wr (rxBase p + 0x28) (BitVec.ofNat 32 (max run (rd s (rxBase p + 0x28)).toNat)) s
    setPath p { x with satSince := some since, unsatSince := none } (setB (rxBase p + 4) 4 true s)
  else if x.satSince.isSome then
    let s := setPath p { x with satSince := none, unsatSince := some s.ntb.clk } (setB (rxBase p + 4) 4 false s)
    if pathState s p = 4 ∧ x.outCause = some 1 then pathIn p s else s
  else s

/-- AGC_WINDOW_END (R75-R78): `peak` in 0.01 dBFS, `clips` the clipped samples of the window. -/
def agcWindowEnd (path : Fin 5) (peak : Int) (clips : Nat) (s : State) : State :=
  let p := path.val
  if !getB s (rxBase p) 0 then s
  else
    let s := if p != 4 && decide (0 < clips) then wr (rxBase p + 0x24)
        (BitVec.ofNat 32 (min ((rd s (rxBase p + 0x24)).toNat + 1) 0xFFFFFFFF)) s else s
    let s := if p = 4 then s else judgeSat p clips s
    let cfg := rd s (rxBase p + 0xC)
    let hi : Int := 100 * fieldOf cfg 7 0
    let lo : Int := 100 * fieldOf cfg 15 8
    let idx := getF s (rxBase p + 8) 6 0
    let byp := p != 4 && getB s (rxBase p + 8) 8
    let hold := p != 4 && getB s (rxBase p) 4
    if hold then s
    else if -hi < peak then
      let need := (peak + hi + 300 + 99) / 100
      let down := if fieldOf cfg 23 20 = 0 then need else min need (fieldOf cfg 23 20)
      let r := ladder s p idx byp (-down)
      if r = (idx, byp) then s else gainStep p r.1 r.2 s
    else if peak < -lo ∧ fieldOf cfg 31 24 * 65536 ≤ s.ntb.clk - (getPath s p).lastStep then
      let r := ladder s p idx byp (fieldOf cfg 19 16)
      if r = (idx, byp) then s else gainStep p r.1 r.2 s
    else s

/-- DC_RECONVERGED (R74): the residual and one more re-convergence. -/
def dcReconverged (path : Fin 4) (residual : Byte) (s : State) : State :=
  let o := rxBase path.val + 0x14
  if getB s o 8 then incF o 31 16 1 (setB o 8 false (setF o 7 0 residual.toNat s)) else s

/-- SAT_LONG (R78): the saturation has lasted RXPS_SAT_LIMIT; a limit of 0 presents no cause. -/
def satLong (path : Fin 4) (s : State) : State :=
  let p := path.val
  match (getPath s p).satSince with
  | none => s
  | some c =>
    let s := reachClk (c + getF s 0x34018 15 0 * clkMs) s
    let s := raiseEvt 3 0x110 (leBytes 1 p) (setB (rxBase p + 4) 9 true s)
    if getF s 0x34018 15 0 = 0 then s else presentCause 1 p s

/-- S_ALIGN_DONE (R81): 2.1 ms after the cause at the earliest. -/
def sAlignDone (s : State) : State :=
  if sRole s = 1 then
    let s := reachClk (s.pathS.since + clocksOfNs 2100000) s
    { s with pathS := { s.pathS with aligned := true } }
  else s

/-- The slot boundary at or after now (R191). -/
def reachSlot (s : State) : State :=
  let slot := max 1 s.mac.slotUs * 1000 * nsUnit
  reachNet (ceilDiv s.ntb.net slot * slot) s

/-- PATH_SUBST (R81, R82): at the slot boundary S stands in for the path. -/
def pathSubst (s : State) : State :=
  if sRole s = 1 ∧ s.pathS.aligned then
    let s := reachSlot s
    let p := sServes s
    let s := setRole 2 (setPathState p 3 (flagPath p 2 s))
    raiseEvt 3 0x111 (leBytes 1 p ++ leBytes 1 (sCause s)) (raiseSrc 220 (incW 0x34014 s))
  else s

/-- The instant from which the present cause has cleared, if it has (R82). -/
def causeCleared (s : State) : Option Nat :=
  let x := getPath s (sServes s)
  if sCause s = 0 then x.cleanSince.map (fun c => c + getF s 0x3401C 15 0 * 1000 * clkMs)
  else if sCause s = 1 then x.unsatSince.map (fun c => c + getF s 0x3401C 31 16 * clkMs)
  else if s.pathS.testEnded then some s.ntb.clk else none

/-- PATH_RETURN (R82): S releases the path at a slot boundary once its cause has cleared. -/
def pathReturn (s : State) : State :=
  if sRole s = 2 then
    match causeCleared s with
    | none => s
    | some c =>
      let s := reachSlot (reachClk c s)
      let p := sServes s
      sFree (raiseEvt 3 0x112 (leBytes 1 p) (raiseSrc 221 (pathIn p s)))
  else s

/-- A path out of service without substitution comes back when its checks are clean and it is not saturated (R80; log entry 146). -/
def pathBack (p : Nat) (s : State) : State :=
  if pathState s p = 4 ∧ getF s (rxBase p + 0x18) 15 8 = 0 ∧ !getB s (rxBase p + 4) 4 then pathIn p s else s

/-- HEALTH_CHECK (R86): `fails` in the order LOCK_FAIL, ADC_STUCK, DC_FAIL, NOISE_FAIL, IQ_FAIL. -/
def healthCheck (path : Fin 4) (fails : BitVec 5) (s : State) : State :=
  let p := path.val
  let o := rxBase p + 0x18
  if pathState s p = 0 ∨ getF s (rxBase p + 0x1C) 7 0 = 0 then s
  else
    let s := incF o 31 16 1 (wr o (rd s o ||| BitVec.ofNat 32 fails.toNat) s)
    if fails = 0 then
      let x := getPath s p
      pathBack p (setPath p { x with cleanSince := some (x.cleanSince.getD s.ntb.clk) } (setF o 15 8 0 s))
    else
      let s := incSat o 15 8 1 (setPath p { getPath s p with cleanSince := none } s)
      let limit := getF s (rxBase p + 0x1C) 19 16
      if limit ≠ 0 ∧ getF s o 15 8 = limit then
        presentCause 0 p (raiseEvt 3 0x114 (leBytes 1 p ++ leBytes 1 fails.toNat) (setB (rxBase p + 4) 8 true s))
      else s

/-- Fresh calibration results, which are free values, at the sensor's present temperature (R87). -/
def calibrated (p : Nat) (s : State) : State :=
  let s := drawFree (setPath p { getPath s p with calTemp := sensorTemp s (pathSensor p), calDraw := some s.free } s)
  if p = 4 then s else setB (rxBase p + 4) 10 false s

/-- A path may be calibrated: out of service, or path S with no cause to serve (R87). -/
def calibrates (s : State) (p : Nat) : Bool := if p = 4 then sRole s == 0 || sRole s == 4 else pathState s p != 2

/-- PATH_CALIBRATION_DONE (R87). -/
def pathCalibrationDone (path : Fin 5) (s : State) : State :=
  let p := path.val
  if !calibrates s p then s
  else
    let s := calibrated p s
    if p = 4 then (if sRole s = 4 then sFree s else s)
    else if sCause s = 2 ∧ sServes s = p ∧ !s.pathS.test.contains p then { s with pathS := { s.pathS with testEnded := true } }
    else s

/-- Recalibration of a path is due: its sensor has moved more than 10 degC since the last one (R87). -/
def calDue (s : State) (p : Nat) : Bool :=
  (getPath s p).calDraw.isSome && decide (40 < (sensorTemp s (pathSensor p) - (getPath s p).calTemp).natAbs)

/-- A sensor has been read (R87): a path whose recalibration is due sets CAL_STALE and, from service, presents a TEST cause unless one of
its own waits or is served; path S calibrates itself while it is IDLE. -/
def recalibrate (sensor : Nat) (s : State) : State :=
  let s := forAll ([0, 1, 2, 3].filter (fun p => pathSensor p == sensor && calDue s p)) (fun p s =>
    let s := setB (rxBase p + 4) 10 true s
    if pathState s p ≠ 2 ∨ s.pathS.waiting.contains p ∨ ((sRole s = 1 ∨ sRole s = 2) ∧ sServes s = p) then s else presentCause 2 p s) s
  if pathSensor 4 = sensor ∧ calDue s 4 ∧ sRole s = 0 ∧ getB s 0x34000 0 then setRole 4 s else s

/-- RXP_BAND_CFG set: in 4x1 SYN1 sleeps, in 2x2 it stands by (R71, R93). -/
def bandCfgPut (v : Word) (s : State) : State :=
  let was := getB s 0x38000 0
  let s := wr 0x38000 v s
  if bitOf v 0 = was then s
  else setSynState 1 (if bitOf v 0 && !inWatch s then 1 else 0) (setSyn 1 { getSyn s 1 with refreshing := none, before := none } s)

/-- RXP_BAND_WRITE (R88, R92): accepted only while every path of the bands it affects is OFF. -/
def rxpBandWrite (addr value : Word) (s : State) : State :=
  let o := canonRadio addr
  let off := (if o = 0x38000 then [0, 1, 2, 3] else if o = 0x38004 then bandPaths s 0 else bandPaths s 1).all
    (fun p => pathState s p == 0)
  let v := value &&& BitVec.ofNat 32 (radioDesc o).rw
  if o ≠ 0x38000 ∧ o ≠ 0x38004 ∧ o ≠ 0x38008 then s
  else if !off then setB 0x3800C 0 true s
  else if o = 0x38000 ∧ (fieldOf v 5 4 = 3 ∨ fieldOf v 9 8 = 3) then setB 0x3800C 1 true s
  else bandSync (if o = 0x38000 then bandCfgPut v s else wr o v s)


/-- A path goes OFF; path S, if it stands in for it, is free again (log entry 146). -/
def pathOff (p : Nat) (s : State) : State :=
  let s := setPathState p 0 (flagPath p 2 (setPath p { getPath s p with outCause := none } s))
  if (sRole s = 1 ∨ sRole s = 2) ∧ sServes s = p then sFree s else s

/-- RXP_PATH_CFG_WRITE (R91, R102, R104): enabling needs the band LO in 380 to 1,050 MHz; a path enabled goes to service, a path
disabled goes OFF. In WATCH path A alone runs (R426). DEDUCED (log entry 22): until the band's synthesiser is locked an enabled path shows
CAL. -/
def rxpPathCfgWrite (path : Fin 4) (value : Word) (s : State) : State :=
  let p := path.val
  let v := value &&& 0x1F
  let lo := bandLo s (pathBand s p)
  if bitOf v 0 && (lo < 380000000 || 1050000000 < lo) then
    setB (rxBase p + 4) 11 true (wr (rxBase p) (withBit v 0 false) (if getB s (rxBase p) 0 then pathOff p s else s))
  else
    let was := getB s (rxBase p) 0
    let s := wr (rxBase p) v s
    let b := pathBand s p
    if bitOf v 0 && !was then
      if inWatch s && p != 0 then s
      else if synState s b = 4 then setPathState p 2 s
      else setPathState p 1 (if synState s b < 2 then hop b lo s else s)
    else if !bitOf v 0 && was then pathOff p s
    else s

/-- The paths of a band whose synthesiser leaves lock: those in service show CAL until it locks again (R101, R104; log entry 147). -/
def pathsHalt (b : Nat) (s : State) : State :=
  forAll (bandPaths s b) (fun p s => if pathState s p = 2 then setF (rxBase p + 4) 2 0 1 s else s) s

/-! ### Front-end control outputs (R89) -/

/-- External LNA in use: EXT_LNA_EN. -/
def extLnaOn (s : State) (p : Nat) : Bool := pathServes s p && !getB s (rxBase p + 8) 8 && !blanked s p

/-- TRSW_TX of an output with its own LEAD and LAG: from ramp start - LEAD to ramp end + LAG of the sharing transmit path. -/
def trswTx (s : State) (p : Nat) (w : Word) : Bool :=
  match shareTx s p with
  | none => false
  | some t => inRampSpan s t (250 * fieldOf w 13 8) (250 * fieldOf w 21 16) s.ntb.clk s.ntb.clk

/-- The level of output FE_p`k` of a path, high for true. With no transmit path named, functions 4, 6 and 7 stay inactive. -/
def feLevel (s : State) (p k : Nat) : Bool :=
  let w := rd s (rxBase p + 0x40 + 4 * k)
  let on : Bool := match fieldOf w 3 0 with
    | 1 => true
    | 2 => extLnaOn s p
    | 3 => !extLnaOn s p
    | 4 => trswTx s p w
    | 5 => !trswTx s p w
    | 6 => trswTx s p w
    | 7 => blanked s p
    | 8 => pathState s p == 3
    | _ => false
  if 9 ≤ fieldOf w 3 0 then false else on != bitOf w 4

def execAgcWindowEnd (path : Fin 5) (peak : Int) (clips : Nat) (s : State) : Res := .next (agcWindowEnd path peak clips s)
def execDcReconverged (path : Fin 4) (residual : Byte) (s : State) : Res := .next (dcReconverged path residual s)
def execSAlignDone (s : State) : Res := .next (sAlignDone s)
def execRxpBandWrite (addr value : Word) (s : State) : Res := .next (rxpBandWrite addr value s)
def execRxpPathCfgWrite (path : Fin 4) (value : Word) (s : State) : Res := .next (rxpPathCfgWrite path value s)

end Sys2Proof.Machine
end

