-- ==== Sys2Proof/Machine/Queue.lean ====
section
/-! DEFINITION. The operation queue: entries, arming, completion, ownership, windows and measurements, and what a step overtakes
(R66, R67, R220-R229). -/

namespace Sys2Proof.Machine

/-- The first register of an entry. -/
def opBase (n : Nat) : Nat := 0x70000 + n * 0x40
def getOp (s : State) (n : Nat) : OpRun := tabGet (fun _ => {}) s.ops n
def setOp (n : Nat) (v : OpRun) (s : State) : State := { s with ops := tabSet (fun _ => {}) s.ops n v }
def opState (s : State) (n : Nat) : Nat := getF s (opBase n + 0x28) 2 0
def setOpState (n v : Nat) (s : State) : State := setF (opBase n + 0x28) 2 0 v s
def opKind (s : State) (n : Nat) : Nat := getF s (opBase n + 4) 2 0
def opChannel (s : State) (n : Nat) : Nat := getF s (opBase n + 4) 13 8
def opMode (s : State) (n : Nat) : Nat := getF s (opBase n + 4) 18 16
def opAnch (s : State) (n : Nat) : Bool := getB s (opBase n + 4) 3
def opOwner (s : State) (n : Nat) : Nat := getF s (opBase n + 0x20) 4 0
def opTolNs (s : State) (n : Nat) : Nat := getF s (opBase n + 0x18) 15 0 * 1000
def opDurNs (s : State) (n : Nat) : Nat := getF s (opBase n + 0x14) 23 0 * 1000
def isTxKind (k : Nat) : Bool := k == 2 || k == 3 || k == 4

/-- The programmed start, in ns of the entry's own timescale (R220, R221). -/
def opStartReg (s : State) (n : Nat) : Nat :=
  ((rd s (opBase n + 8)).toNat + 2 ^ 32 * (rd s (opBase n + 0xC)).toNat) * 1000000000 + getF s (opBase n + 0x10) 29 0

/-- The start in force: a release (R67) or a trigger with zero START registers (R283) in place of the programmed one. -/
def opStart (s : State) (n : Nat) : Nat :=
  ((getOp s n).released.orElse (fun _ => (getOp s n).trigger)).getD (opStartReg s n)

/-- The present time of the entry's timescale, in ns. -/
def opNow (s : State) (n : Nat) : Nat := if opAnch s n then nsTotal s.ntb.anch else nowNs s

/-- Time passes until an instant of the entry's timescale. -/
def opReach (n t : Nat) (s : State) : State := if opAnch s n then reachAnch (t * nsUnit) s else reachNet (t * nsUnit) s

/-- An instant of the entry's timescale in network time (R48): the two times are read in one clock. -/
def opToNet (s : State) (n t : Nat) : Nat := if opAnch s n then t + nowNs s - nsTotal s.ntb.anch else t

/-- The entry's EVT source raised (R220, R281). -/
def opEvt (n : Nat) (atStart : Bool) (s : State) : State :=
  let e := getF s (opBase n + 0x1C) 27 24
  if e ≠ 0 ∧ getB s (opBase n + 0x1C) 28 = atStart then raiseSrc (32 + e) s else s

/-- The first action of an armed entry (R224). -/
def opActivate (n : Nat) (s : State) : State :=
  if opState s n = 2 then opEvt n true (setOpState n 3 s) else s

/-- The first entry of the host range: 128 - HOST_RES (R226, R229). -/
def hostFirst (s : State) : Nat := 128 - min 64 (getF s 0x78000 6 0)

/-- The checks of an entry's apply (R225). -/
def opCheck (n : Nat) (s : State) : Nat :=
  let sh := fun o => rdShadow s (opBase n + o)
  let k := fieldOf (sh 4) 2 0
  let pre := fieldOf (sh 0x18) 26 16
  if k = 6 ∨ k = 7 ∨ fieldOf (sh 4) 7 6 = 3 then 1
  else if 1000000000 ≤ fieldOf (sh 0x10) 29 0 then 2
  else if isTxKind k && (pre < 16 || 1024 < pre) then 3
  else if k == 1 && fieldOf (sh 0x14) 23 0 == 0 then 4
  else if isTxKind k && fieldOf (sh 0x1C) 1 0 != 0 then 5
  else if 160 < fieldOf (sh 4) 31 24 then 6
  else if k == 4 && opOwner s n == 17 then 7
  else 0

/-- An entry's apply at its boundary: never while armed or active; the entry is then IDLE (R27, R224). -/
def opApply (n : Nat) (s : State) : State :=
  if opState s n = 2 ∨ opState s n = 3 then s
  else applyRun (opBase n) (opBase n) (opBase n + 0x40) 191 7 (opCheck n) (fun s => onlyIf (opState s n == 4) (setOpState n 1) s) s

/-- An entry completes (R222-R224): RESULT, the DONE registers, EVT. A released entry that would be OK carries LATE (R67). `t` is the
DONE time in the time base's unit of network time. -/
def opComplete (n result t step value : Nat) (s : State) : State :=
  let x := getOp s n
  let sent := x.radiating && result == 1
  let result := if result = 1 ∧ x.released.isSome then 2 else result
  let o := opBase n
  let s := setOpState n 4 (setF (o + 0x28) 15 8 result s)
  let s := wr (o + 0x34) (BitVec.ofNat 32 (nanoOf t)) (wr (o + 0x30) (BitVec.ofNat 32 (secOf t / 2 ^ 32)) (wr (o + 0x2C) (BitVec.ofNat 32 (secOf t)) s))
  let s := wr (o + 0x38) (BitVec.ofNat 32 (step % 256 + 256 * (x.tries % 16) + 65536 * (value % 65536))) s
  opApply n (opEvt n false (setOp n { sent := sent } s))

/-- Completion at the present instant. -/
def opEnd (n result value : Nat) (s : State) : State := opComplete n result s.ntb.net (stepByte s) value s


/-- A MARK, window or measurement starts in this clock (R222). -/
def startNow (n : Nat) (s : State) : State :=
  let k := opKind s n
  let s := opActivate n s
  if k = 0 then opEnd n 1 0 s
  else if k = 5 ∧ !measured s (opChannel s n) then opEnd n 6 0 s
  else if k = 5 ∧ opDurNs s n = 0 then opEnd n 1 (fieldOf (chEnergy s (opChannel s n)) 15 0) s
  else s

/-- ARM (R224): `trigger` is the clock of a Rhizome trigger that finds the START registers zero (R283). -/
def opArmAt (n : Nat) (trigger : Option Nat) (s : State) : State :=
  if opState s n ≠ 1 ∧ opState s n ≠ 4 then s
  else if applyPending s (opBase n) then setB (opBase n + 0x28) 20 true s
  else
    let s := setOpState n 2 (setF (opBase n + 0x28) 19 8 0 (setOp n { trigger := trigger } s))
    let start := opStart s n
    let now := opNow s n
    if now ≤ start then s
    else if now ≤ start + opTolNs s n then
      if isTxKind (opKind s n) then opActivate n (setOp n { getOp s n with lateArm := true } s)
      else startNow n (setB (opBase n + 0x28) 16 true s)
    else opEnd n 2 0 s

/-- CANCEL of an entry that does not radiate (R224). -/
def opAbort (n : Nat) (s : State) : State := opEnd n 4 0 s

/-- The armed MARKs, windows and measurements whose start has come, in order of start and index (R228). -/
def startsDue (s : State) : List Nat :=
  ((List.range 128).filter (fun n => opState s n == 2 && !isTxKind (opKind s n) && decide (opStart s n ≤ opNow s n))).mergeSort
    (fun a b => decide (opToNet s a (opStart s a) ≤ opToNet s b (opStart s b)))

/-- OPQ_START: an armed MARK, window or measurement reaches its start, with every other one whose start has come, in index order
where they share a clock (R222, R228). -/
def opqStart (op : Fin 128) (s : State) : State :=
  let n := op.val
  if opState s n ≠ 2 ∨ isTxKind (opKind s n) then s
  else
    let s := opReach n (opStart s n) s
    forAll (startsDue s) startNow s

/-- MEASURE_END: the averaging over DUR ends (R222). -/
def measureEnd (op : Fin 128) (mean : BitVec 16) (s : State) : State :=
  let n := op.val
  if opState s n = 3 ∧ opKind s n = 5 then opEnd n 1 mean.toNat (opReach n (opStart s n + opDurNs s n) s) else s

/-- Whether a stamp lies in a window that opens at `opens` and lasts `dur` ns. The stamp is taken as network or as anchored time, both
latched in one clock (R49, R214). -/
def inSpan (anchored : Bool) (opens dur stamp anch : Nat) : Bool :=
  let t := nsTotal (if anchored then anch else stamp)
  decide (opens ≤ t) && decide (t ≤ opens + dur)

/-- Whether the stamp of a reception lies in the window of an entry (R222). -/
def stampIn (s : State) (n stamp anch : Nat) : Bool := inSpan (opAnch s n) (opStart s n) (opDurNs s n) stamp anch

/-- Receptions still undecided on a channel with a stamp that `inside` admits: in a slot or on their way to a Frond, and, where the
decisions of a Frond count, in the MIC check (R222). -/
def undecided (s : State) (ch : Nat) (frond : Bool) (inside : Nat → Nat → Bool) : Bool :=
  ([0, 1].any (fun k => slotState s ch k != 0 && inside (getSlot s ch k).stamp (getSlot s ch k).anch)) ||
    s.intake.any (fun r => r.ch == ch && inside r.stamp r.anch) ||
    (frond && s.nodes.mics.any (fun w => w.rx.ch == ch && inside w.rx.stamp w.rx.anch))

/-- Whether a closed window still waits for a reception (R222): a window of the host for no node decision. -/
def windowBusy (s : State) (n : Nat) : Bool := undecided s (opChannel s n) (opOwner s n != 17) (stampIn s n)

/-- A closed window with nothing left to judge completes MISSED, at its close (R222). -/
def windowJudge (n : Nat) (s : State) : State :=
  let x := getOp s n
  if opState s n = 3 ∧ opKind s n = 1 ∧ x.closed ∧ !windowBusy s n then opComplete n 12 (x.stamp * nsUnit) x.stampStep 0 s else s

/-- RX_WINDOW_CLOSE (R212, R222). -/
def rxWindowClose (op : Fin 128) (s : State) : State :=
  let n := op.val
  if opState s n = 3 ∧ opKind s n = 1 then
    let close := opStart s n + opDurNs s n
    let s := opReach n close s
    windowJudge n (setOp n { getOp s n with closed := true, stamp := opToNet s n close, stampStep := stepByte s } s)
  else s

/-- A window completes with a match: DONE is the matched stamp, VALUE its RXSEQ (R222). -/
def windowMatch (n : Nat) (r : RxRec) (s : State) : State := opComplete n 1 r.stamp r.step r.rxseq s

/-- Whether a reception with a stamp lies in the open window of an entry on the channel (R222). -/
def inWindow (s : State) (n ch stamp anch : Nat) : Bool :=
  opKind s n == 1 && opState s n == 3 && opChannel s n == ch && stampIn s n stamp anch

/-- An entry that has not started yet: armed, or a transmission that prepares its burst (R66). -/
def notStarted (s : State) (n : Nat) : Bool :=
  opState s n == 2 || (opState s n == 3 && isTxKind (opKind s n) && !(getOp s n).radiating)

/-- What a forward step from `t1` to `t2` (network ns) does to the entries it overtakes, in order of start and index (R66, R67). -/
def overtaken (s : State) (t1 t2 : Nat) : List Nat :=
  ((List.range 128).filter (fun n => notStarted s n && !opAnch s n && decide (t1 < opStart s n) && decide (opStart s n ≤ t2))).mergeSort
    (fun a b => decide (opStart s a < opStart s b) || (opStart s a == opStart s b && decide (a ≤ b)))

/-- One entry overtaken by a step to `t2`: dropped SKIPPED, or released to start as soon as it can (R67); the lateness tolerance of a
transmission counts from the step, the duration of a window or measurement from its release. -/
def opOvertake (t2 n : Nat) (s : State) : State :=
  if getB s 0x20020 7 then opEnd n 3 0 s
  else if isTxKind (opKind s n) then opActivate n (setOp n { getOp s n with released := some t2, base := none } s)
  else startNow n (setOp n { getOp s n with released := some (nowNs s) } s)

def opqOvertake (t1 t2 : Nat) (s : State) : State := forAll (overtaken s t1 t2) (opOvertake t2) s

/-- The instants that a burst in preparation has fixed stay where they are in elapsed time when network time is stepped by `d` ns. -/
def shiftOps (d : Int) (s : State) : State :=
  forAll ((List.range 128).filter (fun n => notStarted s n)) (fun n s =>
    let x := getOp s n
    if x.plannedAt.isNone && x.base.isNone then s
    else
      let move := fun (o : Option Nat) => o.map (fun t => ((t : Int) + d).toNat)
      setOp n { x with plannedAt := move x.plannedAt, base := move x.base } s) s

/-- OPQ_STATUS counts: entries ARMED, and FREE entries of the pool (R227, R229). -/
def opqCounts (s : State) : Nat :=
  ((List.range 128).filter (fun n => opState s n == 2)).length % 256 +
    256 * ((List.range (hostFirst s)).filter (fun n => opState s n == 0)).length

/-- An entry taken from the pool (R224, R226): the lowest free one; the Fronds leave the last 8 to the Keeper. -/
def freeEntry (s : State) (keeper : Bool) : Option Nat :=
  let fs := (List.range (hostFirst s)).filter (fun n => opState s n == 0)
  if keeper ∨ 8 < fs.length then fs.head? else none

/-- An entry written whole by its device owner and armed (R195, R226). -/
structure OpSpec where
  cfg : Nat
  start : Nat
  dur : Nat
  tol : Nat
  pre : Nat
  buf : Nat
  owner : Nat

def takeEntry (n : Nat) (e : OpSpec) (s : State) : State :=
  let o := opBase n
  let w := fun off (v : Nat) => wr (o + off) (BitVec.ofNat 32 v)
  let s := w 4 e.cfg (w 8 (e.start / 1000000000) (w 0xC (e.start / 1000000000 / 2 ^ 32) (w 0x10 (e.start % 1000000000) s)))
  let s := w 0x14 e.dur (w 0x18 (e.tol + 65536 * e.pre) (w 0x1C e.buf (w 0x20 e.owner s)))
  opArmAt n none (setOpState n 1 s)

/-- An entry goes back: to the host where it lies in the host range, else to the pool (R224, R227). -/
def releaseEntry (n : Nat) (s : State) : State :=
  if hostFirst s ≤ n then setOpState n 1 (wr (opBase n + 0x20) 17 s)
  else setOpState n 0 (wr (opBase n + 0x20) 31 s)

/-- SLOT_US a value that R191 admits. -/
def slotUsOk (v : Nat) : Bool := decide (2500 ≤ v) && decide (v ≤ 40000) && 1000000 % v == 0


/-- 10^(j/40) for j below 40, in units of 10^-18, for the power sums of R150. -/
def tenthDecade : List Nat :=
  [1000000000000000000, 1059253725177288879, 1122018454301963436, 1188502227437018438, 1258925411794167210,
   1333521432163324026, 1412537544622754302, 1496235656094433412, 1584893192461113485, 1678804018122560314,
   1778279410038922801, 1883649089489800535, 1995262314968879601, 2113489039836646796, 2238721138568339612,
   2371373705661655262, 2511886431509580111, 2660725059798809635, 2818382931264453819, 2985382618917959618,
   3162277660168379332, 3349654391578276595, 3548133892335754584, 3758374042884441674, 3981071705534972508,
   4216965034285822486, 4466835921509631186, 4731512589614804789, 5011872336272722850, 5308844442309883522,
   5623413251903490804, 5956621435290104605, 6309573444801932494, 6683439175686146084, 7079457843841379108,
   7498942093324558273, 7943282347242815021, 8413951416451950912, 8912509381337455300, 9440608762859233804]

/-- 10^(j/40) in units of 10^-18 for any j. -/
def powerOf (j : Nat) : Nat := tenthDecade.getD (j % 40) 0 * 10 ^ (j / 40)

def execMeasureEnd (op : Fin 128) (mean : BitVec 16) (s : State) : Res := .next (measureEnd op mean s)


end Sys2Proof.Machine
end

