-- ==== Sys2Proof/Machine/TimeBase.lean ====
section
/-! DEFINITION. The time base: steps, sources and holdover, PPS, captures, and the Lamps (R44-R69). -/

namespace Sys2Proof.Machine

/-! ### Reading the time (R44, R49) -/

/-- A time as its register words: seconds low and high, nanoseconds, fraction. -/
def timeWords (t : Nat) : List Word :=
  [BitVec.ofNat 32 (secOf t), BitVec.ofNat 32 (secOf t / 2 ^ 32), BitVec.ofNat 32 (nanoOf t), BitVec.ofNat 32 (fracOf t)]

/-- Register words written at consecutive offsets. -/
def wrAll (off : Nat) (ws : List Word) (s : State) : State :=
  match ws with
  | [] => s
  | w :: ws => wrAll (off + 4) ws (wr off w s)

/-- NTB_TIME_READ (R49): network and anchored time of one clock. -/
def ntbTimeRead (s : State) : State :=
  { wrAll 0x20000 (timeWords s.ntb.net ++ timeWords s.ntb.anch) s with lastRead := BitVec.ofNat 32 (secOf s.ntb.net) }

/-! ### State, source and bound (R51, R56, R57) -/

def ntbState (s : State) : Nat := getF s 0x20024 1 0
def ntbSource (s : State) : Nat := getF s 0x20024 3 2
def servoOn (s : State) : Bool := getB s 0x20020 0

/-- A change of STATE or SOURCE (R56). -/
def setSource (st src : Nat) (s : State) : State :=
  if ntbState s = st ∧ ntbSource s = src then s
  else
    raiseEvt 2 0x103 (leBytes 1 st ++ leBytes 1 src)
      (raiseSrc 7 (setB 0x20024 9 true (setF 0x20024 3 2 src (setF 0x20024 1 0 st s))))

/-- The reference-side die temperature. DESIGN CHOICE (log entry 24): sensor 0. -/
def refTemp (s : State) : Int := sensorTemp s 0

/-- The largest temperature change of this holdover, the present one included, in 0.25 degC. -/
def holdDt (s : State) : Nat := max s.ntb.dTmax (refTemp s - s.ntb.holdTemp).natAbs

/-- The growth of the bound in 2*10^-9 ns for each ns (R57): 0.05 or 0.5 ppm, and 0.002 ppm for each degC. -/
def holdRate (s : State) : Nat := (if s.ntb.fHalf then 1000 else 100) + holdDt s

/-- The time since the holdover began, ns. -/
def holdNs (s : State) : Nat := (s.ntb.clk - s.ntb.holdClk) * 100000 / 65536

/-- NTB_HOLD_BOUND (R57): unknown in FREE_RUN and where the starting bound is unknown (R268). -/
def holdBound (s : State) : Nat :=
  if ntbState s = 0 ∨ s.ntb.e0 = 0xFFFFFFFF then 0xFFFFFFFF
  else if ntbState s = 1 then min s.ntb.e0 0xFFFFFFFE
  else min (s.ntb.e0 + holdNs s * holdRate s / 2000000000) 0xFFFFFFFE

/-- A holdover begins (R57). -/
def beginHoldover (e0 : Nat) (half : Bool) (s : State) : State :=
  { s with ntb := { s.ntb with e0 := e0, fHalf := half, holdClk := s.ntb.clk, holdTemp := refTemp s, dTmax := 0, alarmed := false } }

/-! ### The Lamps (R61-R68) -/

def lampBase (n : Nat) : Nat := 0x21000 + n * 0x40
def getLamp (s : State) (n : Nat) : Lamp := tabGet (fun _ => {}) s.lamps n
def setLamp (n : Nat) (v : Lamp) (s : State) : State := { s with lamps := tabSet (fun _ => {}) s.lamps n v }

def lampStartNs (s : State) (n : Nat) : Nat :=
  ((rd s (lampBase n + 8)).toNat + 2 ^ 32 * (rd s (lampBase n + 0xC)).toNat) * 1000000000 + getF s (lampBase n + 0x10) 29 0
def lampPeriod (s : State) (n : Nat) : Nat :=
  (rd s (lampBase n + 0x18)).toNat * 1000000000 + getF s (lampBase n + 0x1C) 29 0
def lampOn (s : State) (n : Nat) : Bool := getB s (lampBase n + 4) 0
def lampSkips (s : State) (n : Nat) : Bool := getB s (lampBase n + 4) 2
def lampPeriodic (s : State) (n : Nat) : Bool := lampOn s n && lampPeriod s n != 0

/-- The level of a Lamp's ball (R62-R65). -/
def lampLevel (s : State) (n : Nat) : Bool :=
  let l := getLamp s n
  if l.pulseEnd.isSome then !l.pol else getB s (lampBase n + 4) 1

/-- A start is produced (R63, R64, R284): a start over a pulse restarts it, and ends it first where the configuration is new (R65). -/
def lampPulse (n : Nat) (oneShot : Bool) (s : State) : State :=
  let l := getLamp s n
  let s := if l.pulseEnd.isSome && l.cut then raiseSrc (24 + n) s else s
  let s := raiseSrc (16 + n) s
  let width := (rd s (lampBase n + 0x14)).toNat
  if width = 0 then
    onlyIf oneShot (setB (lampBase n + 0x20) 1 true)
      (setB (lampBase n + 0x20) 0 false
        (raiseSrc (24 + n) (setLamp n { l with pulseEnd := none, cut := false, oneShot := false } s)))
  else
    setB (lampBase n + 0x20) 0 true
      (setLamp n { l with pulseEnd := some (s.ntb.clk + clocksOfNs width), pol := getB s (lampBase n + 4) 1, oneShot := oneShot,
                          cut := false } s)

/-- SKIP_COUNT advanced (R61). -/
def lampSkipCount (n k : Nat) (s : State) : State := incSat (lampBase n + 0x30) 15 0 k s

/-- A one-shot start that has passed: it fires LATE or is dropped SKIPPED (R65, R67). -/
def lampMissed (n : Nat) (s : State) : State :=
  let s := setLamp n { getLamp s n with armed := false } s
  if lampSkips s n then lampSkipCount n 1 (setB (lampBase n + 0x20) 3 true s)
  else lampPulse n true (setB (lampBase n + 0x20) 2 true s)

/-- The cross-field checks of a Lamp (R63). -/
def lampCheck (n : Nat) (s : State) : Nat :=
  let sh := fun o => rdShadow s (lampBase n + o)
  let period := (sh 0x18).toNat * 1000000000 + fieldOf (sh 0x1C) 29 0
  if 1000000000 ≤ fieldOf (sh 0x10) 29 0 then 1
  else if 1000000000 ≤ fieldOf (sh 0x1C) 29 0 then 2
  else if period ≠ 0 ∧ period ≤ (sh 0x14).toNat then 3
  else 0

/-- The first start of a configuration applied at `inst` ns (R65). -/
def lampArm (n inst : Nat) (s : State) : State :=
  let start := lampStartNs s n
  let p := lampPeriod s n
  let s := setLamp n { getLamp s n with cut := (getLamp s n).pulseEnd.isSome, armed := false } s
  if !lampOn s n then s
  else if p ≠ 0 then
    let first := if start < inst then start + ceilDiv (inst - start) p * p else start
    setLamp n { getLamp s n with armed := true, next := first } s
  else if inst ≤ start then setLamp n { getLamp s n with armed := true, next := start } s
  else lampMissed n (setLamp n { getLamp s n with next := start } s)

/-- Whether a Lamp's boundary is reached (R27): a periodic Lamp in the clock of one of its starts, any other with no pulse in progress. -/
def lampBoundary (s : State) (n : Nat) : Bool :=
  if lampPeriodic s n then (getLamp s n).startClk == s.ntb.clk + 1 else (getLamp s n).pulseEnd.isNone

/-- A Lamp's apply (R27, R65): after a boundary start the apply instant is the clock after it. -/
def lampApply (n : Nat) (s : State) : State :=
  let inst := if lampPeriodic s n then nsTotal (s.ntb.net + netInc s) else nowNs s
  if lampBoundary s n then
    applyRun (lampBase n) (lampBase n) (lampBase n + 0x40) (178 + n) 2 (lampCheck n) (lampArm n inst) s
  else s

/-- A Lamp start that a forward step to `t2` ns overtook (R66, R67). -/
def lampOvertake (t2 n : Nat) (s : State) : State :=
  let l := getLamp s n
  if !lampPeriodic s n then lampMissed n s
  else
    let p := lampPeriod s n
    let k := (t2 - l.next) / p + 1
    let s := setLamp n { l with next := l.next + k * p } s
    if lampSkips s n then lampSkipCount n k (setB (lampBase n + 0x20) 3 true s)
    else lampPulse n false (lampSkipCount n (k - 1) (setB (lampBase n + 0x20) 2 true s))

/-- LAMP_START (R63): a scheduled start. -/
def lampStart (n : Fin 8) (s : State) : State :=
  let l := getLamp s n.val
  if !l.armed then s
  else
    let s := reachNet (l.next * nsUnit) s
    if lampPeriodic s n.val then
      lampPulse n.val false (setLamp n.val { getLamp s n.val with next := l.next + lampPeriod s n.val, startClk := s.ntb.clk + 1 } s)
    else lampPulse n.val true (setLamp n.val { getLamp s n.val with armed := false } s)

/-- LAMP_END (R64): WIDTH elapsed core clocks after the leading edge. -/
def lampEnd (n : Fin 8) (s : State) : State :=
  let l := getLamp s n.val
  match l.pulseEnd with
  | none => s
  | some c =>
    let s := raiseSrc (24 + n.val) (reachClk c s)
    onlyIf l.oneShot (setB (lampBase n.val + 0x20) 1 true)
      (setB (lampBase n.val + 0x20) 0 false (setLamp n.val { l with pulseEnd := none, oneShot := false, cut := false } s))

/-- A triggered pulse (R283): the scheduled starts are unchanged. -/
def lampTrigger (n : Nat) (s : State) : State := lampPulse n false s

/-! ### Steps (R47, R66-R68) -/

/-- NET_TIME (R309). -/
def sendNetTime (s : State) : State :=
  sendR 0xB (leBytes 8 (secOf s.ntb.net) ++ leBytes 4 (nanoOf s.ntb.net) ++ leBytes 1 (stepByte s) ++
    leBytes 1 (ntbState s + 4 * ntbSource s) ++ leBytes 2 0) s

/-- What a forward step overtook, in the core clock after it (R66, R67): Lamps in index order, then operation entries. -/
def overtake (t1 t2 : Nat) (s : State) : State :=
  let ls := (List.range 8).filter (fun n => (getLamp s n).armed && decide (t1 < (getLamp s n).next) && decide ((getLamp s n).next ≤ t2))
  opqOvertake t1 t2 (forAll ls (lampOvertake t2) (clocks 1 s))

/-- What is kept of the sources' times follows a change of network time by `d`: the offsets last seen, and the instant of the last PPS
edge, from which the next is expected (R55; log entry 135). -/
def shiftSeen (d : Int) (s : State) : State :=
  { s with ntb := { s.ntb with
    mrOffset := s.ntb.mrOffset + d
    ppsOffset := s.ntb.ppsOffset + d
    ppsLast := s.ntb.ppsLast.map (fun p => (p.1 + d, p.2)) } }

/-- A step of network time to `t` (R47); `after` is what else changes in that clock. -/
def stepTo (t : Nat) (after : State → State) (s : State) : State :=
  let old := s.ntb.net
  let s := shiftSeen ((t : Int) - old) { s with ntb := { s.ntb with net := t } }
  let s := raiseSrc 6 (setB 0x20024 8 true (incW 0x20028 s))
  let s := sendNetTime (after (raiseEvt 2 0x102 (leBytes 8 (secOf old) ++ leBytes 4 (nanoOf old)) s))
  let s := shiftOps ((nsTotal t : Int) - nsTotal old) s
  if nsTotal old < nsTotal t then overtake (nsTotal old) (nsTotal t) s else s

/-- A slew that removes an offset, network time less source time (R46): it takes the place of one in effect. -/
def beginSlew (off : Int) (s : State) : State :=
  setB 0x20024 4 true { s with ntb := { s.ntb with
    slew := if 0 < off then -rateMax else rateMax, slewLeft := -off, mrOffset := s.ntb.mrOffset - off, ppsOffset := s.ntb.ppsOffset - off } }

/-- A correction by an offset, network time less source time (R56): a slew where it is small and the servo runs, else a step; leaving
FREE_RUN always steps. -/
def correct (off : Int) (after : State → State) (s : State) : State :=
  let s := endSlew s
  if ntbState s ≠ 0 ∧ off = 0 then after s
  else if ntbState s ≠ 0 ∧ off.natAbs ≤ (rd s 0x20034).toNat * nsUnit ∧ servoOn s then after (beginSlew off s)
  else stepTo ((s.ntb.net : Int) - off).toNat after s

/-- Whether a source is enabled and qualified: 1 MOORING, 2 PPS. -/
def sourceOk (s : State) (n : Nat) : Bool :=
  if n = 1 then getB s 0x20020 12 && s.ntb.mrQual else if n = 2 then getB s 0x20020 13 && s.ntb.ppsQual else false

/-- The time base follows a source (R56). -/
def lockTo (n : Nat) (s : State) : State :=
  let off := if n = 1 then s.ntb.mrOffset else s.ntb.ppsOffset
  let s := { s with ntb := { s.ntb with
    lockClk := if ntbState s = 1 then s.ntb.lockClk else s.ntb.clk
    e0 := if n = 1 then s.ntb.mrAcc else 50
    candidate := 0 } }
  correct off (setSource 1 n) s

/-- A source has qualified (R56): 1 MOORING, 2 PPS. -/
def sourceQualifies (n : Nat) (s : State) : State :=
  if !sourceOk s n then s
  else if ntbState s ≠ 1 then lockTo n s
  else if n < ntbSource s then
    if getF s 0x20020 11 8 = 0 then lockTo n s
    else if s.ntb.candidate = n then s
    else { s with ntb := { s.ntb with candidate := n, candClk := s.ntb.clk } }
  else s

/-- The selected source is lost or disabled (R56). -/
def sourceLost (s : State) : State :=
  if ntbState s ≠ 1 then s
  else if sourceOk s 1 then lockTo 1 s
  else if sourceOk s 2 then lockTo 2 s
  else
    let half := decide (s.ntb.clk - s.ntb.lockClk < 655360000000)
    raiseEvt 2 0x104 [] (setSource 2 (ntbSource s) (beginHoldover s.ntb.e0 half (endSlew s)))

/-- Source selection judged again after a source changed or NTB_CFG was written. -/
def judgeSources (s : State) : State :=
  let s := if s.ntb.candidate ≠ 0 ∧ !sourceOk s s.ntb.candidate then { s with ntb := { s.ntb with candidate := 0 } } else s
  if ntbState s = 1 then (if sourceOk s (ntbSource s) then sourceQualifies 2 (sourceQualifies 1 s) else sourceLost s)
  else if sourceOk s 1 then lockTo 1 s
  else if sourceOk s 2 then lockTo 2 s
  else s

/-- SERVO is cleared: NTB_RATE sets the frequency term, and no slew term is in effect (R50, R53). -/
def servoOff (s : State) : State :=
  let s := setB 0x20020 0 false (endSlew s)
  { s with ntb := { s.ntb with freq := getS s 0x20064 } }

/-- NTB_CFG written (R50, R56): a change of the sources is judged at once. `held` is RELAY_EN, under which SERVO stays 0 and SRC_EN bit 14
stays 1 (R216). -/
def ntbCfgWrite (held : Bool) (v : Word) (s : State) : State :=
  let v := if held then withBit (withBit v 0 false) 14 true else v
  let s := wr 0x20020 (v &&& 0x7F81) s
  judgeSources (onlyIf (!bitOf v 0) servoOff s)

/-- The servo sets the frequency term while it tracks the selected source (R46): a free value. -/
def servo (s : State) : State :=
  if servoOn s && ntbState s == 1 then
    drawFree { s with ntb := { s.ntb with freq := clampInt (-rateMax) rateMax (Config.freeRate s.free).toInt } }
  else s

/-! ### The step and rate units (R52, R53) -/

/-- The relative step of the shadows, ns. -/
def stepDelta (a b : Word) : Int := a.toInt * 1000000000 + b.toInt

/-- The checks of the step unit, in the order of R52. -/
def stepCheck (s : State) : Nat :=
  let op := fieldOf (rdShadow s 0x20044) 1 0
  let ds := (rdShadow s 0x20054).toInt
  let dn := (rdShadow s 0x20058).toInt
  if op = 3 then 5
  else if op = 1 ∧ 1000000000 ≤ fieldOf (rdShadow s 0x20050) 29 0 then 1
  else if op = 2 ∧ (dn < -999999999 ∨ 999999999 < dn ∨ (0 < ds ∧ dn < 0) ∨ (ds < 0 ∧ 0 < dn)) then 2
  else if op ≠ 0 ∧ ntbState s = 1 then 3
  else if op ≠ 0 ∧ !getB s 0x20020 14 then 6
  else if op = 2 ∧ (s.ntb.net : Int) + stepDelta (rdShadow s 0x20054) (rdShadow s 0x20058) * nsUnit < 0 then 4
  else 0

/-- The step unit applies: OP reads 0 again and the step follows in the next core clock (R47, R49). -/
def stepApplied (s : State) : State :=
  wr 0x20044 0 { s with ntb := { s.ntb with stepReady := getF s 0x20044 1 0 } }

def stepApply (s : State) : State := applyRun 0x20040 0x20044 0x20060 176 2 stepCheck stepApplied s

/-- The checks of the rate unit (R53). -/
def rateCheck (s : State) : Nat :=
  let v := (rdShadow s 0x20064).toInt
  if servoOn s then 1 else if v < -rateMax ∨ rateMax < v then 2 else 0

def rateApply (s : State) : State :=
  applyRun 0x20060 0x20064 0x20068 177 2 rateCheck (fun s => { s with ntb := { s.ntb with freq := getS s 0x20064 } }) s

/-- An applied SET or STEP takes the time base to HOLDOVER with SOURCE HOST (R56), a known bound (R57) and a holdover of its own (log
entry 136). -/
def hostStepped (s : State) : State :=
  setSource 2 3 (beginHoldover (min (rd s 0x2005C).toNat 0xFFFFFFFE) true (endSlew { s with ntb := { s.ntb with stepReady := 0 } }))

/-- The absolute time of the SET registers. -/
def setTime (s : State) : Nat :=
  (((rd s 0x20048).toNat + 2 ^ 32 * (rd s 0x2004C).toNat) * 1000000000 + getF s 0x20050 29 0) * nsUnit

/-- NTB_SET (R47, R56): in the first core clock after the apply. -/
def ntbSet (s : State) : State :=
  if s.ntb.stepReady ≠ 1 then s
  else let s := clocks 1 s; stepTo (setTime s) hostStepped s

/-- NTB_STEP (R47, R56). -/
def ntbStep (s : State) : State :=
  if s.ntb.stepReady ≠ 2 then s
  else
    let s := clocks 1 s
    stepTo ((s.ntb.net : Int) + stepDelta (rd s 0x20054) (rd s 0x20058) * nsUnit).toNat hostStepped s

/-- The next second boundary. -/
def nextSecond (s : State) : Nat := (secOf s.ntb.net + 1) * secUnit

/-- The interval that waits (R194): one that differs from the interval in force, with the end of the slotframe of second `sec` when it is
seen first. -/
def biWaits (m : Mac) (sec bi : Nat) : Option (Nat × Nat) :=
  if bi = m.bi then none
  else if m.biNext.any (fun x => x.1 == bi) then m.biNext
  else some (bi, (sec / m.bi + 1) * m.bi)

/-- What takes effect at a second boundary: the rate unit (R53), an accepted SLOT_US, the beacon interval (R194) and BEACON_EN (R192). -/
def atSecond (s : State) : State :=
  let s := rateApply s
  let m := s.mac
  let sec := secOf s.ntb.net
  let next := biWaits m (sec - 1) (getF s 0x78010 7 0 + 1)
  let now := next.filter (fun x => decide (x.2 ≤ sec) && sec % x.1 == 0)
  let bi := (now.map (fun x => x.1)).getD m.bi
  let on := if sec % bi == 0 then getB s 0x78010 19 else m.beaconOn
  { s with mac := { m with slotUs := m.slotNext.getD m.slotUs, slotNext := none, beaconOn := on, bi := bi,
                           biNext := if now.isSome then none else next } }

/-- NTB_SECOND (R281, R309): network time crosses a second boundary in its ordinary advance. -/
def ntbSecond (s : State) : State := atSecond (sendNetTime (raiseSrc 5 (reachNet (nextSecond s) s)))

/-! ### PPS (R55) -/

/-- PPS_SEC_ARM: the write of NTB_PPS_SEC_HI. -/
def ppsSecArm (hi : Word) (s : State) : State :=
  let s := wr 0x2003C hi s
  setB 0x20024 5 true { s with ntb := { s.ntb with armed := some ((rd s 0x20038).toNat + 2 ^ 32 * hi.toNat) } }

/-- PPS is lost. -/
def ppsLost (s : State) : State :=
  judgeSources (setB 0x20024 5 false { s with ntb := { s.ntb with
    armed := none, ppsSec := none, ppsLast := none, ppsGood := 0, ppsOut := 0, ppsQual := false } })

/-- An edge that takes the seconds value `sec`: `good` counts it as 1 s +- 2 us after the last accepted one. -/
def ppsAccept (sec : Nat) (good : Nat) (s : State) : State :=
  { s with ntb := { s.ntb with
    armed := none, ppsSec := some sec, ppsLast := some ((s.ntb.net : Int), s.ntb.clk), ppsGood := min 3 good, ppsOut := 0,
    ppsOffset := (s.ntb.net : Int) - sec * secUnit } }

/-- The seconds of an accepted edge: the armed value, or one more than the last. -/
def ppsNext (s : State) : Option Nat := s.ntb.armed.orElse (fun _ => s.ntb.ppsSec.map (· + 1))

/-- A new measurement of the source that the time base follows: the offset is corrected and the servo tracks on (R46, R56). -/
def trackSource (off : Int) (s : State) : State := servo (correct off id s)

/-- An edge of the polarity that CAP4_CFG.EDGE selects (R55, R56, R60). -/
def ppsTake (s : State) : State :=
  match ppsNext s with
  | none => s
  | some sec =>
    match s.ntb.ppsLast with
    | none => ppsAccept sec 0 s
    | some (t0, _) =>
      let replaced := s.ntb.ppsSec.map (· + 1) != some sec
      let inWindow := decide (((s.ntb.net : Int) - t0 - secUnit).natAbs ≤ 2000 * nsUnit)
      if replaced then
        let s := ppsAccept sec 0 s
        if ntbState s = 1 ∧ ntbSource s = 2 then lockTo 2 s else s
      else if inWindow then
        let s := ppsAccept sec (s.ntb.ppsGood + 1) s
        if s.ntb.ppsQual then (if ntbState s = 1 ∧ ntbSource s = 2 then trackSource s.ntb.ppsOffset s else s)
        else if s.ntb.ppsGood = 3 then sourceQualifies 2 { s with ntb := { s.ntb with ppsQual := true } }
        else s
      else
        let s := setB 0x20024 11 true { s with ntb := { s.ntb with ppsOut := s.ntb.ppsOut + 1, ppsGood := if s.ntb.ppsQual then s.ntb.ppsGood else 0 } }
        if 3 ≤ s.ntb.ppsOut then ppsLost s else s

/-- PPS_EDGE (R55, R56, R60). -/
def ppsEdge (rising : Bool) (s : State) : State := if getB s 0x20180 1 == !rising then ppsTake s else s

/-- PPS_LOSS_TIMEOUT (R55): 1.1 s after the last accepted edge. -/
def ppsLossTimeout (s : State) : State :=
  match s.ntb.ppsLast with
  | none => s
  | some (t, _) => ppsLost (reachNet (t + 1100000000 * nsUnit).toNat s)

/-- REVERT_HOLD in core clocks (R50). DEDUCED (log entry 137): the field holds half the number of seconds. -/
def revertHold (s : State) : Nat := getF s 0x20020 11 8 * 2 * 655360000

/-- REVERT_HOLD_EXPIRY (R56): the candidate has stayed qualified for REVERT_HOLD. -/
def revertHoldExpiry (s : State) : State :=
  let c := s.ntb.candidate
  if c ≠ 0 ∧ sourceOk s c ∧ ntbState s = 1 ∧ c < ntbSource s then lockTo c (reachClk (s.ntb.candClk + revertHold s) s) else s

/-- The nanoseconds after which the bound reaches NTB_HOLD_ALARM. -/
def alarmNs (s : State) : Nat := ceilDiv (((rd s 0x20030).toNat - s.ntb.e0) * 2000000000) (holdRate s)

/-- HOLDOVER_ALARM (R56): once in a holdover. -/
def holdoverAlarm (s : State) : State :=
  if ntbState s ≠ 2 ∨ s.ntb.alarmed ∨ rd s 0x20030 = 0 ∨ rd s 0x20030 = 0xFFFFFFFF ∨ s.ntb.e0 = 0xFFFFFFFF then s
  else
    let s := reachClk (s.ntb.holdClk + clocksOfNs (alarmNs s)) s
    raiseEvt 2 0x105 (leBytes 4 (holdBound s)) (raiseSrc 8 (setB 0x20024 10 true { s with ntb := { s.ntb with alarmed := true } }))

/-! ### Captures (R59, R60) -/

def capBase (n : Nat) : Nat := 0x20100 + n * 0x20

/-- A capture unit stores a time. -/
def capStore (n t : Nat) (s : State) : State :=
  let o := capBase n
  let s := { s with caps := tabSet (fun _ => (0, 0)) s.caps n (t, stepByte s) }
  let s := onlyIf (getB s (o + 0x14) 0) (setB (o + 0x14) 1 true) s
  raiseSrc (9 + n) (incF (o + 0x14) 31 16 1 (setB (o + 0x14) 0 true (wr (o + 4) (BitVec.ofNat 32 (secOf t)) s)))

/-- CAPTURE_EDGE: EN and EDGE govern the ball; the synchroniser delay is a constant of the device. -/
def captureEdge (cap : Fin 5) (rising : Bool) (s : State) : State :=
  let o := capBase cap.val
  if getB s o 0 && (getB s o 1 == !rising) then capStore cap.val (s.ntb.net - Config.syncDelay) s else s

/-- The NS word of a capture: nanoseconds and step count share bits [29:24] (log entry 27). -/
def stampNs (t step : Nat) : Word := BitVec.ofNat 32 (nanoOf t) ||| BitVec.ofNat 32 (step % 256 * 2 ^ 24)

/-- CAPTURE_READ (R59): a read of CAPn_S_LO. -/
def captureRead (cap : Fin 5) (s : State) : State :=
  let o := capBase cap.val
  let c := tabGet (fun _ => (0, 0)) s.caps cap.val
  setB (o + 0x14) 0 false
    (wr (o + 0x10) (BitVec.ofNat 32 (fracOf c.1)) (wr (o + 0xC) (stampNs c.1 c.2) (wr (o + 8) (BitVec.ofNat 32 (secOf c.1 / 2 ^ 32))
      { s with lastRead := rd s (o + 4) })))

def execNtbTimeRead (s : State) : Res := .next (ntbTimeRead s)
def execPpsSecArm (hi : Word) (s : State) : Res := .next (ppsSecArm hi s)
def execPpsEdge (rising : Bool) (s : State) : Res := .next (ppsEdge rising s)
def execPpsLossTimeout (s : State) : Res := .next (ppsLossTimeout s)
def execRevertHoldExpiry (s : State) : Res := .next (revertHoldExpiry s)
def execHoldoverAlarm (s : State) : Res := .next (holdoverAlarm s)
def execCaptureEdge (cap : Fin 5) (rising : Bool) (s : State) : Res := .next (captureEdge cap rising s)
def execCaptureRead (cap : Fin 5) (s : State) : Res := .next (captureRead cap s)
def execLampStart (n : Fin 8) (s : State) : Res := .next (lampStart n s)
def execLampEnd (n : Fin 8) (s : State) : Res := .next (lampEnd n s)

end Sys2Proof.Machine
end

