-- ==== Sys2Proof/Machine/Coex.lean ====
section
/-! DEFINITION. What the transmit paths share: their registers and carriers, the frames they radiate, beacons, and the coexistence wires
(R109-R117, R146-R150, R188-R196). -/

namespace Sys2Proof.Machine

def txBase (p : Nat) : Nat := 0x60000 + p * 0x4000
def getTx (s : State) (p : Nat) : TxPath := tabGet (fun _ => {}) s.txs p
def setTx (p : Nat) (v : TxPath) (s : State) : State := { s with txs := tabSet (fun _ => {}) s.txs p v }
def txEnabled (s : State) (p : Nat) : Bool := getB s (txBase p + 8) 0
def inBurst (s : State) (p : Nat) : Bool := getB s (txBase p + 0xC) 0

/-- One microsecond, ns. -/
def us : Nat := 1000

/-- The start of an entry in network nanoseconds. -/
def opNetStart (s : State) (n : Nat) : Nat := opToNet s n (opStart s n)

/-- Whether an entry is armed or active. -/
def opLive (s : State) (n : Nat) : Bool := opState s n == 2 || opState s n == 3

/-- The carriers that radiate on a path, and those due on it that do not yet. -/
def radiatingOn (s : State) (p : Nat) : List Nat :=
  (List.range 128).filter (fun n => opLive s n && (getOp s n).radiating && (getOp s n).path == p)
def dueOn (s : State) (p : Nat) : List Nat :=
  (List.range 128).filter (fun n => opLive s n && (getOp s n).due && !(getOp s n).radiating && (getOp s n).path == p)

/-- Entries in order of start and index. -/
def byStart (s : State) (ns : List Nat) : List Nat :=
  ns.mergeSort (fun a b => decide (opNetStart s a < opNetStart s b) || (opNetStart s a == opNetStart s b && decide (a ≤ b)))

/-! ### Frames (R167, R168, R220) -/

def opFreq (s : State) (n : Nat) : Nat := (rd s (chBase (opChannel s n) + 8)).toNat
def opWidth (s : State) (n : Nat) : Nat := filterHz (getF s (chBase (opChannel s n) + 4) 6 4)
def opBuf (s : State) (n : Nat) : Nat := getF s (opBase n + 0x1C) 21 0
def opPre (s : State) (n : Nat) : Nat := getF s (opBase n + 0x18) 26 16

/-- The header bits and the payload of an entry's transmit descriptor. -/
def opHeader (s : State) (n : Nat) : Nat := leNat (pktRead s (opBuf s n) 3)
def opPayload (s : State) (n : Nat) : List Byte := pktRead s (opBuf s n + 4) (opHeader s n / 8 % 2048)

/-- The sync length of a channel: 32 or 16 bits (R144, R168). -/
def chSyncLen (s : State) (ch : Nat) : Nat := if getB s (chBase ch + 0x18) 0 then 16 else 32

/-- The air time of an entry's frame (R175). -/
def opAirNs (s : State) (n : Nat) : Nat :=
  airNs (opMode s n) (opPre s n) (chSyncLen s (opChannel s n)) ((opHeader s n).testBit 14) (opHeader s n / 8 % 2048)

/-- The deviations of R121, Hz: of a 2-GFSK mode, or outer and inner of a 4-GFSK mode. -/
def modeDev (mode : Nat) : Int := [3125, 6250, 12500, 25000, 25000, 50000, 100000, 200000].getD mode 0
def modeInner (mode : Nat) : Int := [0, 0, 0, 0, 0, 0, 33300, 66700].getD mode 0

/-- One bit per symbol: 1 is the positive deviation, in M6 and M7 the outer one (R166). -/
def bitDevs (mode : Nat) (bits : List Bool) : List Int := bits.map (fun b => if b then modeDev mode else -modeDev mode)

/-- Two bits per symbol, the earlier first: 00 is -outer, 01 -inner, 11 +inner, 10 +outer (R166). -/
def pairDevs (mode : Nat) : List Bool → List Int
  | b0 :: b1 :: bs =>
    (if b0 then (if b1 then modeInner mode else modeDev mode) else (if b1 then -modeInner mode else -modeDev mode)) :: pairDevs mode bs
  | _ => []

/-- The deviations of a frame symbol by symbol (R166): `lead` is preamble and sync word, `body` header, payload and CRC-32. -/
def frameDevs (mode : Nat) (lead body : List Bool) : List Int :=
  bitDevs mode lead ++ (if mode < 6 then bitDevs mode body else pairDevs mode body)

/-- The delay of a transmit path between its samples and the antenna, ns (R58, R153): the fixed delay with FIR_DELAY samples of 24.414 ns,
and NTB_DLY of its ball. -/
def txDelayNs (s : State) (p : Nat) : Nat :=
  Config.txDelay p / nsUnit + getF s (txBase p + 0x1C) 5 0 * 1000000 / 40960 + getF s (0x20094 + 4 * p) 11 0

/-- The frame an entry radiates at a preamble stamp (R166-R168, R220). -/
def opFrame (s : State) (n p stamp : Nat) : AirFrame :=
  let h := opHeader s n + 2 ^ 24 * hcrc (opHeader s n)
  let ch := opChannel s n
  let sync := rd s (chBase ch + 0x20)
  let len := chSyncLen s ch
  let pl := opPayload s n
  let body := if pl.isEmpty then [] else payloadBits (h.testBit 14) (h.testBit 15) pl
  let lead := preambleBits (opPre s n) ++ (List.range len).map (fun i => bitOf sync i)
  let rest := headerBits (opMode s n) h ++ body
  { tx := p, freq := opFreq s n, mode := opMode s n, power := (getOp s n).power, stamp := stamp, enters := stamp - txDelayNs s p,
    preamble := opPre s n, sync := sync, syncLen := len, header := h, payload := pl, bits := lead ++ rest,
    devs := frameDevs (opMode s n) lead rest }

/-! ### Beacons (R188-R196) -/

def devNid (s : State) : Nat := getF s 0x78044 15 0
def getUse (s : State) (n : Nat) : OpUse := tabGet (fun _ => .none) s.uses n
def setUse (n : Nat) (u : OpUse) (s : State) : State := { s with uses := tabSet (fun _ => .none) s.uses n u }

/-- The network key of the beacons. DESIGN CHOICE (log entry 39): the lowest valid slot with usage AIR. -/
def beaconKey (s : State) : Option Nat :=
  ((List.range 255).map (· + 1)).find? (fun k => (getKey s k).valid && (getKey s k).usage.testBit 0)

/-- Where the descriptor of a device-owned entry lies in the packet buffer. DESIGN CHOICE (log entry 40). -/
def descAddr (n : Nat) : Nat := 0x3B0000 + 0x840 * n

/-- HOLD_US of a beacon (R188). -/
def holdUs (s : State) : Nat := if holdBound s = 0xFFFFFFFF then 0xFFFF else min 0xFFFF (ceilDiv (holdBound s) 1000)

/-- The first 12 bytes of the beacon layout (R188), for a first preamble symbol at `t` ns. -/
def beaconTime (s : State) (t : Nat) : List Byte :=
  leBytes 4 (t / 1000000000) ++ leBytes 4 (t % 1000000000) ++ leBytes 2 s.mac.slotUs ++ leBytes 1 (s.mac.bi - 1) ++ leBytes 1 (devOf s)

/-- A beacon's MAC payload (R188). -/
def beaconBody (s : State) (t : Nat) : List Byte :=
  beaconTime s t ++ leBytes 4 (rd s 0x7803C).toNat ++ leBytes 4 (rd s 0x78040).toNat ++ leBytes 2 (holdUs s) ++ leBytes 1 (ntbState s) ++
    s.mac.extra

/-- The start of slot DEV of the first slotframe from `t` ns on (R192). -/
def nextBeacon (s : State) (t : Nat) : Nat :=
  let frame := s.mac.bi * 1000000000
  let slot := devOf s * s.mac.slotUs * us
  let here := t / frame * frame + slot
  if t ≤ here then here else here + frame

/-- Whether the beacon of a start is to be sent, as things stand (R192): BEACON_EN as it was at the start of a slotframe that has begun. -/
def beaconDue (s : State) (start : Nat) : Bool :=
  let frame := s.mac.bi * 1000000000
  if nowNs s < start / frame * frame then getB s 0x78010 19 else s.mac.beaconOn

/-- The delay of R190 in ms from `t` ns to the next ordinary beacon. -/
def beaconDelay (s : State) (t : Nat) : Nat :=
  let a := nextBeacon s t
  match [a, a + s.mac.bi * 1000000000].find? (beaconDue s) with
  | some b => min 255 ((b - t) / 1000000)
  | none => 255

/-- A lighthouse beacon's MAC payload (R190). -/
def lighthouseBody (s : State) (t : Nat) : List Byte :=
  beaconTime s t ++ leBytes 1 (ntbState s) ++ leBytes 1 (getF s 0x78010 13 8) ++ leBytes 1 (beaconDelay s t)

/-- The next FCNT under a network key, and the counter set (R181): FCNT counts separately for each key. -/
def keyCount (s : State) (key : List Byte) : Nat := ((s.cipher.fcnt.find? (fun p => p.1 == key)).map (fun p => p.2)).getD 0
def setCount (key : List Byte) (v : Nat) (s : State) : State :=
  { s with cipher := { s.cipher with fcnt := s.cipher.fcnt.filter (fun p => p.1 != key) ++ [(key, v)] } }

/-- The next FCNT under the key of a slot. -/
def fcntOf (s : State) (k : Nat) : Nat := keyCount s (getKey s k).key

/-- A beacon frame under a key slot, its key and a counter (R188, R526). -/
def beaconFrame (s : State) (k : Nat) (key : List Byte) (fcnt t : Nat) : List Byte :=
  let head := macHeader 0 true false false fcnt (devNid s) 0xFFFFFF 0 none ++ secHeader k false false fcnt
  macSeal key Config.eui.toNat fcnt false false head (beaconBody s t)

/-- A lighthouse beacon frame (R190, R526). -/
def lighthouseFrame (s : State) (t : Nat) : List Byte :=
  macHeader 6 false false false s.cipher.lighthouses (devNid s) 0xFFFFFF 0 none ++ lighthouseBody s t

/-- Whether the frames of a mode that the device originates are coded (R526). -/
def modeFec (mode : Nat) : Bool := mode < 2

/-- The frame of a beacon or lighthouse beacon in its entry's descriptor. -/
def putFrame (n : Nat) (frame : List Byte) (s : State) : State :=
  pktWrite (opBuf s n) (descriptor (opMode s n) (modeFec (opMode s n)) true false 0 frame) s

/-- BEACON_FILL (R189): the time fields and the MIC for a preamble stamp of `t` ns. The key of the first fill, after the clear assessment,
stays the beacon's; FCNT is the next one under it. -/
def beaconFill (n t : Nat) (s : State) : State :=
  match getUse s n with
  | .lighthouse => putFrame n (lighthouseFrame s t) s
  | _ =>
    match (getOp s n).fill.orElse (fun _ => (beaconKey s).map (fun k => (k, (getKey s k).key, 0))) with
    | some (k, key, _) =>
      let fcnt := keyCount s key
      putFrame n (beaconFrame s k key fcnt t) (setOp n { getOp s n with fill := some (k, key, fcnt) } s)
    | none => s

/-- The beacons that are filled and wait to radiate under a key. -/
def sealedUnder (s : State) (n : Nat) (key : List Byte) : Nat :=
  ((List.range 128).filter (fun m => m != n && opLive s m && !(getOp s m).radiating && (getOp s m).fill.any (fun x => x.2.1 == key))).length

/-- A beacon has a frame to send: a NID (R526), and for an ordinary one a key and a counter that is not used up (R181). -/
def beaconReady (s : State) (n : Nat) : Bool :=
  devNid s != 0 && (match getUse s n with
    | .lighthouse => true
    | _ => match beaconKey s with
      | some k => decide (fcntOf s k + sealedUnder s n (getKey s k).key < 2 ^ 32)
      | none => false)

/-- A counter of a network key advanced (R181). -/
def bumpFcnt (k : Nat) (s : State) : State := setCount (getKey s k).key (fcntOf s k + 1) s

/-- A beacon is radiated (R189, R196, R526): its counter value is used. -/
def beaconRadiated (n : Nat) (s : State) : State :=
  let count := fun s => match (getOp s n).fill with
    | some (_, key, fcnt) => incF 0x7802C 31 16 1 (setCount key (fcnt + 1) s)
    | none => incF 0x7802C 31 16 1 s
  let own := getUse s n == .beacon || opChannel s n == getF s 0x78010 13 8
  match getUse s n with
  | .lighthouse => { s with cipher := { s.cipher with lighthouses := s.cipher.lighthouses + 1 } }
  | .beacon => setF 0x7802C 2 0 0 (count s)
  | .rescueBeacon => onlyIf own (setF 0x7802C 2 0 0) (count s)
  | _ => s

/-- The valid rescue channels, each once (R229). -/
def rescueChannels (s : State) : List Nat :=
  let w := rd s 0x78018
  (([0, 1, 2, 3].filter (fun i => bitOf w (8 * i + 7))).map (fun i => fieldOf w (8 * i + 5) (8 * i))).eraseDups

/-- A preamble field of OPQ_LH_CFG in bits (R229). -/
def preBits (v : Nat) : Nat := 8 * min 128 (max 2 v)

/-- The Keeper writes a BEACON entry (R195): channel, mode, retry, power and preamble bits as the registers stand. -/
def writeBeacon (u : OpUse) (ch mode retry power pre start : Nat) (s : State) : State :=
  match freeEntry s true with
  | none => s
  | some n =>
    setUse n u (takeEntry n
      { cfg := 4 + 2 ^ 8 * ch + 2 ^ 16 * mode + 2 ^ 20 * retry + 2 ^ 24 * min 160 power, start := start, dur := 0, tol := 0, pre := pre,
        buf := descAddr n, owner := 16 } s)

/-- A beacon on a channel, from OPQ_BEACON_CFG. -/
def writeBeaconOn (u : OpUse) (start ch : Nat) (s : State) : State :=
  let b := rd s 0x78010
  writeBeacon u ch (fieldOf b 18 16) (fieldOf b 23 20) (fieldOf b 31 24) (preBits (getF s 0x78014 23 16)) start s

/-- Whether an entry of a use with a start is already written. -/
def beaconWritten (s : State) (u : OpUse) (start : Nat) : Bool :=
  (List.range 128).any (fun n => opState s n != 0 && decide (getUse s n = u) && opStartReg s n == start)

/-- BEACON_SCHEDULE (R192, R195, R196): LOOKAHEAD before the start of slot DEV of a slotframe. -/
def beaconSchedule (s : State) : State :=
  let start := nextBeacon s (nowNs s)
  let look := max 1 (getF s 0x78000 15 8) * 1000000
  let s := reachNet ((start - look) * nsUnit) s
  if !beaconDue s start ∨ devNid s = 0 ∨ (beaconKey s).isNone ∨ beaconWritten s .beacon start then s
  else
    let s := writeBeaconOn .beacon start (getF s 0x78010 13 8) s
    if getB s 0x7802C 2 then
      forAll ((rescueChannels s).filter (· != getF s 0x78010 13 8)) (writeBeaconOn .rescueBeacon start) s
    else s

/-- LIGHTHOUSE_SCHEDULE (R190, R193, R195): slot DEV of an even second. -/
def lighthouseSchedule (s : State) : State :=
  let slot := devOf s * s.mac.slotUs * us
  let here := nowNs s / 2000000000 * 2000000000 + slot
  let start := if nowNs s ≤ here then here else here + 2000000000
  let s := reachNet ((start - max 1 (getF s 0x78000 15 8) * 1000000) * nsUnit) s
  let w := rd s 0x78014
  if !bitOf w 3 ∨ devNid s = 0 ∨ beaconWritten s .lighthouse start then s
  else forAll (rescueChannels s) (fun ch s =>
    writeBeacon .lighthouse ch (fieldOf w 2 0) (fieldOf w 7 4) (fieldOf w 15 8) (preBits (fieldOf w 31 24)) start s) s

/-- The next slot boundary (R191). -/
def nextSlot (s : State) : Nat := (nowNs s / (s.mac.slotUs * us) + 1) * (s.mac.slotUs * us)

/-- A beacon on BEACON_CH completes LBT_BUSY (R196): the third in a row raises BEACON_BLOCKED and, where the rescue set is not empty, sets
BLOCKED and sends the beacon at the next slot boundary on every valid rescue channel. -/
def beaconBusy (s : State) : State :=
  let run := getF s 0x7802C 1 0
  let s := setF 0x7802C 1 0 (min 3 (run + 1)) s
  if run ≠ 2 then s
  else
    let s := raiseEvt 7 0x128 [] s
    let cs := rescueChannels s
    if cs.isEmpty then s
    else forAll cs (writeBeaconOn .rescueBeacon (nextSlot s)) (setB 0x7802C 2 true (setB 0x7802C 8 true s))

/-! ### Instants of a burst (R102, R105, R159) -/

/-- The receive paths whose antenna a transmit path shares. -/
def sharers (s : State) (p : Nat) : List Nat := [0, 1, 2, 3].filter (fun r => shareTx s r == some p)

/-- LEAD in force for a transmit path, ns: the greatest of its TRSW_TX and PA_EN outputs. -/
def leadNs (s : State) (p : Nat) : Nat := ((sharers s p).map (fun r => feMost s r 8)).foldl max 0

/-- The extra time a late burst takes on a shared antenna (R106, R107). -/
def shareNs (s : State) (p : Nat) : Nat := if (sharers s p).isEmpty then 0 else 12 * us

/-- The time from a clear assessment to the ramp start (R159). -/
def clearNs (s : State) (p : Nat) : Nat := if 12 * us < leadNs s p then 16 * us + leadNs s p else 28 * us

/-- The first preamble instant an operation aims at, network ns: its start, or what a grant or a clear assessment planned; in backoff what
a clear next assessment would plan. -/
def opTarget (s : State) (n : Nat) : Nat :=
  let x := getOp s n
  if opKind s n = 2 then max (opNetStart s n) (x.plannedAt.getD 0)
  else match x.plannedAt with
    | none => opNetStart s n
    | some t => if x.clear then t else t + clearNs s x.path + x.ramp * us

/-- The ramp start tR an operation aims at. -/
def rampAt (s : State) (n : Nat) : Nat := opTarget s n - (getOp s n).ramp * us

/-- Entries in order of the preamble instant they aim at, then of index. -/
def byTarget (s : State) (ns : List Nat) : List Nat := ns.mergeSort (fun a b => decide (opTarget s a ≤ opTarget s b))

/-! ### Coexistence (R109-R112, R117) -/

def coexOn (s : State) : Bool := getB s 0x48000 0
def coexArbiter (s : State) : Bool := getB s 0x48000 1
def requester (s : State) : Bool := coexOn s && !coexArbiter s
def arbiter (s : State) : Bool := coexOn s && coexArbiter s

/-- COEX_REQ as a level (R109): sources 224 and 225. -/
def setReqLevel (b : Bool) (s : State) : State :=
  if getB s 0x48008 0 = b then s else raiseSrc (if b then 224 else 225) (setB 0x48008 0 b s)

/-- COEX_GNT as a level: sources 226 and 227. -/
def setGntLevel (b : Bool) (s : State) : State :=
  if getB s 0x48008 2 = b then s else raiseSrc (if b then 226 else 227) (setB 0x48008 2 b s)

/-- The level of a ball after polarity (R109, R117): `i` is the ball's polarity bit. -/
def coexPol (s : State) (i : Nat) (high : Bool) : Bool := high != getB s 0x48000 i

/-- COEX_STATUS follows the input balls after polarity, whatever EN holds (R109). -/
def coexInputs (s : State) : State :=
  let s := setGntLevel (coexPol s 10 s.coexIn.gnt) s
  if coexArbiter s then setReqLevel (coexPol s 8 s.coexIn.req) (setB 0x48008 1 (coexPol s 9 s.coexIn.pri) s) else s

/-- Priority of an entry (R110): a beacon, or the COEX_PRI flag. -/
def opPriority (s : State) (n : Nat) : Bool := opKind s n == 4 || getB s (opBase n + 4) 4

/-- Whether an open receive window keeps COEX_STAT. -/
def windowOpen (s : State) : Bool := (List.range 128).any (fun n => opState s n == 3 && opKind s n == 1)

/-- The operations for which a requester wants the air now (R110): carriers that radiate, those held for a grant, due ones from
tR - REQ_LEAD on, and with REQ_ON_RX receive windows from their start - REQ_LEAD on. -/
def airWanted (s : State) : List Nat :=
  let lead := getF s 0x48004 7 0 * us
  (List.range 128).filter (fun n =>
    let x := getOp s n
    if isTxKind (opKind s n) then
      opLive s n && (x.radiating || x.held == 2 || (x.due && decide (rampAt s n ≤ nowNs s + lead)))
    else opKind s n == 1 && getB s 0x48000 3 &&
      (opState s n == 3 || (opState s n == 2 && decide (opNetStart s n ≤ nowNs s + lead))))

/-- A grant serves the burst it was sampled for: with neither a burst nor an operation due on the path there is none (R110). -/
def grantUsed (s : State) : State :=
  forAll [0, 1] (fun p s =>
    if (getTx s p).granted && !inBurst s p && (dueOn s p).isEmpty then setTx p { getTx s p with granted := false } s else s) s

/-- The grant-out of an arbiter given, or withdrawn (R111). -/
def grantOut (s : State) : State :=
  if getB s 0x48008 3 then s
  else incW 0x4800C (setB 0x48008 3 true { s with coexIn := { s.coexIn with grantClk := some s.ntb.clk } })
def grantBack (s : State) : State := setB 0x48008 3 false { s with coexIn := { s.coexIn with grantClk := none } }

/-- The own operations whose tR comes within ARB_GUARD (R111). -/
def ownSoon (s : State) : List Nat :=
  (List.range 128).filter (fun n => opLive s n && isTxKind (opKind s n) && !(getOp s n).radiating &&
    decide (rampAt s n ≤ nowNs s + getF s 0x48004 23 16 * us))

/-- Whether the imminent or running own activity is priority (R111). -/
def ownPriority (s : State) : Bool := (ownSoon s ++ radiatingOn s 0 ++ radiatingOn s 1).any (opPriority s)

/-- The outputs after a burst, a window or a request began or ended (R109-R111). A requester's COEX_REQ falls at the end of the last
ramp-down or window, and a grant that already stands as it rises is received (log entry 148). An arbiter grants a deferred request once
nothing of its own is imminent or in progress. -/
def coexOutputs (s : State) : State :=
  if requester s then
    let s := grantUsed s
    let want := airWanted s
    let up := !want.isEmpty && !getB s 0x48008 0 && getB s 0x48008 2
    let s := setReqLevel (!want.isEmpty) (setB 0x48008 1 (want.any (opPriority s)) (onlyIf up (incW 0x4800C) s))
    setB 0x48008 3 (inBurst s 0 || inBurst s 1 || (windowOpen s && getB s 0x48000 4)) s
  else if arbiter s && getB s 0x48008 0 && !inBurst s 0 && !inBurst s 1 && (ownSoon s).isEmpty then grantOut s
  else s

/-- The operations that an end of a denial or of a grant-out releases: they ramp `delay` ns after it (R110, R111). -/
def coexRelease (delay : Nat) (s : State) : State :=
  forAll ((List.range 128).filter (fun n => opLive s n && (getOp s n).held == 2)) (fun n s =>
    let x := getOp s n
    setTx x.path { getTx s x.path with granted := true }
      (setOp n { x with held := 0, plannedAt := some (max (opTarget s n) (nowNs s + delay + x.ramp * us)) } s)) s

/-- COEX_TIMING_WRITE (R117). -/
def coexTimingWrite (value : Word) (s : State) : State :=
  if coexOn s then setB 0x48008 9 true s
  else if fieldOf value 7 0 ≤ fieldOf value 15 8 then setB 0x48008 8 true s
  else wr 0x48004 (value &&& 0xFFFFFF) s

def execBeaconSchedule (s : State) : Res := .next (beaconSchedule s)
def execLighthouseSchedule (s : State) : Res := .next (lighthouseSchedule s)
def execCoexTimingWrite (value : Word) (s : State) : Res := .next (coexTimingWrite value s)

end Sys2Proof.Machine
end

