-- ==== Sys2Proof/Machine/Transmit.lean ====
section
/-! DEFINITION. The transmit paths: locks, plans, bursts, carriers, holds, listen before talk, the mask monitor, and the synthesiser
events that carry them (R93-R108, R146-R164, R224, R227). -/

namespace Sys2Proof.Machine

/-! ### Shared antennas (R84, R89, R105, R159) -/

/-- An LNA enters or leaves protect mode (R105): a compensated gain step. -/
def protectStep (r : Nat) (on : Bool) (s : State) : State := analogStep r (setPath r { getPath s r with protect := on } s)

/-- The core clocks between which a path was or is blanked by the last burst on its antenna (R89); no end while the burst runs. -/
def blankSpan (s : State) (r : Nat) : Option (Nat × Option Nat) :=
  match shareTx s r with
  | none => none
  | some p =>
    let t := getTx s p
    t.rampClk.map (fun a => (a - clocksOfNs (feMost s r 8), t.endClk.map (fun e => e + clocksOfNs (feMost s r 16 + 2000))))

/-- The core clocks between which all of some paths are blanked at once by their antennas' last bursts, as far as now. -/
def allBlanked (s : State) (ps : List Nat) : Option (Nat × Nat) :=
  if ps.isEmpty then none
  else ps.foldl (fun (b : Option (Nat × Nat)) r =>
    match b, blankSpan s r with
    | some (lo, hi), some (lo', hi') =>
      let l := max lo lo'
      let h := min hi (hi'.getD s.ntb.clk)
      if l ≤ h then some (l, h) else none
    | _, _ => none) (some (0, s.ntb.clk))

/-- When the paths of each band were last all blanked is kept as a new burst begins. -/
def noteDeaf (s : State) : State :=
  forAll [0, 1] (fun b s =>
    match allBlanked s (bandPaths s b) with
    | none => s
    | some (_, hi) => { s with pathS := { s.pathS with deaf := tabSet (fun _ => 0) s.pathS.deaf b (hi + 1) } }) s

/-- An assessment is blind when at any sample of the window every source path of the channel was blanked (R159). -/
def blindNow (s : State) (ch : Nat) : Bool :=
  let b := chBand s ch
  let from' := s.ntb.clk - clocksOfNs (max 1 (getF s 0x68000 23 16) * 20 * us)
  decide (from' < tabGet (fun _ => 0) s.pathS.deaf b) ||
    (match allBlanked s (bandPaths s b) with
      | none => false
      | some (_, hi) => decide (from' ≤ hi))

/-- A burst begins: its ramp starts in `ahead` ns, and the sharing paths enter protect mode (R89, R105). -/
def shareBegin (p ahead ramp : Nat) (s : State) : State :=
  let s := noteDeaf s
  let s := setTx p { getTx s p with rampClk := some (s.ntb.clk + clocksOfNs ahead), rampUs := ramp, endClk := none } s
  forAll (sharers s p) (fun r s => protectStep r true s) s

/-- A burst has ended: receptions over the blanked samples are flagged, and the sharing paths leave protect mode (R84, R105; log entry
149). -/
def shareEnd (p : Nat) (s : State) : State :=
  let s := setTx p { getTx s p with endClk := some ((getTx s p).endClk.getD s.ntb.clk) } s
  let s := if (sharers s p).isEmpty then s
    else forAll (List.range 64) (fun ch => forAll [0, 1] (fun k s => if blankedDuring s ch k then flagSlot ch k 1 s else s)) s
  forAll (sharers s p) (fun r s => if (getPath s r).protect then protectStep r false s else s) s

/-! ### Ramps (R157) -/

def maskOn (s : State) (p : Nat) : Bool := getF s (txBase p + 0x240) 15 0 != 0
def autoRamp (s : State) (p : Nat) : Bool := getB s (txBase p + 4) 1 && maskOn s p

/-- The ladder of ramp lengths. -/
def rampUp (v : Nat) : Nat := ([2, 4, 8, 16, 32, 64].find? (fun l => v ≤ l)).getD 64
def rampNextUp (v : Nat) : Nat := ([2, 4, 8, 16, 32, 64].find? (fun l => v < l)).getD 64
def rampNextDown (v : Nat) : Nat := ([64, 32, 16, 8, 4, 2].find? (fun l => l < v)).getD 2

/-- The power code an entry asks for, limited by PWR_MAX (R149). -/
def askedPower (s : State) (p n : Nat) : Nat := min (getF s (opBase n + 4) 31 24) (getF s (txBase p + 0x10) 7 0)

/-- The key of a pair of mode and power class. -/
def rampKey (s : State) (p n : Nat) : Nat := 64 * opMode s n + askedPower s p n / 4

/-- The length that a pair uses now, and whether it is a probe. -/
def rampFor (s : State) (p n : Nat) : Nat × Bool :=
  let base := getF s (txBase p + 4) 14 8
  if autoRamp s p then
    let t := getTx s p
    let k := rampKey s p n
    let l := tabGet (fun _ => rampUp base) t.rampLen k
    if tabGet (fun _ => false) t.probes k then (rampNextDown l, true) else (l, false)
  else (base, false)

/-- The next carrier of a pair is a probe, or not. -/
def setProbe (p k : Nat) (b : Bool) (s : State) : State :=
  setTx p { getTx s p with probes := tabSet (fun _ => false) (getTx s p).probes k b } s

/-- AUTO_RAMP_UPDATE (R157), after a carrier's ramp-down. -/
def rampUpdate (p n : Nat) (s : State) : State :=
  let x := getOp s n
  let k := rampKey s p n
  let failed := getB s (opBase n + 0x28) 17
  let s := wr (txBase p + 0x34) (BitVec.ofNat 32 (x.ramp % 128 + 256 * opMode s n + 65536 * (askedPower s p n / 4) + (if x.probe then 2 ^ 24 else 0))) s
  if !autoRamp s p then s
  else
    let t := getTx s p
    let d := fun _ => rampUp (getF s (txBase p + 4) 14 8)
    let len := tabGet d t.rampLen k
    let clear := { t with passes := tabSet (fun _ => 0) t.passes k 0 }
    if failed then setTx p (if x.probe then clear else { clear with rampLen := tabSet d t.rampLen k (rampNextUp len) }) s
    else if x.probe then setTx p { clear with rampLen := tabSet d t.rampLen k x.ramp } s
    else
      let c := tabGet (fun _ => 0) t.passes k + 1
      let s := setTx p { t with passes := tabSet (fun _ => 0) t.passes k c } s
      if c = 64 ∧ 2 < len then setProbe p k true s else s

/-- The checks of a transmit path's apply (R164). -/
def txCheck (p : Nat) (s : State) : Nat :=
  let sh := fun o => rdShadow s (txBase p + o)
  let ramp := (List.range 16).flatMap (fun k => [fieldOf (sh (0x200 + 4 * k)) 9 0, fieldOf (sh (0x200 + 4 * k)) 25 16])
  let mask := ((List.range 16).map (fun k => fieldOf (sh (0x240 + 4 * k)) 15 0)).takeWhile (· != 0)
  let fir := ((List.range 64).map (fun k => (signedOf 16 (fieldOf (sh (0x100 + 4 * k)) 15 0)).natAbs)).sum
  let len := fieldOf (sh 4) 14 8
  let lo := fieldOf (sh 0x14) 3 0
  let hi := fieldOf (sh 0x14) 7 4
  if len < 2 ∨ 64 < len then 1
  else if !decide (ramp.Pairwise (· ≤ ·)) ∨ ramp.getD 31 0 ≠ 0x3FF then 2
  else if !decide (mask.Pairwise (· < ·)) then 3
  else if 12 < fieldOf (sh 4) 19 16 then 4
  else if (lo ≠ 0 ∧ (lo < 3 ∨ 8 < lo)) ∨ hi < lo ∨ 8 < hi then 5
  else if 0x8000 < fir then 6
  else if 160 < fieldOf (sh 0x10) 7 0 then 7
  else 0

/-- The apply of a transmit path (R27, R157): no carrier in a burst. -/
def txApply (p : Nat) (s : State) : State :=
  if inBurst s p then s
  else applyRun (txBase p) (txBase p) (txBase p + 0x4000) (186 + p) 6 (txCheck p)
    (fun s => setTx p { getTx s p with rampLen := [], passes := [], probes := [] } s) s

/-! ### Plans and power (R147, R150) -/

/-- Whether a passband lies inside LO +- 16 MHz. -/
def inLo (f width lo : Nat) : Bool := decide (2 * ((f : Int) - lo).natAbs + width ≤ 32000000)

/-- The midpoint of the lowest and highest frequency of carriers. -/
def midLo (s : State) (ns : List Nat) : Nat :=
  let fs := ns.map (opFreq s)
  (fs.foldl min (fs.headD 0) + fs.foldl max 0) / 2

/-- The plan of R147: carriers taken in order until one would leave LO +- 16 MHz. -/
def planFrom (s : State) : List Nat → List Nat → List Nat
  | acc, [] => acc
  | acc, n :: ns =>
    let lo := midLo s (acc ++ [n])
    if (acc ++ [n]).all (fun m => inLo (opFreq s m) (opWidth s m) lo) then planFrom s (acc ++ [n]) ns else acc

/-- The end of an entry's frame, network ns. -/
def frameEnd (s : State) (n : Nat) : Nat := opNetStart s n + opAirNs s n

/-- The other armed operations that may belong to a burst of a path that begins with `n` (R147). -/
def planOthers (s : State) (p n : Nat) : List Nat :=
  (List.range 128).filter (fun m =>
    m != n && opLive s m && isTxKind (opKind s m) && !(getOp s m).radiating &&
      ((getOp s m).path == p || ((getOp s m).path == 2 && (getF s (opBase m + 4) 7 6 == p + 1 || getF s (opBase m + 4) 7 6 == 0))) &&
      decide (opNetStart s m < max (opTarget s n) (opNetStart s n) + opAirNs s n))

/-- The crest factor taken for `k` carriers, times 10^18 (R150). -/
def paprOf (s : State) (p k : Nat) : Nat :=
  let cfg := rd s (txBase p + 4)
  if bitOf cfg 3 then min (k * 10 ^ 18) (powerOf (2 * fieldOf cfg 19 16)) else k * 10 ^ 18

/-- Whether carriers of these codes stay within +10 dBm of peak estimate once each gives way by `d` quarter decibels (R150). -/
def powerFits (s : State) (p : Nat) (codes : List Nat) (d : Nat) : Bool :=
  decide ((codes.map powerOf).sum * paprOf s p codes.length ≤ powerOf (160 + d) * 10 ^ 18)

/-- The reduction of R150 in quarter decibels. -/
def powerExcess (s : State) (p : Nat) (codes : List Nat) : Nat := ((List.range 120).find? (powerFits s p codes)).getD 120

/-- The planned carriers that a burst keeps and their reduction: the latest leaves while a code would fall below 0 (R150). -/
def powerPlan (s : State) (p : Nat) : Nat → List Nat → List Nat × Nat
  | 0, ns => (ns, 0)
  | fuel + 1, ns =>
    let codes := ns.map (askedPower s p)
    let d := powerExcess s p codes
    if codes.all (fun c => d ≤ c) then (ns, d) else powerPlan s p fuel ns.dropLast

/-- The code a joining carrier gets from the headroom the active ones leave (R150); none where it would fall below 0. -/
def joinPower (s : State) (p n : Nat) : Option Nat :=
  let act := (radiatingOn s p).map (fun m => (getOp s m).power)
  let ask := askedPower s p n
  ((List.range (ask + 1)).map (ask - ·)).find? (fun c =>
    decide ((((act ++ [c]).map powerOf).sum) * paprOf s p (act.length + 1) ≤ powerOf 160 * 10 ^ 18))

/-- POWER_LIMITED of an entry and its path (R149, R150). -/
def limitFlag (p n : Nat) (s : State) : State := setB (opBase n + 0x28) 18 true (setB (txBase p + 0xC) 9 true s)

/-- A carrier's power fixed; POWER_LIMITED of its entry says whether the burst lowers it. -/
def fixPower (p n code : Nat) (s : State) : State :=
  let s := setOp n { getOp s n with power := code } s
  if code < getF s (opBase n + 4) 31 24 then limitFlag p n s else setB (opBase n + 0x28) 18 false s

/-! ### Carriers -/

/-- The core clock at which a carrier's ramp-down ends. -/
def carrierEnd (s : State) (n : Nat) : Nat := (getOp s n).endClk + clocksOfNs ((getOp s n).ramp * us)

/-- The carriers of a path that are still active: their ramp-down has not ended (R147, R163). -/
def activeOn (s : State) (p : Nat) : List Nat := (radiatingOn s p).filter (fun n => decide (s.ntb.clk < carrierEnd s n))

/-- TXPn_STATUS (R163): CARRIERS counts the active carriers of the present clock. -/
def txpStatus (s : State) (p : Nat) : Word := withField (rd s (txBase p + 0xC)) 3 1 (activeOn s p).length

/-- The transmit gate stays closed: the composite of the path is looped back, or EXTEST holds the balls (R487, R492). -/
def gateShut (s : State) (p : Nat) : Bool := getF s 0xE0004 17 16 == p + 1 || s.taps.radio == 3

/-- The transmit gate (R95): the synthesiser's lock and the path's enable. -/
def gateOpen (s : State) (p : Nat) : Bool := getB s (synBase (2 + p) + 4) 3 && txEnabled s p

/-- Point `k` of the ramp profile of a path (R152, R162). -/
def rampPoint (s : State) (p k : Nat) : Nat :=
  if k % 2 = 0 then getF s (txBase p + 0x200 + 4 * (k / 2)) 9 0 else getF s (txBase p + 0x200 + 4 * (k / 2)) 25 16

/-- The code of the PA bias DAC of a path (R154): BIAS_OFF, or along the ramp profile to BIAS_ON over the first carrier's ramp-up and back
over the last carrier's ramp-down; BIAS_OFF while the gate is closed. -/
def paBias (s : State) (p : Nat) : Int :=
  let b := rd s (txBase p + 0x18)
  let off : Int := fieldOf b 9 0
  let on : Int := fieldOf b 25 16
  let at' := fun (k : Nat) => off + (on - off) * rampPoint s p (min 31 k) / 1023
  let t := getTx s p
  let now := s.ntb.clk
  if !gateOpen s p || gateShut s p || !inBurst s p then off
  else match t.rampClk with
    | none => off
    | some a =>
      let up := clocksOfNs (t.rampUs * us)
      let last := (radiatingOn s p).foldl (fun (b : Nat × Nat) n => if b.1 < carrierEnd s n then (carrierEnd s n, (getOp s n).endClk) else b) (0, 0)
      if now < a then off
      else if now < a + up then at' (32 * (now - a) / up)
      else if now < last.2 then on
      else if now < last.1 then at' (31 - 32 * (now - last.2) / (last.1 - last.2))
      else off

/-- A carrier begins to radiate with its first preamble symbol at `t` ns (R58, R103, R189). -/
def radiate (p n t : Nat) (s : State) : State :=
  let s := opActivate n s
  let x := getOp s n
  let late := decide (opNetStart s n < t) && (x.tries == 0 || x.held != 0 || x.lateArm) && x.released.isNone
  let s := onlyIf late (setB (opBase n + 0x28) 16 true) s
  let s := onlyIf (opKind s n == 4) (fun s => beaconRadiated n (beaconFill n t s)) s
  let c := s.ntb.clk + clocksOfNs (t - nowNs s)
  let s := setOp n { getOp s n with
    radiating := true, stamp := t, stampStep := stepByte s, held := 0, path := p, startClk := c, endClk := c + clocksOfNs (opAirNs s n) } s
  if gateShut s p then s else { s with air := s.air ++ [opFrame s n p t] }

/-- A carrier held under R106: behind its synthesiser (1), a grant (2) or a burst (3). A carrier held behind a burst after a clear
assessment assesses again; after backoff its tolerance counts from the start that the assessment planned (R148). -/
def holdOp (why n : Nat) (s : State) : State :=
  let x := getOp s n
  let p := x.path
  let s := if x.held = 0 then incW (synBase (2 + p) + 0x34) (setB (synBase (2 + p) + 4) 10 true s) else s
  let s := onlyIf (why == 3) (setB (txBase p + 0xC) 11 true) s
  let base := if why = 3 ∧ 0 < x.tries ∧ x.clear then x.plannedAt else x.base
  setOp n { x with held := why, base := base, clear := x.clear && why != 3 } s

/-! ### Plans of bursts (R98, R147) -/

/-- The burst that begins with `n` is planned, and the synthesiser moves unless it is acquiring or being refreshed. -/
def planBurst (p n : Nat) (s : State) : State :=
  let ns := planFrom s [n] (byStart s (planOthers s p n))
  let lo := midLo s ns
  let s := setTx p { getTx s p with lo := lo } s
  let s := forAll ((dueOn s p).filter (fun m => !ns.contains m)) (fun m s => setOp m { getOp s m with planned := false } s) s
  let s := forAll ns (fun m s => setOp m { getOp s m with planned := true, path := p } s) s
  let y := 2 + p
  if acquiring s y || lockedTo s y lo then s else hop y lo (opActivate n s)

/-- The due operation of a path that comes first has a plan, made now where it has none: after an end, a backoff or a burst (R103, R147). -/
def replan (p : Nat) (s : State) : State :=
  match byTarget s (dueOn s p) with
  | [] => s
  | n :: _ =>
    if inBurst s p || !txEnabled s p then s
    else if (getOp s n).planned && (acquiring s (2 + p) || lockedTo s (2 + p) (getTx s p).lo) then s
    else planBurst p n s

/-- A transmit operation leaves without having radiated; an own beacon that was blocked counts (R196). A probe that radiated nothing is
owed to the next carrier of its pair (R157). -/
def txLeave (n result : Nat) (s : State) : State :=
  let u := getUse s n
  let x := getOp s n
  let s := onlyIf (x.probe && x.path < 2) (setProbe x.path (rampKey s x.path n) true) s
  let s := opEnd n result 0 s
  let own := u == .beacon || (u == .rescueBeacon && opChannel s n == getF s 0x78010 13 8)
  let s := if result = 5 ∧ own then beaconBusy s else s
  coexOutputs (if result = 9 then incW 0x48010 s else s)

/-- The same, and what waits on its path is planned. -/
def txEnd (n result : Nat) (s : State) : State :=
  let p := (getOp s n).path
  onlyIf (decide (p < 2)) (replan p) (txLeave n result s)

/-- A held operation past its tolerance (R107). -/
def txLateEnd (n : Nat) (s : State) : State :=
  let p := (getOp s n).path
  raiseEvt 4 0x118 (leBytes 1 n) (incW (synBase (2 + p) + 0x38) (txEnd n 2 s))

/-- A burst has ended (R147): the path and its sharers return, what waits on the path is planned, and a deferred request is granted. -/
def burstEnd (p : Nat) (s : State) : State :=
  let s := shareEnd p (raiseSrc (209 + 2 * p) (setF (txBase p + 0xC) 3 0 0 s))
  let s := setTx p { getTx s p with granted := false } s
  let s := forAll (dueOn s p) (fun n s => setOp n { getOp s n with planned := false } s) s
  let s := coexOutputs (replan p s)
  if arbiter s && getB s 0x48008 0 && !inBurst s 0 && !inBurst s 1 then grantOut s else s

/-- A carrier's ramp-down ends (R156, R157, R161, R222). -/
def finishCarrier (p result n : Nat) (s : State) : State :=
  let x := getOp s n
  opComplete n result (x.stamp * nsUnit) x.stampStep 0 (rampUpdate p n s)

/-- The carriers of a running burst whose ramp-down has ended complete, in the order of their ends; the last one ends with the burst. -/
def settleCarriers (p : Nat) (s : State) : State :=
  let ns := (radiatingOn s p).mergeSort (fun a b => decide (carrierEnd s a ≤ carrierEnd s b))
  forAll (ns.dropLast.filter (fun n => decide (carrierEnd s n ≤ s.ntb.clk))) (finishCarrier p 1) s

/-- The ramp-down of a path starts now and takes the longest ramp of its carriers. -/
def rampsDown (p : Nat) (s : State) : State :=
  let l := ((radiatingOn s p).map (fun n => (getOp s n).ramp)).foldl max 0
  setTx p { getTx s p with endClk := some (s.ntb.clk + clocksOfNs (l * us)) } s

/-- A single carrier ends while the burst may go on. -/
def dropCarrier (p result n : Nat) (s : State) : State :=
  let s := if (radiatingOn s p).length = 1 then rampsDown p s else s
  let s := finishCarrier p result n s
  if (radiatingOn s p).isEmpty then burstEnd p s else s

/-- Every carrier of a burst ramps down and ends with one result (R103, R161). -/
def abortBurst (p result : Nat) (s : State) : State :=
  if inBurst s p then
    let s := settleCarriers p s
    burstEnd p (forAll (radiatingOn s p) (finishCarrier p result) (rampsDown p s))
  else s

/-- The gate closes under a burst with no ramp-down (R103): its carriers end LOCK_LOST, and no ramp length is judged (R157). -/
def cutBurst (p : Nat) (s : State) : State :=
  if inBurst s p then
    let s := settleCarriers p s
    burstEnd p (forAll (radiatingOn s p) (fun n s =>
      let x := getOp s n
      opComplete n 10 (x.stamp * nsUnit) x.stampStep 0 (onlyIf x.probe (setProbe p (rampKey s p n) true) s)) s)
  else s

/-! ### Lock due (R103, R147, R221) -/

/-- Whether a carrier can join a path's running or planned burst (R147, R148, R221). -/
def canJoin (s : State) (n p : Nat) : Bool :=
  inLo (opFreq s n) (opWidth s n) (getTx s p).lo &&
    (if inBurst s p then
      decide ((activeOn s p).length < 4) &&
        (radiatingOn s p).any (fun m => decide (opNetStart s n < (getOp s m).stamp + opAirNs s m + (getOp s m).ramp * us))
    else
      let ms := (dueOn s p).filter (fun m => (getOp s m).planned)
      decide (ms.length < 4) && ms.any (fun m => decide (opNetStart s n < frameEnd s m)))

/-- The end of the burst of a path. -/
def burstEndNs (s : State) (p : Nat) : Nat :=
  ((radiatingOn s p ++ dueOn s p).map (fun n => max (getOp s n).stamp (opNetStart s n) + opAirNs s n)).foldl max 0

/-- The path of an operation (R221): none where no path it may take is enabled. In WATCH TX B sleeps and its entries run on TX A as AUTO
(R426). -/
def pathFor (s : State) (n : Nat) : Option Nat :=
  let f := if inWatch s then 0 else getF s (opBase n + 4) 7 6
  if f ≠ 0 then (if txEnabled s (f - 1) then some (f - 1) else none)
  else
    let ps := [0, 1].filter (fun p => txEnabled s p && !(inWatch s && p == 1))
    (ps.find? (canJoin s n)).orElse (fun _ => (ps.find? (fun p => !inBurst s p && (dueOn s p).isEmpty)).orElse (fun _ =>
      match ps with
      | [p, q] => if burstEndNs s q < burstEndNs s p then some q else some p
      | _ => ps.head?))

/-- The thermal trip holds (R444). -/
def tripped (s : State) : Bool := getB s 0xD0100 16

/-- LOCK_DUE (R103, R146, R147, R157, R158). -/
def lockDue (op : Fin 128) (s : State) : State :=
  let n := op.val
  let f := opFreq s n
  if !opLive s n || !isTxKind (opKind s n) || (getOp s n).due then s
  else if tripped s then txEnd n 4 s
  else if f < 380000000 ∨ 1050000000 < f then txEnd n 7 s
  else if opKind s n ≠ 2 ∧ !measured s (opChannel s n) then txEnd n 6 s
  else
    match (if (getOp s n).path < 2 ∧ txEnabled s (getOp s n).path then some (getOp s n).path else pathFor s n) with
    | none => txEnd n 4 s
    | some p =>
      let r := rampFor s p n
      let s := onlyIf r.2 (setProbe p (rampKey s p n) false) s
      replan p (setOp n { getOp s n with due := true, path := p, ramp := r.1, probe := r.2 } s)

/-! ### Listen before talk (R158-R160) -/

/-- The instant of the next assessment, network ns. -/
def assessNs (s : State) (n : Nat) : Nat :=
  let x := getOp s n
  match x.plannedAt with
  | some t => if 0 < x.tries then t else opNetStart s n - x.ramp * us - clearNs s x.path
  | none => opNetStart s n - x.ramp * us - clearNs s x.path

/-- A busy assessment (R110, R160): backoff by a hardware random draw, a free value. -/
def busyAssess (n : Nat) (s : State) : State :=
  let x := getOp s n
  let p := x.path
  let lo := getF s (txBase p + 0x14) 3 0
  let hi := getF s (txBase p + 0x14) 7 4
  let s := opActivate n (incW (txBase p + 0x2C) s)
  if lo = 0 ∨ x.tries = getF s (opBase n + 4) 23 20 then txEnd n 5 s
  else
    let be := if x.be = 0 then lo else x.be
    let k := Config.freeDraw s.free % 2 ^ be
    coexOutputs (replan p (drawFree (setOp n { x with
      tries := x.tries + 1, be := min (be + 1) hi, clear := false, held := 0, base := none,
      plannedAt := some (nowNs s + max (k * 320 * us) (20 * us)) } s)))

/-- LBT_ASSESS (R159): `energy` is the channel power measured at tA. -/
def lbtAssess (op : Fin 128) (energy : BitVec 16) (s : State) : State :=
  let n := op.val
  let x := getOp s n
  if !opLive s n || opKind s n < 3 || !isTxKind (opKind s n) || !x.due || x.radiating || x.clear then s
  else
    let p := x.path
    let s := reachNet (assessNs s n * nsUnit) s
    let s := setEnergy (opChannel s n) energy s
    if tripped s then txEnd n 4 s
    else if blindNow s (opChannel s n) then
      busyAssess n (setB (opBase n + 0x28) 19 true (incW (txBase p + 0x30) (setB (txBase p + 0xC) 10 true s)))
    else if signedOf 16 (getF s 0x68000 15 0) ≤ energy.toInt then busyAssess n s
    else if opKind s n = 4 ∧ !beaconReady s n then txEnd n 4 s
    else
      let t := nowNs s + clearNs s p + x.ramp * us
      let s := opActivate n (setOp n { x with clear := true, plannedAt := some t } s)
      if opKind s n = 4 then beaconFill n t s else s

/-! ### Bursts (R103, R106, R147-R150) -/

/-- Whether an operation may ramp up: a TX, or one whose assessment was clear, not behind a grant or a burst. -/
def opReady (s : State) (n : Nat) : Bool :=
  let x := getOp s n
  (opKind s n == 2 || x.clear) && x.held != 2

/-- The preamble instant a driver enable now reaches (R102, R106). -/
def opPreamble (s : State) (p n : Nat) : Nat :=
  let x := getOp s n
  let least := nowNs s + 16 * us + x.ramp * us
  let t := opTarget s n
  if least ≤ t ∨ (x.plannedAt.isSome ∧ x.held = 0) then t else least + shareNs s p

/-- The latest preamble instant (R107, R148); none after backoff. -/
def opLimit (s : State) (n : Nat) : Option Nat :=
  let x := getOp s n
  match x.base with
  | some b => some (b + opTolNs s n)
  | none => if 0 < x.tries then none else some (opNetStart s n + opTolNs s n)

/-- Whether a preamble instant is past the tolerance. -/
def tooLate (s : State) (n t : Nat) : Bool :=
  match opLimit s n with
  | some l => decide (l < t)
  | none => false

/-- Whether coexistence keeps a burst back (R110, R111): a requester without a grant, an arbiter whose grant is out. -/
def coexHolds (s : State) (p : Nat) : Bool :=
  (requester s && !(getTx s p).granted) || (arbiter s && getB s 0x48008 3)

/-- The carriers planned for the burst that now begins, their powers reduced together, the rest held (R147, R150). -/
def burstPower (p n : Nat) (s : State) : State :=
  let ns := byStart s ((List.range 128).filter (fun m => m == n || (opLive s m && (getOp s m).planned && (getOp s m).path == p && !(getOp s m).radiating)))
  let ns := n :: ns.filter (· != n)
  let r := powerPlan s p ns.length ns
  let s := forAll r.1 (fun m s => fixPower p m (askedPower s p m - r.2) s) s
  forAll (ns.filter (fun m => !r.1.contains m)) (fun m s => holdOp 3 m (setOp m { getOp s m with planned := false } s)) s

/-- The instant of the driver enable for a first preamble symbol at `t` (R102). -/
def driverAt (s : State) (n t : Nat) : Nat := t - 16 * us - (getOp s n).ramp * us

/-- A burst begins at its driver-enable instant with carrier `n` (R103, R105, R147, R150). -/
def burstBegin (p n t : Nat) (s : State) : State :=
  let s := reachNet (driverAt s n t * nsUnit) s
  let s := shareBegin p (16 * us) (getOp s n).ramp (burstPower p n s)
  let s := raiseSrc (208 + 2 * p) (incW (txBase p + 0x24) (setB (txBase p + 0xC) 0 true s))
  coexOutputs (radiate p n t s)

/-- DRIVER_ENABLE (R103, R106): the first ready operation of the path begins a burst, or ends LATE; while the synthesiser is not locked for
it, the first ready operation not held yet is held. -/
def driverEnable (tx : Fin 2) (s : State) : State :=
  let p := tx.val
  if inBurst s p ∨ !txEnabled s p then s
  else match byTarget s ((dueOn s p).filter (opReady s)) with
    | [] => s
    | n :: rest =>
      if tripped s then txEnd n 4 s
      else if coexHolds s p then (if arbiter s then holdOp 2 n s else s)
      else
        let s := if (getOp s n).planned then s else planBurst p n s
        if !lockedTo s (2 + p) (getTx s p).lo then
          match (n :: rest).find? (fun m => (getOp s m).held == 0) with
          | none => s
          | some m => holdOp 1 m (reachNet (driverAt s m (opPreamble s p m) * nsUnit) s)
        else
          let t := opPreamble s p n
          if tooLate s n t then txLateEnd n s else burstBegin p n t s

/-- CARRIER_START (R148, R150): a carrier whose start falls in a running burst joins it or is held. -/
def carrierStart (op : Fin 128) (s : State) : State :=
  let n := op.val
  let x := getOp s n
  let p := x.path
  if !opLive s n || !x.due || x.radiating || !opReady s n || !inBurst s p then s
  else
    let t := max (opTarget s n) (nowNs s)
    let s := settleCarriers p (reachNet ((t - x.ramp * us) * nsUnit) s)
    if 4 ≤ (radiatingOn s p).length ∨ !inLo (opFreq s n) (opWidth s n) (getTx s p).lo then holdOp 3 n s
    else if x.planned then (if tooLate s n t then txLateEnd n s else radiate p n t s)
    else match joinPower s p n with
      | none => holdOp 3 n s
      | some c => if tooLate s n t then txLateEnd n s else radiate p n t (fixPower p n c s)

/-- RAMP_DOWN_END (R103, R161): the carriers of the burst complete in order of their ends, and the burst ends. -/
def rampDownEnd (tx : Fin 2) (s : State) : State :=
  let p := tx.val
  if !inBurst s p then s
  else
    let ns := (radiatingOn s p).mergeSort (fun a b => decide (carrierEnd s a ≤ carrierEnd s b))
    burstEnd p (forAll ns (fun n s => finishCarrier p 1 n (reachClk (carrierEnd s n) s)) s)

/-- TX_LATE (R107, R110, R111): a held operation reaches its abort instant; one held for coexistence ends COEX_DENIED. -/
def txLate (op : Fin 128) (s : State) : State :=
  let n := op.val
  let x := getOp s n
  match opLimit s n with
  | none => s
  | some l =>
    if !opLive s n || x.held == 0 || x.radiating then s
    else
      let s := reachNet ((l - 16 * us - x.ramp * us - shareNs s x.path) * nsUnit) s
      if x.held = 2 then txEnd n 9 s else txLateEnd n s

/-! ### The spectral-mask monitor (R155, R156) -/

/-- The breakpoints of a path's mask: offset in kHz and limit in quarter dBc, up to the first offset 0. -/
def maskPoints (s : State) (p : Nat) : List (Nat × Int) :=
  ((List.range 16).map (fun k =>
    let w := rd s (txBase p + 0x240 + 4 * k)
    (fieldOf w 15 0, signedOf 16 (fieldOf w 31 16)))).takeWhile (fun b => b.1 != 0)

/-- The limit at an offset, in quarter dBc times the second number, with the breakpoint at or below it: linear in dB between breakpoints,
the last limit beyond the last; none inside the first. -/
def maskLimit : Nat → List (Nat × Int) → Nat → Option (Int × Nat × Nat)
  | _, [], _ => none
  | k, [b], off => if b.1 ≤ off then some (b.2, 1, k) else none
  | k, b :: c :: bs, off =>
    if off < b.1 then none
    else if off < c.1 then some (b.2 * (c.1 - b.1 : Nat) + (c.2 - b.2) * (off - b.1 : Nat), c.1 - b.1, k)
    else maskLimit (k + 1) (c :: bs) off

/-- The margin of a bin, quarter dB rounded down, and its breakpoint, where the bin is checked: within LO +- 16 MHz and outside the
passbands of the path's other active carriers. -/
def binMargin (s : State) (p n : Nat) (bin : Int × BitVec 16) : Option (Int × Nat) :=
  let f : Int := opFreq s n + 1000 * bin.1
  let other := (activeOn s p).any (fun m => m != n && decide (2 * (f - opFreq s m).natAbs ≤ opWidth s m))
  if other || decide (16000000 < (f - (getTx s p).lo).natAbs) then none
  else (maskLimit 0 (maskPoints s p) bin.1.natAbs).map (fun l => ((l.1 - bin.2.toInt * l.2.1) / l.2.1, l.2.2))

/-- The worst margin of a carrier's measured spectrum. -/
def worstBin (s : State) (p n : Nat) (bins : List (Int × BitVec 16)) : Option (Int × Nat) :=
  (bins.filterMap (binMargin s p n)).foldl (fun (b : Option (Int × Nat)) m => if b.all (fun w => decide (m.1 < w.1)) then some m else b) none

/-- MASK_EVAL (R155, R156): `bins` is the peak-hold spectrum of the carrier, as offsets from its centre in kHz with levels in quarter dBc.
A violation sets the carrier's flag and the counters and, with MASK_ABORT and before its ramp-down starts, ends it. -/
def maskEval (op : Fin 128) (bins : List (Int × BitVec 16)) (s : State) : State :=
  let n := op.val
  let x := getOp s n
  let p := x.path
  if !x.radiating || !maskOn s p || getF s 0xE0004 17 16 == p + 1 then s
  else match worstBin s p n bins with
    | none => s
    | some (margin, k) =>
      if 0 ≤ margin then s
      else
        let s := if getB s (opBase n + 0x28) 17 then s else incW (txBase p + 0x28) (setB (opBase n + 0x28) 17 true s)
        let s := setB (txBase p + 0xC) 8 true s
        let worst := rd s (txBase p + 0x38)
        let s := if worst = 0 ∨ margin < signedOf 16 (fieldOf worst 15 0) then
            wr (txBase p + 0x38) (BitVec.ofNat 32 (unsignedOf 16 (clampInt (-32768) 32767 margin) + 65536 * k)) s else s
        if getB s (txBase p + 4) 2 && decide (s.ntb.clk < x.endClk) then dropCarrier p 8 n s else s

/-- TXP_EN_WRITE (R103): a path enabled goes to Standby, in WATCH only TX A (R426); a path disabled aborts its burst and goes to Sleep. -/
def txpEnWrite (tx : Fin 2) (value : Word) (s : State) : State :=
  let p := tx.val
  let y := 2 + p
  if bitOf value 0 then
    let s := setB (txBase p + 8) 0 true s
    if synState s y = 0 ∧ !(inWatch s && p == 1) then setSynState y 1 s else s
  else
    let s := abortBurst p 4 s
    let s := forAll (dueOn s p) (fun n => txLeave n 4) s
    setSynState y 0 (setSyn y { getSyn s y with refreshing := none, before := none } (setB (txBase p + 8) 0 false s))

/-! ### Synthesiser events (R95, R99, R100, R103, R104, R108) -/

/-- A receive synthesiser has locked: its enabled paths deliver samples (R102, R104). -/
def bandLocked (b : Nat) (s : State) : State :=
  forAll (bandPaths s b) (fun r s => if getB s (rxBase r) 0 && pathState s r == 1 then setPathState r 2 s else s) s

/-- Whether a receive band is enabled: one of its paths is. -/
def bandEnabled (s : State) (b : Nat) : Bool := (bandPaths s b).any (fun r => getB s (rxBase r) 0)

/-- SYN_LOCK (R95, R98, R106): a held operation proceeds. -/
def synLock (n : Fin 4) (s : State) : State :=
  let y := n.val
  if !acquiring s y then s
  else if y < 2 then
    let s := lockReached y (if bandEnabled s y then some (bandLo s y) else none) s
    if synState s y = 4 then bandLocked y s else s
  else
    let p := y - 2
    let waits := (dueOn s p).filter (fun m => (getOp s m).planned)
    let s := lockReached y (if waits.isEmpty then none else some (getTx s p).lo) s
    if waits.isEmpty || acquiring s y then s
    else if !lockedTo s y (getTx s p).lo then hop y (getTx s p).lo (forAll (waits.take 1) opActivate s)
    else if waits.any (fun m => (getOp s m).held == 1) then driverEnable ⟨p % 2, Nat.mod_lt _ (by decide)⟩ s
    else s

/-- LOCK_LOST (R95, R103, R104). -/
def lockLost (n : Fin 4) (s : State) : State :=
  let y := n.val
  if synState s y ≠ 4 then s
  else
    let f := (getSyn s y).target
    let s := raiseSrc (212 + y) (setB (synBase y + 4) 8 true (wr (synBase y + 0x30) (BitVec.ofNat 32 (min ((rd s (synBase y + 0x30)).toNat + 1) 0xFFFFFFFF)) s))
    if y < 2 then
      let s := fullCal y f (pathsHalt y (abandonBand y s))
      forAll (bandPaths s y) (fun r s => if getB s (rxBase r) 0 then setB (rxBase r + 0x18) 0 true s else s) s
    else
      let s := cutBurst (y - 2) (setSynState y 1 s)
      if synState s y = 1 then hop y f s else s

/-- SYN_CAL_TIMEOUT (R108), 280 us after the calibration began: one retry; then CAL_FAIL and a held operation ends. DESIGN CHOICE (log entry 42): STANDBY follows. -/
def synCalTimeout (n : Fin 4) (s : State) : State :=
  let y := n.val
  let x := getSyn s y
  if synState s y ≠ 3 then s
  else
  let s := reachClk (x.since + clocksOfNs 280000) s
  if !x.retried then setSyn y { x with retried := true, since := s.ntb.clk } (incW (synBase y + 0x28) s)
  else
    let k := (entryFor s y x.target).getD 0xFFFF
    let s := match entryFor s y x.target with
      | some k => setEntry y k { getEntry s y k with valid := false } s
      | none => s
    let s := raiseEvt 4 0x119 (leBytes 1 y ++ leBytes 1 0 ++ leBytes 2 k) (setB (synBase y + 4) 9 true s)
    let s := setSynState y 1 (setSyn y { getSyn s y with refreshing := none, before := none } s)
    if y < 2 then bandJudge y s
    else replan (y - 2) (forAll (dueOn s (y - 2)) (fun m s => if (getOp s m).held = 1 then txLeave m 11 s else s) s)

/-- The instant the next lock of a path falls due, network ns (R102). -/
def nextLock (s : State) (p : Nat) : Option Nat :=
  let ns := (List.range 128).filter (fun n => opLive s n && isTxKind (opKind s n) && !(getOp s n).radiating &&
    (getOp s n).path != 1 - p && (getF s (opBase n + 4) 7 6 == 0 || getF s (opBase n + 4) 7 6 == p + 1))
  ((ns.map (fun n => opNetStart s n - (rampFor s p n).1 * us - 16 * us -
      (if !hopFresh s (2 + p) (opFreq s n) then 280 * us else if synState s (2 + p) = 4 then 40 * us else 60 * us))).mergeSort (fun a b => decide (a ≤ b))).head?

/-- SYN_REFRESH_START (R99, R114): on SYN2 and SYN3 in an idle gap of the transmit path, on SYN0 and SYN1 while they serve no band. -/
def synRefreshStart (n : Fin 4) (s : State) : State :=
  let y := n.val
  let p := y - 2
  let near : Bool := match nextLock s p with
    | some t => decide (t < nowNs s + 400 * us)
    | none => false
  let busy := if y < 2 then (bandPaths s y).any (fun r => pathState s r != 0) else inBurst s p || !(dueOn s p).isEmpty || near
  if busy || (synState s y != 1 && synState s y != 4) then s else refreshBegin y s

/-- RASTER_WRITE (R100, R114, R115): on SYN0 and SYN1 RASTER_BASE reads 0, and RASTER_STEP governs no table. -/
def rasterWrite (n : Fin 4) (isStep : Bool) (value : Word) (s : State) : State :=
  let y := n.val
  if y < 2 then
    if !isStep then s
    else if value.toNat < 25000 ∨ 2000000 < value.toNat then setB (synBase y + 4) 12 true s
    else wr (synBase y + 0x14) value s
  else if inBurst s (y - 2) || !(dueOn s (y - 2)).isEmpty then setB (synBase y + 4) 11 true s
  else if isStep && (decide (value.toNat < 25000) || decide (2000000 < value.toNat)) then setB (synBase y + 4) 12 true s
  else setSyn y { getSyn s y with table := [] } (wr (synBase y + (if isStep then 0x14 else 0x10)) value s)

/-- IDLE_STANDBY (R103). -/
def idleStandby (tx : Fin 2) (s : State) : State :=
  let p := tx.val
  let y := 2 + p
  let idle := getF s (synBase y) 23 16 * 1000000
  let near : Bool := match nextLock s p with
    | some t => decide (t ≤ nowNs s + idle)
    | none => false
  if synState s y != 4 || idle == 0 || inBurst s p || near || !(dueOn s p).isEmpty then s else setSynState y 1 s

/-! ### The queue's commands (R224, R227) -/

/-- OPQ_ARM (R224). -/
def opqArm (op : Fin 128) (s : State) : State := opArmAt op.val none s

/-- A live entry is cancelled (R224): a radiating carrier ramps down. -/
def opCancel (n : Nat) (s : State) : State :=
  if !opLive s n then s
  else if (getOp s n).radiating then dropCarrier (getOp s n).path 4 n s
  else txEnd n 4 s

/-- OPQ_CANCEL (R224). -/
def opqCancel (op : Fin 128) (s : State) : State := opCancel op.val s

/-- HOST_RES_WRITE (R227): the host range follows HOST_RES. -/
def hostResWrite (value : Word) (s : State) : State :=
  let old := hostFirst s
  let s := wr 0x78000 (value &&& 0xFF7F) s
  let new := hostFirst s
  if new < old then
    forAll ((List.range 128).filter (fun n => decide (new ≤ n) && decide (n < old) && opState s n == 0)) releaseEntry s
  else
    forAll ((List.range 128).filter (fun n => decide (old ≤ n) && decide (n < new) && opOwner s n == 17))
      (fun n s => releaseEntry n (opCancel n s)) s

/-! ### Coexistence events (R109-R112) -/

/-- COEX_GNT_SAMPLE (R110): the request rises at tR - REQ_LEAD; at tR - GNT_SAMPLE a grant lets the burst proceed, a denial holds a TX and
is a busy assessment for an LBT-TX. A request that meets no grant as it rises waits for the next command (log entry 148). -/
def coexGntSample (tx : Fin 2) (s : State) : State :=
  let p := tx.val
  match byTarget s (dueOn s p) with
  | [] => s
  | n :: _ =>
    if !requester s ∨ inBurst s p then s
    else
      let up := getB s 0x48008 0
      let s := coexOutputs (reachNet ((rampAt s n - getF s 0x48004 7 0 * us) * nsUnit) s)
      if !up && !getB s 0x48008 2 then s
      else
        let s := reachNet ((rampAt s n - getF s 0x48004 15 8 * us) * nsUnit) s
        if getB s 0x48008 2 then setTx p { getTx s p with granted := true } s
        else if opKind s n = 2 then holdOp 2 n s else busyAssess n s

/-- COEX_GNT_EDGE (R109, R110): the level of the ball. -/
def coexGntEdge (level : Bool) (s : State) : State :=
  let was := getB s 0x48008 2
  let s := coexInputs { s with coexIn := { s.coexIn with gnt := level } }
  let now := getB s 0x48008 2
  if !requester s ∨ was = now then s
  else if now then coexRelease (getF s 0x48004 15 8 * us) (onlyIf (getB s 0x48008 0) (incW 0x4800C) s)
  else
    let s := setTx 0 { getTx s 0 with granted := false } (setTx 1 { getTx s 1 with granted := false } s)
    if inBurst s 0 ∨ inBurst s 1 then
      let s := setB 0x48008 10 true s
      if getB s 0x48000 2 then
        let s := settleCarriers 1 (settleCarriers 0 s)
        let k := (radiatingOn s 0).length + (radiatingOn s 1).length
        abortBurst 1 9 (abortBurst 0 9 (wr 0x48010 (rd s 0x48010 + BitVec.ofNat 32 k) s))
      else s
    else s

/-- The own bursts that a standing grant keeps back (R111). -/
def holdOwn (s : State) : State :=
  forAll [0, 1] (fun p s => if inBurst s p then s else forAll (dueOn s p) (holdOp 2) s) s

/-- The other radio requests the air (R111, R112). -/
def arbitrate (s : State) : State :=
  if inBurst s 0 ∨ inBurst s 1 then incW 0x48010 s
  else if (ownSoon s).isEmpty then grantOut s
  else if getB s 0x48008 1 ∧ !ownPriority s then holdOwn (grantOut s)
  else incW 0x48010 s

/-- COEX_REQ_EDGE (R109, R111, R112): the levels of the two balls. -/
def coexReqEdge (level pri : Bool) (s : State) : State :=
  let was := getB s 0x48008 0
  let s := coexInputs { s with coexIn := { s.coexIn with req := level, pri := pri } }
  let now := getB s 0x48008 0
  if !arbiter s ∨ was = now then s
  else if now then arbitrate s
  else coexRelease 0 (grantBack s)

/-- OWN_BURST_IMMINENT (R111, R112): tR comes within ARB_GUARD. A standing grant is withdrawn for a priority burst against a request
without priority; one given in this very clock gives way unless the request has priority and the burst has not, and is then deferred; any
other keeps the own burst back. -/
def ownBurstImminent (tx : Fin 2) (s : State) : State :=
  match byTarget s ((List.range 128).filter (fun n => opLive s n && isTxKind (opKind s n) && !(getOp s n).radiating && (getOp s n).path == tx.val)) with
  | [] => s
  | n :: _ =>
    if !arbiter s then s
    else
      let s := reachNet ((rampAt s n - getF s 0x48004 23 16 * us) * nsUnit) s
      let mine := opPriority s n || !getB s 0x48008 1
      if !getB s 0x48008 3 then s
      else if s.coexIn.grantClk = some s.ntb.clk ∧ mine then incW 0x48010 (wr 0x4800C (rd s 0x4800C - 1) (grantBack s))
      else if opPriority s n ∧ !getB s 0x48008 1 then grantBack s
      else holdOwn s

/-- COEX_CFG_WRITE (R109, R117): only while EN is 0, apart from the write that clears EN. The outputs go inactive, the inputs show their
levels under the new polarity; a requester then asks for what it needs, an arbiter finds a request that already stands, and with EN 0
nothing is held any more. -/
def coexCfgWrite (value : Word) (s : State) : State :=
  if coexOn s && bitOf value 0 then setB 0x48008 9 true s
  else
    let s := wr 0x48000 (value &&& 0xF1F) (grantBack s)
    let s := if coexArbiter s then s else setB 0x48008 1 false (setReqLevel false s)
    let s := coexInputs s
    if requester s then coexOutputs s
    else if arbiter s then (if getB s 0x48008 0 then arbitrate s else s)
    else coexRelease 0 s

def execSynRefreshStart (n : Fin 4) (s : State) : Res := .next (synRefreshStart n s)
def execCoexCfgWrite (value : Word) (s : State) : Res := .next (coexCfgWrite value s)
def execRasterWrite (n : Fin 4) (isStep : Bool) (value : Word) (s : State) : Res := .next (rasterWrite n isStep value s)
def execIdleStandby (tx : Fin 2) (s : State) : Res := .next (idleStandby tx s)
def execOpqArm (op : Fin 128) (s : State) : Res := .next (opqArm op s)
def execHostResWrite (value : Word) (s : State) : Res := .next (hostResWrite value s)
def execCoexReqEdge (level pri : Bool) (s : State) : Res := .next (coexReqEdge level pri s)
def execOwnBurstImminent (tx : Fin 2) (s : State) : Res := .next (ownBurstImminent tx s)

end Sys2Proof.Machine
end

