-- ==== Sys2Proof/Machine/Links.lean ====
section
/-! DEFINITION. What every use of the Mooring links shares: ports, the chain's topology, frames on their way out, frames taken in, a port
that goes down; and the completion of a command, which goes to this device's host or back over Mooring (R261-R264, R269-R273, R334). -/

namespace Sys2Proof.Machine

/-! ### Ports and peers -/

/-- The first register of a Mooring port: 0 MRE, 1 MRW (R275). -/
def mrBase (p : Nat) : Nat := 0xA0000 + p * 0x8000
def getPort (s : State) (p : Nat) : MrPort := tabGet (fun _ => {}) s.chain.ports p
def setPort (p : Nat) (v : MrPort) (s : State) : State :=
  { s with chain := { s.chain with ports := tabSet (fun _ => {}) s.chain.ports p v } }
def getPeer (s : State) (d : Nat) : MrPeer := tabGet (fun _ => {}) s.chain.peers d
def setPeer (d : Nat) (v : MrPeer) (s : State) : State :=
  { s with chain := { s.chain with peers := tabSet (fun _ => {}) s.chain.peers d v } }

/-- LSTATE (R276). -/
def lstate (s : State) (p : Nat) : Nat := getF s (mrBase p + 0x10) 3 0
def portUp (s : State) (p : Nat) : Bool := lstate s p == 8
def rateMaxOf (s : State) (p : Nat) : Nat := getF s (mrBase p + 4) 1 0
def rateMinOf (s : State) (p : Nat) : Nat := getF s (mrBase p + 4) 3 2
def rateOfPort (s : State) (p : Nat) : Nat := getF s (mrBase p + 0x10) 5 4

/-- LSTATE set; entering or leaving UP is a Rhizome source (R281), and a training phase shows in MRx_TRAIN (R275). The instant is kept. -/
def setLstate (p v : Nat) (s : State) : State :=
  let was := lstate s p
  let x := getPort s p
  let s := setPort p { x with phaseClk := s.ntb.clk, upClk := if v = 8 ∧ was ≠ 8 then s.ntb.clk else x.upClk } s
  let s := setF (mrBase p + 0x10) 3 0 v s
  let s := if 1 ≤ v ∧ v ≤ 7 then setF (mrBase p + 0x14) 3 0 v s else s
  if (was = 8) ≠ (v = 8) then raiseSrc (222 + p) s else s

/-- The DEV of a port's peer; 255 for none (R275). -/
def peerDev (s : State) (p : Nat) : Nat :=
  if getF s (mrBase p + 0x1C) 7 0 = 0xFF then 255 else getF s (mrBase p + 0x1C) 3 0

def chainId (s : State) : Nat := getF s 0xA00C0 31 16
def rootPrio (s : State) : Nat := getF s 0xA00C0 7 4

/-- Whether a DEV is reachable: this device always is (R275). -/
def reachable (s : State) (d : Nat) : Bool := d == devOf s || getB s 0xA00C8 d

/-! ### Topology (R269-R271) -/

/-- The device beyond `cur`, seen from its neighbour `prev`, over an UP port. -/
def beyond (s : State) (prev cur : Nat) : Option Nat :=
  let x := getPeer s cur
  let r := if x.neighE = prev then (x.portW, x.neighW) else (x.portE, x.neighE)
  if r.1 = 1 ∧ r.2 < 16 then some r.2 else none

/-- The devices met by going on from `cur`, at most `n`, up to this device. -/
def walkFrom (s : State) : Nat → Nat → Nat → List Nat
  | 0, _, _ => []
  | n + 1, prev, cur =>
    if cur = devOf s ∨ !reachable s cur then []
    else cur :: (match beyond s prev cur with
      | some d => walkFrom s n cur d
      | none => [])

/-- The devices reached through a port, nearest first. -/
def sideOf (s : State) (p : Nat) : List Nat :=
  if portUp s p && peerDev s p != 255 then walkFrom s 16 (devOf s) (peerDev s p) else []

/-- The port towards a device, the nearer way. -/
def portTo (s : State) (d : Nat) : Option Nat :=
  match (sideOf s 0).idxOf? d, (sideOf s 1).idxOf? d with
  | some i, some j => if j < i then some 1 else some 0
  | some _, none => some 0
  | none, some _ => some 1
  | none, none => none

/-- The active path from end to end. -/
def activePath (s : State) : List Nat :=
  let e := sideOf s 0
  e.reverse ++ [devOf s] ++ (sideOf s 1).filter (fun d => !e.contains d)

/-- ROOT_PRIO of a device as known here. -/
def prioOf (s : State) (d : Nat) : Nat := if d = devOf s then rootPrio s else (getPeer s d).prio

/-- The root (R270): the greatest ROOT_PRIO above 0, the lower DEV on a tie; with none, this device. -/
def rootOf (s : State) : Nat :=
  match (List.range 16).filter (fun d => reachable s d && prioOf s d != 0) with
  | [] => devOf s
  | d :: ds => ds.foldl (fun b d => if prioOf s b < prioOf s d then d else b) d

/-- Hops from the root along the active path; 15 for a device that is not on it (R275). -/
def hopsOf (s : State) (d : Nat) : Nat :=
  match (activePath s).idxOf? d, (activePath s).idxOf? (rootOf s) with
  | some i, some j => if i ≤ j then j - i else i - j
  | _, _ => 15

/-- The port towards the root: the time upstream (R268). -/
def upstream (s : State) : Option Nat := if rootOf s = devOf s then none else portTo s (rootOf s)

/-- The registers that show the chain follow the topology. -/
def topoSync (s : State) : State :=
  let hops := fun a => ((List.range 8).map (fun i => hopsOf s (a + i) * 16 ^ i)).sum
  let s := setB 0xA00C8 (devOf s) true s
  let s := setB 0xA00C4 4 (rootOf s == devOf s) (setF 0xA00C4 3 0 (rootOf s) s)
  let s := wr 0xA00D0 (BitVec.ofNat 32 (hops 8)) (wr 0xA00CC (BitVec.ofNat 32 (hops 0)) s)
  setB (mrBase 1 + 0x10) 7 (upstream s == some 1) (setB (mrBase 0 + 0x10) 7 (upstream s == some 0) s)

/-- MOORING is qualified by the port that is upstream now (R268); its loss or gain is judged. -/
def mooringJudge (s : State) : State :=
  let ok := match upstream s with
    | some p => portUp s p && getB s (mrBase p + 0x10) 8
    | none => false
  if ok = s.ntb.mrQual then s
  else
    let s := { s with ntb := { s.ntb with mrQual := ok } }
    if ok then sourceQualifies 1 s else judgeSources s

/-! ### Frames out (R261-R263, R272) -/

/-- The window of a class in frames (R263). -/
def mrWindow : Nat := 64

def ackedClass (c : Nat) : Bool := c == 1 || c == 2 || c == 4

/-- The bytes of a frame on its line: header, payload and CRC-32 (R261). -/
def mrBytes (chain : Nat) (x : MrOut) : List Byte :=
  let b := leBytes 1 x.cls ++ leBytes 1 x.msg.typ ++ leBytes 1 x.msg.dst ++ leBytes 1 x.msg.src ++ leBytes 2 x.msg.payload.length ++
    leBytes 2 chain ++ leBytes 2 x.seq ++ leBytes 2 x.ack ++ x.msg.payload
  b ++ leBytes 4 (crc32 b)

/-- The bytes of a frame, by its payload (R261). -/
def mrSize (m : MrMsg) : Nat := 16 + m.payload.length

/-- The core clock at which a frame has left its line (R257, R258). -/
def outEnd (s : State) (x : MrOut) : Nat := x.start + clocksOfNs (frameNs (rateOfPort s x.port) (mrSize x.msg))

/-- A frame that waits for its line (R262). -/
def outWaits (s : State) (p : Nat) (x : MrOut) : Bool := x.port == p && decide (s.ntb.clk < x.start)

/-- The core clock at which the frame that is leaving a line has left it. -/
def lineFree (s : State) (p : Nat) : Nat :=
  match (s.chain.out.filter (fun x => x.port == p && !outWaits s p x)).getLast? with
  | some x => max s.ntb.clk (outEnd s x)
  | none => s.ntb.clk

/-- Waiting frames one after the other. -/
def lineOrder (s : State) : Nat → List MrOut → List MrOut
  | _, [] => []
  | t, x :: xs => { x with start := t } :: lineOrder s (outEnd s { x with start := t }) xs

/-- A frame handed to the line of a port: it waits for the frame that is leaving, and for those of its class and of the classes before
(R262). -/
def emit (p cls seq : Nat) (m : MrMsg) (s : State) : State :=
  let ack := if ackedClass cls then (tabGet (fun _ => {}) (getPort s p).cls cls).rxNext else 0
  let x : MrOut := { port := p, cls := cls, seq := seq % 65536, ack := ack, msg := m }
  let w := s.chain.out.filter (outWaits s p)
  let order := lineOrder s (lineFree s p) (w.filter (fun y => decide (y.cls ≤ cls)) ++ [x] ++ w.filter (fun y => decide (cls < y.cls)))
  incW (mrBase p + 0x44) { s with chain := { s.chain with out := s.chain.out.filter (fun y => !outWaits s p y) ++ order } }

/-- The rescue frames on or waiting for a line (R263, R272). -/
def rescueOn (s : State) (p : Nat) : List MrOut :=
  s.chain.out.filter (fun x => x.port == p && x.cls == 3 && decide (s.ntb.clk < outEnd s x))

/-- A line falls silent: what waits for it never leaves, and the rescue frames on it are lost (R272). -/
def lineStops (p : Nat) (s : State) : State :=
  let b := mrBase p
  let n := (s.chain.out.filter (outWaits s p)).length
  let s := wr (b + 0x38) (rd s (b + 0x38) + BitVec.ofNat 32 (rescueOn s p).length) s
  let s := wr (b + 0x44) (rd s (b + 0x44) - BitVec.ofNat 32 n) s
  { s with chain := { s.chain with out := s.chain.out.filter (fun y => !outWaits s p y) } }

/-- The frames that have left, as they stay with the outside world when the die loses its contents. -/
def outSent (s : State) : List MrOut :=
  (s.chain.out.filter (fun x => decide (x.start ≤ s.ntb.clk))).map (fun x => { x with start := 0 })

def getCls (s : State) (p c : Nat) : MrClass := tabGet (fun _ => {}) (getPort s p).cls c
def setCls (p c : Nat) (v : MrClass) (s : State) : State :=
  setPort p { getPort s p with cls := tabSet (fun _ => {}) (getPort s p).cls c v } s

/-- Frames `i` to `j` of a class's queue put on the line. -/
def emitRange (p c i j : Nat) (s : State) : State :=
  forAll ((List.range j).drop i) (fun k s => emit p c ((getCls s p c).base + k) ((getCls s p c).q.getD k ⟨0, 0, 0, []⟩) s) s

/-- What the window lets a class send leaves. -/
def pump (p c : Nat) (s : State) : State :=
  let x := getCls s p c
  let n := max x.sent (min mrWindow x.q.length)
  emitRange p c x.sent n (setCls p c { x with sent := n, since := if x.sent = 0 then s.ntb.clk else x.since } s)

/-- A frame handed to a port. -/
def queueFrame (p c : Nat) (m : MrMsg) (s : State) : State :=
  if ackedClass c then
    let x := getCls s p c
    pump p c (setCls p c { x with q := x.q ++ [m] } s)
  else if c = 0 then emit p 0 (getPort s p).seq0 m (setPort p { getPort s p with seq0 := (getPort s p).seq0 + 1 } s)
  else if 262144 < ((s.chain.out.filter (fun x => outWaits s p x && x.cls == 3)).map (fun x => mrSize x.msg)).sum + mrSize m then
    incW (mrBase p + 0x38) s
  else emit p 3 (getPort s p).seq3 m (setPort p { getPort s p with seq3 := (getPort s p).seq3 + 1 } s)

/-- Whether a port carries a broadcast: UP ports all of them, a BLOCKED one HELLO and LINK_EVENT, FOREIGN and CONFLICT ones HELLO
(R260, R269, R271). -/
def carries (s : State) (p typ : Nat) : Bool :=
  let l := lstate s p
  l == 8 || (l == 9 && (typ == 1 || typ == 2)) || ((l == 10 || l == 11) && typ == 1)

/-- A broadcast sent by this device, with its BSEQ. -/
def broadcast (typ : Nat) (payload : List Byte) (s : State) : State :=
  let m : MrMsg := ⟨typ, 0x1F, devOf s, leBytes 2 s.chain.bseq ++ payload⟩
  let s := { s with chain := { s.chain with bseq := (s.chain.bseq + 1) % 65536 } }
  forAll [0, 1] (fun p s => if carries s p typ then queueFrame p 1 m s else s) s

/-- A frame held (R272). -/
def holdFrame (c since : Nat) (m : MrMsg) (s : State) : State :=
  { s with chain := { s.chain with held := s.chain.held ++ [{ cls := c, msg := m, since := since }] } }

/-- A frame sent towards its destination, or held while that is unreachable (R272). A rescue frame with no way out is lost. -/
def routeSince (c since : Nat) (m : MrMsg) (s : State) : State :=
  match portTo s m.dst with
  | some p => queueFrame p c m s
  | none => if ackedClass c then holdFrame c since m s else s

/-- A frame on its way from now. -/
def routeFrame (c : Nat) (m : MrMsg) (s : State) : State := routeSince c s.ntb.clk m s

/-- A frame of this device to another. -/
def sendMr (c typ dst : Nat) (payload : List Byte) (s : State) : State := routeFrame c ⟨typ, dst, devOf s, payload⟩ s

/-- The held frames tried again after the topology changed. -/
def releaseHeld (s : State) : State :=
  let h := s.chain.held
  forAll h (fun x s => routeSince x.cls x.since x.msg s) { s with chain := { s.chain with held := [] } }

/-- The unacknowledged frames of a port taken back and sent along the new path (R272). -/
def reroute (p : Nat) (s : State) : State :=
  let take := fun c => ((getCls s p c).q.filter (fun m => decide (m.dst < 16))).map (fun m => (c, m))
  let ms := take 1 ++ take 2 ++ take 4
  forAll ms (fun x s => routeFrame x.1 x.2 s) (setPort p { getPort s p with cls := [], seq0 := 0, seq3 := 0 } s)

/-! ### Completions (R334, R264) -/

/-- The final status of a request that several devices ran (R334): the first other than OK in DEV order. One sent to find its node's home
takes the home's status (R246). -/
def askStatus (a : Ask) : Nat :=
  let st := ((List.range 16).flatMap (fun d => a.results.filter (fun r => r.1 == d))).map (fun r => r.2.1)
  if a.node then (st.find? (· != 20)).getD 20 else (st.find? (· != 0)).getD 0

/-- The payload of its completion: the answer of the one device that ran it, or of this device where several did (log entry 72). -/
def askPayload (s : State) (a : Ask) : List Byte :=
  match a.results.filter (fun r => r.2.1 == askStatus a) with
  | [r] => r.2.2
  | rs => ((rs.find? (fun r => r.1 == devOf s)).map (fun r => r.2.2)).getD []

/-- An answer of a device to a forwarded request; the last one wanted completes it. -/
def askAnswer (dev tag status : Nat) (payload : List Byte) (s : State) : State :=
  match s.chain.asked.find? (fun a => a.tag == tag && a.waits.contains dev) with
  | none => s
  | some a =>
    let b := { a with waits := a.waits.filter (· != dev), results := a.results ++ [(dev, status, payload)] }
    if b.waits.isEmpty ∨ (b.node ∧ status ≠ 20) then
      completion b.tag b.target b.opcode (askStatus b) (askPayload s b) { s with chain := { s.chain with asked := s.chain.asked.erase a } }
    else { s with chain := { s.chain with asked := s.chain.asked.map (fun x => if x = a then b else x) } }

/-- Whether this device still owes its own share of a request that several devices run. -/
def ownShare (s : State) (tag : Nat) : Bool := s.chain.asked.any (fun a => a.tag == tag && a.waits.contains (devOf s))

/-- A command completes: as a COMPLETION event of this device, as its share of a request that several devices run, or as ESKEL_ANSWER to
the device whose host posted it. -/
def completeFor (p : Pend) (status : Nat) (payload : List Byte) (s : State) : State :=
  if p.origin = 16 then
    if ownShare s p.tag then askAnswer (devOf s) p.tag status payload s else completion p.tag p.target p.opcode status payload s
  else
    let m := eskelHeader p.opcode 1 p.target p.tag payload.length 0 status ++ payload
    let s := { s with chain := { s.chain with fwd := s.chain.fwd.map (fun x => if x.1 = p.origin ∧ x.2.1 = p.tag then (x.1, x.2.1, x.2.2.1, some m) else x) } }
    sendMr 2 0x21 p.origin (leBytes 1 p.origin ++ leBytes 3 0 ++ m) s

/-- The first command that answered PENDING and meets a test completes with a status (R334) and holds its object no more (R336). -/
def finishPend (test : Pend → Bool) (status : Nat) (payload : List Byte) (s : State) : State :=
  match s.keeper.pend.find? test with
  | none => s
  | some p => completeFor p status payload { s with keeper := { s.keeper with pend := s.keeper.pend.erase p } }

/-! ### A port goes down (R260, R272) -/

/-- LINK_EVENT (R264): 0 down, 1 up, 2 unblocked. -/
def sendLinkEvent (p ev peer : Nat) (s : State) : State := broadcast 2 (leBytes 1 p ++ leBytes 1 ev ++ leBytes 1 peer) s

/-- A BLOCKED port of this device goes UP when the ring is broken elsewhere (R272). -/
def unblock (s : State) : State :=
  forAll [0, 1] (fun p s =>
    if lstate s p = 9 then
      sendLinkEvent p 2 (peerDev s p) (incW 0xA00D4 (setLstate p 8 s))
    else s) s

/-- The link of a port is lost: LINK_DOWN, the topology, the ring, the frames and the time source follow (R260, R268, R272). `next` is
the state the port enters. -/
def linkDown (p next : Nat) (s : State) : State :=
  let was := lstate s p
  let peer := peerDev s p
  let s := setLstate p next s
  if was ≠ 8 ∧ was ≠ 9 then s
  else
    let s := lineStops p s
    let x := getPort s p
    let s := setPort p { x with marks := [], peerMark := none, delays := [], good := 0, bad := 0, uncorr := [], markClk := none } s
    let s := setB (mrBase p + 0x10) 8 false (setB (mrBase p + 0x10) 9 true (incW (mrBase p + 0x3C) s))
    let s := raiseEvt (10 + p) 0x141 (leBytes 1 p) s
    let s := if was = 8 then unblock s else s
    let s := if getB s 0xA00C4 5 && was == 8 then setB 0xA00C4 6 true s else s
    mooringJudge (topoSync (releaseHeld (reroute p (sendLinkEvent p 0 peer s))))

/-! ### Frames in (R261, R263) -/

/-- The 12 header bytes of a frame. -/
def mrHeader (f : MFrame) : List Byte :=
  [f.cls, f.typ, f.dst, f.src] ++ leBytes 2 f.len.toNat ++ leBytes 2 f.chainId.toNat ++ leBytes 2 f.seq.toNat ++ leBytes 2 f.ack.toNat

def mrClassOf (f : MFrame) : Nat := f.cls.toNat % 8
def mrDst (f : MFrame) : Nat := f.dst.toNat % 32
def mrSrc (f : MFrame) : Nat := f.src.toNat % 16

/-- Uncorrectable codewords counted on a port (R260, R275). -/
def countUncorr (p n : Nat) (s : State) : State :=
  let b := mrBase p
  let x := getPort s p
  let us := if n = 0 then x.uncorr else (x.uncorr.filter (fun e => decide (s.ntb.clk < e.1 + clocksOfNs 1000000000))) ++ [(s.ntb.clk, n)]
  setPort p { x with uncorr := us } (wr (b + 0x2C) (rd s (b + 0x2C) + BitVec.ofNat 32 n) s)

/-- The uncorrectable codewords of the last second (R260). -/
def uncorrSecond (s : State) (p : Nat) : Nat :=
  (((getPort s p).uncorr.filter (fun e => decide (s.ntb.clk < e.1 + clocksOfNs 1000000000))).map (·.2)).sum

/-- Retraining from EQUALISE, at a rate (R260). -/
def retrainAt (p rate : Nat) (s : State) : State :=
  let s := linkDown p 3 s
  setPort p { getPort s p with trial := rate, t0 := s.ntb.clk, retrain := true, cfg := rd s (mrBase p + 4) } s

/-- More than UNCORR_LIMIT uncorrectable codewords in 1 s make a port in service fall back (R260). -/
def fallbackJudge (p : Nat) (s : State) : State :=
  let l := lstate s p
  let r := rateOfPort s p
  if (l = 8 ∨ l = 9) ∧ getB s (mrBase p + 4) 4 ∧ rateMinOf s p < r ∧ getF s (mrBase p + 4) 23 16 < uncorrSecond s p then
    let s := retrainAt p (r - 1) s
    let s := incF (mrBase p + 0x14) 23 16 1 (setB (mrBase p + 0x10) 10 true s)
    raiseEvt (10 + p) 0x142 (leBytes 1 p ++ leBytes 1 (r - 1)) s
  else s

/-- What error correction met in the codewords of a frame, counted (R258, R260, R275). -/
def fecCount (f : MFrame) (s : State) : State :=
  let b := mrBase f.port.val
  countUncorr f.port.val f.uncorr (wr (b + 0x28) (rd s (b + 0x28) + BitVec.ofNat 32 f.corr) s)

/-- A frame of an uncorrectable codeword, or that fails its CRC or is malformed (R258, R261). A HELLO of another chain is not: it shows the
cause of FOREIGN (R260, R269). -/
def mrBad (s : State) (f : MFrame) : Bool :=
  f.uncorr != 0 || crc32 (mrHeader f ++ f.payload) != f.crc.toNat || f.len.toNat != f.payload.length || decide (4112 < f.payload.length) ||
    (f.len == 0 && f.typ != 0) || decide (4 < mrClassOf f) ||
    (f.chainId.toNat != chainId s && !(mrClassOf f == 1 && f.typ.toNat == 1))

/-- Whether a port takes a frame in its state (R259, R260, R271). -/
def mrTakes (s : State) (f : MFrame) : Bool :=
  let l := lstate s f.port.val
  let hello := mrClassOf f == 1 && f.typ.toNat == 1
  l == 8 || (l == 9 && (mrClassOf f == 0 || (mrClassOf f == 1 && (f.typ.toNat == 0 || f.typ.toNat == 1 || f.typ.toNat == 2)))) ||
    ((l == 10 || l == 11) && hello) || (l == 7 && mrClassOf f == 0)

/-- The frames that an ACK field acknowledges leave the queue (R263). -/
def mrAcked (p c ack : Nat) (s : State) : State :=
  let x := getCls s p c
  let n := (ack + 65536 - x.base) % 65536
  if n = 0 ∨ x.sent < n then s
  else pump p c (setCls p c { x with q := x.q.drop n, base := (x.base + n) % 65536, sent := x.sent - n, tries := 0, since := s.ntb.clk } s)

/-- An acknowledgement-only frame of a class (R261, R263). -/
def mrAckOnly (p c : Nat) (s : State) : State := emit p c ((getCls s p c).base + (getCls s p c).sent) ⟨0, 0x1E, devOf s, []⟩ s

/-- A broadcast remembered, the last 64 of each source (log entry 44). -/
def noteSeen (src bseq : Nat) (s : State) : State :=
  let mine := s.chain.seen.filter (fun x => x.1 == src)
  let rest := s.chain.seen.filter (fun x => x.1 != src)
  { s with chain := { s.chain with seen := rest ++ (mine ++ [(src, bseq)]).drop ((mine.length + 1) - 64) } }

/-- A frame passed on through the other port. -/
def forwardOn (f : MFrame) (s : State) : State :=
  let q := 1 - f.port.val
  let m : MrMsg := ⟨f.typ.toNat, mrDst f, mrSrc f, f.payload⟩
  if mrDst f = 0x1F then (if carries s q f.typ.toNat && lstate s q != 10 && lstate s q != 11 then queueFrame q (mrClassOf f) m s else s)
  else if portUp s q then queueFrame q (mrClassOf f) m s
  else if ackedClass (mrClassOf f) then holdFrame (mrClassOf f) s.ntb.clk m s
  else if mrClassOf f = 3 then incW (mrBase q + 0x38) s
  else s

/-- A frame taken off a port (R261-R263): counted, acknowledged, forwarded, and handed to `handle` when it is for this device. -/
def mrReceive (f : MFrame) (handle : State → State) (s : State) : State :=
  let p := f.port.val
  let c := mrClassOf f
  if !mrTakes s f then s
  else if mrBad s f then fallbackJudge p (incW (mrBase p + 0x30) (fecCount f s))
  else
    let s := incW (mrBase p + 0x48) (fecCount f s)
    let s := if ackedClass c then mrAcked p c f.ack.toNat s else s
    if f.typ = 0 then s
    else if ackedClass c && f.seq.toNat != (getCls s p c).rxNext then mrAckOnly p c s
    else
      let s := if ackedClass c then
          let x := getCls s p c
          mrAckOnly p c (setCls p c { x with rxNext := (x.rxNext + 1) % 65536 } s)
        else s
      if mrDst f = 0x1F then
        let b := leAt f.payload 0 2
        if mrSrc f = devOf s ∨ s.chain.seen.contains (mrSrc f, b) then s
        else handle (if lstate s p == 10 || lstate s p == 11 then s else forwardOn f (noteSeen (mrSrc f) b s))
      else if mrDst f = 0x1E ∨ mrDst f = devOf s then handle s
      else forwardOn f s

/-- A frame of one CLASS and TYPE. -/
def mrRow (cls typ : Nat) (f : MFrame) (handle : State → State) (s : State) : State :=
  mrReceive f (fun s => if mrClassOf f = cls ∧ f.typ.toNat = typ then handle s else s) s

/-- A frame of an acknowledged class that stayed unacknowledged for 200 us is sent again with all after it; the sixteenth time takes the
link down (R260, R263). -/
def mrRetxTimeout (port : Fin 2) (cls : Fin 5) (s : State) : State :=
  let p := port.val
  let x := getCls s p cls.val
  if x.sent = 0 ∨ !ackedClass cls.val then s
  else
    let s := reachClk (x.since + clocksOfNs 200000) s
    let s := setCls p cls.val { x with tries := x.tries + 1, since := s.ntb.clk } s
    let s := emitRange p cls.val 0 x.sent (wr (mrBase p + 0x34) (rd s (mrBase p + 0x34) + BitVec.ofNat 32 x.sent) s)
    onlyIf (decide (15 ≤ x.tries)) (linkDown p 1) s

/-- ACKNOWLEDGEMENT_ONLY_FRAME (R261, R263). -/
def acknowledgementOnlyFrame (f : MFrame) (s : State) : State := mrReceive f id s

def execMrRetxTimeout (port : Fin 2) (cls : Fin 5) (s : State) : Res := .next (mrRetxTimeout port cls s)
def execAcknowledgementOnlyFrame (f : MFrame) (s : State) : Res := .next (acknowledgementOnlyFrame f s)

end Sys2Proof.Machine
end

