-- ==== Sys2Proof/Machine/NodeModel.lean ====
section
/-! DEFINITION. A node as its home computes it: the channel of an event, the clock model and its prediction, the guard window, the link
margin, and the context as bytes (R191, R199-R211, R231, R232, R241). -/

namespace Sys2Proof.Machine

/-! ### Contexts -/

def getRun (s : State) (n : Nat) : NodeRun := tabGet (fun _ => {}) s.nodes.runs n
def setRun (n : Nat) (r : NodeRun) (s : State) : State :=
  { s with nodes := { s.nodes with runs := tabSet (fun _ => {}) s.nodes.runs n r } }

/-- The context of an address in the directory (R235). -/
def findNode (s : State) (addr : Nat) : Option Nat := (s.ctx.find? (fun p => p.2.role != 0 && p.2.addr == addr)).map (fun p => p.1)

/-- The context that holds an EUI. -/
def findEui (s : State) (eui : Nat) : Option Nat := (s.ctx.find? (fun p => p.2.role != 0 && p.2.eui == eui)).map (fun p => p.1)

def isHome (s : State) (n : Nat) : Bool := (getCtx s n).role == 1

/-- A write the home commits (R232): GEN advances. -/
def commitCtx (n : Nat) (c : Ctx) (s : State) : State := setCtx n { c with gen := (c.gen + 1) % 2 ^ 32 } s

/-- The Frond that a new context is given to (R238). -/
def frondFor (addr : Nat) : Nat := addr * 0x9E3779B1 % 2 ^ 32 / 2 ^ 28

/-- Whether a Frond is out of service (R494). -/
def frdOut (s : State) (f : Nat) : Bool := getB s 0xE0014 f

/-- The Frond a new context of an address goes to: that of R238; in WATCH FRD0 or FRD1 by its parity (R426). DESIGN CHOICE (log entry 95):
for a Frond out of service the lowest-numbered of those in service with the fewest contexts. -/
def frondHome (s : State) (addr : Nat) : Nat :=
  let f := frondFor addr
  if inWatch s then f % 2
  else if frdOut s f then
    let n := fun g => (s.ctx.filter (fun p => p.2.role != 0 && p.2.frond == g)).length
    (((List.range 16).filter (fun g => !frdOut s g)).mergeSort (fun a b => decide (n a ≤ n b))).headD 0
  else f

/-- Whether a context bank is out of service (R494). -/
def bankOut (s : State) (b : Nat) : Bool := getB s 0xE0010 b

/-- The first FREE slot of a bank in service from `i` on, in `n` slots. -/
def freeFrom (s : State) : Nat → Nat → Option Nat
  | 0, _ => none
  | n + 1, i =>
    if 65536 ≤ i then none
    else if (getCtx s i).role = 0 ∧ !bankOut s (i / 2048) then some i
    else freeFrom s n (i + 1)

/-- The GUEST slot heard longest ago (R234). -/
def oldestGuest (s : State) : Option Nat :=
  ((s.ctx.filter (fun p => p.2.role == 3)).mergeSort (fun a b => decide (a.2.lastS ≤ b.2.lastS))).head?.map (fun p => p.1)

/-- A slot for a new context (R234): the lowest FREE one, else the oldest GUEST. So many slots from 0 hold a FREE one, if any does. -/
def slotFor (s : State) : Option Nat :=
  let out := ((List.range 32).filter (bankOut s)).length
  (freeFrom s (s.ctx.length + 2048 * out + 1) 0).orElse (fun _ => oldestGuest s)

/-- The context as its 128 bytes, KEY as 0 (R232). -/
def ctxBytes (c : Ctx) : List Byte :=
  leBytes 3 c.addr ++ leBytes 1 (c.mstate % 4 + 4 * (c.role % 4) + (if c.transit then 16 else 0) + (if c.resync then 32 else 0)) ++
  leBytes 8 c.eui ++ leBytes 2 c.nid ++ leBytes 2 c.anchorSlot ++ leBytes 4 c.anchorS ++ leBytes 3 c.ci ++ leBytes 1 c.hop ++
  leBytes 8 c.chmap ++ leBytes 4 c.k ++ leBytes 1 c.u0 ++ leBytes 1 c.phy ++ leBytes 1 c.pre ++ leBytes 1 c.tempOfs ++
  leBytes 2 c.supTo ++ leBytes 2 c.txOfs ++ leBytes 4 c.tlS ++ leBytes 4 c.tlNs ++ leBytes 6 c.jLast ++
  leBytes 1 (unsignedOf 8 c.temp0) ++ leBytes 1 (unsignedOf 8 c.tempLast) ++ leBytes 4 (unsignedOf 32 c.f) ++
  leBytes 4 (unsignedOf 32 c.c) ++ leBytes 16 0 ++ leBytes 4 c.upFcnt ++ leBytes 4 c.upWin ++ leBytes 4 c.dnFcnt ++
  leBytes 1 c.dnSeq ++ leBytes 1 c.dlPend ++ leBytes 2 c.missed ++ leBytes 4 c.upCount ++ leBytes 2 c.oow ++
  leBytes 2 (unsignedOf 16 c.rssiLast) ++ leBytes 2 (unsignedOf 16 c.marginOwn) ++ leBytes 1 c.dlTries ++
  leBytes 1 (c.homeDev % 16 + 16 * (c.replDev % 16)) ++ leBytes 4 c.lastS ++
  leBytes 1 (c.chalDev % 16 + 16 * (c.chalRun % 4) + (if c.chalValid then 128 else 0)) ++ leBytes 1 0 ++
  leBytes 2 (unsignedOf 16 c.chalMargin) ++ leBytes 4 c.homeSince ++ leBytes 4 c.gen

/-- A context from its 128 bytes; the key and the Frond come from elsewhere. -/
def ctxOfBytes (b : List Byte) : Ctx :=
  let g := fun o n => leAt b o n
  { addr := g 0 3, mstate := g 3 1 % 4, role := g 3 1 / 4 % 4, transit := (g 3 1).testBit 4, resync := (g 3 1).testBit 5, eui := g 4 8,
    nid := g 0xC 2, anchorSlot := g 0xE 2, anchorS := g 0x10 4, ci := g 0x14 3, hop := g 0x17 1 % 64, chmap := g 0x18 8, k := g 0x20 4,
    u0 := g 0x24 1 % 64, phy := g 0x25 1 % 16, pre := g 0x26 1, tempOfs := g 0x27 1, supTo := g 0x28 2, txOfs := g 0x2A 2,
    tlS := g 0x2C 4, tlNs := g 0x30 4 % 2 ^ 30, jLast := g 0x34 6, temp0 := signedOf 8 (g 0x3A 1), tempLast := signedOf 8 (g 0x3B 1),
    f := signedOf 32 (g 0x3C 4), c := signedOf 32 (g 0x40 4), upFcnt := g 0x54 4, upWin := g 0x58 4, dnFcnt := g 0x5C 4,
    dnSeq := g 0x60 1, dlPend := g 0x61 1, missed := g 0x62 2, upCount := g 0x64 4, oow := g 0x68 2, rssiLast := signedOf 16 (g 0x6A 2),
    marginOwn := signedOf 16 (g 0x6C 2), dlTries := g 0x6E 1, homeDev := g 0x6F 1 % 16, replDev := g 0x6F 1 / 16, lastS := g 0x70 4,
    chalDev := g 0x74 1 % 16, chalRun := g 0x74 1 / 16 % 4, chalValid := (g 0x74 1).testBit 7, chalMargin := signedOf 16 (g 0x76 2),
    homeSince := g 0x78 4, gen := g 0x7C 4 }

/-! ### Events and channels (R200) -/

/-- The set bits of a channel map, lowest first. -/
def mapBits (m : Nat) : List Nat := (List.range 64).filter (fun i => m.testBit i)

/-- The channel of event `k` (R200). -/
def eventChannel (u0 hop chmap k : Nat) : Nat :=
  let u := (u0 + k * hop) % 64
  if chmap.testBit u then u else (mapBits chmap).getD (u % (mapBits chmap).length) 0

/-- Event `k`, which wraps, as the number counted from the anchor without wrap (R197, R199): the one nearest the last observation. -/
def absEvent (c : Ctx) (k : Nat) : Nat :=
  let e := c.jLast / max 1 c.ci
  let d := (k + 2 ^ 32 - e % 2 ^ 32) % 2 ^ 32
  if d < 2 ^ 31 ∨ e + d < 2 ^ 32 then e + d else e + d - 2 ^ 32

/-- The node slot of event `k` (R199). -/
def eventSlot (c : Ctx) (k : Nat) : Nat := absEvent c k * c.ci

/-- The channel of event `k` of a node under the values in force. -/
def chanOf (c : Ctx) (k : Nat) : Nat := eventChannel c.u0 c.hop c.chmap k

/-- The map and increment that a NODE_CONN would put in force (R363). -/
def connMap (c : Ctx) (x : ConnChange) : Nat := if x.what.testBit 0 then x.chmap else c.chmap
def connHop (c : Ctx) (x : ConnChange) : Nat := if x.what.testBit 1 then x.hop else c.hop

/-- Whether the home follows both sequences at event `k`: APPLY_K is reached without an acknowledgement (R363). -/
def bothAt (r : NodeRun) (k : Nat) : Option ConnChange :=
  match r.conn with
  | some x => if !x.acked && (k + 2 ^ 32 - x.applyK) % 2 ^ 32 < 2 ^ 31 then some x else none
  | none => none

/-- The channels on which event `k` is awaited. -/
def chansOf (s : State) (n k : Nat) : List Nat :=
  let c := getCtx s n
  match bothAt (getRun s n) k with
  | some x => [chanOf c k, eventChannel c.u0 (connHop c x) (connMap c x) k].eraseDups
  | none => [chanOf c k]

/-! ### The clock model (R204-R206) -/

/-- Division rounded to the nearest, halves up (log entry 47). -/
def rdiv (a b : Int) : Int := if b < 0 then (2 * -a - b) / (2 * -b) else (2 * a + b) / (2 * b)

/-- A node slot, ns. -/
def slotNs (s : State) : Int := s.mac.slotUs * 1000

/-- t_last, anchored ns. -/
def tLast (c : Ctx) : Int := c.tlS * 1000000000 + c.tlNs

/-- Twice f_eff, in 10^-6 ppm (R204). -/
def fEff2 (c : Ctx) : Int := 2 * c.f + (if c.tempOfs = 0 then 0 else c.c * (c.tempLast - c.temp0))

/-- P(j), anchored ns (R204). -/
def predict (s : State) (c : Ctx) (j : Nat) : Int :=
  tLast c + rdiv (((j : Int) - c.jLast) * slotNs s * (2000000000000 + fEff2 c)) 2000000000000

/-- The node slot whose prediction lies nearest an instant (R205). -/
def nearestSlot (s : State) (c : Ctx) (t : Int) : Nat :=
  ((c.jLast : Int) + rdiv ((t - tLast c) * 2000000000000) (slotNs s * (2000000000000 + fEff2 c))).toNat

/-- Preamble and sync time of a node's frames on a channel, ns (R205). -/
def preSyncNs (s : State) (c : Ctx) (ch mode : Nat) : Int := (8 * c.pre + chSyncLen s ch) * (160000 / symbolRate mode)

/-- An observed slot start (R205): `t` is the stamp in anchored ns. -/
def slotStart (s : State) (c : Ctx) (ch mode : Nat) (t : Int) : Int := t - c.txOfs * 1000 - preSyncNs s c ch mode

/-- The bound kept in the 10^-6 ppm of f and c (R205). -/
def fMax : Int := 200000000
def cMax : Int := 1000000

/-- The update of R205 for an observed slot start, its slot, and the temperature the frame reports. -/
def modelUpdate (s : State) (c : Ctx) (sObs : Int) (j : Nat) (temp : Option Int) : Ctx :=
  let t := temp.getD c.tempLast
  let d := sObs - tLast c
  let dn := ((j : Int) - c.jLast) * slotNs s
  let fits := decide ((getF s 0x78024 15 8 : Int) * 1000000000 ≤ dn) && decide (0 < dn)
  let x4 := if c.tempOfs = 0 then 0 else c.tempLast + t - 2 * c.temp0
  let r := 4 * (d - dn) * 1000000000000 - dn * (4 * c.f + c.c * x4)
  let m :=
    if c.mstate = 1 ∧ fits then
      { c with f := clampInt (-fMax) fMax (c.f + rdiv r (8 * dn))
               c := if 16 ≤ x4.natAbs then clampInt (-cMax) cMax (c.c + rdiv r (4 * dn * x4)) else c.c }
    else if c.mstate = 0 ∧ fits then
      { c with f := clampInt (-fMax) fMax (rdiv ((d - dn) * 1000000000000) dn), c := 0,
               temp0 := if c.tempOfs = 0 then 0 else rdiv (c.tempLast + t) 2, mstate := 1 }
    else c
  { m with tlS := sObs.toNat / 1000000000 % 2 ^ 32, tlNs := sObs.toNat % 1000000000, jLast := j, tempLast := t }

/-- The temperature a frame reports (R206). -/
def tempIn (c : Ctx) (typ : Nat) (payload : List Byte) : Option Int :=
  if c.tempOfs = 0 ∨ typ ≠ 1 then none
  else match payload[c.tempOfs - 1]? with
    | some b => if b = 0x80 then none else some b.toInt
    | none => none

/-! ### The guard window (R208) -/

/-- H of R208, ns, for an elapsed time `dt`. -/
def guardHold (s : State) (r : NodeRun) (dt : Nat) : Nat :=
  if ntbState s = 1 ∧ s.ntb.lockClk ≤ r.obsClk then 0
  else if ntbState s = 0 then dt / 2000000
  else if r.obsClk < s.ntb.holdClk then holdBound s
  else holdBound s - r.obsBound

/-- The half-width of a window, whole microseconds (R208, R430). -/
def guardUs (s : State) (c : Ctx) (r : NodeRun) (k : Nat) : Nat :=
  let dt := (predict s c (eventSlot c k) - tLast c).toNat
  let rate := if c.mstate = 1 ∧ !c.resync then getF s 0x78020 31 16 else 1000 * getF s 0x78024 7 0
  let g := getF s 0x78020 15 0 * 1000 + rate * dt / 1000000000 + guardHold s r dt
  min (min g (min 8388 (getF s 0x78024 31 16) * 1000000)) (8388607 * 1000) / 1000

/-- The expected sync end of event `k` on a channel, anchored ns (R208). -/
def expectedEnd (s : State) (c : Ctx) (k ch : Nat) : Int :=
  predict s c (eventSlot c k) + c.txOfs * 1000 + preSyncNs s c ch (c.phy % 8)

/-- The window of event `k` on a channel. -/
def eventWindow (s : State) (c : Ctx) (r : NodeRun) (k ch : Nat) (internal : Bool) : EventWin :=
  let g := guardUs s c r k
  { k := k, opens := (expectedEnd s c k ch - g * 1000).toNat, dur := 2 * g * 1000, internal := internal }

/-- Whether an anchored instant lies in a window. -/
def EventWin.holds (w : EventWin) (t : Nat) : Bool := decide (w.opens ≤ t) && decide (t ≤ w.opens + w.dur)

/-- Present anchored time, ns. -/
def anchNow (s : State) : Nat := nsTotal s.ntb.anch

/-- The first event whose window opens at or after an anchored instant. -/
def eventFrom (s : State) (n : Nat) (t : Int) : Nat :=
  let c := getCtx s n
  let k := nearestSlot s c t / max 1 c.ci
  let opens := fun k => ((eventWindow s c (getRun s n) k (chanOf c k) true).opens : Int)
  ((List.range 4).map (fun i => k - 1 + i)).find? (fun k => decide (t ≤ opens k)) |>.getD (k + 2)

/-! ### The link margin (R121, R241) -/

/-- Single-path sensitivity, dBm (R121). -/
def sensitivity (mode : Nat) (fec : Bool) : Int :=
  if mode = 1 then (if fec then -126 else -120) else [-129, -126, -117, -114, -110, -107, -101, -97].getD mode (-97)

/-- A sample of the link margin, quarter decibels (R241). -/
def marginSample (r : RxRec) : Int :=
  let paths := fieldOf r.flags 19 16
  let n := ((List.range 4).filter (fun i => paths.testBit i)).length
  r.rssi.toInt - (4 * sensitivity r.mode (r.header.testBit 14) - [0, 0, 12, 19, 24].getD n 0)

/-- MARGIN_OWN after a sample (R241). -/
def marginNext (own sample : Int) (first : Bool) : Int := if first then sample else own + rdiv (sample - own) 8

/-! ### Deliveries (R17, R18, R349) -/

/-- The last channel bit of a frame, network ns: its sync end plus header and payload. -/
def frameEndNs (r : RxRec) : Nat := nsTotal r.stamp + airNs r.mode 0 0 (r.header.testBit 14) (r.header / 8 % 2048)

/-- The Keeper prepares for HOLD or OFF and accepts no uplink record (R429). -/
def draining (s : State) : Bool := getB s 0x10000 8 && decide (2 ≤ getF s 0x10000 5 4)

/-- An uplink delivery (R17, R348, R349): to the barrier, or kept while the host does not drain; a full region drops it (R18), and so
does a radio die that drains for HOLD or OFF (R429). -/
def deliver (addr uflags mtype key fcnt mseq origin : Nat) (record data : List Byte) (s : State) : State :=
  let body := leBytes 3 addr ++ leBytes 1 (devOf s) ++ leBytes 2 uflags ++ leBytes 1 mtype ++ leBytes 1 key ++ leBytes 4 fcnt ++
    leBytes 1 mseq ++ leBytes 3 origin ++ record ++ data
  let m := eskelHeader 0 3 0x1E 0 body.length s.keeper.upSeq 0 ++ body
  let next := { s with keeper := { s.keeper with upSeq := (s.keeper.upSeq + 1) % 2 ^ 32 } }
  if draining s then incW 0xB0060 (setB 0xB0010 10 true s)
  else if heldBytes s.keeper.upHold + m.length ≤ 1048576 then
    drainUp { next with keeper := { next.keeper with upHold := next.keeper.upHold ++ [m] } }
  else incW 0xB0060 (setB 0xB0010 10 true s)

end Sys2Proof.Machine
end

