-- ==== Sys2Proof/Machine/Nodes.lean ====
section
/-! DEFINITION. The Fronds at work: receive records, the directory, MIC results and frame counters, acknowledgements and downlinks, node
events and windows, joins, relay mode, and what follows when an entry of a device owner is done (R176-R187, R197-R222, R235-R244, R362,
R363). -/

namespace Sys2Proof.Machine

/-! ### Small pieces -/

def nodePower (s : State) : Nat := min 160 (getF s 0x78028 23 16)
def dlBurst (s : State) : Nat := max 1 (getF s 0x78028 3 0)
def dlRetry (s : State) : Nat := getF s 0x78028 11 8

/-- OWNER of an entry taken for a node (R220). -/
def nodeOwner (s : State) (n : Nat) : Nat := (getCtx s n).frond + 256 + 65536 * n

/-- The P command of an opcode, tag and origin completes. -/
def finishTag (opcode tag origin status : Nat) (payload : List Byte) (s : State) : State :=
  finishPend (fun p => p.opcode == opcode && p.tag == tag && p.origin == origin) status payload s

/-- The entries of a use, in index order. -/
def usedFor (s : State) (test : OpUse → Bool) : List Nat := (s.uses.filter (fun p => test p.2)).map (fun p => p.1)

def isWindowOf (n : Nat) : OpUse → Bool
  | .window c _ => c == n
  | _ => false
def isAckWindowOf (n : Nat) : OpUse → Bool
  | .ackWindow c => c == n
  | _ => false
def isExchangeOf (n : Nat) : OpUse → Bool
  | .ackWindow c => c == n
  | .downlink c => c == n
  | _ => false
def isOf (n : Nat) : OpUse → Bool
  | .window c _ => c == n
  | .ackWindow c => c == n
  | .downlink c => c == n
  | _ => false

/-- The entry that a TX of the device needs, written and armed: it leaves with tolerance 10 us (log entry 53). -/
def takeTx (use : OpUse) (ch mode pre power owner start : Nat) (desc : List Byte) (s : State) : State :=
  match freeEntry s false with
  | none => setB 0x78004 16 true (incW 0x78008 s)
  | some e =>
    takeEntry e { cfg := 2 + 2 ^ 8 * ch + 2 ^ 16 * mode + 2 ^ 24 * power, start := start, dur := 0, tol := 10, pre := pre,
                  buf := descAddr e, owner := owner } (setUse e use (pktWrite (descAddr e) desc s))

/-- A window entry in anchored time; none where the pool is used up. -/
def takeWindow (use : OpUse) (ch mode owner opens durUs : Nat) (s : State) : Option State :=
  (freeEntry s false).map (fun e =>
    takeEntry e { cfg := 1 + 8 + 2 ^ 8 * ch + 2 ^ 16 * mode, start := opens, dur := durUs, tol := 0, pre := 32, buf := 0, owner := owner }
      (setUse e use s))

/-! ### The replica and the guests (R243, R248) -/

/-- COUNTER_UPDATE to the replica and the guests of a node, with the reserved downlink counter. -/
def counterUpdateOut (n : Nat) (s : State) : State :=
  let c := getCtx s n
  let body := leBytes 3 c.addr ++ leBytes 4 c.gen ++ leBytes 4 c.upFcnt ++ leBytes 4 c.upWin ++ leBytes 4 (getRun s n).reserve
  let repl := if c.replDev = devOf s then [] else [c.replDev]
  forAll ((repl ++ (getRun s n).guests).eraseDups) (sendMr 1 0x18 · body) s

/-- The chain transport key (R300). -/
def chainKey (s : State) : Option (List Byte) :=
  if (getKey s 0).valid && (getKey s 0).usage.testBit 2 then some (getKey s 0).key else none

/-- CHAIN_KEY_MISSING, once on each attempt that would have sent a context (R300). -/
def chainKeyMissing (s : State) : State := raiseEvt 9 0x152 [] s

/-- The wrapped key of a context; 24 bytes of 0 for a context without a key (log entry 56). -/
def wrapKey (kek key : List Byte) : List Byte :=
  if key.isEmpty then leBytes 24 0 else bytesOf (kwWrap (natsOf kek) (natsOf key))

/-- A context as the key changes that wait for its running requests will leave it: a copy never carries the key that goes (R298, R370). -/
def ctxToCome (s : State) (n : Nat) : Ctx := getCtx (forAll (s.cipher.changes.filter (fun c => c.code == 256 + n)) makeChange s) n

/-- A CONTEXT frame sent with a role: a replica gets the reserved downlink counter (R248). -/
def sendContext (n role dest : Nat) (s : State) : State :=
  match chainKey s with
  | none => chainKeyMissing s
  | some kek =>
    let c := { ctxToCome s n with role := role }
    let c := if role = 2 then { c with dnFcnt := (getRun s n).reserve } else c
    sendMr 4 0x40 dest (leBytes 1 role ++ leBytes 3 0 ++ ctxBytes c ++ wrapKey kek c.key) s

/-- A changed connection field goes to the copies (R243, R248): the counters at once, the context to the replica and the guests. -/
def carryConn (n : Nat) (s : State) : State :=
  let s := counterUpdateOut n s
  let s := if (getCtx s n).replDev = devOf s then s else sendContext n 2 (getCtx s n).replDev s
  forAll (getRun s n).guests (sendContext n 3) s

/-- The reservation of R248 kept ahead of DN_FCNT. -/
def reserveCheck (n : Nat) (s : State) : State :=
  let r := getRun s n
  if r.reserve ≤ (getCtx s n).dnFcnt then counterUpdateOut n (setRun n { r with reserve := r.reserve + 64 } s) else s

/-! ### Downlinks (R19, R20, R201, R202, R363) -/

/-- Whether the frame of a NODE_CONN is the next to go: up to event APPLY_K - 2 (R363). -/
def connTurn (s : State) (n : Nat) : Bool :=
  match (getRun s n).conn with
  | some x => !x.acked && decide ((x.applyK + 2 ^ 32 - 2 - (getCtx s n).k) % 2 ^ 32 < 2 ^ 31)
  | none => false

/-- The downlink that goes first. -/
def headDl (s : State) (n : Nat) : Option Downlink :=
  if connTurn s n then (getRun s n).conn.map (fun x => x.dl) else (getRun s n).dls.head?

/-- DL_PEND and DL_TRIES follow the queue (R232). -/
def dlSync (n : Nat) (s : State) : State :=
  let q := (getRun s n).dls
  commitCtx n { getCtx s n with dlPend := min 255 q.length, dlTries := min 255 ((q.head?.map (fun d => d.tries)).getD 0) } s

/-- The first downlink replaced. -/
def setHead (n : Nat) (d : Downlink) (s : State) : State :=
  let r := getRun s n
  if connTurn s n then setRun n { r with conn := r.conn.map (fun x => { x with dl := d }) } s
  else dlSync n (setRun n { r with dls := d :: r.dls.drop 1 } s)

/-- The result payload of DL_SEND (R364). -/
def dlResult (d : Downlink) : List Byte :=
  leBytes 8 (d.stamp / 1000000000) ++ leBytes 4 (d.stamp % 1000000000) ++ leBytes 1 d.step ++ leBytes 1 d.tries ++ leBytes 2 0 ++
    leBytes 4 (d.fcnt.getD 0) ++ leBytes 1 d.seq ++ leBytes 3 0

/-- The first queued downlink ends its command. -/
def endHead (n status : Nat) (s : State) : State :=
  let r := getRun s n
  match r.dls with
  | [] => s
  | d :: ds => finishTag 0x0601 d.tag d.origin status (if status = 0 then dlResult d else []) (dlSync n (setRun n { r with dls := ds } s))

/-- The first downlink encrypted once, with the next counter and SEQ (R19, R181, R526); a used-up counter ends it (R181). -/
def sealHead (n : Nat) (s : State) : State :=
  match headDl s n with
  | none => s
  | some d =>
    let c := getCtx s n
    if d.fcnt.isSome then s
    else if 2 ^ 32 ≤ c.dnFcnt then
      (if connTurn s n then finishTag 0x0505 d.tag d.origin 14 [] (setRun n { getRun s n with conn := none } s) else endHead n 14 s)
    else
      let conn := connTurn s n
      let r := getRun s n
      let more := if conn then !r.dls.isEmpty else decide (1 < r.dls.length)
      let enc := conn || d.flags.testBit 0
      let mic64 := !conn && d.flags.testBit 1
      let head := macHeader (if conn || d.flags.testBit 2 then 3 else 1) true true more c.dnSeq c.nid c.addr 0 none ++
        secHeader 0 enc mic64 c.dnFcnt
      let frame := macSeal c.key c.eui c.dnFcnt enc mic64 head d.data
      let s := commitCtx n { c with dnFcnt := c.dnFcnt + 1, dnSeq := (c.dnSeq + 1) % 256 } s
      reserveCheck n (setHead n { d with fcnt := some c.dnFcnt, seq := c.dnSeq, more := more, frame := frame } s)

/-- Whether a downlink may go to a node in the present event (R201, R213, R245, R430, R526). -/
def dlAllowed (s : State) (n : Nat) : Bool :=
  let c := getCtx s n
  devNid s != 0 && c.role == 1 && c.mstate != 2 && !c.transit && !c.resync && !c.key.isEmpty && decide ((getRun s n).burst < dlBurst s)

/-- The first downlink sent on a channel with its preamble at `start` (R201). -/
def sendHead (n ch start : Nat) (s : State) : State :=
  if !dlAllowed s n then s
  else
    let s := sealHead n s
    match headDl s n with
    | none => s
    | some d =>
      let c := getCtx s n
      let s := setRun n { getRun s n with burst := (getRun s n).burst + 1, exCh := ch } s
      takeTx (.downlink n) ch (c.phy % 8) (8 * c.pre) (nodePower s) (nodeOwner s n) start
        (descriptor (c.phy % 8) (c.phy.testBit 3) true false 0 d.frame) s

/-- The exchange of an event goes on after an accepted uplink (R176, R201): the acknowledgement is due, the first downlink follows. -/
def exchange (n : Nat) (r : RxRec) (ackreq : Bool) (aseq : Nat) (event : Bool) (s : State) : State :=
  let fec := r.header.testBit 14
  let last := frameEndNs r
  let ackAt := last + 1000 * us
  let s := if ackreq then
      { s with nodes := { s.nodes with acks := s.nodes.acks ++ [{ ctx := n, ch := r.ch, mode := r.mode, fec := fec, aseq := aseq % 4, start := ackAt }] } }
    else s
  let last := if ackreq then ackAt + airNs r.mode 32 (chSyncLen s r.ch) fec 0 else last
  if event then sendHead n r.ch (last + 1000 * us) s else s

/-- IMMEDIATE_ACK (R176, R526): the acknowledgement that is due becomes a TX entry. From FINAL on the old home schedules none (R245). -/
def immediateAck (s : State) : State :=
  match s.nodes.acks with
  | [] => s
  | a :: as =>
    let s := { s with nodes := { s.nodes with acks := as } }
    if !isHome s a.ctx || (getCtx s a.ctx).transit then s
    else takeTx .ackFrame a.ch a.mode 32 (nodePower s) (nodeOwner s a.ctx) a.start (descriptor a.mode a.fec false true a.aseq []) s

/-- The next downlink of the exchange after an acknowledgement whose frame ended at `t` (R201). -/
def nextDl (n t : Nat) (more : Bool) (s : State) : State :=
  if more then sendHead n (getRun s n).exCh (t + 1000 * us) s else s

/-- The acknowledgement windows of a node end with a frame of it (R222, R226): an entry whose window holds the stamp matches, any other
runs on to its close on its own. -/
def ackMatched (n : Nat) (r : RxRec) (s : State) : State :=
  forAll (usedFor s (isAckWindowOf n)) (fun e s => setUse e .none (if inWindow s e r.ch r.stamp r.anch then windowMatch e r s else s))
    (setRun n { getRun s n with ackWin := none } s)

/-- Whether a frame lies in an acknowledgement window of a node, with or without an entry (R177, R210, R226). -/
def ackHolds (s : State) (n : Nat) (r : RxRec) : Bool :=
  (usedFor s (isAckWindowOf n)).any (fun e => inWindow s e r.ch r.stamp r.anch) ||
    (match (getRun s n).ackWin with
      | some w => w.holds (nsTotal r.anch) && (getRun s n).exCh == r.ch
      | none => false)

/-- The downlink that stands first has been acknowledged by a frame that ended at `t` (R177, R201, R363). -/
def dlAcked (n : Nat) (r : RxRec) (t : Nat) (s : State) : State :=
  let s := ackMatched n r s
  match headDl s n with
  | none => s
  | some d =>
    if connTurn s n then
      let s := setRun n { getRun s n with conn := (getRun s n).conn.map (fun x => { x with acked := true }) } s
      nextDl n t d.more (finishTag 0x0505 d.tag d.origin 0 [] s)
    else nextDl n t d.more (endHead n 0 s)

/-- No acknowledgement came (R202): the exchange ends; after the last retry the command does. -/
def dlNoAck (n : Nat) (s : State) : State :=
  if connTurn s n then s
  else match headDl s n with
    | none => s
    | some d => if dlRetry s < d.tries then endHead n 35 s else s

/-- An accepted frame that is no acknowledgement falls in the window of one (R202, R222): the window completes with it, and the exchange
ends unacknowledged. -/
def ackMissedBy (n : Nat) (r : RxRec) (s : State) : State := if ackHolds s n r then dlNoAck n (ackMatched n r s) else s

/-- A downlink has been sent with its preamble at `stamp` ns (R202, R210): its acknowledgement is awaited, where no entry is free in a
window of the Frond's own (R226). -/
def dlSent (n stamp step : Nat) (s : State) : State :=
  match headDl s n with
  | none => s
  | some d =>
    let c := getCtx s n
    let mode := c.phy % 8
    let ch := (getRun s n).exCh
    let sync := chSyncLen s ch
    let s := setHead n { d with tries := d.tries + 1, stamp := stamp, step := step } s
    let e := stamp + airNs mode (8 * c.pre) sync (c.phy.testBit 3) d.frame.length
    let s := setRun n { getRun s n with endNs := e } s
    let mid := e + 1000 * us + (32 + sync) * (160000 / symbolRate mode)
    let half := getF s 0x78020 15 0 + 10
    let opens := mid - half * us + anchNow s - nowNs s
    match takeWindow (.ackWindow n) ch mode (nodeOwner s n) opens (2 * half) s with
    | some s => s
    | none => setB 0x78004 16 true (incW 0x78008
        (setRun n { getRun s n with ackWin := some { k := c.k, opens := opens, dur := 2 * half * us, internal := true } } s))

/-- A waiting downlink ends with a status (R20): one that radiates is cut short. -/
def dropDl (n tag origin status : Nat) (s : State) : State :=
  let r := getRun s n
  match r.dls.find? (fun d => d.tag == tag && d.origin == origin) with
  | none => s
  | some d =>
    let first := r.dls.head? == some d
    let s := if first && !connTurn s n then
        forAll (usedFor s (isExchangeOf n)) (fun e s => opCancel e (setUse e .none s)) s
      else s
    finishTag 0x0601 tag origin status [] (dlSync n (setRun n { getRun s n with dls := (getRun s n).dls.erase d } s))

/-- DOWNLINK_LIFETIME_EXPIRY (R20). -/
def downlinkLifetimeExpiry (tag : BitVec 16) (s : State) : State :=
  match s.nodes.runs.findSome? (fun p => (p.2.dls.find? (fun d => d.tag == tag.toNat && d.expires.isSome)).map (fun d => (p.1, d))) with
  | none => s
  | some (n, d) => dropDl n d.tag d.origin 36 (reachClk (d.expires.getD 0) s)

/-! ### Events (R197-R214, R226) -/

/-- The change of a NODE_CONN comes into force (R363). -/
def connInForce (n : Nat) (x : ConnChange) (s : State) : State :=
  let c := getCtx s n
  carryConn n (commitCtx n { c with chmap := connMap c x, hop := connHop c x } (setRun n { getRun s n with conn := none } s))

/-- The event counter moves on (R212). -/
def advanceK (n : Nat) (s : State) : State :=
  let c := getCtx s n
  let k := (c.k + 1) % 2 ^ 32
  let s := setRun n { getRun s n with win := none, burst := 0 } (commitCtx n { c with k := k } s)
  match (getRun s n).conn with
  | some x => if x.acked && k == x.applyK % 2 ^ 32 then connInForce n x s else s
  | none => s

/-- Whether a node's events are scheduled by this device (R213, R245). -/
def schedulable (s : State) (n : Nat) : Bool :=
  let c := getCtx s n
  let r := getRun s n
  c.role == 1 && c.mstate != 2 && !c.transit && decide (0 < c.ci) && r.win.isNone && !(s.nodes.waits.any (fun w => w.ctx == n)) &&
    (match r.hand with
     | some h => decide ((c.k + 2 ^ 32 - h.k) % 2 ^ 32 ≥ 2 ^ 31)
     | none => true)

/-- The next event of a node whose windows this device has not opened: k, or the first still to come (R213). -/
def skipPast (n : Nat) (s : State) : State :=
  let c := getCtx s n
  let w := eventWindow s c (getRun s n) c.k (chanOf c c.k) false
  if w.opens + w.dur < anchNow s then commitCtx n { c with k := eventFrom s n (anchNow s) % 2 ^ 32 } s else s

/-- NODE_EVENT_SCHEDULE (R208, R226, R363): LOOKAHEAD before the window the Frond takes its entry and seals the first downlink. -/
def nodeEventSchedule (ctx : BitVec 16) (s : State) : State :=
  let n := ctx.toNat
  if !schedulable s n then s
  else
    let s := skipPast n s
    let c := getCtx s n
    let w := fun ch => eventWindow s c (getRun s n) c.k ch false
    let w0 := w (chanOf c c.k)
    let s := reachAnch ((w0.opens - max 1 (getF s 0x78000 15 8) * 1000000) * nsUnit) s
    let s := if dlAllowed s n then sealHead n s else s
    match freeEntry s false with
    | none => s
    | some _ =>
      let s := setRun n { getRun s n with win := some w0 } s
      forAll (chansOf s n c.k) (fun ch s =>
        let v := w ch
        (takeWindow (.window n c.k) ch (c.phy % 8) (nodeOwner s n) v.opens (v.dur / 1000) s).getD s) s

/-- OPQ_FULL (R226): by 1 ms before the start no entry was found; the window is kept without one. -/
def opqFull (ctx : BitVec 16) (s : State) : State :=
  let n := ctx.toNat
  if !schedulable s n ∨ (freeEntry s false).isSome then s
  else
    let c := getCtx s n
    let w := eventWindow s c (getRun s n) c.k (chanOf c c.k) true
    let s := reachAnch ((w.opens - 1000000) * nsUnit) s
    setB 0x78004 16 true (incW 0x78008 (setRun n { getRun s n with win := some w } s))

/-- A window of a node has closed without a match (R212, R253). -/
def windowMissed (n : Nat) (s : State) : State :=
  let c := getCtx s n
  let s := commitCtx n { c with missed := min 65535 (c.missed + 1) } s
  let s := advanceK n s
  if getB s 0xB0000 2 && c.role == 1 then
    let r := getRun s n
    let own := ((r.kept.find? (fun p => p.1 == c.k)).map (fun p => p.2))
    let run : RescueRun := { k := c.k, clk := s.ntb.clk, sum := (own.map (fun x => x.soft.map softOfByte)).getD [],
                             form := own.map (fun x => (x.mode, x.header.testBit 14, x.header / 8 % 2048)) }
    incW 0xB0064 (broadcast 0x17 (leBytes 3 c.addr ++ leBytes 4 c.k) (setRun n { r with rescue := some run } s))
  else s

/-- The window entries of a node's event end with a match (R222): one that holds the stamp completes, another closes. -/
def matchWindows (n : Nat) (r : RxRec) (s : State) : State :=
  forAll (usedFor s (isWindowOf n)) (fun e s =>
    let s := setUse e .none s
    if !opLive s e then s
    else if opChannel s e = r.ch then windowMatch e r (opActivate e s) else opAbort e s) s

/-- SUPERVISION_TIMEOUT (R213). -/
def supervisionTimeout (ctx : BitVec 16) (s : State) : State :=
  let n := ctx.toNat
  let c := getCtx s n
  if c.role ≠ 1 ∨ c.supTo = 0 ∨ c.mstate = 2 then s
  else
    let s := reachNet ((c.lastS + 60 * c.supTo) * secUnit) s
    let s := setRun n { getRun s n with mstateWas := c.mstate, win := none } s
    let s := forAll (usedFor s (isWindowOf n)) (fun e s => opCancel e (setUse e .none s)) s
    raiseEvt 0xC 0x130 (leBytes 3 c.addr) (commitCtx n { getCtx s n with mstate := 2 } s)

/-! ### Accepted frames (R205, R211, R237, R241) -/

/-- LAST_S after an accepted frame of a node; a LOST node is found (R213, R232). -/
def heardNow (n : Nat) (s : State) : State :=
  let c := getCtx s n
  let lost := c.role == 1 && c.mstate == 2
  let s := setCtx n { c with lastS := secOf s.ntb.net % 2 ^ 32, mstate := if lost then (getRun s n).mstateWas else c.mstate } s
  if lost then raiseEvt 0xC 0x131 (leBytes 3 c.addr) s else s

/-- What every accepted frame that a node itself sends does to its fields (R213, R233, R241, R430). -/
def touch (n : Nat) (r : RxRec) (s : State) : State :=
  let c := getCtx s n
  let x := getRun s n
  heardNow n (setRun n { x with sampled := true, heard := true }
    (setCtx n { c with rssiLast := r.rssi.toInt, marginOwn := marginNext c.marginOwn (marginSample r) (!x.sampled) } s))

/-- The event whose window holds a frame: the home's open window, or the one a guest or replica follows (R208, R211, R252). -/
def eventHit (s : State) (n : Nat) (r : RxRec) : Option Nat :=
  let c := getCtx s n
  let t := nsTotal r.anch
  if c.role = 1 then
    match (getRun s n).win with
    | some w => if w.holds t && (chansOf s n w.k).contains r.ch then some w.k else none
    | none => none
  else if c.ci = 0 then none
  else
    let k := (nearestSlot s c (slotStart s c r.ch r.mode t) + c.ci / 2) / c.ci
    if (eventWindow s c (getRun s n) k r.ch true).holds t && chanOf c k == r.ch then some k else none

/-- The event whose predicted slot lies nearest an observed slot start, among those whose channel is the frame's (R211); with none, which
is so with HOP 0 alone, the nearest of all (log entry 150). The channels repeat after 64 events. -/
def nearestEvent (s : State) (c : Ctx) (sObs : Int) (ch : Nat) : Nat :=
  let k0 := nearestSlot s c sObs / max 1 c.ci
  let far := fun (k : Nat) => (predict s c (k * c.ci) - sObs).natAbs
  let best := fun (b : Nat) (ks : List Nat) => ks.foldl (fun b k => if far k < far b then k else b) b
  let ks := ((List.range 131).map (fun i => k0 + i - 65)).filter (fun k => chanOf c k == ch)
  match ks with
  | k :: ks => best k ks
  | [] => best k0 [k0 + 1]

/-- The model takes an observation, and remembers the bound and the clock of it (R205, R208). -/
def observe (n j : Nat) (sObs : Int) (temp : Option Int) (s : State) : State :=
  setRun n { getRun s n with obsBound := holdBound s, obsClk := s.ntb.clk }
    (setCtx n { modelUpdate s (getCtx s n) sObs j temp with resync := false } s)

/-- A frame outside every window (R211): flagged, and an observation or a new anchor. -/
def outOfWindow (n : Nat) (r : RxRec) (sObs : Int) (temp : Option Int) (s : State) : State :=
  let c := getCtx s n
  let s := logWrite 0xC 0x200 (leBytes 3 c.addr) (setCtx n { c with oow := min 65535 (c.oow + 1) } s)
  let c := getCtx s n
  let j := nearestSlot s c sObs
  let eps := sObs - predict s c j
  if (2 * eps.natAbs ≤ slotNs s ∧ chanOf c (j / max 1 c.ci) = r.ch) ∨ c.resync then observe n j sObs temp s
  else
    let k := nearestEvent s c sObs r.ch
    let c : Ctx := { c with mstate := 0, tempLast := temp.getD c.tempLast, tlS := sObs.toNat / 1000000000 % 2 ^ 32,
                            tlNs := sObs.toNat % 1000000000, jLast := j }
    let s := setRun n { getRun s n with obsBound := holdBound s, obsClk := s.ntb.clk } s
    if c.role = 1 then
      let s := setRun n { getRun s n with win := none } (setCtx n { c with k := (if k * c.ci ≤ j then k + 1 else k) % 2 ^ 32 } s)
      forAll (usedFor s (isWindowOf n)) (fun e s => opCancel e (setUse e .none s)) s
    else setCtx n c s

/-- A frame of the node's grid updates the model (R205, R207, R211): `hit` is the event it belongs to. -/
def gridFrame (n : Nat) (r : RxRec) (hit : Option Nat) (temp : Option Int) (s : State) : State :=
  let c := getCtx s n
  let sObs := slotStart s c r.ch r.mode (nsTotal r.anch)
  match hit with
  | some k => observe n (eventSlot c k) sObs temp s
  | none => outOfWindow n r sObs temp s

/-- The first frame after APPLY_K settles a NODE_CONN that was not acknowledged (R363). -/
def connSettle (n ch k : Nat) (s : State) : State :=
  match bothAt (getRun s n) k with
  | none => s
  | some x =>
    let c := getCtx s n
    if eventChannel c.u0 (connHop c x) (connMap c x) k = ch then finishTag 0x0505 x.dl.tag x.dl.origin 0 [] (connInForce n x s)
    else finishTag 0x0505 x.dl.tag x.dl.origin 35 [] (setRun n { getRun s n with conn := none } s)

/-- The judgement of R237: 0 accepted, 1 accepted late, 2 duplicate, 3 replay. -/
def judgeFcnt (c : Ctx) (f : Nat) : Nat :=
  if c.upCount = 0 ∨ c.upFcnt < f then 0
  else if f = c.upFcnt then 2
  else if c.upFcnt ≤ f + 32 then (if c.upWin.testBit (c.upFcnt - 1 - f) then 2 else 1)
  else 3

/-- The counter fields after an accepted frame (R237). -/
def takeFcnt (c : Ctx) (f : Nat) : Ctx :=
  let up := (c.upCount + 1) % 2 ^ 32
  if c.upCount = 0 then { c with upFcnt := f, upWin := 0, upCount := up }
  else if c.upFcnt < f then
    let g := f - c.upFcnt
    { c with upFcnt := f, upWin := if 32 < g then 0 else (c.upWin * 2 ^ g + 2 ^ (g - 1)) % 2 ^ 32, upCount := up }
  else { c with upWin := c.upWin ||| 2 ^ (c.upFcnt - 1 - f), upCount := up }

/-- The home commits an accepted counter and carries it to its copies (R233, R237, R248). -/
def commitFcnt (n f : Nat) (s : State) : State :=
  if !isHome s n then s
  else
    let s := counterUpdateOut n (commitCtx n (takeFcnt (getCtx s n) f) s)
    if f = 0xFFFFFFFF then raiseEvt 0xC 0x137 (leBytes 3 (getCtx s n).addr) s else s

/-- Whether an immediate acknowledgement can be scheduled (R176, log entry 54). -/
def ackPossible (s : State) : Bool := (freeEntry s false).isSome && (txEnabled s 0 || txEnabled s 1)

/-- The acknowledged SEQ and FCNT of a MAC acknowledgement frame are those of the downlink sent last (R187). -/
def acksHead (s : State) (n : Nat) (payload : List Byte) : Bool :=
  match headDl s n with
  | some d => payload.length == 5 && leAt payload 0 1 == d.seq && d.fcnt == some (leAt payload 1 4) && decide (0 < d.tries)
  | none => false

/-- UFLAGS (R349). -/
def uflags (rescued : Option Nat) (oow late ack join relayed : Bool) : Nat :=
  (match rescued with | some d => 1 + 256 * d | none => 0) + (if oow then 2 else 0) + (if late then 4 else 0) + (if ack then 8 else 0) +
    (if join then 16 else 0) + (if relayed then 32 else 0)

/-- A relay frame's inner frame goes on to its own MIC check (R184): one whose SRC is not ORIGIN is malformed (log entry 151). -/
def innerOut (w : MicWait) (origin : Nat) (payload : List Byte) (s : State) : State :=
  match parseMac payload with
  | none => incW 0xB0048 s
  | some g =>
    if g.src ≠ origin then incW 0xB0048 s
    else if !g.sec then incW 0xB0080 s
    else match findNode s g.src with
      | none => incW 0xB0040 s
      | some m =>
        if g.keyIndex ≠ 0 then incW 0xB0054 s
        else { s with nodes := { s.nodes with mics := s.nodes.mics ++ [{ rx := w.rx, bytes := payload, kind := .inner m, rescued := w.rescued }] } }

/-- An accepted frame of a node (R176, R201, R205, R211, R241, R349). -/
def acceptFrame (n : Nat) (w : MicWait) (f : MacFrame) (payload : List Byte) (late : Bool) (s : State) : State :=
  let r := w.rx
  let home := isHome s n
  let hit := match w.rescued with
    | some _ => (getRun s n).rescue.map (fun x => x.k)
    | none => eventHit s n r
  let grid := f.typ != 2
  let oow := grid && hit.isNone
  let k := hit.getD ((nearestSlot s (getCtx s n) (slotStart s (getCtx s n) r.ch r.mode (nsTotal r.anch))) / max 1 (getCtx s n).ci)
  let s := touch n r (commitFcnt n f.fcnt s)
  let s := if home && grid then connSettle n r.ch k s else s
  let s := if grid then gridFrame n r hit (tempIn (getCtx s n) f.typ payload) s else s
  let event := home && hit.isSome && w.rescued.isNone && grid
  let ack := home && f.ackreq && w.rescued.isNone
  let sent := ack && ackPossible s
  let s := if event then advanceK n (matchWindows n r s) else s
  let s := if f.typ = 5 then innerOut w f.origin payload s
    else if home then
      deliver f.src (uflags w.rescued oow late sent false false) f.typ f.keyIndex f.fcnt f.seq f.src (recordBytes r) payload s
    else s
  let s := if !home then s else if f.typ == 2 && acksHead s n payload then dlAcked n r (frameEndNs r) s else ackMissedBy n r s
  if home && w.rescued.isNone then exchange n r ack f.seq event s else s

/-- The MIC of a node's frame has checked (R176, R237). -/
def micNode (n : Nat) (w : MicWait) (f : MacFrame) (payload : List Byte) (s : State) : State :=
  match judgeFcnt (getCtx s n) f.fcnt with
  | 0 => acceptFrame n w f payload false s
  | 1 => acceptFrame n w f payload true s
  | 2 =>
    let s := incW 0xB004C s
    if isHome s n && f.ackreq && w.rescued.isNone then exchange n w.rx true f.seq false s else s
  | _ => incW 0xB0050 s

/-- The MIC of the inner frame of a relay frame has checked (R184, R349): delivered with the relaying node's address. -/
def micInner (n : Nat) (w : MicWait) (g : MacFrame) (payload : List Byte) (s : State) : State :=
  let relay := (parseMac w.rx.payload).map (fun f => (f.src, f.origin))
  match judgeFcnt (getCtx s n) g.fcnt with
  | 2 => incW 0xB004C s
  | 3 => incW 0xB0050 s
  | v =>
    let s := heardNow n (commitFcnt n g.fcnt s)
    if isHome s n then
      deliver (relay.map (fun p => p.1) |>.getD g.src) (uflags w.rescued false (v == 1) false false true) g.typ g.keyIndex g.fcnt g.seq
        (relay.map (fun p => p.2) |>.getD g.src) (recordBytes w.rx) payload s
    else s

/-! ### Joins (R185, R198, R244, R362) -/

/-- Whether a slot boundary and first channel are free among the nodes of the same CI (R198). -/
def anchorFree (s : State) (n ci slot ch : Nat) : Bool :=
  !(s.ctx.any (fun p => p.1 != n && p.2.role == 1 && p.2.ci == ci &&
      (p.2.anchorS * (1000000 / s.mac.slotUs) + p.2.anchorSlot) % max 1 ci == slot % max 1 ci && chanOf p.2 0 == ch))

/-- Whether no node of the same CI has a slot and channel at its first event. -/
def anchorNew (s : State) (n ci slot ch : Nat) : Bool :=
  !(s.ctx.any (fun p => p.1 != n && p.2.role == 1 && p.2.ci == ci &&
      p.2.anchorS * (1000000 / s.mac.slotUs) + p.2.anchorSlot == slot && chanOf p.2 0 == ch))

/-- The first of `fuel` slots with a first channel that `free` admits, and U0. -/
def anchorFrom (c : Ctx) (free : Nat → Nat → Bool) : Nat → Nat → Option (Nat × Nat)
  | 0, _ => none
  | fuel + 1, slot =>
    match (List.range 64).find? (fun u => free slot (eventChannel u c.hop c.chmap 0)) with
    | some u => some (slot, u)
    | none => anchorFrom c free fuel (slot + 1)

/-- The anchor slot, counted from second 0, and U0 (R198, log entry 58): the first pair that no node of the same CI has at any event slot
in step with its own; where there is none, the first that no such node has at its first event. As many slots as there are nodes always
leave one. -/
def anchorFor (s : State) (n : Nat) (c : Ctx) (slot : Nat) : Nat × Nat :=
  let fuel := s.ctx.length + 1
  ((anchorFrom c (anchorFree s n c.ci) fuel slot).orElse (fun _ => anchorFrom c (anchorNew s n c.ci) fuel slot)).getD (slot, 0)

/-- The 29 bytes of connection parameters (R198). -/
def connBlock (c : Ctx) : List Byte :=
  leBytes 3 c.addr ++ leBytes 4 c.anchorS ++ leBytes 2 c.anchorSlot ++ leBytes 3 c.ci ++ leBytes 1 c.hop ++ leBytes 1 c.u0 ++
    leBytes 8 c.chmap ++ leBytes 2 c.supTo ++ leBytes 2 c.txOfs ++ leBytes 1 c.tempOfs ++ leBytes 1 c.phy ++ leBytes 1 c.pre

/-- The join response of a waiting NODE_ADD (R198, R362, R526). -/
def joinRespond (w : JoinWait) (r : RxRec) (f : MacFrame) (s : State) : State :=
  let n := w.ctx
  let c := getCtx s n
  let fcnt := fcntOf s w.jkey
  if 2 ^ 32 ≤ fcnt ∨ devNid s = 0 then s
  else
    let fec := r.header.testBit 14
    let start := frameEndNs r + 1000 * us
    let last := start + airNs r.mode (8 * c.pre) (chSyncLen s r.ch) fec 58
    let first := ceilDiv (last + 1000000000) (s.mac.slotUs * us)
    let a := anchorFor s n c first
    let per := 1000000 / s.mac.slotUs
    let t := a.1 * s.mac.slotUs * us + anchNow s - nowNs s
    let c := { c with anchorS := a.1 / per % 2 ^ 32, anchorSlot := a.1 % per, u0 := a.2, tlS := t / 1000000000 % 2 ^ 32,
                      tlNs := t % 1000000000, jLast := 0, k := 0, mstate := 0, lastS := a.1 / per % 2 ^ 32 }
    let s := bumpFcnt w.jkey (commitCtx n c s)
    let s := setRun n { getRun s n with obsBound := holdBound s, obsClk := s.ntb.clk } s
    let s := { s with nodes := { s.nodes with waits := s.nodes.waits.map (fun x => if x.tag = w.tag then { x with answering := true } else x) } }
    let head := macHeader 4 true false false f.seq (devNid s) 0xFFFFFF 0 (some w.eui) ++ secHeader w.jkey true false fcnt
    let frame := macSeal (getKey s w.jkey).key w.eui fcnt true false head (connBlock c)
    takeTx (.joinResponse w.tag) r.ch r.mode (8 * c.pre) (nodePower s) (nodeOwner s n) start (descriptor r.mode fec true false 0 frame) s

/-- A report of a join request heard (R244). -/
def joinReport (eui dev : Nat) (margin : Int) (s : State) : State :=
  let js := s.nodes.joins
  let add := fun (j : JoinHeard) => { j with reports := j.reports.filter (fun p => p.1 != dev) ++ [(dev, margin)] }
  let js := if js.any (fun j => j.eui == eui) then js.map (fun j => if j.eui = eui then add j else j)
    else js ++ [add { eui := eui, clk := s.ntb.clk }]
  { s with nodes := { s.nodes with joins := js } }

/-- The MIC of a join request has checked (R185, R244, R362): reported to the chain, kept for its election, and answered where a NODE_ADD
waits. -/
def micJoin (w : MicWait) (f : MacFrame) (payload : List Byte) (s : State) : State :=
  let m := marginSample w.rx
  let s := joinReport f.eui (devOf s) m s
  let s := { s with nodes := { s.nodes with joins := s.nodes.joins.map (fun j =>
      if j.eui = f.eui then { j with own := some (w.rx, w.bytes, payload) } else j) } }
  let s := broadcast 0x12 (leBytes 8 f.eui ++ leBytes 2 (unsignedOf 16 m) ++ leBytes 1 (devOf s)) s
  match s.nodes.waits.find? (fun x => x.eui == f.eui && !x.answering) with
  | some x => joinRespond x w.rx f s
  | none => s

/-- JOIN_SEEN (R244). -/
def joinSeen (f : MFrame) (s : State) : State :=
  mrRow 1 0x12 f (joinReport (leAt f.payload 2 8) (leAt f.payload 12 1 % 16) (signedOf 16 (leAt f.payload 10 2))) s

/-- JOIN_ELECTION (R244): 50 ms after the first report, the best margin, the lowest DEV on a tie; the winner delivers the request. -/
def joinElection (eui : BitVec 64) (s : State) : State :=
  match s.nodes.joins.find? (fun j => j.eui == eui.toNat) with
  | none => s
  | some j =>
    let s := reachClk (j.clk + clocksOfNs 50000000) s
    let s := { s with nodes := { s.nodes with joins := s.nodes.joins.filter (fun x => x.eui != eui.toNat) } }
    let best := j.reports.foldl (fun (b : Nat × Int) p => if b.2 < p.2 ∨ (b.2 = p.2 ∧ p.1 < b.1) then p else b) (j.reports.headD (16, 0))
    let s := { s with nodes := { s.nodes with delivered := s.nodes.delivered.filter (fun p => p.1 != j.eui) ++ [(j.eui, best.1, s.ntb.clk)] } }
    match j.own with
    | none => s
    | some (r, bytes, payload) =>
      if best.1 ≠ devOf s then s
      else match parseMac bytes with
        | none => s
        | some f =>
          deliver 0xFFFFFF (uflags none false false false true false) 4 f.keyIndex f.fcnt f.seq 0xFFFFFF (recordBytes r)
            (leBytes 8 j.eui ++ payload) s

/-! ### Relay mode (R216-R219) -/

def relayOn (s : State) : Bool := getB s 0x78030 0
def relayState (s : State) : Nat := getF s 0x78034 1 0

/-- The half-width of the upstream beacon's window, ns (R217). -/
def upHalf (s : State) : Nat := getF s 0x78020 15 0 * us + holdBound s

/-- The first preamble symbol of a received frame, network ns, for a preamble of `pre` bits (R217, log entry 61). -/
def preambleAt (s : State) (r : RxRec) (pre : Nat) : Nat := nsTotal r.stamp - (pre + chSyncLen s r.ch) * (160000 / symbolRate r.mode)

/-- The start of slot UP_DEV of the upstream slotframe after that of a network second, as it reaches this device (R192, R217). -/
def upBeaconAt (s : State) (sec bi slotUs : Nat) : Nat :=
  (sec / bi + 1) * bi * 1000000000 + getF s 0x78030 4 1 * slotUs * us + getF s 0x78038 15 0

/-- An upstream beacon is applied as a correction (R217, R218): through NTB_RATE, which applies at the next second (R53), or by a STEP. -/
def applyUpstream (r : RxRec) (payload : List Byte) (s : State) : State :=
  let t := leAt payload 0 4 * 1000000000 + leAt payload 4 4 % 2 ^ 30
  let bi := leAt payload 10 1 + 1
  let off : Int := (t + getF s 0x78038 15 0 : Nat) - (preambleAt s r (preBits (getF s 0x78014 23 16)) : Int)
  let slot := leAt payload 8 2
  let s := { s with mac := { s.mac with upSlotUs := slot, upBi := bi, upNext := upBeaconAt s (leAt payload 0 4) bi slot } }
  let s := incF 0x78034 31 16 1 (setF 0x78034 5 4 0 (setF 0x78034 1 0 1 s))
  if off.natAbs ≤ getF s 0x78030 15 8 * us ∧ (off = 0 ∨ getF s 0x78030 15 8 ≠ 0) then
    let v := clampInt (-rateMax) rateMax (rdiv (off * 2 ^ 40) (bi * 1000000000))
    setB 0x20060 0 false (shadowPut 0x20060 0x20064 (BitVec.ofInt 32 v) s)
  else
    let s := wr 0x2005C (BitVec.ofNat 32 ((leAt payload 20 2 + 5) * 1000)) s
    stepTo ((s.ntb.net : Int) + off * nsUnit).toNat hostStepped s

/-- A lighthouse beacon heard while searching sets the next window (R190, R218). -/
def upstreamLighthouse (r : RxRec) (payload : List Byte) (s : State) : State :=
  let t0 := preambleAt s r (preBits (getF s 0x78014 31 24))
  { s with mac := { s.mac with upSlotUs := leAt payload 8 2, upBi := leAt payload 10 1 + 1, upNext := t0 + leAt payload 14 1 * 1000000 } }

/-- Whether a beacon or lighthouse beacon comes from the upstream and is taken now (R183, R217, R218). -/
def fromUpstream (s : State) (r : RxRec) (f : MacFrame) : Bool :=
  relayOn s && f.nid == getF s 0x78030 31 16 && leAt f.payload 11 1 % 16 == getF s 0x78030 4 1 &&
    (relayState s == 2 || (f.typ == 0 && relayState s == 1 &&
      decide (((preambleAt s r (preBits (getF s 0x78014 23 16)) : Int) - s.mac.upNext).natAbs ≤ upHalf s)))

/-- UPSTREAM_BEACON_MISSED (R218). -/
def upstreamBeaconMissed (s : State) : State :=
  if !relayOn s ∨ relayState s ≠ 1 then s
  else
    let run := getF s 0x78034 5 4 + 1
    let s := reachNet ((s.mac.upNext + upHalf s) * nsUnit) s
    let s := setF 0x78034 5 4 run { s with mac := { s.mac with upNext := s.mac.upNext + s.mac.upBi * 1000000000 } }
    if run < 3 then s
    else raiseEvt 7 0x129 [] (setF 0x78034 1 0 2 (setB 0x78034 8 true s))

/-- RELAY_CFG_WRITE (R216): with RELAY_EN the servo is off and SRC_EN bit 14 on. -/
def relayCfgWrite (value : Word) (s : State) : State :=
  if bitOf value 0 && getF s 0x20020 13 12 != 0 then setB 0x78034 9 true s
  else
    let was := relayOn s
    let s := wr 0x78030 (value &&& 0xFFFFFF1F) s
    if bitOf value 0 then
      let s := setB 0x20020 14 true (servoOff s)
      if was then s else setF 0x78034 5 4 0 (setF 0x78034 1 0 2 s)
    else setF 0x78034 5 4 0 (setF 0x78034 1 0 0 s)

/-- SLOT_CFG_WRITE (R194). -/
def slotCfgWrite (value : Word) (s : State) : State :=
  let v := fieldOf value 15 0
  if s.ctx.any (fun p => p.2.role == 1) then setB 0x78004 17 true s
  else if !slotUsOk v then setB 0x78004 18 true s
  else wr 0x7800C (BitVec.ofNat 32 v) { s with mac := { s.mac with slotNext := some v } }

/-! ### The MIC check (R182-R187) -/

/-- The key and EUI a waiting frame is checked with. -/
def micKey (s : State) (w : MicWait) (f : MacFrame) : Option (List Byte) × Nat :=
  let key := fun n => if (getCtx s n).key.isEmpty then none else some (getCtx s n).key
  match w.kind with
  | .node n => (key n, (getCtx s n).eui)
  | .inner n => (key n, (getCtx s n).eui)
  | .join => (if (getKey s f.keyIndex).valid then some (getKey s f.keyIndex).key else none, f.eui)
  | .upstream => (if (getKey s f.keyIndex).valid && (getKey s f.keyIndex).usage.testBit 0 then some (getKey s f.keyIndex).key else none, Config.upstreamEui.toNat)

/-- MIC_RESULT (R237): the oldest check completes; without a key it ends KEY_INVALID, with a wrong MIC AUTH_FAIL, and the frame is
dropped. -/
def micOne (s : State) : State :=
  match s.nodes.mics with
  | [] => s
  | w :: ws =>
    let s := { s with nodes := { s.nodes with mics := ws } }
    match parseMac w.bytes with
    | none => s
    | some f =>
      match micKey s w f with
      | (none, _) => countCompletion 2 s
      | (some key, eui) =>
        match macOpen key eui (w.rx.header.testBit 20) f with
        | none => countCompletion 1 s
        | some payload =>
          let s := countCompletion 0 s
          match w.kind with
          | .node n => micNode n w f payload s
          | .inner n => micInner n w f payload s
          | .join => micJoin w f payload s
          | .upstream => applyUpstream w.rx payload s

/-! ### Intake (R138, R203, R235, R236, R252) -/

/-- An entry of the heard table: one for each address, 256 at most, the oldest leaving (R235). -/
def hear (addr mode : Nat) (margin : Int) (s : State) : State :=
  let q := s.nodes.heard.filter (fun p => p.1 != addr)
  let q := if 256 ≤ q.length then q.drop 1 else q
  { s with nodes := { s.nodes with heard := q ++ [(addr, mode, margin)] } }

/-- A reception kept for rescue (R252): by a guest or replica whose window alone holds it; a home keeps its own failed ones (R254). -/
def keepForRescue (r : RxRec) (s : State) : State :=
  let hits := s.ctx.filterMap (fun p =>
    if p.2.role = 2 ∨ p.2.role = 3 ∨ (p.2.role = 1 ∧ r.outcome = 1) then (eventHit s p.1 r).map (fun k => (p.1, k)) else none)
  let keep := fun (h : Nat × Nat) (s : State) => setRun h.1 { getRun s h.1 with kept := (getRun s h.1).kept ++ [(h.2, r)] } s
  let copies := hits.filter (fun h => (getCtx s h.1).role != 1)
  let s := forAll (hits.filter (fun h => (getCtx s h.1).role == 1)) keep s
  match copies with
  | [h] => if getF s 0xB0008 15 8 = 0 then s else keep h s
  | _ => s

/-- A keep-alive presence frame of a node (R203, log entry 48). -/
def keepAlive (n k : Nat) (r : RxRec) (s : State) : State :=
  let s := touch n r s
  let s := gridFrame n r (some k) none (connSettle n r.ch k s)
  if isHome s n then exchange n r false 0 true (advanceK n (matchWindows n r s)) else s

/-- The nodes whose acknowledgement window holds a presence frame of the right ASEQ (R177). -/
def ackHits (s : State) (r : RxRec) : List Nat :=
  (s.ctx.map (fun p => p.1)).filter (fun n =>
    ackHolds s n r && ((headDl s n).map (fun d => d.seq % 4)) == some (r.header / 2 ^ 22 % 4))

/-- A presence frame from a node (R177, R203). -/
def presence (r : RxRec) (s : State) : State :=
  if r.header.testBit 21 then
    match ackHits s r with
    | n :: _ => dlAcked n r (frameEndNs r) (touch n r s)
    | [] => incW 0xB005C s
  else
    match s.ctx.filterMap (fun p => if p.2.role = 0 then none else (eventHit s p.1 r).map (fun k => (p.1, k))) with
    | [h] => keepAlive h.1 h.2 r s
    | _ => incW 0xB005C s

/-- A frame waits for its MIC check. -/
def micPush (r : RxRec) (kind : MicKind) (rescued : Option Nat) (s : State) : State :=
  { s with nodes := { s.nodes with mics := s.nodes.mics ++ [{ rx := r, bytes := r.payload, kind := kind, rescued := rescued }] } }

/-- The channels a node may use now: its CHMAP, and the new one while both are followed (R211, R363). -/
def inMap (s : State) (n ch : Nat) : Bool :=
  let c := getCtx s n
  c.chmap.testBit ch || (match (getRun s n).conn with
    | some x => (connMap c x).testBit ch
    | none => false)

/-- A MAC frame of a node looked up in the directory (R183-R186, R211, R235-R237). -/
def intakeMac (r : RxRec) (rescued : Option Nat) (s : State) : State :=
  match parseMac r.payload with
  | none => incW 0xB0048 s
  | some f =>
    if joinMalformed f false then incW 0xB0048 s
    else if !f.sec then incW 0xB0080 s
    else if f.typ = 4 then
      (if f.keyIndex = 0 ∨ !(getKey s f.keyIndex).valid ∨ !(getKey s f.keyIndex).usage.testBit 1 then incW 0xB0054 s
       else micPush r .join rescued s)
    else match findNode s f.src with
      | none => hear f.src r.mode (marginSample r) (incW 0xB0040 s)
      | some n =>
        if f.keyIndex ≠ 0 then incW 0xB0054 s
        else if !inMap s n r.ch then incW 0xB0058 s
        else micPush r (.node n) rescued s

/-- A frame with DIR = 1 (R236): dropped, unless a relay takes it from its upstream (R183, R218). -/
def intakeForeign (r : RxRec) (s : State) : State :=
  match parseMac r.payload with
  | none => incW 0xB0044 s
  | some f =>
    if (f.typ = 0 ∨ f.typ = 6) ∧ r.header / 8 % 2048 ≠ 0 ∧ fromUpstream s r f then
      (if f.typ = 6 then upstreamLighthouse r f.payload s else if f.sec then micPush r .upstream none s else incW 0xB0080 s)
    else incW 0xB0044 s

/-- An OK record on its way (R203, R235, R236). -/
def intakeOk (r : RxRec) (rescued : Option Nat) (s : State) : State :=
  if r.header.testBit 20 then intakeForeign r s
  else if r.header / 8 % 2048 = 0 then presence r s
  else intakeMac r rescued s

/-! ### Entries that are done (R195, R202, R212, R222, R224, R362) -/

/-- The DONE stamp of an entry, network ns, and its step count. -/
def doneNs (s : State) (e : Nat) : Nat :=
  ((rd s (opBase e + 0x2C)).toNat + 2 ^ 32 * (rd s (opBase e + 0x30)).toNat) * 1000000000 + getF s (opBase e + 0x34) 29 0
def doneStep (s : State) (e : Nat) : Nat := getF s (opBase e + 0x38) 7 0
def opResult (s : State) (e : Nat) : Nat := getF s (opBase e + 0x28) 15 8

/-- The status of an entry's RESULT (R223, R350). -/
def resultStatus (r : Nat) : Nat := [0, 0, 32, 33, 7, 38, 39, 40, 41, 42, 43, 44, 34].getD r 7

/-- A NODE_ADD whose response has radiated completes (R361, R362). -/
def joinDone (tag : Nat) (s : State) : State :=
  match s.nodes.waits.find? (fun w => w.tag == tag) with
  | none => s
  | some w =>
    let c := getCtx s w.ctx
    let s := { s with nodes := { s.nodes with waits := s.nodes.waits.filter (fun x => x.tag != tag) } }
    finishPend (fun p => p.opcode == 0x0501 && p.tag == tag) 0
      (leBytes 3 c.addr ++ leBytes 1 (devOf s) ++ leBytes 4 c.anchorS ++ leBytes 2 c.anchorSlot ++ leBytes 1 c.u0 ++ leBytes 1 0) s

/-- What follows from an entry of a device owner that is done. -/
def useDone (e : Nat) (s : State) : State :=
  let res := opResult s e
  let sent := (getOp s e).sent
  match getUse s e with
  | .window n k =>
    let s := setUse e .none s
    if ((getRun s n).win.map (fun w => w.k)) == some k && (usedFor s (isWindowOf n)).isEmpty then
      (if res = 12 then windowMissed n s else advanceK n s)
    else s
  | .ackWindow n => let s := setUse e .none s; if res = 1 then s else dlNoAck n s
  | .downlink n => let s := setUse e .none s; if sent then dlSent n (doneNs s e) (doneStep s e) s else s
  | .joinResponse tag =>
    let s := setUse e .none s
    if sent then joinDone tag s
    else { s with nodes := { s.nodes with waits := s.nodes.waits.map (fun w => if w.tag = tag then { w with answering := false } else w) } }
  | .broadcast tag _ fcnt =>
    finishPend (fun p => p.opcode == 0x0603 && p.tag == tag) (resultStatus res)
      (if sent then leBytes 8 (doneNs s e / 1000000000) ++ leBytes 4 (doneNs s e % 1000000000) ++ leBytes 1 (doneStep s e) ++
          leBytes 1 (getF s (opBase e + 0x38) 11 8) ++ leBytes 2 0 ++ leBytes 4 fcnt
        else []) (setUse e .none s)
  | _ => setUse e .none s

/-- Whether a window without an entry has closed with nothing left to judge on its channels (R222, R226). -/
def winOver (s : State) (chs : List Nat) (w : EventWin) : Bool :=
  decide (w.opens + w.dur < anchNow s) && !(chs.any (fun ch => undecided s ch true (fun _ anch => w.holds (nsTotal anch))))

/-- The windows without an entry that have passed (R226): judged like the others. -/
def internalMissed (s : State) : State :=
  let s := forAll (s.nodes.runs.filter (fun p => p.2.win.any (fun w => w.internal && winOver s (chansOf s p.1 w.k) w)))
    (fun p => windowMissed p.1) s
  forAll (s.nodes.runs.filter (fun p => p.2.ackWin.any (winOver s [p.2.exCh])))
    (fun p s => dlNoAck p.1 (setRun p.1 { getRun s p.1 with ackWin := none } s)) s

/-- Closed windows judged, and every done entry of a device owner followed up. -/
def settle (s : State) : State :=
  let s := forAll (s.ops.filter (fun p => p.2.closed)) (fun p => windowJudge p.1) s
  let s := forAll s.uses (fun p s => if opState s p.1 = 4 then useDone p.1 s else s) s
  coexOutputs (internalMissed s)

/-- Whether the frame of a use carries a NID (R526). -/
def carriesNid : OpUse → Bool
  | .beacon | .rescueBeacon | .lighthouse | .broadcast _ _ _ | .downlink _ | .joinResponse _ => true
  | _ => false

/-- OPQ_NID_WRITE (R229, R526): 0xFFFF is discarded; with 0x0000 no frame that carries a NID is sent any more, and the entries that wait
with one end ABORTED (log entry 152). -/
def opqNidWrite (value : Word) (s : State) : State :=
  let v := fieldOf value 15 0
  if v = 0xFFFF then setB 0x78004 18 true s
  else
    let s := wr 0x78044 (value &&& 0xFFFF) s
    if v ≠ 0 then s
    else settle (forAll ((usedFor s carriesNid).filter (fun e => !(getOp s e).radiating)) opCancel s)

/-- OPQ_RELEASE (R224, R227): the owner gives a done entry back. -/
def opqRelease (op : Fin 128) (s : State) : State :=
  let n := op.val
  let s := settle s
  if opState s n = 4 ∧ opOwner s n ≠ 17 then releaseEntry n (setUse n .none s) else s

/-- A host RX_WINDOW matches the first OK reception of its channel and mode whose stamp it holds (R222). -/
def hostMatch (r : RxRec) (s : State) : State :=
  if r.outcome ≠ 0 then s
  else forAll ((List.range 128).filter (fun n => decide (hostFirst s ≤ n) && opOwner s n == 17 && inWindow s n r.ch r.stamp r.anch && opMode s n == r.mode))
    (fun n => windowMatch n r) s

/-- What a channel has just recorded: a host window matches, and a presence acknowledgement is judged at its header (R177, R222). -/
def recorded (before : Nat) (s : State) : State :=
  match s.intake[before]? with
  | none => settle s
  | some r =>
    let s := hostMatch r s
    if r.outcome = 0 ∧ r.header / 8 % 2048 = 0 ∧ r.header.testBit 21 ∧ !r.header.testBit 20 then
      settle (presence r { s with intake := s.intake.eraseIdx before })
    else settle s

/-- RECORD_INTAKE (R138, R235, R236): the oldest record is routed, kept for rescue, or dropped. -/
def recordIntake (s : State) : State :=
  match s.intake with
  | [] => s
  | r :: rs =>
    let s := { s with intake := rs }
    let s := if r.outcome = 2 then { s with nodes := { s.nodes with abandoned := s.nodes.abandoned + 1 } } else keepForRescue r s
    settle (if r.outcome = 0 then intakeOk r none s else s)

def micResult (s : State) : State := settle (micOne s)

/-- NODE_ADD_WAIT_EXPIRY (R362). -/
def nodeAddWaitExpiry (tag : BitVec 16) (s : State) : State :=
  match s.nodes.waits.find? (fun w => w.tag == tag.toNat) with
  | none => s
  | some w =>
    match w.expires with
    | none => s
    | some t =>
      let s := reachClk t s
      let c := getCtx s w.ctx
      let s := { s with nodes := { s.nodes with waits := s.nodes.waits.filter (fun x => x.tag != w.tag) } }
      let s := if c.replDev = devOf s then s else
        sendMr 4 0x40 c.replDev (leBytes 1 0 ++ leBytes 3 0 ++ ctxBytes { c with role := 0 } ++ leBytes 24 0) s
      finishPend (fun p => p.opcode == 0x0501 && p.tag == w.tag) 36 [] (setCtx w.ctx {} (setRun w.ctx {} s))

def execHeaderCheck (ch : Fin 64) (slot : Fin 2) (h : Word) (s : State) : Res := .next (recorded s.intake.length (headerCheck ch slot h s))
def execPayloadCrc (ch : Fin 64) (slot : Fin 2) (soft : List Byte) (s : State) : Res :=
  .next (recorded s.intake.length (payloadCrc ch slot soft s))
def execRedecodeEnd (ch : Fin 64) (slot : Fin 2) (soft : List Byte) (s : State) : Res :=
  .next (recorded s.intake.length (redecodeEnd ch slot soft s))
def execImmediateAck (s : State) : Res := .next (settle (immediateAck s))
def execNodeEventSchedule (ctx : BitVec 16) (s : State) : Res := .next (settle (nodeEventSchedule ctx s))
def execOpqFull (ctx : BitVec 16) (s : State) : Res := .next (opqFull ctx s)
def execSupervisionTimeout (ctx : BitVec 16) (s : State) : Res := .next (supervisionTimeout ctx s)
def execUpstreamBeaconMissed (s : State) : Res := .next (upstreamBeaconMissed s)
def execSlotCfgWrite (value : Word) (s : State) : Res := .next (slotCfgWrite value s)
def execRelayCfgWrite (value : Word) (s : State) : Res := .next (relayCfgWrite value s)
def execOpqNidWrite (value : Word) (s : State) : Res := .next (opqNidWrite value s)
def execOpqRelease (op : Fin 128) (s : State) : Res := .next (opqRelease op s)
def execRecordIntake (s : State) : Res := .next (recordIntake s)
def execMicResult (s : State) : Res := .next (micResult s)
def execJoinSeen (f : MFrame) (s : State) : Res := .next (joinSeen f s)
def execJoinElection (eui : BitVec 64) (s : State) : Res := .next (joinElection eui s)
def execDownlinkLifetimeExpiry (tag : BitVec 16) (s : State) : Res := .next (downlinkLifetimeExpiry tag s)
def execNodeAddWaitExpiry (tag : BitVec 16) (s : State) : Res := .next (nodeAddWaitExpiry tag s)

def execNtbSet (s : State) : Res := .next (settle (ntbSet s))
def execNtbStep (s : State) : Res := .next (settle (ntbStep s))
def execNtbSecond (s : State) : Res := .next (ntbSecond s)
def execLockDue (op : Fin 128) (s : State) : Res := .next (settle (lockDue op s))
def execDriverEnable (tx : Fin 2) (s : State) : Res := .next (settle (driverEnable tx s))
def execCarrierStart (op : Fin 128) (s : State) : Res := .next (settle (carrierStart op s))
def execRampDownEnd (tx : Fin 2) (s : State) : Res := .next (settle (rampDownEnd tx s))
def execTxLate (op : Fin 128) (s : State) : Res := .next (settle (txLate op s))
def execTxpEnWrite (tx : Fin 2) (value : Word) (s : State) : Res := .next (settle (txpEnWrite tx value s))
def execCoexGntSample (tx : Fin 2) (s : State) : Res := .next (settle (coexGntSample tx s))
def execCoexGntEdge (level : Bool) (s : State) : Res := .next (settle (coexGntEdge level s))
def execLockLost (n : Fin 4) (s : State) : Res := .next (settle (lockLost n s))
def execLbtAssess (op : Fin 128) (energy : BitVec 16) (s : State) : Res := .next (settle (lbtAssess op energy s))
def execMaskEval (op : Fin 128) (bins : List (Int × BitVec 16)) (s : State) : Res := .next (settle (maskEval op bins s))
def execRxWindowClose (op : Fin 128) (s : State) : Res := .next (settle (rxWindowClose op s))
def execOpqCancel (op : Fin 128) (s : State) : Res := .next (settle (opqCancel op s))

end Sys2Proof.Machine
end

