-- ==== Sys2Proof/Machine/Placement.lean ====
section
/-! DEFINITION. Where contexts live and how they move: loads and moves between Fronds, margins and elections, hand-over, replicas and
failover, guests, rescue, and the Mooring frames that carry them (R234, R235, R239-R256, R264, R300). -/

namespace Sys2Proof.Machine

/-! ### Copies and replicas (R247, R248, R264, R300) -/

/-- A copy held elsewhere is released: the holder keeps it as GUEST or frees it (R247, log entry 57). -/
def releaseCopy (n dest : Nat) (s : State) : State :=
  let c := { getCtx s n with role := 3 }
  sendMr 4 0x40 dest (leBytes 1 3 ++ leBytes 3 0 ++ ctxBytes c ++ leBytes 24 0) s

/-- The neighbour chosen for a replica (R247): one that holds a copy, else the one on MRE, else the one on MRW. -/
def chooseRepl (neigh holders : List Nat) : Option Nat := (neigh.find? (fun d => holders.contains d)).orElse (fun _ => neigh.head?)

/-- The neighbours of this device on UP ports, MRE first. -/
def neighbours (s : State) : List Nat := [0, 1].filterMap (fun p => if portUp s p && peerDev s p != 255 then some (peerDev s p) else none)

/-- The neighbours of another device as its HELLO gave them. -/
def peerNeighbours (s : State) (d : Nat) : List Nat :=
  let x := getPeer s d
  (if x.portE = 1 ∧ x.neighE < 16 then [x.neighE] else []) ++ (if x.portW = 1 ∧ x.neighW < 16 then [x.neighW] else [])

/-- No replica is made: REPLICA_NONE and REPL_DEV as this device (R234, R247). -/
def noReplica (n : Nat) (s : State) : State :=
  let s := commitCtx n { getCtx s n with replDev := devOf s } s
  raiseEvt 0xD 0x136 (leBytes 3 (getCtx s n).addr) (setB 0xB0010 9 true s)

/-- The replica of a HOME context made (R247, R248, R300). -/
def makeReplica (n : Nat) (holders : List Nat) (s : State) : State :=
  if !getB s 0xB0000 1 then commitCtx n { getCtx s n with replDev := devOf s } s
  else match chooseRepl (neighbours s) holders with
    | none => noReplica n s
    | some d =>
      if (chainKey s).isNone then chainKeyMissing (noReplica n s)
      else
        let s := commitCtx n { getCtx s n with replDev := d } s
        sendContext n 2 d (setRun n { getRun s n with reserve := (getCtx s n).dnFcnt + 64 } s)

/-- The replicas that are missing, made when a port comes UP (R247). -/
def makeMissing (s : State) : State :=
  if !getB s 0xB0000 1 ∨ (neighbours s).isEmpty then s
  else forAll ((s.ctx.filter (fun p => p.2.role == 1 && p.2.replDev == devOf s)).map (fun p => p.1)) (makeReplica · []) s

/-- Whether a copy heard a frame of its node within GUEST_AGE (R234, R247). -/
def heardLately (s : State) (c : Ctx) : Bool :=
  let age := getF s 0xB000C 15 0
  age == 0 || decide (secOf s.ntb.net ≤ c.lastS + 60 * age)

/-- A context slot becomes FREE. -/
def freeCtx (n : Nat) (s : State) : State :=
  let s := forAll (usedFor s (isOf n)) (fun e s => opCancel e (setUse e .none s)) s
  setCtx n {} (setRun n {} s)

/-! ### Loads and moves (R239, R240) -/

def joinFrond (s : State) : Nat := getF s 0xB0010 3 0
def frondContexts (s : State) (f : Nat) : List Nat := (s.ctx.filter (fun p => p.2.role != 0 && p.2.frond == f)).map (fun p => p.1)

/-- The Fronds in service, the fewest contexts first; `skip` is left out. -/
def leastLoaded (s : State) (skip : Nat) (more : List Nat) : List Nat :=
  let n := fun f => (frondContexts s f).length + (more.filter (· == f)).length
  ((List.range 16).filter (fun f => f != skip && !frdOut s f)).mergeSort (fun a b => decide (n a ≤ n b))

/-- The join Frond is chosen: the Frond in service with the fewest contexts (R238). -/
def joinChoose (s : State) : State := setF 0xB0010 3 0 ((leastLoaded s 16 []).headD 0) s

/-- A rebalance from a Frond (R239). -/
def rebalance (loads : List Nat) (src : Nat) (s : State) : State :=
  let ls := loads.getD src 0
  match ((List.range 16).filter (fun f => f != src && f != joinFrond s && !frdOut s f)).mergeSort (fun a b => decide (loads.getD a 0 ≤ loads.getD b 0)) with
  | [] => s
  | dst :: _ =>
    let ld := loads.getD dst 0
    let own := (frondContexts s src).mergeSort (fun a b => decide ((getCtx s b).upCount ≤ (getCtx s a).upCount))
    let n := min 1024 (ceilDiv ((ls - ld) * own.length) (2 * max 1 ls))
    let s := setF (0xB0100 + 8 * src) 15 8 0 s
    let s := { s with nodes := { s.nodes with loadRuns := tabSet (fun _ => 0) s.nodes.loadRuns src 0
                                              moves := s.nodes.moves ++ (own.take n).map (fun c => (c, dst))
                                              moveClk := if s.nodes.moves.isEmpty then s.ntb.clk else s.nodes.moveClk } }
    raiseEvt 0xD 0x134 (leBytes 1 src ++ leBytes 1 dst ++ leBytes 2 n) (onlyIf (decide (0 < n)) (setB 0xB0010 16 true) s)

/-- LOAD_WINDOW (R239, R255): the loads of the sixteen Fronds in the window of 100 ms that ends. -/
def loadWindow (loads : List Byte) (s : State) : State :=
  let s := reachClk (s.nodes.loadClk + clocksOfNs 100000000) s
  let s := { s with nodes := { s.nodes with loadClk := s.ntb.clk } }
  let ls := (List.range 16).map (fun f => min 100 (loads.getD f 0).toNat)
  let thr := getF s 0xB0000 15 8
  let s := forAll (List.range 16) (fun f s =>
    let l := ls.getD f 0
    let run := if thr < l then tabGet (fun _ => 0) s.nodes.loadRuns f + 1 else 0
    wr (0xB0100 + 8 * f) (BitVec.ofNat 32 (l + 256 * min 255 run))
      { s with nodes := { s.nodes with loadRuns := tabSet (fun _ => 0) s.nodes.loadRuns f run } }) s
  if !getB s 0xB0000 0 ∨ inWatch s then s
  else
    let hold := 10 * max 1 (getF s 0xB0000 23 16)
    forAll ((List.range 16).filter (fun f => decide (hold ≤ tabGet (fun _ => 0) s.nodes.loadRuns f))) (rebalance ls) s

/-- Whether the owning Frond holds neither a receive record nor a cipher request of a node (R240). -/
def nodeIdle (s : State) (n : Nat) : Bool :=
  !(s.nodes.mics.any (fun w => w.kind == .node n || w.kind == .inner n)) &&
    !(s.cipher.reqs.any (fun r => dKey r.desc == 256 + n)) && !(s.cipher.waiting.any (fun w => dKey w.2 == 256 + n))

/-- A context leaves the list of moves, moved or passed over; the next one's 10 ms begin (R240). -/
def moveOver (n dest : Nat) (s : State) : State :=
  let ms := s.nodes.moves.erase (n, dest)
  onlyIf ms.isEmpty (setB 0xB0010 16 false) { s with nodes := { s.nodes with moves := ms, moveClk := s.ntb.clk } }

/-- CONTEXT_MOVE (R240): a context that stays busy for 10 ms is left where it is. -/
def contextMove (ctx : BitVec 16) (dest : Fin 16) (s : State) : State :=
  let n := ctx.toNat
  if !s.nodes.moves.contains (n, dest.val) then s
  else if !nodeIdle s n then
    (if s.nodes.moveClk + clocksOfNs 10000000 ≤ s.ntb.clk then moveOver n dest.val s else s)
  else
    let s := setCtx n { getCtx s n with frond := dest.val } (moveOver n dest.val s)
    incW 0xB0074 (forAll (usedFor s (isOf n)) (fun e => setF (opBase e + 0x20) 4 0 dest.val) s)

/-! ### Margins and election (R235, R242-R245) -/

/-- Lists cut into pieces of at most `k`. -/
def pieces {α : Type} (k : Nat) : Nat → List α → List (List α)
  | 0, _ => []
  | fuel + 1, xs => if xs.length ≤ k then [xs] else xs.take k :: pieces k fuel (xs.drop k)

/-- MARGIN_PERIOD (R235, R242), so many seconds after the last: margin reports to the homes, the heard table to the chain. -/
def marginPeriod (s : State) : State :=
  let s := reachClk (s.nodes.marginClk + clocksOfNs (max 1 (getF s 0xB0004 23 16) * 1000000000)) s
  let s := { s with nodes := { s.nodes with marginClk := s.ntb.clk } }
  let copies := s.ctx.filter (fun p => (p.2.role == 2 || p.2.role == 3) && p.2.homeDev != devOf s)
  let homes := (copies.map (fun p => p.2.homeDev)).eraseDups
  let s := forAll homes (fun d s =>
    let mine := copies.filter (fun p => p.2.homeDev == d && (getRun s p.1).heard)
    forAll (pieces 822 80 mine) (fun ps s =>
      sendMr 1 0x10 d (leBytes 2 ps.length ++ ps.flatMap (fun p => leBytes 3 p.2.addr ++ leBytes 2 (unsignedOf 16 p.2.marginOwn))) s) s) s
  let s := forAll s.nodes.runs (fun p s => setRun p.1 { getRun s p.1 with heard := false } s) s
  let h := s.nodes.heard
  broadcast 0x11 (leBytes 2 h.length ++ h.flatMap (fun p => leBytes 3 p.1 ++ leBytes 1 p.2.1 ++ leBytes 2 (unsignedOf 16 p.2.2)))
    { s with nodes := { s.nodes with heard := [] } }

/-- One report of a margin at the home (R242). -/
def chalReport (d : Nat) (m : Int) (hyst : Int) (c : Ctx) : Ctx :=
  let judge := fun (c : Ctx) =>
    { c with chalMargin := m, chalRun := if c.marginOwn + hyst ≤ m then min (c.chalRun + 1) 3 else 0 }
  if !c.chalValid ∨ (d ≠ c.chalDev ∧ c.chalMargin < m) then judge { c with chalDev := d, chalRun := 0, chalValid := true }
  else if d ≠ c.chalDev then c
  else judge c

/-- A hand-over is decided (R242, R245, R300). -/
def handDecide (n : Nat) (s : State) : State :=
  let c := getCtx s n
  let r := getRun s n
  if getB s 0xB0000 3 && r.hand.isNone && decide (max 1 (getF s 0xB0004 25 24) ≤ c.chalRun) &&
      decide (c.homeSince + getF s 0xB0004 15 0 ≤ secOf s.ntb.net) then
    if (chainKey s).isNone then chainKeyMissing s
    else setRun n { r with hand := some { dest := c.chalDev, k := eventFrom s n (anchNow s + getF s 0xB000C 31 24 * 100000000) % 2 ^ 32 } } s
  else s

/-- A device is remembered as a holder of a GUEST copy (R243). -/
def addGuest (n d : Nat) (s : State) : State :=
  let r := getRun s n
  setRun n { r with guests := (r.guests.filter (· != d)) ++ [d] } s

/-- MARGIN_REPORT (R242, R264): a reporter that is not the replica holds a GUEST copy (R243). -/
def marginReport (f : MFrame) (s : State) : State :=
  mrRow 1 0x10 f (fun s =>
    forAll (List.range (leAt f.payload 0 2)) (fun i s =>
      match findNode s (leAt f.payload (2 + 5 * i) 3) with
      | none => s
      | some n =>
        if !isHome s n ∨ f.payload.length < 7 + 5 * i then s
        else
          let m := signedOf 16 (leAt f.payload (5 + 5 * i) 2)
          let s := if (getCtx s n).replDev = mrSrc f then s else addGuest n (mrSrc f) s
          handDecide n (commitCtx n (chalReport (mrSrc f) m (4 * getF s 0xB0000 27 24) (getCtx s n)) s)) s) s

/-- HEARD_TABLE (R243, R300): a GUEST copy for each node of this home heard well enough. -/
def heardTable (f : MFrame) (s : State) : State :=
  mrRow 1 0x11 f (fun s =>
    forAll (List.range (leAt f.payload 2 2)) (fun i s =>
      match findNode s (leAt f.payload (4 + 6 * i) 3) with
      | none => s
      | some n =>
        let m := signedOf 16 (leAt f.payload (8 + 6 * i) 2)
        if !isHome s n ∨ f.payload.length < 10 + 6 * i ∨ m < 4 * signedOf 8 (getF s 0xB000C 23 16) then s
        else if (chainKey s).isNone then chainKeyMissing s
        else sendContext n 3 (mrSrc f) (addGuest n (mrSrc f) s)) s) s

/-! ### Hand-over (R245-R247) -/

/-- The remaining lifetime of a downlink, ms; 0 for none. -/
def lifeLeft (s : State) (d : Downlink) : Nat :=
  match d.expires with
  | none => 0
  | some t => max 1 (ceilDiv ((t - s.ntb.clk) * 100000) (65536 * 1000000))

/-- The pending downlinks of a node sent to its new home (R245, R250, log entry 55). -/
def sendDownlinks (n dest : Nat) (s : State) : State :=
  forAll (getRun s n).dls (fun d s =>
    sendMr 4 0x41 dest (leBytes 3 (getCtx s n).addr ++ leBytes 2 d.tag ++ leBytes 4 (lifeLeft s d) ++ leBytes 1 d.flags ++ d.data) s) s

/-- Node commands that waited for a hand-over to end (R246) are run again. -/
def unpark (n : Nat) (s : State) : State :=
  let go := s.nodes.parked.filter (fun p => p.1 == n)
  { s with nodes := { s.nodes with parked := s.nodes.parked.filter (fun p => p.1 != n) }
           keeper := { s.keeper with reqs := s.keeper.reqs ++ go.map (fun p => p.2) } }

/-- A NODE_CONN in progress as its node is handed over, for which R264 has no frame (log entry 63): a change that the node has
acknowledged is in force from the new home's first event; any other ends NO_ACK. -/
def connHanded (n : Nat) (s : State) : State :=
  match (getRun s n).conn with
  | none => s
  | some x =>
    if x.acked then connInForce n x s
    else finishTag 0x0505 x.dl.tag x.dl.origin 35 [] (setRun n { getRun s n with conn := none } s)

/-- Event k - 1 of a hand-over has run and its exchange has ended (R245). -/
def handReady (s : State) (n : Nat) (h : HandOver) : Bool :=
  decide (((getCtx s n).k + 2 ^ 32 - h.k) % 2 ^ 32 < 2 ^ 31) && (usedFor s (isOf n)).isEmpty && (getRun s n).win.isNone &&
    (getRun s n).ackWin.isNone

/-- FINAL_SEND (R245): event k - 1 has ended; the context, FINAL and the pending downlinks go out, and the node is in transit. FINAL names
the next event, which is k unless a new anchor has moved the counter past it. -/
def finalSend (ctx : BitVec 16) (s : State) : State :=
  let n := ctx.toNat
  match (getRun s n).hand with
  | none => s
  | some h =>
    if h.sent ∨ (getCtx s n).role ≠ 1 ∨ !handReady s n h then s
    else
      let s := connHanded n s
      let c := getCtx s n
      let s := setRun n { getRun s n with hand := some { h with k := c.k, sent := true, clk := s.ntb.clk } } (commitCtx n { c with transit := true } s)
      let c := getCtx s n
      sendDownlinks n h.dest (sendMr 1 0x13 h.dest (leBytes 3 c.addr ++ leBytes 4 c.k ++ leBytes 4 c.gen) (sendContext n 1 h.dest s))

/-- The reply about a hand-over: 0x14 FINAL_ACK or 0x16 FINAL_NAK. -/
def finalReply (typ addr gen dest : Nat) (s : State) : State := sendMr 1 typ dest (leBytes 3 addr ++ leBytes 4 gen) s

/-- A new home tells every reachable device, so that the holders of copies follow it (R233, R243; log entry 154). -/
def tellHolders (n : Nat) (s : State) : State :=
  let c := getCtx s n
  let body := leBytes 3 c.addr ++ leBytes 4 c.gen ++ leBytes 4 c.upFcnt ++ leBytes 4 c.upWin ++ leBytes 4 (getRun s n).reserve
  forAll ((List.range 16).filter (fun d => d != devOf s && reachable s d)) (sendMr 1 0x18 · body) s

/-- A FINAL that waits for its CONTEXT is kept, or dropped (R245). -/
def keepFinal (addr k gen src : Nat) (s : State) : State :=
  { s with nodes := { s.nodes with finals := s.nodes.finals.filter (fun x => x.1 != addr) ++ [(addr, k, gen, src)] } }
def dropFinal (addr : Nat) (s : State) : State :=
  { s with nodes := { s.nodes with finals := s.nodes.finals.filter (fun x => x.1 != addr) } }

/-- The new home commits (R245, R247): it holds the context at the GEN of FINAL. -/
def commitFinal (n k gen src : Nat) (s : State) : State :=
  let c := getCtx s n
  let s := commitCtx n { c with role := 1, transit := false, homeSince := secOf s.ntb.net % 2 ^ 32, chalDev := 0, chalRun := 0,
                                chalValid := false, chalMargin := 0, homeDev := devOf s, k := k } (dropFinal c.addr s)
  let s := raiseEvt 0xD 0x132 (leBytes 3 c.addr ++ leBytes 1 src ++ leBytes 1 (devOf s)) (incW 0xB007C s)
  let s := finalReply 0x14 c.addr gen src (setRun n { getRun s n with reserve := c.dnFcnt + 64, guests := [] } s)
  let s := if getB s 0xB0000 1 && chooseRepl (neighbours s) [src, c.replDev] == some src then commitCtx n { getCtx s n with replDev := src } s
    else makeReplica n [src, c.replDev] s
  tellHolders n s

/-- FINAL (R245): the new home commits when it holds the context at that GEN, which may come after it. -/
def finalFrame (f : MFrame) (s : State) : State :=
  mrRow 1 0x13 f (fun s =>
    let addr := leAt f.payload 0 3
    let k := leAt f.payload 3 4
    let gen := leAt f.payload 7 4
    match findNode s addr with
    | none => keepFinal addr k gen (mrSrc f) s
    | some n =>
      if isHome s n then finalReply 0x14 addr gen (mrSrc f) s
      else if (getCtx s n).gen ≠ gen then keepFinal addr k gen (mrSrc f) s
      else commitFinal n k gen (mrSrc f) s) s

/-- A context has been stored: a FINAL that waited for it at this GEN commits it (R245). -/
def finalDue (addr : Nat) (s : State) : State :=
  match findNode s addr, s.nodes.finals.find? (fun x => x.1 == addr) with
  | some n, some (_, k, gen, src) => if !isHome s n && (getCtx s n).gen == gen then commitFinal n k gen src s else s
  | _, _ => s

/-- The pending downlink commands of a node that runs elsewhere now (R246, R357): where CANCEL finds them. -/
def movePends (n dest : Nat) (s : State) : State :=
  { s with keeper := { s.keeper with pend := s.keeper.pend.map (fun p =>
      if p.opcode = 0x0601 ∧ p.obj = n ∧ p.info = [] then { p with info := leBytes 1 dest } else p) } }

/-- FINAL_ACK (R245, R247): the old home takes its new role. -/
def finalAck (f : MFrame) (s : State) : State :=
  mrRow 1 0x14 f (fun s =>
    match findNode s (leAt f.payload 0 3) with
    | none => s
    | some n =>
      let c := getCtx s n
      let r := getRun s n
      match r.hand with
      | none => s
      | some h =>
        if !c.transit ∨ !h.sent then s
        else
          let me := devOf s
          let repl := chooseRepl (peerNeighbours s h.dest) [me, c.replDev]
          let role := if getB s 0xB0000 1 && repl == some me then 2 else if heardLately s c then 3 else 0
          let s := incW 0xB0078 s
          let s := if c.replDev ≠ me ∧ repl ≠ some c.replDev then releaseCopy n c.replDev s else s
          let s := movePends n h.dest (setRun n { r with hand := none, dls := [], win := none, guests := [] } s)
          let s := if role = 0 then setCtx n {} (setRun n {} s)
            else setCtx n { c with transit := false, role := role, homeDev := h.dest, replDev := repl.getD h.dest, dlPend := 0, dlTries := 0 } s
          unpark n s) s

/-- FINAL_ACK_TIMEOUT (R245): 50 ms after FINAL. -/
def finalAckTimeout (ctx : BitVec 16) (s : State) : State :=
  let n := ctx.toNat
  match (getRun s n).hand with
  | none => s
  | some h =>
    let c := getCtx s n
    if c.transit && h.sent then sendMr 1 0x15 h.dest (leBytes 3 c.addr ++ leBytes 4 c.gen) (reachClk (h.clk + clocksOfNs 50000000) s) else s

/-- FINAL_QUERY (R245, R264): a device that answers that it has not committed does not commit any more. -/
def finalQuery (f : MFrame) (s : State) : State :=
  mrRow 1 0x15 f (fun s =>
    let addr := leAt f.payload 0 3
    let home := match findNode s addr with
      | some n => isHome s n
      | none => false
    finalReply (if home then 0x14 else 0x16) addr (leAt f.payload 3 4) (mrSrc f) (dropFinal addr s)) s

/-- FINAL_NAK (R245): the old home stays home from event k + 1. -/
def finalNak (f : MFrame) (s : State) : State :=
  mrRow 1 0x16 f (fun s =>
    match findNode s (leAt f.payload 0 3) with
    | none => s
    | some n =>
      let c := getCtx s n
      match (getRun s n).hand with
      | none => s
      | some h =>
        if !c.transit ∨ !h.sent then s
        else unpark n (commitCtx n { c with transit := false, k := (h.k + 1) % 2 ^ 32, missed := min 65535 (c.missed + 1) }
          (setRun n { getRun s n with hand := none } s))) s

/-! ### Replicas, failover, guests (R234, R247-R250) -/

/-- GEN `a` is newer than `b`: a signed difference modulo 2^32 (R250). -/
def newerGen (a b : Nat) : Bool := a != b && decide ((a + 2 ^ 32 - b) % 2 ^ 32 < 2 ^ 31)

/-- Of two homes the one with the lower GEN becomes GUEST and sends its pending downlinks to the winner (R250). -/
def yieldTo (n dest : Nat) (s : State) : State :=
  let s := sendDownlinks n dest s
  let s := forAll (usedFor s (isOf n)) (fun e s => opCancel e (setUse e .none s)) s
  setCtx n { getCtx s n with role := 3, homeDev := dest, transit := false, dlPend := 0, dlTries := 0 }
    (movePends n dest (setRun n { getRun s n with dls := [], win := none, ackWin := none, hand := none, guests := [] } s))

/-- COUNTER_UPDATE (R233, R248): a copy takes the counters and follows their sender as its home. -/
def counterUpdate (f : MFrame) (s : State) : State :=
  mrRow 1 0x18 f (fun s =>
    match findNode s (leAt f.payload 0 3) with
    | none => s
    | some n =>
      let c := getCtx s n
      let gen := leAt f.payload 3 4
      if c.role = 1 then (if newerGen gen c.gen then yieldTo n (mrSrc f) s else s)
      else setCtx n { c with gen := gen, homeDev := mrSrc f, upFcnt := leAt f.payload 7 4, upWin := leAt f.payload 11 4, dnFcnt := leAt f.payload 15 4 } s) s

/-- REPLICA_PROMOTE (R249): FAILOVER_WAIT after the device became unreachable. -/
def replicaPromote (dev : Fin 16) (s : State) : State :=
  let d := dev.val
  if reachable s d then s
  else
    let ns := (s.ctx.filter (fun p => p.2.role == 2 && p.2.homeDev == d)).map (fun p => p.1)
    if ns.isEmpty then s
    else
      let s := reachClk ((getPeer s d).lost + clocksOfNs (getF s 0xB0004 31 28 * 1000000000)) s
      let s := forAll ns (fun n s =>
        let c := getCtx s n
        let s := setCtx n { c with role := 1, gen := (c.gen + 65536) % 2 ^ 32, homeSince := secOf s.ntb.net % 2 ^ 32, homeDev := devOf s,
                                   k := eventFrom s n (anchNow s) % 2 ^ 32 } s
        tellHolders n (makeReplica n [] (setRun n { getRun s n with win := none } s))) s
      raiseEvt 0xD 0x133 (leBytes 1 d ++ leBytes 3 0 ++ leBytes 4 ns.length) s

/-- GUEST_AGE_EXPIRY (R234). -/
def guestAgeExpiry (ctx : BitVec 16) (s : State) : State :=
  let n := ctx.toNat
  let c := getCtx s n
  let age := getF s 0xB000C 15 0
  if c.role ≠ 3 ∨ age = 0 then s else freeCtx n (reachNet ((c.lastS + 60 * age) * secUnit) s)

/-- FRD_LOOKUP (R255). -/
def frdLookup (value : Word) (s : State) : State :=
  let r := match findNode s (fieldOf value 23 0) with
    | some n => n + 65536 * (getCtx s n).frond + 2 ^ 20 * (getCtx s n).role + 2 ^ 24 * (getCtx s n).homeDev + 2 ^ 31
    | none => 0
  wr 0xB0028 (BitVec.ofNat 32 r) s

/-! ### Contexts received (R233, R234, R250, R251, R300, R430) -/

/-- A context taken into a slot (R233, R238): what is this device's own stays. -/
def storeCtx (n role : Nat) (c : Ctx) (key : List Byte) (s : State) : State :=
  let o := getCtx s n
  let same := o.role != 0 && o.addr == c.addr
  let c := { c with role := role, transit := false, key := key, frond := if same then o.frond else frondHome s c.addr }
  let c := if same then { c with rssiLast := o.rssiLast, marginOwn := o.marginOwn, oow := o.oow, lastS := max o.lastS c.lastS } else c
  let c := if role == 1 then { c with resync := true, homeDev := devOf s } else c
  let s := { s with nodes := { s.nodes with lost := s.nodes.lost.filter (fun x => x.2.1 != c.addr) } }
  let s := setRun n (if same then getRun s n else {}) (setCtx n c s)
  if role == 1 then setRun n { getRun s n with reserve := c.dnFcnt + 64 } s else s

/-- The role a received context takes (R245, R247, R251). -/
def takenRole (s : State) (role : Nat) (c : Ctx) (old : Option Nat) : Nat :=
  let was := (old.map (fun n => (getCtx s n).role)).getD 0
  let lost := (s.nodes.lost.find? (fun x => x.2.1 == c.addr)).map (fun x => x.2.2)
  if role = 1 then (if lost = some 1 ∨ (was = 0 ∧ c.homeDev = devOf s) then 1 else if was = 0 then 3 else was)
  else if role = 3 ∧ was = 2 then
    (match old with
     | some n => if heardLately s (getCtx s n) then 3 else 0
     | none => 3)
  else role

/-- A replica that cannot be made for want of a slot (R234): REPLICA_NONE, and word to its home, a CONTEXT without role or key (log entry
57). -/
def refuseReplica (c : Ctx) (dest : Nat) (s : State) : State :=
  sendMr 4 0x40 dest (leBytes 1 0 ++ leBytes 3 0 ++ ctxBytes { c with role := 0 } ++ leBytes 24 0)
    (raiseEvt 0xD 0x136 (leBytes 3 c.addr) (setB 0xB0010 9 true s))

/-- A release or refusal taken: a copy becomes FREE; a home whose replica device has none records itself (R234, R247). -/
def takeRelease (src addr : Nat) (s : State) : State :=
  match findNode s addr with
  | none => s
  | some n =>
    if !isHome s n then freeCtx n s
    else if (getCtx s n).replDev = src then commitCtx n { getCtx s n with replDev := devOf s } s
    else s

/-- A valid context placed. -/
def placeCtx (src role : Nat) (c : Ctx) (key : List Byte) (s : State) : State :=
  finalDue c.addr <|
  let old := findNode s c.addr
  match old with
  | some n =>
    if isHome s n then (if newerGen c.gen (getCtx s n).gen then yieldTo n src s else s)
    else if takenRole s role c old = 0 then freeCtx n s
    else if role = 3 ∧ (getCtx s n).role = 2 then setCtx n { getCtx s n with role := 3 } s
    else storeCtx n (takenRole s role c old) c key s
  | none =>
    match slotFor s with
    | some n => storeCtx n (takenRole s role c none) c key (setRun n {} s)
    | none => if role = 2 then refuseReplica c src s else s

/-- DOWNLINK (R245, R246, R264): its completion goes back to the sender. -/
def downlinkFrame (f : MFrame) (s : State) : State :=
  mrRow 4 0x41 f (fun s =>
    match findNode s (leAt f.payload 0 3) with
    | none => s
    | some n =>
      let tag := leAt f.payload 3 2
      let life := leAt f.payload 5 4
      let d : Downlink := { tag := tag, target := 0x1E, origin := mrSrc f, flags := leAt f.payload 9 1,
                            expires := if life = 0 then none else some (s.ntb.clk + clocksOfNs (life * 1000000)), data := f.payload.drop 10 }
      let p : Pend := { tag := tag, opcode := 0x0601, target := 0x1E, origin := mrSrc f, obj := n, info := [] }
      dlSync n (setRun n { getRun s n with dls := (getRun s n).dls ++ [d] } { s with keeper := { s.keeper with pend := s.keeper.pend ++ [p] } })) s

/-! ### Rescue (R252-R254) -/

/-- A kept copy as RESCUE_COPY frames (R264): the record in segment 0, then the soft symbols. -/
def sendCopy (addr k dest : Nat) (r : RxRec) (s : State) : State :=
  let body := recordBytes r ++ r.soft
  let segs := pieces 4104 8 body
  let n := segs.length
  let s := forAll (segs.zipIdx) (fun x s =>
    sendMr 3 0x30 dest (leBytes 3 addr ++ leBytes 4 k ++ leBytes 1 (x.2 + (if x.2 + 1 = n then 128 else 0)) ++ x.1) s) s
  incW 0xB0068 s

/-- RESCUE_WANT (R253). -/
def rescueWant (f : MFrame) (s : State) : State :=
  mrRow 1 0x17 f (fun s =>
    let addr := leAt f.payload 2 3
    let k := leAt f.payload 5 4
    match findNode s addr with
    | none => s
    | some n =>
      if isHome s n then s
      else
        let min := signedOf 8 (getF s 0xB0008 31 24)
        let held := fun (r : RxRec) => decide (anchNow s ≤ nsTotal r.anch + getF s 0xB0008 15 8 * 1000000)
        forAll ((getRun s n).kept.filter (fun p => p.1 % 2 ^ 32 == k && held p.2 && decide (min ≤ p.2.snr.toInt))) (fun p => sendCopy addr k (mrSrc f) p.2) s) s

/-- A record from its 32 bytes (R139). -/
def recordOfBytes (b : List Byte) (soft : List Byte) : RxRec :=
  let m := leAt b 14 1
  { ch := leAt b 13 1 % 64, slot := m / 8 % 2, mode := m % 8,
    header := m % 8 + 8 * (leAt b 26 2 % 2048) + (if m.testBit 4 then 2 ^ 14 else 0) + (if m.testBit 5 then 2 ^ 15 else 0) + 2 ^ 18,
    stamp := (leAt b 0 8 * 1000000000 + leAt b 8 4) * nsUnit, step := leAt b 12 1, anch := 0, outcome := leAt b 15 1,
    flags := BitVec.ofNat 32 (leAt b 16 4), rssi := BitVec.ofNat 16 (leAt b 20 2), snr := BitVec.ofNat 16 (leAt b 22 2),
    foff := BitVec.ofNat 16 (leAt b 24 2), rxseq := leAt b 28 2, related := leAt b 30 2, payload := [], crc := 0, soft := soft }

/-- A payload from soft symbols, if its CRC-32 passes. -/
def decodeCopy (r : RxRec) (soft : List Int) : Option (List Byte × Nat) :=
  let len := r.header / 8 % 2048
  let bs := decodeSoft (r.header.testBit 14) (r.header.testBit 15) len soft
  if crc32 (bs.take len) = leAt bs len 4 then some (bs.take len, leAt bs len 4) else none

/-- One whole copy at the home (R254): late or beyond RESCUE_MAX it is counted and dropped; after one that passed it is not considered. -/
def takeCopy (n dev : Nat) (r : RxRec) (s : State) : State :=
  match (getRun s n).rescue with
  | none => incW 0xB0070 s
  | some q =>
    let form := (r.mode, r.header.testBit 14, r.header / 8 % 2048)
    if q.clk + clocksOfNs (getF s 0xB0008 7 0 * 1000000) < s.ntb.clk ∨ max 1 (getF s 0xB0008 19 16) ≤ q.count then incW 0xB0070 s
    else if q.passed ∨ q.form.isSome && q.form != some form then s
    else
      let soft := r.soft.map softOfByte
      let sum := if r.outcome = 0 then q.sum else if q.sum.isEmpty then soft else combineSoft q.sum soft
      let first := if r.outcome = 0 then q.first else q.first.orElse (fun _ => some dev)
      let by' := if r.outcome = 0 then dev else first.getD dev
      let q := { q with count := q.count + 1, sum := sum, form := some form, first := first }
      match decodeCopy r (if r.outcome = 0 then soft else sum) with
      | none => setRun n { getRun s n with rescue := some q } s
      | some (payload, crc) =>
        let s := setRun n { getRun s n with rescue := some { q with passed := true } } s
        let anch := ((r.stamp : Int) + s.ntb.anch - s.ntb.net).toNat
        intakeOk { r with payload := payload, crc := crc, anch := anch, outcome := 0 } (some by') (incW 0xB006C s)

/-- RESCUE_COPY (R254, R264): segments are joined by sender, and the last one completes the copy. -/
def rescueCopy (f : MFrame) (s : State) : State :=
  settle (mrRow 3 0x30 f (fun s =>
    match findNode s (leAt f.payload 0 3) with
    | none => s
    | some n =>
      let seg := leAt f.payload 7 1
      match (getRun s n).rescue with
      | none => if seg.testBit 7 then incW 0xB0070 s else s
      | some q =>
        if q.k % 2 ^ 32 ≠ leAt f.payload 3 4 then (if seg.testBit 7 then incW 0xB0070 s else s)
        else
          let had := if seg % 128 = 0 then [] else ((q.parts.find? (fun p => p.1 == mrSrc f)).map (fun p => p.2)).getD []
          let all := had ++ f.payload.drop 8
          let rest := q.parts.filter (fun p => p.1 != mrSrc f)
          if seg.testBit 7 then
            takeCopy n (mrSrc f) (recordOfBytes (all.take 32) (all.drop 32)) (setRun n { getRun s n with rescue := some { q with parts := rest } } s)
          else setRun n { getRun s n with rescue := some { q with parts := rest ++ [(mrSrc f, all)] } } s) s)

/-- RESCUE_WAIT_EXPIRY (R254). -/
def rescueWaitExpiry (addr : BitVec 24) (s : State) : State :=
  match findNode s addr.toNat with
  | none => s
  | some n =>
    match (getRun s n).rescue with
    | none => s
    | some q => setRun n { getRun s n with rescue := none } (reachClk (q.clk + clocksOfNs (getF s 0xB0008 7 0 * 1000000)) s)

/-- RESCUE_HOLD_EXPIRY (R252, R253). -/
def rescueHoldExpiry (addr : BitVec 24) (k : Word) (s : State) : State :=
  match findNode s addr.toNat with
  | none => s
  | some n =>
    let old := (getRun s n).kept.filter (fun p => p.1 % 2 ^ 32 == k.toNat)
    let s := forAll old (fun p => reachAnch (p.2.anch + getF s 0xB0008 15 8 * 1000000 * nsUnit)) s
    setRun n { getRun s n with kept := (getRun s n).kept.filter (fun p => p.1 % 2 ^ 32 != k.toNat) } s

def execLoadWindow (loads : List Byte) (s : State) : Res := .next (loadWindow loads s)
def execMarginPeriod (s : State) : Res := .next (marginPeriod s)
def execMarginReport (f : MFrame) (s : State) : Res := .next (marginReport f s)
def execFinalSend (ctx : BitVec 16) (s : State) : Res := .next (finalSend ctx s)
def execFinalFrame (f : MFrame) (s : State) : Res := .next (finalFrame f s)
def execFinalAckTimeout (ctx : BitVec 16) (s : State) : Res := .next (finalAckTimeout ctx s)
def execFinalQuery (f : MFrame) (s : State) : Res := .next (finalQuery f s)
def execFinalNak (f : MFrame) (s : State) : Res := .next (finalNak f s)
def execCounterUpdate (f : MFrame) (s : State) : Res := .next (counterUpdate f s)
def execReplicaPromote (dev : Fin 16) (s : State) : Res := .next (replicaPromote dev s)
def execHeardTable (f : MFrame) (s : State) : Res := .next (heardTable f s)
def execRescueWant (f : MFrame) (s : State) : Res := .next (rescueWant f s)
def execRescueCopy (f : MFrame) (s : State) : Res := .next (rescueCopy f s)
def execRescueWaitExpiry (addr : BitVec 24) (s : State) : Res := .next (rescueWaitExpiry addr s)
def execRescueHoldExpiry (addr : BitVec 24) (k : Word) (s : State) : Res := .next (rescueHoldExpiry addr k s)
def execGuestAgeExpiry (ctx : BitVec 16) (s : State) : Res := .next (guestAgeExpiry ctx s)
def execFrdLookup (value : Word) (s : State) : Res := .next (frdLookup value s)
def execDownlinkFrame (f : MFrame) (s : State) : Res := .next (downlinkFrame f s)

end Sys2Proof.Machine
end

