-- ==== Sys2Proof/Machine/Mooring.lean ====
section
/-! DEFINITION. The Mooring ports: training and port states, fallback, the chain and its ring, HELLO and LINK_EVENT, time transfer, and the
port apply unit (R257-R277). -/

namespace Sys2Proof.Machine


/-! ### Rings (R271) -/

/-- The devices of a ring in order from this one, going out of port `q` up to the peer of the other port; none where it is not closed. -/
def ringOrder (s : State) (q : Nat) : Option (List Nat) :=
  let side := sideOf s q
  match side.idxOf? (peerDev s (1 - q)) with
  | some i => some (devOf s :: side.take (i + 1))
  | none => none

/-- Hops from the root the shorter way round a ring. -/
def ringHops (s : State) (order : List Nat) (i : Nat) : Nat :=
  let r := (order.idxOf? (rootOf s)).getD 0
  let d := if i ≤ r then r - i else i - r
  min d (order.length - d)

/-- The link of a ring to be blocked, by the index of its first device (R271): the largest sum of hops, then the smaller sum of DEVs. -/
def blockedLink (s : State) (order : List Nat) : Nat :=
  let n := order.length
  let hop := fun i => ringHops s order i + ringHops s order ((i + 1) % n)
  let dev := fun i => order.getD i 0 + order.getD ((i + 1) % n) 0
  (List.range n).foldl (fun b i => if hop b < hop i ∨ (hop b = hop i ∧ dev i < dev b) then i else b) 0

/-- A ring that has closed with every link UP blocks one of this device's ports where the rule names it (R271). -/
def ringJudge (s : State) : State :=
  if !(portUp s 0 && portUp s 1) then s
  else match ringOrder s 0 with
    | none => s
    | some order =>
      let s := setB 0xA00C4 5 true s
      let b := blockedLink s order
      if b = 0 then setLstate 0 9 s else if b + 1 = order.length then setLstate 1 9 s else s

/-! ### Training and port states (R259, R260) -/

/-- An attempt ends in its phase (R259). -/
def trainFails (p phase : Nat) (s : State) : State :=
  let s := setB (mrBase p + 0x10) 11 true (setF (mrBase p + 0x14) 7 4 phase s)
  raiseEvt (10 + p) 0x143 (leBytes 1 p ++ leBytes 1 phase) (setPort p { getPort s p with waiting := true, phaseClk := s.ntb.clk } s)

/-- The RATE and MARGIN values of the training under way (R259, R275). -/
def trainMin (s : State) (p : Nat) : Nat := fieldOf (getPort s p).cfg 3 2
def trainNeed (s : State) (p : Nat) : Nat := 170 + fieldOf (getPort s p).cfg 15 8

/-- The core clock by which a phase must have ended (R259): from t0, or 60 ms from a retraining's start (R260, log entry 159). -/
def phaseLimit (s : State) (p phase : Nat) : Nat :=
  let x := getPort s p
  let ms := if x.retrain then 60 else match phase with
    | 2 => 30
    | 3 => 70
    | 4 => 80
    | 5 => 95
    | 6 => 110
    | _ => 120
  x.t0 + clocksOfNs (ms * 1000000)

/-- LINK_PULSE_DETECT: training begins at RATE_MAX. -/
def linkPulseDetect (port : Fin 2) (s : State) : State :=
  let p := port.val
  if lstate s p ≠ 1 ∨ (getPort s p).waiting then s
  else setLstate p 2 (setPort p { getPort s p with trial := rateMaxOf s p, t0 := s.ntb.clk, retrain := false, cfg := rd s (mrBase p + 4) }
    (incF (mrBase p + 0x14) 15 8 1 s))

/-- Whether the peer's DEV is held by another reachable device (R260, log entry 65). -/
def devTaken (s : State) (p : Nat) : Bool :=
  let d := peerDev s p
  let e := (getPort s p).peerEui
  (d == devOf s && e != Config.eui.toNat) || (d != devOf s && getB s 0xA00C8 d && (getPeer s d).eui != e)

/-- The port settles after CABLE, or once a cause of FOREIGN or CONFLICT is gone (R260, R271): it joins the topology UP or BLOCKED. -/
def settlePort (p : Nat) (s : State) : State :=
  let b := mrBase p
  let peer := peerDev s p
  if getF s (b + 0x1C) 31 16 ≠ chainId s then
    let s := setB 0xA00C4 18 true (setLstate p 10 s)
    raiseEvt (10 + p) 0x144 (leBytes 1 p ++ leBytes 1 0 ++ leBytes 2 (getF s (b + 0x1C) 31 16)) s
  else if devTaken s p ∧ (getPort s p).peerEui < Config.eui.toNat then
    raiseEvt (10 + p) 0x145 (leBytes 1 p ++ leBytes 1 peer) (setB 0xA00C4 16 true (setLstate p 11 s))
  else
    let q := 1 - p
    let open' := getB s 0xA00C4 6
    let closes := (sideOf s q).contains peer
    let s := setPeer peer { getPeer s peer with eui := (getPort s p).peerEui, prio := getF s (b + 0x1C) 7 4, heard := s.ntb.clk }
      (setB 0xA00C8 peer true s)
    let s := if closes then setB 0xA00C4 5 true s else s
    let s := if closes && open' then setB 0xA00C4 6 false (setLstate p 9 s)
      else if closes then
        match ringOrder s q with
        | none => setLstate p 8 s
        | some order =>
          let k := blockedLink s order
          if k + 1 = order.length then setLstate p 9 s
          else if k = 0 then setLstate p 8 (setLstate q 9 s)
          else setLstate p 8 s
      else setLstate p 8 s
    let s := raiseEvt (10 + p) 0x140 (leBytes 1 p ++ leBytes 1 peer ++ leBytes 1 (rateOfPort s p)) s
    makeMissing (mooringJudge (topoSync (releaseHeld (sendLinkEvent p 1 peer s))))

/-- A trial of EQUALISE takes 10 ms (R259): the rate passes where the SNR reaches 17.0 dB and MARGIN; otherwise the next lower rate is
tried, down to RATE_MIN. -/
def trialEnd (p : Nat) (snr : BitVec 16) (s : State) : State :=
  let s := reachClk ((getPort s p).phaseClk + clocksOfNs 10000000) s
  let s := setF (mrBase p + 0x18) 15 0 snr.toNat s
  let x := getPort s p
  if phaseLimit s p 3 < s.ntb.clk then trainFails p 3 s
  else if (trainNeed s p : Int) ≤ snr.toInt then setLstate p 4 s
  else if trainMin s p < x.trial then setLstate p 3 (setPort p { x with trial := x.trial - 1 } s)
  else trainFails p 3 s

/-- TRAIN_PHASE_END (R259): what the two ends found governs the next phase. ECHO lasts until the echo return loss enhancement reaches
40 dB; a phase that overran fails. -/
def trainPhaseEnd (port : Fin 2) (info : TrainInfo) (s : State) : State :=
  let p := port.val
  let b := mrBase p
  let l := lstate s p
  let x := getPort s p
  if x.waiting ∨ l < 2 ∨ 7 < l then s
  else if phaseLimit s p l < s.ntb.clk then trainFails p l s
  else if l = 2 then
    let s := setF (b + 0x18) 31 16 info.erle.toNat s
    if 400 ≤ info.erle.toNat then setLstate p 3 s else s
  else if l = 3 then trialEnd p info.snr s
  else if l = 4 then
    let r := min x.trial info.rate.val
    if r < trainMin s p then trainFails p 3 s
    else setLstate p 5 (setF (b + 0x10) 5 4 r s)
  else if l = 5 then
    setLstate p 6 (setPort p { getPort s p with cls := [], seq0 := 0, seq3 := 0, mseq := 0, marks := [], peerMark := none, delays := [], good := 0, bad := 0, markClk := none } s)
  else if l = 6 then
    let s := wr (b + 0x1C) (BitVec.ofNat 32 (info.peerDev.val + 16 * info.peerPrio.val + 65536 * info.peerChain.toNat)) s
    setLstate p 7 (setPort p { getPort s p with peerEui := info.peerEui.toNat } s)
  else settlePort p s

/-- TRAIN_FAIL (R259): the phase overruns its time limit. -/
def trainFail (port : Fin 2) (s : State) : State :=
  let l := lstate s port.val
  if 2 ≤ l ∧ l ≤ 7 ∧ !(getPort s port.val).waiting then trainFails port.val l (reachClk (phaseLimit s port.val l) s) else s

/-- TRAIN_RETRY_WAIT (R259): the random wait of 0 to 10 ms, a free value, has passed. -/
def trainRetryWait (port : Fin 2) (s : State) : State :=
  let p := port.val
  if (getPort s p).waiting then
    let s := drawFree (reachClk ((getPort s p).phaseClk + Config.freeDraw s.free % (clocksOfNs 10000000 + 1)) s)
    setLstate p 1 (setPort p { getPort s p with waiting := false } s)
  else s

/-- CODEWORD_LOCK_LOST (R258, R260): after eight uncorrectable codewords in a row (log entry 155). -/
def codewordLockLost (port : Fin 2) (s : State) : State :=
  let l := lstate s port.val
  if 8 ≤ l ∧ l ≤ 11 then linkDown port.val 1 (countUncorr port.val 8 s) else s

/-- FALLBACK (R260): the uncorrectable codewords of the last second have come to more than UNCORR_LIMIT. -/
def fallback (port : Fin 2) (s : State) : State :=
  let p := port.val
  let l := lstate s p
  if l = 8 ∨ l = 9 then fallbackJudge p (countUncorr p (getF s (mrBase p + 4) 23 16 + 1 - uncorrSecond s p) s) else s

/-- RATE_UP_HOLD_EXPIRY (R260): RATE_UP_HOLD minutes after the port came UP; every rate needs 17.0 dB and MARGIN (R259). -/
def rateUpHoldExpiry (port : Fin 2) (s : State) : State :=
  let p := port.val
  let b := mrBase p
  let snr := signedOf 16 (getF s (b + 0x18) 15 0)
  if lstate s p = 8 ∧ rateOfPort s p < rateMaxOf s p ∧ getF s (b + 4) 31 24 ≠ 0 ∧ (200 + getF s (b + 4) 15 8 : Int) ≤ snr ∧
      (upstream s ≠ some p ∨ getB s 0xA00C4 5) then
    retrainAt p (rateMaxOf s p) (reachClk ((getPort s p).upClk + clocksOfNs (getF s (b + 4) 31 24 * 60000000000)) s)
  else s

/-- PORT_DISABLE takes a value (R260). -/
def portDisable (p : Nat) (v : Word) (s : State) : State :=
  let s := wr (mrBase p + 0x40) (v &&& 1) s
  if bitOf v 0 then setPort p { getPort s p with waiting := false } (linkDown p 0 s)
  else if lstate s p = 0 then setLstate p 1 s
  else s

/-- MR_PORT_DISABLE: the twin write that completes the guarded pair (R34, R260). -/
def mrPortDisable (port : Fin 2) (value : Word) (s : State) : State :=
  guardTwinR (mrBase port.val + 0x40) value (fun _ v => portDisable port.val v) s

/-! ### The apply unit (R274, R277) -/

/-- The checks of R277. -/
def portCheck (p : Nat) (s : State) : Nat :=
  let sh := fun o => rdShadow s (mrBase p + o)
  let loop := fieldOf (sh 8) 1 0
  if fieldOf (sh 4) 1 0 < fieldOf (sh 4) 3 2 then 1
  else if loop = 3 then 2
  else if loop = 2 ∧ lstate s p ≠ 8 ∧ getF s (mrBase p + 8) 1 0 ≠ 2 then 3
  else if (sh 0xC).toInt < -1000000 ∨ 1000000 < (sh 0xC).toInt then 4
  else 0

/-- What an applied LOOP does (R260, R274). -/
def loopApplied (p : Nat) (s : State) : State :=
  if getF s (mrBase p + 8) 1 0 ≠ 0 then (if lstate s p = 12 then s else linkDown p 12 s)
  else if lstate s p = 12 then setLstate p 1 s
  else s

/-- The Mooring-port apply (R27). -/
def portApply (p : Nat) (s : State) : State :=
  applyRun (mrBase p) (mrBase p) (mrBase p + 0x40) (188 + p) (10 + p) (portCheck p) (loopApplied p) s

/-! ### HELLO and topology (R269-R272) -/

/-- A port as HELLO shows it: 0 down, 1 UP, 2 BLOCKED, 3 other. -/
def portCode (s : State) (p : Nat) : Nat :=
  let l := lstate s p
  if l = 8 then 1 else if l = 9 then 2 else if l = 10 ∨ l = 11 then 3 else 0

/-- The peer of a port in HELLO: 0xFF for none. -/
def neighCode (s : State) (p : Nat) : Nat := if portCode s p = 0 then 255 else peerDev s p

/-- HELLO_MS and HELLO_MISS, of which 0 acts as 1 (R275). -/
def helloMs (s : State) : Nat := max 1 (getF s 0xA00D8 7 0)
def helloMissLimit (s : State) : Nat := max 1 (getF s 0xA00D8 11 8)

/-- The next HELLO is due HELLO_MS after the last (R269). -/
def helloDue (s : State) : State :=
  let s := match s.chain.helloClk with
    | some c => reachClk (c + clocksOfNs (helloMs s * 1000000)) s
    | none => s
  { s with chain := { s.chain with helloClk := some s.ntb.clk } }

/-- HELLO_SEND (R269). -/
def helloSend (s : State) : State :=
  let s := helloDue s
  broadcast 1 (leBytes 8 Config.eui.toNat ++ leBytes 1 (rootPrio s) ++ leBytes 1 (portCode s 0 + 4 * portCode s 1) ++
    leBytes 1 (neighCode s 0) ++ leBytes 1 (neighCode s 1) ++ leBytes 1 (ntbState s + 4 * ntbSource s) ++
    leBytes 1 (rootOf s + 16 * (hopsOf s (devOf s) % 16))) s

/-- What a change of the topology brings with it. -/
def topoChanged (s : State) : State := mooringJudge (topoSync (releaseHeld (ringJudge s)))

/-- HELLO (R260, R269, R270). -/
def hello (f : MFrame) (s : State) : State :=
  mrRow 1 1 f (fun s =>
    let p := f.port.val
    let d := mrSrc f
    let b := f.payload
    if b.length ≠ 16 then s
    else if lstate s p = 10 ∨ lstate s p = 11 then
      let s := setPort p { getPort s p with peerEui := leAt b 2 8 }
        (wr (mrBase p + 0x1C) (BitVec.ofNat 32 (d + 16 * (leAt b 10 1 % 16) + 65536 * f.chainId.toNat)) s)
      if f.chainId.toNat ≠ chainId s ∨ (devTaken s p ∧ leAt b 2 8 < Config.eui.toNat) then s else settlePort p s
    else if f.chainId.toNat ≠ chainId s then s
    else
      let s := setPeer d { eui := leAt b 2 8, prio := leAt b 10 1 % 16, portE := leAt b 11 1 % 4, portW := leAt b 11 1 / 4 % 4,
                           neighE := leAt b 12 1, neighW := leAt b 13 1, tstate := leAt b 14 1, root := leAt b 15 1, heard := s.ntb.clk } s
      let s := if lstate s p = 8 then setB 0xA00C8 d true s else s
      let s := if leAt b 11 1 % 4 = 2 ∨ leAt b 11 1 / 4 % 4 = 2 then setB 0xA00C4 5 true s else s
      topoChanged s) s

/-- HELLO_MISS (R269, R272): HELLO_MISS x HELLO_MS after its last HELLO the device is unreachable; a silent link to it is down (log
entry 66). -/
def helloMiss (dev : Fin 16) (s : State) : State :=
  let d := dev.val
  if d = devOf s ∨ !getB s 0xA00C8 d then s
  else
    let s := reachClk ((getPeer s d).heard + clocksOfNs (helloMissLimit s * helloMs s * 1000000)) s
    let s := setPeer d { lost := s.ntb.clk } (setB 0xA00C8 d false s)
    let s := forAll [0, 1] (fun p s => if (lstate s p = 8 ∨ lstate s p = 9) ∧ peerDev s p = d then linkDown p 1 s else s) s
    mooringJudge (topoSync s)

/-- LINK_EVENT (R264, R272). -/
def linkEvent (f : MFrame) (s : State) : State :=
  mrRow 1 2 f (fun s =>
    let d := mrSrc f
    let x := getPeer s d
    let ev := leAt f.payload 3 1
    let code := if ev = 0 then 0 else 1
    let s := setPeer d (if leAt f.payload 2 1 = 0 then { x with portE := code } else { x with portW := code }) s
    let s := if ev = 0 then (if getB s 0xA00C4 5 then unblock (setB 0xA00C4 6 true s) else s)
      else if ev = 1 then setB 0xA00C4 6 false s else s
    mooringJudge (topoSync (releaseHeld s))) s

/-- UNREACHABLE_DROP (R272): frames of classes 1 and 2 held for 1 s; a request of this device's host is answered. -/
def unreachableDrop (dev : Fin 16) (s : State) : State :=
  let d := dev.val
  if (portTo s d).isSome then s
  else match s.chain.held.find? (fun x => x.msg.dst == d && x.cls != 4) with
    | none => s
    | some first =>
      let s := reachClk (first.since + clocksOfNs 1000000000) s
      let due := fun (x : MrHeld) => x.msg.dst == d && x.cls != 4 && decide (x.since + clocksOfNs 1000000000 ≤ s.ntb.clk)
      let gone := s.chain.held.filter due
      let s := { s with chain := { s.chain with held := s.chain.held.filter (fun x => !due x) } }
      forAll gone (fun x s =>
        if x.msg.typ = 0x20 ∧ x.msg.src = devOf s then
          askAnswer d (leAt x.msg.payload 8 2) 19 [] s
        else s) s

/-- MR_CHAIN_CFG_WRITE (R270, R275): only while both ports are DISABLED. -/
def mrChainCfgWrite (value : Word) (s : State) : State :=
  if lstate s 0 ≠ 0 ∨ lstate s 1 ≠ 0 then setB 0xA00C4 17 true s
  else
    let s := wr 0xA00C0 (value &&& 0xFFFF00FF) s
    topoSync (wr 0xA00C8 0 (setF 0x7801C 3 0 (fieldOf value 3 0) { s with chain := { s.chain with peers := [] } }))

/-! ### Time transfer (R265-R268) -/

/-- A time in 2^-16 ns as the words of TIME_SYNC. -/
def stampS (t : Nat) : List Byte := leBytes 8 (t / 65536 / 1000000000)
def stampN (t : Nat) : List Byte := leBytes 4 (t / 65536 % 1000000000)

/-- The next marker is due 15.625 ms after the last, in CABLE 1 ms (R259, R265). -/
def markDue (p : Nat) (s : State) : State :=
  match (getPort s p).markClk with
  | some c => reachClk (c + clocksOfNs (if lstate s p = 7 then 1000000 else 15625000)) s
  | none => s

/-- TMARK_SEND (R265, R266). -/
def tmarkSend (port : Fin 2) (s : State) : State :=
  let p := port.val
  let l := lstate s p
  if l ≠ 7 ∧ l ≠ 8 ∧ l ≠ 9 then s
  else
    let s := markDue p s
    let x := { getPort s p with markClk := some s.ntb.clk }
    let t := s.ntb.net / 2 ^ 40
    let r := x.peerMark.getD (0, 0)
    let body := leBytes 2 x.mseq ++ leBytes 2 r.1 ++ stampS t ++ stampN t ++ leBytes 2 (t % 65536) ++ leBytes 2 (r.2 % 65536) ++
      stampS r.2 ++ stampN r.2 ++ leBytes 4 (holdBound s) ++ leBytes 1 (ntbState s + 4 * ntbSource s) ++
      leBytes 1 (rootOf s + 16 * (hopsOf s (devOf s) % 16)) ++ leBytes 2 (stepByte s)
    let s := setPort p { x with mseq := (x.mseq + 1) % 65536, marks := (x.marks ++ [(x.mseq, t)]).drop (x.marks.length + 1 - 16) } s
    queueFrame p 0 ⟨1, 0x1E, devOf s, body⟩ s

/-- Exchanges in a row that are missing or outliers (R268). -/
def exchangeBad (p : Nat) (s : State) : State :=
  let x := getPort s p
  let s := setPort p { x with good := 0, bad := x.bad + 1 } s
  if 3 ≤ x.bad then mooringJudge (setB (mrBase p + 0x10) 8 false s) else s

/-- The mean of the delays kept, times their number. -/
def delaySum (x : MrPort) : Int := x.delays.foldl (· + ·) 0

/-- One exchange of a port (R267, R268): `a` and `b` are the one-way differences in 2^-16 ns, `acc` the peer's ACC. -/
def exchangeDone (p : Nat) (a b : Int) (acc : Nat) (s : State) : State :=
  let x := getPort s p
  let n := x.delays.length
  let far := decide (8 ≤ n) && decide (2 * 5 * 65536 * n < (((a + b) * n - 2 * delaySum x).natAbs : Int))
  if far then exchangeBad p (incW (mrBase p + 0x4C) s)
  else
    let asym := getS s (mrBase p + 0xC)
    let s := wr (mrBase p + 0x24) (BitVec.ofInt 32 (rdiv ((a - b) * 1000 + asym * 65536) 131072)) s
    let s := wr (mrBase p + 0x20) (BitVec.ofInt 32 (rdiv ((a + b) * 1000) 131072)) s
    let s := setPort p { x with delays := (rdiv (a + b) 2 :: x.delays).take 16, good := x.good + 1, bad := 0 } s
    let s := if 8 ≤ x.good + 1 then setB (mrBase p + 0x10) 8 true s else s
    if upstream s = some p then
      let off : Int := rdiv ((a - b) * 2 ^ 40 * 1000 + asym * 2 ^ 56) 2000
      let acc := if acc = 0xFFFFFFFF then acc else acc + 2
      let s := { s with ntb := { s.ntb with mrOffset := off, mrAcc := acc } }
      if ntbState s = 1 ∧ ntbSource s = 1 ∧ s.ntb.mrQual then
        trackSource off { s with ntb := { s.ntb with e0 := acc } }
      else mooringJudge s
    else s

/-- TIME_SYNC (R266, R267): `arrival` is the local arrival of the marker it names, 2^-16 ns. -/
def timeSync (f : MFrame) (arrival : Nat) (s : State) : State :=
  mrRow 0 1 f (fun s =>
    let p := f.port.val
    let b := f.payload
    if b.length ≠ 40 then s
    else
      let time := fun so no fo => ((leAt b so 8 * 1000000000 + leAt b no 4 % 2 ^ 30) * 65536 + leAt b fo 2 : Nat)
      let s := setPort p { getPort s p with peerMark := some (leAt b 0 2, arrival) } s
      match (getPort s p).marks.find? (fun m => m.1 == leAt b 2 2) with
      | none => s
      | some (_, sent) =>
        exchangeDone p ((arrival : Int) - time 4 0xC 0x10) ((time 0x14 0x1C 0x12 : Int) - sent) (leAt b 0x20 4) s) s

/-- TIME_EXCHANGE_MISSING (R268). -/
def timeExchangeMissing (port : Fin 2) (s : State) : State :=
  let l := lstate s port.val
  if l = 8 ∨ l = 9 then exchangeBad port.val s else s

def execLinkPulseDetect (port : Fin 2) (s : State) : Res := .next (linkPulseDetect port s)
def execTrainPhaseEnd (port : Fin 2) (info : TrainInfo) (s : State) : Res := .next (trainPhaseEnd port info s)
def execTrainFail (port : Fin 2) (s : State) : Res := .next (trainFail port s)
def execTrainRetryWait (port : Fin 2) (s : State) : Res := .next (trainRetryWait port s)
def execCodewordLockLost (port : Fin 2) (s : State) : Res := .next (codewordLockLost port s)
def execFallback (port : Fin 2) (s : State) : Res := .next (fallback port s)
def execRateUpHoldExpiry (port : Fin 2) (s : State) : Res := .next (rateUpHoldExpiry port s)
def execMrPortDisable (port : Fin 2) (value : Word) (s : State) : Res := .next (mrPortDisable port value s)
def execTmarkSend (port : Fin 2) (s : State) : Res := .next (tmarkSend port s)
def execTimeSync (f : MFrame) (arrival : Nat) (s : State) : Res := .next (timeSync f arrival s)
def execHelloSend (s : State) : Res := .next (helloSend s)
def execHello (f : MFrame) (s : State) : Res := .next (hello f s)
def execHelloMiss (dev : Fin 16) (s : State) : Res := .next (helloMiss dev s)
def execLinkEvent (f : MFrame) (s : State) : Res := .next (linkEvent f s)
def execUnreachableDrop (dev : Fin 16) (s : State) : Res := .next (unreachableDrop dev s)
def execMrChainCfgWrite (value : Word) (s : State) : Res := .next (mrChainCfgWrite value s)
def execTimeExchangeMissing (port : Fin 2) (s : State) : Res := .next (timeExchangeMissing port s)

end Sys2Proof.Machine
end

