-- ==== Sys2Proof/Machine/Rhizome.lean ====
section
/-! DEFINITION. The Rhizome event fabric (R278-R289), and the boundaries at which a unit's shadow is applied (R27-R32). -/

namespace Sys2Proof.Machine

/-! ### Apply units (R27-R31) -/

/-- The apply register of a unit and the range of its shadowed registers (R29). -/
def unitRange (u : ApplyUnit) : Nat × Nat × Nat :=
  match u with
  | .chan n => (chBase n.val, chBase n.val, chBase n.val + 0x400)
  | .tx n => (txBase n.val, txBase n.val, txBase n.val + 0x4000)
  | .op n => (opBase n.val, opBase n.val, opBase n.val + 0x40)
  | .step => (0x20040, 0x20044, 0x20060)
  | .rate => (0x20060, 0x20064, 0x20068)
  | .lamp n => (lampBase n.val, lampBase n.val, lampBase n.val + 0x40)
  | .port n => (mrBase n.val, mrBase n.val, mrBase n.val + 0x40)

/-- BAND_DOWN of a channel follows the band it stands in (R85, R144). -/
def chanApplied (ch : Nat) (s : State) : State := setB (chBase ch + 0x24) 8 (s.pathS.bandDown.testBit (chBand s ch)) s

/-- A channel's apply (R27, R118): both slots are free. -/
def chanApply (ch : Nat) (s : State) : State :=
  if chanBoundary s ch then
    applyRun (chBase ch) (chBase ch) (chBase ch + 0x400) 190 5 (chanCheck ch) (chanApplied ch) s
  else s

/-- APPLY (R27, R30): the unit's boundary is reached. The step unit's is the next nanosecond, the rate unit's the next second with all
that falls on it. -/
def applyBoundary (u : ApplyUnit) (s : State) : State :=
  match u with
  | .chan n => chanApply n.val s
  | .tx n => txApply n.val s
  | .op n => settle (opApply n.val s)
  | .step =>
    if applyPending s 0x20040 && !applyHeld s 0x20040 then stepApply (reachNet ((nowNs s + 1) * nsUnit) s) else s
  | .rate => if applyPending s 0x20060 && !applyHeld s 0x20060 then ntbSecond s else s
  | .lamp n => lampApply n.val s
  | .port n => portApply n.val s

/-- APPLY_HOLD_WRITE (R29, R31). -/
def applyHoldWrite (u : ApplyUnit) (hold : Bool) (s : State) : State := setB (unitRange u).1 0 hold s

/-- APPLY_DISCARD (R29). -/
def applyDiscard (u : ApplyUnit) (s : State) : State :=
  applyDrop (unitRange u).1 (unitRange u).2.1 (unitRange u).2.2 s

/-! ### Channels (R278, R279) -/

def evcBase (ch : Nat) : Nat := 0x80000 + ch * 0x10

/-- A source that fires in core clock `c`, which has not yet passed: its event reaches the channels that carry it as they stand. -/
def raiseAt (src c : Nat) (s : State) : State :=
  { s with evf := { s.evf with arrivals := s.evf.arrivals ++ (channelsOf s src).map (fun ch => (ch, c)) } }

/-- FIRES advances; each wrap advances WRAPS, which stops at 255 (R289). -/
def countFire (ch : Nat) (s : State) : State :=
  let o := evcBase ch + 0xC
  onlyIf (getF s o 15 0 == 0xFFFF) (incSat o 23 16 1) (incF o 15 0 1 s)

/-- The task inputs a channel delivers to: each once (R279). -/
def evcTasks (s : State) (ch : Nat) : List Nat :=
  let w := rd s (evcBase ch + 4)
  (((if bitOf w 8 then [fieldOf w 7 0] else []) ++ (if bitOf w 24 then [fieldOf w 23 16] else [])).eraseDups).filter (· < 192)

/-- A channel fires in clock `c` (R278, R279): EVC0 to EVC15 are sources of a further channel, one clock on (R281). -/
def evcFires (ch c : Nat) (s : State) : State :=
  let s := countFire ch { s with evf := { s.evf with
    lastFire := tabSet (fun _ => 0) s.evf.lastFire ch (c + 1)
    deliveries := s.evf.deliveries ++ (evcTasks s ch).map (fun t => (t, c + 1)) } }
  if ch < 16 then raiseAt (240 + ch) (c + 1) s else s

/-- EVC_FIRE (R279): the oldest event that reached the channel meets the rate limit. -/
def evcFire (ch : Fin 96) (s : State) : State :=
  match s.evf.arrivals.find? (fun a => a.1 == ch.val) with
  | none => s
  | some a =>
    let s := reachClk a.2 { s with evf := { s.evf with arrivals := s.evf.arrivals.erase a } }
    let last := tabGet (fun _ => 0) s.evf.lastFire ch.val
    let rate := getF s (evcBase ch.val + 8) 15 0
    if rate = 0 ∨ last = 0 ∨ last + rate ≤ a.2 + 1 then evcFires ch.val a.2 s
    else incSat (evcBase ch.val + 0xC) 31 24 1 s

/-- The events that have reached a channel act under the configuration in force when they did, before that changes (R279). -/
def evcDue (ch : Fin 96) (s : State) : State :=
  forAll (s.evf.arrivals.filter (fun a => a.1 == ch.val && decide (a.2 ≤ s.ntb.clk))) (fun _ => evcFire ch) s

/-! ### Task inputs (R280, R283) -/

/-- A bit of a flag register with one bit per task input (R289). -/
def tskSet (base t : Nat) (s : State) : State := setB (base + t / 32 * 4) (t % 32) true s

/-- Whether the consumer of a task input is busy (R283). -/
def taskBusy (s : State) (t : Nat) : Bool :=
  if t < 128 then opState s t == 0 || opState s t == 2 || opState s t == 3
  else if t < 136 then (getLamp s (t - 128)).pulseEnd.isSome || !lampOn s (t - 128)
  else if 144 ≤ t ∧ t < 148 then (tabGet (fun _ => none) s.evf.notify (t - 144)).isSome
  else false

/-- OP_TRIGGER (R283): zero START registers take the clock of the event, in the entry's own timescale. -/
def opTrigger (n : Nat) (s : State) : State :=
  opArmAt n (if opStartReg s n = 0 then some (opNow s n) else none) s

/-- TIMESTAMP_TASK (R283): network time latched; a latch over an unread one sets OVERRUN. -/
def timestampLatch (n : Nat) (s : State) : State :=
  let o := 0x80900 + n * 0x20
  let s := onlyIf (getB s (o + 0x10) 0) (setB (o + 0x10) 1 true) s
  setB (o + 0x10) 0 true (wr o (BitVec.ofNat 32 (secOf s.ntb.net))
    { s with stamps := tabSet (fun _ => (0, 0)) s.stamps n (s.ntb.net, stepByte s) })

/-- What a consumer does (R283). A clear of a software gate in the clock of its set wins, whichever comes first. -/
def taskAct (t : Nat) (s : State) : State :=
  if t < 128 then opTrigger t s
  else if t < 136 then lampTrigger (t - 128) s
  else if t < 141 then capStore (t - 136) s.ntb.net s
  else if t < 143 then abortBurst (t - 141) 4 s
  else if t = 143 then setB 0x20040 0 false s
  else if t < 148 then
    if 144 ≤ t then
      { s with evf := { s.evf with notify := tabSet (fun _ => none) s.evf.notify (t - 144) (some (s.ntb.net, stepByte s)) } }
    else s
  else if t = 148 then forAll (List.range 64) latchStats s
  else if t < 152 then s
  else if t < 156 then timestampLatch (t - 152) s
  else if t < 172 then setB 0x80808 (t - 156) true s
  else if t < 176 then
    if tabGet (fun _ => 0) s.evf.swClear (t - 172) = s.ntb.clk + 1 then s else setB 0x80804 (t - 172) true s
  else if t < 180 then
    setB 0x80804 (t - 176) false { s with evf := { s.evf with swClear := tabSet (fun _ => 0) s.evf.swClear (t - 176) (s.ntb.clk + 1) } }
  else s

/-- The sources that a consumer's action raises fire in the clock after the task event (R278). -/
def laterSources (before : Nat) (s : State) : State :=
  { s with evf := { s.evf with
      arrivals := s.evf.arrivals.take before ++ (s.evf.arrivals.drop before).map (fun a => (a.1, max a.2 (s.ntb.clk + 1))) } }

/-- TASK_DELIVERY (R280): all events that reach the input in the clock of the oldest act as one trigger. -/
def taskDelivery (t : Fin 192) (s : State) : State :=
  match s.evf.deliveries.find? (fun d => d.1 == t.val) with
  | none => s
  | some d =>
    let n := (s.evf.deliveries.filter (· == d)).length
    let s := reachClk d.2 { s with evf := { s.evf with deliveries := s.evf.deliveries.filter (· != d) } }
    let s := if 2 ≤ n then tskSet 0x80860 t.val s else s
    if taskBusy s t.val then tskSet 0x80840 t.val s
    else settle (laterSources s.evf.arrivals.length (taskAct t.val s))

/-- RHIZOME_NOTIFY (R283): the Keeper takes the event of HOST_NOTIFY n and sends it with the time of the task event. -/
def rhizomeNotify (n : Fin 4) (s : State) : State :=
  match tabGet (fun _ => none) s.evf.notify n.val with
  | none => s
  | some (t, step) =>
    raiseEvtAt t step 8 0x148 (leBytes 1 n.val) { s with evf := { s.evf with notify := tabSet (fun _ => none) s.evf.notify n.val none } }

/-! ### Registers of the fabric (R281, R289) -/

/-- EVF_SWTRIG (R281): the sources fire in the clock after the write. -/
def evfSwtrig (value : Word) (s : State) : State :=
  forAll ((List.range 4).filter (fun i => bitOf value i)) (fun i => raiseSrc (1 + i)) (clocks 1 s)

/-- EVF_SWGATE_WRITE (R289). -/
def evfSwgateWrite (value : Word) (s : State) : State := wr 0x80804 (value &&& 0xF) s

/-- A write of EVCn_DST or EVCn_RATE (R279, R289): `o` is 4 or 8. -/
def evcWrite (ch o : Nat) (value : Word) (s : State) : State :=
  wr (evcBase ch + o) (value &&& (if o = 4 then 0x01FF01FF else 0xFFFF)) (evcDue (Fin.ofNat 96 ch) s)

/-- EVF_COUNT_CLR (R289). -/
def evfCountClr (value : Word) (s : State) : State :=
  let clr := fun ch s => wr (evcBase ch + 0xC) 0 (evcDue (Fin.ofNat 96 ch) s)
  if bitOf value 7 then forAll (List.range 96) clr s
  else if fieldOf value 6 0 < 96 then clr (fieldOf value 6 0) s
  else s

/-- A write of EVCn_SRC: last_fire is cleared when EN changes from 0 to 1 (R279). -/
def evcSrcWrite (ch : Nat) (value : Word) (s : State) : State :=
  let s := evcDue (Fin.ofNat 96 ch) s
  let rise := bitOf value 31 && !getB s (evcBase ch) 31
  let s := wr (evcBase ch) (value &&& 0x80007FFF) s
  if rise then { s with evf := { s.evf with lastFire := tabSet (fun _ => 0) s.evf.lastFire ch 0 } } else s

/-- TIMESTAMP_READ (R289): a read of EVF_TSn_S_LO. -/
def timestampRead (n : Fin 4) (s : State) : State :=
  let o := 0x80900 + n.val * 0x20
  let c := tabGet (fun _ => (0, 0)) s.stamps n.val
  setB (o + 0x10) 0 false
    (wr (o + 0xC) (BitVec.ofNat 32 (fracOf c.1)) (wr (o + 8) (stampNs c.1 c.2) (wr (o + 4) (BitVec.ofNat 32 (secOf c.1 / 2 ^ 32))
      { s with lastRead := rd s o })))

/-! ### The loop watch (R288) -/

/-- A channel's count as the watch reads it, and its advance since the last reading. -/
def evcCount (s : State) (ch : Nat) : Nat := getF s (evcBase ch + 0xC) 23 0
def evcAdvance (s : State) (ch : Nat) : Nat :=
  let last := tabGet (fun _ => 0) s.evf.lastCount ch
  if evcCount s ch < last then evcCount s ch else evcCount s ch - last

/-- Whether a reading meets the threshold. -/
def evcHigh (s : State) (ch : Nat) : Bool :=
  decide (getF s 0x80810 15 0 ≤ evcAdvance s ch) || getF s (evcBase ch + 0xC) 23 16 == 255

/-- A suspected channel (R288). -/
def suspect (ch adv : Nat) (s : State) : State :=
  let w := ch / 32 * 4
  let s := if getB s (0x80880 + w) (ch % 32) then s
    else logWrite 8 0x201 (leBytes 1 ch ++ leBytes 3 0 ++ leBytes 4 adv) (setB (0x80880 + w) (ch % 32) true s)
  if getB s 0x80810 24 then setB (0x80890 + w) (ch % 32) true (setB (evcBase ch) 31 false s) else s

/-- One channel read. -/
def loopRead (ch : Nat) (s : State) : State :=
  let adv := evcAdvance s ch
  let run := if evcHigh s ch then tabGet (fun _ => 0) s.evf.loopRun ch + 1 else 0
  let s := { s with evf := { s.evf with
    lastCount := tabSet (fun _ => 0) s.evf.lastCount ch (evcCount s ch)
    loopRun := tabSet (fun _ => 0) s.evf.loopRun ch run } }
  if max 1 (getF s 0x80810 19 16) ≤ run then suspect ch adv s else s

/-- LOOP_WATCH (R288): every channel read, once per millisecond. -/
def loopWatch (s : State) : State :=
  if getF s 0x80810 15 0 = 0 then s
  else
    let s := match s.evf.watchClk with
      | some c => reachClk (c + clkMs) s
      | none => s
    forAll (List.range 96) loopRead { s with evf := { s.evf with watchClk := some s.ntb.clk } }

/-! ### The starts and locks whose consequences reach the coexistence wires and the queue (R95, R110, R222) -/

/-- OPQ_START (R110, R222): with REQ_ON_RX, COEX_REQ rises REQ_LEAD before a receive window. -/
def windowRequest (n : Nat) (s : State) : State :=
  if requester s && getB s 0x48000 3 && opState s n == 2 && opKind s n == 1 then
    coexOutputs (opReach n (opStart s n - getF s 0x48004 7 0 * us) s)
  else s

def execApplyHoldWrite (u : ApplyUnit) (hold : Bool) (s : State) : Res := .next (applyHoldWrite u hold s)
def execApplyDiscard (u : ApplyUnit) (s : State) : Res := .next (applyDiscard u s)
def execEvcFire (ch : Fin 96) (s : State) : Res := .next (evcFire ch s)
def execTaskDelivery (t : Fin 192) (s : State) : Res := .next (taskDelivery t s)
def execRhizomeNotify (n : Fin 4) (s : State) : Res := .next (rhizomeNotify n s)
def execEvfSwtrig (value : Word) (s : State) : Res := .next (evfSwtrig value s)
def execEvfSwgateWrite (value : Word) (s : State) : Res := .next (evfSwgateWrite value s)
def execEvfCountClr (value : Word) (s : State) : Res := .next (evfCountClr value s)
def execTimestampRead (n : Fin 4) (s : State) : Res := .next (timestampRead n s)
def execLoopWatch (s : State) : Res := .next (loopWatch s)
def execOpqStart (op : Fin 128) (s : State) : Res := .next (settle (opqStart op (windowRequest op.val s)))

end Sys2Proof.Machine
end

