-- ==== Sys2Proof/Machine/Barrier.lean ====
section
/-! DEFINITION. The barrier link between the dies (R306-R314): training, delivery, rejections, the queues that wait for it, and the
messages that carry no command of their own: ACK, LINK_STATE, ESKEL_EVENT, UPLINK, LOG_ENTRY. -/

namespace Sys2Proof.Machine

/-- The radio-die state of R425 and the host-die state of R436. -/
def radioPower (s : State) : Nat := getF s 0x10000 1 0
def hostPower (s : State) : Nat := hgetF s 0x1000 1 0

/-- HOLD or OFF (R425). -/
def islandOnly (s : State) : Bool := radioPower s == 2 || radioPower s == 3

/-! ### Messages (R308, R309, R311) -/

/-- The header and payload of a message, over which its CRC is computed (R308). -/
def bmsgBytes (m : BMsg) : List Byte :=
  [m.typ, m.rsv] ++ leBytes 2 m.len.toNat ++ leBytes 2 m.seq.toNat ++ leBytes 2 m.ack.toNat ++ m.payload

def bmsgCrcOk (m : BMsg) : Bool := crc32 (bmsgBytes m) == m.crc.toNat

/-- A payload field. -/
def bAt (m : BMsg) (o n : Nat) : Nat := leAt m.payload o n

/-- The lengths R309 allows. -/
def bLenOk (t n : Nat) : Bool :=
  match t with
  | 0 => n == 0
  | 1 => n == 16
  | 2 => decide (20 ≤ n) && decide (n ≤ 4100)
  | 3 => decide (20 ≤ n) && decide (n ≤ 4100)
  | 4 => decide (16 ≤ n) && decide (n ≤ 4096)
  | 5 => decide (16 ≤ n) && decide (n ≤ 4096)
  | 6 => decide (32 ≤ n) && decide (n ≤ 4096) && n % 32 == 0
  | 7 => decide (24 ≤ n) && decide (n ≤ 4104) && n % 16 == 8
  | 8 => n == 8
  | 9 => n == 8
  | 0xA => n == 48
  | 0xB => n == 16
  | 0xC => n == 4
  | _ => false

/-- The fields R309 lists, and the bytes it shows as 0; BOOT_CTL also by the state of the die (R435). -/
def bFieldsOk (s : State) (m : BMsg) : Bool :=
  let t := m.typ.toNat
  m.rsv == 0 &&
  (match t with
  | 1 => bAt m 7 9 == 0 && decide (bAt m 6 1 < 16)
  | 2 => decide (bAt m 0 1 < 16) && bAt m 1 3 == 0
  | 3 => decide (bAt m 0 1 < 16) && bAt m 1 3 == 0
  | 7 => decide (bAt m 0 1 < 2) && bAt m 1 3 == 0 && bAt m 4 4 % 16 == 0
  | 8 =>
    bAt m 1 3 == 0 &&
      (if bAt m 0 1 = 4 then decide (bAt m 4 4 < 4) && islandOnly s
       else decide (1 ≤ bAt m 0 1) && decide (bAt m 0 1 ≤ 3) && bAt m 4 4 == 0 && !islandOnly s)
  | 9 => decide (bAt m 0 1 < 6) && bAt m 1 1 == 0
  | 0xA =>
    decide (bAt m 0 1 < 16) && bAt m 1 3 == 0 && bAt m 12 4 == 0 && (bAt m 8 4 &&& 0xFFFFFF0E) == 0 &&
      (if (bAt m 4 4).testBit 31 then decide (bAt m 4 4 < 0x81000000) else decide (bAt m 4 4 < 65792)) &&
      ((bAt m 8 4).testBit 0 || bAt m 32 16 == 0)
  | 0xB => decide (bAt m 8 4 < 2 ^ 30) && decide (bAt m 13 1 < 16) && bAt m 14 2 == 0
  | 0xC => bAt m 0 4 == 1
  | _ => true)

/-- XOFF is set only towards the radio die, and POWER holds a state of the sender's die (R309, R425, R436). -/
def bStateOk (dst : Die) (m : BMsg) : Bool :=
  match dst with
  | .radio => decide (bAt m 4 1 < 3) && decide (bAt m 5 1 < 16)
  | .host => decide (bAt m 4 1 < 4) && bAt m 5 1 == 0

/-- Whether a type travels towards a die (R309). -/
def bTowards (dst : Die) (t : Nat) : Bool :=
  match dst with
  | .radio => [0, 1, 2, 7, 8, 0xA, 0xC].contains t
  | .host => [0, 1, 3, 4, 5, 6, 9, 0xB].contains t

/-- The cause for which a message fits no type: 0 when it does (R311, R435). -/
def bCause (s : State) (dst : Die) (m : BMsg) : Nat :=
  let t := m.typ.toNat
  if 0xD ≤ t then 1
  else if !bTowards dst t then 2
  else if m.len.toNat ≠ m.payload.length ∨ !bLenOk t m.payload.length then 3
  else if !bFieldsOk s m ∨ (t = 1 ∧ !bStateOk dst m) then 4
  else if dst = .radio ∧ islandOnly s ∧ t ≠ 1 ∧ t ≠ 8 ∧ t ≠ 0xC then 4
  else 0

/-! ### Delivery (R310) -/

def getEnd (s : State) (d : Die) : LinkEnd :=
  match d with
  | .radio => s.linkR
  | .host => s.linkH
def setEnd (d : Die) (l : LinkEnd) (s : State) : State :=
  match d with
  | .radio => { s with linkR := l }
  | .host => { s with linkH := l }
def upEnd (s : State) (d : Die) : Bool :=
  match d with
  | .radio => upR s
  | .host => upH s
def otherDie (d : Die) : Die :=
  match d with
  | .radio => .host
  | .host => .radio

/-- What the window lets an end send leaves; BST_TX_MSGS counts the host's. -/
def pumpEnd (d : Die) (s : State) : State :=
  let l := getEnd s d
  let l' := l.pump (upEnd s d)
  let s := setEnd d l' s
  match d with
  | .radio => s
  | .host => hwr 0x2004 (hrd s 0x2004 + BitVec.ofNat 32 (l'.sent - l.sent)) s

/-! ### What waits for the link (R9, R18, R314) -/

/-- EVENTS_LOST, once there is room again (R314). -/
def eventsLost (s : State) : State :=
  if s.keeper.evLost = 0 then s
  else raiseEvt 0xD 0x101 (leBytes 4 s.keeper.evLost) { s with keeper := { s.keeper with evLost := 0 } }

/-- The events held leave, oldest first, as far as the window of the link has room; EVENTS_LOST follows once the queue has room. -/
def drainEvents (s : State) : State :=
  if upR s && !(s.linkR.xoff.testBit 1) then
    let n := linkWindow - s.linkR.q.length
    let s := forAll (s.keeper.evHold.take n) (fun e s => sendR 4 e s) { s with keeper := { s.keeper with evHold := s.keeper.evHold.drop n } }
    onlyIf (s.keeper.evHold.isEmpty) eventsLost s
  else s

/-- The held events and uplink records leave where their class may be sent. -/
def drainHeld (s : State) : State := drainUp (drainEvents s)

/-- The messages that an ACK field acknowledges leave the end's queue, which makes room for events and uplink records held. -/
def ackEnd (d : Die) (ack : Nat) (s : State) : State :=
  let l := getEnd s d
  let n := (ack + 65536 - l.base) % 65536
  if n = 0 ∨ l.sent < n then s
  else onlyIf (d == .radio) drainHeld (pumpEnd d
    (setEnd d { l with q := l.q.drop n, base := (l.base + n) % 65536, sent := l.sent - n, tries := 0, since := s.age } s))

/-- A rejected message recorded (R311). -/
def rejectMsg (dst : Die) (cause : Nat) (m : BMsg) (s : State) : State :=
  match dst with
  | .radio => logWrite 0x10 0x202 (leBytes 1 m.typ.toNat ++ leBytes 1 cause ++ leBytes 2 m.len.toNat) s
  | .host =>
    irq 7 (hsetB 0x2000 16 true (hincW 0x2014
      (hwr 0x2018 (BitVec.ofNat 32 (m.typ.toNat + 256 * cause + 65536 * m.len.toNat)) s)))

/-- A valid message has arrived (R307). -/
def endHeard (d : Die) (s : State) : State := setEnd d { getEnd s d with heard := s.age } s

/-- A message taken off the lanes of a die (R310, R311): CRC, sequence, acknowledgement, its form, and then its effect. DEDUCED (log
entry 71): a message discarded for its CRC or its sequence acknowledges nothing either. -/
def barrierTake (dst : Die) (m : BMsg) (handle : State → State) (s : State) : State :=
  if !upEnd s dst then s
  else if !bmsgCrcOk m then onlyIf (dst == .host) (hincW 0x200C) s
  else if m.typ = 0 then (if m.len = 0 ∧ m.payload = [] then ackEnd dst m.ack.toNat (endHeard dst s) else s)
  else
    let s := endHeard dst s
    let l := getEnd s dst
    if m.seq.toNat ≠ l.rxNext then s
    else
      let s := ackEnd dst m.ack.toNat (setEnd dst { l with rxNext := (l.rxNext + 1) % 65536 } s)
      let cause := bCause s dst m
      if cause ≠ 0 then rejectMsg dst cause m s
      else handle (onlyIf (dst == .host) (hincW 0x2008) s)

/-- A message of one type; any other that fits its type belongs to another command. -/
def barrierRow (typ : Nat) (dst : Die) (m : BMsg) (handle : State → State) (s : State) : State :=
  if m.typ.toNat ≠ typ ∧ bCause s dst m = 0 then s else barrierTake dst m handle s

/-- ACK (R309, R310). -/
def ackMsg (dst : Die) (m : BMsg) (s : State) : State := barrierRow 0 dst m id s

/-! ### The Tender's answers and completions (R312, R337) -/

/-- An answer of the Tender written into the ANSWER class, with its tag free again (R319, R333). -/
def hostAnswer (t : TagUse) (status : Nat) (payload : List Byte) (s : State) : State :=
  toHost 0 (leBytes 1 t.win ++ leBytes 3 0 ++ eskelHeader t.opcode 1 t.target t.tag payload.length t.counter status ++ payload)
    { s with tender := { s.tender with tags := s.tender.tags.filter (fun x => x.tag != t.tag) } }

/-- A command that needed the radio die ends RADIO_DOWN: an answer if it was in flight, a completion if it was PENDING (R337, R455). -/
def tagDown (t : TagUse) (s : State) : State :=
  if t.pend then
    tenderEvtMsg 0x100 t.target t.tag 10 (leBytes 2 t.opcode ++ leBytes 2 0)
      { s with tender := { s.tender with tags := s.tender.tags.filter (fun x => x.tag != t.tag) } }
  else hostAnswer t 10 [] s

/-- The host end learns that the radio die was reset (R312, R337, R454). -/
def radioResetSeen (s : State) : State :=
  let s := { s with
    linkH := { s.linkH with q := [], sent := 0, tries := 0 }
    tender := { s.tender with snapshot := some s.tender.mirror, mirror := [], radioReady := false, radioResets := s.tender.radioResets + 1 }
    boot := { s.boot with
      stage := 0, starting := false
      -- a radio-die reset during an attempt counts it (R483)
      attempts := if s.boot.starting then s.boot.attempts + 1 else s.boot.attempts
      stopped := s.boot.stopped || (s.boot.starting && decide (3 ≤ s.boot.attempts + 1)) } }
  let s := irq 11 (hsetB 0x2000 18 true s)
  forAll (s.tender.tags.filter (fun t => t.radio)) tagDown s

/-- The host end takes the RESETS of the radio die. -/
def takeResetsH (n : Nat) (s : State) : State :=
  let was := s.linkH.peerResets
  let s := { s with linkH := { s.linkH with peerResets := some n } }
  if was.isSome ∧ was ≠ some n then radioResetSeen s else s

/-- The radio end takes the RESETS of the host die: what is in flight for it is discarded (R312). -/
def takeResetsR (n : Nat) (s : State) : State :=
  let was := s.linkR.peerResets
  let s := { s with linkR := { s.linkR with peerResets := some n } }
  if was.isSome ∧ was ≠ some n then
    let l := s.linkR
    { s with linkR := { l with q := l.q.drop l.sent, base := (l.base + l.sent) % 65536, sent := 0, tries := 0 } }
  else s

/-- An end resumes from the RX_NEXT of its peer (R312): what had been sent and was not received is sent again. -/
def resumeEnd (d : Die) (rxNext : Nat) (s : State) : State :=
  let l := getEnd s d
  let n := (rxNext + 65536 - l.base) % 65536
  let n := if n ≤ l.q.length then n else 0
  let s := setEnd d { l with q := l.q.drop n, base := rxNext, sent := l.sent - n, tries := 0, since := s.age } s
  pumpEnd d (onlyIf (d == .host) (fun s => hwr 0x2010 (hrd s 0x2010 + BitVec.ofNat 32 (l.sent - n)) s) s)

/-! ### Link states (R307) -/

/-- The host shows the radio die's state (R326). -/
def showPower (n : Nat) (s : State) : State := hsetF 0x1000 5 4 n s

/-- The link enters DOWN or TRAINING (R307): the instant is kept. -/
def linkTrains (s : State) : State := { s with linkH := { s.linkH with train := s.age } }

/-- A bit mask of lanes covers all four. -/
def lanesFull (m : BitVec 4) : Bool := m == 15

/-- BARRIER_TRAINING (R307): the outcome, 100 us after training began; `toHost` and `toRadio` are the lanes that each receiver locked. The
LINK_STATE messages of the training carry what each end reports to the other (log entry 73). -/
def barrierTraining (toHost toRadio : BitVec 4) (s : State) : State :=
  let s := reachAge (s.linkH.train + clocksOfNs 100000) s
  if upR s || upH s then s
  else if toHost = 0 ∨ toRadio = 0 then linkTrains (hincW 0x201C (hsetF 0x2000 1 0 0 (setF 0x10 1 0 0 s)))
  else
    let degraded := !(lanesFull toHost && lanesFull toRadio) && !islandOnly s
    let s := setF 0x10 1 0 2 (setF 0x10 7 4 toHost.toNat (setF 0x10 11 8 toRadio.toNat s))
    let s := hsetF 0x2000 1 0 2 (hsetF 0x2000 7 4 toRadio.toNat (hsetF 0x2000 11 8 toHost.toNat (hsetB 0x2000 17 degraded s)))
    let s := endHeard .host (endHeard .radio s)
    let s := takeResetsR s.linkH.resets (takeResetsH s.linkR.resets s)
    let s := { s with linkR := { s.linkR with xoff := s.linkH.xoff } }
    let s := onlyIf degraded (irq 6) (irq 4 (showPower (radioPower s) s))
    let s := resumeEnd .host s.linkR.rxNext (resumeEnd .radio s.linkH.rxNext s)
    let s := if s.tender.resetHeld then sendH 0xC (leBytes 4 1) { s with tender := { s.tender with resetHeld := false } } else s
    drainHeld s

/-- The link leaves UP: BARRIER_DOWN, and training starts again (R307). -/
def barrierDown (s : State) : State :=
  let s := onlyIf (upR s || upH s) linkTrains s
  let s := if upR s then setF 0x10 1 0 1 s else s
  if upH s then irq 5 (showPower 3 (hincW 0x201C (hsetF 0x2000 1 0 1 s))) else s

/-- BARRIER_RETRY (R307): every 10 ms while DOWN. -/
def barrierRetry (s : State) : State :=
  if getF s 0x10 1 0 ≠ 0 ∧ hgetF s 0x2000 1 0 ≠ 0 then s
  else
    let s := linkTrains (reachAge (s.linkH.train + clocksOfNs 10000000) s)
    let s := if getF s 0x10 1 0 = 0 then setF 0x10 1 0 1 s else s
    if hgetF s 0x2000 1 0 = 0 then hsetF 0x2000 1 0 1 s else s

/-- BARRIER_SILENCE (R307): no valid message has reached an end for 3 ms. -/
def barrierSilence (s : State) : State :=
  if upR s || upH s then barrierDown (reachAge (min s.linkR.heard s.linkH.heard + clocksOfNs 3000000) s) else s

/-- BARRIER_RETX_TIMEOUT (R307, R310): the oldest message and every one after it are sent again; the sixteenth sending was the last. -/
def barrierRetxTimeout (die : Die) (s : State) : State :=
  let l := getEnd s die
  if !upEnd s die ∨ l.sent = 0 then s
  else if 15 ≤ l.tries then barrierDown (reachAge (l.since + clocksOfNs 10000) s)
  else
    let s := reachAge (l.since + clocksOfNs 10000) s
    let s := setEnd die { l with tries := l.tries + 1, since := s.age } s
    if die = .host then hwr 0x2010 (hrd s 0x2010 + BitVec.ofNat 32 l.sent) s else s

/-- LINK_STATE is sent once per millisecond beside the queued messages: the sender's numbering follows the one that arrives (log entry 74). -/
def noteLinkState (dst : Die) (m : BMsg) (s : State) : State :=
  let l := getEnd s (otherDie dst)
  if m.typ = 1 ∧ bmsgCrcOk m ∧ upEnd s dst ∧ m.seq.toNat = (getEnd s dst).rxNext ∧ l.sent = l.q.length ∧
      (l.base + l.q.length) % 65536 = m.seq.toNat then
    setEnd (otherDie dst) { l with q := l.q ++ [(1, m.payload)], sent := l.sent + 1 } s
  else s

/-- A POWER_STATE that the Tender served ends with a COMPLETION of its own (R334, R435). -/
def wakeEnds (t : TagUse) (status st : Nat) (s : State) : State :=
  tenderEvtMsg 0x100 t.target t.tag status
    (leBytes 2 t.opcode ++ leBytes 2 0 ++ (if status = 0 ∨ status = 7 then leBytes 1 st ++ leBytes 3 0 else []))
    { s with tender := { s.tender with tags := s.tender.tags.filter (fun x => x.tag != t.tag) } }

/-- Waits from OFF that end as the radio die shows a state other than RUN (R435). -/
def wakeReached (st : Nat) (s : State) : State :=
  if st = 0 then s
  else
    let done := s.tender.wakeWait.filter (fun w => w.2 == st)
    forAll done (fun w => wakeEnds w.1 0 st) { s with tender := { s.tender with wakeWait := s.tender.wakeWait.filter (fun w => w.2 != st) } }

/-- LINK_STATE (R309, R312, R314). -/
def linkState (dst : Die) (m : BMsg) (s : State) : State :=
  barrierRow 1 dst m (fun s =>
    match dst with
    | .host => wakeReached (bAt m 4 1) (showPower (bAt m 4 1) (takeResetsH (bAt m 0 2) s))
    | .radio => drainHeld { takeResetsR (bAt m 0 2) s with linkR := { (takeResetsR (bAt m 0 2) s).linkR with xoff := bAt m 5 1 } })
    (noteLinkState dst m s)

/-! ### Messages to the host (R309, R314, R319, R454) -/

/-- A COMPLETION ends the use of its tag (R333). -/
def endTag (tag : Nat) (s : State) : State :=
  { s with tender := { s.tender with tags := s.tender.tags.filter (fun t => t.tag != tag) } }

/-- ESKEL_EVENT: into the EVENT class. -/
def eskelEvent (m : BMsg) (s : State) : State :=
  barrierRow 4 .host m (fun s =>
    toHost 1 m.payload (if bAt m 0 2 = 0x100 then endTag (bAt m 4 2) s else s)) s

/-- UPLINK: into the UPLINK class. -/
def uplink (m : BMsg) (s : State) : State := barrierRow 5 .host m (toHost 2 m.payload) s

/-- The 32-byte entries of a LOG_ENTRY message. -/
def logEntries : Nat → List Byte → List (List Byte)
  | 0, _ => []
  | n + 1, bs => bs.take 32 :: logEntries n (bs.drop 32)

/-- An entry enters the mirror; a WATCHDOG_WARN raises the Tender's event (R447, R454, R455). -/
def mirrorEntry (e : List Byte) (s : State) : State :=
  let s := { s with tender := { s.tender with mirror := ringPush s.tender.mirror e } }
  if leAt e 14 2 = 0x16A then tenderEvt 0x16A [] s else s

/-- LOG_ENTRY: into the mirror and the LOG class. -/
def logEntry (m : BMsg) (s : State) : State :=
  barrierRow 6 .host m (fun s => forAll (logEntries (m.payload.length / 32) m.payload) mirrorEntry (toHost 3 m.payload s)) s

def execAck (dst : Die) (m : BMsg) (s : State) : Res := .next (ackMsg dst m s)
def execBarrierRetry (s : State) : Res := .next (barrierRetry s)
def execBarrierSilence (s : State) : Res := .next (barrierSilence s)
def execBarrierRetxTimeout (die : Die) (s : State) : Res := .next (barrierRetxTimeout die s)
def execLinkState (dst : Die) (m : BMsg) (s : State) : Res := .next (linkState dst m s)
def execEskelEvent (m : BMsg) (s : State) : Res := .next (eskelEvent m s)
def execUplink (m : BMsg) (s : State) : Res := .next (uplink m s)
def execLogEntry (m : BMsg) (s : State) : Res := .next (logEntry m s)

end Sys2Proof.Machine
end

