-- ==== Sys2Proof/Machine/Eskel.lean ====
section
/-! DEFINITION. How every Eskel request is run and answered (R330-R336, R353-R355): the catalogue, where a request runs, PENDING answers and
completions, requests and answers that travel over Mooring, and the answers that reach the Tender. -/

namespace Sys2Proof.Machine

/-! ### The catalogue (R353, R356-R373) -/

/-- The opcodes served by the Tender (flag H). -/
def hostCodes : List Nat :=
  [0x0101, 0x0102, 0x8103, 0x0105, 0x8106, 0x0201, 0x0202, 0x0709, 0x0A02, 0x8B04, 0x8C01, 0x0C02, 0x8C03, 0x0C04, 0x0C05, 0x0D02]

/-- The opcodes served by the radio die. -/
def radioCodes : List Nat :=
  [0x0104, 0x0301, 0x0302, 0x0303, 0x0304, 0x0305, 0x0401, 0x0402, 0x0403, 0x0404, 0x0405, 0x0406, 0x0501, 0x0502, 0x0503, 0x0504, 0x0505,
   0x0506, 0x0601, 0x0602, 0x0603, 0x0701, 0x8702, 0x8703, 0x0704, 0x0705, 0x0706, 0x0707, 0x0708, 0x0801, 0x8802, 0x0803, 0x8804, 0x0901,
   0x0902, 0x0903, 0x8A01, 0x8B01, 0x8B02, 0x0B03, 0x0D01, 0x0E01, 0x0E02, 0x0F01, 0x0F02, 0x0F03, 0x0F04, 0x8F05, 0x1001, 0x9001]

/-- The opcodes that accept TARGET 0x1F (flag X). -/
def chainCodes : List Nat := [0x0301, 0x0603, 0x0706, 0x0707, 0x8B01]

/-- The catalogue entries without fields, whose LEN is 0 (R331). -/
def inCatalogue (op : Nat) : Bool := hostCodes.contains op || radioCodes.contains op

/-! ### Statuses (R350) -/

abbrev sOk : Nat := 0
abbrev sAuth : Nat := 1
abbrev sKeyInvalid : Nat := 2
abbrev sKeyUsage : Nat := 3
abbrev sBadLength : Nat := 4
abbrev sBadMode : Nat := 5
abbrev sBadAddress : Nat := 6
abbrev sAborted : Nat := 7
abbrev sPending : Nat := 8
abbrev sBusy : Nat := 9
abbrev sRadioDown : Nat := 10
abbrev sBadField : Nat := 12
abbrev sReadOnly : Nat := 16
abbrev sPolicy : Nat := 17
abbrev sPollTimeout : Nat := 18
abbrev sNotFound : Nat := 20
abbrev sStoreFull : Nat := 21
abbrev sWrongState : Nat := 22
abbrev sDate : Nat := 23
abbrev sFlash : Nat := 24
abbrev sImage : Nat := 25
abbrev sLate : Nat := 32
abbrev sCancelled : Nat := 37

/-! ### Who asks -/

/-- A request being run: its window, tag, opcode, target and counter, and the device whose host posted it (16 for this one). -/
structure Caller where
  win : Nat
  tag : Nat
  opcode : Nat
  target : Nat
  counter : Nat
  origin : Nat
deriving DecidableEq, Repr

/-- What a command holds until it completes. -/
def pendOf (c : Caller) (obj : Nat) (info : List Byte) : Pend :=
  { tag := c.tag, opcode := c.opcode, target := c.target, origin := c.origin, obj := obj, info := info }

/-- Whether the caller is answered through a window of this device. -/
def direct (s : State) (c : Caller) : Bool := c.origin == 16 && !ownShare s c.tag

/-- An answer message of the radio die (R309, R330). -/
def sendAnswer (c : Caller) (status : Nat) (payload : List Byte) (s : State) : State :=
  sendR 3 (leBytes 1 c.win ++ leBytes 3 0 ++ eskelHeader c.opcode 1 c.target c.tag payload.length c.counter status ++ payload) s

/-- A command ends with its final result (R334): as the answer, or as its completion where PENDING was answered for it. -/
def reply (c : Caller) (status : Nat) (payload : List Byte) (s : State) : State :=
  if direct s c then sendAnswer c status payload s else completeFor (pendOf c 0 []) status payload s

/-- A command answers PENDING and holds an object (R334, R336). -/
def replyPending (c : Caller) (obj : Nat) (info : List Byte) (s : State) : State :=
  let s := if direct s c then sendAnswer c sPending [] s else s
  { s with keeper := { s.keeper with pend := s.keeper.pend ++ [pendOf c obj info] } }

/-- A command that answers PENDING and completes at once. -/
def replyLater (c : Caller) (status : Nat) (payload : List Byte) (s : State) : State :=
  finishPend (· == pendOf c 0 []) status payload (replyPending c 0 [] s)

/-- Whether a PENDING command of an opcode holds an object (R336). -/
def holds (s : State) (opcode obj : Nat) : Bool := s.keeper.pend.any (fun p => p.opcode == opcode && p.obj == obj)
def holdsAny (s : State) (opcode : Nat) : Bool := s.keeper.pend.any (fun p => p.opcode == opcode)

/-- The bytes of a request as they were posted. -/
def reqMsg (opcode : Nat) (q : Req) : List Byte :=
  eskelHeader opcode 0 q.target.toNat q.tag.toNat q.payload.length q.counter.toNat 0 ++ q.payload

/-- The waiting entry of the Keeper that a request is: from this device's host, or forwarded (window 16 + DEV). -/
def reqEntry (s : State) (opcode : Nat) (q : Req) : Option (Nat × List Byte) :=
  s.keeper.reqs.find? (fun r => r.2 == reqMsg opcode q && (decide (16 ≤ r.1) || r.1 == q.win.val))

/-- The caller of a request. -/
def callerOf (s : State) (opcode : Nat) (q : Req) : Caller :=
  { win := q.win.val, tag := q.tag.toNat, opcode := opcode, target := q.target.toNat % 32, counter := q.counter.toNat
    origin := match reqEntry s opcode q with
      | some r => if 16 ≤ r.1 then r.1 - 16 else 16
      | none => 16 }

/-- The request leaves the Keeper's queue as it begins. -/
def takeReq (opcode : Nat) (q : Req) (s : State) : State :=
  match reqEntry s opcode q with
  | some r => { s with keeper := { s.keeper with reqs := s.keeper.reqs.erase r } }
  | none => s

/-! ### Where a request runs (R332, R334, R246) -/

/-- ESKEL_FORWARD (R264): the origin and the message unchanged. -/
def forwardMsg (origin dest : Nat) (msg : List Byte) (s : State) : State :=
  sendMr 2 0x20 dest (leBytes 1 origin ++ leBytes 3 0 ++ msg) s

/-- A request sent to other devices: PENDING at once, and completed by their answers. -/
def askDevices (c : Caller) (node : Bool) (waits dests : List Nat) (msg : List Byte) (s : State) : State :=
  let s := sendAnswer c sPending [] s
  let s := { s with chain := { s.chain with asked := s.chain.asked ++ [{ tag := c.tag, opcode := c.opcode, target := c.target, node := node, waits := waits }] } }
  forAll dests (fun d => forwardMsg (devOf s) d msg) s

/-- The other devices of the chain that are reachable. -/
def othersReachable (s : State) : List Nat := (List.range 16).filter (fun d => d != devOf s && reachable s d)

/-- A request that names a device by TARGET runs there (R332). -/
def runCmd (opcode : Nat) (q : Req) (body : Caller → State → State) (s : State) : State :=
  let c := callerOf s opcode q
  let s := takeReq opcode q s
  if c.origin ≠ 16 ∨ c.target = 0x1E ∨ c.target = devOf s then body c s
  else if c.target = 0x1F then
    if chainCodes.contains opcode then
      body c (askDevices c false (devOf s :: othersReachable s) (othersReachable s) (reqMsg opcode q) s)
    else reply c sBadField [] s
  else if c.target < 16 then askDevices c false [c.target] [c.target] (reqMsg opcode q) s
  else reply c sBadField [] s

/-- A request that names a node runs at its home whatever TARGET holds (R246, R332): here, after a hand-over in progress, or elsewhere. -/
def runNode (opcode : Nat) (q : Req) (body : Nat → Caller → State → State) (s : State) : State :=
  let c := callerOf s opcode q
  let s := takeReq opcode q s
  if q.payload.length < 3 then reply c sBadLength [] s
  else
    match findNode s (fld q 0 3) with
    | some n =>
      let x := getCtx s n
      if x.role = 1 ∧ !x.transit then body n c s
      else if x.role = 1 then
        { s with nodes := { s.nodes with parked := s.nodes.parked ++ [(n, if c.origin = 16 then c.win else 16 + c.origin, reqMsg opcode q)] } }
      else if x.homeDev = devOf s then reply c sNotFound [] s
      else if c.origin = 16 then askDevices c true [x.homeDev] [x.homeDev] (reqMsg opcode q) s
      else forwardMsg c.origin x.homeDev (reqMsg opcode q) s
    | none =>
      if c.origin = 16 ∧ othersReachable s ≠ [] then askDevices c true (othersReachable s) (othersReachable s) (reqMsg opcode q) s
      else reply c sNotFound [] s

/-- A request of fixed size (R354). -/
def fixed (n : Nat) (q : Req) (c : Caller) (body : State → State) (s : State) : State :=
  if q.payload.length = n then body s else reply c sBadLength [] s

/-- A request with at least `n` bytes and at most `m`. -/
def atLeast (n m : Nat) (q : Req) (c : Caller) (body : State → State) (s : State) : State :=
  if n ≤ q.payload.length ∧ q.payload.length ≤ m then body s else reply c sBadLength [] s

/-- Bytes shown as 0 are 0 (R354). -/
def zeros (q : Req) (o n : Nat) : Bool := fld q o n == 0

/-! ### Requests and answers in transit (R264, R309) -/

/-- ESKEL_REQ: the Keeper queues the request. -/
def eskelReq (m : BMsg) (s : State) : State :=
  barrierRow 2 .radio m (fun s => { s with keeper := { s.keeper with reqs := s.keeper.reqs ++ [(bAt m 0 1, m.payload.drop 4)] } }) s

/-- Two seconds in core clocks (R264). -/
def twoSeconds : Nat := 1310720000

/-- ESKEL_FORWARD (R264): a repetition within 2 s is not executed again, and its answer is sent again. -/
def eskelForward (f : MFrame) (s : State) : State :=
  mrRow 2 0x20 f (fun s =>
    let origin := leAt f.payload 0 1 % 16
    let msg := f.payload.drop 4
    let tag := leAt msg 4 2
    match s.chain.fwd.find? (fun x => x.1 == origin && x.2.1 == tag && decide (s.ntb.clk < x.2.2.1 + twoSeconds)) with
    | some x =>
      (match x.2.2.2 with
      | some a => sendMr 2 0x21 origin (leBytes 1 origin ++ leBytes 3 0 ++ a) s
      | none => s)
    | none =>
      { s with chain := { s.chain with
                 fwd := s.chain.fwd.filter (fun x => !(x.1 == origin && x.2.1 == tag)) ++ [(origin, tag, s.ntb.clk, none)] }
               keeper := { s.keeper with reqs := s.keeper.reqs ++ [(16 + origin, msg)] } }) s

/-- ESKEL_ANSWER over Mooring (R264, R334): the answer of a device to a forwarded request, or the end of a downlink that moved (R246). -/
def mrEskelAnswer (f : MFrame) (s : State) : State :=
  mrRow 2 0x21 f (fun s =>
    let msg := f.payload.drop 4
    let tag := leAt msg 4 2
    let status := leAt msg 12 2
    if s.chain.asked.any (fun a => a.tag == tag && a.waits.contains (mrSrc f)) then askAnswer (mrSrc f) tag status (msg.drop 16) s
    else if s.chain.asked.any (fun a => a.tag == tag && a.opcode == leAt msg 0 2 && a.node) then
      -- the home that executed a forwarded node command is another one than was asked
      match s.chain.asked.find? (fun a => a.tag == tag && a.opcode == leAt msg 0 2 && a.node) with
      | some a => askAnswer (a.waits.headD 0) tag status (msg.drop 16) s
      | none => s
    else finishPend (fun p => p.tag == tag && p.opcode == leAt msg 0 2) status (msg.drop 16) s) s

/-! ### Answers that reach the Tender (R309, R319, R333, R445) -/

/-- The temperature and rail words of the host die written into the answer of SENS_READ as it is relayed (R445): sensors 6 and 7 at 0x0E,
rails 8 to 12 in their entries. -/
def patchSens (s : State) (msg : List Byte) : List Byte :=
  if leAt msg 0 2 = 0x0E01 ∧ leAt msg 12 2 = 0 ∧ msg.length = 86 then
    msg.take 30 ++ leBytes 2 (tabGet (fun _ => 0) s.tender.temps 6) ++ leBytes 2 (tabGet (fun _ => 0) s.tender.temps 7) ++
      (msg.drop 34).take 32 ++
      [8, 9, 10, 11, 12].flatMap (fun r => leBytes 1 r ++ leBytes 1 0 ++ leBytes 2 (tabGet (fun _ => 0) s.tender.rails r))
  else msg

/-- ESKEL_ANSWER over the barrier: the tag stays in use after PENDING, and is free after any other answer. -/
def eskelAnswer (m : BMsg) (s : State) : State :=
  barrierRow 3 .host m (fun s =>
    let msg := patchSens s (m.payload.drop 4)
    let tag := leAt msg 4 2
    let s := if leAt msg 12 2 = sPending then
        { s with tender := { s.tender with tags := s.tender.tags.map (fun t => if t.tag = tag then { t with pend := true } else t) } }
      else endTag tag s
    toHost 0 (m.payload.take 4 ++ msg) s) s

def execEskelReq (m : BMsg) (s : State) : Res := .next (eskelReq m s)
def execEskelForward (f : MFrame) (s : State) : Res := .next (eskelForward f s)
def execMrEskelAnswer (f : MFrame) (s : State) : Res := .next (mrEskelAnswer f s)
def execEskelAnswer (m : BMsg) (s : State) : Res := .next (eskelAnswer m s)

end Sys2Proof.Machine
end

