-- ==== Sys2Proof/Machine/Flash.lean ====
section
/-! DEFINITION. The embedded flash: regions, reads, programs, erases and suspends as the controller performs them, and the Tender's own
uses of it: code words, the erase journal and the settings region (R387-R401, R415-R417). -/

namespace Sys2Proof.Machine

/-! ### Regions and words (R387, R388) -/

/-- A LOCKED region: the recovery loader and the reserved end. -/
def flLocked (addr : Nat) : Bool := decide (addr < 0x80000) || decide (0xF84000 ≤ addr)

/-- The sector of an address. -/
def flSector (addr : Nat) : Nat := addr / 0x2000

def flWord (s : State) (w : Nat) : Option FlashWord := tabGet (fun _ => none) s.flash.words w
def setFlWord (w : Nat) (v : Option FlashWord) (s : State) : State :=
  { s with flash := { s.flash with words := tabSet (fun _ => none) s.flash.words w v } }

/-- The free bytes of a draw. -/
def freeBlock (n : Nat) : List Byte := leBytes 16 (Config.freeBytes n).toNat

/-- The 16 bytes a code word reads as: blank words 0xFF, a word cut short a free value (R388, R393). -/
def wordBytes (s : State) (w : Nat) : List Byte :=
  match flWord s w with
  | none => List.replicate 16 0xFF
  | some x => match x.cut with
    | none => x.data
    | some n => freeBlock n

/-- `n` code words from word `w` on. -/
def wordsFrom (s : State) (w n : Nat) : List Byte := (List.range n).flatMap (fun i => wordBytes s (w + i))

/-- `n` bytes from a 16-byte aligned address. -/
def flBytes (s : State) (addr n : Nat) : List Byte := (wordsFrom s (addr / 16) (ceilDiv n 16)).take n

/-- The words of a sector dropped: blank again. -/
def dropSector (sec : Nat) (s : State) : State :=
  { s with flash := { s.flash with words := s.flash.words.filter (fun p => p.1 / 512 != sec) } }

/-! ### The controller (R389-R397, R400, R401) -/

def flStat : Nat := 0x8004
def flBit (s : State) (i : Nat) : Bool := hgetB s flStat i
def setFlBit (i : Nat) (b : Bool) (s : State) : State := hsetB flStat i b s

/-- The word address in FLC_ADDR. -/
def flAddr (s : State) : Nat := (hrd s 0x8008).toNat
def setFlAddr (a : Nat) (s : State) : State := hwr 0x8008 (BitVec.ofNat 32 (a / 16 * 16)) s
def setErrAddr (a : Nat) (s : State) : State := hwr 0x800C (BitVec.ofNat 32 a) s

/-- A warning (R390): the event once for a word among the last 64 reported. -/
def flWarn (w errs : Nat) (s : State) : State :=
  let s := setFlBit 11 true (hwr 0x8010 (BitVec.ofNat 32 (16 * w + 2 ^ 28 * errs)) s)
  if s.flash.warned.contains w then s
  else
    let q := s.flash.warned ++ [w]
    tenderEvt 0x170 (leBytes 4 (16 * w) ++ leBytes 1 errs) { s with flash := { s.flash with warned := q.drop (q.length - 64) } }

/-- The wait states a read needs at the Tender's 200 MHz and a voltage of VDDH_CORE in mV; 0 stands for one not measured yet, within its
limits; none suffices below 1.00 V (R399). -/
def wsNeed (mv : Nat) : Nat := if mv = 0 ∨ 1050 ≤ mv then 4 else if 1000 ≤ mv then 6 else 16

/-- Whether reads are guaranteed (R399). -/
def readSure (s : State) : Bool := decide (wsNeed (tabGet (fun _ => 0) s.tender.rails 8) ≤ hgetF s 0x8000 3 0)

/-- FLASH_READ (R389, R390, R394, R395, R399): `errs` is the count of bits in error that the cells of the code word deliver. A read that
meets a running erase is held until the erase is suspended or ends. -/
def flashRead (addr : BitVec 24) (errs : Fin 4) (s : State) : State :=
  let a := addr.toNat
  let w := a / 16
  if flBit s 1 && flBit s 0 then { s with flash := { s.flash with heldRead := some (addr, errs) } }
  else if flBit s 2 && flSector a == s.flash.sector then
    setErrAddr a (setFlBit 14 true { s with flash := { s.flash with read := List.replicate 16 0xFF } })
  else
    let free := errs.val == 3 || !readSure s
    let data := if free then freeBlock s.free else wordBytes s w
    let s := if free then drawFree s else s
    let s := hsetF flStat 17 16 errs.val { s with flash := { s.flash with read := data } }
    let s := if errs.val = 3 then setErrAddr a (setFlBit 10 true (hincW 0x804C s))
      else if errs.val ≠ 0 then hincW 0x8048 s else s
    let thr := hgetF s 0x8000 9 8
    if (thr ≠ 0 ∧ thr ≤ errs.val) ∨ errs.val = 3 then flWarn w errs.val s else s

/-- The held read is made. -/
def heldReadDone (s : State) : State :=
  match s.flash.heldRead with
  | none => s
  | some (a, e) => flashRead a e { s with flash := { s.flash with heldRead := none } }

/-- Microseconds in core clocks. -/
def clkUs (n : Nat) : Nat := clocksOfNs (n * 1000)

/-- The guarded pair FLC_CMD and FLC_CMD_N (R33-R36, R391, R400): the value of an operation is written, then its twin; only the exact
complement makes it act. -/
def flcCommand (op twin : Word) (act : State → State) (s : State) : State :=
  guardTwinH 0x8040 twin (fun off v s => act (hwr off v s)) (guardValueH 0x8040 op s)

/-- A program begins, if its checks pass (R392). -/
def programStart (addr : BitVec 24) (data : BitVec 128) (s : State) : State :=
  let a := addr.toNat / 16 * 16
  if flBit s 0 then setFlBit 13 true s
  else if flLocked a then setErrAddr a (setFlBit 9 true s)
  else if flBit s 2 && flSector a == s.flash.sector then setFlBit 13 true s
  else if (flWord s (a / 16)).isSome then setErrAddr a (setFlBit 8 true s)
  else
    let d := data.toNat
    let s := setFlAddr a s
    let s := forAll [0, 1, 2, 3] (fun i => hwr (0x8020 + 4 * i) (BitVec.ofNat 32 (d / 2 ^ (32 * i)))) s
    setFlBit 0 true (setFlWord (a / 16) (some { data := [], cut := some s.free })
      (drawFree { s with flash := { s.flash with op := 1, opAge := s.age } }))

/-- FLASH_PROGRAM (R391, R392): the guarded pair with the word and its address. -/
def flashProgram (addr : BitVec 24) (data : BitVec 128) (twin : Word) (s : State) : State := flcCommand 1 twin (programStart addr data) s

/-- The word being programmed: the one whose program has begun and not ended. -/
def flProgramming (s : State) : Option Nat :=
  (s.flash.words.find? (fun p => match p.2 with
    | some x => x.data.isEmpty
    | none => false)).map (fun p => p.1)

/-- FLASH_PROGRAM_DONE (R391): 20 us after the complement write. -/
def flashProgramDone (s : State) : State :=
  if s.flash.op ≠ 1 then s
  else
    let s := reachAge (s.flash.opAge + clkUs 20) s
    let d := [0, 1, 2, 3].flatMap (fun i => leBytes 4 (hrd s (0x8020 + 4 * i)).toNat)
    let s := match flProgramming s with
      | some w => setFlWord w (some { data := d }) s
      | none => s
    setFlBit 0 false { s with flash := { s.flash with op := if flBit s 2 then 2 else 0 } }

/-- An erase of the sector of the controller begins: 4 ms of erase time (R394). -/
def beginErase (s : State) : State :=
  setFlBit 0 true (setFlBit 1 true { s with flash := { s.flash with op := 2, erased := false, opAge := s.age, left := clkUs 4000 } })

/-- An erase begins, if its checks pass (R392). -/
def eraseStart (addr : BitVec 24) (s : State) : State :=
  let a := addr.toNat
  if flBit s 0 ∨ flBit s 2 then setFlBit 13 true s
  else if flLocked a then setErrAddr (a / 16 * 16) (setFlBit 9 true s)
  else beginErase (setFlAddr a { s with flash := { s.flash with again := 0, sector := flSector a } })

/-- FLASH_ERASE (R392, R394): the guarded pair with any address of the sector. -/
def flashErase (addr : BitVec 24) (twin : Word) (s : State) : State := flcCommand 2 twin (eraseStart addr) s

/-- FLASH_ERASE_DONE (R394): the erase time has run. A read held is made. -/
def flashEraseDone (s : State) : State :=
  if s.flash.op ≠ 2 ∨ flBit s 2 then s
  else
    let s := reachAge (s.flash.opAge + s.flash.left) s
    let s := dropSector (s.flash.sector) s
    heldReadDone (setFlBit 0 false (setFlBit 1 false (setFlBit 3 false { s with flash := { s.flash with op := 0, erased := true } })))

/-- A blank check begins, if its checks pass (R392): not in the sector of a suspended erase. -/
def blankStart (addr : BitVec 24) (s : State) : State :=
  let sec := flSector addr.toNat
  if flBit s 0 || (flBit s 2 && sec == s.flash.sector) then setFlBit 13 true s
  else
    setFlBit 0 true (setFlAddr addr.toNat { s with flash := { s.flash with
      op := 3, erased := s.flash.erased && sec == s.flash.sector, checkSec := sec, opAge := s.age } })

/-- BLANK_CHECK (R392, R397): the guarded pair with any address of the sector. -/
def blankCheck (addr : BitVec 24) (twin : Word) (s : State) : State := flcCommand 3 twin (blankStart addr) s

/-- The words of a sector that are not blank. -/
def notBlank (s : State) (sec : Nat) : List Nat := (s.flash.words.filter (fun p => p.1 / 512 == sec)).map (fun p => p.1 % 512)

/-- BLANK_CHECK_DONE (R397), 100 us after its start: `weak` are the blank words of the sector with a weak bit. A sector just erased is erased again, up to three
times. -/
def blankCheckDone (weak : List Nat) (s : State) : State :=
  if s.flash.op ≠ 3 then s
  else
    let s := reachAge (s.flash.opAge + clkUs 100) s
    let sec := s.flash.checkSec
    let bad := weak.filter (· < 512) ++ notBlank s sec
    let s := setFlBit 0 false { s with flash := { s.flash with op := if flBit s 2 then 2 else 0 } }
    match bad with
    | [] => { s with flash := { s.flash with erased := false, again := 0 } }
    | w :: ws =>
      let s := setErrAddr (sec * 0x2000 + 16 * ws.foldl max w) (setFlBit 15 true s)
      if !s.flash.erased then s
      else if s.flash.again < 3 then beginErase { s with flash := { s.flash with again := s.flash.again + 1 } }
      else setFlBit 12 true { s with flash := { s.flash with erased := false, again := 0 } }

/-- The running erase stops and keeps its progress; a read held is made (R394, R395). -/
def eraseStops (s : State) : State :=
  heldReadDone (setFlBit 3 false (setFlBit 0 false (setFlBit 2 true
    { s with flash := { s.flash with left := s.flash.left - (s.age - s.flash.opAge) } })))

/-- FLASH_SUSPEND (R395) at a run time of `runUs` since the start or the last resume. -/
def flashSuspend (runUs : Nat) (s : State) : State :=
  if s.flash.op ≠ 2 ∨ flBit s 2 then s
  else
    let s := reachAge (s.flash.opAge + clkUs runUs) s
    if s.flash.opAge + clkUs 200 ≤ s.age then eraseStops s else setFlBit 3 true s

/-- SUSPEND_TAKE_EFFECT (R395): the run time of a held suspend reaches 200 us. -/
def suspendTakeEffect (s : State) : State :=
  if flBit s 3 ∧ s.flash.op = 2 then eraseStops (reachAge (s.flash.opAge + clkUs 200) s) else s

/-- FLASH_RESUME (R395): every resume adds 50 us of erase time; none while a program or blank check runs (log entry 161). -/
def flashResume (s : State) : State :=
  if flBit s 2 && flBit s 0 then s
  else if flBit s 2 then
    setFlBit 0 true (setFlBit 2 false { s with flash := { s.flash with opAge := s.age, left := s.flash.left + clkUs 50 } })
  else setFlBit 3 false s

/-- A host-die reset or power loss cuts an operation short (R393, R395): the word, or the words of the sector, read as free values. -/
def flashCut (s : State) : State :=
  let sec := s.flash.sector
  let s := if flBit s 1 then
      forAll (notBlank s sec) (fun i s => drawFree (setFlWord (sec * 512 + i) (some { data := [0], cut := some s.free }) s)) s
    else s
  -- a word whose program was cut short stays what it is: not blank, its bytes free
  let s := match flProgramming s with
    | some w => setFlWord w (some { data := [0], cut := ((flWord s w).getD { data := [] }).cut }) s
    | none => s
  hwr flStat 0 { s with flash := { s.flash with op := 0, erased := false, again := 0, warned := [], heldRead := none } }

/-! ### The Tender's own programs and erases (R396-R398) -/

/-- A code word programmed. -/
def flProg (addr : Nat) (data : List Byte) (s : State) : State := setFlWord (addr / 16) (some { data := padTo 16 data }) s

/-- Bytes programmed as code words at rising addresses. -/
def flProgAll (addr : Nat) : Nat → List Byte → State → State
  | 0, _, s => s
  | n + 1, bs, s => flProgAll (addr + 16) n (bs.drop 16) (flProg addr bs s)

/-- A 16-byte record with its CRC (R396, R405, R415). -/
def crcRecord (bs : List Byte) : List Byte := padTo 12 bs ++ leBytes 4 (crc32 (padTo 12 bs))

/-- The CRC of a record checks. -/
def recordOk (w : List Byte) : Bool := leAt w 12 4 == crc32 (w.take 12)

/-- The first byte addresses of the two journal sectors. -/
def journalBase (j : Nat) : Nat := 0xF80000 + 0x2000 * j

/-- The records of a journal sector: its words up to the first blank one (R396). -/
def journalWords (s : State) (j : Nat) : List (List Byte) :=
  let ws := (List.range 512).map (fun i => (flWord s (journalBase j / 16 + i), wordBytes s (journalBase j / 16 + i)))
  (ws.takeWhile (fun p => p.1.isSome)).map (fun p => p.2)

/-- A valid journal record: its TYPE, sector and SEQ. -/
def journalRec (w : List Byte) : Option (Nat × Nat × Nat) :=
  let t := leAt w 0 1
  if recordOk w ∧ (t = 0x49 ∨ t = 0x44) ∧ leAt w 1 1 = 0 ∧ leAt w 2 2 < 2048 ∧ leAt w 8 4 = 0 then some (t, leAt w 2 2, leAt w 4 4) else none

def journalRecs (s : State) (j : Nat) : List (Nat × Nat × Nat) := (journalWords s j).filterMap journalRec
def topSeq (rs : List (Nat × Nat × Nat)) : Nat := rs.foldl (fun m r => max m r.2.2) 0

/-- The active journal sector: the one with the highest valid SEQ (R396). -/
def journalActive (s : State) : Nat := if topSeq (journalRecs s 0) < topSeq (journalRecs s 1) then 1 else 0

/-- A record appended to the active journal sector; with fewer than two blank words left it goes to the other one, erased (R398). -/
def journalPut (r : List Byte) (s : State) : State :=
  let j := journalActive s
  let n := (journalWords s j).length
  flProg (journalBase j + 16 * n) (crcRecord r) s

/-- The journal sector for the next intent chosen (R398). -/
def journalSwitch (s : State) : State :=
  let j := journalActive s
  if 510 < (journalWords s j).length then dropSector (flSector (journalBase (1 - j))) s else s

/-- The intent of an erase, in the active sector or, where that is full, as the first record of the other. -/
def journalIntent (sec : Nat) (s : State) : State :=
  let j := journalActive s
  let seq := max (topSeq (journalRecs s 0)) (topSeq (journalRecs s 1)) + 1
  let r := leBytes 1 0x49 ++ leBytes 1 0 ++ leBytes 2 sec ++ leBytes 4 seq
  if 510 < (journalWords s j).length then flProg (journalBase (1 - j)) (crcRecord r) (journalSwitch s) else journalPut r s

/-- The done record of the latest intent. -/
def journalDone (sec : Nat) (s : State) : State :=
  let seq := max (topSeq (journalRecs s 0)) (topSeq (journalRecs s 1))
  journalPut (leBytes 1 0x44 ++ leBytes 1 0 ++ leBytes 2 sec ++ leBytes 4 seq) s

/-- The Tender erases a sector under the journal (R396, R397). -/
def flErase (sec : Nat) (s : State) : State := journalDone sec (dropSector sec (journalIntent sec s))

/-- The journal repair of a boot (R398). -/
def journalRepair (s : State) : State :=
  let j := journalActive s
  let s := dropSector (flSector (journalBase (1 - j))) s
  let rs := journalRecs s j
  match (rs.filter (fun r => r.1 == 0x49)).getLast? with
  | none => s
  | some r => if rs.any (fun x => x.1 == 0x44 && x.2.2 == r.2.2) then s else journalDone r.2.1 (dropSector r.2.1 s)

/-! ### The settings region (R415-R417) -/

def getBank (s : State) (b : Nat) : SetBank := tabGet (fun _ => {}) s.settings.banks b
def setBank (b : Nat) (v : SetBank) (s : State) : State :=
  { s with settings := { s.settings with banks := tabSet (fun _ => {}) s.settings.banks b v } }
def bankBase (b : Nat) : Nat := 0xC80000 + 0x100000 * b

/-- The record of a core item: the one with the highest CSEQ in either bank (R416). -/
def coreRec (s : State) (item : Nat) : Option CoreRec :=
  match tabGet (fun _ => none) (getBank s 0).core item, tabGet (fun _ => none) (getBank s 1).core item with
  | some a, some b => some (if a.cseq < b.cseq then b else a)
  | some a, none => some a
  | none, b => b

def coreGet (s : State) (item : Nat) : Option (List Byte) := (coreRec s item).map (fun r => r.data)

/-- A core record appended to the active bank (R415). -/
def corePut (item : Nat) (data : List Byte) (s : State) : State :=
  let b := s.settings.active
  let x := getBank s b
  setBank b { x with core := tabSet (fun _ => none) x.core item (some { cseq := s.settings.nextCseq, data := data }) }
    { s with settings := { s.settings with nextCseq := s.settings.nextCseq + 1 } }

/-- A core item with nothing to keep: an invalidated key (R369). -/
def coreDrop (item : Nat) (s : State) : State := if (coreGet s item).isNone then s else corePut item [] s

/-- A bank erased and given a header (R415, R416), with the newest core records copied into it. -/
def formatBank (b format seq : Nat) (s : State) : State :=
  let items := ((getBank s 0).core ++ (getBank s 1).core).map (fun p => p.1)
  let core := items.eraseDups.foldl (fun t i => tabSet (fun _ => none) t i (coreRec s i)) []
  let s := forAll (List.range 128) (fun i s => if (notBlank s (flSector (bankBase b) + i)).isEmpty then s else flErase (flSector (bankBase b) + i) s) s
  let s := flProg (bankBase b) (crcRecord ([0x48, 0x4C, 0x44, 0x53] ++ leBytes 2 format ++ leBytes 2 0 ++ leBytes 4 seq)) s
  setBank b { valid := true, format := format, seq := seq, core := core } { s with settings := { s.settings with active := b } }

/-- The bank with the highest SEQ among the valid ones that a test admits. -/
def topBank (s : State) (ok : SetBank → Bool) : Option Nat :=
  let c := fun b => (getBank s b).valid && ok (getBank s b)
  if c 0 && c 1 then some (if (getBank s 0).seq < (getBank s 1).seq then 1 else 0) else if c 0 then some 0 else if c 1 then some 1 else none

/-- SETTINGS_COMPACT (R417): the active bank is compacted into the other one, which gives up what was kept there. -/
def settingsCompact (s : State) : State :=
  let b := s.settings.active
  let x := getBank s b
  let s := formatBank (1 - b) x.format (x.seq + 1) s
  setBank (1 - b) { getBank s (1 - b) with config := x.config, extra := x.extra } { s with settings := { s.settings with kept := none } }

def execFlashRead (addr : BitVec 24) (errs : Fin 4) (s : State) : Res := .next (flashRead addr errs s)
def execFlashProgram (addr : BitVec 24) (data : BitVec 128) (twin : Word) (s : State) : Res := .next (flashProgram addr data twin s)
def execFlashProgramDone (s : State) : Res := .next (flashProgramDone s)
def execFlashErase (addr : BitVec 24) (twin : Word) (s : State) : Res := .next (flashErase addr twin s)
def execFlashEraseDone (s : State) : Res := .next (flashEraseDone s)
def execBlankCheck (addr : BitVec 24) (twin : Word) (s : State) : Res := .next (blankCheck addr twin s)
def execBlankCheckDone (weak : List Nat) (s : State) : Res := .next (blankCheckDone weak s)
def execFlashSuspend (runUs : Nat) (s : State) : Res := .next (flashSuspend runUs s)
def execFlashResume (s : State) : Res := .next (flashResume s)
def execSuspendTakeEffect (s : State) : Res := .next (suspendTakeEffect s)
def execSettingsCompact (s : State) : Res := .next (settingsCompact s)

end Sys2Proof.Machine
end

