-- ==== Sys2Proof/Machine/Mailbox.lean ====
section
/-! DEFINITION. The mailbox towards the host: request windows and doorbells, the Tender's copy with its checks, the response rings and the
SPI response windows (R317-R323, R328, R333, R338-R342). -/

namespace Sys2Proof.Machine

/-! ### Keys of the host die (R303, R304, R338) -/

def duk : List Byte := leBytes 32 Config.duk.toNat

def ascii (t : String) : List Byte := t.toList.map (fun c => BitVec.ofNat 8 c.toNat)

/-- The operator command key: the one stored, or the one derived at shipment. -/
def ockOf (s : State) : List Byte :=
  match s.settings.ock with
  | some k => k
  | none => bytesOf (cmac (natsOf duk) (natsOf (ascii "HLD6416 OPKEY 00")))

/-- The key transport key. -/
def ktOf (s : State) : List Byte := bytesOf (cmac (natsOf (ockOf s)) (natsOf (ascii "HLD6416 KEYTRANS")))

/-- The key slots of the host-die cipher unit (R303), each a view of the key's one home: HKS0 the device unique key, HKS1 the operator
command key, HKS2 the key transport key, HKS3 the key of a tag session, HKS4 the image key of an update; HKS5 and the working slots HKS6 to
HKS15 hold a key only within the command that uses it. -/
def hks (s : State) (k : Nat) : Option (List Byte) :=
  match k with
  | 0 => some duk
  | 1 => some (ockOf s)
  | 2 => some (ktOf s)
  | 3 => if s.tag.sk.isEmpty then none else some s.tag.sk
  | 4 => if s.boot.session then some s.boot.key else none
  | _ => none

/-! ### Windows and doorbells (R317, R318) -/

def winState (s : State) (w : Nat) : Nat := hgetF s 0x3004 (2 * w + 1) (2 * w)
def setWinState (w v : Nat) (s : State) : State := hsetF 0x3004 (2 * w + 1) (2 * w) v s

/-- A doorbell or a write refused (R318, R322). -/
def refuseWin (bit w : Nat) (s : State) : State := irq 8 (hsetF 0x3008 7 4 w (hsetB 0x3008 bit true s))

/-- DOORBELL (R317, R318): refused also before the relay firmware runs and while STANDBY waits (R437, R480). -/
def doorbell (value : Word) (s : State) : State :=
  let w := fieldOf value 3 0
  if winState s w ≠ 0 ∨ (spiMode s ∧ (14 ≤ w ∨ hgetB s 0x3010 w)) ∨ (s.boot.mode ≠ 1 ∧ s.boot.mode ≠ 2) ∨ s.boot.standby then refuseWin 0 w s
  else setWinState w 1 s

/-- The bytes of an access. -/
def accBytes (size : AccSize) (v : Word) : List Byte :=
  match size with
  | .b1 => leBytes 1 v.toNat
  | .b2 => leBytes 2 v.toNat
  | .b4 => leBytes 4 v.toNat

/-- The address of an access of a size: its natural alignment. -/
def accAddr (size : AccSize) (o : Nat) : Nat :=
  match size with
  | .b1 => o
  | .b2 => o / 2 * 2
  | .b4 => o / 4 * 4

/-- REQ_WINDOW_WRITE (R22, R318): `offset` counts from the first window; a window that is not FREE discards it. -/
def reqWindowWrite (offset : Word) (size : AccSize) (value : Word) (s : State) : State :=
  let o := accAddr size (offset.toNat % 0x10000)
  let w := o / 0x1000
  if winState s w ≠ 0 then refuseWin 1 w s
  else { s with reqMem := tabWriteBytes zeroByte s.reqMem o (accBytes size value) }

/-! ### The copy (R317, R333, R338-R342) -/

/-- A copied request: header fields and payload. -/
structure Posted where
  win : Nat
  bytes : List Byte
deriving DecidableEq, Repr

def Posted.f (p : Posted) (o n : Nat) : Nat := leAt p.bytes o n
def Posted.opcode (p : Posted) : Nat := p.f 0 2
def Posted.critical (p : Posted) : Bool := p.opcode.testBit 15
def Posted.len (p : Posted) : Nat := p.f 6 2
def Posted.counter (p : Posted) : Nat := p.f 8 4
def Posted.tag (p : Posted) : Nat := p.f 4 2

/-- The message of a window, with the CMAC of a critical one. -/
def postedIn (s : State) (w : Nat) : Posted :=
  let h := tabReadBytes zeroByte s.reqMem (w * 0x1000) 16
  let crit := (leAt h 0 2).testBit 15
  { win := w, bytes := tabReadBytes zeroByte s.reqMem (w * 0x1000) (min 4096 (16 + leAt h 6 2 + (if crit then 8 else 0))) }

/-- Whether the CMAC of a critical request matches (R338). -/
def cmacOk (s : State) (p : Posted) : Bool :=
  (cmac (natsOf ((hks s 1).getD [])) (natsOf (p.bytes.take (16 + p.len)))).take 8 == natsOf ((p.bytes.drop (16 + p.len)).take 8)

/-- The opcodes the recovery loader serves (R484). -/
def recoveryCodes : List Nat := [0x0101, 0x0102, 0x0201, 0x0202, 0x0D02, 0x8103, 0x8C01, 0x0C02, 0x8C03, 0x0C04, 0x0C05]

/-- POWER_STATE while the die is in HOLD or OFF is served by the Tender (R433). -/
def tenderPower (s : State) (op : Nat) : Bool := op == 0x8A01 && decide (2 ≤ hgetF s 0x1000 5 4) && upH s

/-- Checks 1 to 3 of R342. -/
def formCheck (s : State) (p : Posted) : Nat :=
  if p.f 2 1 ≠ 0 ∨ p.f 0xE 1 ≠ 1 ∨ p.f 0xC 2 ≠ 0 ∨ p.f 0xF 1 ≠ 0 ∨ 32 ≤ p.f 3 1 then 12
  else if 4080 < p.len ∨ (p.critical ∧ 4072 < p.len) then 4
  else if !inCatalogue p.opcode ∨ (s.boot.mode = 2 ∧ hostCodes.contains p.opcode ∧ !recoveryCodes.contains p.opcode) then 11
  else 0

/-- Checks 4 and 5. -/
def authCheck (s : State) (p : Posted) : Nat :=
  if !p.critical then 0
  else if !cmacOk s p then 1
  else if s.tender.last = 0xFFFFFFFF then 14
  else if p.counter ≤ s.tender.last then 13
  else 0

/-- The persisted counter is due with the next critical request, and cannot be written: the active settings bank takes no record (R340). -/
def counterFails (s : State) (c : Nat) : Bool := decide (s.tender.persisted + 256 ≤ c) && !(getBank s s.settings.active).valid

/-- An accepted critical counter (R339, R340): persisted first where it is far enough ahead. -/
def takeCounter (c : Nat) (s : State) : State :=
  let s := if s.tender.persisted + 256 ≤ c then
      corePut 256 (leBytes 4 c) { s with tender := { s.tender with persisted := c } }
    else s
  { s with tender := { s.tender with last := c } }

/-- Checks 6 and 7. -/
def lateCheck (s : State) (p : Posted) : Nat :=
  if s.tender.tags.any (fun t => t.tag == p.tag) then 15
  else if hostCodes.contains p.opcode ∨ tenderPower s p.opcode then 0
  else if !upH s ∨ !s.tender.radioReady ∨ 2 ≤ hgetF s 0x1000 5 4 then 10
  else 0

/-- The answer to a request that a check refuses; the tag of an earlier request stays in use. -/
def refuseReq (p : Posted) (status : Nat) (s : State) : State :=
  toHost 0 (leBytes 1 p.win ++ leBytes 3 0 ++ eskelHeader p.opcode 1 (p.f 3 1) p.tag 0 p.counter status) s

/-- A request that passed is forwarded, or kept for the Tender (R317, R304: a key load is unwrapped by the Tender). -/
def passOn (p : Posted) (s : State) : State :=
  let msg := p.bytes.take (16 + p.len)
  let here := hostCodes.contains p.opcode || tenderPower s p.opcode || p.opcode == 0x8B01
  let t : TagUse :=
    { tag := p.tag, opcode := p.opcode, target := p.f 3 1, counter := p.counter, win := p.win, pend := false
      radio := !hostCodes.contains p.opcode }
  let s := { s with tender := { s.tender with tags := s.tender.tags ++ [t] } }
  if here then { s with tender := { s.tender with reqs := s.tender.reqs ++ [(p.win, msg)] } }
  else sendH 2 (leBytes 1 p.win ++ leBytes 3 0 ++ msg) s

/-- TENDER_COPY: the window is FREE from the end of the copy. -/
def tenderCopy (win : Fin 16) (s : State) : State :=
  let w := win.val
  if winState s w ≠ 1 ∨ s.linkH.xoff.testBit 0 ∨ (s.boot.mode ≠ 1 ∧ s.boot.mode ≠ 2) then s
  else
    let p := postedIn s w
    let s := setWinState w 0 s
    if formCheck s p ≠ 0 then refuseReq p (formCheck s p) s
    else if authCheck s p ≠ 0 then refuseReq p (authCheck s p) s
    else if p.critical && counterFails s p.counter then refuseReq p sFlash s
    else
      let s := if p.critical then takeCounter p.counter s else s
      if lateCheck s p ≠ 0 then refuseReq p (lateCheck s p) s
      else passOn p s

/-! ### Rings (R319, R320) -/

def ringBase (r : Nat) : Nat := 0x3040 + 0x20 * r
def ringOf (s : State) (cls : Nat) : Nat := hgetF s 0x300C (2 * cls + 1) (2 * cls)
def ringOn (s : State) (r : Nat) : Bool := hgetB s (ringBase r + 8) 0
def ringSize (s : State) (r : Nat) : Nat := 2 ^ hgetF s (ringBase r + 8) 12 8
def ringSlot (s : State) (r : Nat) : Nat := 128 * 2 ^ hgetF s (ringBase r + 8) 18 16
def ringTail (s : State) (r : Nat) : Nat := (hrd s (ringBase r + 0xC)).toNat
def ringHead (s : State) (r : Nat) : Nat := (hrd s (ringBase r + 0x10)).toNat
def addr64 (s : State) (off : Nat) : Nat := (hrd s off).toNat + 2 ^ 32 * (hrd s (off + 4)).toNat

/-- An entry (R319). -/
def ringEntry (len kind slots mseq : Nat) (m : List Byte) : List Byte :=
  leBytes 2 len ++ leBytes 1 kind ++ leBytes 1 slots ++ leBytes 4 mseq ++ m

/-- The messages written of a ring, or of the SPI windows (ring 4). -/
def mseqOf (s : State) (r : Nat) : Nat := tabGet (fun _ => 0) s.tender.mseq r
def bumpMseq (r : Nat) (s : State) : State :=
  { s with tender := { s.tender with mseq := tabSet (fun _ => 0) s.tender.mseq r ((mseqOf s r + 1) % 2 ^ 32) } }

/-- The interrupts of a message written (R322). -/
def readyIrq (cls : Nat) (m : List Byte) (s : State) : State :=
  let s := irq cls s
  if cls = 1 ∧ leAt m 0 2 = 0x148 then irq (20 + leAt m 32 1 % 4) s else s

/-- The oldest message of a class leaves its hold. -/
def dropHold (cls : Nat) (s : State) : State :=
  xoffUpdate cls { s with tender := setHold s.tender cls ((holdOf s.tender cls).drop 1) }

/-- A message written into its ring, if it fits (R320). -/
def ringWrite (cls : Nat) (m : List Byte) (s : State) : State :=
  let r := ringOf s cls
  let size := ringSize s r
  let slot := ringSlot s r
  let n := ceilDiv (8 + m.length) slot
  let tail := ringTail s r
  let pos := tail % size
  let pad := if size < pos + n then size - pos else 0
  let used := (tail + 2 ^ 32 - ringHead s r) % 2 ^ 32
  if !ringOn s r ∨ !s.tender.busMaster ∨ size < used + pad + n then s
  else
    let base := addr64 s (ringBase r)
    let s := if pad = 0 then s else post (base + pos * slot) (ringEntry 0 7 pad (mseqOf s r) []) s
    let s := post (base + (tail + pad) % size * slot) (ringEntry m.length cls n (mseqOf s r) m) s
    let s := hwr (ringBase r + 0xC) (BitVec.ofNat 32 (tail + pad + n)) (bumpMseq r s)
    let s := post (addr64 s (ringBase r + 0x14)) (leBytes 4 ((tail + pad + n) % 2 ^ 32)) s
    readyIrq cls m (dropHold cls s)

/-! ### SPI response windows (R321) -/

def rspBit (s : State) (w : Nat) : Bool := hgetB s 0x3010 w
def putRsp (w o : Nat) (bs : List Byte) (s : State) : State := { s with rspMem := tabWriteBytes zeroByte s.rspMem (w * 0x1000 + o) bs }

/-- The bytes in windows 14 and 15, as MBX_SPI_EVQ shows them. -/
def setEvq (w n : Nat) (s : State) : State := if w = 14 then hsetF 0x3018 12 0 n s else hsetF 0x3018 28 16 n s

/-- The window being filled is handed over and the other one is next. -/
def spiHandOver (s : State) : State :=
  let w := s.tender.spiWin
  hsetB 0x3010 w true { s with tender := { s.tender with spiWin := 29 - w, spiFill := 0 } }

/-- The remainder of a message that did not fit goes to offset 0 of the next window, once that is free. -/
def spiRest (s : State) : State :=
  let w := s.tender.spiWin
  let r := s.tender.spiRest
  if r.isEmpty ∨ rspBit s w then s
  else
    let s := putRsp w 0 (r.take 4096) s
    let n := min 4096 r.length
    let s := setEvq w n { s with tender := { s.tender with spiRest := r.drop 4096, spiFill := n, spiAge := s.age } }
    if 4096 ≤ r.length then spiHandOver s else s

/-- An entry for window 14 or 15, on an 8-byte boundary; what does not fit carries CONT and goes on in the other window. -/
def spiEntry (cls : Nat) (m : List Byte) (s : State) : State :=
  let w := s.tender.spiWin
  let o := (s.tender.spiFill + 7) / 8 * 8
  if !s.tender.spiRest.isEmpty ∨ rspBit s w then s
  else if 4096 < o + 8 then spiHandOver s
  else
    let room := 4096 - o - 8
    let cut := decide (room < m.length)
    let s := putRsp w o (ringEntry m.length (cls + (if cut then 128 else 0)) 0 (mseqOf s 4) (m.take room)) s
    let n := o + 8 + min room m.length
    let first := if s.tender.spiFill = 0 then s.age else s.tender.spiAge
    let s := bumpMseq 4 (setEvq w n { s with tender := { s.tender with spiFill := n, spiRest := m.drop room, spiAge := first } })
    let s := if cut ∨ n = 4096 then spiHandOver s else s
    readyIrq cls m (spiRest (dropHold cls s))

/-- RESPONSE_WRITE (R320, R321): the oldest message of a class is written where it fits. -/
def responseWrite (cls : Fin 4) (s : State) : State :=
  match (holdOf s.tender cls.val).head? with
  | none => s
  | some m =>
    if !spiMode s then ringWrite cls.val m s
    else if cls.val = 0 then
      let w := leAt m 0 1
      if rspBit s w then s else readyIrq 0 m (dropHold 0 (hsetB 0x3010 w true (putRsp w 0 (m.drop 4) s)))
    else spiEntry cls.val m s

/-- SPI_WINDOW_TIMER (R321): 100 us after the first entry of window 14 (first) or 15 (second). -/
def spiWindowTimer (second : Bool) (s : State) : State :=
  let w := if second then 15 else 14
  if s.tender.spiWin = w ∧ s.tender.spiFill ≠ 0 ∧ !rspBit s w then spiHandOver (reachAge (s.tender.spiAge + clocksOfNs 100000) s) else s

/-- SPI_RELEASE (R321): the windows named are free again. -/
def spiRelease (value : Word) (s : State) : State :=
  let s := hwr 0x3010 (hrd s 0x3010 &&& ~~~value &&& 0xFFFF) s
  let s := onlyIf (bitOf value 14 && !rspBit s 14 && s.tender.spiWin != 14) (setEvq 14 0) s
  let s := onlyIf (bitOf value 15 && !rspBit s 15 && s.tender.spiWin != 15) (setEvq 15 0) s
  spiRest s

/-! ### Ring registers (R320, R328) -/

def ringInvalid (r : Nat) (s : State) : State := hsetB (ringBase r + 0x1C) 8 true s

/-- RING_HEAD_WRITE (R320). -/
def ringHeadWrite (ring : Fin 4) (value : Word) (s : State) : State :=
  let r := ring.val
  if ringSize s r < (ringTail s r + 2 ^ 32 - value.toNat) % 2 ^ 32 then ringInvalid r s
  else hwr (ringBase r + 0x10) value s

/-- A configuration that sets EN is one the rings can hold (R328). -/
def ringCfgOk (v : Word) : Bool :=
  let size := fieldOf v 12 8
  let slot := fieldOf v 18 16
  decide (4 ≤ size) && decide (size ≤ 16) && slot != 7 && decide (8192 ≤ 2 ^ size * (128 * 2 ^ slot))

/-- A write of MBX_RINGn_CFG. -/
def ringCfg (r : Nat) (v : Word) (s : State) : State :=
  let o := ringBase r + 8
  let on := ringOn s r
  if (on && bitOf v 0) || (bitOf v 0 && !ringCfgOk v) then ringInvalid r s
  else
    let s := hwr o (v &&& 0x71F01) s
    if bitOf v 0 then
      hwr (ringBase r + 0xC) 0 (hwr (ringBase r + 0x10) 0
        { s with tender := { s.tender with mseq := tabSet (fun _ => 0) s.tender.mseq r 0 } })
    else s

/-- RING_CFG_WRITE (R328): BASE, CFG and WB of the ring that an offset of the MBX block names. -/
def ringCfgWrite (offset : Word) (value : Word) (s : State) : State :=
  let o := offset.toNat % 0x100 / 4 * 4
  let r := (o - 0x40) / 0x20
  let k := o % 0x20
  if o < 0x40 ∨ 0xC0 ≤ o ∨ k = 0xC ∨ k = 0x10 ∨ k = 0x1C then s
  else if k = 8 then ringCfg r value s
  else if ringOn s r then ringInvalid r s
  else hwr (ringBase r + k) (value &&& BitVec.ofNat 32 (hostDesc (ringBase r + k)).rw) s

def execDoorbell (value : Word) (s : State) : Res := .next (doorbell value s)
def execReqWindowWrite (offset : Word) (size : AccSize) (value : Word) (s : State) : Res := .next (reqWindowWrite offset size value s)
def execTenderCopy (win : Fin 16) (s : State) : Res := .next (tenderCopy win s)
def execResponseWrite (cls : Fin 4) (s : State) : Res := .next (responseWrite cls s)
def execSpiWindowTimer (second : Bool) (s : State) : Res := .next (spiWindowTimer second s)
def execSpiRelease (value : Word) (s : State) : Res := .next (spiRelease value s)
def execRingHeadWrite (ring : Fin 4) (value : Word) (s : State) : Res := .next (ringHeadWrite ring value s)
def execRingCfgWrite (offset : Word) (value : Word) (s : State) : Res := .next (ringCfgWrite offset value s)

end Sys2Proof.Machine
end

