-- ==== Sys2Proof/Machine/TagMemory.lean ====
section
/-! DEFINITION. The page memory of the commissioning tag and its configuration record (R463, R467-R469, R472). -/

namespace Sys2Proof.Machine

/-- The logical page of the configuration record. -/
def recordPage : Nat := 64

def tagCopy (s : State) (page c : Nat) : TagCopy := tabGet (fun _ => {}) s.tag.copies (2 * page + c)
def setTagCopy (page c : Nat) (v : TagCopy) (s : State) : State :=
  { s with tag := { s.tag with copies := tabSet (fun _ => {}) s.tag.copies (2 * page + c) v } }

/-- The current copy: the valid one with the higher SEQ (R468). -/
def currentCopy (s : State) (page : Nat) : Option Nat :=
  let a := tagCopy s page 0
  let b := tagCopy s page 1
  if a.valid && b.valid then some (if a.seq < b.seq then 1 else 0) else if a.valid then some 0 else if b.valid then some 1 else none

/-- SEQ and data of a page: 0x00 bytes with SEQ 0 where no copy is valid. -/
def pageSeq (s : State) (page : Nat) : Nat :=
  match currentCopy s page with
  | some c => (tagCopy s page c).seq
  | none => 0
def pageData (s : State) (page : Nat) : List Byte :=
  match currentCopy s page with
  | some c => (tagCopy s page c).data
  | none => List.replicate 128 0

/-- The copy that a write runs on: the one that is not current. -/
def shadowCopy (s : State) (page : Nat) : Nat :=
  match currentCopy s page with
  | some c => 1 - c
  | none => 0

/-- A write begins (R469): its shadow copy is erased and no longer valid. -/
def beginCopy (page : Nat) (s : State) : State := setTagCopy page (shadowCopy s page) {} s

/-- A field write begins. -/
def fieldBegin (w : TagWrite) (s : State) : State :=
  beginCopy w.page { s with tag := { s.tag with fieldWrite := some { w with since := s.age }, fieldWait := none } }

/-- The host die goes, and with it what the host wrote; a field write that waited begins (R471). -/
def hostWritesCut (s : State) : State :=
  let s := { s with tag := { s.tag with hostWrite := none, held := none, buf := [] } }
  match s.tag.fieldWait with
  | some f => fieldBegin f s
  | none => s

/-- The commit word is programmed: the shadow becomes the current copy. -/
def commitCopy (page : Nat) (data : List Byte) (s : State) : State :=
  setTagCopy page (shadowCopy s page) { valid := true, seq := (pageSeq s page + 1) % 2 ^ 32, data := data } s

/-- TAK0 (R467). -/
def tak0 : List Byte := bytesOf (cmac (natsOf duk) (natsOf (ascii "HLD6416 TAGKEY00")))

/-- The record as it ships (log entry 85): OPEN, QUIET_S 2, every attribute bit 0, TAK0. -/
def shippedRecord : List Byte := leBytes 1 0 ++ leBytes 1 2 ++ leBytes 16 0 ++ tak0

/-- The configuration record: ACCESS, QUIET_S, ATTR 16, TAK 16. -/
def tagRecord (s : State) : List Byte :=
  match currentCopy s recordPage with
  | some c => (tagCopy s recordPage c).data
  | none => shippedRecord

/-- What a write programs: of the record the part it replaces, the rest as it stands. -/
def writtenData (w : TagWrite) (s : State) : List Byte :=
  if w.page ≠ recordPage then w.data
  else if w.cmd = 2 then (tagRecord s).take 18 ++ w.data
  else w.data ++ (tagRecord s).drop w.data.length

/-- The TAG registers load from the record (R472). -/
def loadTagRegs (s : State) : State :=
  let r := tagRecord s
  forAll [0, 1, 2, 3] (fun i => hwr (0x6020 + 4 * i) (BitVec.ofNat 32 (leAt r (2 + 4 * i) 4)))
    (hwr 0x6000 (BitVec.ofNat 32 (leAt r 0 1 % 2 + 256 * (leAt r 1 1 % 32))) s)

/-- TAG_STATUS shows the tag's own state (R473): field, session, secured, quiet. -/
def tagShow (s : State) : State :=
  hsetB 0x6004 4 s.tag.quiet (hsetB 0x6004 3 (s.tag.st == 5 && !s.tag.sk.isEmpty) (hsetB 0x6004 2 (s.tag.st == 5) (hsetB 0x6004 0 (s.tag.st != 0) s)))

end Sys2Proof.Machine
end

