-- ==== Sys2Proof/Machine/Reset.lean ====
section
/-! DEFINITION. The resets of the two dies: what each scope clears and what it keeps, the record of causes, and the commands that
reset (R9, R15, R45, R313, R420, R440, R441, R474-R477, R485). -/

namespace Sys2Proof.Machine

/-! ### Causes (R474, R475) -/

abbrev causePowerOn : Nat := 1
abbrev causeBrownout : Nat := 2
abbrev causePin : Nat := 3
abbrev causeBarrier : Nat := 4
abbrev causeSoftware : Nat := 5
abbrev causeWatchdog : Nat := 6
abbrev causeLockstep : Nat := 7
abbrev causeClock : Nat := 8
abbrev causeTrial : Nat := 9

/-- The cause register after a reset; `clear` for the island supply and a brown-out, which start the record anew, `same` for a cause that
falls in the clock of the last one: COUNT stays and LAST takes the lower code. -/
def causeWord (w : Word) (clear same : Bool) (code sub : Nat) : Word :=
  let seen := (if clear then 0 else fieldOf w 8 0) ||| 2 ^ (code - 1)
  let count := if clear then 0 else if same then fieldOf w 31 24 else min 255 (fieldOf w 31 24 + 1)
  let last := if same && decide (fieldOf w 19 16 < code) then fieldOf w 21 20 * 16 + fieldOf w 19 16 else sub * 16 + code
  BitVec.ofNat 32 (count * 2 ^ 24 + last * 2 ^ 16 + seen)

/-- A reset of the die was recorded in this very clock. -/
def sameClock (l : LinkEnd) (s : State) : Bool := l.resetAt == some s.age

/-! ### The radio die -/

/-- The radio die without its contents: only the registers given, the barrier end and the power controller stay. What it has put on the
air and on the Mooring lines stays with the outside world. -/
def radioEmpty (regs : Tab Word) (s : State) : State :=
  { s with
    reg := regs, shadow := [], latch := [], guard := none, ntb := {}, lamps := [], caps := [], stamps := [], evf := {}, paths := []
    pathS := {}, slots := [], live := [], agc := [], energyAt := [], intake := [], syns := [], txs := [], ops := [], uses := []
    coexIn := { s.coexIn with grantClk := none }, mac := {}, pkt := [], cipher := {}
    ctx := [], nodes := {}, chain := { out := outSent s }, keeper := {}, image := []
    linkR := { s.linkR with q := [], sent := 0, tries := 0 } }

/-- The registers that survive a reset of the die: the record of causes, the attempts, and PWR, which lie in the island (R419, R475). -/
def islandRegs (s : State) : Tab Word := s.reg.filter (fun p => p.1 == 4 || p.1 == 8 || p.1 / 0x10000 == 1)

/-- The power controller after a reset of the die: in RUN, with no request and every rail up. The wakes from OFF of R431 and the reset
of R435 bring the rails up first. -/
def powerRun (s : State) : State :=
  wr 0x100A0 0x1F (setF 0x10000 14 0 0
    { s with power := { s.power with asker := none, nextAsker := none, report := false, nextReport := false, second := none, fault := false } })

/-- A radio-die reset of die scope (R45, R474): everything outside the island. -/
def radioDieReset (code sub : Nat) (s : State) : State :=
  let s := radioEmpty (islandRegs s) s
  let same := sameClock s.linkR s
  let s := powerRun { s with linkR := { s.linkR with resets := s.linkR.resets + 1, resetAt := some s.age } }
  let s := setF 8 3 0 0 (if code = causePowerOn then setF 8 15 8 0 s else s)
  wr 4 (causeWord (rd s 4) false same code sub) s

/-- A radio-die reset of scope die and island: the supply of the island rises, or has browned out. -/
def radioIslandReset (code : Nat) (s : State) : State :=
  let s := radioEmpty [] s
  let s := { s with linkR := { resets := s.linkR.resets + 1, resetAt := some s.age }, power := {} }
  wr 4 (causeWord 0 true false code 0) s

/-- A reset of the die asked for from inside it or at its ball. In OFF nothing of the die is powered and the reset is only recorded; in
HOLD the rails come up and the die resets (log entry 86). -/
def radioReset1 (code sub : Nat) (s : State) : State :=
  if s.power.dead then s
  else if radioPower s = 3 then wr 4 (causeWord (rd s 4) false (sameClock s.linkR s) code sub) { s with linkR := { s.linkR with resetAt := some s.age } }
  else radioDieReset code sub s

/-! ### The host die -/

/-- The host die without its contents: the RTC domain, the flash, the tag, the cause record and the wake logic stay; so do, outside the
die, what it posted to host memory and the windows' RAM (log entry 87). -/
def hostEmpty (island : Bool) (s : State) : State :=
  let keep := s.hreg.filter (fun p => p.1 / 0x1000 == 5 || (!island && (p.1 == 0x1008 || p.1 == 0x1004)))
  let s := flashCut s
  let t := s.tender
  tagShow (loadTagRegs (hostWritesCut
    { s with
      hreg := keep, hlatch := [], hguard := none
      linkH := { resets := s.linkH.resets + 1, resetAt := some s.age }
      tender := { posted := t.posted, busMaster := t.busMaster, msixEnable := t.msixEnable, snapshot := t.snapshot, start := s.age }
      boot := { fellBack := s.boot.fellBack, trial := s.boot.trial, trialAge := s.boot.trialAge, slot := s.boot.slot, brown := s.boot.brown }
      rtc := { s.rtc with sync := none }
      taps := s.taps }))

/-- What is owed to the host die's next ON (R380, R383). -/
def hostOn (s : State) : State :=
  let s := onlyIf s.rtc.owedAlarm (irq 13) s
  let s := onlyIf s.rtc.owedSwitch (irq 14) s
  { s with rtc := { s.rtc with owedAlarm := false, owedSwitch := false } }

/-- A host-die reset of die scope (R474). -/
def hostDieReset (code sub : Nat) (s : State) : State :=
  let same := sameClock s.linkH s
  let s := hostEmpty false s
  hostOn (hwr 0x1008 (causeWord (hrd s 0x1008) false same code sub) s)

/-- A host-die reset of scope die and island: VDDH_IO rises, or its island has browned out. The snapshot of the trouble log needs
VDDH_IO (R454). -/
def hostIslandReset (code : Nat) (s : State) : State :=
  let s := hostEmpty true s
  let s := { s with boot := { s.boot with trial := false } }
  hostOn (hwr 0x1008 (causeWord 0 true false code 0) s)

/-- The host die runs: ON. -/
def hostRuns (s : State) : Bool := hostPower s == 0

/-! ### The commands -/

/-- POWER_ON (R474): the supply of an island rises. -/
def powerOn (die : Die) (s : State) : State :=
  match die with
  | .radio => radioIslandReset causePowerOn s
  | .host =>
    hostIslandReset causePowerOn
      { s with tender := { s.tender with snapshot := none }, reqMem := [], rspMem := [] }

/-- PIN_RESET (R474). -/
def pinReset (die : Die) (s : State) : State :=
  match die with
  | .radio => radioReset1 causePin 0 s
  | .host => if hostPower s = 2 then s else hostDieReset causePin 0 s

/-- The effect of an accepted SYS_RESET value (R485): the die is reset 1 us after the write to the twin. -/
def sysResetEffect (_ : Nat) (v : Word) (s : State) : State :=
  onlyIf (bitOf v 0) (fun s => radioReset1 causeSoftware 0 (clocks (clocksOfNs 1000) s)) s

/-- SYS_RESET_WRITE (R485): the write to the twin; `value` is that write. -/
def sysResetWrite (value : Word) (s : State) : State := guardTwinR 0x40 value sysResetEffect s

/-- The Tender sends RADIO_RESET, or holds its request until the link is UP (R313). -/
def askRadioReset (s : State) : State :=
  if upH s then sendH 0xC (leBytes 4 1) s else { s with tender := { s.tender with resetHeld := true } }

/-- The effect of RADIO_RESET on the radio die (R313, R435): the die is reset 1 us after the acknowledgement. DEDUCED (log entry 88): an OFF that a power fault entered is left by a
POWER_STATE RUN alone (R423). -/
def barrierReset (s : State) : State := if s.power.fault && radioPower s == 3 then s else radioDieReset causeBarrier 0 (clocks (clocksOfNs 1000) s)

/-- Both dies are reset, the radio die first: its RADIO_RESET is acknowledged before the host die resets (R409, R482; log entry 113). -/
def resetBoth (code : Nat) (s : State) : State := hostDieReset code 0 (onlyIf (upH s) barrierReset s)

/-- The effect of an accepted HPW_RESET value (R313, R326, R474): [0] HOST_DIE, [1] RADIO_DIE. -/
def hpwResetEffect (_ : Nat) (v : Word) (s : State) : State :=
  if bitOf v 0 ∧ bitOf v 1 then resetBoth causeSoftware s
  else if bitOf v 0 then hostDieReset causeSoftware 0 s
  else onlyIf (bitOf v 1) askRadioReset s

/-- HPW_RESET_HOST_DIE: the guarded write of HPW_RESET.HOST_DIE. -/
def hpwResetHostDie (s : State) : State := if hostRuns s then hpwResetEffect 0x1044 1 { s with hguard := none } else s

/-- HPW_RESET_RADIO_DIE: the guarded write of HPW_RESET.RADIO_DIE. -/
def hpwResetRadioDie (s : State) : State := if hostRuns s then hpwResetEffect 0x1044 2 { s with hguard := none } else s

/-- REF_CLOCK_FAILURE (R15): the transmit gates close and the die resets. -/
def refClockFailure (s : State) : State := if coreRuns s then radioDieReset causeClock 0 s else s

/-- HOST_PLL_LOCK_LOSS (R474, R476). -/
def hostPllLockLoss (s : State) : State := if hostRuns s then hostDieReset causeClock 0 s else s

/-- POWER_LOSS (R9): the radio-domain supplies fall away, the island's among them; nothing of the die is left until POWER_ON. -/
def powerLoss (s : State) : State :=
  let s := radioEmpty [] s
  { s with linkR := { resets := s.linkR.resets }, power := { dead := true }, taps := { s.taps with radio := 0, radioDr := [] } }

/-- LOCKSTEP_MISMATCH (R440): gates closed, reset with cause LOCKSTEP, no entry in the trouble log. -/
def lockstepMismatch (s : State) : State := if coreRuns s then radioDieReset causeLockstep 0 s else s

/-- ECC_ERROR (R441). -/
def eccError (double : Bool) (s : State) : State :=
  if double then lockstepMismatch s
  else if coreRuns s then setB 0xC0004 8 true (incW 0xC0008 s) else s

/-- RADIO_RESET over the barrier (R313, R435): the barrier end resets the die, also from HOLD and OFF. -/
def radioReset' (m : BMsg) (s : State) : State := barrierRow 0xC .radio m barrierReset s

/-- ISLAND_BROWNOUT (R420): in low-power mode the supply of an island collapses. In HOLD the saved set and the signatures are lost and
the next wake is a reset; the report follows once the Keeper or the Tender runs. -/
def islandBrownout (die : Die) (s : State) : State :=
  match die with
  | .radio =>
    if !islandOnly s ∨ s.power.dead then s
    else
      let st := radioPower s
      let s := radioIslandReset causeBrownout s
      setF 0x10000 1 0 st (setB 0x10004 3 true (wr 0x100A0 0 { s with power := { brown := true, lostSet := st == 2 } }))
  | .host =>
    if hostPower s ≠ 1 then s
    else
      let s := hostIslandReset causeBrownout s
      { s with boot := { s.boot with brown := true } }

def execPowerOn (die : Die) (s : State) : Res := .next (powerOn die s)
def execPinReset (die : Die) (s : State) : Res := .next (pinReset die s)
def execSysResetWrite (value : Word) (s : State) : Res := .next (sysResetWrite value s)
def execHpwResetHostDie (s : State) : Res := .next (hpwResetHostDie s)
def execHpwResetRadioDie (s : State) : Res := .next (hpwResetRadioDie s)
def execRefClockFailure (s : State) : Res := .next (refClockFailure s)
def execHostPllLockLoss (s : State) : Res := .next (hostPllLockLoss s)
def execPowerLoss (s : State) : Res := .next (powerLoss s)
def execLockstepMismatch (s : State) : Res := .next (lockstepMismatch s)
def execEccError (double : Bool) (s : State) : Res := .next (eccError double s)
def execRadioReset (m : BMsg) (s : State) : Res := .next (radioReset' m s)
def execIslandBrownout (die : Die) (s : State) : Res := .next (islandBrownout die s)

end Sys2Proof.Machine
end

