-- ==== Sys2Proof/Machine/HostCmd.lean ====
section
/-! DEFINITION. The requests that the Tender serves itself (R353): how one is taken and answered, and the system, identity, snapshot and
power-status commands (R356, R368, R369, R453, R454). -/

namespace Sys2Proof.Machine

/-! ### Running a request in the Tender -/

/-- The device number the Tender knows: that of the persisted chain configuration (R270, R415). -/
def hostDev (s : State) : Nat := leAt ((coreGet s 257).getD []) 0 1 % 16

/-- The record of the tag of a request being run. -/
def useOf (s : State) (opcode : Nat) (q : Req) : TagUse :=
  (s.tender.tags.find? (fun t => t.tag == q.tag.toNat && t.opcode == opcode)).getD
    { tag := q.tag.toNat, opcode := opcode, target := q.target.toNat % 32, counter := q.counter.toNat, win := q.win.val, pend := false
      radio := false }

/-- The waiting request of the Tender leaves its queue as it begins. -/
def dropHostReq (opcode : Nat) (q : Req) (s : State) : State :=
  { s with tender := { s.tender with reqs := s.tender.reqs.filter (fun r => !(r.2 == reqMsg opcode q && r.1 == q.win.val)) } }

/-- An H command accepts TARGET 0x1E or the attached device's own DEV (R353). -/
def runHost (opcode : Nat) (q : Req) (body : TagUse → State → State) (s : State) : State :=
  let t := useOf s opcode q
  let s := dropHostReq opcode q s
  if q.target.toNat % 32 = 0x1E ∨ q.target.toNat % 32 = hostDev s then body t s else hostAnswer t sBadField [] s

/-- A request of a fixed size, whose bytes shown as 0 are 0 (R354). -/
def hFixed (n : Nat) (q : Req) (t : TagUse) (fieldsOk : Bool) (body : State → State) (s : State) : State :=
  if lenOf q ≠ n then hostAnswer t sBadLength [] s else if !fieldsOk then hostAnswer t sBadField [] s else body s

/-! ### System and identity (R356) -/

/-- NOP. -/
def nopCmd (q : Req) (s : State) : State := runHost 0x0101 q (fun t => hFixed 0 q t true (hostAnswer t sOk [])) s

/-- Core-clock periods in whole seconds (R14). -/
def ageSeconds (n : Nat) : Nat := n * 100000 / (65536 * 1000000000)

/-- SYS_STATUS. -/
def sysStatus (q : Req) (s : State) : State :=
  runHost 0x0102 q (fun t => hFixed 0 q t true (fun s => hostAnswer t sOk
    (leBytes 1 (hgetF s 0x1000 1 0) ++ leBytes 1 (hgetF s 0x1000 5 4) ++ leBytes 1 (hgetF s 0x2000 1 0) ++
      leBytes 1 (if s.tender.netSeen then s.tender.netState else 0xFF) ++ leBytes 1 (hostDev s) ++ leBytes 3 0 ++
      leBytes 4 s.tender.radioResets ++ leBytes 4 (ageSeconds (s.age - s.tender.start))) s)) s

/-- 10 ms and 100 ms in core clocks. -/
def ms10 : Nat := 6553600
def ms100 : Nat := 65536000

/-- SYS_RESET: the answer, and 10 ms later the guarded write of HPW_RESET, which the idle block performs (log entry 23). -/
def sysReset (q : Req) (s : State) : State :=
  runHost 0x8103 q (fun t => hFixed 4 q t (decide (1 ≤ fld q 0 1) && decide (fld q 0 1 ≤ 3) && zeros q 1 3) (fun s =>
    hostAnswer t sOk [] { s with boot := { s.boot with due := fld q 0 1, dueAge := s.age + ms10 } })) s

/-- The registers that SETTINGS_SAVE persists (R356): band, channel plan, path and transmit enables, time source, slot, beacon, relay and
Mooring port configuration, FRD and OPQ policy registers, and sensor limits. -/
def savedRegs : List Nat :=
  [0x38000, 0x38004, 0x38008] ++
    (List.range 64).flatMap (fun c => [4, 8, 0xC, 0x10, 0x18, 0x1C, 0x20].map (fun o => 0x50000 + c * 0x400 + o)) ++
    [0x30000, 0x31000, 0x32000, 0x33000, 0x34000, 0x60008, 0x64008] ++ [0x20020, 0x20030, 0x20034, 0x20038, 0x2003C] ++
    [0x7800C, 0x78010, 0x78014, 0x78018, 0x78020, 0x78024, 0x78028, 0x78030, 0x78038, 0x7803C, 0x78040, 0x78044, 0x78000] ++
    [0xA0004, 0xA000C, 0xA8004, 0xA800C] ++ [0xB0000, 0xB0004, 0xB0008, 0xB000C] ++
    (List.range 6).map (fun i => 0xD0080 + 4 * i) ++ (List.range 8).map (fun i => 0xD00C0 + 4 * i)

/-- SETTINGS_SAVE (R356): a configuration record in the active bank. DESIGN CHOICE (log entry 91): while the radio die is not ready the
record last saved stays. -/
def settingsSave (q : Req) (s : State) : State :=
  runHost 0x0105 q (fun t => hFixed 0 q t true (fun s =>
    if !(getBank s s.settings.active).valid then hostAnswer t sFlash [] s
    else
      let s := if s.tender.radioReady then
          setBank s.settings.active { getBank s s.settings.active with config := some (savedRegs.map (fun o => (o, rd s o))), extra := s.mac.extra } s
        else s
      hostAnswer t sOk [] s)) s

/-- SETTINGS_DEFAULT: the next boot formats a bank (R356, R416). -/
def settingsDefault (q : Req) (s : State) : State :=
  runHost 0x8106 q (fun t => hFixed 0 q t true (fun s =>
    hostAnswer t sOk [] { s with settings := { s.settings with resetNext := true } })) s

/-- The IMG_VER of the header of a slot (R402, R405). -/
def slotBase (slot : Nat) : Nat := if slot = 0 then 0x080000 else 0x680000
def slotHeader (s : State) (slot : Nat) : List Byte := flBytes s (slotBase slot) 0x700
def imgVer (s : State) (slot : Nat) : Nat := leAt (slotHeader s slot) 0x0C 4

/-- ID_GET; the versions are those of the active slot's header, whose one IMG_VER serves all three (log entry 92). -/
def idGet (q : Req) (s : State) : State :=
  runHost 0x0201 q (fun t => hFixed 0 q t true (fun s =>
    let v := if s.boot.mode = 2 then 0 else imgVer s s.boot.slot
    hostAnswer t sOk
      (leBytes 4 (hrd s 0).toNat ++ leBytes 1 (hrd s 4).toNat ++ leBytes 3 0 ++ leBytes 8 Config.eui.toNat ++ leBytes 4 v ++ leBytes 4 v ++
        leBytes 4 v ++ leBytes 1 s.boot.slot ++ leBytes 3 0 ++
        leBytes 4 (if s.tender.last = 0xFFFFFFFF then 0 else s.tender.last + 1)) s)) s

/-- CERT_READ. -/
def certRead (q : Req) (s : State) : State :=
  runHost 0x0202 q (fun t => hFixed 8 q t (decide (fld q 0 1 < 8) && zeros q 1 1 && decide (fld q 4 2 ≤ 4076) && zeros q 6 2) (fun s =>
    let cert := Config.cert (fld q 0 1)
    if cert.isEmpty then hostAnswer t sNotFound [] s
    else if cert.length < fld q 2 2 + fld q 4 2 then hostAnswer t sBadLength [] s
    else hostAnswer t sOk (leBytes 2 cert.length ++ leBytes 2 0 ++ (cert.drop (fld q 2 2)).take (fld q 4 2)) s)) s

/-! ### Power status, the operator command key, the snapshot -/

/-- POWER_STATUS (R368). -/
def powerStatus (q : Req) (s : State) : State :=
  runHost 0x0A02 q (fun t => hFixed 0 q t true (fun s =>
    let st := rd s 0x10000
    hostAnswer t sOk
      (leBytes 1 (hgetF s 0x1000 5 4) ++ leBytes 1 (hgetF s 0x1000 1 0) ++
        leBytes 1 (if bitOf st 14 then fieldOf st 13 12 else 0xFF) ++ leBytes 1 0 ++ leBytes 2 (getF s 0x1001C 9 0) ++ leBytes 2 0 ++
        leBytes 4 (rd s 0x10018).toNat) s)) s

/-- OCK_REPLACE (R341, R369): the new key under the current KT; LAST and P start again. -/
def ockReplace (q : Req) (s : State) : State :=
  runHost 0x8B04 q (fun t => hFixed 24 q t true (fun s =>
    match kwUnwrap (natsOf (ktOf s)) (natsOf q.payload) with
    | none => hostAnswer t sAuth [] s
    | some k =>
      if !(getBank s s.settings.active).valid then hostAnswer t sFlash [] s
      else
      let s := corePut 256 (leBytes 4 0) { s with settings := { s.settings with ock := some (bytesOf k) } }
      hostAnswer t sOk [] { s with tender := { s.tender with last := 0, persisted := 0 } })) s

/-- The entries of the trouble log from an index, at most `n` (R453): its indices are consecutive. -/
def logFrom (log : List (List Byte)) (oldest start n : Nat) : List (List Byte) := (log.drop (start - oldest)).take n

/-- The answer of LOG_READ (R372, R453): the later of FROM and OLDEST, in index order. -/
def logAnswer (log : List (List Byte)) (oldest next start n : Nat) : List Byte :=
  let es := logFrom log oldest (max start oldest) n
  leBytes 4 oldest ++ leBytes 4 next ++ leBytes 1 es.length ++ leBytes 7 0 ++ es.flatten

/-- SNAP_READ (R454): OLDEST and NEXT are the lowest index held and the highest plus 1. -/
def snapRead (q : Req) (s : State) : State :=
  runHost 0x0D02 q (fun t => hFixed 8 q t (decide (fld q 4 1 ≤ 127) && zeros q 5 3) (fun s =>
    match s.tender.snapshot with
    | none => hostAnswer t sNotFound [] s
    | some log =>
      let oldest := leAt (log.headD []) 0 4
      let next := match log.getLast? with
        | some e => leAt e 0 4 + 1
        | none => 0
      let es := (log.filter (fun e => decide (max (fld q 0 4) oldest ≤ leAt e 0 4))).take (fld q 4 1)
      hostAnswer t sOk (leBytes 4 oldest ++ leBytes 4 next ++ leBytes 1 es.length ++ leBytes 7 0 ++ es.flatten) s)) s

def execNop (q : Req) (s : State) : Res := .next (nopCmd q s)
def execSysStatus (q : Req) (s : State) : Res := .next (sysStatus q s)
def execSysReset (q : Req) (s : State) : Res := .next (sysReset q s)
def execSettingsSave (q : Req) (s : State) : Res := .next (settingsSave q s)
def execSettingsDefault (q : Req) (s : State) : Res := .next (settingsDefault q s)
def execIdGet (q : Req) (s : State) : Res := .next (idGet q s)
def execCertRead (q : Req) (s : State) : Res := .next (certRead q s)
def execPowerStatus (q : Req) (s : State) : Res := .next (powerStatus q s)
def execOckReplace (q : Req) (s : State) : Res := .next (ockReplace q s)
def execSnapRead (q : Req) (s : State) : Res := .next (snapRead q s)

end Sys2Proof.Machine
end

