-- ==== Sys2Proof/Machine/RadioCmd.lean ====
section
/-! DEFINITION. The Eskel commands for the channel plan and the radio (R358-R360, R372 PATH_TEST), what completes them, and the commands
whose effect may end one of them: applies, path substitution, health, calibration and synthesiser locks (R30, R78, R80-R83, R86-R88, R95,
R108). -/

namespace Sys2Proof.Machine

/-! ### Channel entries (R358, R359) -/

/-- The bytes and bits of an entry that R358 shows as 0. -/
def planZeros (e : List Byte) : Bool :=
  decide (leAt e 0 1 < 64) && (leAt e 1 1 &&& 0x8E) == 0 && decide (leAt e 2 2 < 4096) && (leAt e 0xC 1 &&& 0x8E) == 0 &&
    (leAt e 0xD 1 &&& 0x0C) == 0 && leAt e 0xE 2 == 0

/-- The registers of an entry, as offset in the channel and value. -/
def planRegs (e : List Byte) : List (Nat × Nat) :=
  [(4, leAt e 1 1 % 2 + leAt e 1 1 / 16 % 8 * 16), (8, leAt e 4 4), (0xC, leAt e 2 2),
   (0x10, leAt e 0xD 1 % 4 + leAt e 0xD 1 / 16 * 256), (0x18, leAt e 0xC 1 % 2), (0x1C, leAt e 0xC 1 / 16 % 8), (0x20, leAt e 8 4)]

/-- An entry written to the shadow of its channel, which no hold keeps back. -/
def planWrite (e : List Byte) (s : State) : State :=
  let b := chBase (leAt e 0 1)
  setB b 0 false (forAll (planRegs e) (fun p => shadowPut b (b + p.1) (BitVec.ofNat 32 p.2)) s)

/-- A channel disabled: only EN is written. -/
def planOff (ch : Nat) (s : State) : State :=
  let b := chBase ch
  setB b 0 false (shadowPut b (b + 4) (withBit (rd s (b + 4)) 0 false) (dropShadows b (b + 0x400) s))

/-- The code of the first check of R120 that an entry fails. -/
def planCode (s : State) (e : List Byte) : Nat := chanCheck (leAt e 0 1) (planWrite e s)

/-- The first entry that fails, with its code: 0 for a channel listed twice. -/
def planFail (s : State) : List Nat → List (List Byte) → Option (Nat × Nat)
  | _, [] => none
  | seen, e :: es =>
    let ch := leAt e 0 1
    if planCode s e ≠ 0 then some (ch, planCode s e)
    else if seen.contains ch then some (ch, 0)
    else planFail s (ch :: seen) es

/-- An entry as PLAN_GET gives it: the active values. -/
def planEntry (s : State) (ch : Nat) : List Byte :=
  let r := fun o => rd s (chBase ch + o)
  leBytes 1 ch ++ leBytes 1 ((r 4).toNat &&& 0x71) ++ leBytes 2 (fieldOf (r 0xC) 11 0) ++ leBytes 4 (r 8).toNat ++ leBytes 4 (r 0x20).toNat ++
    leBytes 1 (fieldOf (r 0x18) 0 0 + 16 * fieldOf (r 0x1C) 2 0) ++ leBytes 1 (fieldOf (r 0x10) 1 0 + 16 * fieldOf (r 0x10) 11 8) ++ leBytes 2 0

/-- The transmit calibrations of a plan requested (R100): every frequency of an enabled channel, on SYN2 and SYN3. -/
def planCalibrate (s : State) : State :=
  let fs := ((List.range 64).filter (fun c => getB s (chBase c + 4) 0)).map (fun c => (rd s (chBase c + 8)).toNat)
  forAll [2, 3] (fun y s => queueWork y (fs.filterMap (entryFor s y)).eraseDups s) s

/-- A plan command completes once none of its channels has an apply pending. -/
def planSettle (s : State) : State :=
  forAll (s.keeper.pend.filter (fun p => p.opcode == 0x0301 || p.opcode == 0x0303)) (fun p s =>
    if p.info.any (fun b => applyPending s (chBase b.toNat)) then s
    else planCalibrate (finishPend (· == p) sOk [] s)) s

/-- The waiting plan commands hold a channel (R336, R359). -/
def planHeld (s : State) (ch : Nat) : Bool := holdsAny s 0x0301 || holds s 0x0303 ch

/-- The entries of a request from an offset. -/
def planEntries (q : Req) (o n : Nat) : List (List Byte) := (List.range n).map (fun i => (q.payload.drop (o + 16 * i)).take 16)

/-- Entries that pass are written, the unlisted channels disabled where asked, and the command waits for their applies. -/
def planLoadRun (c : Caller) (obj : Nat) (es : List (List Byte)) (offs : List Nat) (s : State) : State :=
  if !es.all planZeros then reply c sBadField [] s
  else match planFail s [] es with
    | some f => reply c sBadField (leBytes 1 f.1 ++ leBytes 1 f.2 ++ leBytes 2 0) s
    | none =>
      let chs := es.map (fun e => leAt e 0 1) ++ offs
      let s := forAll offs planOff (forAll es planWrite s)
      planSettle (replyPending c obj (chs.map (fun n => BitVec.ofNat 8 n)) s)

/-- PLAN_LOAD. -/
def planLoad (q : Req) (s : State) : State :=
  runCmd 0x0301 q (fun c s =>
    let n := fld q 0 1
    if lenOf q < 4 then reply c sBadLength [] s
    else if 64 < n ∨ 2 ≤ fld q 1 1 ∨ !zeros q 2 2 then reply c sBadField [] s
    else if lenOf q ≠ 4 + 16 * n then reply c sBadLength [] s
    else if holdsAny s 0x0301 ∨ holdsAny s 0x0303 then reply c sBusy [] s
    else
      let es := planEntries q 4 n
      let offs := if fld q 1 1 = 1 then (List.range 64).filter (fun ch => !(es.any (fun e => leAt e 0 1 == ch))) else []
      planLoadRun c 0 es offs s) s

/-- PLAN_GET. -/
def planGet (q : Req) (s : State) : State :=
  runCmd 0x0302 q (fun c => fixed 0 q c (fun s => reply c sOk ((List.range 64).flatMap (planEntry s)) s)) s

/-- CH_SET. -/
def chSet (q : Req) (s : State) : State :=
  runCmd 0x0303 q (fun c => fixed 16 q c (fun s =>
    if planHeld s (fld q 0 1) then reply c sBusy [] s else planLoadRun c (fld q 0 1) [q.payload] [] s)) s

/-- Words as an answer payload. -/
def wordsOf (s : State) (offs : List Nat) : List Byte := offs.flatMap (fun o => leBytes 4 (rd s o).toNat)

/-- CH_STATS: the actions of R142, then a read. -/
def chStats (q : Req) (s : State) : State :=
  runCmd 0x0304 q (fun c => fixed 4 q c (fun s =>
    let ch := fld q 0 1
    if 64 ≤ ch ∨ 4 ≤ fld q 1 1 ∨ !zeros q 2 2 then reply c sBadField [] s
    else
      let s := onlyIf ((fld q 1 1).testBit 1) (clearStats ch) (onlyIf ((fld q 1 1).testBit 0) (latchStats ch) s)
      reply c sOk (wordsOf s ((List.range 15).map (fun k => chBase ch + 0x40 + 4 * k))) s)) s

/-- CH_TRACE. -/
def chTrace (q : Req) (s : State) : State :=
  runCmd 0x0305 q (fun c => fixed 4 q c (fun s =>
    let b := chBase (fld q 0 1)
    if 64 ≤ fld q 0 1 ∨ !zeros q 1 3 then reply c sBadField [] s
    else reply c sOk (wordsOf s ((b + 0x180) :: (List.range 32).map (fun k => b + 0x100 + 4 * k))) s)) s

/-! ### Radio (R360) -/

/-- RADIO_STATUS. -/
def radioStatus (q : Req) (s : State) : State :=
  runCmd 0x0401 q (fun c => fixed 0 q c (fun s => reply c sOk
    (wordsOf s ([0x38000, 0x38004, 0x38008, 0x30004, 0x31004, 0x32004, 0x33004, 0x34004, 0x6000C, 0x6400C, 0x40004, 0x41004, 0x42004, 0x43004])) s)) s

/-- BAND_CFG: the three registers of R92 are written, which every path being OFF allows (R88). -/
def bandCfg (q : Req) (s : State) : State :=
  runCmd 0x0402 q (fun c => fixed 12 q c (fun s =>
    if 2 ≤ fld q 0 1 ∨ 3 ≤ fld q 1 1 ∨ 3 ≤ fld q 2 1 ∨ !zeros q 3 1 then reply c sBadField [] s
    else if holdsAny s 0x0404 then reply c sBusy [] s
    else if [0, 1, 2, 3].any (fun p => pathState s p != 0) then reply c sWrongState [] s
    else reply c sOk [] (bandSync (wr 0x38008 (BitVec.ofNat 32 (fld q 8 4)) (wr 0x38004 (BitVec.ofNat 32 (fld q 4 4))
      (bandCfgPut (BitVec.ofNat 32 (fld q 0 1 + 16 * fld q 1 1 + 256 * fld q 2 1)) s)))))) s

/-- A write of RXPS_CFG: path S disabled leaves what it serves as when a higher cause takes it (R80). -/
def rxpsCfgWrite (v : Word) (s : State) : State :=
  let was := getB s 0x34000 0
  let s := wr 0x34000 (v &&& 0xF3) s
  if was && !bitOf v 0 && sRole s != 0 then setServes 7 (setRole 0 (sPreempted s))
  else if !was && bitOf v 0 && sRole s == 0 then sFree s
  else s

/-- PATH_ENABLE. -/
def pathEnable (q : Req) (s : State) : State :=
  runCmd 0x0403 q (fun c => fixed 4 q c (fun s =>
    let ps := fld q 0 1
    let lo := fun p => bandLo s (pathBand s p)
    if 32 ≤ ps ∨ 4 ≤ fld q 1 1 ∨ !zeros q 2 2 ∨
        ([0, 1, 2, 3].any (fun p => ps.testBit p && (decide (lo p < 380000000) || decide (1050000000 < lo p)))) then reply c sBadField [] s
    else
      let s := forAll ([0, 1, 2, 3] : List (Fin 4)) (fun p s => rxpPathCfgWrite p (withBit (rd s (rxBase p.val)) 0 (ps.testBit p.val)) s) s
      let s := rxpsCfgWrite (withBit (rd s 0x34000) 0 (ps.testBit 4)) s
      let s := forAll ([0, 1] : List (Fin 2)) (fun t s => txpEnWrite t (withBit (rd s (txBase t.val + 8)) 0 ((fld q 1 1).testBit t.val)) s) s
      reply c sOk [] (settle s))) s

/-- RADIO_RETUNE: the retune waits for the next slot boundary. -/
def radioRetune (q : Req) (s : State) : State :=
  runCmd 0x0404 q (fun c => fixed 8 q c (fun s =>
    let b := fld q 0 1
    let f := fld q 4 4
    if 2 ≤ b ∨ !zeros q 1 3 ∨ f < 380000000 ∨ 1050000000 < f ∨ (b = 1 ∧ !getB s 0x38000 0) then reply c sBadField [] s
    else if holds s 0x0404 b then reply c sBusy [] s
    else replyPending c b [] { s with pathS := { s.pathS with retune := tabSet (fun _ => none) s.pathS.retune b (some f) } })) s

/-- The enabled channels inside a band, as a mask. -/
def bandMask (s : State) (b : Nat) : Nat :=
  ((List.range 64).map (fun ch =>
    if getB s (chBase ch + 4) 0 && inBand s b (rd s (chBase ch + 8)).toNat (filterHz (getF s (chBase ch + 4) 6 4)) then 2 ^ ch else 0)).sum

/-- A retune completes when its band's synthesiser has locked, or has failed its calibration (R88, R108). The channels of the band detect
again once the residual cancellers have converged, 50 us later. -/
def retuneEnd (b : Nat) (s : State) : State :=
  match s.keeper.pend.find? (fun p => p.opcode == 0x0404 && p.obj == b && !p.info.isEmpty) with
  | none => s
  | some p =>
    if synState s b = 4 then
      finishPend (· == p) sOk p.info
        { s with pathS := { s.pathS with resume := tabSet (fun _ => 0) s.pathS.resume b (s.ntb.clk + clocksOfNs 50000) } }
    else if synState s b = 1 then finishPend (· == p) (resultStatus 11) [] s
    else s

/-- BAND_RETUNE (R88): at the slot boundary the band's receptions are abandoned and its synthesiser moves; the residual cancellers of its
paths converge afresh. OUTSIDE is kept for the completion. -/
def bandRetune (band : Fin 2) (s : State) : State :=
  let b := band.val
  match tabGet (fun _ => none) s.pathS.retune b with
  | none => s
  | some f =>
    let s := reachSlot s
    let was := bandMask s b
    let s := wr (0x38004 + 4 * b) (BitVec.ofNat 32 f) (abandonBand b s)
    let out := was &&& ((2 ^ 64 - 1) ^^^ bandMask s b)
    let s := onlyIf (decide (1 ≤ sRole s) && decide (sRole s ≤ 2) && pathBand s (sServes s) == b) (wr 0x34010 (BitVec.ofNat 32 f)) s
    let s := forAll ((bandPaths s b).filter (fun p => pathState s p != 0)) (fun p => setB (rxBase p + 0x14) 8 true) s
    let s := { s with
      pathS := { s.pathS with retune := tabSet (fun _ => none) s.pathS.retune b none }
      keeper := { s.keeper with pend := s.keeper.pend.map (fun p => if p.opcode = 0x0404 ∧ p.obj = b then { p with info := leBytes 8 out } else p) } }
    retuneEnd b (if lockedTo s b f then s else hop b f (pathsHalt b s))

/-- The bins of a survey (R83): one more than the whole bins between START and STOP. -/
def surveyBins (start stop bin : Nat) : Nat := (stop - start) / ([12500, 25000, 50000, 100000, 200000].getD bin 12500) + 1

/-- SURVEY. -/
def survey (q : Req) (s : State) : State :=
  runCmd 0x0405 q (fun c => fixed 12 q c (fun s =>
    if 5 ≤ fld q 8 1 ∨ !zeros q 10 2 then reply c sBadField [] s
    else if fld q 4 4 < fld q 0 4 ∨ 65536 < surveyBins (fld q 0 4) (fld q 4 4) (fld q 8 1) then reply c sBadLength [] s
    else if holdsAny s 0x0405 then reply c sBusy [] s
    else if !getB s 0x34000 0 ∨ !getB s 0x34000 7 ∨ sRole s ≠ 0 then reply c sBusy [] (onlyIf (sRole s != 0) (setB 0x34004 17 true) s)
    else
      let s := wr 0x34028 (BitVec.ofNat 32 (fld q 8 1 + 256 * fld q 9 1)) (wr 0x34024 (BitVec.ofNat 32 (fld q 4 4))
        (wr 0x34020 (BitVec.ofNat 32 (fld q 0 4)) s))
      replyPending c 0 [] (presentCause 3 7 { s with pathS := { s.pathS with bins := [], partialBins := false } }))) s

/-- SURVEY_DONE (R83): the bins measured; of a preempted or cancelled survey those so far. -/
def surveyDone (bins : List Byte) (s : State) : State :=
  let n := surveyBins (rd s 0x34020).toNat (rd s 0x34024).toNat (getF s 0x34028 2 0)
  if sRole s ≠ 3 ∧ !s.pathS.partialBins then s
  else
    let cut := s.pathS.partialBins
    let s := if cut then s else reachClk (s.pathS.since + (surveyLast s + 1) * surveyDwell s) s
    let s := { s with pathS := { s.pathS with bins := bins.take n, partialBins := false } }
    let s := if sRole s = 3 then sFree (wr 0x34010 (BitVec.ofNat 32 (surveyCentre s (surveyLast s))) s) else s
    finishPend (fun p => p.opcode == 0x0405) sOk (leBytes 4 (bins.take n).length ++ leBytes 1 (if cut then 1 else 0) ++ leBytes 3 0) s

/-- SURVEY_READ. -/
def surveyRead (q : Req) (s : State) : State :=
  runCmd 0x0406 q (fun c => fixed 8 q c (fun s =>
    let b := s.pathS.bins
    if 4076 < fld q 4 2 ∨ !zeros q 6 2 then reply c sBadField [] s
    else if b.length < fld q 0 4 + fld q 4 2 then reply c sBadLength [] s
    else reply c sOk (leBytes 4 b.length ++ (b.drop (fld q 0 4)).take (fld q 4 2)) s)) s

/-! ### PATH_TEST (R80, R372) -/

/-- Whether path S serves or aligns for the TEST cause of a path. -/
def testServed (s : State) (p : Nat) : Bool := (sRole s == 1 || sRole s == 2) && sCause s == 2 && sServes s == p

/-- A start that neither runs nor waits any more was preempted and ends ABORTED; an end completes once the path has returned. -/
def testSettle (s : State) : State :=
  forAll (s.keeper.pend.filter (fun p => p.opcode == 0x0F02)) (fun p s =>
    if p.info = [1] then
      if testServed s p.obj ∨ s.pathS.waiting.contains p.obj then s
      else finishPend (· == p) sAborted [] { s with pathS := { s.pathS with test := s.pathS.test.filter (· != p.obj) } }
    else if testServed s p.obj then s
    else finishPend (· == p) sOk [] s) s

/-- PATH_TEST. -/
def pathTest (q : Req) (s : State) : State :=
  runCmd 0x0F02 q (fun c => fixed 4 q c (fun s =>
    let p := fld q 0 1
    if 4 ≤ p ∨ 2 ≤ fld q 1 1 ∨ !zeros q 2 2 then reply c sBadField [] s
    else if fld q 1 1 = 1 then
      if holds s 0x0F02 p ∨ s.pathS.test.contains p then reply c sBusy [] s
      else testSettle (presentCause 2 p (replyPending c p [1] { s with pathS := { s.pathS with test := s.pathS.test ++ [p] } }))
    else
      let s := replyPending c p [0] { s with pathS := { s.pathS with test := s.pathS.test.filter (· != p), waiting := s.pathS.waiting.filter (· != p) } }
      let s := if sRole s = 1 ∧ testServed s p then sFree s
        else if testServed s p then { s with pathS := { s.pathS with testEnded := true } } else s
      testSettle s)) s

/-- PATH_CALIBRATION_DONE: a path under test completes its command. -/
def pathCalDone (path : Fin 5) (s : State) : State :=
  -- the calibration measures the path's group delay as well (R493)
  let s := if calibrates s path.val then setB 0xE0004 path.val true (pathCalibrationDone path s) else s
  if sRole s = 2 ∧ testServed s path.val then finishPend (fun p => p.opcode == 0x0F02 && p.obj == path.val && p.info == [1]) sOk [] s else s

def execPlanLoad (q : Req) (s : State) : Res := .next (planLoad q s)
def execPlanGet (q : Req) (s : State) : Res := .next (planGet q s)
def execChSet (q : Req) (s : State) : Res := .next (chSet q s)
def execChStats (q : Req) (s : State) : Res := .next (chStats q s)
def execChTrace (q : Req) (s : State) : Res := .next (chTrace q s)
def execRadioStatus (q : Req) (s : State) : Res := .next (radioStatus q s)
def execBandCfg (q : Req) (s : State) : Res := .next (bandCfg q s)
def execPathEnable (q : Req) (s : State) : Res := .next (pathEnable q s)
def execRadioRetune (q : Req) (s : State) : Res := .next (radioRetune q s)
def execSurvey (q : Req) (s : State) : Res := .next (survey q s)
def execSurveyRead (q : Req) (s : State) : Res := .next (surveyRead q s)
def execSurveyDone (bins : List Byte) (s : State) : Res := .next (surveyDone bins s)
def execBandRetune (band : Fin 2) (s : State) : Res := .next (bandRetune band s)
def execPathTest (q : Req) (s : State) : Res := .next (pathTest q s)
def execApplyBoundary (u : ApplyUnit) (s : State) : Res := .next (planSettle (applyBoundary u s))
def execSatLong (path : Fin 4) (s : State) : Res := .next (testSettle (satLong path s))
def execPathSubst (s : State) : Res := .next (pathSubst s)
def execPathReturn (s : State) : Res := .next (testSettle (pathReturn s))
def execHealthCheck (path : Fin 4) (fails : BitVec 5) (s : State) : Res := .next (testSettle (healthCheck path fails s))
def execPathCalibrationDone (path : Fin 5) (s : State) : Res := .next (testSettle (pathCalDone path s))
def execSynLock (n : Fin 4) (s : State) : Res := .next (settle (retuneEnd n.val (synLock n s)))
def execSynCalTimeout (n : Fin 4) (s : State) : Res := .next (settle (retuneEnd n.val (synCalTimeout n s)))

end Sys2Proof.Machine
end

