-- ==== Sys2Proof/Machine/NodeCmd.lean ====
section
/-! DEFINITION. The Eskel commands for nodes, downlinks and broadcasts, and CANCEL (R357, R361-R364). -/

namespace Sys2Proof.Machine

/-! ### Contexts (R361, R362) -/

/-- A release of a copy held elsewhere: the context with ROLE 0 and no key (log entry 57). -/
def sendRelease (c : Ctx) (dest : Nat) (s : State) : State :=
  sendMr 4 0x40 dest (leBytes 1 0 ++ leBytes 3 0 ++ ctxBytes { c with role := 0 } ++ leBytes 24 0) s

/-- PHY and FEC of a node or frame agree with R122. -/
def phyOk (mode : Nat) (fec : Bool) : Bool := if mode = 0 then fec else mode == 1 || !fec

/-- The device that most recently delivered a join request of an EUI within 600 s (R362). -/
def deliveredBy (s : State) (eui : Nat) : Option Nat :=
  (s.nodes.delivered.reverse.find? (fun x => x.1 == eui && decide (s.ntb.clk ≤ x.2.2 + clocksOfNs 600000000000))).map (fun x => x.2.1)

/-- The fields of NODE_ADD outside their lists. -/
def nodeAddFields (q : Req) : Bool :=
  decide (1 ≤ fld q 8 3) && decide (fld q 8 3 ≤ 0xFFFFFE) && decide (fld q 11 1 < 16) && fld q 12 3 != 0 && decide (fld q 15 1 < 64) &&
    fld q 16 8 != 0 && decide (2 ≤ fld q 29 1) && decide (fld q 29 1 ≤ 128) && zeros q 31 1 && zeros q 34 2

/-- The HOME context of a NODE_ADD (R362). -/
def newHome (q : Req) (s : State) : Ctx :=
  { addr := fld q 8 3, role := 1, eui := fld q 0 8, nid := devNid s, ci := fld q 12 3, hop := fld q 15 1, chmap := fld q 16 8, phy := fld q 11 1,
    pre := fld q 29 1, tempOfs := fld q 28 1, supTo := fld q 24 2, txOfs := fld q 26 2, homeDev := devOf s, replDev := devOf s,
    lastS := secOf s.ntb.net % 2 ^ 32, homeSince := secOf s.ntb.net % 2 ^ 32, frond := frondHome s (fld q 8 3) }

/-- NODE_ADD on the device that delivered the join request. "Held in the chain" is judged by this device's directory (log entry 96). -/
def nodeAddHere (q : Req) (c : Caller) (s : State) : State :=
  let jk := getKey s (fld q 30 1)
  if s.nodes.waits.any (fun w => w.eui == fld q 0 8 || (getCtx s w.ctx).addr == fld q 8 3) then reply c sBusy [] s
  else if (findEui s (fld q 0 8)).isSome ∨ (findNode s (fld q 8 3)).isSome ∨ devNid s = 0 then reply c sWrongState [] s
  else if !phyOk (fld q 11 1 % 8) ((fld q 11 1).testBit 3) then reply c sBadMode [] s
  else if !jk.valid ∨ !jk.usage.testBit 1 then reply c sKeyUsage [] s
  else match slotFor s with
    | none => reply c sStoreFull [] (raiseEvt 0xD 0x135 [] (setB 0xB0010 8 true s))
    | some n =>
      let s := freeCtx n s
      let s := setRun n { reserve := 64 } (setCtx n (newHome q s) s)
      let s := replyPending c n [] s
      let w : JoinWait := { tag := c.tag, ctx := n, eui := fld q 0 8, jkey := fld q 30 1,
                            expires := if fld q 32 2 = 0 then none else some (s.ntb.clk + clocksOfNs (fld q 32 2 * 1000000000)) }
      makeReplica n [] { s with nodes := { s.nodes with waits := s.nodes.waits ++ [w] } }

/-- NODE_ADD (R362). -/
def nodeAdd (q : Req) (s : State) : State :=
  let c := callerOf s 0x0501 q
  let s := takeReq 0x0501 q s
  if lenOf q ≠ 36 then reply c sBadLength [] s
  else if !nodeAddFields q ∨ (c.origin = 16 ∧ c.target = 0x1F) then reply c sBadField [] s
  else match deliveredBy s (fld q 0 8) with
    | none => reply c sNotFound [] s
    | some d =>
      if d = devOf s then nodeAddHere q c s
      else if c.origin = 16 then askDevices c false [d] [d] (reqMsg 0x0501 q) s
      else reply c sNotFound [] s

/-- A waiting NODE_ADD ends without its response: context and replica are freed (R357, R362). -/
def freeJoin (w : JoinWait) (status : Nat) (s : State) : State :=
  let c := getCtx s w.ctx
  let s := forAll (usedFor s (fun u => u == .joinResponse w.tag)) (fun e s => opCancel e (setUse e .none s)) s
  let s := { s with nodes := { s.nodes with waits := s.nodes.waits.filter (fun x => x.tag != w.tag) } }
  let s := if c.replDev = devOf s then s else sendRelease c c.replDev s
  finishPend (fun p => p.opcode == 0x0501 && p.tag == w.tag) status [] (freeCtx w.ctx s)

/-- NODE_REMOVE. -/
def nodeRemove (q : Req) (s : State) : State :=
  runNode 0x0502 q (fun n c => fixed 4 q c (fun s =>
    if !zeros q 3 1 then reply c sBadField [] s
    else if s.nodes.waits.any (fun w => w.ctx == n) ∨ (getRun s n).conn.isSome then reply c sBusy [] s
    else
      let s := replyPending c n [] s
      let x := getCtx s n
      let s := forAll (getRun s n).dls (fun d s => dropDl n d.tag d.origin sCancelled s) s
      let s := forAll (othersReachable s) (sendRelease x) s
      finishPend (fun p => p.opcode == 0x0502 && p.tag == c.tag && p.origin == c.origin) sOk [] (freeCtx n s))) s

/-- NODE_GET. -/
def nodeGet (q : Req) (s : State) : State :=
  runNode 0x0503 q (fun n c => fixed 4 q c (fun s =>
    if !zeros q 3 1 then reply c sBadField [] s
    else reply c sOk (leBytes 1 (devOf s) ++ leBytes 3 0 ++ ctxBytes (getCtx s n)) s)) s

/-- NODE_LIST: the contexts of some roles from an index on. -/
def nodeList (q : Req) (s : State) : State :=
  runCmd 0x0504 q (fun c => fixed 4 q c (fun s =>
    let r := fld q 0 1
    if 8 ≤ r ∨ !zeros q 1 1 then reply c sBadField [] s
    else
      let all := s.ctx.filter (fun p => p.2.role != 0 && decide (fld q 2 2 ≤ p.1) && (r == 0 || r.testBit (p.2.role - 1)))
      let got := if r = 0 then [] else all.take 678
      let next := match (all.drop got.length).head? with
        | some p => p.1
        | none => 0xFFFFFFFF
      reply c sOk (leBytes 2 got.length ++ leBytes 2 0 ++ leBytes 4 next ++
        got.flatMap (fun p => leBytes 2 p.1 ++ leBytes 3 p.2.addr ++ ((ctxBytes p.2).drop 3).take 1)) s)) s

/-- The next event at which the home can send (R363): the one that is not yet scheduled. -/
def nextSend (s : State) (n : Nat) : Nat := (getCtx s n).k + (if (getRun s n).win.isSome then 1 else 0)

/-- NODE_CONN (R363). -/
def nodeConn (q : Req) (s : State) : State :=
  runNode 0x0505 q (fun n c => atLeast 20 2046 q c (fun s =>
    let what := fld q 3 1
    let hop := fld q 12 1
    if what = 0 ∨ 4 ≤ what ∨ (what.testBit 0 ∧ fld q 4 8 = 0) ∨ (what.testBit 1 ∧ 64 ≤ hop) ∨ !zeros q 13 3 then reply c sBadField [] s
    else if (getRun s n).conn.isSome ∨ s.nodes.waits.any (fun w => w.ctx == n) then reply c sBusy [] s
    else if (getCtx s n).key = [] then reply c sKeyInvalid [] s
    else if 2 ^ 31 ≤ (fld q 16 4 + 2 ^ 32 - (nextSend s n + 2) % 2 ^ 32) % 2 ^ 32 then reply c sLate [] s
    else
      let d : Downlink := { tag := c.tag, target := c.target, origin := c.origin, flags := 5, expires := none, data := q.payload.drop 20 }
      setRun n { getRun s n with conn := some { what := what, chmap := fld q 4 8, hop := hop, applyK := fld q 16 4, dl := d } }
        (replyPending c n [] s))) s

/-- NODE_SUPERVISE. -/
def nodeSupervise (q : Req) (s : State) : State :=
  runNode 0x0506 q (fun n c => fixed 8 q c (fun s =>
    if !zeros q 3 1 ∨ !zeros q 6 2 then reply c sBadField [] s
    else reply c sOk [] (carryConn n (commitCtx n { getCtx s n with supTo := fld q 4 2 } s)))) s

/-! ### Downlinks and broadcasts (R364) -/

/-- DL_SEND. -/
def dlSend (q : Req) (s : State) : State :=
  runNode 0x0601 q (fun n c s =>
    if lenOf q < 8 ∨ 8 + (if (fld q 3 1).testBit 1 then 2022 else 2026) < lenOf q then reply c sBadLength [] s
    else if 8 ≤ fld q 3 1 then reply c sBadField [] s
    else if (getCtx s n).key = [] then reply c sKeyInvalid [] s
    else if 255 ≤ (getCtx s n).dlPend then reply c sBusy [] s
    else
      let life := fld q 4 4
      let d : Downlink := { tag := c.tag, target := c.target, origin := c.origin, flags := fld q 3 1,
                            expires := if life = 0 then none else some (s.ntb.clk + clocksOfNs (life * 1000000)), data := q.payload.drop 8 }
      dlSync n (setRun n { getRun s n with dls := (getRun s n).dls ++ [d] } (replyPending c n [] s))) s

/-- DL_QUEUE. -/
def dlQueue (q : Req) (s : State) : State :=
  runNode 0x0602 q (fun n c => fixed 4 q c (fun s =>
    if !zeros q 3 1 then reply c sBadField [] s
    else
      let ds := (getRun s n).dls
      reply c sOk (leBytes 1 ds.length ++ leBytes 3 0 ++ ds.flatMap (fun d => leBytes 2 d.tag ++ leBytes 1 d.tries ++
        leBytes 1 (if d.fcnt.isSome then 1 else 0) ++ leBytes 4 (d.fcnt.getD 0))) s)) s

/-- The frame of a BCAST_SEND (R182, R364, R526). -/
def bcastFrame (q : Req) (key fcnt : Nat) (s : State) : List Byte :=
  let head := macHeader 1 true false false (fcnt % 256) (devNid s) 0xFFFFFF 0 none ++ secHeader key false false fcnt
  macSeal (getKey s key).key Config.eui.toNat fcnt false false head (q.payload.drop 24)

/-- The entry of a BCAST_SEND: TX or LBT-TX of the Keeper in network time. -/
def bcastEntry (q : Req) (c : Caller) (e key fcnt : Nat) (s : State) : State :=
  let m := fld q 1 1
  let d := descriptor (m % 8) (m.testBit 3) (m.testBit 5) false 0 (bcastFrame q key fcnt s)
  takeEntry e
    { cfg := (if m.testBit 4 then 3 else 2) + 2 ^ 8 * fld q 0 1 + 2 ^ 16 * (m % 8) + 2 ^ 20 * fld q 20 1 + 2 ^ 24 * fld q 2 1
      start := fld q 4 8 * 1000000000 + fld q 12 4, dur := 0, tol := fld q 16 2, pre := fld q 18 2, buf := descAddr e, owner := 16 }
    (setUse e (.broadcast c.tag key fcnt) (pktWrite (descAddr e) d s))

/-- BCAST_SEND. DEDUCED (log entry 97): with no entry free in the pool it ends BUSY. -/
def bcastSend (q : Req) (s : State) : State :=
  runCmd 0x0603 q (fun c => atLeast 24 2050 q c (fun s =>
    let m := fld q 1 1
    let key := fld q 3 1
    let k := getKey s key
    let fcnt := fcntOf s key
    if 64 ≤ fld q 0 1 ∨ 64 ≤ m ∨ 1000000000 ≤ fld q 12 4 ∨ fld q 18 2 < 16 ∨ 1024 < fld q 18 2 ∨ 16 ≤ fld q 20 1 ∨ !zeros q 21 3 then
      reply c sBadField [] s
    else if !phyOk (m % 8) (m.testBit 3) then reply c sBadMode [] s
    else if !k.valid ∨ !k.usage.testBit 0 then reply c sKeyUsage [] s
    else if devNid s = 0 then reply c sWrongState [] s
    else if 2 ^ 32 ≤ fcnt then reply c 14 [] s
    else match freeEntry s true with
      | none => reply c sBusy [] s
      | some e => settle (bcastEntry q c e key fcnt (bumpFcnt key (replyPending c 0 [] s))))) s

/-! ### CANCEL (R357) -/

/-- What a cancelled command leaves. -/
def cancelPend (p : Pend) (s : State) : State :=
  if p.opcode = 0x0601 then dropDl p.obj p.tag p.origin sCancelled s
  else if p.opcode = 0x0603 then
    let es := usedFor s (fun u => match u with
      | .broadcast t _ _ => t == p.tag
      | _ => false)
    finishPend (· == p) sCancelled [] (forAll es (fun e s => opCancel e (setUse e .none s)) s)
  else if p.opcode = 0x0501 then
    match s.nodes.waits.find? (fun w => w.tag == p.tag) with
    | some w => freeJoin w sCancelled s
    | none => s
  else
    let s := if sRole s = 3 then sFree { wr 0x34010 (ddcFreq s) s with pathS := { s.pathS with partialBins := true } } else s
    finishPend (· == p) sCancelled [] s

/-- The PENDING command that a CANCEL names: of its own origin, or a downlink that reached this device with its node (log entry 55). -/
def cancelTarget (s : State) (tag : Nat) (c : Caller) : Option Pend :=
  (s.keeper.pend.find? (fun p => p.tag == tag && p.origin == c.origin)).orElse (fun _ =>
    if c.origin = 16 then none else s.keeper.pend.find? (fun p => p.tag == tag && p.opcode == 0x0601 && p.origin != 16))

/-- CANCEL where the command runs: an outcome already due comes first. A downlink in transit waits for the end of the hand-over, and one
that has moved is cancelled at its node's home (R246, R357). -/
def cancelHere (q : Req) (c : Caller) (s : State) : State :=
  let s := settle s
  match cancelTarget s (fld q 0 2) c with
  | none => reply c sNotFound [] s
  | some p =>
    if p.opcode = 0x0601 ∧ p.info ≠ [] then
      let d := leAt p.info 0 1
      if c.origin = 16 then askDevices c false [d] [d] (reqMsg 0x0104 q) s else forwardMsg c.origin d (reqMsg 0x0104 q) s
    else if p.opcode = 0x0601 ∧ (getCtx s p.obj).transit then
      { s with nodes := { s.nodes with parked := s.nodes.parked ++ [(p.obj, if c.origin = 16 then c.win else 16 + c.origin, reqMsg 0x0104 q)] } }
    else if [0x0601, 0x0603, 0x0501, 0x0405].contains p.opcode then reply c sOk [] (settle (cancelPend p s))
    else reply c sWrongState [] s

/-- CANCEL. -/
def cancel (q : Req) (s : State) : State :=
  let c := callerOf s 0x0104 q
  let s := takeReq 0x0104 q s
  if lenOf q ≠ 4 then reply c sBadLength [] s
  else if !zeros q 2 2 then reply c sBadField [] s
  else match s.chain.asked.find? (fun a => a.tag == fld q 0 2 && c.origin == 16) with
    | some a =>
      let others := a.waits.filter (· != devOf s)
      let s := askDevices c false a.waits others (reqMsg 0x0104 q) s
      if a.waits.contains (devOf s) then cancelHere q c s else s
    | none => cancelHere q c s

def execCancel (q : Req) (s : State) : Res := .next (cancel q s)
def execNodeAdd (q : Req) (s : State) : Res := .next (nodeAdd q s)
def execNodeRemove (q : Req) (s : State) : Res := .next (nodeRemove q s)
def execNodeGet (q : Req) (s : State) : Res := .next (nodeGet q s)
def execNodeList (q : Req) (s : State) : Res := .next (nodeList q s)
def execNodeConn (q : Req) (s : State) : Res := .next (nodeConn q s)
def execNodeSupervise (q : Req) (s : State) : Res := .next (nodeSupervise q s)
def execDlSend (q : Req) (s : State) : Res := .next (dlSend q s)
def execDlQueue (q : Req) (s : State) : Res := .next (dlQueue q s)
def execBcastSend (q : Req) (s : State) : Res := .next (bcastSend q s)

end Sys2Proof.Machine
end

