-- ==== Sys2Proof/Machine/Power.lean ====
section
/-! DEFINITION. Power (R418-R437): the state requests of the radio die and their order, its transitions with what each state keeps, power
faults, the adaptive core supply, and the states of the host die. -/

namespace Sys2Proof.Machine

/-! ### The end of a request (R368, R434, R435) -/

/-- A request ends: the command that made it completes, with the state held, and a WAKE is reported to the Tender. -/
def pwrAnswer (asker : Option Pend) (report : Bool) (status : Nat) (s : State) : State :=
  let s := match asker with
    | none => s
    | some p => finishPend (· == p) status (if status = sOk ∨ status = sAborted then leBytes 1 (radioPower s) ++ leBytes 3 0 else []) s
  onlyIf report (sendR 9 (leBytes 1 0 ++ leBytes 1 0 ++ leBytes 2 status ++ leBytes 4 0)) s

/-! ### Preparing for HOLD and OFF (R429) -/

/-- The uplink records still held are dropped and counted. -/
def dropUplinks (s : State) : State :=
  let n := s.keeper.upHold.length
  onlyIf (decide (0 < n)) (fun s => setB 0xB0010 10 true (wr 0xB0060 (rd s 0xB0060 + BitVec.ofNat 32 n) s))
    { s with keeper := { s.keeper with upHold := [] } }

/-- The commands in progress of an opcode complete ABORTED. -/
def abortPends (test : Pend → Bool) (s : State) : State :=
  forAll (s.keeper.pend.filter test) (fun p => finishPend (· == p) sAborted []) s

/-- The host's live entries end ABORTED, as do downlinks and broadcasts; the device's entries are released. -/
def quiesce (s : State) : State :=
  let s := forAll s.nodes.runs (fun p s => forAll p.2.dls (fun d => dropDl p.1 d.tag d.origin sAborted) s) s
  let s := abortPends (fun p => p.opcode == 0x0601 || p.opcode == 0x0603) s
  let s := forAll (List.range 128) (fun n s =>
    if opState s n = 0 ∨ opOwner s n = 31 then s
    else if opOwner s n = 17 then opCancel n s
    else releaseEntry n (setOp n {} (opCancel n (setUse n .none s)))) s
  forAll s.nodes.runs (fun p s => setRun p.1 { getRun s p.1 with win := none, burst := 0 } s) s

/-! ### Requests and their order (R433, R434) -/

/-- 0.5 ms, after which the first rail is lowered (log entry 101). -/
def halfMs : Nat := 327680

def inTransition (s : State) : Bool := getB s 0x10000 8
def pastPonr (s : State) : Bool := getB s 0x10000 9

/-- The point of no return of an entry to HOLD or OFF follows the end of the drain (R429, R431). -/
def ponrCheck (s : State) : State :=
  if inTransition s && !pastPonr s then
    match s.power.ponrDue with
    | some t => if t ≤ s.age then setB 0x10000 9 true s else s
    | none => if s.keeper.upHold.isEmpty then { s with power := { s.power with ponrDue := some (s.age + halfMs) } } else s
  else s

/-- What makes a request for HOLD or OFF end WRONG_STATE (R433). -/
def holdRefused (s : State) : Bool :=
  (List.range 6).any (fun n => decide (4 * (getF s 0x10008 15 8 : Int) < sensorTemp s n)) || s.boot.trial || s.guard.isSome

/-- A transition begins (R431): from HOLD and OFF every one leads through RUN. -/
def pwrBegin (target : Nat) (asker : Option Pend) (report : Bool) (s : State) : State :=
  let st := radioPower s
  let first := if 2 ≤ st then 0 else target
  let s := { s with power := { s.power with start := st, asker := asker, report := report, second := if first = target then none else some target,
                                            ponrDue := none, since := s.age } }
  let s := setF 0x10000 5 4 first (setB 0x10000 8 true s)
  if 2 ≤ first then ponrCheck (onlyIf (getF s 0x10008 7 0 == 0) dropUplinks (quiesce s)) else setB 0x10000 9 true s

/-- A request with no transition in progress. DEDUCED (log entry 88): the OFF of a power fault is left for RUN alone (R423). -/
def pwrFresh (target : Nat) (asker : Option Pend) (report : Bool) (s : State) : State :=
  if target = radioPower s then pwrAnswer asker report sOk s
  else if (2 ≤ target ∧ holdRefused s) ∨ (s.power.fault ∧ radioPower s = 3 ∧ target ≠ 0) then
    pwrAnswer asker report sWrongState (setB 0x10004 7 true s)
  else pwrBegin target asker report s

/-- A state request (R433, R434). -/
def pwrRequest (target : Nat) (asker : Option Pend) (report : Bool) (s : State) : State :=
  let s := ponrCheck s
  if !inTransition s then pwrFresh target asker report s
  else if pastPonr s then
    let s := if getB s 0x10000 14 then setB 0x10004 6 true (pwrAnswer s.power.nextAsker s.power.nextReport sAborted s) else s
    setF 0x10000 14 12 (4 + target) { s with power := { s.power with nextAsker := asker, nextReport := report } }
  else
    let was := s.power
    let s := { s with power := { s.power with asker := none, report := false, second := none, ponrDue := none } }
    let s := pwrAnswer was.asker was.report sAborted (setB 0x10004 5 true (setF 0x10000 8 4 (radioPower s) s))
    pwrFresh target asker report s

/-- The second transition of a request, then the pending request, begin at once (R431, R434). -/
def pwrNext (s : State) : State :=
  match s.power.second with
  | some t => pwrFresh t s.power.asker s.power.report { s with power := { s.power with second := none, asker := none, report := false } }
  | none =>
    if getB s 0x10000 14 then
      pwrFresh (getF s 0x10000 13 12) s.power.nextAsker s.power.nextReport
        (setF 0x10000 14 12 0 { s with power := { s.power with nextAsker := none, nextReport := false } })
    else s

/-! ### What HOLD keeps (R427) -/

/-- The blocks whose rw and rwb fields are retained; of OPQ the common page. -/
def retained (off : Nat) : Bool :=
  [0, 2, 3, 4, 5, 6, 8, 9, 10, 11, 12, 13].contains (off / 0x10000) || (off / 0x10000 == 7 && decide (0x78000 ≤ off))

/-- What else keeps its value: PWR and the record of causes in the island, the barrier's state, NTB_STEP_COUNT, KPR_LOG_NEXT, and, DEDUCED
(log entry 102), the units out of service. -/
def keptWhole (off : Nat) : Bool := off / 0x10000 == 1 || [4, 8, 0x10, 0x20028, 0xC0020, 0xE0010, 0xE0014].contains off

/-- A register as HOLD keeps it. -/
def heldValue (off : Nat) (v : Word) : Word :=
  let d := radioDesc off
  let m : Word := BitVec.ofNat 32 (d.rw ||| d.rwb)
  if keptWhole off then v else if retained off then (v &&& m) ||| (radioReset off &&& ~~~m) else radioReset off

def heldRegs (s : State) : Tab Word := tabMap radioReset heldValue s.reg

/-- What a Frond keeps for a node through HOLD: no window, no reception, no exchange. -/
def heldRun (r : NodeRun) : NodeRun :=
  { r with dls := [], win := none, kept := [], rescue := none, heard := false, burst := 0 }

/-- The rails that PWR drives to on, as PWR_RAIL_STATUS shows them: a rail not present has no requests (R418, R438). -/
def setRails (on : Nat) (s : State) : State :=
  setF 0x100A0 4 0 (((List.range 5).map (fun r => if on.testBit r && getB s (0x10080 + 4 * r) 16 then 2 ^ r else 0)).sum) s

/-- The barrier link of an island in HOLD or OFF: lane 0 of each direction (R435); and the LDO mode (R419). -/
def islandLink (s : State) : State :=
  setB 0x100A8 8 true (hsetF 0x2000 11 4 0x11 (setF 0x10 11 4 0x11 s))

/-- HOLD is reached (R427, R431): the retained set stays, everything else reads its reset value after the wake. -/
def enterHold (s : State) : State :=
  let s := abortPends (fun p => p.opcode != 0x8A01 && p.opcode != 0x0501 && p.opcode != 0x0505) s
  let s := forAll s.cipher.changes makeChange (endSlew s)
  let e := radioEmpty (heldRegs s) s
  let k := s.keeper
  let e := { e with
    linkR := s.linkR
    ntb := { s.ntb with armed := none, ppsSec := none, ppsLast := none, ppsGood := 0, ppsOut := 0, ppsQual := false, mrQual := false,
                        candidate := 0, stepReady := 0 }
    lamps := tabMap (fun _ => {}) (fun _ l => { l with pulseEnd := none, cut := false, startClk := 0 }) s.lamps
    paths := tabMap (fun _ => {}) (fun _ x => { calTemp := x.calTemp, calDraw := x.calDraw : RxPath }) s.paths
    syns := tabMap (fun _ => {}) (fun _ x => { table := x.table : Synth }) s.syns
    mac := s.mac, ctx := s.ctx, image := s.image
    cipher := { slots := s.cipher.slots, fcnt := s.cipher.fcnt, lighthouses := s.cipher.lighthouses }
    nodes := { runs := tabMap (fun _ => {}) (fun _ r => heldRun r) s.nodes.runs, waits := s.nodes.waits, delivered := s.nodes.delivered,
               parked := s.nodes.parked }
    chain := { out := outSent s, asked := s.chain.asked, fwd := s.chain.fwd, bseq := s.chain.bseq, seen := s.chain.seen }
    keeper := { k with run := none, upHold := [], log := [], alarms := [], loopNext := none, toneEnd := none } }
  islandLink (setRails 2 (wr 0xC0024 (rd e 0xC0020) (setF 0x20024 3 0 (getF s 0x20024 3 0)
    { e with power := { e.power with holdAge := e.age } })))

/-- OFF is reached: contexts are lost; the island, the link and the command that is to begin next stay. -/
def enterOff (s : State) : State :=
  let s := abortPends (fun p => p.opcode != 0x8A01) s
  let e := radioEmpty (islandRegs s) s
  islandLink (setRails 0 { e with linkR := s.linkR, keeper := { pend := s.keeper.pend } })

/-! ### The wake (R428-R432) -/

/-- Receive and transmit units leave Sleep (R101, R102): the synthesiser of a band of the present mode stands by, and the enabled paths
follow. -/
def radioStart (s : State) : State :=
  let s := forAll (if getB s 0x38000 0 then [0, 1] else [0]) (fun y s => onlyIf (synState s y == 0) (setSynState y 1) s) s
  let s := forAll ([0, 1, 2, 3] : List (Fin 4)) (fun p s =>
    let v := rd s (rxBase p.val)
    if bitOf v 0 && pathState s p.val == 0 then rxpPathCfgWrite p v (wr (rxBase p.val) (withBit v 0 false) s) else s) s
  forAll ([0, 1] : List (Fin 2)) (fun t s => if getB s (txBase t.val + 8) 0 then txpEnWrite t 1 s else s) s

/-- The Mooring ports that are not disabled train again (R259, R432). -/
def portsStart (s : State) : State :=
  forAll [0, 1] (fun p s => if getB s (mrBase p + 0x40) 0 then s else setLstate p 1 s) s

/-- A bank's contexts are lost (R251, R430): home and replica contexts are remembered until they are restored, guests become FREE. -/
def bankLost (b : Nat) (s : State) : State :=
  let mine := s.ctx.filter (fun p => p.1 / 2048 == b && p.2.role != 0)
  let back := (mine.filter (fun p => p.2.role != 3)).map (fun p => (p.1, p.2.addr, p.2.role))
  let s := forAll mine (fun p => freeCtx p.1) s
  raiseEvt 1 0x162 (leBytes 1 b) { s with nodes := { s.nodes with lost := s.nodes.lost ++ back, lostClk := s.ntb.clk } }

/-- The time base resumes (R428): both times advance by what the hold timer counted. -/
def timeResume (us : Nat) (s : State) : State :=
  let d := us * 1000 * nsUnit
  let grow := 1000 + us / 20
  let s := { s with ntb := { s.ntb with net := s.ntb.net + d, anch := s.ntb.anch + d } }
  if ntbState s = 1 then
    let half := decide (s.ntb.clk - s.ntb.lockClk < 655360000000)
    raiseEvt 2 0x104 [] (setSource 2 (ntbSource s) (beginHoldover (s.ntb.e0 + grow) half s))
  else if ntbState s = 2 then { s with ntb := { s.ntb with e0 := s.ntb.e0 + grow } }
  else s

/-- The events of a home that passed in HOLD complete MISSED, and k advances (R212, R429). -/
def passMissed (n : Nat) (s : State) : State :=
  let c := getCtx s n
  if c.role ≠ 1 ∨ c.mstate = 2 ∨ c.transit ∨ c.ci = 0 then s
  else
    let k := eventFrom s n (anchNow s + max 1 (getF s 0x78000 15 8) * 1000000)
    if k ≤ c.k then s else commitCtx n { c with k := k % 2 ^ 32, missed := min 65535 (c.missed + (k - c.k)) } s

/-- RUN is reached from HOLD (R428-R432). -/
def wakeHold (badBanks : Word) (us : Nat) (s : State) : State :=
  let s := timeResume us (setB 0x100A8 8 false (setRails 0x1F s))
  let s := wr 0x10014 (BitVec.ofNat 32 (min us 0xFFFFFFFF)) (setF 0x10 11 4 0xFF (hsetF 0x2000 11 4 0xFF s))
  let later := clocksOfNs (us * 1000)
  let s := { s with
    keeper := { s.keeper with kickClk := s.ntb.clk, warned := false }
    nodes := { s.nodes with waits := s.nodes.waits.map (fun w => { w with expires := w.expires.map (fun t => max s.ntb.clk (t - later)) }) } }
  let bad := (List.range 32).filter (fun b => bitOf badBanks b && !bankOut s b)
  let s := wr 0x10018 (BitVec.ofNat 32 ((bad.map (fun b => 2 ^ b)).sum)) (onlyIf (!bad.isEmpty) (setB 0x10004 4 true) s)
  let s := forAll bad bankLost s
  let s := forAll (List.range 8) (fun n s => if (getLamp s n).armed then lampArm n (nowNs s) s else s) s
  let s := forAll (s.ctx.map (fun p => p.1)) passMissed s
  portsStart (radioStart (joinChoose s))

/-- RUN is reached from a HOLD whose retained set a brown-out has lost (R420): the radio die boots, with every bank lost. -/
def wakeLost (s : State) : State :=
  setB 0x10004 4 true (wr 0x10018 0xFFFFFFFF (setF 0x10 11 4 0xFF (hsetF 0x2000 11 4 0xFF (setB 0x100A8 8 false
    (setRails 0x1F { s with power := { s.power with lostSet := false } })))))

/-- The rails are up again after OFF (R431, R435): the die resets with cause POWER_ON and boots; a WAKE reports OK. What was requested next
begins once the radio is ready. -/
def wakeOff (s : State) : State :=
  let was := s.power
  let pending := getF s 0x10000 14 12
  let s := radioDieReset causePowerOn 0 { s with power := { s.power with fault := false } }
  let s := { s with power := { s.power with second := was.second, nextReport := was.nextReport } }
  let s := setF 0x10000 14 12 pending (setF 0x10000 9 0 0 (setB 0x100A8 8 false (setRails 0x1F s)))
  pwrAnswer none was.report sOk (setF 0x10 11 4 0xFF (hsetF 0x2000 11 4 0xFF s))

/-! ### WATCH (R424, R426) -/

/-- A context is given to a Frond, with its entries (R240). -/
def giveFrond (n f : Nat) (s : State) : State :=
  if (getCtx s n).frond = f then s
  else incW 0xB0074 (forAll (usedFor s (isOf n)) (fun e => setF (opBase e + 0x20) 4 0 f) (setCtx n { getCtx s n with frond := f } s))

/-- A path sleeps: what received with it is flagged, and a band that loses its last path is down (R85, R426). -/
def pathSleep (p : Nat) (s : State) : State :=
  if pathState s p = 0 then s else setPathState p 0 (flagPath p 2 (setPath p { getPath s p with outCause := none } s))

/-- An operation given to TX B looks for a path again (R426); a probe it was to send is owed to its pair (R157). -/
def txbLeave (n : Nat) (s : State) : State :=
  let x := getOp s n
  if x.path = 1 ∧ !x.radiating then
    setOp n { x with path := 2, due := false, planned := false, held := 0, probe := false } (onlyIf x.probe (setProbe 1 (rampKey s 1 n) true) s)
  else s

/-- A synthesiser sleeps: a receive one at once, SYN3 once a refresh in progress is done (R99, R426). -/
def synSleep (n : Nat) (s : State) : State :=
  let y := getSyn s n
  if n = 3 ∧ y.refreshing.isSome then setSyn n { y with before := none } s
  else setSynState n 0 (setSyn n { y with refreshing := none, before := none } s)

/-- WATCH is reached. -/
def enterWatch (s : State) : State :=
  let s := forAll (s.ctx.map (fun p => p.1)) (fun n s => giveFrond n ((getCtx s n).frond % 2) s) s
  let s := setB 0xB0010 16 false { s with nodes := { s.nodes with moves := [] } }
  let s := forAll (List.range 128) txbLeave (settle (abortBurst 1 4 s))
  let s := onlyIf (getB s 0x38000 0) (abandonBand 1) s
  let s := synSleep 3 (synSleep 1 (pathSleep 3 (pathSleep 2 (pathSleep 1 s))))
  let s := setServes 7 (setRole 0 (onlyIf (sRole s != 0) sPreempted s))
  let s := { s with power := { s.power with vcore := getF s 0x1001C 9 0, avs := getB s 0x10020 0 } }
  setF 0x1001C 9 0 700 (setB 0x10020 0 false s)

/-- RUN is reached from WATCH: the units wake, the Fronds share the contexts again (log entry 103). -/
def leaveWatch (s : State) : State :=
  let s := setF 0x1001C 9 0 s.power.vcore (setB 0x10020 0 s.power.avs s)
  let s := forAll (s.ctx.filter (fun p => p.2.role != 0)) (fun p s => giveFrond p.1 (frondHome s p.2.addr) s) s
  let s := radioStart s
  onlyIf (getB s 0x34000 0) sFree s

/-! ### Transitions (R431) -/

/-- The state of a transition is reached: its command completes, and the pending request begins at once (R434). -/
def reached (badBanks : Word) (us : Nat) (s : State) : State :=
  let st := s.power.start
  let t := getF s 0x10000 5 4
  if st = 3 then wakeOff s
  else
    let s := setF 0x10000 9 8 0 (setF 0x10000 1 0 t { s with power := { s.power with ponrDue := none } })
    let s := if st = 2 then reachAge (s.power.holdAge + clocksOfNs (us * 1000)) s else s
    let s := if st = 2 then (if s.power.lostSet then wakeLost s else wakeHold badBanks us s)
      else if t = 1 then enterWatch s else if t = 0 then leaveWatch s else s
    let s := if s.power.second.isSome then s
      else pwrAnswer s.power.asker s.power.report sOk { s with power := { s.power with asker := none, report := false } }
    pwrNext (if t = 2 then enterHold s else if t = 3 then enterOff s else s)

/-- TRANSITION_DONE: an entry to HOLD or OFF that still drains its uplink records is not done. -/
def transitionDone (badBanks : Word) (elapsedUs : Nat) (s : State) : State :=
  if !inTransition s ∨ s.power.dead then s
  else
    let s := ponrCheck s
    let s := match s.power.ponrDue with
      | some t => ponrCheck (clocks (t - s.age) s)
      | none => s
    if pastPonr s then reached badBanks elapsedUs s else s

/-- UPLINK_DRAIN_EXPIRY (R429): UPLINK_DRAIN ms after the transition began. -/
def uplinkDrainExpiry (s : State) : State :=
  if inTransition s && !pastPonr s then
    ponrCheck (dropUplinks (reachAge (s.power.since + clocksOfNs (getF s 0x10008 7 0 * 1000000)) s))
  else s

/-- PWR_STATE_REQUEST (R433, R438): the write to the twin that completes a guarded pair. -/
def pwrCmdEffect (off : Nat) (v : Word) (s : State) : State :=
  onlyIf (bitOf v 8) (pwrRequest (fieldOf v 1 0) none false) (wr off (v &&& 0x103) s)
def pwrStateRequest (value : Word) (s : State) : State := guardTwinR 0x10040 value pwrCmdEffect s

/-- HOLD_TIMER_WAKE (R433, R438): WAKE_AFTER ms after HOLD was reached. -/
def holdTimerWake (s : State) : State :=
  if radioPower s = 2 ∧ getB s 0x1000C 0 ∧ rd s 0x10010 ≠ 0 then
    pwrRequest 0 none false (reachAge (s.power.holdAge + clocksOfNs ((rd s 0x10010).toNat * 1000000)) s)
  else s

/-- CAP0_WAKE (R433). -/
def cap0Wake (s : State) : State := if radioPower s = 2 ∧ getB s 0x1000C 1 then pwrRequest 0 none false s else s

/-! ### Power faults (R422, R423, R432) -/

/-- A power fault: the event, OFF with its rails down, and RADIO_DOWN for the commands concerned. -/
def powerFault (rail cause : Nat) (status : BitVec 16) (s : State) : State :=
  let s := wr 0x100A4 (BitVec.ofNat 32 (rail + 16 * cause + 65536 * status.toNat)) (setB 0x10004 2 true (setB 0x100A0 (8 + rail) true s))
  let s := raiseEvt 1 0x160 (leBytes 1 rail) s
  let was := s.power
  let pending := getB s 0x10000 14
  let s := setF 0x10000 14 0 0x33 { s with power := { vcore := was.vcore, avs := was.avs, fault := true } }
  let s := if pending || inTransition s || was.asker.isSome || was.report || was.nextReport || was.nextAsker.isSome then
      pwrAnswer was.nextAsker was.nextReport sRadioDown (pwrAnswer was.asker was.report sRadioDown s)
    else s
  enterOff s

/-- PMBUS_TIMEOUT (R421, R422): `cause` as PWR_FAULT_INFO has it. A NACK or a PEC error was repeated once; with cause 0 the repeat was
acknowledged (log entry 104). -/
def pmbusTimeout (rail : Fin 5) (cause : Fin 6) (statusWord : BitVec 16) (s : State) : State :=
  if s.power.dead ∨ !getB s (0x10080 + 4 * rail.val) 16 ∨ (!coreRuns s ∧ !inTransition s) then s
  else
    let s := onlyIf (cause.val == 0 || cause.val == 2 || cause.val == 3) (setB 0x10004 1 true) s
    if cause.val = 0 then s else powerFault rail.val cause.val statusWord s

/-- The fault bits of a STATUS_WORD: VOUT and IOUT, temperature and input, in the low and in the high byte of PMBus (log entry 104). -/
def pmbFault (w : BitVec 16) : Bool := [2, 3, 4, 5, 13, 14, 15].any (fun i => w.getLsbD i)

/-- PMB_ALERT (R423): a fault bit is a power fault, a warning writes a trouble-log entry. -/
def pmbAlert (rail : Fin 5) (statusWord : BitVec 16) (s : State) : State :=
  if s.power.dead ∨ !getB s (0x10080 + 4 * rail.val) 16 ∨ (!coreRuns s ∧ !inTransition s) then s
  else if pmbFault statusWord then powerFault rail.val 4 statusWord s
  else logWrite 1 0x160 (leBytes 1 rail.val) s

/-- WAKE_STAGE_LATE (R432). -/
def wakeStageLate (rail : Fin 5) (s : State) : State :=
  if inTransition s ∧ 2 ≤ s.power.start ∧ !s.power.dead then powerFault rail.val 6 0 s else s

/-- AVS_STEP (R424): 5 mV, 10 ms after the last step at the earliest, or 25 mV at once for a monitor below its margin. -/
def avsStep (up belowMargin : Bool) (s : State) : State :=
  if getF s 0x10000 1 0 ≠ 0 ∨ s.power.dead ∨ !getB s 0x10020 0 then s
  else
    let v := getF s 0x1001C 9 0
    if belowMargin then setF 0x1001C 9 0 (min 850 (v + 25)) s
    else
      let s := reachClk (s.keeper.avsClk + ms10) s
      setF 0x1001C 9 0 (if up then min 850 (v + 5) else max 650 (v - 5)) { s with keeper := { s.keeper with avsClk := s.ntb.clk } }

/-- REPLICA_RESTORE_TIMEOUT (R430): no replica answered within 1 s. -/
def replicaRestoreTimeout (ctx : BitVec 16) (s : State) : State :=
  match s.nodes.lost.find? (fun x => x.1 == ctx.toNat && x.2.2 == 1) with
  | none => s
  | some x =>
    let s := reachClk (s.nodes.lostClk + clocksOfNs 1000000000) s
    raiseEvt 0xD 0x130 (leBytes 3 x.2.1) { s with nodes := { s.nodes with lost := s.nodes.lost.erase x } }

/-! ### POWER_STATE and WAKE (R368, R433, R435) -/

/-- The Tender answers PENDING; the tag stays in use. -/
def hostPending (t : TagUse) (s : State) : State :=
  let s := toHost 0 (leBytes 1 t.win ++ leBytes 3 0 ++ eskelHeader t.opcode 1 t.target t.tag 0 t.counter sPending) s
  { s with tender := { s.tender with tags := s.tender.tags.map (fun x => if x.tag = t.tag then { x with pend := true, radio := false } else x) } }

/-- POWER_STATE served by the Tender: a WAKE goes to the island. -/
def powerStateHost (q : Req) (t : TagUse) (s : State) : State :=
  if lenOf q ≠ 4 then hostAnswer t sBadLength [] s
  else if 4 ≤ fld q 0 1 ∨ !zeros q 1 3 then hostAnswer t sBadField [] s
  else if q.target.toNat % 32 ≠ 0x1E ∧ q.target.toNat % 32 ≠ hostDev s then hostAnswer t sRadioDown [] s
  else
    let off := decide (hgetF s 0x1000 5 4 = 3)
    let s := hostPending t s
    sendH 8 (leBytes 1 4 ++ leBytes 3 0 ++ leBytes 4 (fld q 0 1))
      { s with tender := { s.tender with wakes := s.tender.wakes ++ [({ t with pend := true, radio := false }, fld q 0 1, off)] } }

/-- POWER_STATE: by the Tender where it kept the request, else by the Keeper. -/
def powerState (q : Req) (s : State) : State :=
  if s.tender.reqs.any (fun r => r.2 == reqMsg 0x8A01 q && r.1 == q.win.val) then
    powerStateHost q (useOf s 0x8A01 q) (dropHostReq 0x8A01 q s)
  else
    runCmd 0x8A01 q (fun c => fixed 4 q c (fun s =>
      if 4 ≤ fld q 0 1 ∨ !zeros q 1 3 then reply c sBadField [] s
      else pwrRequest (fld q 0 1) (some (pendOf c 0 [])) false (replyPending c 0 [] s))) s

/-- A BOOT_CTL message of one STEP; one of another STEP that fits its type belongs to another command. -/
def bootCtl (step : Nat) (m : BMsg) (handle : State → State) (s : State) : State :=
  if m.typ = 8 ∧ bCause s .radio m = 0 ∧ bAt m 0 1 ≠ step then s else barrierRow 8 .radio m handle s

/-- WAKE (R435). -/
def wake (m : BMsg) (s : State) : State := bootCtl 4 m (pwrRequest (bAt m 4 4) none true) s

/-! ### The host die (R436, R437) -/

/-- STANDBY is entered once no window is POSTED or COPYING and every owed answer has been written. -/
def standbyReady (s : State) : Bool :=
  s.boot.standby && (List.range 16).all (fun w => winState s w == 0) && s.tender.hold0.isEmpty && s.tender.tags.all (fun t => t.pend)

def enterStandby (s : State) : State :=
  let s := barrierDown { s with boot := { s.boot with standby := false } }
  hsetF 0x1000 1 0 1 (hsetF 0x2000 1 0 0 (setF 0x10 1 0 0 s))

/-- HPW_STANDBY: the guarded write of HPW_STATE_CMD.STANDBY. -/
def hpwStandby (s : State) : State :=
  if !hostRuns s then s
  else
    let s := { s with hguard := none, boot := { s.boot with standby := true } }
    onlyIf (standbyReady s) enterStandby s

/-- Whether a source wakes the host die (R326, R437). -/
def wakeEnabled (s : State) (src : WakeSrc) : Bool :=
  match src with
  | .tag => hgetB s 0x1004 0
  | .rtc => hgetB s 0x1004 1
  | .spi => hgetB s 0x1004 2
  | .perst => !spiMode s

/-- HOST_WAKE (R437): the Tender resumes without a boot and raises HOST_POWER. -/
def hostWake (src : WakeSrc) (s : State) : State :=
  if hostPower s = 1 ∧ wakeEnabled s src then hostOn (irq 18 (linkTrains (hsetF 0x2000 1 0 1 (hsetF 0x1000 1 0 0 s)))) else s

def execPwrStateRequest (value : Word) (s : State) : Res := .next (pwrStateRequest value s)
def execTransitionDone (badBanks : Word) (elapsedUs : Nat) (s : State) : Res := .next (transitionDone badBanks elapsedUs s)
def execUplinkDrainExpiry (s : State) : Res := .next (uplinkDrainExpiry s)
def execHoldTimerWake (s : State) : Res := .next (holdTimerWake s)
def execCap0Wake (s : State) : Res := .next (cap0Wake s)
def execPmbusTimeout (rail : Fin 5) (cause : Fin 6) (statusWord : BitVec 16) (s : State) : Res := .next (pmbusTimeout rail cause statusWord s)
def execPmbAlert (rail : Fin 5) (statusWord : BitVec 16) (s : State) : Res := .next (pmbAlert rail statusWord s)
def execWakeStageLate (rail : Fin 5) (s : State) : Res := .next (wakeStageLate rail s)
def execAvsStep (up belowMargin : Bool) (s : State) : Res := .next (avsStep up belowMargin s)
def execPowerState (q : Req) (s : State) : Res := .next (powerState q s)
def execWake (m : BMsg) (s : State) : Res := .next (wake m s)
def execHpwStandby (s : State) : Res := .next (hpwStandby s)
def execHostWake (src : WakeSrc) (s : State) : Res := .next (hostWake src s)

end Sys2Proof.Machine
end

