-- ==== Sys2Proof/Machine/Keeper.lean ====
section
/-! DEFINITION. Sensors and rail monitors, the thermal trip, the two watchdogs, and the commands over the trouble log and the sensors
(R442-R457, R372). -/

namespace Sys2Proof.Machine

/-! ### Limits (R443, R445) -/

/-- The reset limits of a host-die rail, LOW and HIGH in mV: nominal plus and minus 5 % (R443, R510). -/
def hostRailLimits : List (Nat × Nat) := [(1045, 1155), (3135, 3465), (855, 945), (1710, 1890), (2850, 3150)]

/-- The nominal of a rail in mV: of VDD_CORE its target, of a VDD_IO bank the supply nearer to the sample (R510; log entry 114). -/
def railNominal (s : State) (rail mv : Nat) : Nat :=
  if rail = 0 then getF s 0x1001C 9 0
  else if rail = 6 ∨ rail = 7 then (if mv < 2500 then 1800 else 3300)
  else [0, 800, 1000, 1000, 900, 1800, 0, 0, 1100, 3300, 900, 1800, 3000].getD rail 0

/-- A limit word: LOW [15:0], HIGH [31:16]. -/
def tempLimits (s : State) (n : Nat) : Int × Int :=
  let w : Word := if n < 6 then rd s (0xD0080 + 4 * n)
    else (tabGet (fun _ => none) s.tender.tlims n).getD (if Config.gradeX then 0x01E0FF60 else 0x01A4FF60)
  (signedOf 16 (fieldOf w 15 0), signedOf 16 (fieldOf w 31 16))

def railLimitsOf (s : State) (r : Nat) : Nat × Nat :=
  if r < 8 then (getF s (0xD00C0 + 4 * r) 15 0, getF s (0xD00C0 + 4 * r) 31 16)
  else match tabGet (fun _ => none) s.tender.vlims r with
    | some w => (fieldOf w 15 0, fieldOf w 31 16)
    | none => hostRailLimits.getD (r - 8) (0, 0)

/-! ### Samples (R443, R444) -/

/-- What a sample does to an alarm: raise it, arm it again, or nothing. -/
inductive AlarmStep where
  | raise
  | rearm
  | none
deriving DecidableEq, Repr

/-- A sample judged against its limits and the hysteresis. -/
def judge (silent : Bool) (v low high hyst : Int) : AlarmStep :=
  if v < low ∨ high < v then (if silent then .none else .raise)
  else if silent && decide (low + hyst ≤ v) && decide (v ≤ high - hyst) then .rearm
  else .none

/-- The trip temperature in 0.25 degC (R444). -/
def tripTemp : Int := if Config.gradeX then 520 else 460

/-- The trip of a radio-die sensor, and its release once every one of them is 10 degC below. -/
def tripJudge (t : Int) (s : State) : State :=
  if tripTemp ≤ t ∧ !tripped s then
    forAll [0, 1] (fun p s => abortBurst p 4 s) (setB 0xD0100 16 true (setB 0xD0100 17 true s))
  else if tripped s && (List.range 6).all (fun n => decide (sensorTemp s n ≤ tripTemp - 40)) then setB 0xD0100 16 false s
  else s

/-- TEMP_ALARM of a radio-die sensor. -/
def tempAlarm (n : Nat) (temp : BitVec 16) (s : State) : State :=
  raiseEvt 0xE 0x168 (leBytes 1 n ++ leBytes 1 0 ++ leBytes 2 temp.toNat) s

/-- A sample of a radio-die sensor. -/
def radioTemp (n : Nat) (temp : BitVec 16) (s : State) : State :=
  let t := temp.toInt
  let was := tripped s
  let s := wr (0xD0000 + 4 * n) (BitVec.ofNat 32 temp.toNat) s
  let s := if n = 0 ∧ ntbState s = 2 then { s with ntb := { s.ntb with dTmax := max s.ntb.dTmax (t - s.ntb.holdTemp).natAbs } } else s
  let lim := tempLimits s n
  let s := tripJudge t s
  match judge (s.keeper.alarms.contains n) t lim.1 lim.2 8 with
  | .raise => tempAlarm n temp (setB 0xD0100 n true { s with keeper := { s.keeper with alarms := n :: s.keeper.alarms } })
  | .rearm => { s with keeper := { s.keeper with alarms := s.keeper.alarms.erase n } }
  | .none => if tripped s && !was then tempAlarm n temp s else s

/-- A sample of a host-die sensor: the Tender's own alarm (R445, R455). -/
def hostTemp (n : Nat) (temp : BitVec 16) (s : State) : State :=
  let lim := tempLimits s n
  let s := { s with tender := { s.tender with temps := tabSet (fun _ => 0) s.tender.temps n temp.toNat } }
  match judge (s.tender.alarms.contains n) temp.toInt lim.1 lim.2 8 with
  | .raise => tenderEvt 0x168 (leBytes 1 n ++ leBytes 1 0 ++ leBytes 2 temp.toNat) { s with tender := { s.tender with alarms := n :: s.tender.alarms } }
  | .rearm => { s with tender := { s.tender with alarms := s.tender.alarms.erase n } }
  | .none => s

/-- The Tender runs its relay firmware. -/
def tenderRuns (s : State) : Bool := hostRuns s && s.boot.mode == 1

/-- SENSOR_SAMPLE: a sensor of the radio die also updates SYNn_TEMP (R114) and may make a recalibration due (R87). -/
def sensorSample (sensor : Fin 8) (temp : BitVec 16) (s : State) : State :=
  if sensor.val < 6 then (if coreRuns s then recalibrate sensor.val (synTempSample sensor.val (radioTemp sensor.val temp s)) else s)
  else if tenderRuns s then hostTemp sensor.val temp s else s

/-- A PMBus rail that PWR has off or in a transition raises no alarm. -/
def railQuiet (s : State) (r : Nat) : Bool := decide (r < 5) && (!getB s 0x100A0 r || inTransition s)

/-- A sample of a radio-die rail monitor. -/
def radioRail (r : Nat) (mv : BitVec 16) (s : State) : State :=
  let s := wr (0xD0040 + 4 * r) (BitVec.ofNat 32 mv.toNat) s
  let lim := railLimitsOf s r
  if railQuiet s r then s
  else
  match judge (s.keeper.alarms.contains (16 + r)) (100 * mv.toNat : Nat) (100 * lim.1 : Nat) (100 * lim.2 : Nat) (railNominal s r mv.toNat) with
    | .raise =>
      raiseEvt 0xE 0x169 (leBytes 1 r ++ leBytes 1 0 ++ leBytes 2 mv.toNat)
        (setB 0xD0100 (8 + r) true { s with keeper := { s.keeper with alarms := (16 + r) :: s.keeper.alarms } })
    | .rearm => { s with keeper := { s.keeper with alarms := s.keeper.alarms.erase (16 + r) } }
    | .none => s

/-- A sample of a host-die rail monitor. -/
def hostRail (r : Nat) (mv : BitVec 16) (s : State) : State :=
  let lim := railLimitsOf s r
  let s := { s with tender := { s.tender with rails := tabSet (fun _ => 0) s.tender.rails r mv.toNat } }
  match judge (s.tender.alarms.contains (16 + r)) (100 * mv.toNat : Nat) (100 * lim.1 : Nat) (100 * lim.2 : Nat) (railNominal s r mv.toNat) with
  | .raise => tenderEvt 0x169 (leBytes 1 r ++ leBytes 1 0 ++ leBytes 2 mv.toNat) { s with tender := { s.tender with alarms := (16 + r) :: s.tender.alarms } }
  | .rearm => { s with tender := { s.tender with alarms := s.tender.alarms.erase (16 + r) } }
  | .none => s

/-- RAIL_SAMPLE. -/
def railSample (rail : Fin 13) (mv : BitVec 16) (s : State) : State :=
  if rail.val < 8 then (if coreRuns s then radioRail rail.val mv s else s)
  else if tenderRuns s then hostRail rail.val mv s else s

/-! ### The radio-die watchdog (R446-R448) -/

/-- A millisecond in core clocks. -/
def wdtMs : Nat := 655360

/-- The configuration in force: TIMEOUT and OPEN in ms, and the time of the warning. -/
def wdtTimeout (s : State) : Nat := fieldOf s.keeper.wdtCfg 15 0
def wdtOpen (s : State) : Nat := fieldOf s.keeper.wdtCfg 23 16
def wdtWarnMs (s : State) : Nat := wdtTimeout s - 10 * fieldOf s.keeper.wdtCfg 31 24

/-- The watchdog counts: the Keeper has started, and the core clock runs. -/
def wdtCounts (s : State) : Bool := s.keeper.wdtOn && coreRuns s

/-- The value the next kick must carry. -/
def wdtExpected (s : State) : Word := if getB s 0xC0048 16 then 0x5A5A else 0xA5A5

/-- WATCHDOG_WARN (R447): the entry that the hardware writes once in a count, at TIMEOUT less WARN_LEAD. -/
def watchdogWarn (s : State) : State :=
  if !wdtCounts s || s.keeper.warned then s
  else
    let s := reachClk (s.keeper.kickClk + wdtWarnMs s * wdtMs) s
    logWrite 0xD 0x16A [] (setB 0xC0048 17 true { s with keeper := { s.keeper with warned := true } })

/-- A kick judged `e` core clocks after the last accepted one (R446). -/
def wdtJudge (value : Word) (e : Nat) (s : State) : State :=
  if wdtTimeout s * wdtMs ≤ e then radioDieReset causeWatchdog 3 s
  else if e < wdtOpen s * wdtMs then radioDieReset causeWatchdog 1 s
  else if value ≠ wdtExpected s then radioDieReset causeWatchdog 2 s
  else
    setB 0xC0048 16 (!getB s 0xC0048 16)
      { s with keeper := { s.keeper with kickClk := s.ntb.clk, wdtCfg := rd s 0xC0040, warned := false } }

/-- WDT_KICK: a write of KPR_WDT_KICK `tMs` after the last accepted kick or the start (log entry 84); a warning and an expiry on the way
come first. -/
def wdtKick (value : Word) (tMs : Nat) (s : State) : State :=
  if !wdtCounts s then s
  else
    let s := onlyIf (decide (wdtWarnMs s ≤ tMs)) watchdogWarn s
    let s := reachClk (s.keeper.kickClk + min tMs (wdtTimeout s) * wdtMs) s
    wdtJudge value (s.ntb.clk - s.keeper.kickClk) s

/-- WATCHDOG_EXPIRY (R446): the count reaches TIMEOUT, after the warning. -/
def watchdogExpiry (s : State) : State :=
  if !wdtCounts s then s
  else radioDieReset causeWatchdog 3 (reachClk (s.keeper.kickClk + wdtTimeout s * wdtMs) (watchdogWarn s))

/-- An accepted guarded value of KPR_WDT_CFG is checked (R448). -/
def wdtCfgEffect (_ : Nat) (v : Word) (s : State) : State :=
  if fieldOf v 15 0 < 10 ∨ fieldOf v 15 0 ≤ fieldOf v 23 16 ∨ fieldOf v 15 0 ≤ 10 * fieldOf v 31 24 then setB 0xC0048 18 true s
  else wr 0xC0040 v s

/-- KPR_WDT_CFG: the write to the twin. -/
def kprWdtCfg (value : Word) (s : State) : State := guardTwinR 0xC0040 value wdtCfgEffect s

/-! ### The Tender watchdog (R449) -/

/-- TENDER_WDOG_WARN. -/
def tenderWdogWarn (s : State) : State := if hostRuns s then irq 19 s else s

/-- TENDER_WDT_EXPIRY. -/
def tenderWdtExpiry (s : State) : State := if hostRuns s then hostDieReset causeWatchdog 3 s else s

/-! ### The commands (R372, R445, R453) -/

/-- LOG_READ. -/
def logRead (q : Req) (s : State) : State :=
  runCmd 0x0D01 q (fun c => fixed 8 q c (fun s =>
    if 127 < fld q 4 1 ∨ !zeros q 5 3 then reply c sBadField [] s
    else reply c sOk (logAnswer s.keeper.log (rd s 0xC0024).toNat s.keeper.logNext (fld q 0 4) (fld q 4 1)) s)) s

/-- SENS_READ: the Keeper's own sensors and rails; the Tender writes in those of the host die. -/
def sensRead (q : Req) (s : State) : State :=
  runCmd 0x0E01 q (fun c => fixed 0 q c (fun s =>
    let temp := fun n => if n < 6 then (rd s (0xD0000 + 4 * n)).toNat else 0
    let rail := fun r => if r < 8 then (rd s (0xD0040 + 4 * r)).toNat else 0
    reply c sOk (leBytes 1 13 ++ leBytes 1 0 ++ (List.range 8).flatMap (fun n => leBytes 2 (temp n)) ++
      (List.range 13).flatMap (fun r => leBytes 1 r ++ leBytes 1 0 ++ leBytes 2 (rail r))) s)) s

/-- The limits of one sensor or rail set: by the Keeper, or by the Tender for those of the host die of the attached device. -/
def setLimits (attached : Bool) (kind n : Nat) (w : Word) (s : State) : State :=
  if kind = 0 then
    (if n < 6 then wr (0xD0080 + 4 * n) w s
     else if attached then { s with tender := { s.tender with tlims := tabSet (fun _ => none) s.tender.tlims n (some w) } } else s)
  else if n < 8 then wr (0xD00C0 + 4 * n) w s
  else if attached then { s with tender := { s.tender with vlims := tabSet (fun _ => none) s.tender.vlims n (some w) } } else s

/-- SENS_LIMITS. -/
def sensLimits (q : Req) (s : State) : State :=
  runCmd 0x0E02 q (fun c => fixed 8 q c (fun s =>
    let kind := fld q 0 1
    let above := if kind = 0 then decide (sgn q 6 2 < sgn q 4 2) else decide (fld q 6 2 < fld q 4 2)
    if 2 ≤ kind ∨ (if kind = 0 then 8 else 13) ≤ fld q 1 1 ∨ !zeros q 2 2 ∨ above then reply c sBadField [] s
    else reply c sOk [] (setLimits (c.origin == 16) kind (fld q 1 1) (BitVec.ofNat 32 (fld q 4 4)) s))) s

def execSensorSample (sensor : Fin 8) (temp : BitVec 16) (s : State) : Res := .next (sensorSample sensor temp s)
def execRailSample (rail : Fin 13) (mv : BitVec 16) (s : State) : Res := .next (railSample rail mv s)
def execWdtKick (value : Word) (tMs : Nat) (s : State) : Res := .next (wdtKick value tMs s)
def execWatchdogWarn (s : State) : Res := .next (watchdogWarn s)
def execWatchdogExpiry (s : State) : Res := .next (watchdogExpiry s)
def execKprWdtCfg (value : Word) (s : State) : Res := .next (kprWdtCfg value s)
def execTenderWdogWarn (s : State) : Res := .next (tenderWdogWarn s)
def execTenderWdtExpiry (s : State) : Res := .next (tenderWdtExpiry s)
def execLogRead (q : Req) (s : State) : Res := .next (logRead q s)
def execSensRead (q : Req) (s : State) : Res := .next (sensRead q s)
def execSensLimits (q : Req) (s : State) : Res := .next (sensLimits q s)

end Sys2Proof.Machine
end

