-- ==== Sys2Proof/Machine/KeyCmd.lean ====
section
/-! DEFINITION. Loading and invalidating keys (R296-R300, R304, R369, R370): the Tender's unwrap, the KEY_LOAD message, key-only CONTEXT
frames, and the CONTEXT frame itself (R264). -/

namespace Sys2Proof.Machine

/-! ### A key as it travels -/

/-- A KTARGET names a node by its short address, or a key code (R309, R293). -/
def ktNode (kt : Nat) : Bool := kt.testBit 31
def ktAddr (kt : Nat) : Nat := kt % 2 ^ 24

/-- A KTARGET whose fields lie within their values. -/
def ktOk (kt : Nat) : Bool := if ktNode kt then kt / 2 ^ 24 == 128 else decide (kt < 256 + 65536)

/-- The size and the usage of an ATTR; its other bits are 0. -/
def attrBig (attr : Nat) : Bool := attr.testBit 0
def attrUsage (attr : Nat) : Nat := attr / 16 % 16
def attrOk (attr : Nat) : Bool := decide (attr < 256) && attr / 2 % 8 == 0

/-- The bytes of a key by its size. -/
def keySize (big : Bool) : Nat := if big then 32 else 16

/-- A load that R297 refuses; node keys have 128 bits. -/
def loadRefused (kt attr : Nat) : Bool :=
  if kt < 256 then usageRefused kt (attrUsage attr) (attrBig attr) else attrBig attr

/-- A key slot persisted wrapped under the DUK (R299, R415): ATTR, then the wrapped key. -/
def keyPersist (slot attr : Nat) (key : List Byte) (s : State) : State :=
  corePut slot (leBytes 4 attr ++ bytesOf (kwWrap (natsOf duk) (natsOf key))) s

/-! ### In the Tender (R304, R369, R370) -/

/-- The target names the attached device (R330). -/
def attachedTo (s : State) (t : TagUse) : Bool := t.target == 0x1E || t.target == hostDev s

/-- KEY_LOAD: the Tender unwraps the key under KT, persists a slot key that the attached device keeps, and sends it on. -/
def keyLoad (q : Req) (s : State) : State :=
  let t := useOf s 0x8B01 q
  let s := dropHostReq 0x8B01 q s
  let kt := fld q 0 4
  let attr := fld q 4 4
  let alone := kt == 0 || attrBig attr
  if lenOf q ≠ 32 ∧ lenOf q ≠ 48 then hostAnswer t sBadLength [] s
  else if !ktOk kt ∨ !attrOk attr ∨ (16 ≤ t.target ∧ t.target < 0x1E) then hostAnswer t sBadField [] s
  else if lenOf q ≠ 16 + keySize (attrBig attr) then hostAnswer t sBadLength [] s
  else if alone ∧ !attachedTo s t then hostAnswer t sPolicy [] s
  else match kwUnwrap (natsOf (ktOf s)) (natsOf (q.payload.drop 8)) with
    | none => hostAnswer t sAuth [] s
    | some k =>
      let mine := decide (kt < 256) && (attachedTo s t || t.target == 0x1F)
      if loadRefused kt attr then hostAnswer t sKeyUsage [] s
      else if mine ∧ !(getBank s s.settings.active).valid then hostAnswer t sFlash [] s
      else
        let s := if mine then keyPersist kt attr (bytesOf k) s else s
        sendH 0xA (leBytes 1 t.win ++ leBytes 3 0 ++ leBytes 4 kt ++ leBytes 4 attr ++ leBytes 4 0 ++ padTo 32 (bytesOf k)) s

/-! ### In the Keeper -/

/-- A slot key loaded (R296-R298); a load that R297 refuses leaves the slot. -/
def loadSlot (slot attr : Nat) (key : List Byte) (s : State) : State :=
  if usageRefused slot (attrUsage attr) (attrBig attr) then s
  else keyChange { code := slot, slot := { valid := true, big := attrBig attr, usage := attrUsage attr, key := key } } s

/-- The key of a context loaded. -/
def loadCtx (n : Nat) (key : List Byte) (s : State) : State :=
  keyChange { code := 256 + n, slot := { valid := true, key := key } } s

/-- A node key loaded at its home, which carries it to the replica and the guests (R370). -/
def loadNode (n : Nat) (key : List Byte) (s : State) : State :=
  let s := loadCtx n key s
  let c := getCtx s n
  if !isHome s n then s
  else
    let s := if c.replDev = devOf s then s else sendContext n 2 c.replDev s
    forAll (getRun s n).guests (fun g s => sendContext n 3 g s) s

/-- A key-only CONTEXT frame (R370): KTARGET and ATTR in the context field, then the key wrapped under KS0. -/
def sendKeyOnly (kek : List Byte) (kt attr : Nat) (key : List Byte) (dest : Nat) (s : State) : State :=
  sendMr 4 0x40 dest (leBytes 4 0 ++ leBytes 4 kt ++ leBytes 4 attr ++ leBytes 120 0 ++ wrapKey kek key) s

/-- A key sent to other devices; the status that each of them gives the command: unreachable, or no KS0 here. A frame handed to its link
counts as loaded, for no frame of R264 reports it (log entry 109). -/
def spreadKey (kt attr : Nat) (key : List Byte) (dests : List Nat) (s : State) : Nat × State :=
  match chainKey s with
  | none => (if dests.isEmpty then sOk else sKeyInvalid, s)
  | some kek => (if dests.all (reachable s) then sOk else 19, forAll (dests.filter (reachable s)) (sendKeyOnly kek kt attr key) s)

/-- GEN of a slot or context once the present load is made. -/
def genOf (s : State) (code : Nat) : Nat := if code < 256 then (getKey s code).gen else (getCtx s (code - 256)).gen % 65536

/-- The key command of the Keeper ends: at once for the attached device alone, as a completion where other devices were sent the key. -/
def keyEnd (c : Caller) (remote : Bool) (status gen : Nat) (s : State) : State :=
  let payload := if status = sOk then leBytes 2 gen ++ leBytes 2 0 else []
  if remote then replyLater c status payload s else reply c status payload s

/-- A slot key: on the attached device where the target covers it, and on every other device it covers. -/
def keyToSlot (c : Caller) (slot attr : Nat) (key : List Byte) (s : State) : State :=
  let me := devOf s
  let others := if c.target = 0x1F then othersReachable s else if c.target < 16 ∧ c.target ≠ me then [c.target] else []
  let mine := c.target == 0x1E || c.target == 0x1F || c.target == me
  let gen := if mine then (genOf s slot + 1) % 65536 else 0
  let s := if mine then loadSlot slot attr key s else s
  let r := spreadKey slot attr key others s
  keyEnd c (!others.isEmpty) r.1 gen r.2

/-- A node key: here where the node's home is here, else to its home, or, where no copy tells which device that is, to every device, of
which the home alone takes it. -/
def keyToNode (c : Caller) (kt : Nat) (key : List Byte) (s : State) : State :=
  match findNode s (ktAddr kt) with
  | some n =>
    if isHome s n then keyEnd c false sOk ((genOf s (256 + n) + 1) % 65536) (loadNode n key s)
    else
      let r := spreadKey kt 0 key [(getCtx s n).homeDev] s
      keyEnd c true r.1 0 r.2
  | none =>
    if othersReachable s = [] then keyEnd c false sNotFound 0 s
    else
      let r := spreadKey kt 0 key (othersReachable s) s
      keyEnd c true r.1 0 r.2

/-- The key command that a KEY_LOAD message belongs to; none while the Tender reloads the stored keys of a boot (R299, R480; log entry 81). -/
def keyCaller (s : State) (win : Nat) : Option Caller :=
  (s.tender.tags.find? (fun t => t.opcode == 0x8B01 && t.win == win && !t.pend)).map (fun t =>
    { win := win, tag := t.tag, opcode := 0x8B01, target := t.target % 32, counter := t.counter, origin := 16 })

/-- A KEY_LOAD message of the Tender taken by the Keeper. -/
def takeKey (win kt attr : Nat) (key : List Byte) (s : State) : State :=
  match (if s.tender.radioReady then keyCaller s win else none) with
  | none => if kt < 256 then loadSlot kt attr key s else s
  | some c =>
    if kt < 256 then keyToSlot c kt attr key s
    else if ktNode kt then keyToNode c kt key s
    else if (getCtx s (kt - 256)).role = 0 then reply c sNotFound [] s
    else keyEnd c false sOk ((genOf s kt + 1) % 65536) (loadNode (kt - 256) key s)

/-- KEY_LOAD over the barrier (R309). -/
def keyLoadMessage (m : BMsg) (s : State) : State :=
  barrierRow 0xA .radio m (fun s =>
    let attr := leAt m.payload 8 4
    takeKey (bAt m 0 1) (leAt m.payload 4 4) attr ((m.payload.drop 16).take (keySize (attrBig attr))) s) s

/-- KEY_INVAL: the guarded CPH_KEY_INVAL (R298), and the key removed from the settings. -/
def keyInval (q : Req) (s : State) : State :=
  runCmd 0x8B02 q (fun c => fixed 4 q c (fun s =>
    if 2 ≤ fld q 1 1 ∨ !zeros q 2 2 then reply c sBadField [] s
    else
      let all := fld q 1 1 == 1
      reply c sOk [] (forAll (invalSlots (fld q 0 1) all) coreDrop (keyInvalidate (fld q 0 1) all s)))) s

/-- KEY_ATTR. -/
def keyAttrCmd (q : Req) (s : State) : State :=
  runCmd 0x0B03 q (fun c => fixed 4 q c (fun s =>
    let n := fld q 2 2
    if !zeros q 1 1 ∨ n = 0 ∨ 256 < fld q 0 1 + n then reply c sBadField [] s
    else reply c sOk ((List.range n).flatMap (fun k => leBytes 4 (keyAttr s (fld q 0 1 + k)).toNat)) s)) s

/-! ### CONTEXT (R264, R300, R370) -/

/-- A key-only frame taken: a slot key is loaded and persisted; a node key only where the home is. KS0 and 256-bit keys never come so. -/
def keyOnlyTaken (kt attr : Nat) (key : List Byte) (s : State) : State :=
  if ktNode kt then
    (match findNode s (ktAddr kt) with
     | some n => if isHome s n then loadNode n key s else s
     | none => s)
  else if kt = 0 ∨ 256 ≤ kt ∨ loadRefused kt attr then s
  else
    let s := if (getBank s s.settings.active).valid then keyPersist kt attr key s else s
    loadSlot kt attr key s

/-- CONTEXT. A release carries no key. -/
def contextFrame (f : MFrame) (s : State) : State :=
  mrRow 4 0x40 f (fun s =>
    let role := leAt f.payload 0 1 % 4
    let c := ctxOfBytes ((f.payload.drop 4).take 128)
    let w := (f.payload.drop 132).take 24
    let bare := w.all (fun b => b == 0)
    if f.payload.length ≠ 156 then s
    else if role = 0 ∧ bare then takeRelease (mrSrc f) c.addr s
    else if bare then placeCtx (mrSrc f) role c [] s
    else match (chainKey s).bind (fun kek => kwUnwrap (natsOf kek) (natsOf w)) with
      | none => raiseEvt 9 0x151 (leBytes 3 (if role = 0 then 0 else c.addr)) (countCompletion 1 s)
      | some key =>
        if role = 0 then keyOnlyTaken (leAt f.payload 4 4) (leAt f.payload 8 4) (bytesOf key) (countCompletion 0 s)
        else placeCtx (mrSrc f) role c (bytesOf key) (countCompletion 0 s)) s

def execKeyLoad (q : Req) (s : State) : Res := .next (keyLoad q s)
def execKeyLoadMessage (m : BMsg) (s : State) : Res := .next (keyLoadMessage m s)
def execKeyInval (q : Req) (s : State) : Res := .next (keyInval q s)
def execKeyAttr (q : Req) (s : State) : Res := .next (keyAttrCmd q s)

end Sys2Proof.Machine
end

