-- ==== Sys2Proof/Machine/Rtc.lean ====
section
/-! DEFINITION. The real-time clock (R374-R386): calendar, loads, alarm, oscillator, backup supply, and setting from network time. The
registers hold the running clock, the alarm and the log; the shadow and what waits stand in `State.rtc`. -/

namespace Sys2Proof.Machine

def rtcTime : Nat := 0x5000
def rtcDate : Nat := 0x5004
def rtcStatus : Nat := 0x5010
def rtcAlm : Nat := 0x501C
def setRtcBit (i : Nat) (b : Bool) (s : State) : State := hsetB rtcStatus i b s
def rtcBit (s : State) (i : Nat) : Bool := hgetB s rtcStatus i

/-! ### Calendar arithmetic (R374, R375, R378) -/

def bcdOk (v : Nat) : Bool := decide (v % 16 ≤ 9) && decide (v / 16 ≤ 9)
def unbcd (v : Nat) : Nat := v / 16 * 10 + v % 16
def toBcd (v : Nat) : Nat := v / 10 * 16 + v % 10

def leapYear (y : Nat) : Bool := y % 4 == 0 && (y % 100 != 0 || y % 400 == 0)
def daysIn (y m : Nat) : Nat :=
  if m = 2 then (if leapYear y then 29 else 28) else if m = 4 ∨ m = 6 ∨ m = 9 ∨ m = 11 then 30 else 31

/-- Days from 2000-01-01 to the first day of a year from 2000 on. -/
def daysToYear (y : Nat) : Nat := 365 * (y - 2000) + ((y - 1) / 4 - 499) - ((y - 1) / 100 - 19) + ((y - 1) / 400 - 4)

/-- Days in the months of a year before month `m`. -/
def daysToMonth (y m : Nat) : Nat := ((List.range (m - 1)).map (fun i => daysIn y (i + 1))).sum

/-- The weekday of a date, 1 Monday to 7 Sunday: 2000-01-01 was a Saturday. -/
def weekdayOf (y m d : Nat) : Nat := (daysToYear y + daysToMonth y m + (d - 1) + 5) % 7 + 1

/-- The fields of RTC_TIME and RTC_DATE as numbers. -/
structure Civil where
  sec : Nat
  min : Nat
  hour : Nat
  day : Nat
  month : Nat
  year : Nat
deriving DecidableEq, Repr

def civilOf (t d : Word) : Civil :=
  { sec := unbcd (fieldOf t 6 0), min := unbcd (fieldOf t 14 8), hour := unbcd (fieldOf t 21 16), day := unbcd (fieldOf d 5 0)
    month := unbcd (fieldOf d 12 8), year := 100 * unbcd (fieldOf d 31 24) + unbcd (fieldOf d 23 16) }

def timeWord (c : Civil) (weekday : Nat) : Word :=
  BitVec.ofNat 32 (toBcd c.sec + 2 ^ 8 * toBcd c.min + 2 ^ 16 * toBcd c.hour + 2 ^ 24 * weekday)

def dateWord (c : Civil) : Word :=
  BitVec.ofNat 32 (toBcd c.day + 2 ^ 8 * toBcd c.month + 2 ^ 16 * toBcd (c.year % 100) + 2 ^ 24 * toBcd (c.year / 100))

/-- The check of a load or an alarm (R378). -/
def civilOk (t d : Word) : Bool :=
  let c := civilOf t d
  [fieldOf t 6 0, fieldOf t 14 8, fieldOf t 21 16, fieldOf d 5 0, fieldOf d 12 8, fieldOf d 23 16, fieldOf d 31 24].all bcdOk &&
    decide (c.sec ≤ 59) && decide (c.min ≤ 59) && decide (c.hour ≤ 23) && decide (1 ≤ c.month) && decide (c.month ≤ 12) &&
    decide (1 ≤ c.day) && decide (c.day ≤ daysIn c.year c.month) && decide (2000 ≤ c.year) && decide (c.year ≤ 3999)

/-- The second after a time; true for the century wrap (R375). -/
def civilNext (c : Civil) : Civil × Bool :=
  if c.sec < 59 then ({ c with sec := c.sec + 1 }, false)
  else if c.min < 59 then ({ c with sec := 0, min := c.min + 1 }, false)
  else if c.hour < 23 then ({ c with sec := 0, min := 0, hour := c.hour + 1 }, false)
  else if c.day < daysIn c.year c.month then ({ c with sec := 0, min := 0, hour := 0, day := c.day + 1 }, false)
  else if c.month < 12 then ({ c with sec := 0, min := 0, hour := 0, day := 1, month := c.month + 1 }, false)
  else if c.year < 3999 then ({ c with sec := 0, min := 0, hour := 0, day := 1, month := 1, year := c.year + 1 }, false)
  else ({ sec := 0, min := 0, hour := 0, day := 1, month := 1, year := 2000 }, true)

/-- The order of times: BCD fields from the century down. -/
def civilKey (t d : Word) : Nat := (d &&& 0xFFFF1F3F).toNat * 2 ^ 32 + (t &&& 0x3F7F7F).toNat

/-! ### The tick (R375, R378-R381) -/

/-- The ordinary advance. -/
def rtcAdvance (s : State) : State :=
  let c := civilOf (hrd s rtcTime) (hrd s rtcDate)
  let n := civilNext c
  let wd := hgetF s rtcTime 26 24
  let wd := if n.2 then 6 else if n.1.day = c.day ∧ n.1.month = c.month ∧ n.1.year = c.year then wd else if wd = 7 then 1 else wd + 1
  let s := hwr rtcDate (dateWord n.1) (hwr rtcTime (timeWord n.1 wd) s)
  if n.2 then setRtcBit 2 true s else s

/-- The clock set, with the weekday of its date. -/
def rtcSet (t d : Word) (s : State) : State :=
  let c := civilOf t d
  hwr rtcDate (dateWord c) (hwr rtcTime (timeWord c (weekdayOf c.year c.month c.day)) s)

/-- RTC_ALARM reaches the host die now if it is ON, otherwise at its next ON (R380). -/
def rtcAlarmIrq (s : State) : State := if hostRuns s then irq 13 s else { s with rtc := { s.rtc with owedAlarm := true } }

/-- The alarm judged against the resulting time; `before` is the clock before a load of this tick (R380, R381). -/
def rtcAlarm (before : Option Nat) (s : State) : State :=
  let now := civilKey (hrd s rtcTime) (hrd s rtcDate)
  let a := civilKey (hrd s 0x5014) (hrd s 0x5018)
  if hgetB s rtcAlm 0 && decide (a ≤ now) then
    let adj := match before with
      | some t1 => decide (t1 < a)
      | none => false
    let s := hsetB rtcAlm 8 true (hsetB rtcAlm 0 false s)
    rtcAlarmIrq (if adj then hsetB rtcAlm 9 true s else s)
  else s

/-- RTC_TICK (R379): the load or the advance, then the alarm; none while the crystal is stopped (R382). -/
def rtcTick (s : State) : State :=
  if s.rtc.stopped then s
  else
    let s := match s.rtc.tickDue with
      | some a => clocks (a - s.age) { s with rtc := { s.rtc with tickDue := none } }
      | none => s
    if rtcBit s 8 then
      let t1 := civilKey (hrd s rtcTime) (hrd s rtcDate)
      let ok := civilOk s.rtc.time s.rtc.date
      let s := setRtcBit 9 false (setRtcBit 8 false s)
      if ok then rtcAlarm (some t1) (rtcSet s.rtc.time s.rtc.date s)
      else rtcAlarm none (rtcAdvance (setRtcBit 1 true s))
    else rtcAlarm none (rtcAdvance s)

/-! ### Host accesses (R376, R377, R380, R383) -/

/-- Writes of RTC_TIME, RTC_DATE and RTC_CTL are locked out while RTC_SYNC runs (R384). -/
def rtcLocked (s : State) : Bool := s.rtc.sync.isSome

/-- The shadow takes the running clock before the first write of it. -/
def rtcDirty (s : State) : State :=
  if rtcBit s 9 then s else setRtcBit 9 true { s with rtc := { s.rtc with time := hrd s rtcTime, date := hrd s rtcDate } }

/-- The shadow changed. -/
def rtcShadow (isDate : Bool) (v : Word) (s : State) : State :=
  let s := rtcDirty s
  if isDate then { s with rtc := { s.rtc with date := v &&& 0xFFFF1F3F } } else { s with rtc := { s.rtc with time := v &&& 0x3F7F7F } }

/-- RTC_SHADOW_WRITE. -/
def rtcShadowWrite (isDate : Bool) (value : Word) (s : State) : State :=
  if !hostRuns s then s else if rtcLocked s then setRtcBit 3 true s else rtcShadow isDate value s

/-- One second in core clocks. -/
def clkSecond : Nat := 655360000

/-- LOAD armed; with DIV_RESET the next tick comes 1 s after the strobe. DEDUCED (log entry 93): with a clean shadow the load is of the
running clock at the strobe. -/
def rtcArmLoad (divReset : Bool) (s : State) : State :=
  if rtcBit s 8 then s
  else
    let s := if rtcBit s 9 then s else { s with rtc := { s.rtc with time := hrd s rtcTime, date := hrd s rtcDate } }
    let s := if divReset then { s with rtc := { s.rtc with tickDue := some (s.age + clkSecond) } } else s
    setRtcBit 8 true s

/-- RTC_LOAD. -/
def rtcLoad (divReset : Bool) (s : State) : State :=
  if !hostRuns s then s else if rtcLocked s then setRtcBit 3 true s else rtcArmLoad divReset s

def rtcDrop (s : State) : State := setRtcBit 9 false (setRtcBit 8 false s)

/-- RTC_DISCARD. -/
def rtcDiscard (s : State) : State :=
  if !hostRuns s then s else if rtcLocked s then setRtcBit 3 true s else rtcDrop s

/-- RTC_ALARM_ARM (R380): ARM 1 checks the alarm registers; ARM 0 disarms. -/
def rtcAlarmArm (arm : Bool) (s : State) : State :=
  if !hostRuns s then s
  else if !arm then hsetB rtcAlm 0 false s
  else if civilOk (hrd s 0x5014) (hrd s 0x5018) then hsetB rtcAlm 0 true s
  else setRtcBit 1 true (hsetB rtcAlm 0 false s)

/-- A write of RTC_ALM_TIME or RTC_ALM_DATE (R380). -/
def rtcAlarmWrite (off : Nat) (v : Word) (s : State) : State :=
  if hgetB s rtcAlm 0 then setRtcBit 3 true s else hwr off (v &&& BitVec.ofNat 32 (hostDesc off).rw) s

/-- RTC_TIME_READ (R376): `subsec` is the divider at the read. RTC_DATE and RTC_SUBSEC are latched until the next read. -/
def rtcTimeRead (subsec : BitVec 15) (s : State) : State :=
  if !hostRuns s then s
  else hwr 0x5008 (BitVec.ofNat 32 subsec.toNat) { s with lastRead := hrd s rtcTime, hlatch := tabSet (fun _ => none) s.hlatch rtcDate (some (hrd s rtcDate)) }

/-- SWITCH_LOG_CLEAR (R383): COUNT and LOGGED; the stamp stays. -/
def switchLogClear (s : State) : State := if hostRuns s then hwr 0x5028 0 s else s

/-! ### Crystal and supply (R374, R382, R383) -/

/-- CRYSTAL_STOP. -/
def crystalStop (s : State) : State := setRtcBit 0 true { s with rtc := { s.rtc with stopped := true } }

/-- CRYSTAL_RESTART: the clock goes on from its held value. -/
def crystalRestart (s : State) : State := { s with rtc := { s.rtc with stopped := false } }

/-- RTC_POWER_ON: every register of the block at its reset value. -/
def rtcPowerOn (s : State) : State :=
  { s with hreg := s.hreg.filter (fun p => p.1 / 0x1000 != 5), rtc := {} }

/-- SWITCH_TO_VBAT: the domain moves to VBAT, the switch-over is counted and the first one stamped; the host die is in BACKUP: nothing of it
is left but the RTC domain and the flash (R436, R454). -/
def switchToVbat (s : State) : State :=
  if rtcBit s 10 then s
  else
    let s := setRtcBit 10 true { s with rtc := { s.rtc with owedSwitch := true } }
    let s := hsetF 0x5028 7 0 (min 255 (hgetF s 0x5028 7 0 + 1)) s
    let s := if hgetB s 0x5028 8 then s
      else hsetB 0x5028 8 true (hwr 0x5020 (hrd s rtcTime) (hwr 0x5024 (hrd s rtcDate) s))
    let s := hostEmpty true { s with tender := { s.tender with snapshot := none }, reqMem := [], rspMem := [] }
    hsetF 0x1000 1 0 2 { s with boot := { s.boot with trial := false } }

/-- SWITCH_RETURN: back on the main supply; the host die starts with its own POWER_ON. -/
def switchReturn (s : State) : State := setRtcBit 10 false s

/-! ### RTC_SYNC (R365, R384) -/

/-- RTC_SYNC: refused while network time runs free; otherwise the pending shadow is discarded and the command waits for NET_TIME.
DEDUCED (log entry 94): a Tender that has had no NET_TIME yet answers WRONG_STATE too. -/
def rtcSync (q : Req) (s : State) : State :=
  runHost 0x0709 q (fun t => hFixed 4 q t (zeros q 2 2) (fun s =>
    if !s.tender.netSeen ∨ s.tender.netState % 4 = 0 then hostAnswer t sWrongState [] s
    else if s.rtc.sync.isSome then hostAnswer t sBusy [] s
    else
      let s := rtcDrop s
      { s with rtc := { s.rtc with sync := some (t, sgn q 0 2) } })) s

/-- The civil time of a count of seconds since 1970-01-01 UTC, for days from 2000-01-01 on: years by steps of 400, 100, 4 and 1. -/
def civilOfUnix (u : Nat) : Civil :=
  let d := u / 86400 - 10957
  let r := u % 86400
  let yd := (List.range 2000).foldl (fun (a : Nat × Nat) _ =>
    let n := if leapYear a.1 then 366 else 365
    if a.2 < n then a else (a.1 + 1, a.2 - n)) (2000, d)
  let md := (List.range 11).foldl (fun (a : Nat × Nat) _ =>
    let n := daysIn yd.1 a.1
    if a.2 < n then a else (a.1 + 1, a.2 - n)) (1, yd.2)
  { sec := r % 60, min := r % 3600 / 60, hour := r / 3600, day := md.2 + 1, month := md.1, year := yd.1 }

/-- The seconds since 1970 of 2000-01-01 00:00:00 and of 4000-01-01 00:00:00. -/
def unix2000 : Nat := 946684800
def unix4000 : Nat := 64060588800

/-- A waiting RTC_SYNC takes a NET_TIME for second `sec`. -/
def rtcTakeNet (sec : Nat) (s : State) : State :=
  match s.rtc.sync with
  | none => s
  | some (t, ofs) =>
    let u : Int := (sec : Int) + 1 - ofs
    let s := { s with rtc := { s.rtc with sync := none } }
    if u < unix2000 ∨ (unix4000 : Int) ≤ u then hostAnswer t sDate [] s
    else
      let c := civilOfUnix u.toNat
      hostAnswer t sOk [] (rtcArmLoad true (rtcShadow true (dateWord c) (rtcShadow false (timeWord c 0) s)))

/-- NET_TIME (R309, R384). -/
def netTimeRow (m : BMsg) (s : State) : State :=
  barrierRow 0xB .host m (fun s =>
    rtcTakeNet (bAt m 0 8) { s with tender := { s.tender with
        netS := bAt m 0 8, netNs := bAt m 8 4 % 2 ^ 30, netStep := bAt m 12 1, netState := bAt m 13 1, netSeen := true } }) s

def execRtcTick (s : State) : Res := .next (rtcTick s)
def execRtcShadowWrite (isDate : Bool) (value : Word) (s : State) : Res := .next (rtcShadowWrite isDate value s)
def execRtcLoad (divReset : Bool) (s : State) : Res := .next (rtcLoad divReset s)
def execRtcDiscard (s : State) : Res := .next (rtcDiscard s)
def execRtcAlarmArm (arm : Bool) (s : State) : Res := .next (rtcAlarmArm arm s)
def execRtcTimeRead (subsec : BitVec 15) (s : State) : Res := .next (rtcTimeRead subsec s)
def execSwitchLogClear (s : State) : Res := .next (switchLogClear s)
def execCrystalStop (s : State) : Res := .next (crystalStop s)
def execCrystalRestart (s : State) : Res := .next (crystalRestart s)
def execRtcPowerOn (s : State) : Res := .next (rtcPowerOn s)
def execSwitchToVbat (s : State) : Res := .next (switchToVbat s)
def execSwitchReturn (s : State) : Res := .next (switchReturn s)
def execRtcSync (q : Req) (s : State) : Res := .next (rtcSync q s)
def execNetTime (m : BMsg) (s : State) : Res := .next (netTimeRow m s)

end Sys2Proof.Machine
end

