-- ==== Sys2Proof/Machine/Tag.lean ====
section
/-! DEFINITION. The commissioning tag (R458-R473): the states of the air interface, the quiet latch, the tag commands with their
authentication and session, page writes from both sides, and the host's TAG commands. -/

namespace Sys2Proof.Machine

/-! ### Small parts -/

/-- The fields of the record that the session loaded. -/
def tagSecured (s : State) : Bool := leAt s.tag.cfg 0 1 == 1
def tagQuietS (s : State) : Nat := leAt s.tag.cfg 1 1
def tagAttr (s : State) : List Byte := (s.tag.cfg.drop 2).take 16
def tagKey (s : State) : List Byte := (s.tag.cfg.drop 18).take 16

/-- FREAD and FWRITE of a page; page 0 has neither (R463). -/
def fread (s : State) (p : Nat) : Bool := p != 0 && (leAt (tagAttr s) (p / 16 * 4) 4).testBit (2 * (p % 16))
def fwrite (s : State) (p : Nat) : Bool := p != 0 && (leAt (tagAttr s) (p / 16 * 4) 4).testBit (2 * (p % 16) + 1)

/-- The host die has power, so the TAG registers take note. -/
def hostUp (s : State) : Bool := decide (hostPower s < 2)

/-- A millisecond of the machine's age. -/
def tagMs : Nat := 655360

/-- The tag sends bytes to the reader. -/
def tagSend (bs : List Byte) (s : State) : State := { s with tag := { s.tag with sent := s.tag.sent ++ [bs] } }

/-- The state of the tag changes, and TAG_STATUS with it. -/
def tagTo (st : Nat) (s : State) : State := tagShow { s with tag := { s.tag with st := st } }

/-- A session is secured. -/
def secured (s : State) : Bool := !s.tag.sk.isEmpty

/-- TAG_FIELD, once for each field (R459, R461). -/
def tagField (s : State) : State :=
  if s.tag.raised ∨ !hostUp s then s else irq 15 (hsetB 0x6004 17 true { s with tag := { s.tag with raised := true } })

/-- The time of the quiet latch: QUIET_S seconds within 20 %, a free value (R462). -/
def quietTime (s : State) : Nat :=
  let q := tagQuietS s * 1000 * tagMs
  q * 4 / 5 + Config.freeDraw s.free % (q * 2 / 5 + 1)

/-- A session ends (R459, R462): a served one is counted and sets the quiet latch. -/
def sessionEnd (st : Nat) (s : State) : State :=
  let s := if s.tag.served then
      drawFree (onlyIf (hostUp s) (hincW 0x6060) { s with tag := { s.tag with quiet := true, quietEnd := s.age + quietTime s } })
    else s
  let s := tagTo st { s with tag := { s.tag with served := false, rt := none, sk := [], ctrIn := 0, ctrOut := 0 } }
  onlyIf (hostUp s) (fun s => irq 16 (hsetB 0x6004 18 true s)) s

/-! ### Page writes (R469-R471) -/

/-- A write of the host starts. -/
def hostStart (w : TagWrite) (s : State) : State :=
  beginCopy w.page (hsetB 0x6004 9 true { s with tag := { s.tag with hostWrite := some { w with since := s.age }, held := none } })

/-- A host write that meets a field write of its page is held (R471). -/
def hostWriteAsk (w : TagWrite) (s : State) : State :=
  let w := { w with asked := s.age }
  match s.tag.fieldWrite with
  | some f => if f.page = w.page then hsetB 0x6004 9 true { s with tag := { s.tag with held := some w } } else hostStart w s
  | none => hostStart w s

/-- A held host write starts once no field write owns its page. -/
def heldStart (s : State) : State :=
  match s.tag.held with
  | some w => hostStart w s
  | none => s

/-- A field write starts, or waits for a host write of its page; of two that start in one clock it is the first, and the host's is held. -/
def fieldStart (w : TagWrite) (s : State) : State :=
  let w := { w with asked := s.age }
  match s.tag.hostWrite with
  | some h =>
    if h.page ≠ w.page then fieldBegin w s
    else if h.since = s.age then fieldBegin w { s with tag := { s.tag with hostWrite := none, held := some h } }
    else { s with tag := { s.tag with fieldWait := some w } }
  | none => fieldBegin w s

/-- A host command ends (R472): its status, counted. -/
def hcmdEnd (status : Nat) (s : State) : State := hsetB 0x6004 9 false (hincF 0x600C 31 16 1 (hsetF 0x600C 7 0 status s))

/-! ### The air interface (R459, R461) -/

/-- FIELD_ON: after a dropout longer than the capacitor holds the quiet latch is clear (R462); TAG_FD rises unless the dropout was shorter
than its 1 ms (R461). -/
def fieldOn (s : State) : State :=
  if s.tag.st ≠ 0 then s
  else
    let t := s.tag
    tagField (tagTo 1 { s with tag := { t with
      cfg := tagRecord s, raised := t.raised && decide (s.age < t.fdLow), quiet := t.quiet && decide (s.age < t.quietDrop) } })

/-- FIELD_LOST: a session ends; a field write in progress is not committed, and a held host write starts. -/
def fieldLost (s : State) : State :=
  if s.tag.st = 0 then s
  else
    let s := if s.tag.st = 5 then sessionEnd 0 s else tagTo 0 s
    heldStart (drawFree { s with tag := { s.tag with
      fieldWrite := none, fieldWait := none, fromHalt := false, fdLow := s.age + tagMs
      quietDrop := s.age + 500 * tagMs + Config.freeDraw s.free % (150 * tagMs) + 1 } })

/-- Any other frame in READY or ACTIVE. -/
def tagFallBack (s : State) : State :=
  if s.tag.st = 2 ∨ s.tag.st = 3 then tagTo (if s.tag.fromHalt then 4 else 1) s else s

/-- ATQA is sent. -/
def sendAtqa (fromHalt : Bool) (s : State) : State :=
  tagSend [0x44, 0x00] (tagTo 2 { s with tag := { s.tag with fromHalt := fromHalt } })

/-- REQA. -/
def reqa (s : State) : State :=
  if s.tag.st = 1 then (if s.tag.quiet then s else sendAtqa false s) else tagFallBack s

/-- WUPA. -/
def wupa (s : State) : State :=
  if s.tag.st = 1 ∨ s.tag.st = 4 then (if s.tag.quiet then s else sendAtqa (s.tag.st == 4) s) else tagFallBack s

/-- ANTICOLLISION_SELECT: both cascade levels with the UID; `uid` is the one selected. -/
def anticollisionSelect (uid : BitVec 56) (s : State) : State :=
  if s.tag.st = 2 ∧ uid = Config.tagUid then tagSend [0x20] (tagSend [0x04] (tagTo 3 s)) else tagFallBack s

/-- HLTA. -/
def hlta (s : State) : State := if s.tag.st = 3 then tagTo 4 s else tagFallBack s

/-- RATS: the session starts with the record as it stands. -/
def rats (s : State) : State :=
  if s.tag.st ≠ 3 then tagFallBack s
  else
    tagField (tagSend [0x05, 0x78, 0x00, 0x81, 0x00]
      (tagTo 5 { s with tag := { s.tag with cfg := tagRecord s, served := false, rt := none, sk := [], ctrIn := 0, ctrOut := 0 } }))

/-- S_DESELECT. -/
def sDeselect (s : State) : State := if s.tag.st = 5 then sessionEnd 4 (tagSend [0xC2] s) else tagFallBack s

/-- TAG_OTHER_FRAME. -/
def tagOtherFrame (s : State) : State := tagFallBack s

/-! ### Tag commands (R464-R466) -/

/-- The nonce of a session message. -/
def tagNonce (ctr dir : Nat) : List Nat := natsOf (leBytes 7 Config.tagUid.toNat ++ leBytes 4 ctr ++ leBytes 1 dir ++ leBytes 1 0)

/-- An answer in plain. -/
def tagPlain (status : Nat) (bs : List Byte) (s : State) : State :=
  let s := if status = sOk then { s with tag := { s.tag with served := true } } else s
  tagSend (leBytes 1 status ++ bs) s

/-- An answer: as CCM ciphertext with its MIC in a secured session. -/
def tagAnswer (status : Nat) (bs : List Byte) (s : State) : State :=
  if !secured s then tagPlain status bs s
  else
    let r := ccmSeal (natsOf s.tag.sk) (tagNonce s.tag.ctrOut 1) [] (natsOf (leBytes 1 status ++ bs)) 8
    let s := if status = sOk then { s with tag := { s.tag with served := true } } else s
    tagSend (bytesOf (r.1 ++ r.2)) { s with tag := { s.tag with ctrOut := (s.tag.ctrOut + 1) % 2 ^ 32 } }

/-- A failed AUTH or a failed MIC (R459): AUTH_FAIL in plain, and the session ends. -/
def tagAuthFail (s : State) : State := sessionEnd 4 (tagPlain sAuth [] s)

/-- The codes of R464. -/
def tagCodes : List Nat := [0x01, 0x10, 0x11, 0x20, 0x21, 0x30]

/-- A command INF in plain as it is handled: an unknown CMD, its length, then its meaning; a command of another row is that row's. -/
def tagRun (code n : Nat) (inf : List Byte) (body : State → State) (s : State) : State :=
  let c := leAt inf 0 1
  let s' := { s with tag := { s.tag with rt := none } }
  if inf.isEmpty then tagAnswer sBadLength [] s'
  else if !tagCodes.contains c then tagAnswer 11 [] s'
  else if c ≠ code then s
  else if inf.length ≠ n then tagAnswer sBadLength [] s'
  else body s'

/-- A tag command other than AUTH: in a secured session its INF is opened first. One command runs at a time. -/
def tagCmd (code n : Nat) (inf : List Byte) (body : List Byte → State → State) (s : State) : State :=
  if s.tag.st ≠ 5 ∨ s.tag.fieldWrite.isSome ∨ s.tag.fieldWait.isSome then s
  else if !secured s then tagRun code n inf (body inf) s
  else if inf.length < 8 then tagAuthFail s
  else
    let m := inf.length - 8
    match ccmOpen (natsOf s.tag.sk) (tagNonce s.tag.ctrIn 0) [] (natsOf (inf.take m)) (natsOf (inf.drop m)) with
    | none => tagAuthFail s
    | some p =>
      let p := bytesOf p
      if tagCodes.contains (leAt p 0 1) ∧ leAt p 0 1 ≠ code then s
      else tagRun code n p (body p) { s with tag := { s.tag with ctrIn := (s.tag.ctrIn + 1) % 2 ^ 32 } }

/-- An AUTH command, always in plain. -/
def tagAuth (s : State) : Bool := s.tag.st == 5 && s.tag.fieldWrite.isNone && s.tag.fieldWait.isNone

/-- The identity that GET_INFO gives. -/
def tagIdentity (s : State) : List Byte :=
  leBytes 1 (leAt s.tag.cfg 0 1) ++ leBytes 1 (tagQuietS s) ++ leBytes 7 Config.tagUid.toNat ++ leBytes 2 0x6416 ++ leBytes 1 2 ++
    leBytes 8 Config.eui.toNat ++ tagAttr s

/-- GET_INFO. -/
def getInfo (inf : List Byte) (s : State) : State :=
  tagCmd 0x01 1 inf (fun _ s =>
    if !secured s ∧ tagSecured s then tagAnswer sOk (leBytes 1 1 ++ leBytes 7 Config.tagUid.toNat) s
    else tagAnswer sOk (tagIdentity s) s) s

/-- READ_PAGE. -/
def readPage (inf : List Byte) (s : State) : State :=
  tagCmd 0x20 2 inf (fun inf s =>
    let p := leAt inf 1 1
    if 63 < p then tagAnswer sBadField [] s
    else if !secured s ∧ (tagSecured s ∨ fread s p) then tagAnswer sPolicy [] s
    else tagAnswer sOk (leBytes 4 (pageSeq s p) ++ pageData s p) s) s

/-- WRITE_PAGE: it answers once its commit word is programmed. -/
def writePage (inf : List Byte) (s : State) : State :=
  tagCmd 0x21 130 inf (fun inf s =>
    let p := leAt inf 1 1
    if 63 < p then tagAnswer sBadField [] s
    else if !secured s then tagAnswer sPolicy [] s
    else if !fwrite s p then tagAnswer sReadOnly [] s
    else fieldStart { cmd := 1, page := p, data := inf.drop 2 } s) s

/-- SET_CONFIG. -/
def setConfig (inf : List Byte) (s : State) : State :=
  tagCmd 0x30 3 inf (fun inf s =>
    if 1 < leAt inf 1 1 ∨ leAt inf 2 1 < 2 ∨ 20 < leAt inf 2 1 then tagAnswer sBadField [] s
    else if !secured s then tagAnswer sPolicy [] s
    else fieldStart { cmd := 3, page := recordPage, data := inf.drop 1 } s) s

/-- X rotated left by one byte (R465). -/
def rotByte (x : List Nat) : List Nat := x.drop 1 ++ x.take 1

/-- AUTH_BEGIN: Rt is a free value. -/
def authBegin (inf : List Byte) (s : State) : State :=
  if !tagAuth s then s
  else tagRun 0x10 1 inf (fun s =>
    if secured s then tagPlain sPolicy [] s
    else
      let rt := leBytes 16 (Config.freeBytes s.free).toNat
      let ek := bytesOf (aesEnc (roundKeys (natsOf (tagKey s))) (natsOf rt))
      tagPlain sOk ek (drawFree { s with tag := { s.tag with rt := some rt } })) s

/-- AUTH_FINISH. -/
def authFinish (inf : List Byte) (s : State) : State :=
  if !tagAuth s then s
  else
    let was := s.tag.rt
    tagRun 0x11 33 inf (fun s =>
      if secured s then tagPlain sPolicy [] s
      else match was with
        | none => tagPlain 22 [] s
        | some rt =>
          let ks := roundKeys (natsOf (tagKey s))
          let c := natsOf (inf.drop 1)
          let rr := aesDec ks (c.take 16)
          if xorL (aesDec ks (c.drop 16)) (c.take 16) ≠ rotByte (natsOf rt) then tagAuthFail (onlyIf (hostUp s) (hincW 0x6064) s)
          else
            let s := tagPlain sOk (bytesOf (aesEnc ks (rotByte rr))) s
            tagShow { s with tag := { s.tag with sk := bytesOf (aesEnc ks (rr.take 8 ++ (natsOf rt).take 8)), ctrIn := 0, ctrOut := 0 } }) s

/-- A field write has ended: it answers, and a page write is reported (log entry 118); one that fails its program leaves the old copy
(R464). -/
def fieldWriteDone (fails : Bool) (w : TagWrite) (s : State) : State :=
  let s := { s with tag := { s.tag with fieldWrite := none } }
  let s := if fails then tagAnswer sFlash [] s else
    let s := commitCopy w.page (writtenData w s) s
    if w.page < 64 then
      tagAnswer sOk (leBytes 4 (pageSeq s w.page))
        (onlyIf (hostUp s) (fun s => irq 17 (hincF 0x6018 31 16 1 (hsetF 0x6018 5 0 w.page (hsetB 0x6004 19 true s)))) s)
    else tagAnswer sOk [] s
  match s.tag.held with
  | some h => if h.page = w.page then hostStart h s else s
  | none => s

/-- A host write has ended: OK clears HBUF_DIRTY, and one that fails its program leaves the old copy and the buffer (R470, R472). -/
def hostWriteDone (fails : Bool) (w : TagWrite) (s : State) : State :=
  let s := { s with tag := { s.tag with hostWrite := none } }
  let s := if fails then hcmdEnd sFlash s else
    let s := commitCopy w.page (writtenData w s) s
    hcmdEnd sOk (if w.cmd = 1 then hsetB 0x6004 8 false { s with tag := { s.tag with buf := [] } } else s)
  match s.tag.fieldWait with
  | some f => fieldStart f { s with tag := { s.tag with fieldWait := none } }
  | none => s

/-- The time of a page write: the erase, the data and the commit word, 3.8 ms (R469). -/
def pageWriteTime : Nat := 3800 * tagMs / 1000

/-- PAGE_WRITE_DONE (R469, R471): the commit word of a write of the field or of the host, 3.8 ms after its start; `fails`: its program
failed. -/
def pageWriteDone (page : Fin 65) (field fails : Bool) (s : State) : State :=
  match (if field then s.tag.fieldWrite else s.tag.hostWrite) with
  | none => s
  | some w =>
    if w.page ≠ page.val then s
    else
      let s := reachAge (w.since + pageWriteTime) s
      if field then fieldWriteDone fails w s else hostWriteDone fails w s

/-- QUIET_EXPIRY (R462): the latch reaches the end of its time, or its capacitor drops with the field absent. -/
def quietExpiry (s : State) : State :=
  if !s.tag.quiet then s
  else
    let s := reachAge (if s.tag.st = 0 then min s.tag.quietEnd s.tag.quietDrop else s.tag.quietEnd) s
    tagShow { s with tag := { s.tag with quiet := false } }

/-! ### The host side (R470-R472) -/

/-- A write refused. -/
def tagRefused (s : State) : State := hsetB 0x6004 20 true s

/-- The page in the buffer. -/
def hbufPage (s : State) : Nat := hgetF s 0x600C 13 8
def hbufDirty (s : State) : Bool := hgetB s 0x6004 8

/-- Bytes of a list replaced from an offset. -/
def patchBytes (bs : List Byte) (o : Nat) (new : List Byte) : List Byte := bs.take o ++ new ++ bs.drop (o + new.length)

/-- TAGM_WRITE (R470): `offset` counts from the start of TAGM. -/
def tagmWrite (offset : Word) (size : AccSize) (value : Word) (s : State) : State :=
  let o := accAddr size (offset.toNat % 0x2000)
  let p := o / 128
  if !hostRuns s then s
  else if p = 0 ∨ (hbufDirty s ∧ hbufPage s ≠ p) then tagRefused s
  else
    let s := if hbufDirty s then s
      else hsetF 0x600C 13 8 p (hsetB 0x6004 8 true { s with tag := { s.tag with buf := pageData s p } })
    { s with tag := { s.tag with buf := patchBytes s.tag.buf (o % 128) (accBytes size value) } }

/-- A host command that stores runs only while none is held or running (log entry 117). -/
def hcmd (body : State → State) (s : State) : State :=
  if !hostRuns s then s else if hgetB s 0x6004 9 then tagRefused s else body s

/-- COMMIT; with a clean buffer there is nothing to write. -/
def tagCommit (s : State) : State :=
  hcmd (fun s => if hbufDirty s then hostWriteAsk { cmd := 1, page := hbufPage s, data := s.tag.buf } s else hcmdEnd sOk s) s

/-- DISCARD. -/
def tagDiscard (s : State) : State :=
  if !hostRuns s then s else hsetB 0x6004 8 false { s with tag := { s.tag with buf := [] } }

/-- QUIET_CLR. -/
def quietClr (s : State) : State := if hostRuns s then tagShow { s with tag := { s.tag with quiet := false } } else s

/-- KEY_LOAD (R467): the wrapped key of TAG_KEY_W0 to W5 into the record. -/
def tagKeyLoad (s : State) : State :=
  hcmd (fun s =>
    let w := (List.range 6).flatMap (fun i => leBytes 4 (hrd s (0x6040 + 4 * i)).toNat)
    match kwUnwrap (natsOf (ktOf s)) (natsOf w) with
    | none => hcmdEnd sAuth (hsetB 0x6004 21 true s)
    | some k => hostWriteAsk { cmd := 2, page := recordPage, data := bytesOf k } s) s

/-- The registers as they go into the record; page 0 has no attribute bits. -/
def tagRegBytes (s : State) : List Byte :=
  leBytes 1 (hgetF s 0x6000 0 0) ++ leBytes 1 (hgetF s 0x6000 12 8) ++
    (List.range 4).flatMap (fun i => leBytes 4 ((hrd s (0x6020 + 4 * i)).toNat / (if i = 0 then 4 else 1) * (if i = 0 then 4 else 1)))

/-- CFG_STORE. -/
def cfgStore (s : State) : State :=
  hcmd (fun s =>
    if hgetF s 0x6000 12 8 < 2 ∨ 20 < hgetF s 0x6000 12 8 then hcmdEnd sBadField s
    else hostWriteAsk { cmd := 3, page := recordPage, data := tagRegBytes s } s) s

/-- COMMIT_HOLD_TIMEOUT (R471): 10 ms after the command. -/
def commitHoldTimeout (s : State) : State :=
  match s.tag.held with
  | none => s
  | some w =>
    let s := reachAge (w.asked + 10 * tagMs) s
    hcmdEnd sBusy { s with tag := { s.tag with held := none } }

def execFieldOn (s : State) : Res := .next (fieldOn s)
def execFieldLost (s : State) : Res := .next (fieldLost s)
def execReqa (s : State) : Res := .next (reqa s)
def execWupa (s : State) : Res := .next (wupa s)
def execAnticollisionSelect (uid : BitVec 56) (s : State) : Res := .next (anticollisionSelect uid s)
def execHlta (s : State) : Res := .next (hlta s)
def execRats (s : State) : Res := .next (rats s)
def execSDeselect (s : State) : Res := .next (sDeselect s)
def execTagOtherFrame (s : State) : Res := .next (tagOtherFrame s)
def execGetInfo (inf : List Byte) (s : State) : Res := .next (getInfo inf s)
def execAuthBegin (inf : List Byte) (s : State) : Res := .next (authBegin inf s)
def execAuthFinish (inf : List Byte) (s : State) : Res := .next (authFinish inf s)
def execReadPage (inf : List Byte) (s : State) : Res := .next (readPage inf s)
def execWritePage (inf : List Byte) (s : State) : Res := .next (writePage inf s)
def execSetConfig (inf : List Byte) (s : State) : Res := .next (setConfig inf s)
def execPageWriteDone (page : Fin 65) (field fails : Bool) (s : State) : Res := .next (pageWriteDone page field fails s)
def execQuietExpiry (s : State) : Res := .next (quietExpiry s)
def execTagmWrite (offset : Word) (size : AccSize) (value : Word) (s : State) : Res := .next (tagmWrite offset size value s)
def execTagCommit (s : State) : Res := .next (tagCommit s)
def execTagDiscard (s : State) : Res := .next (tagDiscard s)
def execQuietClr (s : State) : Res := .next (quietClr s)
def execTagKeyLoad (s : State) : Res := .next (tagKeyLoad s)
def execCfgStore (s : State) : Res := .next (cfgStore s)
def execCommitHoldTimeout (s : State) : Res := .next (commitHoldTimeout s)

end Sys2Proof.Machine
end

