-- ==== Sys2Proof/Machine/Test.lean ====
section
/-! DEFINITION. Test, observation and bypass (R486-R496, R372): the two TAPs, self-tests, tones and loopbacks, and units taken out of
service and returned; with the context moves and hand-overs that a unit out of service waits for. -/

namespace Sys2Proof.Machine

/-! ### The TAPs (R486, R487) -/

/-- The supply of a TAP is present. -/
def tapLive (s : State) (die : Die) : Bool :=
  match die with
  | .radio => !s.power.dead
  | .host => decide (hostPower s < 2)

/-- The data register that an instruction captures (R4, R486): the 32 bits of IDCODE, the one bit 0 of BYPASS, or the boundary register,
whose cells are a free value. -/
def tapCapture (s : State) (die : Die) (n : Nat) : List Bool :=
  match n with
  | 0 => (List.range 32).map (match die with
    | .radio => Config.idcodeRadio
    | .host => Config.idcodeHost).getLsbD
  | 1 => [false]
  | _ => Config.boundary s.free

/-- A TAP selects an instruction: 0 IDCODE, 1 BYPASS, 2 SAMPLE/PRELOAD, 3 EXTEST. -/
def tapSelect (die : Die) (n : Nat) (s : State) : State :=
  if !tapLive s die then s
  else
    let dr := tapCapture s die n
    let s := onlyIf (decide (2 ≤ n)) drawFree s
    match die with
    | .radio => { s with taps := { s.taps with radio := n, radioDr := dr } }
    | .host => { s with taps := { s.taps with host := n, hostDr := dr } }

/-! ### Self-tests (R488-R490) -/

/-- A unit as the commands hold it: its BLOCK of R488 and its index. -/
def unitObj (block index : Nat) : Nat := 256 * block + index

/-- A command holds a unit (R336, R355). -/
def unitHeld (s : State) (block index : Nat) : Bool := holds s 0x0F01 (unitObj block index) || holds s 0x8F05 (unitObj block index)

def bistRunning (s : State) : Bool := getB s 0xE0018 16

/-- A test starts. -/
def bistStart (block index : Nat) (s : State) : State :=
  wr 0xE0018 (BitVec.ofNat 32 (block + 256 * index + 65536)) { s with keeper := { s.keeper with bistClk := s.ntb.clk } }

/-- The time of a whole test in ms (R488). -/
def bistMs (s : State) (block index : Nat) : Nat :=
  if block = 0 then (if bankOut s index then 45 else 200) else if block = 1 then 30 else 1

/-- A cipher core is in service (R302). -/
def coreIn (s : State) (c : Nat) : Bool := getB s 0x90000 c && !getB s 0x90004 (8 + c)

/-- BIST_RUN. One test runs at a time (log entry 120). -/
def bistRun (q : Req) (s : State) : State :=
  runCmd 0x0F01 q (fun c => fixed 4 q c (fun s =>
    let b := fld q 0 1
    let i := fld q 1 1
    if 3 ≤ b ∨ [32, 16, 8].getD b 0 ≤ i ∨ !zeros q 2 2 then reply c sBadField [] s
    else if unitHeld s b i ∨ bistRunning s then reply c sBusy [] s
    else if (b = 1 ∧ !frdOut s i) ∨ (b = 2 ∧ coreIn s i) then reply c sWrongState [] s
    else bistStart b i (replyPending c (unitObj b i) [] s))) s

/-- Units that failed their test. -/
def markFailed (obj : Nat) (fail : Bool) (s : State) : State :=
  let rest := s.keeper.failed.filter (· != obj)
  { s with keeper := { s.keeper with failed := if fail then obj :: rest else rest } }

/-- A trouble-log entry for a unit that leaves or returns (R494). The spec gives it no code: a free value (log entry 119). -/
def unitLogged (s : State) : State := logWrite 0xF (Config.freeDraw s.free % 65536) [] (drawFree s)

/-- A unit returns to service. -/
def unitReturn (block index : Nat) (s : State) : State :=
  unitLogged (if block = 0 then setB 0xE0010 index false s
    else if block = 1 then setB 0xE0014 index false s
    else setB 0x90000 index true (setB 0x90004 (8 + index) false s))

/-- A bank that fails in service leaves it at once, its contents lost (R490). -/
def bankFails (b : Nat) (s : State) : State := bankLost b (setB 0xE0010 b true s)

/-- A test of a bank in service whose contents are being restored: its completion is written after that (R490, the worked example). -/
def bistWaits (s : State) : Bool :=
  getF s 0xE0018 1 0 == 0 && s.nodes.lost.any (fun x => x.1 / 2048 == getF s 0xE0018 12 8 && x.2.2 == 1) && bankOut s (getF s 0xE0018 12 8)

/-- A BIST_RUN completes. -/
def bistCompletes (s : State) : State :=
  let obj := unitObj (getF s 0xE0018 1 0) (getF s 0xE0018 12 8)
  finishPend (fun p => p.opcode == 0x0F01 && p.obj == obj) sOk (leBytes 4 (rd s 0xE001C).toNat) s

/-- The completion of a test that waited for the restoration of its bank. -/
def bistSettle (s : State) : State := if bistRunning s || bistWaits s then s else bistCompletes s

/-- BIST_DONE: the verdict of the running test; `detail` is the offset or vector of the first failure. A test that passes takes its whole
time (R488). -/
def bistDone (fail : Bool) (detail : BitVec 24) (s : State) : State :=
  if !bistRunning s then s
  else
    let b := getF s 0xE0018 1 0
    let i := getF s 0xE0018 12 8
    let obj := unitObj b i
    let result : Nat := if fail then 1 + 256 * detail.toNat else 0
    let s := if fail then s else reachClk (s.keeper.bistClk + bistMs s b i * wdtMs) s
    let s := setB 0xE0018 16 false (wr 0xE001C (BitVec.ofNat 32 result) s)
    let s := if b = 0 ∧ fail ∧ !bankOut s i then bankFails i s else s
    let s := markFailed obj fail s
    let s := if !fail ∧ holds s 0x8F05 obj then unitReturn b i s else s
    let s := bistSettle s
    finishPend (fun p => p.opcode == 0x8F05 && p.obj == obj) (if fail then sWrongState else sOk) [] s

/-! ### Units out of service (R494) -/


/-- The moves that empty a Frond, one context after another to the least-loaded Frond. -/
def planMoves (s : State) (f : Nat) : List Nat → List (Nat × Nat) → List (Nat × Nat)
  | [], ms => ms
  | n :: ns, ms => planMoves s f ns (ms ++ [(n, (leastLoaded s f (ms.map (fun m => m.2))).headD 0)])

/-- A Frond leaves service: its contexts are to move, a join Frond is replaced. -/
def frondLeaves (f : Nat) (s : State) : State :=
  let s := setB 0xE0014 f true s
  let s := if joinFrond s = f then joinChoose s else s
  let kept := s.nodes.moves.filter (fun m => m.2 != f && (getCtx s m.1).frond != f)
  unitLogged { s with nodes := { s.nodes with moves := kept ++ planMoves s f (frondContexts s f) [] } }

/-- What refers to context `n` refers to slot `m`. -/
def renumber (n m : Nat) (u : OpUse) : OpUse :=
  let f := fun c => if c = n then m else c
  match u with
  | .window c k => .window (f c) k
  | .downlink c => .downlink (f c)
  | .ackWindow c => .ackWindow (f c)
  | .none => .none
  | .beacon => .beacon
  | .rescueBeacon => .rescueBeacon
  | .lighthouse => .lighthouse
  | .broadcast t k c => .broadcast t k c
  | .ackFrame => .ackFrame
  | .joinResponse t => .joinResponse t

/-- A context is moved to another slot with its directory entry and its operation-queue entries (R240, R494). -/
def moveSlot (n m : Nat) (s : State) : State :=
  let f := fun c => if c = n then m else c
  let c := getCtx s n
  let r := getRun s n
  let s := setCtx m c (setRun m r (setCtx n {} (setRun n {} s)))
  { s with
    uses := tabMap (fun _ => OpUse.none) (fun _ u => renumber n m u) s.uses
    keeper := { s.keeper with pend := s.keeper.pend.map (fun p =>
      if [0x0601, 0x0502, 0x0505].contains p.opcode then { p with obj := f p.obj } else p) }
    nodes := { s.nodes with
      acks := s.nodes.acks.map (fun a => { a with ctx := f a.ctx })
      waits := s.nodes.waits.map (fun w => { w with ctx := f w.ctx })
      moves := s.nodes.moves.map (fun x => (f x.1, x.2))
      parked := s.nodes.parked.map (fun x => (f x.1, x.2)) } }

/-- A context of a bank that leaves service: to a free slot of another bank once its Frond is idle on it (R240); without a slot, a home is
handed over to the device of its replica (R245), a replica released, a guest freed. -/
def leaveBank (n : Nat) (s : State) : State :=
  let c := getCtx s n
  if c.role = 0 then s
  else if c.role = 3 then freeCtx n s
  else if !nodeIdle s n then s
  else match slotFor s with
    | some m => moveSlot n m (freeCtx m s)
    | none =>
      if c.role = 2 then freeCtx n s
      else if c.replDev = devOf s ∨ (getRun s n).hand.isSome ∨ (chainKey s).isNone then s
      else setRun n { getRun s n with hand := some { dest := c.replDev, k := eventFrom s n (anchNow s + getF s 0xB000C 31 24 * 100000000) % 2 ^ 32 } } s

def bankContexts (s : State) (b : Nat) : List Nat := (s.ctx.filter (fun p => p.1 / 2048 == b && p.2.role != 0)).map (fun p => p.1)

/-- A bank leaves service: its guests first, then each other context. -/
def bankLeaves (b : Nat) (s : State) : State :=
  let s := unitLogged (setB 0xE0010 b true s)
  let ns := bankContexts s b
  forAll (ns.filter (fun n => (getCtx s n).role != 3)) leaveBank (forAll (ns.filter (fun n => (getCtx s n).role == 3)) freeCtx s)

/-- A removal that waits is done once the unit holds no context any more. -/
def serviceSettle (s : State) : State :=
  forAll (s.keeper.pend.filter (fun p => p.opcode == 0x8F05 && p.info == [1])) (fun p s =>
    let i := p.obj % 256
    let left := if p.obj / 256 = 0 then bankContexts s i else frondContexts s i
    if left.isEmpty then finishPend (· == p) sOk [] s else s) s

/-- UNIT_SERVICE. -/
def unitService (q : Req) (s : State) : State :=
  runCmd 0x8F05 q (fun c => fixed 4 q c (fun s =>
    let u := fld q 0 1
    let i := fld q 1 1
    let b := [1, 2, 0].getD u 3
    if 3 ≤ u ∨ [16, 8, 32].getD u 0 ≤ i ∨ 2 ≤ fld q 2 1 ∨ !zeros q 3 1 then reply c sBadField [] s
    else if unitHeld s b i then reply c sBusy [] s
    else
      let out := if b = 0 then bankOut s i else if b = 1 then frdOut s i else !coreIn s i
      if fld q 2 1 = 1 then
        if out then replyLater c sOk [] s
        else if b = 1 ∧ (i < 2 ∨ inWatch s) then reply c sWrongState [] s
        else if b = 2 ∧ !((List.range 8).any (fun x => x != i && coreIn s x)) then reply c sWrongState [] s
        else if b = 2 then replyLater c sOk [] (unitLogged (setB 0x90000 i false s))
        else
          let s := replyPending c (unitObj b i) [1] s
          serviceSettle (if b = 0 then bankLeaves i s else frondLeaves i s)
      else if !out then replyLater c sOk [] s
      else if b = 1 then
        (if s.keeper.failed.contains (unitObj b i) ∨ inWatch s then reply c sWrongState [] s else replyLater c sOk [] (unitReturn b i s))
      else if bistRunning s then reply c sBusy [] s
      else bistStart b i (replyPending c (unitObj b i) [0] s))) s

/-- CONTEXT_MOVE (R240, R494): a planned move between Fronds, or the move of a context out of a bank that leaves service. -/
def contextMoveRow (ctx : BitVec 16) (dest : Fin 16) (s : State) : State :=
  let n := ctx.toNat
  serviceSettle (if bankOut s (n / 2048) ∧ !s.nodes.moves.contains (n, dest.val) then leaveBank n s else contextMove ctx dest s)

/-- REPLICA_RESTORE_TIMEOUT (R430, R490): a self-test may have waited for it. -/
def replicaRestoreRow (ctx : BitVec 16) (s : State) : State := bistSettle (replicaRestoreTimeout ctx s)

/-- CONTEXT (R243, R251): a context that returns may be the last one that a self-test waits for. -/
def contextRow (f : MFrame) (s : State) : State := bistSettle (contextFrame f s)

/-- FINAL_ACK (R245): a hand-over that a bank waits for may end. -/
def finalAckRow (f : MFrame) (s : State) : State := serviceSettle (finalAck f s)

/-! ### Tone and loopbacks (R491, R492) -/

/-- TONE. -/
def tone (q : Req) (s : State) : State :=
  runCmd 0x0F03 q (fun c => fixed 12 q c (fun s =>
    let p := fld q 0 1
    let ofs := sgn q 4 4
    if 4 ≤ p ∨ 90 < fld q 1 1 ∨ !zeros q 2 2 ∨ bandBw s (pathBand s p) < 2 * ofs.natAbs then reply c sBadField [] s
    else if pathState s p ≠ 3 ∧ pathState s p ≠ 4 then reply c sWrongState [] s
    else if fld q 8 4 = 0 then reply c sOk [] (toneStop p s)
    else
      let s := wr 0xE000C (BitVec.ofNat 32 (fld q 4 4)) (wr 0xE0008 (BitVec.ofNat 32 (p + 256 * fld q 1 1)) s)
      reply c sOk [] { s with keeper := { s.keeper with toneEnd := some (s.ntb.clk + clocksOfNs (1000 * fld q 8 4)) } })) s

/-- TONE_END: DUR ends. -/
def toneEnds (s : State) : State :=
  match s.keeper.toneEnd with
  | none => s
  | some t => let s := reachClk t s; toneStop (getF s 0xE0008 2 0) s

/-- A Mooring loopback written and applied (R274). -/
def mrLoop (p v : Nat) (s : State) : State :=
  let b := mrBase p
  portApply p (setB b 0 false (shadowPut b (b + 8) (BitVec.ofNat 32 v) s))

/-- The code with which a Mooring loopback would be rejected (R277). -/
def mrLoopCode (p v : Nat) (s : State) : Nat := portCheck p (shadowPut (mrBase p) (mrBase p + 8) (BitVec.ofNat 32 v) s)

/-- LOOPBACK. -/
def loopback (q : Req) (s : State) : State :=
  runCmd 0x0F04 q (fun c => fixed 4 q c (fun s =>
    let k := fld q 0 1
    if 7 ≤ k ∨ !zeros q 1 3 then reply c sBadField [] s
    else if k = 0 then
      reply c sOk [] (mrLoop 1 0 (mrLoop 0 0 { s with keeper := { s.keeper with loopNext := some 0 } }))
    else if k ≤ 2 then reply c sOk [] { s with keeper := { s.keeper with loopNext := some k } }
    else
      let p := (k - 3) / 2
      let v := 1 + (k - 3) % 2
      let code := mrLoopCode p v s
      reply c (if code = 0 then sOk else if code = 3 then sWrongState else sBadField) [] (mrLoop p v s))) s

/-- The receptions on the channels of a transmit path's LO end (R492). -/
def loopAbandon (p : Nat) (s : State) : State :=
  forAll ((List.range 64).filter (fun ch => inLo (rd s (chBase ch + 8)).toNat (filterHz (getF s (chBase ch + 4) 6 4)) (getTx s p).lo))
    (fun ch s => forAll [0, 1] (fun k => onlyIf (slotState s ch k != 0) (fun s => endReception ch k 2 [] 0 [] (flagSlot ch k 2 s))) s) s

/-- LOOPBACK_SWITCH (R492): at the next slot boundary. -/
def loopbackSwitch (s : State) : State :=
  match s.keeper.loopNext with
  | none => s
  | some k =>
    let slot := max 1 (s.mac.slotUs * 1000)
    let s := reachNet ((nowNs s / slot + 1) * slot * nsUnit) s
    let s := setF 0xE0004 17 16 k { s with keeper := { s.keeper with loopNext := none } }
    if k = 0 then s else loopAbandon (k - 1) s

def execExtest (die : Die) (s : State) : Res := .next (tapSelect die 3 s)
def execBypass (die : Die) (s : State) : Res := .next (tapSelect die 1 s)
def execIdcode (die : Die) (s : State) : Res := .next (tapSelect die 0 s)
def execSamplePreload (die : Die) (s : State) : Res := .next (tapSelect die 2 s)
/-- TAP_RESET (R474, R486): the TAP alone, with IDCODE selected. -/
def execTapReset (die : Die) (s : State) : Res := .next (tapSelect die 0 s)
def execBistRun (q : Req) (s : State) : Res := .next (bistRun q s)
def execBistDone (fail : Bool) (detail : BitVec 24) (s : State) : Res := .next (bistDone fail detail s)
def execUnitService (q : Req) (s : State) : Res := .next (unitService q s)
def execContextMove (ctx : BitVec 16) (dest : Fin 16) (s : State) : Res := .next (contextMoveRow ctx dest s)
def execReplicaRestoreTimeout (ctx : BitVec 16) (s : State) : Res := .next (replicaRestoreRow ctx s)
def execContextFrame (f : MFrame) (s : State) : Res := .next (contextRow f s)
def execFinalAck (f : MFrame) (s : State) : Res := .next (finalAckRow f s)
def execTone (q : Req) (s : State) : Res := .next (tone q s)
def execToneEnd (s : State) : Res := .next (toneEnds s)
def execLoopback (q : Req) (s : State) : Res := .next (loopback q s)
def execLoopbackSwitch (s : State) : Res := .next (loopbackSwitch s)

end Sys2Proof.Machine
end

