-- ==== Sys2Proof/Machine/TimeCmd.lean ====
section
/-! DEFINITION. The Eskel commands for time, beacons and relay, Mooring, and the Rhizome (R365-R367). -/

namespace Sys2Proof.Machine

/-! ### Time (R365) -/

/-- A time as TIME_GET gives it: seconds, nanoseconds, fraction. -/
def timeBytes (t : Nat) : List Byte := leBytes 8 (secOf t) ++ leBytes 4 (nanoOf t) ++ leBytes 2 (fracOf t)

/-- TIME_GET: one latched read (R49). -/
def timeGet (q : Req) (s : State) : State :=
  runCmd 0x0701 q (fun c => fixed 0 q c (fun s =>
    let s := ntbTimeRead s
    reply c sOk (timeBytes s.ntb.net ++ leBytes 1 (stepByte s) ++ leBytes 1 (ntbState s) ++ timeBytes s.ntb.anch ++
      leBytes 1 (ntbSource s) ++ leBytes 1 0 ++ leBytes 4 (holdBound s)) s)) s

/-- The status that a code of R52 gives. -/
def stepStatus (code : Nat) : Nat := if code = 3 ∨ code = 6 then sWrongState else sBadField

/-- The step unit applied by a command (R52): the shadows are written, the unit applies at the next whole nanosecond, and the step
follows. -/
def stepCommand (c : Caller) (regs : List (Nat × Nat)) (s : State) : State :=
  let s := reachNet ((nowNs s + 1) * nsUnit) (setB 0x20040 0 false (forAll regs (fun p => shadowPut 0x20040 p.1 (BitVec.ofNat 32 p.2)) s))
  let code := stepCheck s
  let s := stepApply s
  if code ≠ 0 then reply c (stepStatus code) [] s
  else
    let s := ntbStep (ntbSet s)
    reply c sOk (leBytes 1 (stepByte s) ++ leBytes 3 0) s

/-- TIME_SET: an applied SET. -/
def timeSet (q : Req) (s : State) : State :=
  runCmd 0x8702 q (fun c => fixed 16 q c
    (stepCommand c [(0x20048, fld q 0 4), (0x2004C, fld q 4 4), (0x20050, fld q 8 4), (0x2005C, fld q 12 4), (0x20044, 1)])) s

/-- TIME_STEP: an applied STEP. -/
def timeStep (q : Req) (s : State) : State :=
  runCmd 0x8703 q (fun c => fixed 12 q c
    (stepCommand c [(0x20054, fld q 0 4), (0x20058, fld q 4 4), (0x2005C, fld q 8 4), (0x20044, 2)])) s

/-- PPS_ARM: NTB_PPS_SEC_LO, then _HI. -/
def ppsArm (q : Req) (s : State) : State :=
  runCmd 0x0704 q (fun c => fixed 8 q c (fun s =>
    reply c sOk [] (ppsSecArm (BitVec.ofNat 32 (fld q 4 4)) (wr 0x20038 (BitVec.ofNat 32 (fld q 0 4)) s)))) s

/-- TIME_SRC_CFG. -/
def timeSrcCfg (q : Req) (s : State) : State :=
  runCmd 0x0705 q (fun c => fixed 16 q c (fun s =>
    let rate := sgn q 12 4
    if 8 ≤ fld q 0 1 ∨ 16 ≤ fld q 1 1 ∨ 2 ≤ fld q 2 1 ∨ 2 ≤ fld q 3 1 ∨ rate < -rateMax ∨ rateMax < rate then reply c sBadField [] s
    else if relayOn s ∧ fld q 0 1 % 4 ≠ 0 then reply c sWrongState [] s
    else
      let s := wr 0x20030 (BitVec.ofNat 32 (fld q 8 4)) (wr 0x20034 (BitVec.ofNat 32 (fld q 4 4)) s)
      let cfg := fld q 0 1 * 4096 + fld q 1 1 * 256 + fld q 3 1 * 128 + fld q 2 1
      let s := ntbCfgWrite (relayOn s) (BitVec.ofNat 32 cfg) s
      let s := if fld q 2 1 = 0 then setB 0x20060 0 false (shadowPut 0x20060 0x20064 (BitVec.ofNat 32 (fld q 12 4)) s) else s
      reply c sOk [] s)) s

/-- SLOT_CFG: every reachable device writes OPQ_SLOT_CFG and BI (R194). -/
def slotCfg (q : Req) (s : State) : State :=
  runCmd 0x0706 q (fun c => fixed 4 q c (fun s =>
    if c.target ≠ 0x1F ∨ !slotUsOk (fld q 0 2) ∨ !zeros q 3 1 then reply c sBadField [] s
    else if s.ctx.any (fun p => p.2.role == 1) then reply c sWrongState [] s
    else reply c sOk [] (setF 0x78010 7 0 (fld q 2 1) (slotCfgWrite (BitVec.ofNat 32 (fld q 0 2)) s)))) s

/-- The rw bits of a register written. -/
def regPut (off : Nat) (v : Nat) (s : State) : State :=
  let m : Word := BitVec.ofNat 32 (radioDesc off).rw
  wr off ((rd s off &&& ~~~m) ||| (BitVec.ofNat 32 v &&& m)) s

/-- BEACON_CFG (R188, R192, R193, R229). -/
def beaconCfg (q : Req) (s : State) : State :=
  runCmd 0x0707 q (fun c s =>
    let n := fld q 22 1
    if lenOf q < 24 then reply c sBadLength [] s
    else if fld q 20 2 = 0 ∨ fld q 20 2 = 0xFFFF ∨ 64 < n ∨ !zeros q 23 1 then reply c sBadField [] s
    else if lenOf q ≠ 24 + n then reply c sBadLength [] s
    else
      let s := forAll [(0x78010, fld q 0 4), (0x78014, fld q 4 4), (0x78018, fld q 8 4), (0x7803C, fld q 12 4), (0x78040, fld q 16 4)]
        (fun p => regPut p.1 p.2) s
      reply c sOk [] (opqNidWrite (BitVec.ofNat 32 (fld q 20 2)) { s with mac := { s.mac with extra := q.payload.drop 24 } })) s

/-- RELAY_CFG (R216). -/
def relayCfg (q : Req) (s : State) : State :=
  runCmd 0x0708 q (fun c => fixed 8 q c (fun s =>
    let v := BitVec.ofNat 32 (fld q 0 4)
    if bitOf v 0 && getF s 0x20020 13 12 != 0 then reply c sWrongState [] s
    else reply c sOk [] (regPut 0x78038 (fld q 4 4) (relayCfgWrite v s)))) s

/-! ### Mooring (R366) -/

/-- MR_STATUS. -/
def mrStatus (q : Req) (s : State) : State :=
  runCmd 0x0801 q (fun c => fixed 0 q c (fun s =>
    let port := fun p => [0x10, 0x14, 0x18, 0x1C, 0x20, 0x24].map (fun o => mrBase p + o)
    reply c sOk (wordsOf s (port 0 ++ port 1 ++ [0xA00C4, 0xA00C8, 0xA00CC, 0xA00D0])) s)) s

/-- MR_CHAIN_SET: both ports disabled, MR_CHAIN_CFG written and persisted, and the ports that were enabled enabled again. -/
def mrChainSet (q : Req) (s : State) : State :=
  runCmd 0x8802 q (fun c => fixed 4 q c (fun s =>
    if 16 ≤ fld q 0 1 ∨ 16 ≤ fld q 1 1 then reply c sBadField [] s
    else if !(getBank s s.settings.active).valid then reply c sFlash [] s
    else
      let on := [0, 1].filter (fun p => lstate s p != 0)
      let cfg := fld q 0 1 + 16 * fld q 1 1 + 65536 * fld q 2 2
      let s := mrChainCfgWrite (BitVec.ofNat 32 cfg) (portDisable 1 1 (portDisable 0 1 s))
      let s := corePut 257 (leBytes 4 cfg) s
      replyLater c sOk [] (forAll on (fun p => portDisable p 0) s))) s

/-- MR_PORT_CFG: one apply of the port unit (R277). -/
def mrPortCfg (q : Req) (s : State) : State :=
  runCmd 0x0803 q (fun c => fixed 12 q c (fun s =>
    let p := fld q 0 1
    if 2 ≤ p ∨ !zeros q 1 3 then reply c sBadField [] s
    else
      let b := mrBase p
      let s := setB b 0 false (shadowPut b (b + 0xC) (BitVec.ofNat 32 (fld q 8 4)) (shadowPut b (b + 4) (BitVec.ofNat 32 (fld q 4 4)) s))
      let code := portCheck p s
      reply c (if code = 0 then sOk else sBadField) [] (portApply p s))) s

/-- MR_PORT_ENABLE: the guarded write of MRx_PORT_DISABLE (R260, R268). -/
def mrPortEnable (q : Req) (s : State) : State :=
  runCmd 0x8804 q (fun c => fixed 4 q c (fun s =>
    if 2 ≤ fld q 0 1 ∨ 2 ≤ fld q 1 1 ∨ !zeros q 2 2 then reply c sBadField [] s
    else reply c sOk [] (portDisable (fld q 0 1) (BitVec.ofNat 32 (1 - fld q 1 1)) s))) s

/-! ### Rhizome (R367) -/

/-- EVC_SET: EN 0, then DST and RATE, then SRC. -/
def evcSet (q : Req) (s : State) : State :=
  runCmd 0x0901 q (fun c => fixed 16 q c (fun s =>
    let b := evcBase (fld q 0 1)
    if 96 ≤ fld q 0 1 ∨ !zeros q 1 3 then reply c sBadField [] s
    else
      let n := fld q 0 1
      let s := evcWrite n 8 (BitVec.ofNat 32 (fld q 12 4)) (evcWrite n 4 (BitVec.ofNat 32 (fld q 8 4)) (setB b 31 false (evcDue (Fin.ofNat 96 n) s)))
      reply c sOk [] (evcSrcWrite (fld q 0 1) (BitVec.ofNat 32 (fld q 4 4)) s))) s

/-- EVC_GET. -/
def evcGet (q : Req) (s : State) : State :=
  runCmd 0x0902 q (fun c => fixed 4 q c (fun s =>
    let b := evcBase (fld q 0 1)
    if 96 ≤ fld q 0 1 ∨ !zeros q 1 3 then reply c sBadField [] s
    else reply c sOk (wordsOf s [b, b + 4, b + 8, b + 0xC]) s)) s

/-- EVF_STATUS: clears nothing. -/
def evfStatus (q : Req) (s : State) : State :=
  runCmd 0x0903 q (fun c => fixed 0 q c (fun s =>
    let run := fun o n => (List.range n).map (fun i => o + 4 * i)
    reply c sOk (wordsOf s (run 0x80840 6 ++ run 0x80860 6 ++ run 0x80880 3 ++ run 0x80890 3 ++ [0x80810])) s)) s

def execTimeGet (q : Req) (s : State) : Res := .next (timeGet q s)
def execTimeSet (q : Req) (s : State) : Res := .next (timeSet q s)
def execTimeStep (q : Req) (s : State) : Res := .next (timeStep q s)
def execPpsArm (q : Req) (s : State) : Res := .next (ppsArm q s)
def execTimeSrcCfg (q : Req) (s : State) : Res := .next (timeSrcCfg q s)
def execSlotCfg (q : Req) (s : State) : Res := .next (slotCfg q s)
def execBeaconCfg (q : Req) (s : State) : Res := .next (beaconCfg q s)
def execRelayCfg (q : Req) (s : State) : Res := .next (relayCfg q s)
def execMrStatus (q : Req) (s : State) : Res := .next (mrStatus q s)
def execMrChainSet (q : Req) (s : State) : Res := .next (mrChainSet q s)
def execMrPortCfg (q : Req) (s : State) : Res := .next (mrPortCfg q s)
def execMrPortEnable (q : Req) (s : State) : Res := .next (mrPortEnable q s)
def execEvcSet (q : Req) (s : State) : Res := .next (evcSet q s)
def execEvcGet (q : Req) (s : State) : Res := .next (evcGet q s)
def execEvfStatus (q : Req) (s : State) : Res := .next (evfStatus q s)

end Sys2Proof.Machine
end

