-- ==== Sys2Proof/Machine/Bus.lean ====
section
/-! DEFINITION. The register bus of both dies: what a read of any register returns and what a write of any register does (R22-R26, R33-R43),
and register access by Eskel messages with its policy (R343-R346). -/

namespace Sys2Proof.Machine

/-! ### Apply units (R27, R29) -/

/-- The unit that an offset belongs to. -/
def unitAt (off : Nat) : Option ApplyUnit :=
  let o := off % 0x10000
  match off / 0x10000 with
  | 2 =>
    if 0x1000 ≤ o then some (.lamp (Fin.ofNat 8 ((o - 0x1000) / 0x40)))
    else if 0x40 ≤ o ∧ o < 0x60 then some .step
    else if 0x60 ≤ o ∧ o < 0x68 then some .rate
    else none
  | 5 => some (.chan (Fin.ofNat 64 (o / 0x400)))
  | 6 => if o < 0x8000 then some (.tx (Fin.ofNat 2 (o / 0x4000))) else none
  | 7 => if o < 0x2000 then some (.op (Fin.ofNat 128 (o / 0x40))) else none
  | 10 => if o % 0x8000 < 0x40 then some (.port (Fin.ofNat 2 (o / 0x8000))) else none
  | _ => none

/-- A write to an apply register (R29): APPLY_REJECT cleared with its code (log entry 28), APPLY_HOLD set, then DISCARD. -/
def applyRegWrite (u : ApplyUnit) (v : Word) (s : State) : State :=
  let a := (unitRange u).1
  onlyIf (bitOf v 1) (applyDiscard u)
    (applyHoldWrite u (bitOf v 0) (onlyIf (bitOf v 9) (fun s => setF a 15 12 0 (setB a 9 false s)) s))

/-- A boundary given as a condition that already holds (R27, R31). -/
def applySoon (off : Nat) (s : State) : State :=
  match unitAt off with
  | some (.chan n) => applyBoundary (.chan n) s
  | some (.tx n) => applyBoundary (.tx n) s
  | some (.op n) => applyBoundary (.op n) s
  | some (.lamp n) => applyBoundary (.lamp n) s
  | some (.port n) => if portCode s n.val = 0 then applyBoundary (.port n) s else s
  | _ => s

/-! ### Reads of the radio die -/

/-- The low words of the 64-bit quantities whose high word follows (R26). -/
def lowWord (off : Nat) : Bool :=
  off == 0x20038 || off == 0x20048 || off == 0x7803C || off == 0xA00CC ||
    (decide (0x21000 ≤ off) && decide (off < 0x21200) && off % 0x40 == 8) ||
    (decide (0x70000 ≤ off) && decide (off < 0x72000) && (off % 0x40 == 8 || off % 0x40 == 0x2C))

/-- The register whose twin an offset is (R33). -/
def twinOf (off : Nat) : Option Nat :=
  if 0x800 ≤ off % 0x10000 ∧ (radioDesc (off - 0x800)).rwg ≠ 0 then some (off - 0x800) else none

/-- The contexts that hold a role (R255). -/
def roleCount (s : State) (role : Nat) : Nat := (s.ctx.filter (fun p => p.2.role == role)).length

/-- The FREE slots of the banks in service (R234, R494). -/
def freeCount (s : State) : Nat :=
  2048 * ((List.range 32).filter (fun b => !bankOut s b)).length - (s.ctx.filter (fun p => p.2.role != 0 && !bankOut s (p.1 / 2048))).length

/-- A register whose value is formed as it is read. -/
def liveReg (off : Nat) (s : State) : Word :=
  let o := off % 0x10000
  let n := o / 0x1000
  match off / 0x10000 with
  | 2 =>
    if off = 0x2002C then BitVec.ofNat 32 (holdBound s)
    else if off = 0x20068 then BitVec.ofInt 32 (rateOf s)
    else if 0x1000 ≤ o ∧ o % 0x40 = 0x24 then BitVec.ofNat 32 ((getLamp s ((o - 0x1000) / 0x40)).next / 1000000000)
    else rd s off
  | 3 =>
    if n < 4 ∧ o % 0x1000 = 0x30 then calData s n
    else if n < 4 ∧ o % 0x1000 = 4 then withBit (rd s off) 5 (blanked s n)
    else if off = 0x34010 then ddcFreq s
    else rd s off
  | 4 =>
    if n < 4 ∧ o % 0x1000 = 0x1C then synCalData s n
    else if n < 4 ∧ o % 0x1000 = 0x2C then synTableState s n
    else rd s off
  | 5 =>
    if o % 0x400 = 0x34 then chSrc s (o / 0x400)
    else if o % 0x400 = 0x28 then chEnergy s (o / 0x400)
    else rd s off
  | 6 => if o = 0xC ∨ o = 0x400C then txpStatus s (o / 0x4000) else rd s off
  | 7 => if off = 0x78004 then (rd s off &&& 0x70000) ||| BitVec.ofNat 32 (opqCounts s) else rd s off
  | 9 =>
    if 0x8000 ≤ o then BitVec.ofNat 32 (leNat (pktRead s (0x3F8000 + (o - 0x8000)) 4))
    else if off = 0x90024 then
      let k := getKey s (getF s 0x90020 7 0)
      BitVec.ofNat 32 ((if k.valid then 1 else 0) + (if k.big then 2 else 0) + 16 * (k.usage % 16) + 65536 * (k.gen % 65536))
    else if off = 0x900D8 then cphHresult s
    else rd s off
  | 11 =>
    if off = 0xB0014 then BitVec.ofNat 32 (roleCount s 1)
    else if off = 0xB0018 then BitVec.ofNat 32 (roleCount s 2)
    else if off = 0xB001C then BitVec.ofNat 32 (roleCount s 3)
    else if off = 0xB0020 then BitVec.ofNat 32 (freeCount s)
    else if 0x100 ≤ o ∧ o < 0x180 ∧ o % 8 = 4 then BitVec.ofNat 32 (frondContexts s ((o - 0x100) / 8)).length
    else rd s off
  | 12 =>
    if off = 0xC000C then BitVec.ofNat 32 ((s.ntb.clk - s.keeper.startClk) / 655360000)
    else if off = 0xC0048 then
      (rd s off &&& 0x70000) ||| BitVec.ofNat 32 (if wdtCounts s then min 65535 ((s.ntb.clk - s.keeper.kickClk) / wdtMs) else 0)
    else rd s off
  | _ => rd s off

/-- A context-store word (R40). -/
def storeWord (s : State) (addr : Word) : Word :=
  let a := addr.toNat - 0x50000000
  BitVec.ofNat 32 (leAt (ctxBytes (getCtx s (a / 0x80))) (a % 0x80 / 4 * 4) 4)

/-- Measured bits that the model does not determine, read as free values: the locks of the interface clocks and the load of the island
(R438, R485; log entry 123). -/
def measuredBits (off : Nat) (s : State) : Option (Word × State) :=
  let f := Config.freeCal s.free
  if off = 0xC then some ((f &&& 0x1C) ||| 3, drawFree s)
  else if off = 0x100A8 then some ((rd s off &&& 0x100) ||| (f &&& 0xFF), drawFree s)
  else none

/-- A read of a register of the radio die: the word returned, and the machine after it (R23, R26, R33, R49, R59, R289). -/
def radioRead (off : Nat) (s : State) : Word × State :=
  let o := off % 0x10000
  let lat := tabGet (fun _ => none) s.latch off
  match twinOf off with
  | some r => (~~~(rd s r &&& BitVec.ofNat 32 (radioDesc r).readable), s)
  | none =>
    if off = 0x20000 then let s := ntbTimeRead s; (s.lastRead, s)
    else if 0x20100 ≤ off ∧ off < 0x201A0 ∧ o % 0x20 = 4 then
      let s := captureRead (Fin.ofNat 5 ((o - 0x100) / 0x20)) s; (s.lastRead, s)
    else if 0x21000 ≤ off ∧ off < 0x21200 ∧ o % 0x40 = 0x24 then
      let t := (getLamp s ((o - 0x1000) / 0x40)).next
      (liveReg off s, wr (off + 8) (BitVec.ofNat 32 (t % 1000000000)) (wr (off + 4) (BitVec.ofNat 32 (t / 1000000000 / 2 ^ 32)) s))
    else if 0x80900 ≤ off ∧ off < 0x80980 ∧ o % 0x20 = 0 then
      let s := timestampRead (Fin.ofNat 4 ((o - 0x900) / 0x20)) s; (s.lastRead, s)
    else if off = 0x900D8 then let s := cphHresultRead s; (s.lastRead, s)
    else match lat with
      | some v => (v, { s with latch := tabSet (fun _ => none) s.latch off none })
      | none =>
        match measuredBits off s with
        | some r => r
        | none =>
          (liveReg off s &&& BitVec.ofNat 32 (radioDesc off).readable,
            if lowWord off then { s with latch := tabSet (fun _ => none) s.latch (off + 4) (some (rd s (off + 4))) } else s)

/-! ### Writes of the radio die -/

/-- A write under the access codes alone (R23-R25): rw and wo bits take the value, a 1 clears a w1c bit unless hardware has set it in this
very clock, all else stays. `was` is the register as this clock found it. -/
def codesWrite (d : Desc) (was old v : Word) : Word :=
  let set := BitVec.ofNat 32 (d.rw ||| d.wo)
  (old &&& ~~~set &&& ~~~(v &&& was &&& BitVec.ofNat 32 d.w1c)) ||| (v &&& set)

/-- A register as the present clock found it. -/
def rdWas (s : State) (off : Nat) : Word := rd { s with reg := s.regWas } off
def hrdWas (s : State) (off : Nat) : Word := hrd { s with hreg := s.hregWas } off

def plainWrite (off : Nat) (v : Word) (s : State) : State := wr off (codesWrite (radioDesc off) (rdWas s off) (rd s off) v) s

/-- What an accepted guarded value of the radio die does (R33, R34). -/
def guardEffectR (off : Nat) (v : Word) (s : State) : State :=
  if off = 0x40 then sysResetEffect off v s
  else if off = 0x10040 then pwrCmdEffect off v s
  else if off = 0x90040 then keyInvalEffect off v s
  else if off = 0xA0040 then portDisable 0 v s
  else if off = 0xA8040 then portDisable 1 v s
  else if off = 0xC0040 then wdtCfgEffect off v s
  else s

/-- PWR_AVS_CFG (R424, R438): a fixed voltage outside 650 to 850 mV discards the write; with AVS_EN clear VDD_CORE takes it. In WATCH the
enable is kept for RUN (log entry 103). -/
def avsCfgWrite (v : Word) (s : State) : State :=
  let mv := fieldOf v 25 16
  if mv < 650 ∨ 850 < mv then setB 0x10004 8 true s
  else if inWatch s then
    let s := wr 0x10020 (v &&& 0x03FF0000) s
    { s with power := { s.power with avs := bitOf v 0, vcore := if bitOf v 0 then s.power.vcore else mv } }
  else
    let s := wr 0x10020 (v &&& 0x03FF0001) s
    onlyIf (!bitOf v 0) (setF 0x1001C 9 0 mv) s

/-- SYNn_CAL_CMD (R114). -/
def synCommand (n : Nat) (v : Word) (s : State) : State :=
  onlyIf (bitOf v 3) (invalidateAll n) (onlyIf (bitOf v 2) (calAllValid n) (onlyIf (bitOf v 1) (calEntry n) (onlyIf (bitOf v 0) (refreshStale n) s)))

/-- OPQn_CMD (R224): ARM with CANCEL is a CANCEL. -/
def opCommand (n : Nat) (v : Word) (s : State) : State :=
  if bitOf v 1 then opCancel n s else if bitOf v 0 then opArmAt n none s else s

/-- CPH_KEY_LOAD, which only the Keeper writes (R296): the key in CPH_KEY_DATA goes to a slot. -/
def keyLoadReg (v : Word) (s : State) : State :=
  let words := if bitOf v 8 then 8 else 4
  let key := (List.range words).flatMap (fun i => leBytes 4 (rd s (0x90060 + 4 * i)).toNat)
  keyChange { code := fieldOf v 7 0, slot := { valid := true, big := bitOf v 8, usage := fieldOf v 15 12, key := key } } s

/-- A register with more to a write than its access codes, by block. -/
def specialWrite (off : Nat) (v : Word) (s : State) : Option State :=
  let o := off % 0x10000
  let n := o / 0x1000
  match off / 0x10000 with
  | 1 => if o = 0x20 then some (avsCfgWrite v s) else none
  | 2 =>
    if o = 0x20 then some (ntbCfgWrite (relayOn s) v s)
    else if o = 0x3C then some (ppsSecArm v s)
    else none
  | 3 =>
    if n < 4 ∧ o % 0x1000 = 0 then some (rxpPathCfgWrite (Fin.ofNat 4 n) v s)
    else if o = 0x4000 then some (rxpsCfgWrite v s)
    else if o = 0x8000 ∨ o = 0x8004 ∨ o = 0x8008 then some (rxpBandWrite (BitVec.ofNat 32 (0x40000000 + off)) v s)
    else none
  | 4 =>
    if n < 4 ∧ (o % 0x1000 = 0x10 ∨ o % 0x1000 = 0x14) then some (rasterWrite (Fin.ofNat 4 n) (o % 0x1000 == 0x14) v s)
    else if n < 4 ∧ o % 0x1000 = 0x20 then some (synCommand n v s)
    else if o = 0x8000 then some (coexCfgWrite v s)
    else if o = 0x8004 then some (coexTimingWrite v s)
    else none
  | 5 =>
    if o % 0x400 = 0x80 then some (onlyIf (bitOf v 1) (clearStats (o / 0x400)) (onlyIf (bitOf v 0) (latchStats (o / 0x400)) s)) else none
  | 6 => if o = 8 ∨ o = 0x4008 then some (txpEnWrite (Fin.ofNat 2 (o / 0x4000)) v s) else none
  | 7 =>
    if o < 0x2000 ∧ o % 0x40 = 0x24 then some (opCommand (o / 0x40) v s)
    else if o = 0x8000 then some (hostResWrite v s)
    else if o = 0x800C then some (slotCfgWrite v s)
    else if o = 0x8030 then some (relayCfgWrite v s)
    else if o = 0x8044 then some (opqNidWrite v s)
    else none
  | 8 =>
    if o < 0x600 ∧ o % 0x10 = 0 then some (evcSrcWrite (o / 0x10) v s)
    else if o < 0x600 ∧ o % 0x10 ≤ 8 then some (evcWrite (o / 0x10) (o % 0x10) v s)
    else if o = 0x800 then some (evfSwtrig v s)
    else if o = 0x804 then some (evfSwgateWrite v s)
    else if o = 0x80C then some (evfCountClr v s)
    else none
  | 9 =>
    if 0x8000 ≤ o then some (pktWrite (0x3F8000 + (o - 0x8000)) (leBytes 4 v.toNat) s)
    else if o = 0 then some (cphCfgWrite v s)
    else if o = 0x80 then some (keyLoadReg v s)
    else if o = 0xD0 then some (cphHsubmit v s)
    else none
  | 10 => if o = 0xC0 then some (mrChainCfgWrite v s) else none
  | 11 => if o = 0x24 then some (frdLookup v s) else none
  | 12 => if o = 0x44 then some (wdtKick v 0 s) else none
  | 13 => if 0xC0 ≤ o ∧ o < 0xE0 ∧ fieldOf v 31 16 < fieldOf v 15 0 then some s else none
  | _ => none

/-- A write of a register of the radio die (R23-R25, R29, R30, R34). -/
def radioWrite (off : Nat) (v : Word) (s : State) : State :=
  match twinOf off with
  | some r => guardTwinR r v guardEffectR s
  | none =>
    if (radioDesc off).rwg ≠ 0 then guardValueR off v s
    else match unitAt off with
      | some u =>
        if (unitRange u).1 = off then applyRegWrite u v s
        else if (radioDesc off).rwb ≠ 0 then shadowPut (unitRange u).1 off v s
        else (specialWrite off v s).getD (plainWrite off v s)
      | none => (specialWrite off v s).getD (plainWrite off v s)

/-! ### The host die -/

/-- The low words of the host die's 64-bit quantities (R26). -/
def hostLowWord (off : Nat) : Bool :=
  off == 0x0008 || off == 0x4800 || off == 0x6010 ||
    (decide (0x3040 ≤ off) && decide (off < 0x30C0) && (off % 0x20 == 0 || off % 0x20 == 0x14)) ||
    (decide (0x4000 ≤ off) && decide (off < 0x4200) && off % 0x10 == 0)

def hostTwinOf (off : Nat) : Option Nat := if off = 0x1840 then some 0x1040 else if off = 0x1844 then some 0x1044 else none

/-- MBX_RINGn_STATUS (R320, R328): the messages that wait in the holds of the classes mapped to the ring. -/
def ringStatus (s : State) (r : Nat) : Word :=
  let n := (([0, 1, 2, 3].filter (fun c => ringOf s c == r)).map (fun c => (holdOf s.tender c).length)).sum
  (hrd s (ringBase r + 0x1C) &&& 0x100) ||| BitVec.ofNat 32 ((if n = 0 then 0 else 1) + 65536 * n)

/-- TAG_STATUS as read: FIELD is the level of TAG_FD, which stays high for 1 ms after the field is lost (R461, R473). -/
def tagStatus (s : State) : Word := hrd s 0x6004 ||| (if s.age < s.tag.fdLow then 1 else 0)

/-- A read of a register of the host die. RTC_TIME takes the divider as a free value here; RTC_TIME_READ carries it. -/
def hostRead (off : Nat) (s : State) : Word × State :=
  match hostTwinOf off with
  | some r => (~~~(hrd s r &&& BitVec.ofNat 32 (hostDesc r).readable), s)
  | none =>
    if off = 0x5000 then
      let s := rtcTimeRead (BitVec.ofNat 15 (Config.freeDraw s.free)) (drawFree s)
      (hrd s 0x5000, s)
    else match tabGet (fun _ => none) s.hlatch off with
      | some v => (v, { s with hlatch := tabSet (fun _ => none) s.hlatch off none })
      | none =>
        if 0x3040 ≤ off ∧ off < 0x30C0 ∧ off % 0x20 = 0x1C then (ringStatus s ((off - 0x3040) / 0x20), s)
        else
          ((if off = 0x6004 then tagStatus s else hrd s off) &&& BitVec.ofNat 32 (hostDesc off).readable,
            if hostLowWord off then { s with hlatch := tabSet (fun _ => none) s.hlatch (off + 4) (some (hrd s (off + 4))) } else s)

def hostPlain (off : Nat) (v : Word) (s : State) : State := hwr off (codesWrite (hostDesc off) (hrdWas s off) (hrd s off) v) s

/-- A word of the MSI-X table (R329): unmasking a vector whose message is pending sends it. -/
def msxTableWrite (off : Nat) (v : Word) (s : State) : State :=
  let n := (off - 0x4000) / 16
  let s := hostPlain off v s
  if off % 16 = 12 ∧ hgetB s 0x4800 n ∧ !bitOf v 0 then vectorPend n (hsetB 0x4800 n false s) else s

/-- RTC_CTL (R377): DISCARD, then LOAD. -/
def rtcCtlWrite (v : Word) (s : State) : State :=
  onlyIf (bitOf v 0) (rtcLoad (bitOf v 2)) (onlyIf (bitOf v 1) rtcDiscard s)

/-- TAG_HCMD (R472): one bit per write. -/
def tagHcmd (v : Word) (s : State) : State :=
  let cs := [8, 9, 10, 11, 12].filter (fun i => bitOf v i)
  match cs with
  | [] => s
  | [8] => Machine.tagCommit s
  | [9] => Machine.tagDiscard s
  | [10] => Machine.quietClr s
  | [11] => Machine.tagKeyLoad s
  | [12] => Machine.cfgStore s
  | _ => tagRefused s

/-- What an accepted guarded value of the host die does (R326, R437, R485). -/
def guardEffectH (off : Nat) (v : Word) (s : State) : State :=
  let s := hwr off (v &&& BitVec.ofNat 32 (hostDesc off).rwg) s
  if off = 0x1040 then onlyIf (bitOf v 0) hpwStandby s else hpwResetEffect off v s

/-- A write of a register of the host die. -/
def hostWrite (off : Nat) (v : Word) (s : State) : State :=
  match hostTwinOf off with
  | some r => guardTwinH r v guardEffectH s
  | none =>
    if (hostDesc off).rwg ≠ 0 then guardValueH off v s
    else if off = 0x3000 then Machine.doorbell v s
    else if off = 0x3014 then Machine.spiRelease v s
    else if 0x3040 ≤ off ∧ off < 0x30C0 then
      if off % 0x20 = 0x10 then Machine.ringHeadWrite (Fin.ofNat 4 ((off - 0x3040) / 0x20)) v s
      else if off % 0x20 = 0x1C then hostPlain off v s
      else Machine.ringCfgWrite (BitVec.ofNat 32 (off - 0x3000)) v s
    else if 0x4000 ≤ off ∧ off < 0x4200 then msxTableWrite off v s
    else if off = 0x5000 then rtcShadowWrite false v s
    else if off = 0x5004 then rtcShadowWrite true v s
    else if off = 0x500C then rtcCtlWrite v s
    else if off = 0x5014 ∨ off = 0x5018 then rtcAlarmWrite off v s
    else if off = 0x501C then rtcAlarmArm (bitOf v 0) (hwr off (hrd s off &&& ~~~(v &&& 0x300)) s)
    else if off = 0x5028 then onlyIf (bitOf v 31) switchLogClear s
    else if off = 0x6008 then tagHcmd v s
    else hostPlain off v s

/-! ### The commands on single registers -/

/-- REGISTER_WRITE. A radio-die register takes whole words only; the context window and a narrow host access discard the write (R22, R40);
an address that no register space holds is a fault. -/
def execRegisterWrite (die : Die) (addr : Word) (size : AccSize) (value : Word) (s : State) : Res :=
  match die with
  | .radio =>
    if inStoreWindow addr then .next s
    else if !inRadioBlocks addr then .fault (.noSuchAddress addr)
    else if size = .b4 then .next (radioWrite (canonRadio addr) value s)
    else .next s
  | .host =>
    if (if spiMode s then 0x80000 else 0x400000) ≤ addr.toNat then .fault (.noSuchAddress addr)
    else if !hostRuns s then .next s
    else match hostTarget addr with
      | .register off => .next (if size = .b4 then hostWrite off value s else s)
      | .reqWindow o => .next (Machine.reqWindowWrite (BitVec.ofNat 32 o) size value s)
      | .rspWindow o => .next { s with rspMem := tabWriteBytes zeroByte s.rspMem (accAddr size o) (accBytes size value) }
      | .tagMemory o => .next (Machine.tagmWrite (BitVec.ofNat 32 o) size value s)

/-- SHADOW_WRITE (R30): a register that has no rwb field takes none. -/
def shadowWrite (addr value : Word) (s : State) : State :=
  let off := canonRadio addr
  match unitAt off with
  | some u => if (radioDesc off).rwb ≠ 0 then shadowPut (unitRange u).1 off value s else s
  | none => s

/-- GUARDED_VALUE_WRITE (R34). -/
def guardedValueWrite (die : Die) (addr value : Word) (s : State) : State :=
  match die with
  | .radio => if (radioDesc (canonRadio addr)).rwg ≠ 0 then guardValueR (canonRadio addr) value s else s
  | .host =>
    match hostTarget addr with
    | .register off => if (hostDesc off).rwg ≠ 0 ∧ off < 0x8000 then guardValueH off value s else s
    | _ => s

/-- GUARD_TIMEOUT (R35): the 256 register clocks of a pending value are over. -/
def guardTimeout (die : Die) (s : State) : State :=
  match die with
  | .radio => if s.guard.isNone then s else guardLateR (reachAge (s.guardAge + guardSpanR + 1) s)
  | .host => if s.hguard.isNone then s else guardLateH (reachAge (s.hguardAge + guardSpanH + 1) s)

/-- The word that a host-die read returns, with what the read does. -/
def hostReadAt (addr : Word) (s : State) : Word × State :=
  let word := fun (m : Tab Byte) o => BitVec.ofNat 32 (leNat (tabReadBytes zeroByte m (o / 4 * 4) 4))
  match hostTarget addr with
  | .register off => hostRead off s
  | .reqWindow o => (word s.reqMem o, s)
  | .rspWindow o => (word s.rspMem o, s)
  | .tagMemory o => (BitVec.ofNat 32 (leAt (pageData s (o / 128)) (o % 128 / 4 * 4) 4), s)

/-- A read whose word the model keeps as the block's output. -/
def returned (r : Word × State) : State := { r.2 with lastRead := r.1 }

/-- The requested bytes of a word, lowest first (R22). -/
def bytesRead (size : AccSize) (addr w : Word) : Word :=
  BitVec.ofNat 32 (leNat (accBytes size (w >>> (8 * (accAddr size addr.toNat % 4)))))

/-- LOW_WORD_LATCH_READ: a read of a register (R22, R23, R26); of the low word of a 64-bit quantity it latches the high word. The radio die
takes whole words only: a narrower read there returns nothing (log entry 157). -/
def execLowWordLatchRead (die : Die) (addr : Word) (size : AccSize) (s : State) : Res :=
  match die with
  | .radio =>
    if !inStoreWindow addr ∧ !inRadioBlocks addr then .fault (.noSuchAddress addr)
    else if size ≠ .b4 then .next s
    else if inStoreWindow addr then .next (returned (storeWord s addr, s))
    else .next (returned (radioRead (canonRadio addr) s))
  | .host =>
    if (if spiMode s then 0x80000 else 0x400000) ≤ addr.toNat then .fault (.noSuchAddress addr)
    else if !hostRuns s then .next s
    else
      let r := hostReadAt addr s
      .next (returned (bytesRead size addr r.1, r.2))

/-! ### Register access by message (R343-R346) -/

/-- An item of 16 bytes (R343). -/
structure Item where
  op : Nat
  pad : Nat
  limit : Nat
  addr : Word
  value : Word
  mask : Word
deriving DecidableEq, Repr

def itemAt (bs : List Byte) (i : Nat) : Item :=
  { op := leAt bs (16 * i) 1, pad := leAt bs (16 * i + 1) 1, limit := leAt bs (16 * i + 2) 2, addr := BitVec.ofNat 32 (leAt bs (16 * i + 4) 4),
    value := BitVec.ofNat 32 (leAt bs (16 * i + 8) 4), mask := BitVec.ofNat 32 (leAt bs (16 * i + 12) 4) }

/-- The whole message is refused for an item that is malformed (R344). -/
def itemBad (x : Item) : Bool :=
  x.op == 0 || decide (4 < x.op) || x.pad != 0 || (x.op != 4 && x.limit != 0) || ((x.op == 1 || x.op == 2) && x.mask != 0)

/-- The policy of R346 for one item: the status it is refused with, or OK. -/
def itemPolicy (crit : Bool) (x : Item) (s : State) : Nat :=
  let off := canonRadio x.addr
  let writes := x.op == 2 || x.op == 3
  let opEntry := decide (0x70000 ≤ off) && decide (off < 0x72000)
  let guarded := (radioDesc off).rwg != 0 || (twinOf off).isSome
  if x.addr.toNat % 4 ≠ 0 ∨ (!inRadioBlocks x.addr ∧ !inStoreWindow x.addr) then sBadAddress
  else if !writes then sOk
  else if inStoreWindow x.addr then sReadOnly
  else if (0x90060 ≤ off ∧ off ≤ 0x9007C) ∨ off = 0x90080 then sPolicy
  else if opEntry && opOwner s ((off - 0x70000) / 0x40) != 17 then sPolicy
  else if guarded && (x.op == 3 || !crit) then sPolicy
  else sOk

/-- The word an item's read returns. -/
def itemRead (x : Item) (s : State) : Word × State :=
  if inStoreWindow x.addr then (storeWord s x.addr, s) else radioRead (canonRadio x.addr) s

/-- An item's write, with the apply of a unit whose boundary is already reached (R27): within 4 core clocks, before the next item. -/
def itemWrite (x : Item) (v : Word) (s : State) : State :=
  let off := canonRadio x.addr
  applySoon off (radioWrite off v s)

/-- What an item did: it completed with a value, it failed with a status, it waits, or the die has been reset under it. -/
inductive ItemEnd where
  | done (v : Word)
  | failed (status : Nat)
  | waits
  | reset
deriving DecidableEq, Repr

/-- A guarded value written before an item and still pending after it is late (R37, R346): only adjacent items make a pair. -/
def pairLate (before : Bool) (s : State) : State := onlyIf (before && s.guard.isSome) guardLateR s

/-- One item (R343-R346); `last` says that the LIMIT of a POLL has passed. -/
def itemEffect (crit last : Bool) (x : Item) (s : State) : ItemEnd × State :=
  let p := itemPolicy crit x s
  if p ≠ sOk then (.failed p, s)
  else
    let resets := s.linkR.resets
    let r := itemRead x s
    if x.op = 2 then
      let t := itemWrite x x.value s
      (if t.linkR.resets = resets then .done 0 else .reset, t)
    else if x.op = 1 then (.done r.1, r.2)
    else if x.op = 3 then (.done r.1, itemWrite x ((r.1 &&& ~~~x.mask) ||| (x.value &&& x.mask)) r.2)
    else if r.1 &&& x.mask = x.value &&& x.mask then (.done r.1, r.2)
    else if last then (.failed sPollTimeout, r.2)
    else (.waits, r.2)

def runItem (crit last : Bool) (x : Item) (s : State) : ItemEnd × State :=
  let e := itemEffect crit last x s
  (e.1, pairLate s.guard.isSome e.2)

def runCaller (r : RegRun) : Caller :=
  { win := r.win, tag := r.tag, opcode := r.opcode, target := r.target, counter := r.counter, origin := r.origin }

/-- The answer (R345). -/
def regAnswer (r : RegRun) (fail status : Nat) (s : State) : State :=
  reply (runCaller r) status (leBytes 2 r.done ++ leBytes 2 fail ++ r.values) s

/-- The items from the present one on. `fuel` bounds their number; `last` belongs to the first of them. -/
def runItems (fuel : Nat) (last : Bool) (r : RegRun) (s : State) : State :=
  match fuel with
  | 0 => regAnswer r 0xFFFF sOk s
  | fuel + 1 =>
    if r.items.length ≤ 16 * r.done then regAnswer r 0xFFFF sOk s
    else
      let x := itemAt r.items r.done
      let e := runItem (r.opcode == 0x9001) (last || x.limit == 0) x s
      match e.1 with
      | .done v => runItems fuel false { r with done := r.done + 1, values := r.values ++ leBytes 4 v.toNat } e.2
      | .failed st => regAnswer r r.done st e.2
      | .waits => { e.2 with keeper := { e.2.keeper with run := some { r with limit := e.2.ntb.clk + clocksOfNs (1000 * x.limit) } } }
      | .reset => e.2

def itemsIn (r : RegRun) : Nat := r.items.length / 16 + 1

/-- The waiting POLL is read again (log entry 124); at its limit it fails. -/
def pollAgain (s : State) : State :=
  match s.keeper.run with
  | none => s
  | some r =>
    let x := itemAt r.items r.done
    let last := decide (r.limit ≤ s.ntb.clk)
    let e := runItem (r.opcode == 0x9001) last x s
    match e.1 with
    | .waits => { e.2 with keeper := { e.2.keeper with run := some r } }
    | _ => runItems (itemsIn r) last r { s with keeper := { s.keeper with run := none } }

/-- A message that waits in a POLL ends before the next one begins: its limits pass. -/
def pollsOut (fuel : Nat) (s : State) : State :=
  match fuel with
  | 0 => s
  | fuel + 1 =>
    match s.keeper.run with
    | none => s
    | some r => pollsOut fuel (pollAgain (reachClk r.limit s))

/-- Both forms of register access. A value left pending by an earlier message is late (R37). -/
def regAccessAs (opcode most : Nat) (q : Req) (s : State) : State :=
  runCmd opcode q (fun c s =>
    let n := q.payload.length
    let items := (List.range (n / 16)).map (itemAt q.payload)
    if n % 16 ≠ 0 ∨ n < 16 ∨ most < n then reply c sBadLength [] s
    else if items.any itemBad ∨ 1000000 < (items.map Item.limit).sum then reply c sBadField [] s
    else
      let r : RegRun := { win := c.win, tag := c.tag, opcode := c.opcode, target := c.target, counter := c.counter, origin := c.origin,
                          items := q.payload, done := 0, values := [], limit := 0 }
      runItems (itemsIn r) false r (guardLateR (pollsOut 256 s))) s

/-- REG_ACCESS and REG_ACCESS_CRIT. -/
def regAccess (q : Req) (s : State) : State := regAccessAs 0x1001 4080 q s
def regAccessCrit (q : Req) (s : State) : State := regAccessAs 0x9001 4064 q s

def execShadowWrite (addr value : Word) (s : State) : Res := .next (shadowWrite addr value s)
def execGuardedValueWrite (die : Die) (addr value : Word) (s : State) : Res := .next (guardedValueWrite die addr value s)
def execGuardTimeout (die : Die) (s : State) : Res := .next (guardTimeout die s)
def execRegAccess (q : Req) (s : State) : Res := .next (regAccess q s)
def execRegAccessCrit (q : Req) (s : State) : Res := .next (regAccessCrit q s)

end Sys2Proof.Machine
end

