-- ==== Sys2Proof/Machine/Update.lean ====
section
/-! DEFINITION. Firmware update (R402-R414): image headers, slots and their state records, the update commands, the slot switch, and the
trial. -/

namespace Sys2Proof.Machine

/-! ### Headers (R402, R403) -/

/-- The number of chunks, the body length, the settings format and the rollback level of a header. -/
def hChunks (h : List Byte) : Nat := leAt h 0x16 1
def hBody (h : List Byte) : Nat := leAt h 0x18 4
def hFormat (h : List Byte) : Nat := leAt h 0x14 2
def hLevel (h : List Byte) : Nat := leAt h 0x10 4
def hTags (h : List Byte) : List Byte := (h.drop 0x100).take (16 * hChunks h)

/-- HTAG verifies under an image key. -/
def htagOk (key h : List Byte) : Bool :=
  (gcmOpen (natsOf key) (natsOf ((h.drop 0x1C).take 8 ++ leBytes 4 0xFFFFFFFF)) (natsOf (h.take 0x70 ++ hTags h)) []
    (natsOf ((h.drop 0x70).take 16))).isSome

/-- The decrypted bytes of chunk `k` of a body, if its tag verifies. -/
def chunkOpen (key h : List Byte) (k : Nat) (ct : List Byte) : Option (List Byte) :=
  (gcmOpen (natsOf key) (natsOf ((h.drop 0x1C).take 8 ++ leBytes 4 k)) (natsOf (h.take 0x70)) (natsOf ct)
    (natsOf ((h.drop (0x100 + 16 * k)).take 16))).map bytesOf

/-- A section entry: TARGET, BODY_OFS, LEN, LOAD. -/
structure Section where
  target : Nat
  ofs : Nat
  len : Nat
  load : Nat
deriving DecidableEq, Repr

def hSection (h : List Byte) (i : Nat) : Section :=
  let o := 0x30 + 16 * i
  { target := leAt h o 1, ofs := leAt h (o + 4) 4, len := leAt h (o + 8) 4, load := leAt h (o + 12) 4 }

/-- The sections in use. -/
def hSections (h : List Byte) : List Section := ([0, 1, 2, 3].map (hSection h)).filter (fun x => x.target != 0xFF)

/-- The target memories (R478). -/
def targetSize (t : Nat) : Nat := if t = 1 then 0x200000 else 0x100000

/-- A section fits its target and the body, on 16-byte boundaries. -/
def sectionFits (body : Nat) (x : Section) : Bool :=
  decide (x.target < 3) && x.ofs % 16 == 0 && x.len % 16 == 0 && x.load % 16 == 0 && decide (x.ofs + x.len ≤ body) &&
    decide (x.load + x.len ≤ targetSize x.target)

/-- Two sections do not overlap. -/
def apart (x y : Section) : Bool := decide (x.ofs + x.len ≤ y.ofs) || decide (y.ofs + y.len ≤ x.ofs)

/-- The sections are one for each target, fit and lie apart (R404). -/
def sectionsOk (h : List Byte) : Bool :=
  let xs := hSections h
  xs.length == 3 && [0, 1, 2].all (fun t => xs.any (fun x => x.target == t)) && xs.all (sectionFits (hBody h)) &&
    xs.all (fun x => xs.all (fun y => x.target == y.target || apart x y))

/-- The bytes of a header that R402 shows as 0. -/
def headerZeros (h : List Byte) : Bool :=
  leAt h 0x17 1 == 0 && leAt h 0x24 12 == 0 && [0, 1, 2, 3].all (fun i => leAt h (0x31 + 16 * i) 3 == 0) && leAt h 0x80 40 == 0 &&
    leAt h 0xA8 88 == 0

/-- The checks of a delivered header, `level` being that of the active slot (R404). -/
def headerOk (h : List Byte) (level : Nat) : Bool :=
  h.take 4 == [0x48, 0x4C, 0x44, 0x49] && leAt h 4 2 == 1 && leAt h 8 2 == 0x6416 && decide (leAt h 0xA 1 ≤ 2) && decide (2 ≤ leAt h 0xB 1) &&
    leAt h 6 2 == 0x100 + 16 * hChunks h && h.length == leAt h 6 2 && decide (1 ≤ hChunks h) && decide (hChunks h ≤ 96) &&
    hBody h % 16 == 0 && decide (hBody h ≤ 6283264) && hChunks h == ceilDiv (hBody h) 65536 && headerZeros h && sectionsOk h &&
    decide (level ≤ hLevel h)

/-! ### Slots (R405, R406) -/

/-- The image key of a slot: its DUK_WKEY unwrapped under the DUK. -/
def slotKey (s : State) (slot : Nat) : Option (List Byte) :=
  (kwUnwrap (natsOf duk) (natsOf (((slotHeader s slot).drop 0x80).take 40))).map bytesOf

/-- The header of a slot is valid. -/
def slotValid (s : State) (slot : Nat) : Bool :=
  match slotKey s slot with
  | some k => htagOk k (slotHeader s slot)
  | none => false

/-- The state record in a word: its TYPE, CHUNK and GEN. -/
def stateRec (w : List Byte) : Option (Nat × Nat × Nat) :=
  let t := leAt w 0 1
  if recordOk w ∧ [0x56, 0x54, 0x42, 0x43, 0x52].contains t ∧ leAt w 1 1 = 0 ∧ leAt w 8 4 = 0 ∧ (t = 0x56 ∨ leAt w 2 2 = 0) ∧
      ((t ≠ 0x56 ∧ t ≠ 0x52) ∨ leAt w 4 4 = 0) then some (t, leAt w 2 2, leAt w 4 4) else none

/-- The words of a slot's state records, up to the first blank one. -/
def stateWords (s : State) (slot : Nat) : List (List Byte) :=
  let a := slotBase slot / 16 + 0x80
  (((List.range 384).map (fun i => (flWord s (a + i), wordBytes s (a + i)))).takeWhile (fun p => p.1.isSome)).map (fun p => p.2)

def stateRecs (s : State) (slot : Nat) : List (Nat × Nat × Nat) := (stateWords s slot).filterMap stateRec

/-- The last record that gives the state of a slot. -/
def lastRec (s : State) (slot : Nat) : Option (Nat × Nat × Nat) := ((stateRecs s slot).filter (fun r => r.1 != 0x56)).getLast?

/-- The state of a slot: 0 UNUSABLE, 1 OPEN, 2 PENDING, 3 TRYING, 4 CONFIRMED. -/
def slotState' (s : State) (slot : Nat) : Nat :=
  if !slotValid s slot then 0
  else match lastRec s slot with
    | none => 1
    | some r => if r.1 = 0x54 then 2 else if r.1 = 0x42 then 3 else if r.1 = 0x43 then 4 else 0

/-- The commit generation that a slot's state carries. -/
def slotGen (s : State) (slot : Nat) : Nat := ((lastRec s slot).map (fun r => r.2.2)).getD 0

/-- A state record programmed in the next word; the record area is never left. -/
def putRec (slot typ chunk gen : Nat) (s : State) : State :=
  let n := (stateWords s slot).length
  if 384 ≤ n then s
  else flProg (slotBase slot + 0x800 + 16 * n) (crcRecord (leBytes 1 typ ++ leBytes 1 0 ++ leBytes 2 chunk ++ leBytes 4 gen)) s

/-- The chunks verified without a break from chunk 0: at most `n`. -/
def verifiedRun (rs : List (Nat × Nat × Nat)) : Nat → Nat → Nat
  | 0, _ => 0
  | n + 1, k => if rs.any (fun r => r.1 == 0x56 && r.2.1 == k) then 1 + verifiedRun rs n (k + 1) else 0

/-- VERIFIED of a slot: the end of the last chunk of that run. -/
def verified (s : State) (slot : Nat) : Nat :=
  let h := slotHeader s slot
  min (hBody h) (65536 * verifiedRun (stateRecs s slot) (hChunks h) 0)

/-- The slot that is not running. -/
def otherSlot (s : State) : Nat := 1 - s.boot.slot

/-- The running slot is in its trial. -/
def inTrial (s : State) : Bool := s.boot.mode == 1 && slotState' s s.boot.slot == 3

/-- The body of a slot in flash. -/
def bodyAt (s : State) (slot ofs n : Nat) : List Byte := flBytes s (slotBase slot + 0x2000 + ofs) n

/-- Chunk `k` of a slot, decrypted if its tag verifies. -/
def slotChunk (s : State) (slot k : Nat) : Option (List Byte) :=
  let h := slotHeader s slot
  match slotKey s slot with
  | none => none
  | some key => chunkOpen key h k (bodyAt s slot (65536 * k) (min 65536 (hBody h - 65536 * k)))

/-! ### The update commands (R371, R404-R409) -/

/-- NEXT as the commands report it: of the open session, else where a session would resume. -/
def updNext (s : State) : Nat :=
  if s.boot.session then s.boot.next else if slotState' s (otherSlot s) = 1 then verified s (otherSlot s) else 0

/-- The slot switch of a commit is withdrawn. -/
def dropSwitch (s : State) : State := if s.boot.due = 4 then { s with boot := { s.boot with due := 0 } } else s

/-- A session opened. -/
def openSession (next : Nat) (key : List Byte) (s : State) : State :=
  { s with boot := { s.boot with session := true, entered := [], next := next, key := key, fellBack := false } }

/-- The slot holds this header already, and is OPEN (R407). -/
def sameHeader (s : State) (slot : Nat) (h : List Byte) : Bool :=
  let g := slotHeader s slot
  slotState' s slot == 1 && g.take 0x80 == h.take 0x80 && hTags g == hTags h

/-- A header stored in the first sector of a slot, its key wrapped under the DUK. -/
def storeHeader (slot : Nat) (h key : List Byte) (s : State) : State :=
  let g := h.take 0x80 ++ bytesOf (kwWrap (natsOf duk) (natsOf key)) ++ h.drop 0xA8
  flProgAll (slotBase slot) (ceilDiv g.length 16) g (flErase (flSector (slotBase slot)) s)

/-- UPD_BEGIN. -/
def updBegin (q : Req) (s : State) : State :=
  runHost 0x8C01 q (fun t s =>
    let h := q.payload.drop 40
    let b := otherSlot s
    if lenOf q < 40 + 0x100 then hostAnswer t sBadLength [] s
    else if inTrial s then hostAnswer t sWrongState [] s
    else match kwUnwrap (natsOf (ktOf s)) (natsOf (q.payload.take 40)) with
      | none => hostAnswer t sAuth [] s
      | some k =>
        let key := bytesOf k
        if !htagOk key h then hostAnswer t sAuth [] s
        else if !headerOk h (if s.boot.mode = 1 then hLevel (slotHeader s s.boot.slot) else 0) then hostAnswer t sImage [] s
        else
          let s := dropSwitch s
          let n := if sameHeader s b h then verified s b else 0
          let s := if sameHeader s b h then s else storeHeader b h key s
          hostAnswer t sOk (leBytes 4 n) (openSession n key s)) s

/-- One code word of the body written: a sector is erased when the session first enters it (R408). -/
def bodyWord (slot ofs : Nat) (d : List Byte) (s : State) : State :=
  let a := slotBase slot + 0x2000 + ofs
  let s := if s.boot.entered.contains (flSector a) then s
    else flErase (flSector a) { s with boot := { s.boot with entered := flSector a :: s.boot.entered } }
  flProg a d s

/-- `n` code words of the body written. -/
def bodyWrite (slot : Nat) : Nat → Nat → List Byte → State → State
  | 0, _, _, s => s
  | n + 1, ofs, d, s => bodyWrite slot n (ofs + 16) (d.drop 16) (bodyWord slot ofs (d.take 16) s)

/-- The chunk that a write up to `stop` completed: the one after the verified ones. -/
def chunkDone (h : List Byte) (ver stop : Nat) : Bool := decide (min (hBody h) (ver + 65536) ≤ stop) && decide (ver < hBody h)

/-- The chunks that a write completed are read back and checked, at most `n` of them (R408): each that passes gets its V record; the first
that fails sets NEXT back to VERIFIED and ends the command IMAGE_INVALID. -/
def checkChunks (b : Nat) : Nat → State → Bool × State
  | 0, s => (true, s)
  | n + 1, s =>
    let ver := verified s b
    if !chunkDone (slotHeader s b) ver s.boot.next then (true, s)
    else if (slotChunk s b (ver / 65536)).isSome then checkChunks b n (putRec b 0x56 (ver / 65536) 0 s)
    else
      let first := flSector (slotBase b + 0x2000 + ver)
      (false, { s with boot := { s.boot with next := ver, entered := s.boot.entered.filter (fun x => decide (x < first)) } })

/-- UPD_WRITE. -/
def updWrite (q : Req) (s : State) : State :=
  runHost 0x0C02 q (fun t s =>
    let b := otherSlot s
    let h := slotHeader s b
    let n := lenOf q - 8
    let ver := verified s b
    if lenOf q < 8 ∨ 4064 < n ∨ n % 16 ≠ 0 then hostAnswer t sBadLength [] s
    else if !zeros q 4 4 ∨ fld q 0 4 ≠ updNext s then hostAnswer t sBadField [] s
    else if n = 0 then hostAnswer t sOk (leBytes 4 ver) s
    else if !s.boot.session ∨ slotState' s b ≠ 1 then hostAnswer t sWrongState [] s
    else if hBody h < fld q 0 4 + n then hostAnswer t sBadLength [] s
    else
      let s := bodyWrite b (n / 16) (fld q 0 4) (q.payload.drop 8) s
      let r := checkChunks b 2 { s with boot := { s.boot with next := fld q 0 4 + n } }
      if r.1 then hostAnswer t sOk (leBytes 4 (verified r.2 b)) r.2 else hostAnswer t sImage [] r.2) s

/-- UPD_COMMIT: the slot switch follows 100 ms after the answer. -/
def updCommit (q : Req) (s : State) : State :=
  runHost 0x8C03 q (fun t => hFixed 0 q t true (fun s =>
    let b := otherSlot s
    if slotState' s b ≠ 1 ∨ verified s b ≠ hBody (slotHeader s b) then hostAnswer t sWrongState [] s
    else hostAnswer t sOk [] { s with boot := { s.boot with due := 4, dueAge := s.age + ms100 } })) s

/-- The highest commit generation of a valid T, B or C record in either slot. -/
def topGen (s : State) : Nat :=
  ((stateRecs s 0 ++ stateRecs s 1).filter (fun r => [0x54, 0x42, 0x43].contains r.1)).foldl (fun m r => max m r.2.2) 0

/-- The slot switch (R409): the T record, and both dies reset. -/
def slotSwitch (s : State) : State := resetBoth causeSoftware (putRec (otherSlot s) 0x54 0 (topGen s + 1) s)

/-- STATE of UPD_STATUS (R413). DEDUCED (log entry 112): where several conditions hold, the order is trial, writing, fell back, confirmed. -/
def updState (s : State) : Nat :=
  let running := if s.boot.mode = 1 then slotState' s s.boot.slot else 0
  if running = 3 then 2 else if slotState' s (otherSlot s) = 1 then 1 else if s.boot.fellBack then 4 else if running = 4 then 3 else 0

/-- UPD_STATUS. -/
def updStatus (q : Req) (s : State) : State :=
  runHost 0x0C04 q (fun t => hFixed 0 q t true (fun s =>
    let b := otherSlot s
    let opened := slotState' s b == 1
    let ver := fun slot => if slotValid s slot then imgVer s slot else 0
    hostAnswer t sOk
      (leBytes 1 s.boot.slot ++ leBytes 1 (updState s) ++ leBytes 2 0 ++ leBytes 4 (updNext s) ++
        leBytes 4 (if opened then verified s b else 0) ++ leBytes 4 (if slotValid s b then hBody (slotHeader s b) else 0) ++
        leBytes 4 (ver 0) ++ leBytes 4 (ver 1)) s)) s

/-- UPD_ABORT: an R record in the inactive slot. -/
def updAbort (q : Req) (s : State) : State :=
  runHost 0x0C05 q (fun t => hFixed 0 q t true (fun s =>
    if inTrial s then hostAnswer t sWrongState [] s
    else
      let s := putRec (otherSlot s) 0x52 0 0 (dropSwitch s)
      hostAnswer t sOk [] { s with boot := { s.boot with session := false, entered := [], next := 0, key := [] } })) s

/-! ### The trial (R412, R482) -/

/-- Ten seconds and sixty seconds in core clocks. -/
def tenSeconds : Nat := 6553600000
def trialClocks : Nat := 39321600000

/-- The Tender programs C: the trial is over; a kept settings bank is given up for an image committed later than the one that caused the
format change (R416). -/
def confirmSlot (s : State) : State :=
  let g := slotGen s s.boot.slot
  let s := putRec s.boot.slot 0x43 0 g { s with boot := { s.boot with trial := false } }
  if s.settings.keptGen < g then { s with settings := { s.settings with kept := none } } else s

/-- TRIAL_CONFIRM (R412): 10 s after radio ready, or after the link last came UP, with the link UP and no radio-die reset since. -/
def trialConfirm (s : State) : State :=
  if !s.boot.trial ∨ !s.tender.radioReady ∨ !upH s ∨ s.boot.mode ≠ 1 then s
  else confirmSlot (clocks (s.boot.readyAge + tenSeconds - s.age) s)

/-- A millisecond in core clocks. -/
def oneMs : Nat := 655360

/-- TRIAL_TIMER_EXPIRY (R412, R482): 60 s from the B record; RADIO_RESET where the link is UP, and the host die 1 ms later. -/
def trialTimerExpiry (s : State) : State :=
  if !s.boot.trial ∨ 2 ≤ hostPower s then s
  else
    let s := clocks (s.boot.trialAge + trialClocks - s.age) s
    let at1 := s.age + oneMs
    let s := reachAge at1 (onlyIf (upH s) barrierReset { s with boot := { s.boot with trial := false } })
    hostDieReset causeTrial 0 s

def execUpdBegin (q : Req) (s : State) : Res := .next (updBegin q s)
def execUpdWrite (q : Req) (s : State) : Res := .next (updWrite q s)
def execUpdCommit (q : Req) (s : State) : Res := .next (updCommit q s)
def execUpdStatus (q : Req) (s : State) : Res := .next (updStatus q s)
def execUpdAbort (q : Req) (s : State) : Res := .next (updAbort q s)
def execTrialConfirm (s : State) : Res := .next (trialConfirm s)
def execTrialTimerExpiry (s : State) : Res := .next (trialTimerExpiry s)

end Sys2Proof.Machine
end

