-- ==== Sys2Proof/Machine/Boot.lean ====
section
/-! DEFINITION. Start-up (R478-R485, R410, R411, R416, R340): the ROM's choice of a slot, the Tender's start, the boot of the radio die
step by step over the barrier, its failures, and what happens while no command waits. -/

namespace Sys2Proof.Machine

/-! ### Sections of an image (R402, R411) -/

/-- The decrypted bytes of the section of a target, if every chunk that it touches verifies. -/
def sectionData (s : State) (slot target : Nat) : Option (List Byte) :=
  match (hSections (slotHeader s slot)).find? (fun x => x.target == target) with
  | none => none
  | some x =>
    let k := x.ofs / 65536
    let cs := (List.range (ceilDiv (x.ofs + x.len) 65536 - k)).map (fun i => slotChunk s slot (k + i))
    if cs.all (fun c => c.isSome) then some (((cs.filterMap id).flatten.drop (x.ofs - 65536 * k)).take x.len) else none

/-- Where a section is loaded. -/
def sectionLoad (s : State) (slot target : Nat) : Nat :=
  (((hSections (slotHeader s slot)).find? (fun x => x.target == target)).map (fun x => x.load)).getD 0

/-! ### The Tender starts (R340, R410, R416, R480) -/

/-- The settings banks chosen for an image of a format (R416). DESIGN CHOICE (log entry 121): with no valid bank the old format is 0. -/
def chooseSettings (fmt gen : Nat) (s : State) : State :=
  let any := topBank s (fun _ => true)
  match (if s.settings.resetNext then none else topBank s (fun b => b.format == fmt)) with
  | some b => { s with settings := { s.settings with active := b } }
  | none =>
    match any with
    | some b =>
      let old := getBank s b
      let s := formatBank (1 - b) fmt (old.seq + 1) s
      { s with settings := { s.settings with kept := some b, keptGen := gen, resetNext := false }, boot := { s.boot with formats := some (old.format, fmt) } }
    | none =>
      let s := formatBank 0 fmt 1 s
      { s with settings := { s.settings with resetNext := false }, boot := { s.boot with formats := some (0, fmt) } }

/-- LAST at boot (R340). -/
def loadCounter (s : State) : State :=
  let p := leAt ((coreGet s 256).getD []) 0 4
  { s with tender := { s.tender with persisted := p, last := min (p + 256) 0xFFFFFFFF } }

/-- A slot rejected (R410, R411). -/
def slotFellBack (slot : Nat) (s : State) : State := tenderEvt 0x172 (leBytes 1 slot) { s with boot := { s.boot with fellBack := true } }

/-- What the Tender reports once it runs (R416, R420). -/
def startReports (s : State) : State :=
  let s := if s.boot.brown then tenderEvt 0x161 (leBytes 1 1) { s with boot := { s.boot with brown := false } } else s
  match s.boot.formats with
  | some f => tenderEvt 0x171 (leBytes 2 f.1 ++ leBytes 2 f.2) { s with boot := { s.boot with formats := none } }
  | none => s

/-- The relay firmware runs from a slot; the link begins to train. -/
def startTender (slot : Nat) (s : State) : State :=
  let s := chooseSettings (hFormat (slotHeader s slot)) (slotGen s slot) s
  let s := hwr 0x14 (BitVec.ofNat 32 (imgVer s slot)) { s with boot := { s.boot with mode := 1, slot := slot, startAge := s.age } }
  startReports (loadCounter (linkTrains (hsetF 0x2000 1 0 1 s)))

/-- The recovery loader runs (R484). -/
def startRecovery (s : State) : State :=
  let s := { s with settings := { s.settings with active := (topBank s (fun _ => true)).getD 0 } }
  let s := hwr 0x14 0 { s with boot := { s.boot with mode := 2, slot := 0, trial := false } }
  startReports (loadCounter (linkTrains (hsetF 0x2000 1 0 1 s)))

/-- A chunk of a CONFIRMED slot fails: the other slot if that is CONFIRMED and its Tender section verifies, else the recovery loader
(R411). -/
def fallBackFrom (slot : Nat) (s : State) : State :=
  if slotState' s (1 - slot) = 4 ∧ (sectionData s (1 - slot) 0).isSome then slotFellBack slot (startTender (1 - slot) s)
  else slotFellBack slot (startRecovery s)

/-- A chunk of the running slot fails its tag (R411): in a trial R is programmed and both dies are reset. -/
def chunkFails (slot : Nat) (s : State) : State :=
  if slotState' s slot = 3 then resetBoth causeSoftware (putRec slot 0x52 0 0 { s with boot := { s.boot with fellBack := true } })
  else fallBackFrom slot s

/-- A slot is booted: its Tender section is streamed first. -/
def bootSlot (slot : Nat) (s : State) : State :=
  if (sectionData s slot 0).isSome then startTender slot s else chunkFails slot s

/-- The slots that began a trial and were never confirmed are rejected (R410, step 1). -/
def rejectTrying (s : State) : List Nat × State :=
  let bad := [0, 1].filter (fun x => slotState' s x == 3)
  (bad, forAll bad (fun x => putRec x 0x52 0 0) s)

/-- The CONFIRMED slot with the highest GEN. -/
def bestConfirmed (s : State) : Option Nat :=
  match slotState' s 0 == 4, slotState' s 1 == 4 with
  | true, true => some (if slotGen s 0 < slotGen s 1 then 1 else 0)
  | true, false => some 0
  | false, true => some 1
  | false, false => none

/-- A PENDING slot whose GEN exceeds that of every CONFIRMED one. -/
def pendingSlot (s : State) : Option Nat :=
  [0, 1].find? (fun x => slotState' s x == 2 && [0, 1].all (fun y => slotState' s y != 4 || decide (slotGen s y < slotGen s x)))

/-- The choice of a slot (R410). -/
def chooseSlot (s : State) : State :=
  match pendingSlot s with
  | some x => bootSlot x (putRec x 0x42 0 (slotGen s x) { s with boot := { s.boot with trial := true, trialAge := s.age } })
  | none =>
    match bestConfirmed s with
    | some x => bootSlot x s
    | none => startRecovery s

/-- ROM_BOOT (R410, R476, R480): the straps are latched, the journal repaired, a slot chosen, and the Tender started. -/
def romBoot (straps : BitVec 4) (s : State) : State :=
  if !hostRuns s ∨ s.boot.mode ≠ 0 then s
  else
    let s := journalRepair (hwr 0x10 (BitVec.ofNat 32 straps.toNat) { s with boot := { s.boot with trial := false } })
    let mode := straps.toNat / 2 % 4
    if mode = 2 then { s with boot := { s.boot with mode := 3 } }
    else if mode = 1 then startRecovery s
    else
      let r := rejectTrying s
      let s := chooseSlot r.2
      if s.boot.mode = 1 ∨ s.boot.mode = 2 then forAll r.1 slotFellBack s else s

/-! ### The radio die's side (R478, R479) -/

/-- BOOT_STATUS (R309). -/
def sendStage (n result arg : Nat) (s : State) : State :=
  sendR 9 (leBytes 1 n ++ leBytes 1 0 ++ leBytes 2 result ++ leBytes 4 arg) s

/-- A stage is reached and reported. -/
def stageReached (n arg : Nat) (s : State) : State := sendStage n sOk arg (setF 8 3 0 n s)

def bootStage (s : State) : Nat := getF s 8 3 0

/-- BARRIER_TRAINING (R307, R479, R480): with the link UP the radio die reports WAIT_IMAGE, or, to a host die that was reset, the stage it
has reached. An end whose peer is unpowered, in reset or asleep locks no lane, and its link is DOWN (R9). -/
def barrierTrainingRow (toHost toRadio : BitVec 4) (s : State) : State :=
  if upR s ∨ upH s then s
  else if !hostRuns s ∨ s.power.dead then
    let s := if s.power.dead then s else setF 0x10 1 0 0 s
    if hostRuns s ∧ hgetF s 0x2000 1 0 ≠ 0 then hincW 0x201C (hsetF 0x2000 1 0 0 s) else s
  else
    let was := s.linkR.peerResets
    let s := barrierTraining toHost toRadio s
    if !upR s then s
    else
      let s := if s.tender.radioReady then { s with boot := { s.boot with readyAge := s.age } } else s
      if islandOnly s then s
      else if bootStage s = 0 then stageReached 1 0 s
      else if was.isSome ∧ was ≠ s.linkR.peerResets then sendStage (bootStage s) sOk 0 s
      else s

/-- IMAGE_CHUNK (R309, R478): image data for a target memory. -/
def imageChunk (m : BMsg) (s : State) : State :=
  barrierRow 7 .radio m (fun s =>
    let t := 1 + bAt m 0 1 % 2
    { s with image := tabWriteBytes zeroByte s.image (2 ^ 21 * t + leAt m.payload 4 4 % 2 ^ 21) (m.payload.drop 8) }) s

/-- START_KEEPER (R446, R479, R480): the Keeper starts and its checks pass; the watchdog starts; a brown-out of the island is reported. -/
def startKeeper (m : BMsg) (s : State) : State :=
  bootCtl 1 m (fun s =>
    if bootStage s ≠ 1 then s
    else
      let s := wr 0xC0000 (BitVec.ofNat 32 (imgVer s s.boot.slot)) (incSat 8 15 8 1 s)
      let s := { s with keeper := { s.keeper with startClk := s.ntb.clk, kickClk := s.ntb.clk, wdtOn := true, wdtCfg := rd s 0xC0040, warned := false } }
      let s := stageReached 2 0 s
      if s.power.brown then raiseEvt 1 0x161 (leBytes 1 0) { s with power := { s.power with brown := false } } else s) s

/-- The configuration restored (R479, R415, R416): the registers of the active bank and the chain configuration. -/
def restoreConfig (s : State) : State :=
  let b := getBank s s.settings.active
  let s := match b.config with
    | none => s
    | some regs =>
      let s := forAll regs (fun p => wr p.1 p.2) s
      let s := { s with mac := { s.mac with slotUs := getF s 0x7800C 15 0, bi := getF s 0x78010 7 0 + 1, extra := b.extra } }
      let relay := rd s 0x78030
      relayCfgWrite relay (wr 0x78030 0 s)
  match coreGet s 257 with
  | some c => if c.isEmpty then s else mrChainCfgWrite (BitVec.ofNat 32 (leAt c 0 4)) s
  | none => s

/-- LOAD_FRONDS (R479, R480, R483): the Fronds start; the banks are tested and cleared, those of `badBanks` fail and leave service, and the
configuration is restored. The stored keys arrive as KEY_LOAD messages before RADIO_UP (log entry 122). -/
def loadFronds (m : BMsg) (badBanks : Word) (s : State) : State :=
  bootCtl 2 m (fun s =>
    if bootStage s ≠ 2 then s
    else
      let s := stageReached 3 0 s
      let s := forAll ((List.range 32).filter (fun b => bitOf badBanks b)) (fun b s => unitLogged (setB 0xE0010 b true s)) s
      stageReached 4 (rd s 0xE0010).toNat (restoreConfig s)) s

/-- The paths in service. -/
def pathsInService (s : State) : Nat := ((List.range 4).filter (fun p => pathState s p == 2)).length

/-- All four paths and path S are calibrated, their group delays measured with it, and the receive synthesisers lock; an enabled path of
`bad` fails its calibration and starts OUT with a HEALTH cause (R80, R87, R102, R479, R483, R493; log entry 162). -/
def radioCalibrate (bad : BitVec 4) (s : State) : State :=
  let s := forAll [0, 1, 2, 3, 4] (fun p s => if p < 4 ∧ bad.getLsbD p then s else setB 0xE0004 p true (calibrated p s)) s
  let s := forAll ([0, 1] : List (Fin 4)) (fun y s => synLock y (synLock y s)) s
  forAll ([0, 1, 2, 3].filter (fun p => bad.getLsbD p)) (pathOut 0) s

/-- RADIO_UP (R479, R480, R493): the radio is brought up, the transmit delays are measured, and the radio die is ready; the state requested
by a wake from OFF follows (R431), and the Mooring ports train (R259). -/
def radioUp (m : BMsg) (badPaths : BitVec 4) (s : State) : State :=
  bootCtl 3 m (fun s =>
    if bootStage s ≠ 4 then s
    else
      let s := joinChoose (setF 0xE0004 9 8 3 (radioCalibrate badPaths (radioStart s)))
      let s := onlyIf (getB s 0x34000 0 && sRole s == 0) sFree s
      pwrNext (portsStart (stageReached 5 (pathsInService s) s))) s

/-! ### The Tender's side (R480, R483) -/

/-- The image of a target streamed (R309): IMAGE_CHUNK messages of 4,096 bytes. -/
def streamImage (target : Nat) (load : Nat) (data : List Byte) (s : State) : State :=
  forAll (List.range (ceilDiv data.length 4096)) (fun i =>
    sendH 7 (leBytes 1 (target - 1) ++ leBytes 3 0 ++ leBytes 4 (load + 4096 * i) ++ (data.drop (4096 * i)).take 4096)) s

/-- BOOT_CTL. -/
def sendBoot (step : Nat) (s : State) : State := sendH 8 (leBytes 1 step ++ leBytes 3 0 ++ leBytes 4 0) s

/-- A boot attempt failed (R483): RADIO_RESET, and after three the Tender stops. -/
def attemptFails (s : State) : State :=
  let n := s.boot.attempts + 1
  let s := askRadioReset { s with boot := { s.boot with attempts := n, starting := false, stopped := decide (3 ≤ n) } }
  if 3 ≤ n then
    forAll s.tender.wakeWait (fun w => wakeEnds w.1 sRadioDown 0) { s with tender := { s.tender with wakeWait := [] } }
  else s

/-- A section sent, followed by its BOOT_CTL step; a chunk that fails is handled under R411. -/
def sendSection (target step : Nat) (s : State) : State :=
  match sectionData s s.boot.slot target with
  | none => chunkFails s.boot.slot s
  | some d => sendBoot step (streamImage target (sectionLoad s s.boot.slot target) d s)

/-- The stored slot keys, unwrapped under the DUK (R299). -/
def sendKeys (s : State) : State :=
  forAll (List.range 256) (fun k s =>
    match coreGet s k with
    | none => s
    | some r =>
      match kwUnwrap (natsOf duk) (natsOf (r.drop 4)) with
      | none => s
      | some key => if r.isEmpty then s else sendH 0xA (leBytes 4 0 ++ leBytes 4 k ++ r.take 4 ++ leBytes 4 0 ++ padTo 32 (bytesOf key)) s) s

/-- Radio ready (R480): source 12; wakes from OFF for RUN complete. -/
def radioIsReady (s : State) : State :=
  let s := irq 12 { s with
    tender := { s.tender with radioReady := true, wakeWait := s.tender.wakeWait.filter (fun w => w.2 != 0) }
    boot := { s.boot with starting := false, attempts := 0, readyAge := s.age } }
  s

/-- The Tender acts on a stage of the boot. A stage later than the next one is a radio die that runs an older image. -/
def stageSeen (n result : Nat) (s : State) : State :=
  let was := s.boot.stage
  let s := { s with boot := { s.boot with stage := n } }
  if s.boot.mode ≠ 1 ∨ s.boot.stopped then s
  else if was + 1 < n then askRadioReset s
  else if result ≠ sOk then attemptFails s
  else if n = 1 then sendSection 1 1 { s with boot := { s.boot with starting := true, startAge := s.age } }
  else if n = 2 then sendSection 2 2 s
  else if n = 3 then sendKeys s
  else if n = 4 then sendBoot 3 s
  else
    let ready := s.tender.wakeWait.filter (fun w => w.2 == 0)
    forAll ready (fun w => wakeEnds w.1 sOk 0) (radioIsReady s)

/-- The outcome of a WAKE (R435; log entry 107): OK and RADIO_DOWN end the oldest, ABORTED the one after it. -/
def wakeOutcome (result : Nat) (s : State) : State :=
  let ws := s.tender.wakes
  let i := if result = sAborted ∧ 1 < ws.length then 1 else 0
  match (ws.drop i).head? with
  | none => s
  | some (t, st, off) =>
    let s := { s with tender := { s.tender with wakes := ws.eraseIdx i } }
    if result = sOk ∧ off then { s with tender := { s.tender with wakeWait := s.tender.wakeWait ++ [(t, st)] } }
    else wakeEnds t result st s

/-- BOOT_STATUS (R309, R435, R479). -/
def bootStatus (m : BMsg) (s : State) : State :=
  barrierRow 9 .host m (fun s =>
    if bAt m 0 1 = 0 then wakeOutcome (bAt m 2 2) s else stageSeen (bAt m 0 1) (bAt m 2 2) s) s

/-- WAIT_IMAGE_TIMEOUT (R483): 1 s from the start of the relay firmware without WAIT_IMAGE; SYS_STATUS shows the barrier as it is, the Tender
keeps waiting and counts no attempt. -/
def waitImageTimeout (s : State) : State :=
  if !tenderRuns s ∨ s.boot.stage ≠ 0 then s else reachAge (s.boot.startAge + clocksOfNs 1000000000) s

/-- Five seconds in core clocks. -/
def fiveSeconds : Nat := 3276800000

/-- BOOT_ATTEMPT_TIMEOUT (R483): 5 s from START_KEEPER without RADIO_READY. -/
def bootAttemptTimeout (s : State) : State :=
  if !tenderRuns s ∨ !s.boot.starting then s else attemptFails (clocks (s.boot.startAge + fiveSeconds - s.age) s)

/-! ### No command waits (log entry 23) -/

/-- The delayed action after an answer falls due (R356, R409): SYS_RESET also ends a stopped boot (R483). -/
def performDue (s : State) : State :=
  let d := s.boot.due
  let s := { s with boot := { s.boot with due := 0 } }
  if d = 4 then slotSwitch s
  else
    let s := { s with boot := { s.boot with stopped := false, attempts := 0 } }
    if d = 1 then hpwResetEffect 0x1044 2 s else if d = 2 then hpwResetEffect 0x1044 1 s else hpwResetEffect 0x1044 3 s

/-- The nearest instant that the block itself has set: a boot action that is due, or the point of no return of a transition; none: one core
clock passes. -/
def nearest (s : State) : State :=
  match s.power.ponrDue with
  | some t => if s.boot.due ≠ 0 ∧ s.boot.dueAge ≤ t then performDue (clocks (s.boot.dueAge - s.age) s) else ponrCheck (clocks (t - s.age) s)
  | none => if s.boot.due ≠ 0 then performDue (clocks (s.boot.dueAge - s.age) s) else clocks 1 s

/-- What has fallen due by now. -/
def dueNow (s : State) : State :=
  if s.boot.due ≠ 0 ∧ s.boot.dueAge ≤ s.age then performDue s
  else match s.power.ponrDue with
    | some t => if t ≤ s.age then ponrCheck s else s
    | none => s

/-- What happens while no command waits: an entry to STANDBY that is ready, else a POLL that waits reads again, else the nearest instant. -/
def idle (s : State) : State :=
  if standbyReady s then enterStandby s else if s.keeper.run.isSome then pollAgain (dueNow (clocks 1 s)) else nearest s

def execRomBoot (straps : BitVec 4) (s : State) : Res := .next (romBoot straps s)
def execBarrierTraining (toHost toRadio : BitVec 4) (s : State) : Res := .next (barrierTrainingRow toHost toRadio s)
def execImageChunk (m : BMsg) (s : State) : Res := .next (imageChunk m s)
def execStartKeeper (m : BMsg) (s : State) : Res := .next (startKeeper m s)
def execLoadFronds (m : BMsg) (badBanks : Word) (s : State) : Res := .next (loadFronds m badBanks s)
def execRadioUp (m : BMsg) (badPaths : BitVec 4) (s : State) : Res := .next (radioUp m badPaths s)
def execBootStatus (m : BMsg) (s : State) : Res := .next (bootStatus m s)
def execWaitImageTimeout (s : State) : Res := .next (waitImageTimeout s)
def execBootAttemptTimeout (s : State) : Res := .next (bootAttemptTimeout s)

end Sys2Proof.Machine
end

