-- ==== Sys2Proof/Machine/Dispatch.lean ====
section
/-! DEFINITION. The dispatcher: one arm per command, each a direct call of its meaning. -/

namespace Sys2Proof.Machine

/-- The effect of a command on everything but the queue. -/
def exec (i : Instr) (s : State) : Host.Outcome State Fault Refusal :=
  match i with
  | .refClockFailure => Sys2Proof.Machine.execRefClockFailure s
  | .registerWrite die addr size value => Sys2Proof.Machine.execRegisterWrite die addr size value s
  | .shadowWrite addr value => Sys2Proof.Machine.execShadowWrite addr value s
  | .applyHoldWrite u hold => Sys2Proof.Machine.execApplyHoldWrite u hold s
  | .applyDiscard u => Sys2Proof.Machine.execApplyDiscard u s
  | .applyBoundary u => Sys2Proof.Machine.execApplyBoundary u s
  | .guardedValueWrite die addr value => Sys2Proof.Machine.execGuardedValueWrite die addr value s
  | .guardTimeout die => Sys2Proof.Machine.execGuardTimeout die s
  | .lowWordLatchRead die addr size => Sys2Proof.Machine.execLowWordLatchRead die addr size s
  | .ntbTimeRead => Sys2Proof.Machine.execNtbTimeRead s
  | .ntbSet => Sys2Proof.Machine.execNtbSet s
  | .ntbStep => Sys2Proof.Machine.execNtbStep s
  | .ntbSecond => Sys2Proof.Machine.execNtbSecond s
  | .ppsSecArm hi => Sys2Proof.Machine.execPpsSecArm hi s
  | .ppsEdge rising => Sys2Proof.Machine.execPpsEdge rising s
  | .ppsLossTimeout => Sys2Proof.Machine.execPpsLossTimeout s
  | .revertHoldExpiry => Sys2Proof.Machine.execRevertHoldExpiry s
  | .holdoverAlarm => Sys2Proof.Machine.execHoldoverAlarm s
  | .captureEdge cap rising => Sys2Proof.Machine.execCaptureEdge cap rising s
  | .captureRead cap => Sys2Proof.Machine.execCaptureRead cap s
  | .lampStart n => Sys2Proof.Machine.execLampStart n s
  | .lampEnd n => Sys2Proof.Machine.execLampEnd n s
  | .agcWindowEnd path peakCdb clips => Sys2Proof.Machine.execAgcWindowEnd path peakCdb clips s
  | .dcReconverged path residual => Sys2Proof.Machine.execDcReconverged path residual s
  | .satLong path => Sys2Proof.Machine.execSatLong path s
  | .sAlignDone => Sys2Proof.Machine.execSAlignDone s
  | .pathSubst => Sys2Proof.Machine.execPathSubst s
  | .pathReturn => Sys2Proof.Machine.execPathReturn s
  | .surveyDone bins => Sys2Proof.Machine.execSurveyDone bins s
  | .healthCheck path fails => Sys2Proof.Machine.execHealthCheck path fails s
  | .pathCalibrationDone path => Sys2Proof.Machine.execPathCalibrationDone path s
  | .bandRetune band => Sys2Proof.Machine.execBandRetune band s
  | .rxpBandWrite addr value => Sys2Proof.Machine.execRxpBandWrite addr value s
  | .rxpPathCfgWrite path value => Sys2Proof.Machine.execRxpPathCfgWrite path value s
  | .synLock n => Sys2Proof.Machine.execSynLock n s
  | .lockLost n => Sys2Proof.Machine.execLockLost n s
  | .synCalTimeout n => Sys2Proof.Machine.execSynCalTimeout n s
  | .staleEval => Sys2Proof.Machine.execStaleEval s
  | .synRefreshStart n => Sys2Proof.Machine.execSynRefreshStart n s
  | .rasterWrite n isStep value => Sys2Proof.Machine.execRasterWrite n isStep value s
  | .refreshStale n => Sys2Proof.Machine.execRefreshStale n s
  | .calEntry n => Sys2Proof.Machine.execCalEntry n s
  | .calAllValid n => Sys2Proof.Machine.execCalAllValid n s
  | .invalidateAll n => Sys2Proof.Machine.execInvalidateAll n s
  | .idleStandby tx => Sys2Proof.Machine.execIdleStandby tx s
  | .lockDue op => Sys2Proof.Machine.execLockDue op s
  | .driverEnable tx => Sys2Proof.Machine.execDriverEnable tx s
  | .rampDownEnd tx => Sys2Proof.Machine.execRampDownEnd tx s
  | .txpEnWrite tx value => Sys2Proof.Machine.execTxpEnWrite tx value s
  | .txLate op => Sys2Proof.Machine.execTxLate op s
  | .carrierStart op => Sys2Proof.Machine.execCarrierStart op s
  | .coexGntSample tx => Sys2Proof.Machine.execCoexGntSample tx s
  | .coexGntEdge level => Sys2Proof.Machine.execCoexGntEdge level s
  | .coexReqEdge level pri => Sys2Proof.Machine.execCoexReqEdge level pri s
  | .coexCfgWrite value => Sys2Proof.Machine.execCoexCfgWrite value s
  | .coexTimingWrite value => Sys2Proof.Machine.execCoexTimingWrite value s
  | .syncMatch ch found => Sys2Proof.Machine.execSyncMatch ch found s
  | .headerCheck ch slot header => Sys2Proof.Machine.execHeaderCheck ch slot header s
  | .payloadCrc ch slot soft => Sys2Proof.Machine.execPayloadCrc ch slot soft s
  | .powerStep ch slot power => Sys2Proof.Machine.execPowerStep ch slot power s
  | .powerStepClear ch slot power => Sys2Proof.Machine.execPowerStepClear ch slot power s
  | .subtractStart ch => Sys2Proof.Machine.execSubtractStart ch s
  | .redecodeEnd ch slot soft => Sys2Proof.Machine.execRedecodeEnd ch slot soft s
  | .statLatch ch => Sys2Proof.Machine.execStatLatch ch s
  | .statClear ch => Sys2Proof.Machine.execStatClear ch s
  | .lbtAssess op energy => Sys2Proof.Machine.execLbtAssess op energy s
  | .maskEval op bins => Sys2Proof.Machine.execMaskEval op bins s
  | .immediateAck => Sys2Proof.Machine.execImmediateAck s
  | .beaconSchedule => Sys2Proof.Machine.execBeaconSchedule s
  | .lighthouseSchedule => Sys2Proof.Machine.execLighthouseSchedule s
  | .nodeEventSchedule ctx => Sys2Proof.Machine.execNodeEventSchedule ctx s
  | .opqFull ctx => Sys2Proof.Machine.execOpqFull ctx s
  | .rxWindowClose op => Sys2Proof.Machine.execRxWindowClose op s
  | .supervisionTimeout ctx => Sys2Proof.Machine.execSupervisionTimeout ctx s
  | .upstreamBeaconMissed => Sys2Proof.Machine.execUpstreamBeaconMissed s
  | .opqArm op => Sys2Proof.Machine.execOpqArm op s
  | .opqCancel op => Sys2Proof.Machine.execOpqCancel op s
  | .opqStart op => Sys2Proof.Machine.execOpqStart op s
  | .measureEnd op mean => Sys2Proof.Machine.execMeasureEnd op mean s
  | .opqRelease op => Sys2Proof.Machine.execOpqRelease op s
  | .hostResWrite value => Sys2Proof.Machine.execHostResWrite value s
  | .slotCfgWrite value => Sys2Proof.Machine.execSlotCfgWrite value s
  | .relayCfgWrite value => Sys2Proof.Machine.execRelayCfgWrite value s
  | .opqNidWrite value => Sys2Proof.Machine.execOpqNidWrite value s
  | .recordIntake => Sys2Proof.Machine.execRecordIntake s
  | .micResult => Sys2Proof.Machine.execMicResult s
  | .loadWindow loads => Sys2Proof.Machine.execLoadWindow loads s
  | .contextMove ctx dest => Sys2Proof.Machine.execContextMove ctx dest s
  | .marginPeriod => Sys2Proof.Machine.execMarginPeriod s
  | .marginReport f => Sys2Proof.Machine.execMarginReport f s
  | .finalSend ctx => Sys2Proof.Machine.execFinalSend ctx s
  | .finalFrame f => Sys2Proof.Machine.execFinalFrame f s
  | .finalAck f => Sys2Proof.Machine.execFinalAck f s
  | .finalAckTimeout ctx => Sys2Proof.Machine.execFinalAckTimeout ctx s
  | .finalQuery f => Sys2Proof.Machine.execFinalQuery f s
  | .finalNak f => Sys2Proof.Machine.execFinalNak f s
  | .counterUpdate f => Sys2Proof.Machine.execCounterUpdate f s
  | .replicaPromote dev => Sys2Proof.Machine.execReplicaPromote dev s
  | .heardTable f => Sys2Proof.Machine.execHeardTable f s
  | .joinSeen f => Sys2Proof.Machine.execJoinSeen f s
  | .joinElection eui => Sys2Proof.Machine.execJoinElection eui s
  | .rescueWant f => Sys2Proof.Machine.execRescueWant f s
  | .rescueCopy f => Sys2Proof.Machine.execRescueCopy f s
  | .rescueWaitExpiry addr => Sys2Proof.Machine.execRescueWaitExpiry addr s
  | .rescueHoldExpiry addr k => Sys2Proof.Machine.execRescueHoldExpiry addr k s
  | .guestAgeExpiry ctx => Sys2Proof.Machine.execGuestAgeExpiry ctx s
  | .frdLookup value => Sys2Proof.Machine.execFrdLookup value s
  | .contextFrame f => Sys2Proof.Machine.execContextFrame f s
  | .downlinkFrame f => Sys2Proof.Machine.execDownlinkFrame f s
  | .linkPulseDetect port => Sys2Proof.Machine.execLinkPulseDetect port s
  | .trainPhaseEnd port info => Sys2Proof.Machine.execTrainPhaseEnd port info s
  | .trainFail port => Sys2Proof.Machine.execTrainFail port s
  | .trainRetryWait port => Sys2Proof.Machine.execTrainRetryWait port s
  | .codewordLockLost port => Sys2Proof.Machine.execCodewordLockLost port s
  | .fallback port => Sys2Proof.Machine.execFallback port s
  | .rateUpHoldExpiry port => Sys2Proof.Machine.execRateUpHoldExpiry port s
  | .mrPortDisable port value => Sys2Proof.Machine.execMrPortDisable port value s
  | .mrRetxTimeout port cls => Sys2Proof.Machine.execMrRetxTimeout port cls s
  | .tmarkSend port => Sys2Proof.Machine.execTmarkSend port s
  | .timeSync f arrival => Sys2Proof.Machine.execTimeSync f arrival s
  | .helloSend => Sys2Proof.Machine.execHelloSend s
  | .hello f => Sys2Proof.Machine.execHello f s
  | .helloMiss dev => Sys2Proof.Machine.execHelloMiss dev s
  | .linkEvent f => Sys2Proof.Machine.execLinkEvent f s
  | .unreachableDrop dev => Sys2Proof.Machine.execUnreachableDrop dev s
  | .eskelForward f => Sys2Proof.Machine.execEskelForward f s
  | .mrEskelAnswer f => Sys2Proof.Machine.execMrEskelAnswer f s
  | .mrChainCfgWrite value => Sys2Proof.Machine.execMrChainCfgWrite value s
  | .evcFire ch => Sys2Proof.Machine.execEvcFire ch s
  | .taskDelivery t => Sys2Proof.Machine.execTaskDelivery t s
  | .rhizomeNotify n => Sys2Proof.Machine.execRhizomeNotify n s
  | .evfSwtrig value => Sys2Proof.Machine.execEvfSwtrig value s
  | .evfSwgateWrite value => Sys2Proof.Machine.execEvfSwgateWrite value s
  | .evfCountClr value => Sys2Proof.Machine.execEvfCountClr value s
  | .timestampRead n => Sys2Proof.Machine.execTimestampRead n s
  | .loopWatch => Sys2Proof.Machine.execLoopWatch s
  | .cphSubmit submitter desc => Sys2Proof.Machine.execCphSubmit submitter desc s
  | .cphStart core => Sys2Proof.Machine.execCphStart core s
  | .cphCoreDone core fault => Sys2Proof.Machine.execCphCoreDone core fault s
  | .cphCompletion submitter => Sys2Proof.Machine.execCphCompletion submitter s
  | .cphHsubmit value => Sys2Proof.Machine.execCphHsubmit value s
  | .cphHresultRead => Sys2Proof.Machine.execCphHresultRead s
  | .cphCfgWrite value => Sys2Proof.Machine.execCphCfgWrite value s
  | .keySlotChange => Sys2Proof.Machine.execKeySlotChange s
  | .cphKeyInval value => Sys2Proof.Machine.execCphKeyInval value s
  | .barrierTraining toHost toRadio => Sys2Proof.Machine.execBarrierTraining toHost toRadio s
  | .barrierRetry => Sys2Proof.Machine.execBarrierRetry s
  | .barrierSilence => Sys2Proof.Machine.execBarrierSilence s
  | .barrierRetxTimeout die => Sys2Proof.Machine.execBarrierRetxTimeout die s
  | .ack dst m => Sys2Proof.Machine.execAck dst m s
  | .linkState dst m => Sys2Proof.Machine.execLinkState dst m s
  | .eskelReq m => Sys2Proof.Machine.execEskelReq m s
  | .eskelAnswer m => Sys2Proof.Machine.execEskelAnswer m s
  | .eskelEvent m => Sys2Proof.Machine.execEskelEvent m s
  | .uplink m => Sys2Proof.Machine.execUplink m s
  | .logEntry m => Sys2Proof.Machine.execLogEntry m s
  | .imageChunk m => Sys2Proof.Machine.execImageChunk m s
  | .startKeeper m => Sys2Proof.Machine.execStartKeeper m s
  | .loadFronds m badBanks => Sys2Proof.Machine.execLoadFronds m badBanks s
  | .radioUp m badPaths => Sys2Proof.Machine.execRadioUp m badPaths s
  | .wake m => Sys2Proof.Machine.execWake m s
  | .bootStatus m => Sys2Proof.Machine.execBootStatus m s
  | .keyLoadMessage m => Sys2Proof.Machine.execKeyLoadMessage m s
  | .netTime m => Sys2Proof.Machine.execNetTime m s
  | .radioReset m => Sys2Proof.Machine.execRadioReset m s
  | .doorbell value => Sys2Proof.Machine.execDoorbell value s
  | .reqWindowWrite offset size value => Sys2Proof.Machine.execReqWindowWrite offset size value s
  | .tenderCopy win => Sys2Proof.Machine.execTenderCopy win s
  | .responseWrite cls => Sys2Proof.Machine.execResponseWrite cls s
  | .ringHeadWrite ring value => Sys2Proof.Machine.execRingHeadWrite ring value s
  | .ringCfgWrite offset value => Sys2Proof.Machine.execRingCfgWrite offset value s
  | .spiRelease value => Sys2Proof.Machine.execSpiRelease value s
  | .spiWindowTimer second => Sys2Proof.Machine.execSpiWindowTimer second s
  | .nop q => Sys2Proof.Machine.execNop q s
  | .sysStatus q => Sys2Proof.Machine.execSysStatus q s
  | .sysReset q => Sys2Proof.Machine.execSysReset q s
  | .cancel q => Sys2Proof.Machine.execCancel q s
  | .settingsSave q => Sys2Proof.Machine.execSettingsSave q s
  | .settingsDefault q => Sys2Proof.Machine.execSettingsDefault q s
  | .idGet q => Sys2Proof.Machine.execIdGet q s
  | .certRead q => Sys2Proof.Machine.execCertRead q s
  | .planLoad q => Sys2Proof.Machine.execPlanLoad q s
  | .planGet q => Sys2Proof.Machine.execPlanGet q s
  | .chSet q => Sys2Proof.Machine.execChSet q s
  | .chStats q => Sys2Proof.Machine.execChStats q s
  | .chTrace q => Sys2Proof.Machine.execChTrace q s
  | .radioStatus q => Sys2Proof.Machine.execRadioStatus q s
  | .bandCfg q => Sys2Proof.Machine.execBandCfg q s
  | .pathEnable q => Sys2Proof.Machine.execPathEnable q s
  | .radioRetune q => Sys2Proof.Machine.execRadioRetune q s
  | .survey q => Sys2Proof.Machine.execSurvey q s
  | .surveyRead q => Sys2Proof.Machine.execSurveyRead q s
  | .nodeAdd q => Sys2Proof.Machine.execNodeAdd q s
  | .nodeRemove q => Sys2Proof.Machine.execNodeRemove q s
  | .nodeGet q => Sys2Proof.Machine.execNodeGet q s
  | .nodeList q => Sys2Proof.Machine.execNodeList q s
  | .nodeConn q => Sys2Proof.Machine.execNodeConn q s
  | .nodeSupervise q => Sys2Proof.Machine.execNodeSupervise q s
  | .dlSend q => Sys2Proof.Machine.execDlSend q s
  | .dlQueue q => Sys2Proof.Machine.execDlQueue q s
  | .bcastSend q => Sys2Proof.Machine.execBcastSend q s
  | .timeGet q => Sys2Proof.Machine.execTimeGet q s
  | .timeSet q => Sys2Proof.Machine.execTimeSet q s
  | .timeStep q => Sys2Proof.Machine.execTimeStep q s
  | .ppsArm q => Sys2Proof.Machine.execPpsArm q s
  | .timeSrcCfg q => Sys2Proof.Machine.execTimeSrcCfg q s
  | .slotCfg q => Sys2Proof.Machine.execSlotCfg q s
  | .beaconCfg q => Sys2Proof.Machine.execBeaconCfg q s
  | .relayCfg q => Sys2Proof.Machine.execRelayCfg q s
  | .rtcSync q => Sys2Proof.Machine.execRtcSync q s
  | .mrStatus q => Sys2Proof.Machine.execMrStatus q s
  | .mrChainSet q => Sys2Proof.Machine.execMrChainSet q s
  | .mrPortCfg q => Sys2Proof.Machine.execMrPortCfg q s
  | .mrPortEnable q => Sys2Proof.Machine.execMrPortEnable q s
  | .evcSet q => Sys2Proof.Machine.execEvcSet q s
  | .evcGet q => Sys2Proof.Machine.execEvcGet q s
  | .evfStatus q => Sys2Proof.Machine.execEvfStatus q s
  | .powerState q => Sys2Proof.Machine.execPowerState q s
  | .powerStatus q => Sys2Proof.Machine.execPowerStatus q s
  | .keyLoad q => Sys2Proof.Machine.execKeyLoad q s
  | .keyInval q => Sys2Proof.Machine.execKeyInval q s
  | .keyAttr q => Sys2Proof.Machine.execKeyAttr q s
  | .ockReplace q => Sys2Proof.Machine.execOckReplace q s
  | .updBegin q => Sys2Proof.Machine.execUpdBegin q s
  | .updWrite q => Sys2Proof.Machine.execUpdWrite q s
  | .updCommit q => Sys2Proof.Machine.execUpdCommit q s
  | .updStatus q => Sys2Proof.Machine.execUpdStatus q s
  | .updAbort q => Sys2Proof.Machine.execUpdAbort q s
  | .logRead q => Sys2Proof.Machine.execLogRead q s
  | .snapRead q => Sys2Proof.Machine.execSnapRead q s
  | .sensRead q => Sys2Proof.Machine.execSensRead q s
  | .sensLimits q => Sys2Proof.Machine.execSensLimits q s
  | .bistRun q => Sys2Proof.Machine.execBistRun q s
  | .pathTest q => Sys2Proof.Machine.execPathTest q s
  | .tone q => Sys2Proof.Machine.execTone q s
  | .loopback q => Sys2Proof.Machine.execLoopback q s
  | .unitService q => Sys2Proof.Machine.execUnitService q s
  | .regAccess q => Sys2Proof.Machine.execRegAccess q s
  | .regAccessCrit q => Sys2Proof.Machine.execRegAccessCrit q s
  | .rtcTick => Sys2Proof.Machine.execRtcTick s
  | .rtcShadowWrite isDate value => Sys2Proof.Machine.execRtcShadowWrite isDate value s
  | .rtcLoad divReset => Sys2Proof.Machine.execRtcLoad divReset s
  | .rtcDiscard => Sys2Proof.Machine.execRtcDiscard s
  | .rtcAlarmArm arm => Sys2Proof.Machine.execRtcAlarmArm arm s
  | .crystalStop => Sys2Proof.Machine.execCrystalStop s
  | .rtcPowerOn => Sys2Proof.Machine.execRtcPowerOn s
  | .switchToVbat => Sys2Proof.Machine.execSwitchToVbat s
  | .switchReturn => Sys2Proof.Machine.execSwitchReturn s
  | .switchLogClear => Sys2Proof.Machine.execSwitchLogClear s
  | .flashRead addr errs => Sys2Proof.Machine.execFlashRead addr errs s
  | .flashProgram addr data twin => Sys2Proof.Machine.execFlashProgram addr data twin s
  | .flashProgramDone => Sys2Proof.Machine.execFlashProgramDone s
  | .flashErase addr twin => Sys2Proof.Machine.execFlashErase addr twin s
  | .flashEraseDone => Sys2Proof.Machine.execFlashEraseDone s
  | .blankCheck addr twin => Sys2Proof.Machine.execBlankCheck addr twin s
  | .blankCheckDone weak => Sys2Proof.Machine.execBlankCheckDone weak s
  | .flashSuspend runUs => Sys2Proof.Machine.execFlashSuspend runUs s
  | .flashResume => Sys2Proof.Machine.execFlashResume s
  | .suspendTakeEffect => Sys2Proof.Machine.execSuspendTakeEffect s
  | .settingsCompact => Sys2Proof.Machine.execSettingsCompact s
  | .trialConfirm => Sys2Proof.Machine.execTrialConfirm s
  | .trialTimerExpiry => Sys2Proof.Machine.execTrialTimerExpiry s
  | .pmbusTimeout rail cause statusWord => Sys2Proof.Machine.execPmbusTimeout rail cause statusWord s
  | .pmbAlert rail statusWord => Sys2Proof.Machine.execPmbAlert rail statusWord s
  | .avsStep up belowMargin => Sys2Proof.Machine.execAvsStep up belowMargin s
  | .pwrStateRequest value => Sys2Proof.Machine.execPwrStateRequest value s
  | .transitionDone badBanks elapsedUs => Sys2Proof.Machine.execTransitionDone badBanks elapsedUs s
  | .uplinkDrainExpiry => Sys2Proof.Machine.execUplinkDrainExpiry s
  | .holdTimerWake => Sys2Proof.Machine.execHoldTimerWake s
  | .cap0Wake => Sys2Proof.Machine.execCap0Wake s
  | .wakeStageLate rail => Sys2Proof.Machine.execWakeStageLate rail s
  | .islandBrownout die => Sys2Proof.Machine.execIslandBrownout die s
  | .replicaRestoreTimeout ctx => Sys2Proof.Machine.execReplicaRestoreTimeout ctx s
  | .hpwStandby => Sys2Proof.Machine.execHpwStandby s
  | .hostWake src => Sys2Proof.Machine.execHostWake src s
  | .lockstepMismatch => Sys2Proof.Machine.execLockstepMismatch s
  | .eccError double => Sys2Proof.Machine.execEccError double s
  | .sensorSample sensor temp => Sys2Proof.Machine.execSensorSample sensor temp s
  | .railSample rail mv => Sys2Proof.Machine.execRailSample rail mv s
  | .wdtKick value tMs => Sys2Proof.Machine.execWdtKick value tMs s
  | .watchdogWarn => Sys2Proof.Machine.execWatchdogWarn s
  | .watchdogExpiry => Sys2Proof.Machine.execWatchdogExpiry s
  | .kprWdtCfg value => Sys2Proof.Machine.execKprWdtCfg value s
  | .tenderWdogWarn => Sys2Proof.Machine.execTenderWdogWarn s
  | .tenderWdtExpiry => Sys2Proof.Machine.execTenderWdtExpiry s
  | .fieldOn => Sys2Proof.Machine.execFieldOn s
  | .fieldLost => Sys2Proof.Machine.execFieldLost s
  | .reqa => Sys2Proof.Machine.execReqa s
  | .wupa => Sys2Proof.Machine.execWupa s
  | .anticollisionSelect uid => Sys2Proof.Machine.execAnticollisionSelect uid s
  | .hlta => Sys2Proof.Machine.execHlta s
  | .rats => Sys2Proof.Machine.execRats s
  | .sDeselect => Sys2Proof.Machine.execSDeselect s
  | .tagOtherFrame => Sys2Proof.Machine.execTagOtherFrame s
  | .getInfo inf => Sys2Proof.Machine.execGetInfo inf s
  | .authBegin inf => Sys2Proof.Machine.execAuthBegin inf s
  | .authFinish inf => Sys2Proof.Machine.execAuthFinish inf s
  | .readPage inf => Sys2Proof.Machine.execReadPage inf s
  | .writePage inf => Sys2Proof.Machine.execWritePage inf s
  | .setConfig inf => Sys2Proof.Machine.execSetConfig inf s
  | .pageWriteDone page field fails => Sys2Proof.Machine.execPageWriteDone page field fails s
  | .quietExpiry => Sys2Proof.Machine.execQuietExpiry s
  | .tagmWrite offset size value => Sys2Proof.Machine.execTagmWrite offset size value s
  | .tagCommit => Sys2Proof.Machine.execTagCommit s
  | .tagDiscard => Sys2Proof.Machine.execTagDiscard s
  | .quietClr => Sys2Proof.Machine.execQuietClr s
  | .tagKeyLoad => Sys2Proof.Machine.execTagKeyLoad s
  | .cfgStore => Sys2Proof.Machine.execCfgStore s
  | .commitHoldTimeout => Sys2Proof.Machine.execCommitHoldTimeout s
  | .powerOn die => Sys2Proof.Machine.execPowerOn die s
  | .pinReset die => Sys2Proof.Machine.execPinReset die s
  | .sysResetWrite value => Sys2Proof.Machine.execSysResetWrite value s
  | .hpwResetHostDie => Sys2Proof.Machine.execHpwResetHostDie s
  | .hpwResetRadioDie => Sys2Proof.Machine.execHpwResetRadioDie s
  | .romBoot straps => Sys2Proof.Machine.execRomBoot straps s
  | .waitImageTimeout => Sys2Proof.Machine.execWaitImageTimeout s
  | .bootAttemptTimeout => Sys2Proof.Machine.execBootAttemptTimeout s
  | .bistDone fail detail => Sys2Proof.Machine.execBistDone fail detail s
  | .toneEnd => Sys2Proof.Machine.execToneEnd s
  | .loopbackSwitch => Sys2Proof.Machine.execLoopbackSwitch s
  | .extest die => Sys2Proof.Machine.execExtest die s
  | .bypass die => Sys2Proof.Machine.execBypass die s
  | .idcode die => Sys2Proof.Machine.execIdcode die s
  | .samplePreload die => Sys2Proof.Machine.execSamplePreload die s
  | .tapReset die => Sys2Proof.Machine.execTapReset die s
  | .downlinkLifetimeExpiry tag => Sys2Proof.Machine.execDownlinkLifetimeExpiry tag s
  | .nodeAddWaitExpiry tag => Sys2Proof.Machine.execNodeAddWaitExpiry tag s
  | .hostPllLockLoss => Sys2Proof.Machine.execHostPllLockLoss s
  | .acknowledgementOnlyFrame f => Sys2Proof.Machine.execAcknowledgementOnlyFrame f s
  | .powerLoss => Sys2Proof.Machine.execPowerLoss s
  | .ownBurstImminent tx => Sys2Proof.Machine.execOwnBurstImminent tx s
  | .timeExchangeMissing port => Sys2Proof.Machine.execTimeExchangeMissing port s
  | .crystalRestart => Sys2Proof.Machine.execCrystalRestart s
  | .rtcTimeRead subsec => Sys2Proof.Machine.execRtcTimeRead subsec s

end Sys2Proof.Machine
end

