-- ==== Sys2Proof/WellFormed.lean ====
section
/-! DEFINITION. Which commands a sender can form: the operands are within what a window, a message or a frame of the spec can carry.
Every check is decidable; the meanings hold for ill-formed commands too. -/

namespace Sys2Proof

/-- An access of a size is naturally aligned (R22). -/
def AccSize.aligned (size : AccSize) (a : Word) : Bool :=
  match size with
  | .b1 => true
  | .b2 => a.toNat % 2 == 0
  | .b4 => a.toNat % 4 == 0

/-- A register access of 32 bits is aligned. -/
def wordAligned (a : Word) : Bool := a.toNat % 4 == 0

/-- An Eskel request fits its window (R317): 4,080 bytes behind the header. -/
def Req.ok (q : Req) : Bool := decide (q.payload.length ≤ 4080)

/-- A barrier message carries no more than its 16-bit LEN can say (R308). -/
def BMsg.ok (m : BMsg) : Bool := decide (m.payload.length < 65536)

/-- A Mooring frame carries as many bytes as its LEN says (R261). -/
def MFrame.ok (f : MFrame) : Bool := f.payload.length == f.len.toNat

/-- The INF of one or more chained tag blocks (R465): at most 256 bytes. -/
def infOk (b : List Byte) : Bool := decide (b.length ≤ 256)

/-- The soft symbols of a payload: at most those of 2,047 coded bytes with their CRC and tail (R137, R169). -/
def softOk (b : List Byte) : Bool := decide (b.length ≤ 2 * (8 * 2051 + 6))

/-- The requests. -/
def Instr.req? : Instr → Option Req
  | .nop q | .sysStatus q | .sysReset q | .cancel q | .settingsSave q | .settingsDefault q | .idGet q | .certRead q | .planLoad q
  | .planGet q | .chSet q | .chStats q | .chTrace q | .radioStatus q | .bandCfg q | .pathEnable q | .radioRetune q | .survey q
  | .surveyRead q | .nodeAdd q | .nodeRemove q | .nodeGet q | .nodeList q | .nodeConn q | .nodeSupervise q | .dlSend q | .dlQueue q
  | .bcastSend q | .timeGet q | .timeSet q | .timeStep q | .ppsArm q | .timeSrcCfg q | .slotCfg q | .beaconCfg q | .relayCfg q
  | .rtcSync q | .mrStatus q | .mrChainSet q | .mrPortCfg q | .mrPortEnable q | .evcSet q | .evcGet q | .evfStatus q | .powerState q
  | .powerStatus q | .keyLoad q | .keyInval q | .keyAttr q | .ockReplace q | .updBegin q | .updWrite q | .updCommit q | .updStatus q
  | .updAbort q | .logRead q | .snapRead q | .sensRead q | .sensLimits q | .bistRun q | .pathTest q | .tone q | .loopback q
  | .unitService q | .regAccess q | .regAccessCrit q => some q
  | _ => none

/-- The barrier messages. -/
def Instr.bmsg? : Instr → Option BMsg
  | .ack _ m | .linkState _ m | .eskelReq m | .eskelAnswer m | .eskelEvent m | .uplink m | .logEntry m | .imageChunk m | .startKeeper m
  | .loadFronds m _ | .radioUp m _ | .wake m | .bootStatus m | .keyLoadMessage m | .netTime m | .radioReset m => some m
  | _ => none

/-- The Mooring frames. -/
def Instr.frame? : Instr → Option MFrame
  | .marginReport f | .finalFrame f | .finalAck f | .finalQuery f | .finalNak f | .counterUpdate f | .heardTable f | .joinSeen f
  | .rescueWant f | .rescueCopy f | .contextFrame f | .downlinkFrame f | .timeSync f _ | .hello f | .linkEvent f | .eskelForward f
  | .mrEskelAnswer f | .acknowledgementOnlyFrame f => some f
  | _ => none

/-- The frames a field device sends to the tag. -/
def Instr.inf? : Instr → Option (List Byte)
  | .getInfo b | .authBegin b | .authFinish b | .readPage b | .writePage b | .setConfig b => some b
  | _ => none

/-- A well-formed command. -/
def Instr.wf (i : Instr) : Bool :=
  (i.req?.all Req.ok) && (i.bmsg?.all BMsg.ok) && (i.frame?.all MFrame.ok) && (i.inf?.all infOk) &&
  (match i with
  | .registerWrite _ a size _ => size.aligned a
  | .lowWordLatchRead _ a size => size.aligned a
  | .shadowWrite a _ | .guardedValueWrite _ a _ => wordAligned a
  | .reqWindowWrite o size _ | .tagmWrite o size _ => size.aligned o
  | .syncMatch _ found => !found.isEmpty
  | .payloadCrc _ _ b | .redecodeEnd _ _ b => softOk b
  | .flashProgram a _ _ | .flashRead a _ => a.toNat % 16 == 0
  | .blankCheckDone weak => weak.all (fun w => decide (w < 512))
  | .loadWindow loads => loads.length == 16
  | .cphSubmit _ d => d.length == 48
  | _ => true)

end Sys2Proof
end

