-- ==== Sys2Proof/Safety.lean ====
section
/-! DEFINITION. The terms in which claims about the block are stated: how a command completes, what it leaves as it was, and the canonical
form of the memories. -/

namespace Sys2Proof.Machine

/-- A command answers a next state, of which `P` holds. -/
def Completes (c : Instr) (s : State) (P : State → Prop) : Prop := ∃ t, exec c s = .next t ∧ P t

/-- `t` differs from `s` in no more than the radio-die registers listed. -/
def onlyRegs (ks : List Nat) (s t : State) : Prop := { t with reg := s.reg } = s ∧ ∀ o, o ∉ ks → rd t o = rd s o

/-- `t` differs from `s` in no more than the host-die registers listed. -/
def onlyHregs (ks : List Nat) (s t : State) : Prop := { t with hreg := s.hreg } = s ∧ ∀ o, o ∉ ks → hrd t o = hrd s o

/-- The radio-die registers listed are as they were. -/
def sameRegs (ks : List Nat) (s t : State) : Prop := ∀ o ∈ ks, rd t o = rd s o

/-- A memory in its canonical form: addresses rise strictly, and no entry equals what an unlisted byte reads as. -/
def Memory.wf (m : Tab Byte) : Bool := tabWf zeroByte m

/-- The memories of the block in canonical form: the packet buffer, the two banks of windows (R10, R41, R43) and the image that the radio
die loads as it boots (R478). -/
def State.memWf (s : State) : Bool := Memory.wf s.pkt && Memory.wf s.reqMem && Memory.wf s.rspMem && Memory.wf s.image

/-- The shadows in canonical form, each of them of a register that has one (R27). -/
def State.shadowWf (s : State) : Bool :=
  tabWf (fun _ => (none : Option Word)) s.shadow && s.shadow.all (fun p => (radioDesc p.1).rwb != 0)

/-- A value waits for its complement only in a guarded register (R33, R34). -/
def State.guardWf (s : State) : Bool :=
  (s.guard.map (fun p => (radioDesc p.1).rwg != 0)).getD true && (s.hguard.map (fun p => (hostDesc p.1).rwg != 0)).getD true

/-- The invariant: canonical memories, canonical shadows of buffered registers only, and values waiting in guarded registers only. -/
def State.wf (s : State) : Bool := s.memWf && s.shadowWf && s.guardWf

/-- A shadow that lists a register. -/
def shadowed (s : State) (off : Nat) : Bool := (tabGet (fun _ => none) s.shadow off).isSome

/-- The trouble log of `t` is that of `s` with one more entry (R450, R451). -/
def logged (source code : Nat) (args : List Byte) (s t : State) : Prop :=
  t.keeper.log = ringPush s.keeper.log (logBytes s.keeper.logNext s.ntb.net (stepByte s) source code args) ∧
    t.keeper.logNext = (s.keeper.logNext + 1) % 2 ^ 32

/-- A guard fault of the radio die is recorded, and no other register but those of the trouble log changes (R35, R36). -/
def guardRecorded (cause off : Nat) (s t : State) : Prop :=
  t.guard = none ∧ getB t 0x20 0 = true ∧ getF t 0x20 15 8 = min (getF s 0x20 15 8 + 1) 255 ∧
    (getB s 0x20 0 = false → getF t 0x20 3 1 = cause ∧ rd t 0x24 = BitVec.ofNat 32 off) ∧
    (getB s 0x20 0 = true → getF t 0x20 3 1 = getF s 0x20 3 1 ∧ rd t 0x24 = rd s 0x24) ∧
    logged 0 0x120 (leBytes 4 off ++ leBytes 1 cause) s t ∧
    ∀ o, o ≠ 0x20 → o ≠ 0x24 → o ≠ 0xC0020 → o ≠ 0xC0024 → rd t o = rd s o

/-- A guard fault of the host die is recorded and raises interrupt source 10; no other register but those of the interrupts changes
(R36, R322, R323). -/
def hostGuardRecorded (cause off : Nat) (s t : State) : Prop :=
  t.hguard = none ∧ hgetB t 0x1050 0 = true ∧ hgetF t 0x1050 15 8 = min (hgetF s 0x1050 15 8 + 1) 255 ∧
    (hgetB s 0x1050 0 = false → hgetF t 0x1050 3 1 = cause ∧ hrd t 0x1054 = BitVec.ofNat 32 off) ∧
    (hgetB s 0x1050 0 = true → hgetF t 0x1050 3 1 = hgetF s 0x1050 3 1 ∧ hrd t 0x1054 = hrd s 0x1054) ∧
    hgetB t 0x4D00 10 = true ∧
    ∀ o, o ≠ 0x1050 → o ≠ 0x1054 → o ≠ 0x4800 → o ≠ 0x4D00 → hrd t o = hrd s o

/-- A live counter of a channel: 0 DETECT, 1 OK, 2 CRC_FAIL, 3 FALSE_SYNC, 4 HDR_INVALID, 5 ABANDONED and on in the order of R141. -/
def liveCount (s : State) (ch k : Nat) : Word := tabGet (fun _ => 0) s.live (16 * ch + k)

/-- The receptions in progress of a channel: its slots that are not IDLE (R127). -/
def inProgress (s : State) (ch : Nat) : Nat :=
  (if slotState s ch 0 = 0 then 0 else 1) + (if slotState s ch 1 = 0 then 0 else 1)

/-- DETECT equals the sum of the five outcome counters plus the receptions in progress, modulo 2^32 (R141). -/
def detectBalanced (s : State) (ch : Nat) : Prop :=
  liveCount s ch 0 = liveCount s ch 1 + liveCount s ch 2 + liveCount s ch 3 + liveCount s ch 4 + liveCount s ch 5 +
    BitVec.ofNat 32 (inProgress s ch)

/-- The commands of receptions (R126). -/
def isReception : Instr → Bool
  | .syncMatch _ _ => true
  | .headerCheck _ _ _ => true
  | .payloadCrc _ _ _ => true
  | .powerStep _ _ _ => true
  | .powerStepClear _ _ _ => true
  | .subtractStart _ => true
  | .redecodeEnd _ _ _ => true
  | _ => false

/-- A frame of a CLASS and TYPE that its port takes off the line, whole and in sequence (R261-R263). -/
def arrives (cls typ : Nat) (f : MFrame) (s : State) : Bool :=
  mrTakes s f && !mrBad s f && mrClassOf f == cls && f.typ.toNat == typ && typ != 0 &&
    (!ackedClass cls || f.seq.toNat == (getCls s f.port.val cls).rxNext)

/-- One of these for this device alone. -/
def arrivesHere (cls typ : Nat) (f : MFrame) (s : State) : Bool := arrives cls typ f s && mrDst f == devOf s

/-- One of these for all devices, not yet seen here (R262). -/
def arrivesForAll (cls typ : Nat) (f : MFrame) (s : State) : Bool :=
  arrives cls typ f s && mrDst f == 0x1F && mrSrc f != devOf s && !s.chain.seen.contains (mrSrc f, leAt f.payload 0 2)

/-- A barrier message of a type that its die takes off the lanes, whole, in sequence and well formed (R308-R311). -/
def comesThrough (typ : Nat) (dst : Die) (m : BMsg) (s : State) : Bool :=
  upEnd s dst && bmsgCrcOk m && m.typ.toNat == typ && typ != 0 && m.seq.toNat == (getEnd s dst).rxNext && bCause s dst m == 0

/-- A request of a window answered by the Tender with a status: the window is FREE, the answer enters the ANSWER class, and no tag, no
request of the Tender and no message to the radio die is added (R317, R342). -/
def requestRefused (w status : Nat) (s t : State) : Prop :=
  winState t w = 0 ∧
    t.tender.hold0 = s.tender.hold0 ++ [leBytes 1 w ++ leBytes 3 0 ++ eskelHeader (postedIn s w).opcode 1 ((postedIn s w).f 3 1)
      (postedIn s w).tag 0 (postedIn s w).counter status] ∧
    t.tender.tags = s.tender.tags ∧ t.tender.reqs = s.tender.reqs ∧ t.linkH.q = s.linkH.q ∧ t.reqMem = s.reqMem

/-- A die's last reset, if any, lies before the present clock. -/
def resetEarlier (l : LinkEnd) (s : State) : Bool := l.resetAt.all (fun a => decide (a < s.age))

/-- The radio die was reset with a cause, its island kept: registers outside the island at their reset values, no contents left, the
cause recorded, and nothing of the host die changed (R45, R474, R475). -/
def radioWasReset (cause : Nat) (s t : State) : Prop :=
  radioPower t = 0 ∧ t.pkt = [] ∧ t.ctx = [] ∧ t.slots = [] ∧ t.cipher = {} ∧ t.keeper = {} ∧ t.guard = none ∧
    t.linkR.resets = s.linkR.resets + 1 ∧ t.linkR.q = [] ∧
    fieldOf (rd t 4) 19 16 = cause ∧ bitOf (rd t 4) (cause - 1) = true ∧ fieldOf (rd t 4) 31 24 = min 255 (fieldOf (rd s 4) 31 24 + 1) ∧
    getF t 8 3 0 = 0 ∧ getF t 8 15 8 = getF s 8 15 8 ∧ (∀ o, o ≠ 4 → o ≠ 8 → o / 0x10000 ≠ 1 → rd t o = radioReset o) ∧
    t.hreg = s.hreg ∧ t.tender = s.tender ∧ t.boot = s.boot ∧ t.flash = s.flash ∧ t.rtc = s.rtc ∧ t.tag = s.tag ∧ t.reqMem = s.reqMem ∧
    t.settings = s.settings

/-- The host die was reset with a cause, its island and the RTC domain kept; nothing of the radio die changed (R454, R474, R475). -/
def hostWasReset (cause : Nat) (s t : State) : Prop :=
  hostPower t = 0 ∧ t.tender.tags = [] ∧ t.tender.hold0 = [] ∧ t.tender.reqs = [] ∧ t.hguard = none ∧ t.boot.mode = 0 ∧
    t.linkH.resets = s.linkH.resets + 1 ∧
    fieldOf (hrd t 0x1008) 19 16 = cause ∧ bitOf (hrd t 0x1008) (cause - 1) = true ∧
    fieldOf (hrd t 0x1008) 31 24 = min 255 (fieldOf (hrd s 0x1008) 31 24 + 1) ∧
    (∀ o, o / 0x1000 = 5 ∨ o = 0x1004 → hrd t o = hrd s o) ∧ t.reqMem = s.reqMem ∧ t.tender.snapshot = s.tender.snapshot ∧
    t.tender.posted = s.tender.posted ∧ t.boot.slot = s.boot.slot ∧ t.reg = s.reg ∧ t.keeper = s.keeper ∧ t.settings = s.settings

/-- The Tender serves a request of an H command: it leaves the Tender's queue, its tag is free, and the answer with a status and payload
enters the ANSWER class (R319, R333, R353). -/
def tenderAnswered (opcode : Nat) (q : Req) (status : Nat) (payload : List Byte) (s t : State) : Prop :=
  t.tender.hold0 = s.tender.hold0 ++ [leBytes 1 (useOf s opcode q).win ++ leBytes 3 0 ++
      eskelHeader (useOf s opcode q).opcode 1 (useOf s opcode q).target (useOf s opcode q).tag payload.length (useOf s opcode q).counter status ++
      payload] ∧
    t.tender.tags = s.tender.tags.filter (fun x => x.tag != (useOf s opcode q).tag) ∧
    t.tender.reqs = (dropHostReq opcode q s).tender.reqs ∧ t.reg = s.reg ∧ t.linkH = { s.linkH with xoff := t.linkH.xoff }

/-- An H command names the attached device (R353). -/
def forTender (q : Req) (s : State) : Bool := q.target.toNat % 32 == 0x1E || q.target.toNat % 32 == hostDev s

/-- A request of this device's host for this device (R332): the Keeper runs it. -/
def forKeeper (opcode : Nat) (q : Req) (s : State) : Bool :=
  (callerOf s opcode q).origin == 16 && !ownShare s q.tag.toNat && (q.target.toNat % 32 == 0x1E || q.target.toNat % 32 == devOf s)

/-- A request of this device's host for a node whose home is here, in context `n` (R332). -/
def forNode (opcode : Nat) (q : Req) (n : Nat) (s : State) : Bool :=
  (callerOf s opcode q).origin == 16 && !ownShare s q.tag.toNat && decide (3 ≤ q.payload.length) && findNode s (fld q 0 3) == some n &&
    (getCtx s n).role == 1 && !(getCtx s n).transit

/-- The message with which the Keeper answers a request (R309, R330). -/
def answerOf (opcode : Nat) (q : Req) (status : Nat) (payload : List Byte) (s : State) : Nat × List Byte :=
  (3, leBytes 1 q.win.val ++ leBytes 3 0 ++
    eskelHeader opcode 1 (callerOf s opcode q).target q.tag.toNat payload.length q.counter.toNat status ++ payload)

/-- The Keeper answers a request at once, and nothing else is sent; the request has left its queue. -/
def keeperAnswered (opcode : Nat) (q : Req) (status : Nat) (payload : List Byte) (s t : State) : Prop :=
  t.linkR.q = s.linkR.q ++ [answerOf opcode q status payload s] ∧ t.keeper.reqs = (takeReq opcode q s).keeper.reqs ∧
    t.keeper.pend = s.keeper.pend

/-- The same, with nothing of the block changed but what the answer itself changes. -/
def keeperOnlyAnswered (opcode : Nat) (q : Req) (status : Nat) (payload : List Byte) (s t : State) : Prop :=
  keeperAnswered opcode q status payload s t ∧ { t with linkR := s.linkR, keeper := s.keeper } = s ∧
    t.keeper = (takeReq opcode q s).keeper

/-- The Keeper answers PENDING and holds the command with an object (R334, R336). -/
def keeperPends (opcode : Nat) (q : Req) (obj : Nat) (info : List Byte) (s t : State) : Prop :=
  t.linkR.q = s.linkR.q ++ [answerOf opcode q 8 [] s] ∧ t.keeper.reqs = (takeReq opcode q s).keeper.reqs ∧
    t.keeper.pend = s.keeper.pend ++ [pendOf (callerOf s opcode q) obj info]

/-- Nothing waits to follow from another event: no entry is in a device owner's use, no node's window is out, no window is closed and not
yet judged, and the device requests no air. The settling after a command then changes nothing. -/
def quiet (s : State) : Bool :=
  s.uses.isEmpty && s.nodes.runs.isEmpty && !requester s && s.ops.all (fun p => !p.2.closed)

end Sys2Proof.Machine
end

