-- ==== Sys2Proof/Certificates/Slice0/Obligations.lean ====
section
/-! DEFINITION. The statements for the provers. Each takes its clauses from the numbered rules that its docstring names; a clause that rests on
a choice of the model names the log entry. -/

open Sys2Proof Sys2Proof.Machine

/-- A step runs the front of the queue. The queue is the model's own (log entry 129). -/
def Obligations.FrontCommandRuns : Prop :=
  ∀ (c : Instr) (rest : List Instr) (s : State), step { s with pending := c :: rest } = exec c { s with pending := rest }

/-- Every command has an effect in every state; with none waiting the block idles, the model's choice (log entry 23). -/
def Obligations.EveryCommandAnswers : Prop :=
  (∀ (c : Instr) (s : State), (∀ d a z v, c ≠ .registerWrite d a z v) → (∀ d a z, c ≠ .lowWordLatchRead d a z) → ∃ t, exec c s = .next t) ∧
  (∀ s : State, s.pending = [] → step s = .next (idle s)) ∧
  (∀ s : State, standbyReady s = false → s.keeper.run = none → s.boot.due = 0 → s.power.ponrDue = none → idle s = clocks 1 s)

/-- R22-R25, R38-R41: what a write of a register with no special effect does, and which accesses are discarded. -/
def Obligations.RegisterWriteAccessCodes : Prop :=
  (∀ (addr v : Word) (s : State), inStoreWindow addr = false → inRadioBlocks addr = true →
    twinOf (canonRadio addr) = none → (radioDesc (canonRadio addr)).rwg = 0 → unitAt (canonRadio addr) = none →
    specialWrite (canonRadio addr) v s = none →
    Completes (.registerWrite .radio addr .b4 v) s fun t =>
      onlyRegs [canonRadio addr] s t ∧
      ∀ i, i < 32 → bitOf (rd t (canonRadio addr)) i =
        if ((radioDesc (canonRadio addr)).rw ||| (radioDesc (canonRadio addr)).wo).testBit i then bitOf v i
        else if (radioDesc (canonRadio addr)).w1c.testBit i then bitOf (rd s (canonRadio addr)) i && !(bitOf v i && bitOf (rdWas s (canonRadio addr)) i)
        else bitOf (rd s (canonRadio addr)) i) ∧
  (∀ (addr v : Word) (size : AccSize) (s : State), inRadioBlocks addr = true → size ≠ .b4 →
    exec (.registerWrite .radio addr size v) s = .next s) ∧
  (∀ (addr v : Word) (size : AccSize) (s : State), inStoreWindow addr = true → exec (.registerWrite .radio addr size v) s = .next s) ∧
  (∀ (addr v : Word) (size : AccSize) (s : State), inStoreWindow addr = false → inRadioBlocks addr = false →
    exec (.registerWrite .radio addr size v) s = .fault (.noSuchAddress addr)) ∧
  (∀ (addr v : Word) (size : AccSize) (off : Nat) (s : State), addr.toNat < 0x80000 → hostRuns s = true →
    hostTarget addr = .register off → size ≠ .b4 → exec (.registerWrite .host addr size v) s = .next s) ∧
  (∀ (v : Word) (s : State), hostRuns s = true →
    Completes (.registerWrite .host 0x1C .b4 v) s fun t => onlyHregs [0x1C] s t ∧ hrd t 0x1C = v) ∧
  (∀ (addr v : Word) (off : Nat) (s : State), addr.toNat < 0x80000 → hostRuns s = true → hostTarget addr = .register off → hostTwinOf off = none → (hostDesc off).rwg = 0 →
    off ∉ [0x3000, 0x3014, 0x5000, 0x5004, 0x500C, 0x5014, 0x5018, 0x501C, 0x5028, 0x6008] → off < 0x3040 ∨ 0x30C0 ≤ off → off < 0x4000 ∨ 0x4200 ≤ off →
    Completes (.registerWrite .host addr .b4 v) s fun t => onlyHregs [off] s t ∧ ∀ i, i < 32 → bitOf (hrd t off) i =
      if ((hostDesc off).rw ||| (hostDesc off).wo).testBit i then bitOf v i
      else if (hostDesc off).w1c.testBit i then bitOf (hrd s off) i && !(bitOf v i && bitOf (hrdWas s off) i) else bitOf (hrd s off) i) ∧
  (∀ (addr v : Word) (size : AccSize) (s : State), 0x400000 ≤ addr.toNat →
    exec (.registerWrite .host addr size v) s = .fault (.noSuchAddress addr))

/-- R30: the shadow write and the procedure at a boundary, over the shared operation that every unit of R27 runs. -/
def Obligations.BufferedApplyProcedure : Prop :=
  (∀ (addr v : Word) (u : ApplyUnit) (s : State), unitAt (canonRadio addr) = some u → (radioDesc (canonRadio addr)).rwb ≠ 0 →
    Completes (.shadowWrite addr v) s fun t =>
      getB t (unitRange u).1 8 = true ∧ (∀ o, o ≠ (unitRange u).1 → rd t o = rd s o) ∧
      tabGet (fun _ => none) t.shadow (canonRadio addr) =
        some ((rd s (canonRadio addr) &&& ~~~(BitVec.ofNat 32 (radioDesc (canonRadio addr)).rwb)) |||
          (v &&& BitVec.ofNat 32 (radioDesc (canonRadio addr)).rwb)) ∧
      (∀ o, o ≠ canonRadio addr → tabGet (fun _ => none) t.shadow o = tabGet (fun _ => none) s.shadow o) ∧
      { t with reg := s.reg, shadow := s.shadow } = s) ∧
  (∀ (a lo hi src blk : Nat) (check : State → Nat) (after : State → State) (s : State),
    s.shadowWf = true → (radioDesc a).rwb = 0 → applyPending s a = true → applyHeld s a = false → check s = 0 →
    ∃ t, applyRun a lo hi src blk check after s = after t ∧
      (∀ o, o ≠ a → rd t o = if lo ≤ o ∧ o < hi then rdShadow s o else rd s o) ∧
      getF t a 31 16 = (getF s a 31 16 + 1) % 65536 ∧ applyPending t a = false ∧ applyHeld t a = false ∧
      (∀ o, shadowed t o = (shadowed s o && !(decide (lo ≤ o) && decide (o < hi))))) ∧
  (∀ (a lo hi src blk : Nat) (check : State → Nat) (after : State → State) (s : State),
    applyPending s a = true → applyHeld s a = false → check s ≠ 0 → a ≠ 0xC0020 → a ≠ 0xC0024 →
    (∀ o, o ≠ a → o ≠ 0xC0020 → o ≠ 0xC0024 → rd (applyRun a lo hi src blk check after s) o = rd s o) ∧
      getF (applyRun a lo hi src blk check after s) a 15 12 = check s % 16 ∧
      getB (applyRun a lo hi src blk check after s) a 9 = true ∧
      applyPending (applyRun a lo hi src blk check after s) a = false ∧
      getF (applyRun a lo hi src blk check after s) a 31 16 = getF s a 31 16 ∧
      (∀ o, lo ≤ o → o < hi → shadowed (applyRun a lo hi src blk check after s) o = false)) ∧
  (∀ (a lo hi src blk : Nat) (check : State → Nat) (after : State → State) (s : State),
    (applyPending s a && !applyHeld s a) = false → applyRun a lo hi src blk check after s = s)

/-- R27, R29, R31: the apply register of each unit, and its boundary. -/
def Obligations.ApplyRegisterAndBoundaries : Prop :=
  (∀ (u : ApplyUnit) (h : Bool) (s : State), Completes (.applyHoldWrite u h) s fun t =>
    onlyRegs [(unitRange u).1] s t ∧ rd t (unitRange u).1 = withBit (rd s (unitRange u).1) 0 h) ∧
  (∀ (u : ApplyUnit) (s : State), Completes (.applyDiscard u) s fun t =>
    { t with reg := s.reg, shadow := s.shadow } = s ∧ (∀ o, o ≠ (unitRange u).1 → rd t o = rd s o) ∧
    rd t (unitRange u).1 = withBit (rd s (unitRange u).1) 8 false ∧
    ∀ o, shadowed t o = (shadowed s o && !(decide ((unitRange u).2.1 ≤ o) && decide (o < (unitRange u).2.2)))) ∧
  (∀ (n : Fin 64) (s : State), s.keeper.pend = [] →
    exec (.applyBoundary (.chan n)) s = .next
      (if slotState s n.val 0 = 0 ∧ slotState s n.val 1 = 0 then
        applyRun (chBase n.val) (chBase n.val) (chBase n.val + 0x400) 190 5 (chanCheck n.val) (chanApplied n.val) s
      else s)) ∧
  (∀ (n : Fin 2) (s : State), s.keeper.pend = [] →
    exec (.applyBoundary (.tx n)) s = .next
      (if inBurst s n.val = false then
        applyRun (txBase n.val) (txBase n.val) (txBase n.val + 0x4000) (186 + n.val) 6 (txCheck n.val)
          (fun s => setTx n.val { getTx s n.val with rampLen := [], passes := [], probes := [] } s) s
      else s)) ∧
  (∀ (n : Fin 8) (s : State), s.keeper.pend = [] → lampPeriodic s n.val = false → (getLamp s n.val).pulseEnd = none →
    exec (.applyBoundary (.lamp n)) s = .next
      (applyRun (lampBase n.val) (lampBase n.val) (lampBase n.val + 0x40) (178 + n.val) 2 (lampCheck n.val) (lampArm n.val (nowNs s)) s)) ∧
  (∀ (n : Fin 128) (s : State), s.keeper.pend = [] → opState s n.val = 2 ∨ opState s n.val = 3 →
    exec (.applyBoundary (.op n)) s = .next (settle s)) ∧
  (∀ (u : ApplyUnit) (s : State), s.keeper.pend = [] → s.shadowWf = true →
    let a := (unitRange u).1
    let ran := fun (t : State) => applyPending t a = false ∧ getF t a 31 16 = (getF s a 31 16 + 1) % 65536 ∧
      ∀ o, (radioDesc o).rwb ≠ 0 → (unitRange u).2.1 ≤ o → o < (unitRange u).2.2 → rd t o &&& BitVec.ofNat 32 (radioDesc o).rwb = rdShadow s o &&& BitVec.ofNat 32 (radioDesc o).rwb ∧ shadowed t o = false
    applyPending s a = true → applyHeld s a = false →
    (∀ n, u = .chan n → slotState s n.val 0 = 0 → slotState s n.val 1 = 0 → chanCheck n.val s = 0 → Completes (.applyBoundary u) s ran) ∧
    (∀ n, u = .tx n → inBurst s n.val = false → txCheck n.val s = 0 → Completes (.applyBoundary u) s ran) ∧
    (∀ n, u = .lamp n → lampPeriodic s n.val = false → (getLamp s n.val).pulseEnd = none → lampCheck n.val s = 0 → Completes (.applyBoundary u) s ran) ∧
    (∀ n, u = .port n → portCheck n.val s = 0 → Completes (.applyBoundary u) s ran) ∧
    (∀ n, u = .op n → opState s n.val = 0 ∨ opState s n.val = 1 → requester s = false → s.ops = [] → opCheck n.val s = 0 → Completes (.applyBoundary u) s ran)) ∧
  (∀ s : State, s.shadowWf = true → s.keeper.pend = [] → applyPending s 0x20060 = true → applyHeld s 0x20060 = false → servoOn s = false →
    -rateMax ≤ (rdShadow s 0x20064).toInt → (rdShadow s 0x20064).toInt ≤ rateMax → s.ntb.slew = 0 → coreRuns s = true →
    Completes (.applyBoundary .rate) s fun t => rd t 0x20064 = rdShadow s 0x20064 ∧ t.ntb.freq = (rdShadow s 0x20064).toInt ∧ nextSecond s ≤ t.ntb.net ∧ applyPending t 0x20060 = false) ∧
  (∀ s : State, s.shadowWf = true → s.keeper.pend = [] → applyPending s 0x20040 = true → applyHeld s 0x20040 = false → coreRuns s = true → s.ntb.slew = 0 →
    fieldOf (rdShadow s 0x20044) 1 0 = 1 → fieldOf (rdShadow s 0x20050) 29 0 < 1000000000 → ntbState s ≠ 1 → getB s 0x20020 14 = true →
    Completes (.applyBoundary .step) s fun t => applyPending t 0x20040 = false ∧ t.ntb.stepReady = 1 ∧ rd t 0x20044 = 0 ∧ rd t 0x20048 = rdShadow s 0x20048 ∧
      rd t 0x2004C = rdShadow s 0x2004C ∧ getF t 0x20050 29 0 = fieldOf (rdShadow s 0x20050) 29 0) ∧
  (∀ (u : ApplyUnit) (s : State), s.keeper.pend = [] → (∀ n, u ≠ .op n) → (applyPending s (unitRange u).1 && !applyHeld s (unitRange u).1) = false →
    exec (.applyBoundary u) s = .next s)

/-- R33-R36: guarded pairs on both dies and the recording of a guard fault. -/
def Obligations.GuardedPairs : Prop :=
  (∀ (addr v : Word) (s : State), (radioDesc (canonRadio addr)).rwg ≠ 0 →
    (s.guard = none → exec (.guardedValueWrite .radio addr v) s = .next { s with guard := some (canonRadio addr, v), guardAge := s.age }) ∧
    (∀ p, s.guard = some p → guardInTimeR s = true → Completes (.guardedValueWrite .radio addr v) s (guardRecorded 4 (canonRadio addr) s)) ∧
    (∀ p, s.guard = some p → guardInTimeR s = false → Completes (.guardedValueWrite .radio addr v) s fun t =>
      t.guard = some (canonRadio addr, v) ∧ t.guardAge = s.age ∧ guardRecorded 2 p.1 s { t with guard := none })) ∧
  (∀ (addr v : Word) (s : State), (radioDesc (canonRadio addr)).rwg = 0 → exec (.guardedValueWrite .radio addr v) s = .next s) ∧
  (∀ (addr v : Word) (off : Nat) (s : State), hostTarget addr = .register off → (hostDesc off).rwg ≠ 0 → off < 0x8000 →
    (s.hguard = none → exec (.guardedValueWrite .host addr v) s = .next { s with hguard := some (off, v), hguardAge := s.age }) ∧
    (∀ p, s.hguard = some p → guardInTimeH s = true → Completes (.guardedValueWrite .host addr v) s (hostGuardRecorded 4 off s)) ∧
    (∀ p, s.hguard = some p → guardInTimeH s = false → Completes (.guardedValueWrite .host addr v) s fun t =>
      t.hguard = some (off, v) ∧ t.hguardAge = s.age ∧ hostGuardRecorded 2 (p.1 % 0x8000) s { t with hguard := none })) ∧
  (∀ (s : State), (s.guard = none → exec (.guardTimeout .radio) s = .next s) ∧
    (∀ off v, s.guard = some (off, v) →
      Completes (.guardTimeout .radio) s (guardRecorded 2 off (reachAge (s.guardAge + 513) s)))) ∧
  (∀ (s : State), (s.hguard = none → exec (.guardTimeout .host) s = .next s) ∧
    (∀ off v, s.hguard = some (off, v) →
      Completes (.guardTimeout .host) s (hostGuardRecorded 2 (off % 0x8000) (reachAge (s.hguardAge + 839) s)))) ∧
  (∀ (c : Instr) (own : Nat) (w : Word) (s : State),
    (c = .sysResetWrite w ∧ own = 0x40) ∨ (c = .pwrStateRequest w ∧ own = 0x10040) ∨ (c = .cphKeyInval w ∧ own = 0x90040) ∨
      (∃ p : Fin 2, c = .mrPortDisable p w ∧ own = 0xA0040 + 0x8000 * p.val) ∨ (c = .kprWdtCfg w ∧ own = 0xC0040) →
    (s.guard = none → Completes c s (guardRecorded 3 own s)) ∧
    (∀ off v, s.guard = some (off, v) → guardInTimeR s = true → ¬ (off = own ∧ w = ~~~v) → Completes c s (guardRecorded 1 off s)))

/-- R22-R26, R33, R38, R39: what a read returns. -/
def Obligations.RegisterReads : Prop :=
  (∀ (addr : Word) (s : State), inStoreWindow addr = false → inRadioBlocks addr = true → canonRadio addr < 0x10000 → twinOf (canonRadio addr) = none →
    canonRadio addr ≠ 0xC → tabGet (fun _ => none) s.latch (canonRadio addr) = none →
    exec (.lowWordLatchRead .radio addr .b4) s =
      .next { s with lastRead := rd s (canonRadio addr) &&& BitVec.ofNat 32 (radioDesc (canonRadio addr)).readable }) ∧
  (∀ (addr : Word) (r : Nat) (s : State), inStoreWindow addr = false → inRadioBlocks addr = true → twinOf (canonRadio addr) = some r →
    exec (.lowWordLatchRead .radio addr .b4) s = .next { s with lastRead := ~~~(rd s r &&& BitVec.ofNat 32 (radioDesc r).readable) }) ∧
  (∀ (s : State), tabGet (fun _ => none) s.latch 0x20048 = none →
    Completes (.lowWordLatchRead .radio 0x40020048 .b4) s fun t =>
      t.lastRead = rd s 0x20048 ∧ tabGet (fun _ => none) t.latch 0x2004C = some (rd s 0x2004C) ∧
      { t with latch := s.latch, lastRead := s.lastRead } = s) ∧
  (∀ (w : Word) (s : State), tabGet (fun _ => none) s.latch 0x2004C = some w →
    Completes (.lowWordLatchRead .radio 0x4002004C .b4) s fun t =>
      t.lastRead = w ∧ tabGet (fun _ => none) t.latch 0x2004C = none ∧ { t with latch := s.latch, lastRead := s.lastRead } = s) ∧
  (∀ (addr : Word) (s : State), inStoreWindow addr = false → inRadioBlocks addr = false →
    exec (.lowWordLatchRead .radio addr .b4) s = .fault (.noSuchAddress addr)) ∧
  (∀ (addr : Word) (s : State), 0x400000 ≤ addr.toNat → exec (.lowWordLatchRead .host addr .b4) s = .fault (.noSuchAddress addr)) ∧
  (∀ (s : State), hostRuns s = true → tabGet (fun _ => none) s.hlatch 0x1C = none →
    exec (.lowWordLatchRead .host 0x1C .b4) s = .next { s with lastRead := hrd s 0x1C })

/-- R40: the context-store window. -/
def Obligations.ContextWindowReadOnly : Prop :=
  (∀ (n k : Nat) (s : State), n < 0x10000 → k < 32 →
    exec (.lowWordLatchRead .radio (BitVec.ofNat 32 (0x50000000 + 0x80 * n + 4 * k)) .b4) s =
      .next { s with lastRead := BitVec.ofNat 32 (leAt (ctxBytes (getCtx s n)) (4 * k) 4) }) ∧
  (∀ (c : Ctx) (k : Nat), 0x44 ≤ k → k < 0x54 → leAt (ctxBytes c) k 1 = 0) ∧
  (∀ (x : Item) (crit : Bool) (s : State), inStoreWindow x.addr = true → x.addr.toNat % 4 = 0 → x.op = 2 ∨ x.op = 3 →
    itemPolicy crit x s = sReadOnly) ∧
  (∀ (addr v : Word) (size : AccSize) (s : State), inStoreWindow addr = true → exec (.registerWrite .radio addr size v) s = .next s)

/-- R47-R49, R56, R309: reading the time, stepping it, and the second boundary. -/
def Obligations.NetworkTimeReadsAndSteps : Prop :=
  (∀ s : State, Completes .ntbTimeRead s fun t =>
    [0, 4, 8, 0xC, 0x10, 0x14, 0x18, 0x1C].map (fun o => rd t (0x20000 + o)) =
      [BitVec.ofNat 32 (secOf s.ntb.net), BitVec.ofNat 32 (secOf s.ntb.net / 2 ^ 32), BitVec.ofNat 32 (nanoOf s.ntb.net),
       BitVec.ofNat 32 (fracOf s.ntb.net), BitVec.ofNat 32 (secOf s.ntb.anch), BitVec.ofNat 32 (secOf s.ntb.anch / 2 ^ 32),
       BitVec.ofNat 32 (nanoOf s.ntb.anch), BitVec.ofNat 32 (fracOf s.ntb.anch)] ∧
    t.lastRead = BitVec.ofNat 32 (secOf s.ntb.net) ∧ { t with reg := s.reg, lastRead := s.lastRead } = s ∧
    ∀ o, o < 0x20000 ∨ 0x20020 ≤ o → rd t o = rd s o) ∧
  (∀ s : State, coreRuns s = true → quiet s = true → s.ntb.stepReady = 1 →
    let target := setTime s
    nsTotal target ≤ nsTotal (clocks 1 s).ntb.net ∨ ((∀ n, n < 8 → (getLamp s n).armed = false) ∧ ∀ n, n < 128 → opLive s n = false) →
    Completes .ntbSet s fun t =>
      t.ntb.net = target + (if nsTotal (clocks 1 s).ntb.net < nsTotal target then netInc t else 0) ∧
      rd t 0x20028 = rd s 0x20028 + 1 ∧ getB t 0x20024 8 = true ∧ getF t 0x20024 1 0 = 2 ∧ getF t 0x20024 3 2 = 3 ∧
      t.ntb.e0 = min (rd s 0x2005C).toNat 0xFFFFFFFE ∧ t.ntb.stepReady = 0 ∧
      t.ntb.anch = (clocks 1 s).ntb.anch + (if nsTotal (clocks 1 s).ntb.net < nsTotal target then anchInc t else 0)) ∧
  (∀ s : State, coreRuns s = true → quiet s = true → s.ntb.stepReady = 2 →
    let target := (((clocks 1 s).ntb.net : Int) + stepDelta (rd s 0x20054) (rd s 0x20058) * nsUnit).toNat
    nsTotal target ≤ nsTotal (clocks 1 s).ntb.net ∨ ((∀ n, n < 8 → (getLamp s n).armed = false) ∧ ∀ n, n < 128 → opLive s n = false) →
    Completes .ntbStep s fun t =>
      t.ntb.net = target + (if nsTotal (clocks 1 s).ntb.net < nsTotal target then netInc t else 0) ∧
      rd t 0x20028 = rd s 0x20028 + 1 ∧ getB t 0x20024 8 = true ∧ getF t 0x20024 1 0 = 2 ∧ getF t 0x20024 3 2 = 3 ∧
      t.ntb.e0 = min (rd s 0x2005C).toNat 0xFFFFFFFE ∧ t.ntb.stepReady = 0 ∧
      t.ntb.anch = (clocks 1 s).ntb.anch + (if nsTotal (clocks 1 s).ntb.net < nsTotal target then anchInc t else 0)) ∧
  (∀ s : State, quiet s = true → (s.ntb.stepReady ≠ 1 → exec .ntbSet s = .next s) ∧ (s.ntb.stepReady ≠ 2 → exec .ntbStep s = .next s)) ∧
  (∀ s : State, coreRuns s = true → Completes .ntbSecond s fun t =>
    nextSecond s ≤ t.ntb.net ∧
    (0xB, leBytes 8 (secOf t.ntb.net) ++ leBytes 4 (nanoOf t.ntb.net) ++ leBytes 1 (stepByte s) ++
      leBytes 1 (getF s 0x20024 1 0 + 4 * getF s 0x20024 3 2) ++ leBytes 2 0) ∈ t.linkR.q)

/-- R51, R55-R57: PPS, source selection, loss and the alarm. -/
def Obligations.SourcesAndHoldover : Prop :=
  (∀ (hi : Word) (s : State), Completes (.ppsSecArm hi) s fun t =>
    rd t 0x2003C = hi ∧ getB t 0x20024 5 = true ∧ t.ntb.armed = some ((rd s 0x20038).toNat + 2 ^ 32 * hi.toNat) ∧
    (∀ o, o ≠ 0x2003C → o ≠ 0x20024 → rd t o = rd s o) ∧ { t with reg := s.reg, ntb := s.ntb } = s) ∧
  (∀ (up : Bool) (s : State), (s.ntb.armed = none ∧ s.ntb.ppsSec = none) ∨ getB s 0x20180 1 = up → exec (.ppsEdge up) s = .next s) ∧
  (∀ (s : State) (sec : Nat), s.ntb.armed = some sec → s.ntb.ppsLast = none → Completes (.ppsEdge (!getB s 0x20180 1)) s fun t =>
    t.ntb.ppsSec = some sec ∧ t.ntb.armed = none ∧ t.ntb.ppsLast = some ((s.ntb.net : Int), s.ntb.clk) ∧ t.ntb.ppsGood = 0 ∧
    t.reg = s.reg ∧ t.ntb.net = s.ntb.net) ∧
  (∀ (s : State) (sec c0 : Nat) (t0 : Int), s.ntb.armed = none → s.ntb.ppsSec = some sec → s.ntb.ppsLast = some (t0, c0) → s.ntb.ppsQual = false →
    s.ntb.ppsGood < 2 → ((s.ntb.net : Int) - t0 - secUnit).natAbs ≤ 2000 * nsUnit → Completes (.ppsEdge (!getB s 0x20180 1)) s fun t =>
      t.ntb.ppsSec = some (sec + 1) ∧ t.ntb.ppsGood = s.ntb.ppsGood + 1 ∧ t.ntb.ppsOut = 0 ∧ t.reg = s.reg) ∧
  (∀ (s : State) (sec c0 : Nat) (t0 : Int), s.ntb.armed = none → s.ntb.ppsSec = some sec → s.ntb.ppsLast = some (t0, c0) → s.ntb.ppsOut < 2 →
    2000 * nsUnit < ((s.ntb.net : Int) - t0 - secUnit).natAbs → Completes (.ppsEdge (!getB s 0x20180 1)) s fun t =>
      onlyRegs [0x20024] s { t with ntb := s.ntb } ∧ rd t 0x20024 = withBit (rd s 0x20024) 11 true ∧
      t.ntb.ppsSec = some sec ∧ t.ntb.ppsLast = some (t0, c0) ∧ t.ntb.ppsOut = s.ntb.ppsOut + 1) ∧
  (∀ (s : State) (c0 : Nat) (t0 : Int), s.ntb.ppsLast = some (t0, c0) → getF s 0x20024 1 0 = 1 → getF s 0x20024 3 2 = 2 → sourceOk s 1 = false →
    Completes .ppsLossTimeout s fun t =>
      getB t 0x20024 5 = false ∧ t.ntb.ppsQual = false ∧ t.ntb.ppsSec = none ∧ t.ntb.ppsLast = none ∧
      getF t 0x20024 1 0 = 2 ∧ getF t 0x20024 3 2 = 2 ∧ getB t 0x20024 9 = true ∧ getB t 0x20024 4 = false) ∧
  (∀ s : State, s.ntb.ppsLast = none → exec .ppsLossTimeout s = .next s) ∧
  (∀ (s : State), s.ntb.candidate = 1 → sourceOk s 1 = true → getF s 0x20024 1 0 = 1 → getF s 0x20024 3 2 = 2 →
    s.ntb.mrOffset.natAbs ≤ (rd s 0x20034).toNat * nsUnit → servoOn s = true → Completes .revertHoldExpiry s fun t =>
      getF t 0x20024 1 0 = 1 ∧ getF t 0x20024 3 2 = 1 ∧ getB t 0x20024 9 = true ∧ t.ntb.candidate = 0 ∧ t.ntb.e0 = s.ntb.mrAcc ∧
      rd t 0x20028 = rd s 0x20028 ∧ (coreRuns s = true → s.ntb.candClk + getF s 0x20020 11 8 * 2 * 655360000 ≤ t.ntb.clk) ∧ (s.ntb.mrOffset ≠ 0 → getB t 0x20024 4 = true ∧ t.ntb.slewLeft = -s.ntb.mrOffset)) ∧
  (∀ s : State, s.ntb.candidate = 0 → exec .revertHoldExpiry s = .next s) ∧
  (∀ s : State, getF s 0x20024 1 0 = 2 → s.ntb.alarmed = false → rd s 0x20030 ≠ 0 → Completes .holdoverAlarm s fun t =>
    getB t 0x20024 10 = true ∧ t.ntb.alarmed = true) ∧
  (∀ s : State, getF s 0x20024 1 0 ≠ 2 ∨ s.ntb.alarmed = true ∨ rd s 0x20030 = 0 → exec .holdoverAlarm s = .next s)

/-- R59-R65: captures and Lamp pulses. -/
def Obligations.CapturesAndLamps : Prop :=
  (∀ (n : Fin 5) (rising : Bool) (s : State),
    (getB s (capBase n.val) 0 = true ∧ getB s (capBase n.val) 1 = !rising → Completes (.captureEdge n rising) s fun t =>
      tabGet (fun _ => (0, 0)) t.caps n.val = (s.ntb.net - Config.syncDelay, stepByte s) ∧
      rd t (capBase n.val + 4) = BitVec.ofNat 32 (secOf (s.ntb.net - Config.syncDelay)) ∧
      getB t (capBase n.val + 0x14) 0 = true ∧
      getB t (capBase n.val + 0x14) 1 = (getB s (capBase n.val + 0x14) 1 || getB s (capBase n.val + 0x14) 0) ∧
      getF t (capBase n.val + 0x14) 31 16 = (getF s (capBase n.val + 0x14) 31 16 + 1) % 65536 ∧
      (∀ o, o ≠ capBase n.val + 4 → o ≠ capBase n.val + 0x14 → rd t o = rd s o) ∧
      { t with reg := s.reg, caps := s.caps, evf := s.evf } = s) ∧
    (¬ (getB s (capBase n.val) 0 = true ∧ getB s (capBase n.val) 1 = !rising) → exec (.captureEdge n rising) s = .next s)) ∧
  (∀ (n : Fin 5) (s : State), Completes (.captureRead n) s fun t =>
    t.lastRead = rd s (capBase n.val + 4) ∧ getB t (capBase n.val + 0x14) 0 = false ∧
    rd t (capBase n.val + 0xC) = stampNs (tabGet (fun _ => (0, 0)) s.caps n.val).1 (tabGet (fun _ => (0, 0)) s.caps n.val).2 ∧
    rd t (capBase n.val + 0x10) = BitVec.ofNat 32 (fracOf (tabGet (fun _ => (0, 0)) s.caps n.val).1) ∧
    (∀ o, o < capBase n.val + 8 ∨ capBase n.val + 0x14 < o → rd t o = rd s o) ∧ { t with reg := s.reg, lastRead := s.lastRead } = s) ∧
  (∀ (n : Fin 8) (s : State), (getLamp s n.val).armed = true → coreRuns s = true → Completes (.lampStart n) s fun t =>
    (getLamp s n.val).next * nsUnit ≤ t.ntb.net ∧
    (lampPeriodic s n.val = true → (getLamp t n.val).armed = true ∧ (getLamp t n.val).next = (getLamp s n.val).next + lampPeriod s n.val) ∧
    (lampPeriodic s n.val = false → (getLamp t n.val).armed = false) ∧
    (rd s (lampBase n.val + 0x14) ≠ 0 →
      (getLamp t n.val).pulseEnd = some (t.ntb.clk + clocksOfNs (rd s (lampBase n.val + 0x14)).toNat) ∧
      getB t (lampBase n.val + 0x20) 0 = true ∧ lampLevel t n.val = !getB s (lampBase n.val + 4) 1) ∧
    (rd s (lampBase n.val + 0x14) = 0 → (getLamp t n.val).pulseEnd = none ∧ getB t (lampBase n.val + 0x20) 0 = false ∧
      (lampPeriodic s n.val = false → getB t (lampBase n.val + 0x20) 1 = true))) ∧
  (∀ (n : Fin 8) (s : State), (getLamp s n.val).armed = false → exec (.lampStart n) s = .next s) ∧
  (∀ (n : Fin 8) (c : Nat) (s : State), (getLamp s n.val).pulseEnd = some c → Completes (.lampEnd n) s fun t =>
    (getLamp t n.val).pulseEnd = none ∧ getB t (lampBase n.val + 0x20) 0 = false ∧
    getB t (lampBase n.val + 0x20) 1 = (getB s (lampBase n.val + 0x20) 1 || (getLamp s n.val).oneShot) ∧
    lampLevel t n.val = getB s (lampBase n.val + 4) 1 ∧
    ∀ o, o ≠ lampBase n.val + 0x20 → o ≠ 0x20024 → rd t o = rd s o) ∧
  (∀ (n : Fin 8) (s : State), (getLamp s n.val).pulseEnd = none → exec (.lampEnd n) s = .next s)

/-- R74-R78, R86, R87: gain steps, saturation, health checks, calibration. -/
def Obligations.AgcAndHealthChecks : Prop :=
  (∀ (p : Fin 4) (peak : Int) (clips : Nat) (s : State),
    getB s (rxBase p.val) 0 = true → getB s (rxBase p.val) 1 = false → getB s (rxBase p.val) 4 = false → getB s (rxBase p.val + 8) 8 = false →
    -(100 * (getF s (rxBase p.val + 0xC) 7 0 : Int)) < peak →
    Completes (.agcWindowEnd (Fin.castLE (by decide) p) peak clips) s fun t =>
      (getF t (rxBase p.val + 8) 6 0 : Int) =
        max (min 84 (getF s (rxBase p.val + 0x10) 6 0) : Int) (getF s (rxBase p.val + 8) 6 0 -
          (let need := (peak + 100 * (getF s (rxBase p.val + 0xC) 7 0 : Int) + 300 + 99) / 100
           if getF s (rxBase p.val + 0xC) 23 20 = 0 then need else min need (getF s (rxBase p.val + 0xC) 23 20 : Int))) ∧
      (getF t (rxBase p.val + 8) 6 0 ≠ getF s (rxBase p.val + 8) 6 0 → rd t (rxBase p.val + 0x20) = rd s (rxBase p.val + 0x20) + 1) ∧
      getB t (rxBase p.val + 8) 8 = false) ∧
  (∀ (p : Fin 4) (peak : Int) (clips : Nat) (s : State),
    getB s (rxBase p.val) 0 = true → getB s (rxBase p.val) 1 = false → getB s (rxBase p.val) 4 = false → getB s (rxBase p.val + 8) 8 = false →
    peak ≤ -(100 * (getF s (rxBase p.val + 0xC) 7 0 : Int)) → peak < -(100 * (getF s (rxBase p.val + 0xC) 15 8 : Int)) →
    getF s (rxBase p.val + 0xC) 31 24 * 65536 ≤ s.ntb.clk - (getPath s p.val).lastStep →
    Completes (.agcWindowEnd (Fin.castLE (by decide) p) peak clips) s fun t =>
      getF t (rxBase p.val + 8) 6 0 =
        min (max (min 84 (getF s (rxBase p.val + 0x10) 6 0)) (min 84 (getF s (rxBase p.val + 0x10) 14 8)))
          (getF s (rxBase p.val + 8) 6 0 + getF s (rxBase p.val + 0xC) 19 16)) ∧
  (∀ (p : Fin 5) (peak : Int) (clips : Nat) (s : State), getB s (rxBase p.val) 0 = false →
    exec (.agcWindowEnd p peak clips) s = .next s) ∧
  (∀ (p : Fin 4) (r : Byte) (s : State),
    (getB s (rxBase p.val + 0x14) 8 = true → Completes (.dcReconverged p r) s fun t =>
      onlyRegs [rxBase p.val + 0x14] s t ∧ getB t (rxBase p.val + 0x14) 8 = false ∧ getF t (rxBase p.val + 0x14) 7 0 = r.toNat ∧
      getF t (rxBase p.val + 0x14) 31 16 = (getF s (rxBase p.val + 0x14) 31 16 + 1) % 65536) ∧
    (getB s (rxBase p.val + 0x14) 8 = false → exec (.dcReconverged p r) s = .next s)) ∧
  (∀ (p : Fin 4) (s : State), s.keeper.pend = [] → (getPath s p.val).satSince ≠ none → getF s 0x34018 15 0 = 0 ∨ getB s 0x34000 0 = false →
    Completes (.satLong p) s fun t => getB t (rxBase p.val + 4) 9 = true ∧ getF t 0x34004 9 0 = getF s 0x34004 9 0) ∧
  (∀ (p : Fin 4) (c : Nat) (s : State), s.keeper.pend = [] → (getPath s p.val).satSince = some c → getF s 0x34018 15 0 ≠ 0 →
    getB s 0x34000 0 = true → getB s 0x34000 5 = true → getF s 0x34004 2 0 = 0 →
    Completes (.satLong p) s fun t => getB t (rxBase p.val + 4) 9 = true ∧
      getF t 0x34004 2 0 = 1 ∧ getF t 0x34004 6 4 = p.val ∧ getF t 0x34004 9 8 = 1) ∧
  (∀ (p : Fin 4) (f : BitVec 5) (s : State), s.keeper.pend = [] → pathState s p.val = 2 → getF s (rxBase p.val + 0x1C) 7 0 ≠ 0 →
    Completes (.healthCheck p f) s fun t =>
      getF t (rxBase p.val + 0x18) 31 16 = (getF s (rxBase p.val + 0x18) 31 16 + 1) % 65536 ∧
      getF t (rxBase p.val + 0x18) 4 0 = getF s (rxBase p.val + 0x18) 4 0 ||| f.toNat ∧
      getF t (rxBase p.val + 0x18) 15 8 = (if f = 0 then 0 else min (getF s (rxBase p.val + 0x18) 15 8 + 1) 255) ∧
      (f ≠ 0 → getF s (rxBase p.val + 0x1C) 19 16 ≠ 0 → getF s (rxBase p.val + 0x18) 15 8 + 1 = getF s (rxBase p.val + 0x1C) 19 16 →
        getB t (rxBase p.val + 4) 8 = true) ∧
      (getF s (rxBase p.val + 0x1C) 19 16 = 0 → getB t (rxBase p.val + 4) 8 = getB s (rxBase p.val + 4) 8)) ∧
  (∀ (p : Fin 4) (s : State), s.keeper.pend = [] →
    (pathState s p.val ≠ 2 → Completes (.pathCalibrationDone (Fin.castLE (by decide) p)) s fun t =>
      getB t (rxBase p.val + 4) 10 = false ∧ (getPath t p.val).calTemp = sensorTemp s (pathSensor p.val) ∧
      getB t 0xE0004 p.val = true ∧ pathState t p.val = pathState s p.val ∧
      (sCause s = 2 → sServes s = p.val → s.pathS.test.contains p.val = false → t.pathS.testEnded = true)) ∧
    (pathState s p.val = 2 → exec (.pathCalibrationDone (Fin.castLE (by decide) p)) s = .next s)) ∧
  (∀ s : State, s.keeper.pend = [] → s.pathS.waiting = [] → getF s 0x34004 2 0 = 4 → Completes (.pathCalibrationDone 4) s fun t =>
    getF t 0x34004 2 0 = 0 ∧ sServes t = 7 ∧ getB t 0xE0004 4 = true)

/-- R81-R84, R88, R90-R92: path S, retunes and the registers of the front end. -/
def Obligations.PathSubstitutionAndBands : Prop :=
  (∀ s : State, (getF s 0x34004 2 0 = 1 → coreRuns s = true → Completes .sAlignDone s fun t =>
      t.pathS.aligned = true ∧ s.pathS.since + clocksOfNs 2100000 ≤ t.ntb.clk ∧ ∀ o, o ≠ 0x20024 → rd t o = rd s o) ∧
    (getF s 0x34004 2 0 ≠ 1 → exec .sAlignDone s = .next s)) ∧
  (∀ s : State, getF s 0x34004 2 0 = 1 → s.pathS.aligned = true → sServes s < 4 → Completes .pathSubst s fun t =>
    pathState t (sServes s) = 3 ∧ getF t 0x34004 2 0 = 2 ∧ sServes t = sServes s ∧ rd t 0x34014 = rd s 0x34014 + 1) ∧
  (∀ s : State, getF s 0x34004 2 0 ≠ 1 ∨ s.pathS.aligned = false → exec .pathSubst s = .next s) ∧
  (∀ (s : State) (c : Nat), s.keeper.pend = [] → getF s 0x34004 2 0 = 2 → sCause s = 1 → sServes s < 4 →
    (getPath s (sServes s)).unsatSince = some c → s.pathS.waiting = [] → Completes .pathReturn s fun t =>
      pathState t (sServes s) = (if getB s (rxBase (sServes s)) 0 = false then 0 else if synState s (pathBand s (sServes s)) = 4 then 2 else 1) ∧
      getF t 0x34004 2 0 = 0 ∧ sServes t = 7 ∧ (coreRuns s = true → c + getF s 0x3401C 31 16 * clkMs ≤ t.ntb.clk)) ∧
  (∀ (bins : List Byte) (s : State), s.keeper.pend = [] → s.pathS.waiting = [] → getF s 0x34004 2 0 = 3 → Completes (.surveyDone bins) s fun t =>
    t.pathS.bins = bins.take (surveyBins (rd s 0x34020).toNat (rd s 0x34024).toNat (getF s 0x34028 2 0)) ∧
    getF t 0x34004 2 0 = 0 ∧ sServes t = 7) ∧
  (∀ (b : Fin 2) (f : Nat) (s : State), tabGet (fun _ => none) s.pathS.retune b.val = some f → f < 2 ^ 32 →
    Completes (.bandRetune b) s fun t =>
      (rd t (0x38004 + 4 * b.val)).toNat = f ∧ tabGet (fun _ => none) t.pathS.retune b.val = none ∧
      (synState t b.val = 2 ∨ synState t b.val = 3 ∨ (synState t b.val = 4 ∧ (rd s (synBase b.val + 8)).toNat = f))) ∧
  (∀ (b : Fin 2) (s : State), tabGet (fun _ => none) s.pathS.retune b.val = none → exec (.bandRetune b) s = .next s) ∧
  (∀ (v : Word) (k : Fin 3) (s : State), (∀ p, p < 4 → pathState s p = 0) →
    Completes (.rxpBandWrite (BitVec.ofNat 32 (0x40038000 + 4 * k.val)) v) s fun t =>
      if k.val = 0 ∧ (fieldOf v 5 4 = 3 ∨ fieldOf v 9 8 = 3) then onlyRegs [0x3800C] s t ∧ getB t 0x3800C 1 = true
      else rd t (0x38000 + 4 * k.val) = (if k.val = 0 then v &&& 0x331 else v) ∧ (k.val ≠ 0 → synState t 1 = synState s 1) ∧
        ∀ o, o ≠ 0x38000 + 4 * k.val → o ≠ 0x41004 → (∀ n, n < 64 → o ≠ chBase n + 0x24) → rd t o = rd s o) ∧
  (∀ (v : Word) (k : Fin 3) (s : State), pathState s 0 ≠ 0 → pathState s 2 ≠ 0 → (k.val = 2 → getB s 0x38000 0 = true) →
    Completes (.rxpBandWrite (BitVec.ofNat 32 (0x40038000 + 4 * k.val)) v) s fun t =>
      onlyRegs [0x3800C] s t ∧ rd t 0x3800C = withBit (rd s 0x3800C) 0 true) ∧
  (∀ (p : Fin 4) (v : Word) (s : State), bitOf v 0 = true → bandLo s (pathBand s p.val) < 380000000 ∨ 1050000000 < bandLo s (pathBand s p.val) →
    Completes (.rxpPathCfgWrite p v) s fun t =>
      getB t (rxBase p.val + 4) 11 = true ∧ getB t (rxBase p.val) 0 = false) ∧
  (∀ (p : Fin 4) (v : Word) (s : State), bitOf v 0 = true → getB s (rxBase p.val) 0 = false → synState s (pathBand s p.val) = 4 →
    380000000 ≤ bandLo s (pathBand s p.val) → bandLo s (pathBand s p.val) ≤ 1050000000 → Completes (.rxpPathCfgWrite p v) s fun t =>
      rd t (rxBase p.val) = v &&& 0x1F ∧ pathState t p.val = 2) ∧
  (∀ (p : Fin 4) (v : Word) (s : State), bitOf v 0 = false → getB s (rxBase p.val) 0 = true → Completes (.rxpPathCfgWrite p v) s fun t =>
    rd t (rxBase p.val) = v &&& 0x1F ∧ pathState t p.val = 0)

/-- R95-R108: the synthesiser states. -/
def Obligations.SynthesiserStates : Prop :=
  (∀ (n : Fin 4) (s : State), quiet s = true → s.keeper.pend = [] → synState s n.val = 2 ∨ synState s n.val = 3 →
    (getSyn s n.val).refreshing = none → (2 ≤ n.val → dueOn s (n.val - 2) = []) → Completes (.synLock n) s fun t =>
      synState t n.val = 4 ∧ getB t (synBase n.val + 4) 3 = true ∧ rd t (synBase n.val + 8) = BitVec.ofNat 32 (tunedHz (tuneWord (getSyn s n.val).target)) ∧
      (n.val < 2 → ∀ p, p ∈ bandPaths s n.val → getB s (rxBase p) 0 = true → pathState s p = 1 → pathState t p = 2)) ∧
  (∀ (n : Fin 4) (s : State), quiet s = true → s.keeper.pend = [] → synState s n.val ≠ 2 → synState s n.val ≠ 3 →
    exec (.synLock n) s = .next s) ∧
  (∀ (n : Fin 4) (s : State), quiet s = true → synState s n.val = 4 → (2 ≤ n.val → inBurst s (n.val - 2) = false) →
    Completes (.lockLost n) s fun t =>
      getB t (synBase n.val + 4) 8 = true ∧ getB t (synBase n.val + 4) 3 = false ∧
      (rd t (synBase n.val + 0x30)).toNat = min ((rd s (synBase n.val + 0x30)).toNat + 1) 0xFFFFFFFF ∧
      (n.val < 2 → synState t n.val = 3 ∧ ∀ p, p ∈ bandPaths s n.val → getB s (rxBase p) 0 = true → getB t (rxBase p + 0x18) 0 = true) ∧
      (2 ≤ n.val → synState t n.val = 2 ∨ synState t n.val = 3)) ∧
  (∀ (n : Fin 4) (s : State), quiet s = true → synState s n.val ≠ 4 → exec (.lockLost n) s = .next s) ∧
  (∀ (n : Fin 4) (s : State), quiet s = true → s.keeper.pend = [] → synState s n.val = 3 →
    ((getSyn s n.val).retried = false → Completes (.synCalTimeout n) s fun t =>
      synState t n.val = 3 ∧ (getSyn t n.val).retried = true ∧ rd t (synBase n.val + 0x28) = rd s (synBase n.val + 0x28) + 1) ∧
    ((getSyn s n.val).retried = true → (2 ≤ n.val → dueOn s (n.val - 2) = []) → Completes (.synCalTimeout n) s fun t =>
      getB t (synBase n.val + 4) 9 = true ∧ synState t n.val = 1 ∧ getB t (synBase n.val + 4) 3 = false ∧
      ∀ k, entryFor s n.val (getSyn s n.val).target = some k → (getEntry t n.val k).valid = false)) ∧
  (∀ (n : Fin 4) (s : State), quiet s = true → s.keeper.pend = [] → synState s n.val ≠ 3 → exec (.synCalTimeout n) s = .next s) ∧
  (∀ (p : Fin 2) (k : Nat) (s : State), inBurst s p.val = false → dueOn s p.val = [] → nextLock s p.val = none →
    synState s (2 + p.val) = 1 ∨ synState s (2 + p.val) = 4 → refreshPick s (2 + p.val) = some k → Completes (.synRefreshStart (Fin.natAdd 2 p)) s fun t =>
      synState t (2 + p.val) = 3 ∧ (getSyn t (2 + p.val)).refreshing = some k ∧ (getSyn t (2 + p.val)).target = entryFreq s (2 + p.val) k ∧
      rd t (synBase (2 + p.val) + 0x28) = rd s (synBase (2 + p.val) + 0x28) + 1) ∧
  (∀ (p : Fin 2) (s : State), inBurst s p.val = true → exec (.synRefreshStart (Fin.natAdd 2 p)) s = .next s ∧ exec (.idleStandby p) s = .next s) ∧
  (∀ (p : Fin 2) (s : State), synState s (2 + p.val) = 4 → getF s (synBase (2 + p.val)) 23 16 ≠ 0 → inBurst s p.val = false →
    dueOn s p.val = [] → nextLock s p.val = none → Completes (.idleStandby p) s fun t =>
      onlyRegs [synBase (2 + p.val) + 4] s t ∧ synState t (2 + p.val) = 1 ∧ getB t (synBase (2 + p.val) + 4) 3 = false)

/-- R96-R100, R114, R115: the calibration tables and their commands. -/
def Obligations.CalibrationTables : Prop :=
  (∀ s : State, Completes .staleEval s fun t =>
    t.reg = s.reg ∧ { t with syns := s.syns } = s ∧
    ∀ n k, n < 4 → 
      (getEntry t n k).stale = ((getEntry s n k).valid && getF s (synBase n) 15 8 != 0 &&
        decide (4 * getF s (synBase n) 15 8 < (sensorTemp s (synSensor n) - 4 * (getEntry s n k).temp).natAbs)) ∧
      (getEntry t n k).valid = (getEntry s n k).valid ∧ (getEntry t n k).temp = (getEntry s n k).temp ∧
      (getEntry t n k).draw = (getEntry s n k).draw ∧ (getEntry t n k).freq = (getEntry s n k).freq) ∧
  (∀ (n : Fin 4) (s : State), Completes (.refreshStale n) s fun t => { t with syns := s.syns } = s ∧ (∀ m, m ≠ n.val → getSyn t m = getSyn s m) ∧
    getSyn t n.val = { getSyn s n.val with work := (getSyn s n.val).work ++ (oldestFirst s n.val (fun e => e.valid && e.stale)).filter (fun k => !(getSyn s n.val).work.contains k) }) ∧
  (∀ (n : Fin 4) (s : State), Completes (.calAllValid n) s fun t => { t with syns := s.syns } = s ∧ (∀ m, m ≠ n.val → getSyn t m = getSyn s m) ∧
    getSyn t n.val = { getSyn s n.val with work := (getSyn s n.val).work ++ (oldestFirst s n.val (fun e => e.valid)).filter (fun k => !(getSyn s n.val).work.contains k) }) ∧
  (∀ (n : Fin 4) (s : State), 2 ≤ n.val → Completes (.calEntry n) s fun t => { t with syns := s.syns } = s ∧ (∀ m, m ≠ n.val → getSyn t m = getSyn s m) ∧
    getSyn t n.val = { getSyn s n.val with work := (getSyn s n.val).work ++ ([getF s (synBase n.val + 0x18) 8 0]).filter (fun k => !(getSyn s n.val).work.contains k) }) ∧
  (∀ (n : Fin 4) (s : State), n.val < 2 → (getEntry s n.val (getF s (synBase n.val + 0x18) 2 0)).valid = true → Completes (.calEntry n) s fun t => { t with syns := s.syns } = s ∧ (∀ m, m ≠ n.val → getSyn t m = getSyn s m) ∧
    getSyn t n.val = { getSyn s n.val with work := (getSyn s n.val).work ++ ([getF s (synBase n.val + 0x18) 2 0]).filter (fun k => !(getSyn s n.val).work.contains k) }) ∧
  (∀ (n : Fin 4) (s : State), n.val < 2 → (getEntry s n.val (getF s (synBase n.val + 0x18) 2 0)).valid = false → exec (.calEntry n) s = .next s) ∧
  (∀ (n : Fin 4) (s : State), Completes (.invalidateAll n) s fun t => { t with syns := s.syns } = s ∧
    (∀ k, (getEntry t n.val k).valid = false) ∧ ∀ m, m ≠ n.val → getSyn t m = getSyn s m) ∧
  (∀ (n : Fin 4) (v : Word) (s : State), n.val < 2 → exec (.rasterWrite n false v) s = .next s) ∧
  (∀ (n : Fin 4) (v : Word) (s : State), n.val < 2 → Completes (.rasterWrite n true v) s fun t =>
    if v.toNat < 25000 ∨ 2000000 < v.toNat then
      onlyRegs [synBase n.val + 4] s t ∧ rd t (synBase n.val + 4) = withBit (rd s (synBase n.val + 4)) 12 true
    else onlyRegs [synBase n.val + 0x14] s t ∧ rd t (synBase n.val + 0x14) = v) ∧
  (∀ (n : Fin 4) (b : Bool) (v : Word) (s : State), 2 ≤ n.val → inBurst s (n.val - 2) = true →
    Completes (.rasterWrite n b v) s fun t => onlyRegs [synBase n.val + 4] s t ∧ rd t (synBase n.val + 4) = withBit (rd s (synBase n.val + 4)) 11 true) ∧
  (∀ (n : Fin 4) (b : Bool) (v : Word) (s : State), 2 ≤ n.val → inBurst s (n.val - 2) = false → dueOn s (n.val - 2) = [] →
    Completes (.rasterWrite n b v) s fun t =>
      if b = true ∧ (v.toNat < 25000 ∨ 2000000 < v.toNat) then
        onlyRegs [synBase n.val + 4] s t ∧ rd t (synBase n.val + 4) = withBit (rd s (synBase n.val + 4)) 12 true
      else rd t (synBase n.val + (if b then 0x14 else 0x10)) = v ∧ (∀ k, (getEntry t n.val k).valid = false) ∧
        ∀ o, o ≠ synBase n.val + (if b then 0x14 else 0x10) → rd t o = rd s o)

/-- R103, R106, R146-R148, R157, R161-R163, R444: bursts and carriers. -/
def Obligations.TransmitBursts : Prop :=
  (∀ (n : Fin 128) (s : State), quiet s = true → opLive s n.val = true → opKind s n.val = 2 → (getOp s n.val).due = false →
    applyPending s (opBase n.val) = false → getUse s n.val = .none → (getOp s n.val).released = none →
    tripped s = true ∨ opFreq s n.val < 380000000 ∨ 1050000000 < opFreq s n.val ∨
      (txEnabled s 0 = false ∧ txEnabled s 1 = false) →
    Completes (.lockDue n) s fun t => opState t n.val = 4 ∧
      getF t (opBase n.val + 0x28) 15 8 =
        (if tripped s then 4 else if opFreq s n.val < 380000000 ∨ 1050000000 < opFreq s n.val then 7 else 4) ∧ t.air = s.air) ∧
  (∀ (n : Fin 128) (p : Nat) (s : State), quiet s = true → opLive s n.val = true → opKind s n.val = 2 → (getOp s n.val).due = false →
    (getOp s n.val).path = 2 → tripped s = false → 380000000 ≤ opFreq s n.val → opFreq s n.val ≤ 1050000000 → pathFor s n.val = some p →
    (∀ m, m < 128 → m ≠ n.val → opLive s m = false) → inBurst s p = false → (getOp s n.val).planned = false → acquiring s (2 + p) = false →
    autoRamp s p = false →
    Completes (.lockDue n) s fun t => (getOp t n.val).due = true ∧ (getOp t n.val).path = p ∧
      (getOp t n.val).ramp = getF s (txBase p + 4) 14 8 ∧ (getOp t n.val).radiating = (getOp s n.val).radiating ∧
      (lockedTo t (2 + p) (opFreq s n.val) = true ∨
        ((synState t (2 + p) = 2 ∨ synState t (2 + p) = 3) ∧ (getSyn t (2 + p)).target = opFreq s n.val))) ∧
  (∀ (p : Fin 2) (n : Nat) (s : State), quiet s = true → txEnabled s p.val = true → inBurst s p.val = false → dueOn s p.val = [n] →
    radiatingOn s p.val = [] → opKind s n = 2 → (getOp s n).held = 0 → tripped s = false → coexOn s = false →
    (synState s (2 + p.val) ≠ 4 → Completes (.driverEnable p) s fun t =>
      (getOp t n).held = 1 ∧ (getOp t n).radiating = false ∧ getB t (synBase (2 + p.val) + 4) 10 = true ∧
      rd t (synBase (2 + p.val) + 0x34) = rd s (synBase (2 + p.val) + 0x34) + 1 ∧ inBurst t p.val = false) ∧
    (lockedTo s (2 + p.val) (getTx s p.val).lo = true → (getOp s n).planned = true → tooLate s n (opPreamble s p.val n) = false → Completes (.driverEnable p) s fun t =>
      inBurst t p.val = true ∧ fieldOf (txpStatus t p.val) 3 1 = 1 ∧ rd t (txBase p.val + 0x24) = rd s (txBase p.val + 0x24) + 1 ∧
      (getOp t n).radiating = true ∧ (getOp t n).stamp = opPreamble s p.val n ∧ opState t n = 3 ∧
      (gateShut s p.val = true → t.air = s.air) ∧
      (gateShut s p.val = false → ∃ f, t.air = s.air ++ [f] ∧ f.tx = p.val ∧ f.freq = opFreq s n ∧ f.mode = opMode s n ∧
        f.stamp = opPreamble s p.val n))) ∧
  (∀ (n : Fin 128) (p : Nat) (s : State), quiet s = true → opLive s n.val = true → (getOp s n.val).due = true → (getOp s n.val).radiating = false →
    (getOp s n.val).path = p → opKind s n.val = 2 → (getOp s n.val).held = 0 → inBurst s p = true → p < 2 →
    inLo (opFreq s n.val) (opWidth s n.val) (getTx s p).lo = false → activeOn s p = radiatingOn s p →
    opTarget s n.val ≤ nowNs s + (getOp s n.val).ramp * us → Completes (.carrierStart n) s fun t =>
      (getOp t n.val).held = 3 ∧ (getOp t n.val).radiating = false ∧ getB t (txBase p + 0xC) 11 = true ∧ t.air = s.air) ∧
  (∀ (n : Fin 128) (p : Nat) (c : Nat) (s : State), quiet s = true → opLive s n.val = true → (getOp s n.val).due = true → (getOp s n.val).radiating = false →
    (getOp s n.val).path = p → opKind s n.val = 2 → (getOp s n.val).held = 0 → inBurst s p = true → p < 2 → (getOp s n.val).planned = false →
    inLo (opFreq s n.val) (opWidth s n.val) (getTx s p).lo = true → (activeOn s p).length < 4 → joinPower s p n.val = some c → activeOn s p = radiatingOn s p →
    opTarget s n.val ≤ nowNs s + (getOp s n.val).ramp * us →
    tooLate s n.val (max (opTarget s n.val) (nowNs s)) = false → gateShut s p = false → Completes (.carrierStart n) s fun t =>
      (getOp t n.val).radiating = true ∧ (getOp t n.val).power = c ∧ fieldOf (txpStatus t p) 3 1 = (activeOn s p).length + 1 ∧
      t.air.length = s.air.length + 1) ∧
  (∀ (p : Fin 2) (n : Nat) (s : State), quiet s = true → inBurst s p.val = true → radiatingOn s p.val = [n] → (getOp s n).released = none →
    applyPending s (opBase n) = false → coexOn s = false → Completes (.rampDownEnd p) s fun t =>
      inBurst t p.val = false ∧ fieldOf (txpStatus t p.val) 3 1 = 0 ∧ opState t n = 4 ∧ getF t (opBase n + 0x28) 15 8 = 1 ∧
      rd t (opBase n + 0x34) = BitVec.ofNat 32 ((getOp s n).stamp % 1000000000)) ∧
  (∀ (p : Fin 2) (s : State), quiet s = true → inBurst s p.val = false → exec (.rampDownEnd p) s = .next s) ∧
  (∀ (p : Fin 2) (v : Word) (s : State), quiet s = true → bitOf v 0 = true → Completes (.txpEnWrite p v) s fun t =>
    txEnabled t p.val = true ∧ synState t (2 + p.val) = (if synState s (2 + p.val) = 0 ∧ ¬(inWatch s = true ∧ p.val = 1) then 1 else synState s (2 + p.val)) ∧
    ∀ o, o ≠ txBase p.val + 8 → o ≠ synBase (2 + p.val) + 4 → rd t o = rd s o) ∧
  (∀ (p : Fin 2) (v : Word) (s : State), quiet s = true → bitOf v 0 = false → dueOn s p.val = [] → coexOn s = false →
    Completes (.txpEnWrite p v) s fun t => txEnabled t p.val = false ∧ synState t (2 + p.val) = 0 ∧
      (inBurst s p.val = true → ∀ n, radiatingOn s p.val = [n] → (getOp s n).released = none → applyPending s (opBase n) = false →
        inBurst t p.val = false ∧ opState t n = 4 ∧ getF t (opBase n + 0x28) 15 8 = 4))

/-- R107, R110, R155-R163: outcomes of transmit operations. -/
def Obligations.TransmitOutcomes : Prop :=
  (∀ (n : Fin 128) (l : Nat) (s : State), quiet s = true → opLive s n.val = true → (getOp s n.val).held ≠ 0 → (getOp s n.val).radiating = false →
    opLimit s n.val = some l → applyPending s (opBase n.val) = false → getUse s n.val = .none → (getOp s n.val).path < 2 → coexOn s = false →
    Completes (.txLate n) s fun t => opState t n.val = 4 ∧ t.air = s.air ∧
      ((getOp s n.val).held = 2 → getF t (opBase n.val + 0x28) 15 8 = 9 ∧ rd t 0x48010 = rd s 0x48010 + 1) ∧
      ((getOp s n.val).held ≠ 2 → getF t (opBase n.val + 0x28) 15 8 = 2 ∧
        rd t (synBase (2 + (getOp s n.val).path) + 0x38) = rd s (synBase (2 + (getOp s n.val).path) + 0x38) + 1)) ∧
  (∀ (n : Fin 128) (s : State), quiet s = true → (getOp s n.val).held = 0 → exec (.txLate n) s = .next s) ∧
  (∀ (n : Fin 128) (e : BitVec 16) (s : State), quiet s = true → opLive s n.val = true → opKind s n.val = 3 → (getOp s n.val).due = true →
    (getOp s n.val).radiating = false → (getOp s n.val).clear = false → tripped s = false → applyPending s (opBase n.val) = false →
    getUse s n.val = .none → (getOp s n.val).released = none → (getOp s n.val).path < 2 → coexOn s = false →
    blindNow (reachNet (assessNs s n.val * nsUnit) s) (opChannel s n.val) = false →
    Completes (.lbtAssess n e) s fun t => rd t (chBase (opChannel s n.val) + 0x28) = BitVec.ofNat 32 e.toNat ∧
      (e.toInt < signedOf 16 (getF s 0x68000 15 0) → (getOp t n.val).clear = true ∧
        (getOp t n.val).plannedAt = some (nowNs t + clearNs s (getOp s n.val).path + (getOp s n.val).ramp * us)) ∧
      (signedOf 16 (getF s 0x68000 15 0) ≤ e.toInt →
        rd t (txBase (getOp s n.val).path + 0x2C) = rd s (txBase (getOp s n.val).path + 0x2C) + 1 ∧
        (getF s (txBase (getOp s n.val).path + 0x14) 3 0 = 0 ∨ (getOp s n.val).tries = getF s (opBase n.val + 4) 23 20 →
          opState t n.val = 4 ∧ getF t (opBase n.val + 0x28) 15 8 = 5) ∧
        (getF s (txBase (getOp s n.val).path + 0x14) 3 0 ≠ 0 → (getOp s n.val).tries ≠ getF s (opBase n.val + 4) 23 20 →
          (getOp t n.val).tries = (getOp s n.val).tries + 1 ∧ (getOp t n.val).clear = false ∧
          ∃ a, (getOp t n.val).plannedAt = some a ∧ nowNs t + 20000 ≤ a))) ∧
  (∀ (n : Fin 128) (bins : List (Int × BitVec 16)) (s : State), quiet s = true → (getOp s n.val).radiating = true →
    (getOp s n.val).path < 2 → getF s (txBase (getOp s n.val).path + 0x240) 15 0 ≠ 0 → getF s 0xE0004 17 16 ≠ (getOp s n.val).path + 1 →
    (worstBin s (getOp s n.val).path n.val bins).any (fun w => decide (w.1 < 0)) = true →
    (getB s (txBase (getOp s n.val).path + 4) 2 = false ∨ (getOp s n.val).endClk ≤ s.ntb.clk → Completes (.maskEval n bins) s fun t =>
      getB t (opBase n.val + 0x28) 17 = true ∧ getB t (txBase (getOp s n.val).path + 0xC) 8 = true ∧
      (getOp t n.val).radiating = true ∧
      rd t (txBase (getOp s n.val).path + 0x28) = rd s (txBase (getOp s n.val).path + 0x28) + (if getB s (opBase n.val + 0x28) 17 then 0 else 1)) ∧
    (getB s (txBase (getOp s n.val).path + 4) 2 = true → s.ntb.clk < (getOp s n.val).endClk → radiatingOn s (getOp s n.val).path = [n.val] →
      (getOp s n.val).released = none → applyPending s (opBase n.val) = false → coexOn s = false → inBurst s (getOp s n.val).path = true →
      dueOn s (getOp s n.val).path = [] →
      Completes (.maskEval n bins) s fun t => opState t n.val = 4 ∧ getF t (opBase n.val + 0x28) 15 8 = 8 ∧
        inBurst t (getOp s n.val).path = false)) ∧
  (∀ (n : Fin 128) (off : Int) (level : BitVec 16) (p : Nat) (s : State), 0 < getF s (txBase p + 0x240) 15 0 →
    getF s (txBase p + 0x240) 15 0 ≤ off.natAbs → getF s (txBase p + 0x244) 15 0 = 0 →
    ((opFreq s n.val : Int) + 1000 * off - (getTx s p).lo).natAbs ≤ 16000000 → activeOn s p = [n.val] →
    worstBin s p n.val [(off, level)] = some (signedOf 16 (getF s (txBase p + 0x240) 31 16) - level.toInt, 0)) ∧
  (∀ (n : Fin 128) (bins : List (Int × BitVec 16)) (s : State), quiet s = true →
    (getOp s n.val).radiating = false ∨ (worstBin s (getOp s n.val).path n.val bins).all (fun w => decide (0 ≤ w.1)) = true →
    exec (.maskEval n bins) s = .next s)

/-- R109-R112, R117: the coexistence wires. -/
def Obligations.CoexistenceWires : Prop :=
  (∀ (v : Word) (s : State), Completes (.coexCfgWrite v) s fun t =>
    if coexOn s = true ∧ bitOf v 0 = true then onlyRegs [0x48008] s t ∧ rd t 0x48008 = withBit (rd s 0x48008) 9 true
    else rd t 0x48000 = v &&& 0xF1F ∧ getB t 0x48008 2 = (s.coexIn.gnt != bitOf v 10) ∧ (bitOf v 0 = false → getB t 0x48008 3 = false) ∧
      (bitOf v 1 = true → getB t 0x48008 0 = (s.coexIn.req != bitOf v 8) ∧ getB t 0x48008 1 = (s.coexIn.pri != bitOf v 9)) ∧
      (bitOf v 0 = false → bitOf v 1 = false → getB t 0x48008 0 = false ∧ getB t 0x48008 1 = false)) ∧
  (∀ (v : Word) (s : State), Completes (.coexTimingWrite v) s fun t =>
    if coexOn s = true then onlyRegs [0x48008] s t ∧ rd t 0x48008 = withBit (rd s 0x48008) 9 true
    else if fieldOf v 7 0 ≤ fieldOf v 15 8 then onlyRegs [0x48008] s t ∧ rd t 0x48008 = withBit (rd s 0x48008) 8 true
    else onlyRegs [0x48004] s t ∧ rd t 0x48004 = v &&& 0xFFFFFF) ∧
  (∀ (p : Fin 2) (n : Nat) (s : State), s.uses = [] → s.nodes.runs = [] → s.ops.all (fun p => !p.2.closed) = true → requester s = true → coreRuns s = true →
    inBurst s p.val = false → dueOn s p.val = [n] → opKind s n = 2 → (getOp s n).held = 0 → Completes (.coexGntSample p) s fun t =>
      getB t 0x48008 0 = true ∧
      (getB s 0x48008 2 = true → (getTx t p.val).granted = true ∧ (getOp t n).held = 0 ∧ (getB s 0x48008 0 = false → rd t 0x4800C = rd s 0x4800C + 1)) ∧
      (getB s 0x48008 2 = false → getB s 0x48008 0 = true → (getOp t n).held = 2) ∧
      (getB s 0x48008 2 = false → getB s 0x48008 0 = false → (getOp t n).held = 0 ∧ t.air = s.air)) ∧
  (∀ (p : Fin 2) (s : State), quiet s = true → exec (.coexGntSample p) s = .next s) ∧
  (∀ (l : Bool) (s : State), s.uses = [] → s.nodes.runs = [] → s.ops.all (fun p => !p.2.closed) = true →
    let now := l != getB s 0x48000 10
    Completes (.coexGntEdge l) s fun t => getB t 0x48008 2 = now ∧
      (requester s = true → now = true → getB s 0x48008 2 = false → getB s 0x48008 0 = true → rd t 0x4800C = rd s 0x4800C + 1) ∧
      (requester s = true → now = false → getB s 0x48008 2 = true → inBurst s 0 = true ∨ inBurst s 1 = true → getB t 0x48008 10 = true) ∧
      (requester s = true → now = false → getB s 0x48008 2 = true → getB s 0x48000 2 = true → inBurst s 0 = true → inBurst s 1 = false →
        ∀ n, radiatingOn s 0 = [n] → radiatingOn s 1 = [] → dueOn s 0 = [] → (getOp s n).released = none → applyPending s (opBase n) = false →
          opState t n = 4 ∧ getF t (opBase n + 0x28) 15 8 = 9 ∧ inBurst t 0 = false ∧ rd t 0x48010 = rd s 0x48010 + 1)) ∧
  (∀ (l pri : Bool) (s : State),
    let now := l != getB s 0x48000 8
    Completes (.coexReqEdge l pri) s fun t => t.coexIn.req = l ∧ t.coexIn.pri = pri ∧
    (coexArbiter s = true → getB t 0x48008 0 = now ∧ getB t 0x48008 1 = (pri != getB s 0x48000 9)) ∧
    (arbiter s = true → now = true → getB s 0x48008 0 = false → inBurst s 0 = false → inBurst s 1 = false → ownSoon s = [] → getB s 0x48008 3 = false →
        getB t 0x48008 3 = true ∧ rd t 0x4800C = rd s 0x4800C + 1) ∧
    (arbiter s = true → now = true → getB s 0x48008 0 = false → inBurst s 0 = true ∨ inBurst s 1 = true →
        getB t 0x48008 3 = getB s 0x48008 3 ∧ rd t 0x48010 = rd s 0x48010 + 1) ∧
    (arbiter s = true → now = true → getB s 0x48008 0 = false → inBurst s 0 = false → inBurst s 1 = false → ownSoon s ≠ [] →
        (pri != getB s 0x48000 9) = false → getB t 0x48008 3 = getB s 0x48008 3 ∧ rd t 0x48010 = rd s 0x48010 + 1) ∧
    (arbiter s = true → now = false → getB s 0x48008 0 = true → getB t 0x48008 3 = false)) ∧
  (∀ (p : Fin 2) (s : State), (arbiter s = false → exec (.ownBurstImminent p) s = .next s)) ∧
  (∀ (p : Fin 2) (n : Nat) (s : State), arbiter s = true → coreRuns s = true →
    (List.range 128).filter (fun m => opLive s m && isTxKind (opKind s m) && !(getOp s m).radiating && (getOp s m).path == p.val) = [n] →
    Completes (.ownBurstImminent p) s fun t =>
      (s.ntb.slew = 0 → rampAt s n - getF s 0x48004 23 16 * us ≤ nowNs t) ∧
      (getB s 0x48008 3 = false → t.reg = s.reg ∨ s.ntb.slew ≠ 0) ∧
      (getB s 0x48008 3 = true → (∀ c, s.coexIn.grantClk = some c → c < s.ntb.clk) →
        (opPriority s n = true → getB s 0x48008 1 = false → getB t 0x48008 3 = false) ∧
        (opPriority s n = false ∨ getB s 0x48008 1 = true → getB t 0x48008 3 = true ∧ (inBurst s p.val = false → (getOp s n).due = true → (getOp t n).held = 2))) ∧
      (getB s 0x48008 3 = true → s.coexIn.grantClk = some s.ntb.clk → rampAt s n - getF s 0x48004 23 16 * us ≤ nowNs s →
        opPriority s n = true ∨ getB s 0x48008 1 = false →
        getB t 0x48008 3 = false ∧ rd t 0x48010 = rd s 0x48010 + 1 ∧ rd t 0x4800C = rd s 0x4800C - 1))

/-- R194, R216, R222-R229: the operation queue. -/
def Obligations.OperationQueue : Prop :=
  (∀ (n : Fin 128) (s : State), (opState s n.val ≠ 1 → opState s n.val ≠ 4 → exec (.opqArm n) s = .next s) ∧
    (opState s n.val = 1 ∨ opState s n.val = 4 →
      (applyPending s (opBase n.val) = true → Completes (.opqArm n) s fun t => onlyRegs [opBase n.val + 0x28] s t ∧ getB t (opBase n.val + 0x28) 20 = true ∧ opState t n.val = opState s n.val) ∧
      (applyPending s (opBase n.val) = false → opNow s n.val ≤ opStartReg s n.val → Completes (.opqArm n) s fun t => opState t n.val = 2) ∧
      (applyPending s (opBase n.val) = false → opStartReg s n.val + opTolNs s n.val < opNow s n.val → Completes (.opqArm n) s fun t =>
        opState t n.val = 4 ∧ getF t (opBase n.val + 0x28) 15 8 = 2))) ∧
  (∀ (n : Fin 128) (s : State), quiet s = true → opLive s n.val = true → (getOp s n.val).radiating = false → (getOp s n.val).released = none →
    applyPending s (opBase n.val) = false → Completes (.opqCancel n) s fun t => opState t n.val = 4 ∧ getF t (opBase n.val + 0x28) 15 8 = 4) ∧
  (∀ (n : Fin 128) (s : State), quiet s = true → opLive s n.val = false → exec (.opqCancel n) s = .next s) ∧
  (∀ (n : Fin 128) (s : State), quiet s = true → coreRuns s = true → opState s n.val = 2 → (getOp s n.val).released = none → applyPending s (opBase n.val) = false →
    (opKind s n.val = 0 → Completes (.opqStart n) s fun t => opState t n.val = 4 ∧ getF t (opBase n.val + 0x28) 15 8 = 1) ∧
    (opKind s n.val = 1 → Completes (.opqStart n) s fun t => opState t n.val = 3)) ∧
  (∀ (n : Fin 128) (m : BitVec 16) (s : State), opState s n.val = 3 → opKind s n.val = 5 → (getOp s n.val).released = none →
    applyPending s (opBase n.val) = false → Completes (.measureEnd n m) s fun t =>
      opState t n.val = 4 ∧ getF t (opBase n.val + 0x28) 15 8 = 1 ∧ getF t (opBase n.val + 0x38) 31 16 = m.toNat) ∧
  (∀ (n : Fin 128) (s : State), quiet s = true → s.intake = [] → s.nodes.mics = [] → opState s n.val = 3 → opKind s n.val = 1 →
    (getOp s n.val).released = none → applyPending s (opBase n.val) = false → slotState s (opChannel s n.val) 0 = 0 → slotState s (opChannel s n.val) 1 = 0 →
    Completes (.rxWindowClose n) s fun t => opState t n.val = 4 ∧ getF t (opBase n.val + 0x28) 15 8 = 12) ∧
  (∀ (n : Fin 128) (s : State), quiet s = true → opState s n.val = 4 → opOwner s n.val ≠ 17 → n.val < hostFirst s → Completes (.opqRelease n) s fun t =>
    opState t n.val = 0 ∧ opOwner t n.val = 31 ∧ ∀ o, o ≠ opBase n.val + 0x20 → o ≠ opBase n.val + 0x28 → rd t o = rd s o) ∧
  (∀ (v : Word) (s : State), Completes (.hostResWrite v) s fun t => rd t 0x78000 = v &&& 0xFF7F ∧
    ∀ n, n < 128 → hostFirst t ≤ n → n < hostFirst s → opState s n = 0 → opState t n = 1 ∧ opOwner t n = 17) ∧
  (∀ (v : Word) (s : State), Completes (.opqNidWrite v) s fun t =>
    if fieldOf v 15 0 = 0xFFFF then onlyRegs [0x78004] s t ∧ rd t 0x78004 = withBit (rd s 0x78004) 18 true
    else fieldOf v 15 0 ≠ 0 ∨ quiet s = true → onlyRegs [0x78044] s t ∧ rd t 0x78044 = v &&& 0xFFFF) ∧
  (∀ (v : Word) (s : State), Completes (.slotCfgWrite v) s fun t =>
    if s.ctx.any (fun p => p.2.role == 1) = true then onlyRegs [0x78004] s t ∧ rd t 0x78004 = withBit (rd s 0x78004) 17 true
    else if slotUsOk (fieldOf v 15 0) = false then onlyRegs [0x78004] s t ∧ rd t 0x78004 = withBit (rd s 0x78004) 18 true
    else rd t 0x7800C = BitVec.ofNat 32 (fieldOf v 15 0) ∧ t.mac.slotNext = some (fieldOf v 15 0) ∧ t.mac.slotUs = s.mac.slotUs) ∧
  (∀ (v : Word) (s : State), Completes (.relayCfgWrite v) s fun t =>
    if bitOf v 0 = true ∧ getF s 0x20020 13 12 ≠ 0 then onlyRegs [0x78034] s t ∧ rd t 0x78034 = withBit (rd s 0x78034) 9 true
    else rd t 0x78030 = v &&& 0xFFFFFF1F ∧ (bitOf v 0 = true → getB t 0x20020 0 = false ∧ getB t 0x20020 14 = true))

/-- R125-R134, R139-R141: what a sync match does. -/
def Obligations.ChannelMatches : Prop :=
  (∀ (ch : Fin 64) (m : Match) (s : State), blockDue s = none → passing s ch.val [m] = [m] → applyPending s (chBase ch.val) = true → applyHeld s (chBase ch.val) = false →
    Completes (.syncMatch ch [m]) s fun t => t.slots = s.slots ∧ liveCount t ch.val 11 = liveCount s ch.val 11 + 1 ∧
      (∀ k, k < 16 → k ≠ 11 → liveCount t ch.val k = liveCount s ch.val k) ∧ rd t (chBase ch.val + 0x24) = rd s (chBase ch.val + 0x24)) ∧
  (∀ (ch : Fin 64) (m : Match) (s : State), blockDue s = none → passing s ch.val [m] = [m] → applyPending s (chBase ch.val) = false →
    slotState s ch.val 0 ≠ 0 → slotState s ch.val 1 ≠ 0 →
    Completes (.syncMatch ch [m]) s fun t => t.slots = s.slots ∧ liveCount t ch.val 6 = liveCount s ch.val 6 + 1 ∧
      (∀ k, k < 16 → k ≠ 6 → liveCount t ch.val k = liveCount s ch.val k) ∧ rd t (chBase ch.val + 0x24) = rd s (chBase ch.val + 0x24)) ∧
  (∀ (ch : Fin 64) (m : Match) (s : State), blockDue s = none → getB s (chBase ch.val + 4) 0 = true → getB s (chBase ch.val + 0x24) 8 = false → inWatch s = false →
    bandHears s (chBand s ch.val) = true → m.mode.val ∈ chModes s ch.val → 16 ≤ m.preamble → matchPaths s ch.val m ≠ [] →
    syncErrs s ch.val m ≤ getF s (chBase ch.val + 0x1C) 2 0 → offsetOk s ch.val m.mode.val m.foff = true →
    applyPending s (chBase ch.val) = false → slotState s ch.val 0 = 0 → slotState s ch.val 1 = 0 →
    Completes (.syncMatch ch [m]) s fun t =>
      slotState t ch.val 0 = 1 ∧ slotState t ch.val 1 = 0 ∧ getF t (chBase ch.val + 0x30) 15 0 = (getF s (chBase ch.val + 0x30) 15 0 + 1) % 65536 ∧
      rd t (chBase ch.val + 0x2C) = BitVec.ofNat 32 m.rssi.toNat ∧
      liveCount t ch.val 0 = liveCount s ch.val 0 + 1 ∧ (∀ k, 0 < k → k < 16 → liveCount t ch.val k = liveCount s ch.val k) ∧
      (getSlot t ch.val 0).rxseq = getF s (chBase ch.val + 0x30) 15 0 ∧ (getSlot t ch.val 0).mode = m.mode.val ∧
      (getSlot t ch.val 0).stamp = s.ntb.net - stampDelay s ch.val (matchPaths s ch.val m) ∧ (getSlot t ch.val 0).rssi = m.rssi ∧
      (getSlot t ch.val 0).snr = m.snr ∧ (getSlot t ch.val 0).foff = m.foff ∧ (getSlot t ch.val 0).agc = m.agc ∧
      fieldOf (getSlot t ch.val 0).flags 8 2 = 0 ∧
      bitOf (getSlot t ch.val 0).flags 10 = (matchPaths s ch.val m).any (fun p => pathState s p == 3) ∧
      (∀ p, p < 4 → bitOf (getSlot t ch.val 0).flags (16 + p) = decide (p ∈ matchPaths s ch.val m)) ∧
      fieldOf (getSlot t ch.val 0).flags 26 24 = syncErrs s ch.val m) ∧
  (∀ (ch : Fin 64) (m : Match) (s : State), blockDue s = none → passing s ch.val [m] = [m] → applyPending s (chBase ch.val) = false →
    slotState s ch.val 0 = 1 → slotState s ch.val 1 = 0 →
    Completes (.syncMatch ch [m]) s fun t => slotState t ch.val 0 = 1 ∧ slotState t ch.val 1 = 1 ∧
      bitOf (getSlot t ch.val 1).flags 8 = true ∧ (getSlot t ch.val 1).pendCapture = (getSlot s ch.val 0).stepSeen ∧
      liveCount t ch.val 0 = liveCount s ch.val 0 + 1 ∧ liveCount t ch.val 10 = liveCount s ch.val 10 + 1) ∧
  (∀ (ch : Fin 64) (m : Match) (s : State), blockDue s = none → passing s ch.val [m] = [m] → applyPending s (chBase ch.val) = false →
    slotState s ch.val 0 = 2 → slotState s ch.val 1 = 0 → (getSlot s ch.val 0).stepSeen = false →
    Completes (.syncMatch ch [m]) s fun t => slotState t ch.val 0 = 2 ∧ slotState t ch.val 1 = 1 ∧
      bitOf (getSlot t ch.val 0).flags 5 = true ∧ bitOf (getSlot t ch.val 1).flags 5 = true ∧
      (getSlot t ch.val 0).related = (getSlot t ch.val 1).rxseq ∧ (getSlot t ch.val 1).related = (getSlot s ch.val 0).rxseq ∧
      liveCount t ch.val 14 = liveCount s ch.val 14 + 1) ∧
  (∀ (ch : Fin 64) (m : Match) (s : State), blockDue s = none → passing s ch.val [m] = [m] → applyPending s (chBase ch.val) = false →
    slotState s ch.val 0 = 2 → slotState s ch.val 1 = 0 → (getSlot s ch.val 0).stepSeen = true →
    Completes (.syncMatch ch [m]) s fun t => liveCount t ch.val 7 = liveCount s ch.val 7 + 1 ∧
      (getF s (chBase ch.val + 0x10) 1 0 = 0 → t.slots = s.slots ∧ liveCount t ch.val 8 = liveCount s ch.val 8 + 1 ∧
        liveCount t ch.val 0 = liveCount s ch.val 0) ∧
      (getF s (chBase ch.val + 0x10) 1 0 = 1 → slotState t ch.val 0 = 0 ∧ slotState t ch.val 1 = 1 ∧
        bitOf (getSlot t ch.val 1).flags 4 = true ∧ liveCount t ch.val 5 = liveCount s ch.val 5 + 1 ∧ (getSlot t ch.val 1).related = (getSlot s ch.val 0).rxseq) ∧
      (getF s (chBase ch.val + 0x10) 1 0 = 2 → (getSlot s ch.val 0).blocks ≠ 0 → slotState t ch.val 0 = 3 ∧ slotState t ch.val 1 = 1 ∧
        bitOf (getSlot t ch.val 1).flags 4 = true ∧ bitOf (getSlot t ch.val 0).flags 5 = true ∧ bitOf (getSlot t ch.val 0).flags 6 = true)) ∧
  (∀ (ch : Fin 64) (s : State), blockDue s = none → exec (.syncMatch ch []) s = .next s) ∧
  (∀ (ch : Fin 64) (m : Match) (ms : List Match) (s : State), blockDue s = none → passing s ch.val (m :: ms) = [] →
    Completes (.syncMatch ch (m :: ms)) s fun t => tabGet (fun _ => 0) t.agc ch.val = m.agc ∧ { t with agc := s.agc } = s)

/-- R126-R142: outcomes and counters. -/
def Obligations.ReceptionOutcomes : Prop :=
  (∀ (ch : Fin 64) (k : Fin 2) (h : Word) (s : State), quiet s = true → blockDue s = none → slotState s ch.val k.val = 1 →
    (hcrc (h.toNat % 2 ^ 24) ≠ h.toNat / 2 ^ 24 → Completes (.headerCheck ch k h) s fun t => slotState t ch.val k.val = 0 ∧
      liveCount t ch.val 3 = liveCount s ch.val 3 + 1 ∧ t.intake = s.intake) ∧
    (hcrc (h.toNat % 2 ^ 24) = h.toNat / 2 ^ 24 → fieldOf h 19 18 ≠ 1 ∨ fieldOf h 2 0 ≠ (getSlot s ch.val k.val).mode ∨
        ((getSlot s ch.val k.val).mode = 0 ∧ bitOf h 14 = false) ∨ (2 ≤ (getSlot s ch.val k.val).mode ∧ bitOf h 14 = true) →
      Completes (.headerCheck ch k h) s fun t => slotState t ch.val k.val = 0 ∧
        liveCount t ch.val 4 = liveCount s ch.val 4 + 1 ∧ t.intake = s.intake) ∧
    (hcrc (h.toNat % 2 ^ 24) = h.toNat / 2 ^ 24 → headerInvalid (getSlot s ch.val k.val).mode h.toNat = false → fieldOf h 13 3 = 0 → bitOf h 21 = false →
      s.ops = [] →
      Completes (.headerCheck ch k h) s fun t => slotState t ch.val k.val = 0 ∧
        liveCount t ch.val 1 = liveCount s ch.val 1 + 1 ∧ liveCount t ch.val 12 = liveCount s ch.val 12 + 1) ∧
    (hcrc (h.toNat % 2 ^ 24) = h.toNat / 2 ^ 24 → headerInvalid (getSlot s ch.val k.val).mode h.toNat = false → fieldOf h 13 3 ≠ 0 →
      slotState s ch.val (1 - k.val) = 0 → Completes (.headerCheck ch k h) s fun t => slotState t ch.val k.val = 2 ∧ (getSlot t ch.val k.val).header = h.toNat ∧
        ∀ j, j < 16 → j ≠ 13 → liveCount t ch.val j = liveCount s ch.val j)) ∧
  (∀ (ch : Fin 64) (k : Fin 2) (soft : List Byte) (s : State), quiet s = true → s.ops = [] → blockDue s = none → blankedDuring s ch.val k.val = false →
    slotState s ch.val k.val = 2 → Completes (.payloadCrc ch k soft) s fun t => slotState t ch.val k.val = 0 ∧
      (payloadGood (slotDecode (getSlot s ch.val k.val) soft) = true → liveCount t ch.val 1 = liveCount s ch.val 1 + 1 ∧
        t.intake = s.intake ++ [recordOf ch.val k.val (getSlot s ch.val k.val) 0 (slotDecode (getSlot s ch.val k.val) soft).1 (slotDecode (getSlot s ch.val k.val) soft).2 []]) ∧
      (payloadGood (slotDecode (getSlot s ch.val k.val) soft) = false → liveCount t ch.val 2 = liveCount s ch.val 2 + 1 ∧
        t.intake = s.intake ++ [recordOf ch.val k.val (getSlot s ch.val k.val) 1 (slotDecode (getSlot s ch.val k.val) soft).1 (slotDecode (getSlot s ch.val k.val) soft).2
          (softOf (getSlot s ch.val k.val) soft)])) ∧
  (∀ (ch : Fin 64) (k : Fin 2) (soft : List Byte) (s : State), quiet s = true → s.ops = [] → blockDue s = none → slotState s ch.val k.val = 3 →
    (getSlot s ch.val k.val).blocks ≠ 0 → Completes (.payloadCrc ch k soft) s fun t =>
      if payloadGood (slotDecode (getSlot s ch.val k.val) soft) = true then slotState t ch.val k.val = 0 ∧ liveCount t ch.val 1 = liveCount s ch.val 1 + 1
      else slotState t ch.val k.val = 3 ∧ (getSlot t ch.val k.val).liveFailed = true ∧ t.live = s.live ∧ t.intake = s.intake) ∧
  (∀ (x : Slot) (soft : List Byte), (softOf x soft).length = codedBits (x.header.testBit 14) (x.header / 8 % 2048) ∧
    (∀ b, b ∈ softOf x soft → -127 ≤ b.toInt ∧ b.toInt ≤ 127)) ∧
  (∀ (ch : Fin 64) (k : Fin 2) (v : BitVec 16) (s : State), blockDue s = none →
    (slotState s ch.val k.val = 1 ∨ slotState s ch.val k.val = 2 →
      (getSlot s ch.val k.val).rssi.toInt + 4 * getF s (chBase ch.val + 0x10) 11 8 ≤ v.toInt → Completes (.powerStep ch k v) s fun t =>
        (getSlot t ch.val k.val).stepSeen = true ∧ getB t (chBase ch.val + 0x24) 9 = true ∧ slotState t ch.val k.val = slotState s ch.val k.val) ∧
    (slotState s ch.val k.val = 0 ∨ slotState s ch.val k.val = 4 ∨ v.toInt < (getSlot s ch.val k.val).rssi.toInt + 4 * getF s (chBase ch.val + 0x10) 11 8 →
      exec (.powerStep ch k v) s = .next s) ∧
    (v.toInt < (getSlot s ch.val k.val).rssi.toInt + 4 * getF s (chBase ch.val + 0x10) 11 8 - 4 →
      Completes (.powerStepClear ch k v) s fun t => (getSlot t ch.val k.val).stepSeen = false ∧
        getB t (chBase ch.val + 0x24) 9 = (getSlot s ch.val (1 - k.val)).stepSeen ∧
        (getSlot t ch.val k.val).blocks = (if slotState s ch.val k.val = 3 ∨ slotState s ch.val k.val = 4 then (getSlot s ch.val k.val).blocks else 0)) ∧
    ((getSlot s ch.val k.val).rssi.toInt + 4 * getF s (chBase ch.val + 0x10) 11 8 - 4 ≤ v.toInt → exec (.powerStepClear ch k v) s = .next s)) ∧
  (∀ (ch : Fin 64) (s : State), blockDue s = none → (waitingHeld s ch.val 0 = true → Completes (.subtractStart ch) s fun t => slotState t ch.val 0 = 4 ∧
      (∀ q, (getSlot s ch.val 0).captorEnd = some (true, q) → (getSlot t ch.val 0).subtracted = true ∧ (getSlot t ch.val 0).related = q) ∧
      (∀ q, (getSlot s ch.val 0).captorEnd = some (false, q) → t.slots = s.slots)) ∧
    (waitingHeld s ch.val 0 = false → waitingHeld s ch.val 1 = false → exec (.subtractStart ch) s = .next s)) ∧
  (∀ (ch : Fin 64) (k : Fin 2) (soft : List Byte) (s : State), quiet s = true → s.ops = [] → blockDue s = none → slotState s ch.val k.val = 4 →
    Completes (.redecodeEnd ch k soft) s fun t => slotState t ch.val k.val = 0 ∧
      (payloadGood (slotDecode (getSlot s ch.val k.val) soft) = false → liveCount t ch.val 2 = liveCount s ch.val 2 + 1) ∧
      (payloadGood (slotDecode (getSlot s ch.val k.val) soft) = true → liveCount t ch.val 1 = liveCount s ch.val 1 + 1 ∧
        liveCount t ch.val 9 = liveCount s ch.val 9 + (if (getSlot s ch.val k.val).subtracted then 1 else 0)) ∧
      t.intake.length = s.intake.length + 1) ∧
  (∀ (ch : Fin 64) (k : Fin 2) (h : Word) (soft : List Byte) (s : State), quiet s = true → blockDue s = none → slotState s ch.val k.val = 0 →
    exec (.headerCheck ch k h) s = .next s ∧ exec (.payloadCrc ch k soft) s = .next s ∧ exec (.redecodeEnd ch k soft) s = .next s) ∧
  (∀ (ch : Fin 64) (s : State), Completes (.statLatch ch) s fun t => { t with reg := s.reg } = s ∧
    (∀ k, k < 15 → rd t (chBase ch.val + 0x40 + 4 * k) = liveCount s ch.val k) ∧
    ∀ o, o < chBase ch.val + 0x40 ∨ chBase ch.val + 0x7C ≤ o → rd t o = rd s o) ∧
  (∀ (ch : Fin 64) (s : State), Completes (.statClear ch) s fun t => { t with live := s.live } = s ∧
    (∀ k, k < 16 → liveCount t ch.val k = 0) ∧ ∀ c k, c ≠ ch.val → k < 16 → liveCount t c k = liveCount s c k)

/-- R141: the balance of the counters, over the commands of receptions. -/
def Obligations.DetectBalanceKept : Prop :=
  (∀ (c : Nat) (x : Instr) (s : State), c < 64 → detectBalanced s c → quiet s = true → s.ops = [] →
    isReception x = true →
    Completes x s fun t => detectBalanced t c) ∧
  (∀ c, c < 64 → detectBalanced State.reset c)

/-- R176, R190-R195, R208-R226: scheduled activities. -/
def Obligations.ScheduledActivities : Prop :=
  (∀ s : State, getB s 0x78010 19 = false → s.mac.beaconOn = false → Completes .beaconSchedule s fun t => t.uses = s.uses ∧ t.reg = s.reg ∧ t.ops = s.ops) ∧
  (∀ s : State, devNid s = 0 → (Completes .beaconSchedule s fun t => t.uses = s.uses ∧ t.ops = s.ops) ∧
    (Completes .lighthouseSchedule s fun t => t.uses = s.uses ∧ t.ops = s.ops)) ∧
  (∀ (s : State) (n : Nat), s.ntb.slew = 0 → coreRuns s = true → getB s 0x78010 19 = true → s.mac.beaconOn = true → devNid s ≠ 0 → (beaconKey s).isSome = true →
    beaconWritten s .beacon (nextBeacon s (nowNs s)) = false → freeEntry s true = some n → getB s 0x7802C 2 = false →
    Completes .beaconSchedule s fun t => getUse t n = .beacon ∧ opState t n = 2 ∧ opOwner t n = 16 ∧ opKind t n = 4 ∧
      opChannel t n = getF s 0x78010 13 8 ∧ opMode t n = getF s 0x78010 18 16 ∧ getF t (opBase n + 4) 23 20 = getF s 0x78010 23 20 ∧
      opStartReg t n = nextBeacon s (nowNs s)) ∧
  (∀ s : State, getB s 0x78014 3 = false → Completes .lighthouseSchedule s fun t => t.uses = s.uses ∧ t.reg = s.reg) ∧
  (∀ (s : State) (n c : Nat), s.ntb.slew = 0 → coreRuns s = true → getB s 0x78014 3 = true → devNid s ≠ 0 → rescueChannels s = [c] → freeEntry s true = some n →
    let even := nowNs s / 2000000000 * 2000000000 + devOf s * s.mac.slotUs * 1000
    let start := if nowNs s ≤ even then even else even + 2000000000
    beaconWritten s .lighthouse start = false → Completes .lighthouseSchedule s fun t => getUse t n = .lighthouse ∧ opState t n = 2 ∧ opOwner t n = 16 ∧ opKind t n = 4 ∧
      opChannel t n = c ∧ opMode t n = getF s 0x78014 2 0 ∧ getF t (opBase n + 4) 23 20 = getF s 0x78014 7 4 ∧ opStartReg t n = start) ∧
  (∀ (n : Fin 128) (x : BitVec 16) (s : State), s.uses = [] → s.ops = [] → s.nodes.runs = [] → requester s = false → coreRuns s = true → s.ntb.slew = 0 →
    schedulable s x.toNat = true → dlAllowed s x.toNat = false ∨ headDl s x.toNat = none → freeEntry s false = some n.val →
    anchNow s ≤ (eventWindow s (getCtx s x.toNat) {} (getCtx s x.toNat).k (chanOf (getCtx s x.toNat) (getCtx s x.toNat).k) false).opens →
    Completes (.nodeEventSchedule x) s fun t => opState t n.val = 2 ∧ opKind t n.val = 1 ∧ getB t (opBase n.val + 4) 3 = true ∧
      getUse t n.val = .window x.toNat (getCtx s x.toNat).k ∧ opChannel t n.val = chanOf (getCtx s x.toNat) (getCtx s x.toNat).k % 64 ∧
      opMode t n.val = (getCtx s x.toNat).phy % 8 ∧ ((getRun t x.toNat).win.map (fun w => w.k)) = some (getCtx s x.toNat).k) ∧
  (∀ (x : BitVec 16) (s : State), quiet s = true → schedulable s x.toNat = false → exec (.nodeEventSchedule x) s = .next s ∧ exec (.opqFull x) s = .next s) ∧
  (∀ (x : BitVec 16) (s : State), schedulable s x.toNat = true → freeEntry s false = none → Completes (.opqFull x) s fun t =>
    getB t 0x78004 16 = true ∧ rd t 0x78008 = rd s 0x78008 + 1 ∧ ((getRun t x.toNat).win.map (fun w => (w.k, w.internal))) = some ((getCtx s x.toNat).k, true)) ∧
  (∀ (a : AckDue) (n : Fin 128) (s : State), s.uses = [] → s.ops = [] → s.nodes.runs = [] → requester s = false → s.nodes.acks = [a] → isHome s a.ctx = true → freeEntry s false = some n.val →
    a.ch < 64 → a.mode < 8 → Completes .immediateAck s fun t => t.nodes.acks = [] ∧ opState t n.val = 2 ∧ opKind t n.val = 2 ∧ opChannel t n.val = a.ch ∧
      opMode t n.val = a.mode ∧ getUse t n.val = .ackFrame ∧ opStartReg t n.val = a.start) ∧
  (∀ (a : AckDue) (s : State), quiet s = true → s.nodes.acks = [a] → isHome s a.ctx = false → Completes .immediateAck s fun t =>
    t = { s with nodes := { s.nodes with acks := [] } }) ∧
  (∀ (x : BitVec 16) (s : State), isHome s x.toNat = true → (getCtx s x.toNat).supTo ≠ 0 → (getCtx s x.toNat).mstate ≠ 2 → usedFor s (isWindowOf x.toNat) = [] →
    Completes (.supervisionTimeout x) s fun t => (getCtx t x.toNat).mstate = 2 ∧ (getCtx t x.toNat).gen = ((getCtx s x.toNat).gen + 1) % 2 ^ 32 ∧
      (getRun t x.toNat).win = none ∧ t.keeper.logNext = (s.keeper.logNext + 1) % 2 ^ 32 ∧ ∀ m, m ≠ x.toNat → getCtx t m = getCtx s m) ∧
  (∀ (x : BitVec 16) (s : State), isHome s x.toNat = false ∨ (getCtx s x.toNat).supTo = 0 ∨ (getCtx s x.toNat).mstate = 2 → exec (.supervisionTimeout x) s = .next s) ∧
  (∀ s : State, getB s 0x78030 0 = false ∨ getF s 0x78034 1 0 ≠ 1 → exec .upstreamBeaconMissed s = .next s) ∧
  (∀ s : State, getB s 0x78030 0 = true → getF s 0x78034 1 0 = 1 → Completes .upstreamBeaconMissed s fun t =>
    getF t 0x78034 5 4 = (getF s 0x78034 5 4 + 1) % 4 ∧ t.mac.upNext = s.mac.upNext + s.mac.upBi * 1000000000 ∧
    (if getF s 0x78034 5 4 + 1 < 3 then getF t 0x78034 1 0 = 1 else getF t 0x78034 1 0 = 2 ∧ getB t 0x78034 8 = true))

/-- R138, R181, R182, R235-R241: records and MIC checks. -/
def Obligations.UplinkIntake : Prop :=
  (∀ s : State, quiet s = true → s.intake = [] → exec .recordIntake s = .next s) ∧
  (∀ (r : RxRec) (rs : List RxRec) (s : State), quiet s = true → s.intake = r :: rs → r.outcome = 2 →
    exec .recordIntake s = .next { s with intake := rs, nodes := { s.nodes with abandoned := s.nodes.abandoned + 1 } }) ∧
  (∀ (r : RxRec) (rs : List RxRec) (s : State), quiet s = true → s.intake = r :: rs → r.outcome = 0 → s.ctx.all (fun p => p.2.role != 2 && p.2.role != 3 || p.2.ci == 0) = true →
    (r.header.testBit 20 = true → getB s 0x78030 0 = false → Completes .recordIntake s fun t => t = { incW 0xB0044 s with intake := rs }) ∧
    (r.header.testBit 20 = false → r.header / 8 % 2048 ≠ 0 → parseMac r.payload = none → Completes .recordIntake s fun t => t = { incW 0xB0048 s with intake := rs }) ∧
    (∀ f, parseMac r.payload = some f → r.header.testBit 20 = false → r.header / 8 % 2048 ≠ 0 → f.sec = true → f.typ ≠ 4 → f.keyIndex = 0 →
      (findNode s f.src = none → Completes .recordIntake s fun t => rd t 0xB0040 = rd s 0xB0040 + 1 ∧ t.intake = rs ∧ t.ctx = s.ctx ∧ t.nodes.mics = s.nodes.mics) ∧
      (∀ n, findNode s f.src = some n → inMap s n r.ch = true → Completes .recordIntake s fun t =>
        t.nodes.mics = s.nodes.mics ++ [{ rx := r, bytes := r.payload, kind := .node n, rescued := none }] ∧ t.intake = rs ∧ t.ctx = s.ctx))) ∧
  (∀ s : State, quiet s = true → s.nodes.mics = [] → exec .micResult s = .next s) ∧
  (∀ (w : MicWait) (ws : List MicWait) (f : MacFrame) (s : State), quiet s = true → s.nodes.mics = w :: ws → parseMac w.bytes = some f →
    ((micKey s w f).1 = none → Completes .micResult s fun t => t = { incW 0x90008 (incW 0x90010 s) with nodes := { s.nodes with mics := ws } }) ∧
    (∀ key, (micKey s w f).1 = some key → macOpen key (micKey s w f).2 (w.rx.header.testBit 20) f = none →
      Completes .micResult s fun t => t = { incW 0x90008 (incW 0x9000C s) with nodes := { s.nodes with mics := ws } }) ∧
    (∀ key p n, (micKey s w f).1 = some key → macOpen key (micKey s w f).2 (w.rx.header.testBit 20) f = some p → w.kind = .node n →
      (judgeFcnt (getCtx s n) f.fcnt = 2 → f.ackreq = false → Completes .micResult s fun t => rd t 0xB004C = rd s 0xB004C + 1 ∧ t.ctx = s.ctx) ∧
      (judgeFcnt (getCtx s n) f.fcnt = 3 → Completes .micResult s fun t => rd t 0xB0050 = rd s 0xB0050 + 1 ∧ t.ctx = s.ctx) ∧
      (isHome s n = true → (getCtx s n).upCount = 0 ∨ (getCtx s n).upFcnt < f.fcnt → Completes .micResult s fun t =>
        (getCtx t n).upFcnt = f.fcnt ∧ (getCtx t n).upCount = ((getCtx s n).upCount + 1) % 2 ^ 32 ∧ rd t 0x90008 = rd s 0x90008 + 1) ∧
      (isHome s n = true → judgeFcnt (getCtx s n) f.fcnt = 1 → Completes .micResult s fun t => (getCtx t n).upFcnt = (getCtx s n).upFcnt ∧
        (getCtx t n).upWin = (getCtx s n).upWin ||| 2 ^ ((getCtx s n).upFcnt - 1 - f.fcnt) ∧
        (getCtx t n).upCount = ((getCtx s n).upCount + 1) % 2 ^ 32)))

/-- R20, R244-R254, R264, R362: joins, downlinks, rescue. -/
def Obligations.JoinsDownlinksRescue : Prop :=
  (∀ (f : MFrame) (s : State), arrivesForAll 1 0x12 f s = true → Completes (.joinSeen f) s fun t => t.ctx = s.ctx ∧
    t.nodes.joins.any (fun j => j.eui == leAt f.payload 2 8 && j.reports.contains (leAt f.payload 12 1 % 16, signedOf 16 (leAt f.payload 10 2))) = true ∧
    ∀ j, j ∈ s.nodes.joins → j.eui ≠ leAt f.payload 2 8 → j ∈ t.nodes.joins) ∧
  (∀ (e : BitVec 64) (s : State), s.nodes.joins.find? (fun j => j.eui == e.toNat) = none → exec (.joinElection e) s = .next s) ∧
  (∀ (e : BitVec 64) (j : JoinHeard) (d : Nat) (m : Int) (s : State), s.nodes.joins.find? (fun j => j.eui == e.toNat) = some j → (d, m) ∈ j.reports →
    (∀ p, p ∈ j.reports → p.2 < m ∨ (p.2 = m ∧ d ≤ p.1)) → Completes (.joinElection e) s fun t =>
      t.nodes.joins = s.nodes.joins.filter (fun x => x.eui != e.toNat) ∧ (j.eui, d, t.ntb.clk) ∈ t.nodes.delivered ∧ t.ctx = s.ctx ∧
      (coreRuns s = true → j.clk + clocksOfNs 50000000 ≤ t.ntb.clk)) ∧
  (∀ (g : BitVec 16) (w : JoinWait) (c : Nat) (s : State), s.nodes.waits.find? (fun w => w.tag == g.toNat) = some w → w.expires = some c → Completes (.nodeAddWaitExpiry g) s fun t =>
      t.nodes.waits = s.nodes.waits.filter (fun x => x.tag != w.tag) ∧ getCtx t w.ctx = {} ∧ (∀ n, n ≠ w.ctx → getCtx t n = getCtx s n) ∧
      t.keeper.pend = s.keeper.pend.eraseP (fun p => p.opcode == 0x0501 && p.tag == w.tag)) ∧
  (∀ (g : BitVec 16) (s : State), s.nodes.waits.find? (fun w => w.tag == g.toNat) = none → exec (.nodeAddWaitExpiry g) s = .next s) ∧
  (∀ (g : BitVec 16) (n : Nat) (d : Downlink) (s : State), s.nodes.runs = [(n, { dls := [d] })] → d.tag = g.toNat → d.expires ≠ none → s.uses = [] →
    Completes (.downlinkLifetimeExpiry g) s fun t => (getRun t n).dls = [] ∧ (getCtx t n).dlPend = 0 ∧ (getCtx t n).dlTries = 0 ∧
      t.keeper.pend = s.keeper.pend.eraseP (fun p => p.opcode == 0x0601 && p.tag == d.tag && p.origin == d.origin)) ∧
  (∀ (g : BitVec 16) (s : State), s.nodes.runs = [] → exec (.downlinkLifetimeExpiry g) s = .next s) ∧
  (∀ (f : MFrame) (n : Nat) (s : State), arrivesHere 4 0x41 f s = true → findNode s (leAt f.payload 0 3) = some n → leAt f.payload 5 4 = 0 → Completes (.downlinkFrame f) s fun t =>
    (getRun t n).dls = (getRun s n).dls ++ [{ tag := leAt f.payload 3 2, target := 0x1E, origin := mrSrc f, flags := leAt f.payload 9 1, expires := none, data := f.payload.drop 10 }] ∧
      (getCtx t n).dlPend = min 255 ((getRun s n).dls.length + 1)) ∧
  (∀ (f : MFrame) (s : State), arrivesForAll 1 0x17 f s = true → Completes (.rescueWant f) s fun t => t.ctx = s.ctx ∧ t.nodes = s.nodes) ∧
  (∀ (f : MFrame) (n p : Nat) (x : Nat × RxRec) (s : State), arrivesForAll 1 0x17 f s = true → findNode s (leAt f.payload 2 3) = some n → isHome s n = false →
    (getRun s n).kept = [x] → x.1 % 2 ^ 32 = leAt f.payload 5 4 → anchNow s ≤ nsTotal x.2.anch + getF s 0xB0008 15 8 * 1000000 → signedOf 8 (getF s 0xB0008 31 24) ≤ x.2.snr.toInt →
    portTo s (mrSrc f) = some p → s.chain.out = [] → (recordBytes x.2 ++ x.2.soft).length ≤ 4096 → Completes (.rescueWant f) s fun t => rd t 0xB0068 = rd s 0xB0068 + 1 ∧
      (t.chain.out.filter (fun y => y.cls == 3)).map (fun y => (y.port, y.msg)) = [(p, ⟨0x30, mrSrc f, devOf s, leBytes 3 (leAt f.payload 2 3) ++ leBytes 4 (leAt f.payload 5 4) ++
        leBytes 1 0x80 ++ (recordBytes x.2 ++ x.2.soft)⟩)]) ∧
  (∀ (f : MFrame) (n : Nat) (q : RescueRun) (s : State), arrivesHere 3 0x30 f s = true → s.uses = [] → requester s = false → s.ops = [] → s.nodes.runs.all (fun p => p.2.win.isNone) = true →
    findNode s (leAt f.payload 0 3) = some n → (getRun s n).rescue = some q →
    q.k % 2 ^ 32 = leAt f.payload 3 4 → leAt f.payload 7 1 = 0 → Completes (.rescueCopy f) s fun t => t.ctx = s.ctx ∧
      (getRun t n).rescue = some { q with parts := q.parts.filter (fun p => p.1 != mrSrc f) ++ [(mrSrc f, f.payload.drop 8)] }) ∧
  (∀ (f : MFrame) (n : Nat) (s : State), arrivesHere 3 0x30 f s = true → quiet s = true → findNode s (leAt f.payload 0 3) = some n →
    leAt f.payload 7 1 = 128 → Completes (.rescueCopy f) s fun t => t.ctx = s.ctx ∧ rd t 0xB0070 = rd s 0xB0070 + 1) ∧
  (∀ (a : BitVec 24) (k : Word) (s : State),
    (findNode s a.toNat = none → exec (.rescueWaitExpiry a) s = .next s ∧ exec (.rescueHoldExpiry a k) s = .next s) ∧
    (∀ n, findNode s a.toNat = some n →
      ((getRun s n).rescue = none → exec (.rescueWaitExpiry a) s = .next s) ∧
      ((getRun s n).rescue ≠ none → Completes (.rescueWaitExpiry a) s fun t =>
        getRun t n = { getRun s n with rescue := none } ∧ (∀ m, m ≠ n → getRun t m = getRun s m) ∧ t.ctx = s.ctx ∧ s.ntb.clk ≤ t.ntb.clk) ∧
      Completes (.rescueHoldExpiry a k) s fun t =>
        getRun t n = { getRun s n with kept := (getRun s n).kept.filter (fun p => p.1 % 2 ^ 32 != k.toNat) } ∧
        (∀ m, m ≠ n → getRun t m = getRun s m) ∧ t.ctx = s.ctx ∧ s.ntb.clk ≤ t.ntb.clk))

/-- R241-R250, R264: election and hand-over. -/
def Obligations.HomeElectionAndHandover : Prop :=
  (∀ (f : MFrame) (n : Nat) (s : State), arrivesHere 1 0x10 f s = true → leAt f.payload 0 2 = 1 → f.payload.length = 7 → findNode s (leAt f.payload 2 3) = some n → isHome s n = true →
    Completes (.marginReport f) s fun t =>
      let m := signedOf 16 (leAt f.payload 5 2)
      let c := getCtx s n
      let meets := c.marginOwn + 4 * getF s 0xB0000 27 24 ≤ m
      (c.chalValid = false ∨ (mrSrc f ≠ c.chalDev ∧ c.chalMargin < m) → (getCtx t n).chalDev = mrSrc f ∧ (getCtx t n).chalValid = true ∧ (getCtx t n).chalMargin = m ∧
        (getCtx t n).chalRun = if meets then 1 else 0) ∧
      (c.chalValid = true → mrSrc f = c.chalDev → (getCtx t n).chalDev = c.chalDev ∧ (getCtx t n).chalMargin = m ∧ (getCtx t n).chalRun = if meets then min (c.chalRun + 1) 3 else 0) ∧
      (c.chalValid = true → mrSrc f ≠ c.chalDev → m ≤ c.chalMargin → (getCtx t n).chalDev = c.chalDev ∧ (getCtx t n).chalMargin = c.chalMargin ∧ (getCtx t n).chalRun = c.chalRun)) ∧
  (∀ (x : BitVec 16) (h : HandOver) (s : State), (getRun s x.toNat).hand = some h →
    (h.sent = false → isHome s x.toNat = true → handReady s x.toNat h = true → (getRun s x.toNat).conn = none → Completes (.finalSend x) s fun t =>
      (getCtx t x.toNat).transit = true ∧ (getCtx t x.toNat).gen = ((getCtx s x.toNat).gen + 1) % 2 ^ 32 ∧
      (getRun t x.toNat).hand = some { h with k := (getCtx s x.toNat).k, sent := true, clk := s.ntb.clk }) ∧
    (h.sent = true ∨ isHome s x.toNat = false ∨ handReady s x.toNat h = false → exec (.finalSend x) s = .next s) ∧
    (∀ p, h.sent = false → isHome s x.toNat = true → handReady s x.toNat h = true → (getRun s x.toNat).conn = none → portTo s h.dest = some p → Completes (.finalSend x) s fun t =>
      (getCls t p 1).q.getLast? = some ⟨0x13, h.dest, devOf s, leBytes 3 (getCtx t x.toNat).addr ++ leBytes 4 (getCtx t x.toNat).k ++ leBytes 4 (getCtx t x.toNat).gen⟩) ∧
    (∀ p, h.sent = true → (getCtx s x.toNat).transit = true → portTo s h.dest = some p → Completes (.finalAckTimeout x) s fun t =>
      (getCls t p 1).q = (getCls s p 1).q ++ [⟨0x15, h.dest, devOf s, leBytes 3 (getCtx s x.toNat).addr ++ leBytes 4 (getCtx s x.toNat).gen⟩] ∧ t.ctx = s.ctx ∧ t.nodes = s.nodes ∧
      (coreRuns s = true → h.clk + clocksOfNs 50000000 ≤ t.ntb.clk)) ∧
    (Completes (.finalAckTimeout x) s fun t => t.ctx = s.ctx ∧ t.nodes = s.nodes)) ∧
  (∀ (x : BitVec 16) (s : State), (getRun s x.toNat).hand = none → exec (.finalSend x) s = .next s ∧ exec (.finalAckTimeout x) s = .next s) ∧
  (∀ (f : MFrame) (n : Nat) (s : State), arrivesHere 1 0x13 f s = true → findNode s (leAt f.payload 0 3) = some n → isHome s n = false →
    ((getCtx s n).gen = leAt f.payload 7 4 → Completes (.finalFrame f) s fun t => (getCtx t n).role = 1 ∧ (getCtx t n).transit = false ∧ (getCtx t n).chalValid = false ∧
      (getCtx t n).chalRun = 0 ∧ (getCtx t n).k = leAt f.payload 3 4 ∧ (getCtx t n).homeSince = secOf s.ntb.net % 2 ^ 32 ∧ (getCtx t n).homeDev = devOf s ∧
      rd t 0xB007C = rd s 0xB007C + 1) ∧
    ((getCtx s n).gen ≠ leAt f.payload 7 4 → Completes (.finalFrame f) s fun t => t.ctx = s.ctx ∧ t.nodes.runs = s.nodes.runs ∧
      (leAt f.payload 0 3, leAt f.payload 3 4, leAt f.payload 7 4, mrSrc f) ∈ t.nodes.finals)) ∧
  (∀ (f : MFrame) (n : Nat) (h : HandOver) (s : State), arrivesHere 1 0x14 f s = true → findNode s (leAt f.payload 0 3) = some n → (getRun s n).hand = some h →
    h.sent = true → (getCtx s n).transit = true → Completes (.finalAck f) s fun t => (getCtx t n).role ≠ 1 ∧ (getCtx t n).transit = false ∧ (getRun t n).dls = [] ∧
      (getRun t n).hand = none ∧ rd t 0xB0078 = rd s 0xB0078 + 1) ∧
  (∀ (f : MFrame) (n : Nat) (h : HandOver) (s : State), arrivesHere 1 0x16 f s = true → findNode s (leAt f.payload 0 3) = some n → (getRun s n).hand = some h →
    h.sent = true → (getCtx s n).transit = true → Completes (.finalNak f) s fun t => (getCtx t n).role = (getCtx s n).role ∧ (getCtx t n).transit = false ∧
      (getCtx t n).k = (h.k + 1) % 2 ^ 32 ∧ (getCtx t n).missed = min 65535 ((getCtx s n).missed + 1) ∧ (getRun t n).hand = none ∧ (getRun t n).dls = (getRun s n).dls) ∧
  (∀ (f : MFrame) (s : State), arrivesHere 1 0x15 f s = true → Completes (.finalQuery f) s fun t => t.ctx = s.ctx ∧ t.nodes.runs = s.nodes.runs ∧
    (∀ x ∈ t.nodes.finals, x.1 ≠ leAt f.payload 0 3) ∧
    ∀ n p, portTo s (mrSrc f) = some p → findNode s (leAt f.payload 0 3) = some n →
      (getCls t p 1).q.getLast? = some ⟨if isHome s n then 0x14 else 0x16, mrSrc f, devOf s, leBytes 3 (leAt f.payload 0 3) ++ leBytes 4 (leAt f.payload 3 4)⟩) ∧
  (∀ (f : MFrame) (n : Nat) (s : State), arrivesHere 1 0x18 f s = true → findNode s (leAt f.payload 0 3) = some n →
    (isHome s n = false → Completes (.counterUpdate f) s fun t => getCtx t n = { getCtx s n with gen := leAt f.payload 3 4, homeDev := mrSrc f, upFcnt := leAt f.payload 7 4, upWin := leAt f.payload 11 4, dnFcnt := leAt f.payload 15 4 }) ∧
    (isHome s n = true → newerGen (leAt f.payload 3 4) (getCtx s n).gen = true → Completes (.counterUpdate f) s fun t => (getCtx t n).role = 3 ∧ (getCtx t n).homeDev = mrSrc f ∧
      (getRun t n).dls = [] ∧ (getCtx t n).dlPend = 0) ∧
    (isHome s n = true → newerGen (leAt f.payload 3 4) (getCtx s n).gen = false → Completes (.counterUpdate f) s fun t => t.ctx = s.ctx)) ∧
  (∀ (f : MFrame) (n : Nat) (s : State), arrivesForAll 1 0x11 f s = true → leAt f.payload 2 2 = 1 → f.payload.length = 10 → findNode s (leAt f.payload 4 3) = some n → isHome s n = true →
    (4 * signedOf 8 (getF s 0xB000C 23 16) ≤ signedOf 16 (leAt f.payload 8 2) → (chainKey s).isSome = true → Completes (.heardTable f) s fun t =>
      mrSrc f ∈ (getRun t n).guests ∧ t.ctx = s.ctx) ∧
    (signedOf 16 (leAt f.payload 8 2) < 4 * signedOf 8 (getF s 0xB000C 23 16) → Completes (.heardTable f) s fun t => t.ctx = s.ctx ∧ t.nodes = s.nodes))

/-- R233-R251, R255, R264, R300: where contexts live. -/
def Obligations.PlacementOfContexts : Prop :=
  (∀ (l : List Byte) (s : State), getB s 0xB0000 0 = false → Completes (.loadWindow l) s fun t => t.ctx = s.ctx ∧ t.nodes.moves = s.nodes.moves ∧
    ∀ f, f < 16 → getF t (0xB0100 + 8 * f) 7 0 = min 100 (l.getD f 0).toNat ∧
      getF t (0xB0100 + 8 * f) 15 8 = if getF s 0xB0000 15 8 < min 100 (l.getD f 0).toNat then min 255 (tabGet (fun _ => 0) s.nodes.loadRuns f + 1) else 0) ∧
  (∀ (x : BitVec 16) (d : Fin 16) (s : State),
    (s.keeper.pend = [] → (x.toNat, d.val) ∈ s.nodes.moves → nodeIdle s x.toNat = true → Completes (.contextMove x d) s fun t =>
      getCtx t x.toNat = { getCtx s x.toNat with frond := d.val } ∧ (∀ m, m ≠ x.toNat → getCtx t m = getCtx s m) ∧
      t.nodes.moves = s.nodes.moves.erase (x.toNat, d.val) ∧ rd t 0xB0074 = rd s 0xB0074 + 1 ∧
      ∀ e, e < 128 → e ∈ usedFor s (isOf x.toNat) → opOwner t e = d.val) ∧
    (s.keeper.pend = [] → (x.toNat, d.val) ∈ s.nodes.moves → nodeIdle s x.toNat = false →
      (s.nodes.moveClk + clocksOfNs 10000000 ≤ s.ntb.clk → Completes (.contextMove x d) s fun t =>
        t.ctx = s.ctx ∧ t.nodes.moves = s.nodes.moves.erase (x.toNat, d.val)) ∧
      (s.ntb.clk < s.nodes.moveClk + clocksOfNs 10000000 → exec (.contextMove x d) s = .next s)) ∧
    (s.keeper.pend = [] → (x.toNat, d.val) ∉ s.nodes.moves → bankOut s (x.toNat / 2048) = false → exec (.contextMove x d) s = .next s)) ∧
  (∀ s : State, Completes .marginPeriod s fun t => t.ctx = s.ctx ∧ t.nodes.heard = [] ∧
    ∀ p, p ∈ s.nodes.runs → (getRun t p.1).heard = false) ∧
  (∀ (d : Fin 16) (n : Nat) (s : State), reachable s d.val = false → s.ctx.filter (fun p => p.2.role == 2 && p.2.homeDev == d.val) = [(n, getCtx s n)] →
    Completes (.replicaPromote d) s fun t => (getCtx t n).role = 1 ∧ (getCtx t n).homeSince = secOf t.ntb.net % 2 ^ 32 ∧ (getCtx t n).homeDev = devOf s ∧
      ((getCtx s n).gen + 65536) % 2 ^ 32 ≤ (getCtx t n).gen + 2 ∧ (getRun t n).win = none) ∧
  (∀ (d : Fin 16) (s : State), reachable s d.val = true → exec (.replicaPromote d) s = .next s) ∧
  (∀ (x : BitVec 16) (s : State), ((getCtx s x.toNat).role = 3 → getF s 0xB000C 15 0 ≠ 0 → Completes (.guestAgeExpiry x) s fun t =>
      getCtx t x.toNat = {} ∧ getRun t x.toNat = {} ∧ ∀ m, m ≠ x.toNat → getCtx t m = getCtx s m) ∧
    ((getCtx s x.toNat).role ≠ 3 ∨ getF s 0xB000C 15 0 = 0 → exec (.guestAgeExpiry x) s = .next s)) ∧
  (∀ (v : Word) (s : State), Completes (.frdLookup v) s fun t => onlyRegs [0xB0028] s t ∧
    (findNode s (fieldOf v 23 0) = none → rd t 0xB0028 = 0) ∧
    ∀ n, findNode s (fieldOf v 23 0) = some n → n < 65536 → (getCtx s n).frond < 16 → (getCtx s n).role < 4 → (getCtx s n).homeDev < 16 →
      getF t 0xB0028 15 0 = n ∧ getF t 0xB0028 19 16 = (getCtx s n).frond ∧ getF t 0xB0028 21 20 = (getCtx s n).role ∧ getF t 0xB0028 27 24 = (getCtx s n).homeDev ∧ getB t 0xB0028 31 = true) ∧
  (∀ (f : MFrame) (s : State), arrivesHere 4 0x40 f s = true → f.payload.length = 156 →
    (∀ n, leAt f.payload 0 1 % 4 = 0 → ((f.payload.drop 132).take 24).all (fun b => b == 0) = true → findNode s (leAt f.payload 4 3) = some n →
      (isHome s n = false → Completes (.contextFrame f) s fun t => getCtx t n = {} ∧ ∀ m, m ≠ n → getCtx t m = getCtx s m) ∧
      (isHome s n = true → (getCtx s n).replDev ≠ mrSrc f → Completes (.contextFrame f) s fun t => t.ctx = s.ctx) ∧
      (isHome s n = true → (getCtx s n).replDev = mrSrc f → Completes (.contextFrame f) s fun t =>
        getCtx t n = { getCtx s n with replDev := devOf s, gen := ((getCtx s n).gen + 1) % 2 ^ 32 } ∧ ∀ m, m ≠ n → getCtx t m = getCtx s m)) ∧
    (∀ kek, chainKey s = some kek → ((f.payload.drop 132).take 24).all (fun b => b == 0) = false → kwUnwrap (natsOf kek) (natsOf ((f.payload.drop 132).take 24)) = none →
      Completes (.contextFrame f) s fun t => t.ctx = s.ctx ∧ rd t 0x9000C = rd s 0x9000C + 1) ∧
    (∀ n, leAt f.payload 0 1 % 4 = 3 → ((f.payload.drop 132).take 24).all (fun b => b == 0) = true → findNode s (leAt f.payload 4 3) = none → s.nodes.lost = [] → s.nodes.finals = [] → slotFor s = some n →
      Completes (.contextFrame f) s fun t => (getCtx t n).addr = leAt f.payload 4 3 ∧ (getCtx t n).role = 3 ∧ (getCtx t n).key = [] ∧ ∀ m, m ≠ n → getCtx t m = getCtx s m)) ∧
  (∀ (x : BitVec 16) (s : State), (s.nodes.lost.find? (fun l => l.1 == x.toNat && l.2.2 == 1) = none → exec (.replicaRestoreTimeout x) s = .next s) ∧
    (∀ l, s.nodes.lost.find? (fun l => l.1 == x.toNat && l.2.2 == 1) = some l → Completes (.replicaRestoreTimeout x) s fun t =>
      t.nodes.lost = s.nodes.lost.erase l ∧ t.ctx = s.ctx))

/-- R258-R260, R263, R275, R276: the states of a port. -/
def Obligations.MooringPortStates : Prop :=
  (∀ (p : Fin 2) (s : State), (lstate s p.val = 1 → (getPort s p.val).waiting = false → Completes (.linkPulseDetect p) s fun t => lstate t p.val = 2 ∧
      (getPort t p.val).trial = getF s (mrBase p.val + 4) 1 0 ∧ getF t (mrBase p.val + 0x14) 15 8 = (getF s (mrBase p.val + 0x14) 15 8 + 1) % 256) ∧
    (lstate s p.val ≠ 1 ∨ (getPort s p.val).waiting = true → exec (.linkPulseDetect p) s = .next s)) ∧
  (∀ (p : Fin 2) (i : TrainInfo) (s : State), (getPort s p.val).waiting = false → s.ntb.clk ≤ phaseLimit s p.val (lstate s p.val) →
    (lstate s p.val = 2 → Completes (.trainPhaseEnd p i) s fun t => lstate t p.val = (if 400 ≤ i.erle.toNat then 3 else 2) ∧ getF t (mrBase p.val + 0x18) 31 16 = i.erle.toNat) ∧
    (lstate s p.val = 3 → (getPort s p.val).phaseClk + clocksOfNs 10000000 ≤ s.ntb.clk →
      ((170 + fieldOf (getPort s p.val).cfg 15 8 : Int) ≤ i.snr.toInt → Completes (.trainPhaseEnd p i) s fun t => lstate t p.val = 4 ∧ getF t (mrBase p.val + 0x18) 15 0 = i.snr.toNat) ∧
      (i.snr.toInt < (170 + fieldOf (getPort s p.val).cfg 15 8 : Int) → Completes (.trainPhaseEnd p i) s fun t => getF t (mrBase p.val + 0x18) 15 0 = i.snr.toNat ∧
        (fieldOf (getPort s p.val).cfg 3 2 < (getPort s p.val).trial → lstate t p.val = 3 ∧ (getPort t p.val).trial = (getPort s p.val).trial - 1) ∧
        ((getPort s p.val).trial ≤ fieldOf (getPort s p.val).cfg 3 2 → getB t (mrBase p.val + 0x10) 11 = true ∧ getF t (mrBase p.val + 0x14) 7 4 = 3 ∧
          (getPort t p.val).waiting = true))) ∧
    (lstate s p.val = 4 → fieldOf (getPort s p.val).cfg 3 2 ≤ min (getPort s p.val).trial i.rate.val → (getPort s p.val).trial < 4 → Completes (.trainPhaseEnd p i) s fun t =>
      lstate t p.val = 5 ∧ rateOfPort t p.val = min (getPort s p.val).trial i.rate.val) ∧
    (lstate s p.val = 5 → Completes (.trainPhaseEnd p i) s fun t => lstate t p.val = 6 ∧ (getPort t p.val).cls = []) ∧
    (lstate s p.val = 6 → Completes (.trainPhaseEnd p i) s fun t => lstate t p.val = 7 ∧ (getPort t p.val).peerEui = i.peerEui.toNat ∧
      getF t (mrBase p.val + 0x1C) 3 0 = i.peerDev.val ∧ getF t (mrBase p.val + 0x1C) 7 4 = i.peerPrio.val ∧ getF t (mrBase p.val + 0x1C) 31 16 = i.peerChain.toNat) ∧
    (lstate s p.val = 4 → min (getPort s p.val).trial i.rate.val < fieldOf (getPort s p.val).cfg 3 2 → Completes (.trainPhaseEnd p i) s fun t =>
      getB t (mrBase p.val + 0x10) 11 = true ∧ getF t (mrBase p.val + 0x14) 7 4 = 3 ∧ (getPort t p.val).waiting = true) ∧
    (lstate s p.val = 7 → getF s (mrBase p.val + 0x1C) 31 16 ≠ getF s 0xA00C0 31 16 → Completes (.trainPhaseEnd p i) s fun t => lstate t p.val = 10 ∧ getB t 0xA00C4 18 = true)) ∧
  (∀ (p : Fin 2) (i : TrainInfo) (s : State), (getPort s p.val).waiting = false → phaseLimit s p.val (lstate s p.val) < s.ntb.clk → 2 ≤ lstate s p.val → lstate s p.val ≤ 7 →
    Completes (.trainPhaseEnd p i) s fun t => getB t (mrBase p.val + 0x10) 11 = true ∧ getF t (mrBase p.val + 0x14) 7 4 = lstate s p.val ∧ (getPort t p.val).waiting = true) ∧
  (∀ (p : Fin 2) (i : TrainInfo) (s : State), lstate s p.val < 2 ∨ 7 < lstate s p.val ∨ (getPort s p.val).waiting = true → exec (.trainPhaseEnd p i) s = .next s) ∧
  (∀ (p : Fin 2) (s : State), (2 ≤ lstate s p.val → lstate s p.val ≤ 7 → (getPort s p.val).waiting = false → Completes (.trainFail p) s fun t =>
      getB t (mrBase p.val + 0x10) 11 = true ∧ getF t (mrBase p.val + 0x14) 7 4 = lstate s p.val ∧ (getPort t p.val).waiting = true) ∧
    (lstate s p.val < 2 ∨ 7 < lstate s p.val ∨ (getPort s p.val).waiting = true → exec (.trainFail p) s = .next s) ∧
    ((getPort s p.val).waiting = true → Completes (.trainRetryWait p) s fun t => lstate t p.val = 1 ∧ (getPort t p.val).waiting = false) ∧
    ((getPort s p.val).waiting = false → exec (.trainRetryWait p) s = .next s)) ∧
  (∀ (p : Fin 2) (s : State), (8 ≤ lstate s p.val → lstate s p.val ≤ 11 → Completes (.codewordLockLost p) s fun t => lstate t p.val = 1 ∧
      (lstate s p.val ≤ 9 → getB t (mrBase p.val + 0x10) 9 = true ∧ getB t (mrBase p.val + 0x10) 8 = false ∧ rd t (mrBase p.val + 0x3C) = rd s (mrBase p.val + 0x3C) + 1 ∧
        (getPort t p.val).marks = [] ∧ (getPort t p.val).delays = [])) ∧
    (lstate s p.val < 8 ∨ 11 < lstate s p.val → exec (.codewordLockLost p) s = .next s)) ∧
  (∀ (p : Fin 2) (s : State), (lstate s p.val = 8 ∨ lstate s p.val = 9 → getB s (mrBase p.val + 4) 4 = true → getF s (mrBase p.val + 4) 3 2 < rateOfPort s p.val →
      Completes (.fallback p) s fun t => lstate t p.val = 3 ∧ (getPort t p.val).trial = rateOfPort s p.val - 1 ∧ getB t (mrBase p.val + 0x10) 10 = true ∧
        getF t (mrBase p.val + 0x14) 23 16 = (getF s (mrBase p.val + 0x14) 23 16 + 1) % 256) ∧
    (lstate s p.val ≠ 8 → lstate s p.val ≠ 9 → exec (.fallback p) s = .next s) ∧
    (lstate s p.val = 8 ∨ lstate s p.val = 9 → getB s (mrBase p.val + 4) 4 = false ∨ rateOfPort s p.val ≤ getF s (mrBase p.val + 4) 3 2 → Completes (.fallback p) s fun t =>
      lstate t p.val = lstate s p.val ∧ ∀ o, o ≠ mrBase p.val + 0x2C → rd t o = rd s o)) ∧
  (∀ (p : Fin 2) (s : State), (lstate s p.val = 8 → rateOfPort s p.val < getF s (mrBase p.val + 4) 1 0 → getF s (mrBase p.val + 4) 31 24 ≠ 0 →
      (200 + getF s (mrBase p.val + 4) 15 8 : Int) ≤ signedOf 16 (getF s (mrBase p.val + 0x18) 15 0) → upstream s ≠ some p.val ∨ getB s 0xA00C4 5 = true →
      Completes (.rateUpHoldExpiry p) s fun t => lstate t p.val = 3 ∧ (getPort t p.val).trial = getF s (mrBase p.val + 4) 1 0) ∧
    (lstate s p.val ≠ 8 ∨ getF s (mrBase p.val + 4) 1 0 ≤ rateOfPort s p.val ∨ getF s (mrBase p.val + 4) 31 24 = 0 → exec (.rateUpHoldExpiry p) s = .next s)) ∧
  (∀ (p : Fin 2) (v : Word) (s : State), s.guard = some (mrBase p.val + 0x40, v) → guardInTimeR s = true →
    (bitOf v 0 = true → Completes (.mrPortDisable p (~~~v)) s fun t => lstate t p.val = 0 ∧ rd t (mrBase p.val + 0x40) = 1 ∧ t.guard = none) ∧
    (bitOf v 0 = false → lstate s p.val = 0 → Completes (.mrPortDisable p (~~~v)) s fun t => lstate t p.val = 1 ∧ rd t (mrBase p.val + 0x40) = 0 ∧ t.guard = none)) ∧
  (∀ (p : Fin 2) (c : Fin 5) (s : State),
    ((getCls s p.val c.val).sent = 0 ∨ c = 0 ∨ c = 3 → exec (.mrRetxTimeout p c) s = .next s) ∧
    ((getCls s p.val c.val).sent ≠ 0 → c = 1 ∨ c = 2 ∨ c = 4 → (getCls s p.val c.val).tries < 15 → Completes (.mrRetxTimeout p c) s fun t =>
      (getCls t p.val c.val).tries = (getCls s p.val c.val).tries + 1 ∧ (getCls t p.val c.val).q = (getCls s p.val c.val).q ∧
      rd t (mrBase p.val + 0x34) = rd s (mrBase p.val + 0x34) + BitVec.ofNat 32 (getCls s p.val c.val).sent ∧
      t.chain.out.length = s.chain.out.length + (getCls s p.val c.val).sent) ∧
    ((getCls s p.val c.val).sent ≠ 0 → c = 1 ∨ c = 2 ∨ c = 4 → 15 ≤ (getCls s p.val c.val).tries → Completes (.mrRetxTimeout p c) s fun t => lstate t p.val = 1))

/-- R260-R272: time over Mooring, the chain, frames. -/
def Obligations.MooringTimeAndChain : Prop :=
  (∀ (p : Fin 2) (s : State), (7 ≤ lstate s p.val → lstate s p.val ≤ 9 → Completes (.tmarkSend p) s fun t => (getPort t p.val).mseq = ((getPort s p.val).mseq + 1) % 65536 ∧
      ((getPort s p.val).mseq, t.ntb.net / 2 ^ 40) ∈ (getPort t p.val).marks ∧ t.chain.out.length = s.chain.out.length + 1 ∧
      rd t (mrBase p.val + 0x44) = rd s (mrBase p.val + 0x44) + 1) ∧
    (lstate s p.val < 7 ∨ 9 < lstate s p.val → exec (.tmarkSend p) s = .next s)) ∧
  (∀ (f : MFrame) (n sent : Nat) (s : State), arrives 0 1 f s = true → mrDst f = 0x1E → f.payload.length = 40 → (getPort s f.port.val).delays.length < 8 →
    (getPort s f.port.val).marks.find? (fun m => m.1 == leAt f.payload 2 2) = some (leAt f.payload 2 2, sent) →
    Completes (.timeSync f n) s fun t =>
      let tptx := ((leAt f.payload 4 8 * 1000000000 + leAt f.payload 0xC 4 % 2 ^ 30) * 65536 + leAt f.payload 0x10 2 : Int)
      let tprx := ((leAt f.payload 0x14 8 * 1000000000 + leAt f.payload 0x1C 4 % 2 ^ 30) * 65536 + leAt f.payload 0x12 2 : Int)
      rd t (mrBase f.port.val + 0x20) = BitVec.ofInt 32 (rdiv (((n - tptx) + (tprx - sent)) * 1000) 131072) ∧
      rd t (mrBase f.port.val + 0x24) = BitVec.ofInt 32 (rdiv (((n - tptx) - (tprx - sent)) * 1000 + getS s (mrBase f.port.val + 0xC) * 65536) 131072) ∧
      (getPort t f.port.val).good = (getPort s f.port.val).good + 1 ∧ (getPort t f.port.val).bad = 0 ∧ (getPort t f.port.val).peerMark = some (leAt f.payload 0 2, n)) ∧
  (∀ (f : MFrame) (n : Nat) (s : State), arrives 0 1 f s = true → mrDst f = 0x1E → f.payload.length = 40 →
    (getPort s f.port.val).marks.find? (fun m => m.1 == leAt f.payload 2 2) = none →
    Completes (.timeSync f n) s fun t => (getPort t f.port.val).peerMark = some (leAt f.payload 0 2, n) ∧ (∀ o, o ≠ mrBase f.port.val + 0x48 → rd t o = rd s o) ∧ t.ntb = s.ntb) ∧
  (∀ (p : Fin 2) (s : State), (lstate s p.val = 8 ∨ lstate s p.val = 9 → Completes (.timeExchangeMissing p) s fun t => (getPort t p.val).good = 0 ∧
      (getPort t p.val).bad = (getPort s p.val).bad + 1 ∧ (3 ≤ (getPort s p.val).bad → getB t (mrBase p.val + 0x10) 8 = false)) ∧
    (lstate s p.val ≠ 8 → lstate s p.val ≠ 9 → exec (.timeExchangeMissing p) s = .next s)) ∧
  (∀ s : State, Completes .helloSend s fun t => t.chain.bseq = (s.chain.bseq + 1) % 65536 ∧ t.ctx = s.ctx ∧
    (lstate s 0 < 8 ∨ 11 < lstate s 0 → lstate s 1 < 8 ∨ 11 < lstate s 1 → t.chain.out = s.chain.out)) ∧
  (∀ (f : MFrame) (s : State), arrivesForAll 1 1 f s = true → lstate s f.port.val = 8 → f.payload.length = 16 → f.chainId.toNat = chainId s → Completes (.hello f) s fun t =>
    getB t 0xA00C8 (mrSrc f) = true ∧ (getPeer t (mrSrc f)).eui = leAt f.payload 2 8 ∧ (getPeer t (mrSrc f)).prio = leAt f.payload 10 1 % 16 ∧
      (getPeer t (mrSrc f)).neighE = leAt f.payload 12 1 ∧ (getPeer t (mrSrc f)).neighW = leAt f.payload 13 1) ∧
  (∀ (d : Fin 16) (s : State), (d.val ≠ devOf s → getB s 0xA00C8 d.val = true → Completes (.helloMiss d) s fun t => getB t 0xA00C8 d.val = false ∧ getPeer t d.val = { lost := t.ntb.clk } ∧
      ∀ p, p < 2 → lstate s p = 8 → peerDev s p = d.val → lstate t p = 1) ∧
    (d.val = devOf s ∨ getB s 0xA00C8 d.val = false → exec (.helloMiss d) s = .next s)) ∧
  (∀ (f : MFrame) (s : State), arrivesForAll 1 2 f s = true → (leAt f.payload 3 1 = 1 → Completes (.linkEvent f) s fun t => getB t 0xA00C4 6 = false) ∧
    (leAt f.payload 3 1 = 0 → getB s 0xA00C4 5 = true → Completes (.linkEvent f) s fun t => getB t 0xA00C4 6 = true)) ∧
  (∀ (d : Fin 16) (s : State), ((portTo s d.val).isSome = true → exec (.unreachableDrop d) s = .next s) ∧
    (portTo s d.val = none → s.chain.asked = [] → Completes (.unreachableDrop d) s fun t =>
      t.chain = { s.chain with held := s.chain.held.filter (fun x => !(x.msg.dst == d.val && x.cls != 4 && decide (x.since + clocksOfNs 1000000000 ≤ t.ntb.clk))) } ∧
      (coreRuns s = true → ∀ x, s.chain.held.find? (fun x => x.msg.dst == d.val && x.cls != 4) = some x → x.since + clocksOfNs 1000000000 ≤ t.ntb.clk))) ∧
  (∀ (v : Word) (s : State), (lstate s 0 ≠ 0 ∨ lstate s 1 ≠ 0 → Completes (.mrChainCfgWrite v) s fun t => onlyRegs [0xA00C4] s t ∧ rd t 0xA00C4 = withBit (rd s 0xA00C4) 17 true) ∧
    (lstate s 0 = 0 → lstate s 1 = 0 → Completes (.mrChainCfgWrite v) s fun t => rd t 0xA00C0 = v &&& 0xFFFF00FF ∧ getF t 0x7801C 3 0 = fieldOf v 3 0 ∧
      rd t 0xA00C8 = BitVec.ofNat 32 (2 ^ fieldOf v 3 0) ∧ getF t 0xA00C4 3 0 = fieldOf v 3 0)) ∧
  (∀ (f : MFrame) (s : State), arrivesHere 2 0x20 f s = true →
    (s.chain.fwd.find? (fun x => x.1 == leAt f.payload 0 1 % 16 && x.2.1 == leAt (f.payload.drop 4) 4 2 && decide (s.ntb.clk < x.2.2.1 + twoSeconds)) = none →
      Completes (.eskelForward f) s fun t => t.keeper.reqs = s.keeper.reqs ++ [(16 + leAt f.payload 0 1 % 16, f.payload.drop 4)] ∧ t.ctx = s.ctx) ∧
    (∀ x, s.chain.fwd.find? (fun x => x.1 == leAt f.payload 0 1 % 16 && x.2.1 == leAt (f.payload.drop 4) 4 2 && decide (s.ntb.clk < x.2.2.1 + twoSeconds)) = some x →
      Completes (.eskelForward f) s fun t => t.keeper.reqs = s.keeper.reqs)) ∧
  (∀ (f : MFrame) (a : Ask) (s : State), arrivesHere 2 0x21 f s = true → s.chain.asked = [a] → a.tag = leAt (f.payload.drop 4) 4 2 → mrSrc f ∈ a.waits → a.node = false →
    Completes (.mrEskelAnswer f) s fun t => (a.waits.filter (· != mrSrc f) = [] → t.chain.asked = []) ∧
      (a.waits.filter (· != mrSrc f) ≠ [] → t.chain.asked = [{ a with waits := a.waits.filter (· != mrSrc f), results := a.results ++ [(mrSrc f, leAt (f.payload.drop 4) 12 2, f.payload.drop 20)] }])) ∧
  (∀ (f : MFrame) (s : State), mrTakes s f = true → mrBad s f = true → exec (.acknowledgementOnlyFrame f) s = .next (incW (mrBase f.port.val + 0x30) s) ∧
    exec (.marginReport f) s = .next (incW (mrBase f.port.val + 0x30) s) ∧ exec (.hello f) s = .next (incW (mrBase f.port.val + 0x30) s)) ∧
  (∀ (f : MFrame) (s : State), mrTakes s f = true → mrBad s f = false → f.typ = 0 → f.ack.toNat = (getCls s f.port.val (mrClassOf f)).base % 65536 →
    (getCls s f.port.val (mrClassOf f)).base < 65536 →
    exec (.acknowledgementOnlyFrame f) s = .next (incW (mrBase f.port.val + 0x48) s))

/-- R278-R289: the event fabric. -/
def Obligations.RhizomeFabric : Prop :=
  (∀ (ch : Fin 96) (s : State), (s.evf.arrivals.find? (fun a => a.1 == ch.val) = none → exec (.evcFire ch) s = .next s) ∧
    (s.evf.arrivals.find? (fun a => a.1 == ch.val) = some (ch.val, s.ntb.clk) → ch.val ≥ 16 ∨ (∀ c, c < 96 → fieldOf (rd s (0x80000 + 16 * c)) 7 0 ≠ 240 + ch.val) →
      (getF s (evcBase ch.val + 8) 15 0 = 0 ∨ tabGet (fun _ => 0) s.evf.lastFire ch.val = 0 ∨
          tabGet (fun _ => 0) s.evf.lastFire ch.val + getF s (evcBase ch.val + 8) 15 0 ≤ s.ntb.clk + 1 → Completes (.evcFire ch) s fun t =>
        getF t (evcBase ch.val + 0xC) 15 0 = (getF s (evcBase ch.val + 0xC) 15 0 + 1) % 65536 ∧ tabGet (fun _ => 0) t.evf.lastFire ch.val = s.ntb.clk + 1 ∧
        t.evf.deliveries = s.evf.deliveries ++ (evcTasks s ch.val).map (fun x => (x, s.ntb.clk + 1))) ∧
      (getF s (evcBase ch.val + 8) 15 0 ≠ 0 → tabGet (fun _ => 0) s.evf.lastFire ch.val ≠ 0 →
          s.ntb.clk + 1 < tabGet (fun _ => 0) s.evf.lastFire ch.val + getF s (evcBase ch.val + 8) 15 0 → Completes (.evcFire ch) s fun t =>
        t.evf.deliveries = s.evf.deliveries ∧ getF t (evcBase ch.val + 0xC) 15 0 = getF s (evcBase ch.val + 0xC) 15 0 ∧
        getF t (evcBase ch.val + 0xC) 31 24 = min (getF s (evcBase ch.val + 0xC) 31 24 + 1) 255))) ∧
  (∀ (k : Fin 192) (s : State), (s.evf.deliveries.find? (fun d => d.1 == k.val) = none → exec (.taskDelivery k) s = .next s) ∧
    (s.evf.deliveries.find? (fun d => d.1 == k.val) = some (k.val, s.ntb.clk) → quiet s = true →
      (taskBusy s k.val = true → Completes (.taskDelivery k) s fun t => getB t (0x80840 + k.val / 32 * 4) (k.val % 32) = true ∧
        t.evf.deliveries = s.evf.deliveries.filter (· != (k.val, s.ntb.clk)) ∧ t.ops = s.ops) ∧
      (2 ≤ (s.evf.deliveries.filter (· == (k.val, s.ntb.clk))).length → Completes (.taskDelivery k) s fun t =>
        getB t (0x80860 + k.val / 32 * 4) (k.val % 32) = true) ∧
      (156 ≤ k.val → k.val < 172 → Completes (.taskDelivery k) s fun t => getB t 0x80808 (k.val - 156) = true) ∧
      (176 ≤ k.val → k.val < 180 → Completes (.taskDelivery k) s fun t => getB t 0x80804 (k.val - 176) = false) ∧
      (172 ≤ k.val → k.val < 176 → tabGet (fun _ => 0) s.evf.swClear (k.val - 172) = 0 → Completes (.taskDelivery k) s fun t => getB t 0x80804 (k.val - 172) = true) ∧
      (152 ≤ k.val → k.val < 156 → Completes (.taskDelivery k) s fun t => getB t (0x80910 + 32 * (k.val - 152)) 0 = true ∧
        (getB s (0x80910 + 32 * (k.val - 152)) 0 = true → getB t (0x80910 + 32 * (k.val - 152)) 1 = true) ∧
        tabGet (fun _ => (0, 0)) t.stamps (k.val - 152) = (s.ntb.net, stepByte s)) ∧
      (144 ≤ k.val → k.val < 148 → tabGet (fun _ => none) s.evf.notify (k.val - 144) = none → Completes (.taskDelivery k) s fun t =>
        tabGet (fun _ => none) t.evf.notify (k.val - 144) = some (s.ntb.net, stepByte s)))) ∧
  (∀ (n : Fin 4) (s : State), (tabGet (fun _ => none) s.evf.notify n.val = none → exec (.rhizomeNotify n) s = .next s) ∧
    (∀ x, tabGet (fun _ => none) s.evf.notify n.val = some x → Completes (.rhizomeNotify n) s fun t => tabGet (fun _ => none) t.evf.notify n.val = none ∧
      t.keeper.evSeq = (s.keeper.evSeq + 1) % 2 ^ 32 ∧ t.keeper.logNext = (s.keeper.logNext + 1) % 2 ^ 32)) ∧
  (∀ (v : Word) (s : State), coreRuns s = true → Completes (.evfSwtrig v) s fun t => t.reg = s.reg ∧
    ∀ i ch, i < 4 → ch < 96 → bitOf v i = true → getB s (evcBase ch) 31 = true → getF s (evcBase ch) 7 0 = 1 + i → gateOf s ch = true →
      (ch, t.ntb.clk) ∈ t.evf.arrivals) ∧
  (∀ (v : Word) (s : State), Completes (.evfSwgateWrite v) s fun t => onlyRegs [0x80804] s t ∧ rd t 0x80804 = v &&& 0xF) ∧
  (∀ (v : Word) (s : State), Completes (.evfCountClr v) s fun t => ∀ ch, ch < 96 → rd t (evcBase ch + 0xC) =
    if bitOf v 7 = true ∨ fieldOf v 6 0 = ch then 0 else rd s (evcBase ch + 0xC)) ∧
  (∀ (n : Fin 4) (s : State), Completes (.timestampRead n) s fun t => t.lastRead = rd s (0x80900 + 32 * n.val) ∧ getB t (0x80910 + 32 * n.val) 0 = false ∧
    { t with reg := s.reg, lastRead := s.lastRead } = s ∧
    rd t (0x8090C + 32 * n.val) = BitVec.ofNat 32 (fracOf (tabGet (fun _ => (0, 0)) s.stamps n.val).1) ∧
    rd t (0x80904 + 32 * n.val) = BitVec.ofNat 32 (secOf (tabGet (fun _ => (0, 0)) s.stamps n.val).1 / 2 ^ 32)) ∧
  (∀ s : State, (getF s 0x80810 15 0 = 0 → exec .loopWatch s = .next s) ∧
    (getF s 0x80810 15 0 ≠ 0 → Completes .loopWatch s fun t => ∀ ch, ch < 96 →
      tabGet (fun _ => 0) t.evf.lastCount ch = evcCount s ch ∧
      (evcHigh s ch = false → tabGet (fun _ => 0) t.evf.loopRun ch = 0) ∧
      (evcHigh s ch = true → max 1 (getF s 0x80810 19 16) ≤ tabGet (fun _ => 0) s.evf.loopRun ch + 1 →
        getB t (0x80880 + ch / 32 * 4) (ch % 32) = true ∧ (getB s 0x80810 24 = true → getB t (evcBase ch) 31 = false))))

/-- R291-R302, R305: the cipher queue. -/
def Obligations.CipherQueue : Prop :=
  (∀ (u : Fin 17) (d : List Byte) (s : State), s.cipher.waiting = [] →
    (hasRoom s u.val = true → Completes (.cphSubmit u d) s fun t => t.cipher.reqs = s.cipher.reqs ++ [{ sub := u.val, desc := padTo 48 d, clk := s.ntb.clk }] ∧ t.cipher.waiting = [] ∧
      getF t 0x90004 22 16 = (s.cipher.reqs.length + 1) % 128) ∧
    (hasRoom s u.val = false → exec (.cphSubmit u d) s = .next { s with cipher := { s.cipher with waiting := [(u.val, padTo 48 d)] } })) ∧
  (∀ (c : Fin 8) (s : State), coreFree s c.val = false ∨ s.cipher.reqs = [] → exec (.cphStart c) s = .next s) ∧
  (∀ (c : Fin 8) (r : CphReq) (s : State), coreFree s c.val = true → s.cipher.reqs = [r] → r.core = none → r.result = none → r.sub < 18 → s.cipher.changes = [] →
    Completes (.cphStart c) s fun t => t.pkt = s.pkt ∧ (coreRuns s = true → r.clk + 4 ≤ t.ntb.clk) ∧ t.cipher.reqs =
      [if preStart s r.sub r.desc = 0 then { r with core := some c.val, key := (keyOf s (dKey r.desc)).getD [], clk := t.ntb.clk }
       else { r with result := some (preStart s r.sub r.desc), clk := t.ntb.clk }]) ∧
  (∀ (c : Fin 8) (f : Bool) (s : State), s.cipher.reqs.all (fun r => r.core != some c.val) = true → exec (.cphCoreDone c f) s = .next s) ∧
  (∀ (c : Fin 8) (r : CphReq) (rs : List CphReq) (s : State), s.cipher.reqs = r :: rs → r.core = some c.val →
    ((coreRuns s = true → Completes (.cphCoreDone c true) s fun t => r.clk + cipherClocks r.desc r.key ≤ t.ntb.clk) ∧
    Completes (.cphCoreDone c true) s fun t => t.cipher.reqs = { r with core := none, result := some 7, clk := t.ntb.clk } :: rs ∧ getB t 0x90004 (8 + c.val) = true ∧ t.pkt = s.pkt) ∧
    (let out := cipherRun r.key r.desc (pktRead s (dAad r.desc) (dAadLen r.desc)) (pktRead s (dSrc r.desc) (dLen r.desc)) (pktRead s (dTag r.desc) (dTagLen r.desc))
     (out = none → Completes (.cphCoreDone c false) s fun t => t.cipher.reqs = { r with core := none, result := some 1, clk := t.ntb.clk } :: rs ∧ t.pkt = s.pkt) ∧
     (∀ p, out = some p → Completes (.cphCoreDone c false) s fun t => t.cipher.reqs = { r with core := none, result := some 0, clk := t.ntb.clk } :: rs ∧
        t.pkt = tabWriteBytes zeroByte (tabWriteBytes zeroByte s.pkt (dDst r.desc) p.1) (dTag r.desc) p.2))) ∧
  (∀ (u : Fin 18) (r : CphReq) (s : State), s.cipher.reqs = [r] → r.sub = u.val → s.cipher.waiting = [] →
    (r.result = none → exec (.cphCompletion u) s = .next s) ∧
    (∀ st, r.result = some st → s.cipher.results.length < 4 → Completes (.cphCompletion u) s fun t => rd t 0x90008 = rd s 0x90008 + 1 ∧
      (u.val = 17 → t.cipher.reqs = [] ∧ t.cipher.results = s.cipher.results ++ [(st, dRtag r.desc)] ∧ getB t 0x90004 26 = true) ∧
      (u.val ≠ 17 → st = 7 → t.cipher.reqs = [{ sub := u.val, desc := padTo 48 r.desc, clk := t.ntb.clk }]) ∧ (u.val ≠ 17 → st ≠ 7 → t.cipher.reqs = []))) ∧
  (∀ (v : Word) (s : State), (bitOf v 0 = false → exec (.cphHsubmit v) s = .next s) ∧
    (bitOf v 0 = true → 4 ≤ heldBy s 17 → Completes (.cphHsubmit v) s fun t => onlyRegs [0x90004] s t ∧ rd t 0x90004 = withBit (rd s 0x90004) 25 true) ∧
    (bitOf v 0 = true → heldBy s 17 < 4 → s.cipher.reqs.length < 64 → Completes (.cphHsubmit v) s fun t =>
      t.cipher.reqs = s.cipher.reqs ++ [{ sub := 17, desc := padTo 48 ((List.range 12).flatMap (fun k => leBytes 4 (rd s (0x900A0 + 4 * k)).toNat)), clk := s.ntb.clk }])) ∧
  (∀ s : State, Completes .cphHresultRead s fun t => t.cipher.results = s.cipher.results.drop 1 ∧ t.cipher.reqs = s.cipher.reqs ∧
    (s.cipher.results = [] → t.lastRead = 0xFFFF00FF) ∧
    ∀ p, s.cipher.results.head? = some p → t.lastRead = BitVec.ofNat 32 (p.1 % 256 + 65536 * (p.2 % 65536))) ∧
  (∀ (v : Word) (s : State), Completes (.cphCfgWrite v) s fun t =>
    if (List.range 8).any (fun c => bitOf v c && !getB s 0x90004 (8 + c)) = true then onlyRegs [0x90000] s t ∧ rd t 0x90000 = v &&& 0xFF
    else onlyRegs [0x90004] s t ∧ rd t 0x90004 = withBit (rd s 0x90004) 24 true) ∧
  (∀ (x : KeyChange) (s : State), (s.cipher.changes.find? (fun c => !keyHeld s c.code) = none → exec .keySlotChange s = .next s) ∧
    (s.cipher.changes.find? (fun c => !keyHeld s c.code) = some x → x.code < 256 → Completes .keySlotChange s fun t =>
      t.cipher.changes = s.cipher.changes.erase x ∧ (∀ k, k ≠ x.code → getKey t k = getKey s k) ∧
      getKey t x.code = { x.slot with gen := if x.slot.valid then ((getKey s x.code).gen + 1) % 65536 else (getKey s x.code).gen })) ∧
  (∀ (v : Word) (s : State), s.guard = some (0x90040, v) → guardInTimeR s = true → s.cipher.changes = [] → s.cipher.reqs = [] → Completes (.cphKeyInval (~~~v)) s fun t => t.guard = none ∧
    ∀ k, k < 256 → getKey t k = if (bitOf v 8 = true ∧ k ≠ 0) ∨ (bitOf v 8 = false ∧ fieldOf v 7 0 = k) then { gen := (getKey s k).gen } else getKey s k)

/-- R307-R314: the barrier link. -/
def Obligations.BarrierLink : Prop :=
  (∀ (h r : BitVec 4) (s : State), hostRuns s = true → s.power.dead = false → upR s = false → upH s = false →
    (h = 0 ∨ r = 0 → Completes (.barrierTraining h r) s fun t => getF t 0x10 1 0 = 0 ∧ hgetF t 0x2000 1 0 = 0 ∧ hrd t 0x201C = hrd s 0x201C + 1) ∧
    (h ≠ 0 → r ≠ 0 → Completes (.barrierTraining h r) s fun t => getF t 0x10 1 0 = 2 ∧ hgetF t 0x2000 1 0 = 2 ∧ getF t 0x10 7 4 = h.toNat ∧ getF t 0x10 11 8 = r.toNat ∧
      hgetF t 0x2000 7 4 = r.toNat ∧ hgetF t 0x2000 11 8 = h.toNat ∧ hgetB t 0x2000 17 = (!(h == 15 && r == 15) && !islandOnly s))) ∧
  (∀ (h r : BitVec 4) (s : State), (upR s = true ∨ upH s = true → exec (.barrierTraining h r) s = .next s) ∧
    (upR s = false → upH s = false → s.power.dead = true → hostRuns s = true → hgetF s 0x2000 1 0 ≠ 0 →
      Completes (.barrierTraining h r) s fun t => onlyHregs [0x2000, 0x201C] s t ∧ hgetF t 0x2000 1 0 = 0 ∧ hrd t 0x201C = hrd s 0x201C + 1) ∧
    (upR s = false → upH s = false → s.power.dead = false → hostRuns s = false →
      Completes (.barrierTraining h r) s fun t => onlyRegs [0x10] s t ∧ getF t 0x10 1 0 = 0)) ∧
  (∀ s : State, Completes .barrierRetry s fun t => (getF s 0x10 1 0 = 0 → getF t 0x10 1 0 = 1) ∧ (getF s 0x10 1 0 ≠ 0 → rd t 0x10 = rd s 0x10) ∧
    (hgetF s 0x2000 1 0 = 0 → hgetF t 0x2000 1 0 = 1) ∧ (hgetF s 0x2000 1 0 ≠ 0 → hrd t 0x2000 = hrd s 0x2000)) ∧
  (∀ s : State, (upR s = true → upH s = true → Completes .barrierSilence s fun t => getF t 0x10 1 0 = 1 ∧ hgetF t 0x2000 1 0 = 1 ∧ t.linkH.train = t.age ∧
      min s.linkR.heard s.linkH.heard + clocksOfNs 3000000 ≤ t.age ∧
      t.linkR.q = s.linkR.q ∧ t.linkH.q = s.linkH.q ∧ hrd t 0x201C = hrd s 0x201C + 1 ∧ hgetB t 0x4D00 5 = true) ∧
    (upR s = false → upH s = false → exec .barrierSilence s = .next s)) ∧
  (∀ (d : Die) (s : State), (upEnd s d = false ∨ (getEnd s d).sent = 0 → exec (.barrierRetxTimeout d) s = .next s) ∧
    (upEnd s d = true → (getEnd s d).sent ≠ 0 → (getEnd s d).tries < 15 → Completes (.barrierRetxTimeout d) s fun t => getEnd t d = { getEnd s d with tries := (getEnd s d).tries + 1, since := t.age } ∧
      (getEnd s d).since + clocksOfNs 10000 ≤ t.age ∧
      upEnd t d = true ∧ (d = .host → hrd t 0x2010 = hrd s 0x2010 + BitVec.ofNat 32 (getEnd s d).sent)) ∧
    (upEnd s d = true → (getEnd s d).sent ≠ 0 → 15 ≤ (getEnd s d).tries → Completes (.barrierRetxTimeout d) s fun t => upEnd t d = false ∧ (getEnd t d).q = (getEnd s d).q)) ∧
  (∀ (d : Die) (m : BMsg) (s : State), upEnd s d = true → bmsgCrcOk m = true → m.typ = 0 → m.len = 0 → m.payload = [] →
    let n := (m.ack.toNat + 65536 - (getEnd s d).base) % 65536
    (n = 0 ∨ (getEnd s d).sent < n → exec (.ack d m) s = .next (setEnd d { getEnd s d with heard := s.age } s)) ∧
    (n ≠ 0 → n ≤ (getEnd s d).sent → d = .host ∨ (s.keeper.evHold = [] ∧ s.keeper.upHold = [] ∧ s.keeper.evLost = 0) → Completes (.ack d m) s fun t => (getEnd t d).q = (getEnd s d).q.drop n ∧ (getEnd t d).base = ((getEnd s d).base + n) % 65536 ∧
      (getEnd t d).tries = 0 ∧ (getEnd t d).rxNext = (getEnd s d).rxNext)) ∧
  (∀ (m : BMsg) (s : State), m.typ.toNat = 4 → upEnd s .host = true → (bmsgCrcOk m = false → exec (.eskelEvent m) s = .next (hincW 0x200C s)) ∧
    (bmsgCrcOk m = true → m.seq.toNat ≠ s.linkH.rxNext → exec (.eskelEvent m) s = .next { s with linkH := { s.linkH with heard := s.age } })) ∧
  (∀ (m : BMsg) (s : State), upH s = true → bmsgCrcOk m = true → m.typ ≠ 0 → m.seq.toNat = s.linkH.rxNext → bCause s .host m ≠ 0 → bCause s .host m < 8 →
    m.ack.toNat = s.linkH.base → s.linkH.base < 65536 → Completes (.eskelEvent m) s fun t => hrd t 0x2014 = hrd s 0x2014 + 1 ∧ hgetB t 0x2000 16 = true ∧
      hgetF t 0x2018 7 0 = m.typ.toNat ∧ hgetF t 0x2018 10 8 = bCause s .host m ∧ hgetF t 0x2018 31 16 = m.len.toNat ∧ hgetB t 0x4D00 7 = true ∧
      t.linkH.rxNext = (s.linkH.rxNext + 1) % 65536 ∧ t.tender.hold1 = s.tender.hold1) ∧
  (∀ (m : BMsg) (s : State), upR s = true → bmsgCrcOk m = true → m.typ ≠ 0 → m.seq.toNat = s.linkR.rxNext → bCause s .radio m ≠ 0 → m.ack.toNat = s.linkR.base → s.linkR.base < 65536 →
    Completes (.eskelReq m) s fun t => t.keeper.reqs = s.keeper.reqs ∧ t.keeper.logNext = (s.keeper.logNext + 1) % 2 ^ 32 ∧ t.linkR.rxNext = (s.linkR.rxNext + 1) % 65536) ∧
  (∀ (m : BMsg) (s : State), comesThrough 1 .host m s = true → s.linkH.peerResets = none ∨ s.linkH.peerResets = some (leAt m.payload 0 2) → Completes (.linkState .host m) s fun t =>
    hgetF t 0x1000 5 4 = leAt m.payload 4 1 ∧ t.linkH.peerResets = some (leAt m.payload 0 2)) ∧
  (∀ (m : BMsg) (s : State), comesThrough 1 .radio m s = true → Completes (.linkState .radio m) s fun t => t.linkR.xoff = leAt m.payload 5 1 ∧
    t.linkR.peerResets = some (leAt m.payload 0 2))

/-- R309 and the rules of each message. -/
def Obligations.BarrierMessages : Prop :=
  (∀ (m : BMsg) (s : State), comesThrough 2 .radio m s = true → Completes (.eskelReq m) s fun t => t.keeper.reqs = s.keeper.reqs ++ [(leAt m.payload 0 1, m.payload.drop 4)] ∧
    t.reg = s.reg ∧ t.linkR.rxNext = (s.linkR.rxNext + 1) % 65536) ∧
  (∀ (m : BMsg) (s : State), comesThrough 3 .host m s = true → leAt m.payload 4 2 ≠ 0x0E01 → Completes (.eskelAnswer m) s fun t => t.tender.hold0 = s.tender.hold0 ++ [m.payload] ∧
    (leAt m.payload 16 2 ≠ 8 → t.tender.tags = s.tender.tags.filter (fun x => x.tag != leAt m.payload 8 2)) ∧
    (leAt m.payload 16 2 = 8 → t.tender.tags = s.tender.tags.map (fun x => if x.tag = leAt m.payload 8 2 then { x with pend := true } else x))) ∧
  (∀ (m : BMsg) (s : State), comesThrough 4 .host m s = true → Completes (.eskelEvent m) s fun t => t.tender.hold1 = s.tender.hold1 ++ [m.payload] ∧ hrd t 0x2008 = hrd s 0x2008 + 1 ∧
    t.tender.tags = if leAt m.payload 0 2 = 0x100 then s.tender.tags.filter (fun x => x.tag != leAt m.payload 4 2) else s.tender.tags) ∧
  (∀ (m : BMsg) (s : State), comesThrough 5 .host m s = true → Completes (.uplink m) s fun t => t.tender.hold2 = s.tender.hold2 ++ [m.payload] ∧ t.tender.tags = s.tender.tags) ∧
  (∀ (m : BMsg) (s : State), comesThrough 6 .host m s = true → m.payload.length = 32 → s.tender.mirror.length < 4096 → leAt m.payload 14 2 ≠ 0x16A → Completes (.logEntry m) s fun t =>
    t.tender.hold3 = s.tender.hold3 ++ [m.payload] ∧ t.tender.mirror = s.tender.mirror ++ [m.payload]) ∧
  (∀ (m : BMsg) (s : State), comesThrough 7 .radio m s = true → (m.ack.toNat + 65536 - s.linkR.base) % 65536 = 0 ∨ s.linkR.sent < (m.ack.toNat + 65536 - s.linkR.base) % 65536 → Completes (.imageChunk m) s fun t => t.reg = s.reg ∧
    t.image = tabWriteBytes zeroByte s.image (2 ^ 21 * (1 + leAt m.payload 0 1 % 2) + leAt m.payload 4 4 % 2 ^ 21) (m.payload.drop 8)) ∧
  (∀ (m : BMsg) (s : State), comesThrough 8 .radio m s = true → (m.ack.toNat + 65536 - s.linkR.base) % 65536 = 0 ∨ s.linkR.sent < (m.ack.toNat + 65536 - s.linkR.base) % 65536 →
    (leAt m.payload 0 1 = 1 → bootStage s = 1 → Completes (.startKeeper m) s fun t => bootStage t = 2 ∧ rd t 0xC0000 = BitVec.ofNat 32 (imgVer s s.boot.slot) ∧ t.keeper.wdtOn = true) ∧
    (leAt m.payload 0 1 = 1 → bootStage s ≠ 1 → Completes (.startKeeper m) s fun t => t.reg = s.reg) ∧
    (leAt m.payload 0 1 = 2 → bootStage s = 2 → ∀ bad, Completes (.loadFronds m bad) s fun t => bootStage t = 4) ∧
    (leAt m.payload 0 1 = 2 → bootStage s ≠ 2 → ∀ bad, Completes (.loadFronds m bad) s fun t => t.reg = s.reg) ∧
    (leAt m.payload 0 1 = 3 → bootStage s ≠ 4 → ∀ bad, Completes (.radioUp m bad) s fun t => t.reg = s.reg)) ∧
  (∀ (m : BMsg) (s : State), comesThrough 8 .radio m s = true → leAt m.payload 0 1 = 3 → bootStage s = 4 → ∀ bad, Completes (.radioUp m bad) s fun t => bootStage t = 5) ∧
  (∀ (m : BMsg) (s : State), comesThrough 8 .radio m s = true → leAt m.payload 0 1 = 4 → getB s 0x10000 8 = false → s.power.ponrDue = none → leAt m.payload 4 4 = radioPower s →
    Completes (.wake m) s fun t => radioPower t = radioPower s ∧ getB t 0x10000 8 = false) ∧
  (∀ (m : BMsg) (s : State), comesThrough 0xA .radio m s = true → s.tender.radioReady = false → leAt m.payload 4 4 < 256 → s.cipher.reqs = [] → s.cipher.changes = [] →
    Completes (.keyLoadMessage m) s fun t => (∀ k, k ≠ leAt m.payload 4 4 → getKey t k = getKey s k) ∧
      (usageRefused (leAt m.payload 4 4) (leAt m.payload 8 4 / 16 % 16) ((leAt m.payload 8 4).testBit 0) = true → getKey t (leAt m.payload 4 4) = getKey s (leAt m.payload 4 4)) ∧
      (usageRefused (leAt m.payload 4 4) (leAt m.payload 8 4 / 16 % 16) ((leAt m.payload 8 4).testBit 0) = false →
        (getKey t (leAt m.payload 4 4)).valid = true ∧ (getKey t (leAt m.payload 4 4)).usage = leAt m.payload 8 4 / 16 % 16 ∧
        (getKey t (leAt m.payload 4 4)).gen = ((getKey s (leAt m.payload 4 4)).gen + 1) % 65536 ∧
        (getKey t (leAt m.payload 4 4)).key = (m.payload.drop 16).take (if (leAt m.payload 8 4).testBit 0 then 32 else 16))) ∧
  (∀ (m : BMsg) (s : State), comesThrough 0xB .host m s = true → s.rtc.sync = none → Completes (.netTime m) s fun t => t.tender.netS = leAt m.payload 0 8 ∧
    t.tender.netNs = leAt m.payload 8 4 % 2 ^ 30 ∧ t.tender.netStep = leAt m.payload 12 1 ∧ t.tender.netState = leAt m.payload 13 1 ∧ t.tender.netSeen = true) ∧
  (∀ (m : BMsg) (s : State), comesThrough 0xC .radio m s = true → s.power.fault = false → Completes (.radioReset m) s fun t => t.keeper.reqs = [] ∧ t.cipher.reqs = [] ∧
    t.linkR.resets = s.linkR.resets + 1 ∧ rd t 0x50004 = 0x10) ∧
  (∀ (m : BMsg) (s : State), comesThrough 9 .host m s = true → leAt m.payload 0 1 ≠ 0 → s.boot.mode ≠ 1 → Completes (.bootStatus m) s fun t => t.boot.stage = leAt m.payload 0 1 ∧ t.tender.tags = s.tender.tags)

/-- R317, R318, R333, R339-R342: request windows. -/
def Obligations.RequestWindows : Prop :=
  (∀ (o : Word) (z : AccSize) (v : Word) (s : State), winState s (accAddr z (o.toNat % 65536) / 4096) = 0 → Completes (.reqWindowWrite o z v) s fun t =>
    (∀ k, k < (accBytes z v).length → tabGet zeroByte t.reqMem (accAddr z (o.toNat % 65536) + k) = (accBytes z v).getD k 0) ∧
    (∀ a, a < accAddr z (o.toNat % 65536) ∨ accAddr z (o.toNat % 65536) + (accBytes z v).length ≤ a → tabGet zeroByte t.reqMem a = tabGet zeroByte s.reqMem a) ∧
    t.reg = s.reg ∧ t.hreg = s.hreg ∧ t.tender = s.tender) ∧
  (∀ (o : Word) (z : AccSize) (v : Word) (s : State), winState s (accAddr z (o.toNat % 65536) / 4096) ≠ 0 → Completes (.reqWindowWrite o z v) s fun t =>
    t.reqMem = s.reqMem ∧ hgetB t 0x3008 1 = true ∧ hgetF t 0x3008 7 4 = accAddr z (o.toNat % 65536) / 4096 ∧ hgetB t 0x4D00 8 = true ∧ hrd t 0x3004 = hrd s 0x3004) ∧
  (∀ (v : Word) (s : State), winState s (fieldOf v 3 0) = 0 → s.boot.mode = 1 ∨ s.boot.mode = 2 → s.boot.standby = false →
    spiMode s = false ∨ (fieldOf v 3 0 < 14 ∧ hgetB s 0x3010 (fieldOf v 3 0) = false) → Completes (.doorbell v) s fun t =>
      winState t (fieldOf v 3 0) = 1 ∧ (∀ w, w < 16 → w ≠ fieldOf v 3 0 → winState t w = winState s w) ∧ t.reqMem = s.reqMem ∧ ∀ o, o ≠ 0x3004 → hrd t o = hrd s o) ∧
  (∀ (v : Word) (s : State), winState s (fieldOf v 3 0) ≠ 0 ∨ (s.boot.mode ≠ 1 ∧ s.boot.mode ≠ 2) ∨ s.boot.standby = true → Completes (.doorbell v) s fun t =>
      hrd t 0x3004 = hrd s 0x3004 ∧ hgetB t 0x3008 0 = true ∧ hgetF t 0x3008 7 4 = fieldOf v 3 0 ∧ hgetB t 0x4D00 8 = true ∧ t.reqMem = s.reqMem) ∧
  (∀ (w : Fin 16) (s : State), winState s w.val ≠ 1 ∨ s.linkH.xoff.testBit 0 = true → exec (.tenderCopy w) s = .next s) ∧
  (∀ (w : Fin 16) (s : State), winState s w.val = 1 → s.linkH.xoff.testBit 0 = false → s.boot.mode = 1 ∨ s.boot.mode = 2 →
    let p := postedIn s w.val
    let bad := decide (p.f 2 1 ≠ 0 ∨ p.f 0xE 1 ≠ 1 ∨ p.f 0xC 2 ≠ 0 ∨ p.f 0xF 1 ≠ 0 ∨ 32 ≤ p.f 3 1)
    (bad = true → Completes (.tenderCopy w) s fun t => requestRefused w.val 12 s t ∧ t.tender.last = s.tender.last) ∧
    (bad = false → 4080 < p.len → Completes (.tenderCopy w) s fun t => requestRefused w.val 4 s t ∧ t.tender.last = s.tender.last) ∧
    (bad = false → p.len ≤ 4072 → inCatalogue p.opcode = false → Completes (.tenderCopy w) s fun t => requestRefused w.val 11 s t ∧ t.tender.last = s.tender.last) ∧
    (formCheck s p = 0 → p.critical = true → cmacOk s p = false → Completes (.tenderCopy w) s fun t => requestRefused w.val 1 s t ∧ t.tender.last = s.tender.last) ∧
    (formCheck s p = 0 → p.critical = true → cmacOk s p = true → s.tender.last = 0xFFFFFFFF → Completes (.tenderCopy w) s fun t => requestRefused w.val 14 s t ∧ t.tender.last = s.tender.last) ∧
    (formCheck s p = 0 → p.critical = true → cmacOk s p = true → s.tender.last ≠ 0xFFFFFFFF → p.counter ≤ s.tender.last → Completes (.tenderCopy w) s fun t => requestRefused w.val 13 s t ∧ t.tender.last = s.tender.last) ∧
    (formCheck s p = 0 → authCheck s p = 0 → p.critical = true → counterFails s p.counter = true → Completes (.tenderCopy w) s fun t =>
      requestRefused w.val 24 s t ∧ t.tender.last = s.tender.last) ∧
    (formCheck s p = 0 → authCheck s p = 0 → (p.critical = true → counterFails s p.counter = false) → Completes (.tenderCopy w) s fun t => t.tender.last = if p.critical then p.counter else s.tender.last) ∧
    (formCheck s p = 0 → authCheck s p = 0 → (p.critical = true → counterFails s p.counter = false) → s.tender.tags.any (fun t => t.tag == p.tag) = true → Completes (.tenderCopy w) s fun t => requestRefused w.val 15 s t) ∧
    (formCheck s p = 0 → authCheck s p = 0 → (p.critical = true → counterFails s p.counter = false) → s.tender.tags.any (fun t => t.tag == p.tag) = false → hostCodes.contains p.opcode = false → tenderPower s p.opcode = false → upH s = false ∨ s.tender.radioReady = false →
      Completes (.tenderCopy w) s fun t => requestRefused w.val 10 s t) ∧
    (formCheck s p = 0 → authCheck s p = 0 → (p.critical = true → counterFails s p.counter = false) → lateCheck s p = 0 → Completes (.tenderCopy w) s fun t => winState t w.val = 0 ∧ t.tender.hold0 = s.tender.hold0 ∧
      (t.tender.tags.map (fun g => (g.tag, g.opcode, g.win, g.pend)) = s.tender.tags.map (fun g => (g.tag, g.opcode, g.win, g.pend)) ++ [(p.tag, p.opcode, w.val, false)]) ∧
      (hostCodes.contains p.opcode = true → t.tender.reqs = s.tender.reqs ++ [(w.val, p.bytes.take (16 + p.len))] ∧ t.linkH.q = s.linkH.q) ∧
      (hostCodes.contains p.opcode = false → p.opcode ≠ 0x8A01 → p.opcode ≠ 0x8B01 → t.tender.reqs = s.tender.reqs ∧
        t.linkH.q = s.linkH.q ++ [(2, leBytes 1 w.val ++ leBytes 3 0 ++ p.bytes.take (16 + p.len))])))

/-- R319-R322, R328: rings and SPI response windows. -/
def Obligations.ResponsePaths : Prop :=
  (∀ (c : Fin 4) (s : State), holdOf s.tender c.val = [] → exec (.responseWrite c) s = .next s) ∧
  (∀ (c : Fin 4) (s : State), ∀ m, (holdOf s.tender c.val).head? = some m → spiMode s = false →
    let r := ringOf s c.val
    let slot := ringSlot s r
    let n := (8 + m.length + slot - 1) / slot
    let pos := ringTail s r % ringSize s r
    let used := (ringTail s r + 2 ^ 32 - ringHead s r) % 2 ^ 32
    let pad := if ringSize s r < pos + n then ringSize s r - pos else 0
    let base := addr64 s (ringBase r)
    (ringOn s r = false ∨ s.tender.busMaster = false ∨ ringSize s r < used + pad + n → exec (.responseWrite c) s = .next s) ∧
    (ringOn s r = true → s.tender.busMaster = true → used + pad + n ≤ ringSize s r → c.val ≠ 1 → s.tender.msixEnable = false → Completes (.responseWrite c) s fun t =>
      t.tender.posted = s.tender.posted ++ (if pad = 0 then [] else [(base + pos * slot, ringEntry 0 7 pad (mseqOf s r) [])]) ++
        [(base + (ringTail s r + pad) % ringSize s r * slot, ringEntry m.length c.val n (mseqOf s r) m),
         (addr64 s (ringBase r + 0x14), leBytes 4 ((ringTail s r + pad + n) % 2 ^ 32))] ∧
      hrd t (ringBase r + 0xC) = BitVec.ofNat 32 (ringTail s r + pad + n) ∧ hrd t (ringBase r + 0x10) = hrd s (ringBase r + 0x10) ∧
      mseqOf t r = (mseqOf s r + 1) % 2 ^ 32 ∧ holdOf t.tender c.val = (holdOf s.tender c.val).drop 1 ∧ hgetB t 0x4D00 c.val = true ∧ t.reg = s.reg)) ∧
  (∀ s : State, ∀ m, s.tender.hold0.head? = some m → spiMode s = true →
    (hgetB s 0x3010 (leAt m 0 1) = true → exec (.responseWrite 0) s = .next s) ∧
    (leAt m 0 1 < 14 → hgetB s 0x3010 (leAt m 0 1) = false → Completes (.responseWrite 0) s fun t => hgetB t 0x3010 (leAt m 0 1) = true ∧
      t.rspMem = tabWriteBytes zeroByte s.rspMem (leAt m 0 1 * 0x1000) (m.drop 4) ∧ t.tender.hold0 = s.tender.hold0.drop 1 ∧ hgetB t 0x4D00 0 = true)) ∧
  (∀ (v : Word) (s : State), s.tender.spiRest = [] → Completes (.spiRelease v) s fun t => hrd t 0x3010 = (hrd s 0x3010 &&& ~~~v &&& 0xFFFF) ∧ t.rspMem = s.rspMem ∧ t.tender = s.tender ∧
    ∀ o, o ≠ 0x3010 → o ≠ 0x3018 → hrd t o = hrd s o) ∧
  (∀ (b : Bool) (s : State),
    let w := if b then 15 else 14
    (s.tender.spiWin ≠ w ∨ s.tender.spiFill = 0 ∨ hgetB s 0x3010 w = true → exec (.spiWindowTimer b) s = .next s) ∧
    (s.tender.spiWin = w → s.tender.spiFill ≠ 0 → hgetB s 0x3010 w = false → Completes (.spiWindowTimer b) s fun t => hgetB t 0x3010 w = true ∧ t.tender.spiWin = 29 - w ∧
      t.tender.spiFill = 0 ∧ t.rspMem = s.rspMem)) ∧
  (∀ (r : Fin 4) (v : Word) (s : State),
    (ringSize s r.val < (ringTail s r.val + 2 ^ 32 - v.toNat) % 2 ^ 32 → exec (.ringHeadWrite r v) s = .next (hsetB (ringBase r.val + 0x1C) 8 true s)) ∧
    ((ringTail s r.val + 2 ^ 32 - v.toNat) % 2 ^ 32 ≤ ringSize s r.val → Completes (.ringHeadWrite r v) s fun t => ringHead t r.val = v.toNat ∧
      ∀ o, o ≠ ringBase r.val + 0x10 → hrd t o = hrd s o)) ∧
  (∀ (r : Fin 4) (v : Word) (s : State), (ringOn s r.val = true → fieldOf v 0 0 = 1 → exec (.ringCfgWrite (BitVec.ofNat 32 (0x48 + 0x20 * r.val)) v) s = .next (hsetB (ringBase r.val + 0x1C) 8 true s)) ∧
    (fieldOf v 0 0 = 1 → ringCfgOk v = false → exec (.ringCfgWrite (BitVec.ofNat 32 (0x48 + 0x20 * r.val)) v) s = .next (hsetB (ringBase r.val + 0x1C) 8 true s)) ∧
    (fieldOf v 0 0 = 1 → ringOn s r.val = false → ringCfgOk v = true → Completes (.ringCfgWrite (BitVec.ofNat 32 (0x48 + 0x20 * r.val)) v) s fun t =>
      hrd t (ringBase r.val + 8) = v &&& 0x71F01 ∧ ringTail t r.val = 0 ∧ ringHead t r.val = 0 ∧ mseqOf t r.val = 0) ∧
    (fieldOf v 0 0 = 0 → Completes (.ringCfgWrite (BitVec.ofNat 32 (0x48 + 0x20 * r.val)) v) s fun t => ringOn t r.val = false ∧ ringTail t r.val = ringTail s r.val)) ∧
  (∀ (r : Fin 4) (v : Word) (s : State), ∀ k ∈ [0, 4, 0x14, 0x18],
    (ringOn s r.val = true → exec (.ringCfgWrite (BitVec.ofNat 32 (0x40 + 0x20 * r.val + k)) v) s = .next (hsetB (ringBase r.val + 0x1C) 8 true s)) ∧
    (ringOn s r.val = false → exec (.ringCfgWrite (BitVec.ofNat 32 (0x40 + 0x20 * r.val + k)) v) s =
      .next (hwr (ringBase r.val + k) (if k = 0 then v &&& 0xFFFFF000 else if k = 0x14 then v &&& 0xFFFFFFFC else v) s)))

/-- R374-R382: the calendar. -/
def Obligations.RtcCalendar : Prop :=
  (∀ s : State, s.rtc.stopped = true → exec .rtcTick s = .next s) ∧
  (∀ s : State, Completes .crystalStop s fun t => t.rtc = { s.rtc with stopped := true } ∧ hgetB t 0x5010 0 = true ∧ onlyHregs [0x5010] { s with rtc := t.rtc } t) ∧
  (∀ s : State, Completes .crystalRestart s fun t => t = { s with rtc := { s.rtc with stopped := false } }) ∧
  (∀ s : State, s.rtc.stopped = false → s.rtc.tickDue = none → hgetB s 0x5010 8 = false → hgetB s 0x501C 0 = false →
    let c := civilOf (hrd s 0x5000) (hrd s 0x5004)
    Completes .rtcTick s fun t =>
      (c.sec < 59 → hrd t 0x5000 = timeWord { c with sec := c.sec + 1 } (hgetF s 0x5000 26 24) ∧ hrd t 0x5004 = dateWord c) ∧
      (c.sec = 59 → c.min < 59 → hrd t 0x5000 = timeWord { c with sec := 0, min := c.min + 1 } (hgetF s 0x5000 26 24) ∧ hrd t 0x5004 = dateWord c) ∧
      (c.sec = 59 → c.min = 59 → c.hour < 23 → hrd t 0x5000 = timeWord { c with sec := 0, min := 0, hour := c.hour + 1 } (hgetF s 0x5000 26 24) ∧ hrd t 0x5004 = dateWord c) ∧
      (c.sec = 59 → c.min = 59 → c.hour = 23 →
        (c.day < daysIn c.year c.month → hrd t 0x5000 = timeWord { c with sec := 0, min := 0, hour := 0 } (hgetF s 0x5000 26 24 % 7 + 1) ∧ hrd t 0x5004 = dateWord { c with day := c.day + 1 }) ∧
        (c.day = daysIn c.year c.month → c.month < 12 → hrd t 0x5004 = dateWord { c with day := 1, month := c.month + 1 }) ∧
        (c.day = daysIn c.year c.month → c.month = 12 → c.year < 3999 → hrd t 0x5004 = dateWord { c with day := 1, month := 1, year := c.year + 1 }) ∧
        (c.day = daysIn c.year c.month → c.month = 12 → c.year = 3999 → hrd t 0x5000 = 0x06000000 ∧ hrd t 0x5004 = 0x20000101 ∧ hgetB t 0x5010 2 = true)) ∧
      onlyHregs [0x5000, 0x5004, 0x5010] s t ∧ t.reg = s.reg ∧ t.rtc = s.rtc) ∧
  (∀ y, 2000 ≤ y → y < 4000 → (daysIn y 2 = 29 ↔ y % 4 = 0 ∧ (y % 100 ≠ 0 ∨ y % 400 = 0)) ∧ (daysIn y 2 ≠ 29 → daysIn y 2 = 28)) ∧
  (∀ s : State, s.rtc.stopped = false → s.rtc.tickDue = none → hgetB s 0x5010 8 = true → hgetB s 0x501C 0 = false →
    Completes .rtcTick s fun t => hgetB t 0x5010 8 = false ∧ hgetB t 0x5010 9 = false ∧
      (civilOk s.rtc.time s.rtc.date = true →
        let c := civilOf s.rtc.time s.rtc.date
        hrd t 0x5000 = timeWord c (weekdayOf c.year c.month c.day) ∧ hrd t 0x5004 = dateWord c ∧ hgetB t 0x5010 1 = hgetB s 0x5010 1) ∧
      (civilOk s.rtc.time s.rtc.date = false → hgetB t 0x5010 1 = true ∧
        hrd t 0x5004 = dateWord (civilNext (civilOf (hrd s 0x5000) (hrd s 0x5004))).1)) ∧
  (∀ s : State, s.rtc.stopped = false → s.rtc.tickDue = none → hgetB s 0x501C 0 = true →
    Completes .rtcTick s fun t =>
      let due := decide (civilKey (hrd s 0x5014) (hrd s 0x5018) ≤ civilKey (hrd t 0x5000) (hrd t 0x5004))
      (due = false → hrd t 0x501C = hrd s 0x501C ∧ t.tender = s.tender) ∧
      (due = true → hgetB t 0x501C 0 = false ∧ hgetB t 0x501C 8 = true ∧
        (hgetB s 0x5010 8 = true → civilOk s.rtc.time s.rtc.date = true → civilKey (hrd s 0x5000) (hrd s 0x5004) < civilKey (hrd s 0x5014) (hrd s 0x5018) →
          hgetB t 0x501C 9 = true) ∧
        (hostRuns s = true → hgetB t 0x4D00 13 = true) ∧ (hostRuns s = false → t.rtc.owedAlarm = true ∧ hrd t 0x4D00 = hrd s 0x4D00))) ∧
  (∀ (b : BitVec 15) (s : State), (hostRuns s = false → exec (.rtcTimeRead b) s = .next s) ∧
    (hostRuns s = true → Completes (.rtcTimeRead b) s fun t => t.lastRead = hrd s 0x5000 ∧ tabGet (fun _ => none) t.hlatch 0x5004 = some (hrd s 0x5004) ∧
      hrd t 0x5008 = BitVec.ofNat 32 b.toNat ∧ onlyHregs [0x5008] { s with lastRead := t.lastRead, hlatch := t.hlatch } t))

/-- R374-R384, R436: the RTC registers and the supply. -/
def Obligations.RtcRegistersAndSupply : Prop :=
  (∀ (b : Bool) (v : Word) (s : State), hostRuns s = false → exec (.rtcShadowWrite b v) s = .next s ∧ exec (.rtcLoad b) s = .next s ∧ exec .rtcDiscard s = .next s ∧
    exec (.rtcAlarmArm b) s = .next s ∧ exec .switchLogClear s = .next s) ∧
  (∀ (b : Bool) (v : Word) (s : State), hostRuns s = true → s.rtc.sync.isSome = true → exec (.rtcShadowWrite b v) s = .next (hsetB 0x5010 3 true s) ∧
    exec (.rtcLoad b) s = .next (hsetB 0x5010 3 true s) ∧ exec .rtcDiscard s = .next (hsetB 0x5010 3 true s)) ∧
  (∀ (v : Word) (s : State), hostRuns s = true → s.rtc.sync = none →
    Completes (.rtcShadowWrite false v) s (fun t => hgetB t 0x5010 9 = true ∧ t.rtc.time = v &&& 0x3F7F7F ∧
      t.rtc.date = (if hgetB s 0x5010 9 then s.rtc.date else hrd s 0x5004) ∧ onlyHregs [0x5010] { s with rtc := t.rtc } t) ∧
    Completes (.rtcShadowWrite true v) s (fun t => hgetB t 0x5010 9 = true ∧ t.rtc.date = v &&& 0xFFFF1F3F ∧
      t.rtc.time = (if hgetB s 0x5010 9 then s.rtc.time else hrd s 0x5000) ∧ onlyHregs [0x5010] { s with rtc := t.rtc } t)) ∧
  (∀ (b : Bool) (s : State), hostRuns s = true → s.rtc.sync = none → (hgetB s 0x5010 8 = true → exec (.rtcLoad b) s = .next s) ∧
    (hgetB s 0x5010 8 = false → Completes (.rtcLoad b) s fun t => hgetB t 0x5010 8 = true ∧
      t.rtc.time = (if hgetB s 0x5010 9 then s.rtc.time else hrd s 0x5000) ∧ t.rtc.date = (if hgetB s 0x5010 9 then s.rtc.date else hrd s 0x5004) ∧
      t.rtc.tickDue = (if b then some (s.age + 655360000) else s.rtc.tickDue) ∧ onlyHregs [0x5010] { s with rtc := t.rtc } t)) ∧
  (∀ s : State, hostRuns s = true → s.rtc.sync = none → Completes .rtcDiscard s fun t => hgetB t 0x5010 8 = false ∧ hgetB t 0x5010 9 = false ∧ onlyHregs [0x5010] s t ∧ t.rtc = s.rtc) ∧
  (∀ s : State, hostRuns s = true → Completes (.rtcAlarmArm false) s (fun t => hgetB t 0x501C 0 = false ∧ onlyHregs [0x501C] s t) ∧
    (civilOk (hrd s 0x5014) (hrd s 0x5018) = true → Completes (.rtcAlarmArm true) s fun t => hgetB t 0x501C 0 = true ∧ onlyHregs [0x501C] s t) ∧
    (civilOk (hrd s 0x5014) (hrd s 0x5018) = false → Completes (.rtcAlarmArm true) s fun t => hgetB t 0x501C 0 = false ∧ hgetB t 0x5010 1 = true ∧ onlyHregs [0x501C, 0x5010] s t)) ∧
  (∀ s : State, hgetB s 0x5010 10 = true → exec .switchToVbat s = .next s) ∧
  (∀ s : State, hgetB s 0x5010 10 = false → Completes .switchToVbat s fun t => hgetB t 0x5010 10 = true ∧ hgetF t 0x1000 1 0 = 2 ∧
    hgetF t 0x5028 7 0 = min 255 (hgetF s 0x5028 7 0 + 1) ∧ hgetB t 0x5028 8 = true ∧ t.rtc.owedSwitch = true ∧ t.reqMem = [] ∧ t.tender.tags = [] ∧
    hrd t 0x5000 = hrd s 0x5000 ∧ hrd t 0x5004 = hrd s 0x5004 ∧ t.reg = s.reg ∧ (hrd s 0x8004 = 0 → t.flash.words = s.flash.words) ∧
    (hgetB s 0x5028 8 = false → hrd t 0x5020 = hrd s 0x5000 ∧ hrd t 0x5024 = hrd s 0x5004) ∧
    (hgetB s 0x5028 8 = true → hrd t 0x5020 = hrd s 0x5020 ∧ hrd t 0x5024 = hrd s 0x5024)) ∧
  (∀ s : State, Completes .switchReturn s fun t => hgetB t 0x5010 10 = false ∧ onlyHregs [0x5010] s t ∧ t.rtc = s.rtc ∧ t.tender = s.tender) ∧
  (∀ s : State, hostRuns s = true → Completes .switchLogClear s fun t => hrd t 0x5028 = 0 ∧ onlyHregs [0x5028] s t) ∧
  (∀ s : State, Completes .rtcPowerOn s fun t => t.rtc = {} ∧ t.reg = s.reg ∧ ∀ o, (o / 4096 = 5 → hrd t o = hostReset o) ∧ (o / 4096 ≠ 5 → hrd t o = hrd s o))

/-- R387-R395: reads and programs. -/
def Obligations.FlashReadsAndPrograms : Prop :=
  (∀ (a : BitVec 24) (e : Fin 4) (s : State), hgetB s 0x8004 1 = false → hgetB s 0x8004 2 = false ∨ flSector a.toNat ≠ s.flash.sector →
    Completes (.flashRead a e) s fun t =>
      (e.val < 3 → readSure s = true → t.flash.read = wordBytes s (a.toNat / 16)) ∧ t.flash.words = s.flash.words ∧ hgetF t 0x8004 17 16 = e.val ∧
      hrd t 0x8048 = (if e.val = 1 ∨ e.val = 2 then hrd s 0x8048 + 1 else hrd s 0x8048) ∧ hrd t 0x804C = (if e.val = 3 then hrd s 0x804C + 1 else hrd s 0x804C) ∧
      (e.val = 3 → hgetB t 0x8004 10 = true ∧ hrd t 0x800C = BitVec.ofNat 32 a.toNat) ∧
      (e.val = 3 ∨ (hgetF s 0x8000 9 8 ≠ 0 ∧ hgetF s 0x8000 9 8 ≤ e.val) → hgetB t 0x8004 11 = true ∧
        hrd t 0x8010 = BitVec.ofNat 32 (a.toNat / 16 * 16 + 2 ^ 28 * e.val) ∧
        (s.flash.warned.contains (a.toNat / 16) = true → t.tender = s.tender) ∧
        (s.flash.warned.contains (a.toNat / 16) = false → t.tender.hold3.length = s.tender.hold3.length + 2)) ∧
      (e.val < 3 → (hgetF s 0x8000 9 8 = 0 ∨ e.val < hgetF s 0x8000 9 8) → t.tender = s.tender ∧ hrd t 0x8010 = hrd s 0x8010 ∧ t.flash.warned = s.flash.warned)) ∧
  (∀ (s : State) (w : Nat), flWord s w = none → wordBytes s w = List.replicate 16 0xFF) ∧
  (∀ (a : BitVec 24) (e : Fin 4) (s : State), hgetB s 0x8004 0 = false → hgetB s 0x8004 2 = true → flSector a.toNat = s.flash.sector →
    Completes (.flashRead a e) s fun t => t.flash.read = List.replicate 16 0xFF ∧ hgetB t 0x8004 14 = true ∧ hrd t 0x800C = BitVec.ofNat 32 a.toNat ∧
      t.flash.words = s.flash.words) ∧
  (∀ (a : BitVec 24) (d : BitVec 128) (s : State), s.hguard = none →
    let w := a.toNat / 16
    let g := { s with hguardAge := s.age }
    (∀ x, x ≠ ~~~(1 : Word) → Completes (.flashProgram a d x) s fun t => hostGuardRecorded 1 0x40 s t ∧ t.flash = s.flash) ∧
    (hgetB s 0x8004 0 = true → Completes (.flashProgram a d (~~~1)) s fun t => hgetB t 0x8004 13 = true ∧ onlyHregs [0x8004, 0x8040] g t) ∧
    (hgetB s 0x8004 0 = false → flLocked (16 * w) = true → Completes (.flashProgram a d (~~~1)) s fun t => hgetB t 0x8004 9 = true ∧
      hrd t 0x800C = BitVec.ofNat 32 (16 * w) ∧ onlyHregs [0x8004, 0x800C, 0x8040] g t) ∧
    (hgetB s 0x8004 0 = false → flLocked (16 * w) = false → hgetB s 0x8004 2 = false → (flWord s w).isSome = true → Completes (.flashProgram a d (~~~1)) s fun t =>
      hgetB t 0x8004 8 = true ∧ hrd t 0x800C = BitVec.ofNat 32 (16 * w) ∧ onlyHregs [0x8004, 0x800C, 0x8040] g t) ∧
    (hgetB s 0x8004 0 = false → flLocked (16 * w) = false → hgetB s 0x8004 2 = false → flWord s w = none → Completes (.flashProgram a d (~~~1)) s fun t =>
      hgetB t 0x8004 0 = true ∧ t.flash.op = 1 ∧ t.flash.opAge = s.age ∧ hrd t 0x8008 = BitVec.ofNat 32 (16 * w) ∧
      (∀ i, i < 4 → hrd t (0x8020 + 4 * i) = BitVec.ofNat 32 (d.toNat / 2 ^ (32 * i))) ∧ (∀ v, v ≠ w → flWord t v = flWord s v) ∧ (flWord t w).isSome = true)) ∧
  (∀ (a : BitVec 24) (d : BitVec 128) (x : Word) (p : Nat × Word) (s : State), s.hguard = some p → guardInTimeH s = true →
    Completes (.flashProgram a d x) s (fun t => t.hguard = none ∧ t.flash = s.flash ∧ hgetB t 0x1050 0 = true ∧ hgetF t 0x1050 15 8 = min (hgetF s 0x1050 15 8 + 2) 255) ∧
      Completes (.flashErase a x) s (fun t => t.hguard = none ∧ t.flash = s.flash ∧ hgetB t 0x1050 0 = true ∧ hgetF t 0x1050 15 8 = min (hgetF s 0x1050 15 8 + 2) 255) ∧
      Completes (.blankCheck a x) s (fun t => t.hguard = none ∧ t.flash = s.flash ∧ hgetB t 0x1050 0 = true ∧ hgetF t 0x1050 15 8 = min (hgetF s 0x1050 15 8 + 2) 255)) ∧
  (∀ s : State, s.flash.op ≠ 1 → exec .flashProgramDone s = .next s) ∧
  (∀ s : State, s.flash.op = 1 → ∀ w, flProgramming s = some w → Completes .flashProgramDone s fun t =>
    wordBytes t w = [0, 1, 2, 3].flatMap (fun i => leBytes 4 (hrd s (0x8020 + 4 * i)).toNat) ∧ (∀ v, v ≠ w → flWord t v = flWord s v) ∧
    hgetB t 0x8004 0 = false ∧ t.flash.op = (if hgetB s 0x8004 2 then 2 else 0))

/-- R392-R397, R416, R417: erases and the settings banks. -/
def Obligations.FlashErases : Prop :=
  (∀ (a : BitVec 24) (s : State), s.hguard = none →
    let g := { s with hguardAge := s.age }
    (∀ x, x ≠ ~~~(2 : Word) → Completes (.flashErase a x) s fun t => hostGuardRecorded 1 0x40 s t ∧ t.flash = s.flash) ∧
    (∀ x, x ≠ ~~~(3 : Word) → Completes (.blankCheck a x) s fun t => hostGuardRecorded 1 0x40 s t ∧ t.flash = s.flash) ∧
    (hgetB s 0x8004 0 = true ∨ hgetB s 0x8004 2 = true → Completes (.flashErase a (~~~2)) s fun t => hgetB t 0x8004 13 = true ∧ onlyHregs [0x8004, 0x8040] g t) ∧
    (hgetB s 0x8004 0 = true ∨ (hgetB s 0x8004 2 = true ∧ a.toNat / 8192 = s.flash.sector) → Completes (.blankCheck a (~~~3)) s fun t =>
      hgetB t 0x8004 13 = true ∧ onlyHregs [0x8004, 0x8040] g t) ∧
    (hgetB s 0x8004 0 = false → hgetB s 0x8004 2 = false → flLocked a.toNat = true → Completes (.flashErase a (~~~2)) s fun t => hgetB t 0x8004 9 = true ∧
      hrd t 0x800C = BitVec.ofNat 32 (a.toNat / 16 * 16) ∧ onlyHregs [0x8004, 0x800C, 0x8040] g t) ∧
    (hgetB s 0x8004 0 = false → hgetB s 0x8004 2 = false → flLocked a.toNat = false → Completes (.flashErase a (~~~2)) s fun t => hgetB t 0x8004 0 = true ∧ hgetB t 0x8004 1 = true ∧
      t.flash.op = 2 ∧ t.flash.sector = a.toNat / 8192 ∧ t.flash.opAge = s.age ∧ t.flash.words = s.flash.words ∧ onlyHregs [0x8004, 0x8008, 0x8040] { g with flash := t.flash } t) ∧
    (hgetB s 0x8004 0 = false → ¬ (hgetB s 0x8004 2 = true ∧ a.toNat / 8192 = s.flash.sector) → Completes (.blankCheck a (~~~3)) s fun t => hgetB t 0x8004 0 = true ∧ t.flash.op = 3 ∧
      t.flash.checkSec = a.toNat / 8192 ∧ t.flash.words = s.flash.words ∧ onlyHregs [0x8004, 0x8008, 0x8040] { g with flash := t.flash } t)) ∧
  (∀ s : State, (s.flash.op ≠ 2 ∨ hgetB s 0x8004 2 = true → exec .flashEraseDone s = .next s) ∧
    (s.flash.op = 2 → hgetB s 0x8004 2 = false → s.flash.heldRead = none → Completes .flashEraseDone s fun t => (∀ w, w / 512 = s.flash.sector → flWord t w = none) ∧
      (∀ w, w / 512 ≠ s.flash.sector → flWord t w = flWord s w) ∧ hgetB t 0x8004 0 = false ∧ hgetB t 0x8004 1 = false ∧ hgetB t 0x8004 3 = false ∧ t.flash.op = 0 ∧
      s.flash.opAge + s.flash.left ≤ t.age)) ∧
  (∀ (n : Nat) (s : State), (s.flash.op ≠ 2 ∨ hgetB s 0x8004 2 = true → exec (.flashSuspend n) s = .next s) ∧
    (s.flash.op = 2 → hgetB s 0x8004 2 = false → s.flash.heldRead = none → 200 ≤ n ∨ s.flash.opAge + clkUs 200 ≤ s.age → Completes (.flashSuspend n) s fun t =>
      hgetB t 0x8004 2 = true ∧ hgetB t 0x8004 0 = false ∧ t.flash = { s.flash with left := s.flash.left - (t.age - s.flash.opAge) }) ∧
    (s.flash.op = 2 → hgetB s 0x8004 2 = false → n < 200 → s.age < s.flash.opAge + clkUs 200 → Completes (.flashSuspend n) s fun t =>
      hgetB t 0x8004 3 = true ∧ hgetB t 0x8004 0 = hgetB s 0x8004 0 ∧ t.flash = s.flash)) ∧
  (∀ s : State, (hgetB s 0x8004 3 = false → exec .suspendTakeEffect s = .next s) ∧
    (hgetB s 0x8004 3 = true → s.flash.op = 2 → s.flash.heldRead = none → Completes .suspendTakeEffect s fun t => hgetB t 0x8004 2 = true ∧ hgetB t 0x8004 3 = false ∧
      hgetB t 0x8004 0 = false ∧ t.flash = { s.flash with left := s.flash.left - (t.age - s.flash.opAge) } ∧ s.flash.opAge + clkUs 200 ≤ t.age)) ∧
  (∀ s : State, (hgetB s 0x8004 2 = true → hgetB s 0x8004 0 = false → Completes .flashResume s fun t => hgetB t 0x8004 2 = false ∧ hgetB t 0x8004 0 = true ∧
      t.flash = { s.flash with opAge := s.age, left := s.flash.left + clkUs 50 } ∧ onlyHregs [0x8004] { s with flash := t.flash } t) ∧
    (hgetB s 0x8004 2 = true → hgetB s 0x8004 0 = true → exec .flashResume s = .next s) ∧
    (hgetB s 0x8004 2 = false → Completes .flashResume s fun t => hgetB t 0x8004 3 = false ∧ hgetB t 0x8004 0 = hgetB s 0x8004 0 ∧ onlyHregs [0x8004] s t)) ∧
  (∀ (ws : List Nat) (s : State), (s.flash.op ≠ 3 → exec (.blankCheckDone ws) s = .next s) ∧
    (s.flash.op = 3 → ws.filter (· < 512) ++ notBlank s s.flash.checkSec = [] → Completes (.blankCheckDone ws) s fun t => hgetB t 0x8004 0 = false ∧
      t.flash.op = (if hgetB s 0x8004 2 then 2 else 0) ∧ t.flash.erased = false ∧ s.flash.opAge + clkUs 100 ≤ t.age) ∧
    (s.flash.op = 3 → ws.filter (· < 512) ++ notBlank s s.flash.checkSec ≠ [] → Completes (.blankCheckDone ws) s fun t => hgetB t 0x8004 15 = true ∧ t.flash.words = s.flash.words ∧
      (s.flash.erased = false → hgetB t 0x8004 0 = false ∧ hgetB t 0x8004 12 = hgetB s 0x8004 12) ∧
      (s.flash.erased = true → s.flash.again < 3 → t.flash.op = 2 ∧ hgetB t 0x8004 0 = true ∧ hgetB t 0x8004 1 = true ∧ t.flash.again = s.flash.again + 1) ∧
      (s.flash.erased = true → 3 ≤ s.flash.again → hgetB t 0x8004 12 = true ∧ hgetB t 0x8004 0 = false))) ∧
  (∀ s : State, s.settings.active < 2 → Completes .settingsCompact s fun t => t.settings.active = 1 - s.settings.active ∧ t.settings.kept = none ∧
    (getBank t (1 - s.settings.active)).seq = (getBank s s.settings.active).seq + 1 ∧ (getBank t (1 - s.settings.active)).config = (getBank s s.settings.active).config ∧
    (getBank t (1 - s.settings.active)).extra = (getBank s s.settings.active).extra ∧ (∀ k, coreGet t k = coreGet s k) ∧ t.reg = s.reg ∧ t.hreg = s.hreg)

/-- R426-R438: requests for power states. -/
def Obligations.PowerStateRequests : Prop :=
  (∀ (w : Word) (s : State), s.guard = some (0x10040, ~~~w) → guardInTimeR s = true → bitOf (~~~w) 8 = true → getB s 0x10000 8 = false →
    let v := fieldOf (~~~w) 1 0
    (v = radioPower s → Completes (.pwrStateRequest w) s fun t => rd t 0x10000 = rd s 0x10000 ∧ rd t 0x10004 = rd s 0x10004 ∧ t.guard = none ∧ t.keeper = s.keeper) ∧
    (v ≠ radioPower s → 2 ≤ v → (s.boot.trial = true ∨ (List.range 6).any (fun n => decide (4 * (getF s 0x10008 15 8 : Int) < sensorTemp s n)) = true) →
      Completes (.pwrStateRequest w) s fun t => getB t 0x10004 7 = true ∧ rd t 0x10000 = rd s 0x10000 ∧ t.guard = none) ∧
    (v ≠ radioPower s → v < 2 → radioPower s < 2 → Completes (.pwrStateRequest w) s fun t => getB t 0x10000 8 = true ∧ getB t 0x10000 9 = true ∧ getF t 0x10000 5 4 = v ∧
      radioPower t = radioPower s ∧ t.power.start = radioPower s ∧ t.guard = none) ∧
    (2 ≤ v → s.boot.trial = false → (List.range 6).any (fun n => decide (4 * (getF s 0x10008 15 8 : Int) < sensorTemp s n)) = false → radioPower s < 2 →
      Completes (.pwrStateRequest w) s fun t => getB t 0x10000 8 = true ∧ getF t 0x10000 5 4 = v ∧ radioPower t = radioPower s ∧ t.power.start = radioPower s)) ∧
  (∀ (w : Word) (s : State), s.guard = some (0x10040, ~~~w) → guardInTimeR s = true → bitOf (~~~w) 8 = true → getB s 0x10000 8 = true → getB s 0x10000 9 = true →
    Completes (.pwrStateRequest w) s fun t => getF t 0x10000 14 12 = 4 + fieldOf (~~~w) 1 0 ∧ getF t 0x10000 5 4 = getF s 0x10000 5 4 ∧ radioPower t = radioPower s) ∧
  (∀ (w : Word) (s : State), s.guard = some (0x10040, ~~~w) → guardInTimeR s = true → bitOf (~~~w) 8 = false →
    exec (.pwrStateRequest w) s = .next (wr 0x10040 (~~~w &&& 0x103) { s with guard := none })) ∧
  (∀ s : State, (radioPower s ≠ 2 ∨ getB s 0x1000C 0 = false ∨ rd s 0x10010 = 0 → exec .holdTimerWake s = .next s) ∧
    (radioPower s = 2 → getB s 0x1000C 0 = true → rd s 0x10010 ≠ 0 → getB s 0x10000 8 = false → Completes .holdTimerWake s fun t => getB t 0x10000 8 = true ∧ getF t 0x10000 5 4 = 0) ∧
    (radioPower s ≠ 2 ∨ getB s 0x1000C 1 = false → exec .cap0Wake s = .next s) ∧
    (radioPower s = 2 → getB s 0x1000C 1 = true → getB s 0x10000 8 = false → Completes .cap0Wake s fun t => getB t 0x10000 8 = true ∧ getF t 0x10000 5 4 = 0)) ∧
  (∀ (b : Word) (us : Nat) (s : State), getB s 0x10000 8 = false → exec (.transitionDone b us) s = .next s) ∧
  (∀ (b : Word) (us : Nat) (s : State), getB s 0x10000 8 = true → getB s 0x10000 9 = true → s.power.dead = false → s.power.start < 2 → s.power.second = none →
    getB s 0x10000 14 = false → getF s 0x10000 5 4 < 3 → Completes (.transitionDone b us) s fun t =>
      radioPower t = getF s 0x10000 5 4 ∧ getB t 0x10000 8 = false ∧
      (getF s 0x10000 5 4 = 1 → pathState t 1 = 0 ∧ pathState t 2 = 0 ∧ pathState t 3 = 0) ∧
      (getF s 0x10000 5 4 = 2 → t.slots = [] ∧ t.pkt = [] ∧ t.keeper.log = [])) ∧
  (∀ (b : Word) (us : Nat) (s : State), getB s 0x10000 8 = true → s.power.dead = false → s.power.start < 2 → s.power.second = none → getB s 0x10000 14 = false →
    getF s 0x10000 5 4 = 3 → getB s 0x10000 9 = true → Completes (.transitionDone b us) s fun t =>
      radioPower t = 3 ∧ getB t 0x10000 8 = false ∧ t.ctx = [] ∧ t.slots = []) ∧
  (∀ s : State, (getB s 0x10000 8 = false ∨ getB s 0x10000 9 = true → exec .uplinkDrainExpiry s = .next s) ∧
    (getB s 0x10000 8 = true → getB s 0x10000 9 = false → Completes .uplinkDrainExpiry s fun t => t.keeper.upHold = [] ∧
      (s.keeper.upHold ≠ [] → rd t 0xB0060 = rd s 0xB0060 + BitVec.ofNat 32 s.keeper.upHold.length ∧ getB t 0xB0010 10 = true)))

/-- R420-R437: faults of power and the host die. -/
def Obligations.PowerFaultsAndHostStates : Prop :=
  (∀ (r : Fin 5) (c : Fin 6) (w : BitVec 16) (s : State), getB s (0x10080 + 4 * r.val) 16 = true → coreRuns s = true → c.val ≠ 0 →
    Completes (.pmbusTimeout r c w) s fun t => radioPower t = 3 ∧ t.power.fault = true ∧ rd t 0x100A4 = BitVec.ofNat 32 (r.val + 16 * c.val + 65536 * w.toNat) ∧
      getB t 0x10004 2 = true ∧ getB t 0x100A0 (8 + r.val) = true ∧ t.ctx = [] ∧ t.pkt = []) ∧
  (∀ (r : Fin 5) (c : Fin 6) (w : BitVec 16) (s : State), (getB s (0x10080 + 4 * r.val) 16 = false → exec (.pmbusTimeout r c w) s = .next s ∧ exec (.pmbAlert r w) s = .next s) ∧
    (getB s (0x10080 + 4 * r.val) 16 = true → coreRuns s = true → Completes (.pmbusTimeout r 0 w) s fun t => getB t 0x10004 1 = true ∧ onlyRegs [0x10004] s t)) ∧
  (∀ (r : Fin 5) (w : BitVec 16) (s : State), getB s (0x10080 + 4 * r.val) 16 = true → coreRuns s = true →
    (pmbFault w = false → Completes (.pmbAlert r w) s fun t => logged 1 0x160 (leBytes 1 r.val) s t ∧ radioPower t = radioPower s ∧ ∀ o, o ≠ 0xC0020 → o ≠ 0xC0024 → rd t o = rd s o) ∧
    (pmbFault w = true → Completes (.pmbAlert r w) s fun t => radioPower t = 3 ∧ t.power.fault = true ∧ rd t 0x100A4 = BitVec.ofNat 32 (r.val + 64 + 65536 * w.toNat))) ∧
  (∀ (r : Fin 5) (s : State), (getB s 0x10000 8 = false ∨ s.power.start < 2 → exec (.wakeStageLate r) s = .next s) ∧
    (getB s 0x10000 8 = true → 2 ≤ s.power.start → s.power.dead = false → Completes (.wakeStageLate r) s fun t => radioPower t = 3 ∧ t.power.fault = true ∧ getB t 0x10000 8 = false)) ∧
  (∀ (u b : Bool) (s : State), (getF s 0x10000 1 0 ≠ 0 ∨ getB s 0x10020 0 = false → exec (.avsStep u b) s = .next s) ∧
    (getF s 0x10000 1 0 = 0 → getB s 0x10020 0 = true → s.power.dead = false →
      Completes (.avsStep u true) s (fun t => getF t 0x1001C 9 0 = min 850 (getF s 0x1001C 9 0 + 25) ∧ onlyRegs [0x1001C] s t) ∧
      Completes (.avsStep true false) s (fun t => getF t 0x1001C 9 0 = min 850 (getF s 0x1001C 9 0 + 5) ∧ (s.keeper.avsClk + 6553600 ≤ s.ntb.clk → t.ntb = s.ntb)) ∧
      Completes (.avsStep false false) s (fun t => getF t 0x1001C 9 0 = max 650 (getF s 0x1001C 9 0 - 5)))) ∧
  (∀ s : State, (islandOnly s = false → exec (.islandBrownout .radio) s = .next s) ∧
    (islandOnly s = true → s.power.dead = false → Completes (.islandBrownout .radio) s fun t => radioPower t = radioPower s ∧ getB t 0x10004 3 = true ∧ t.power.brown = true ∧
      fieldOf (rd t 4) 19 16 = 2 ∧ t.ctx = [] ∧ t.pkt = [] ∧ t.hreg = s.hreg) ∧
    (hostPower s ≠ 1 → exec (.islandBrownout .host) s = .next s) ∧
    (hostPower s = 1 → Completes (.islandBrownout .host) s fun t => t.boot.brown = true ∧ fieldOf (hrd t 0x1008) 19 16 = 2 ∧ t.reg = s.reg ∧ t.tender.tags = [])) ∧
  (∀ s : State, Completes .powerLoss s fun t => t.power.dead = true ∧ t.reg = [] ∧ t.pkt = [] ∧ t.ctx = [] ∧ t.keeper = {} ∧ t.hreg = s.hreg ∧ t.tender = s.tender ∧ t.flash = s.flash) ∧
  (∀ s : State, (hostRuns s = false → exec .hpwStandby s = .next s) ∧
    (hostRuns s = true → s.tender.hold0 ≠ [] → Completes .hpwStandby s fun t => t.boot.standby = true ∧ hostPower t = 0 ∧ t.hguard = none ∧ t.hreg = s.hreg) ∧
    (hostRuns s = true → s.tender.hold0 = [] → s.tender.tags = [] → hrd s 0x3004 = 0 → Completes .hpwStandby s fun t => t.boot.standby = false ∧ hostPower t = 1 ∧
      hgetF t 0x2000 1 0 = 0 ∧ getF t 0x10 1 0 = 0 ∧ t.hguard = none)) ∧
  (∀ (c : WakeSrc) (s : State), (hostPower s ≠ 1 ∨ wakeEnabled s c = false → exec (.hostWake c) s = .next s) ∧
    (hostPower s = 1 → wakeEnabled s c = true → Completes (.hostWake c) s fun t => hostPower t = 0 ∧ hgetB t 0x4D00 18 = true ∧ hgetF t 0x2000 1 0 = 1 ∧ t.tender.tags = s.tender.tags ∧ t.reg = s.reg))

/-- R474-R485: resets. -/
def Obligations.DieResets : Prop :=
  (∀ s : State, s.power.dead = false → radioPower s < 2 → resetEarlier s.linkR s = true → Completes .refClockFailure s (fun t => radioWasReset 8 s t) ∧
    Completes .lockstepMismatch s (fun t => radioWasReset 7 s t) ∧ Completes (.eccError true) s (fun t => radioWasReset 7 s t) ∧
    Completes (.pinReset .radio) s (fun t => radioWasReset 3 s t)) ∧
  (∀ (s : State), radioPower s < 2 → s.power.dead = false → resetEarlier s.linkR s = true → (∀ w, s.guard = some (0x40, ~~~w) → guardInTimeR s = true → bitOf (~~~w) 0 = true → Completes (.sysResetWrite w) s fun t => radioWasReset 5 s t) ∧
    (∀ w, s.guard = some (0x40, ~~~w) → guardInTimeR s = true → bitOf (~~~w) 0 = false → exec (.sysResetWrite w) s = .next { s with guard := none })) ∧
  (∀ s : State, radioPower s = 3 → s.power.dead = false → resetEarlier s.linkR s = true → Completes (.pinReset .radio) s fun t =>
    onlyRegs [4] { s with linkR := { s.linkR with resetAt := some s.age } } t ∧ fieldOf (rd t 4) 19 16 = 3 ∧ bitOf (rd t 4) 2 = true) ∧
  (∀ s : State, coreRuns s = true → Completes (.eccError false) s fun t => onlyRegs [0xC0004, 0xC0008] s t ∧ getB t 0xC0004 8 = true ∧ rd t 0xC0008 = rd s 0xC0008 + 1) ∧
  (∀ s : State, Completes (.powerOn .radio) s fun t => radioPower t = 0 ∧ t.pkt = [] ∧ t.ctx = [] ∧ t.keeper = {} ∧ t.power = {} ∧ rd t 4 = 0x00010001 ∧
    (∀ o, o ≠ 4 → rd t o = radioReset o) ∧ t.linkR.resets = s.linkR.resets + 1 ∧ t.hreg = s.hreg ∧ t.tender = s.tender ∧ t.flash = s.flash) ∧
  (∀ s : State, hostRuns s = true → resetEarlier s.linkH s = true → Completes .hostPllLockLoss s (fun t => hostWasReset 8 s t) ∧ Completes .tenderWdtExpiry s (fun t => hostWasReset 6 s t) ∧
    Completes .hpwResetHostDie s (fun t => hostWasReset 5 s t) ∧ Completes (.pinReset .host) s (fun t => hostWasReset 3 s t)) ∧
  (∀ s : State, Completes (.powerOn .host) s fun t => hostPower t = 0 ∧ fieldOf (hrd t 0x1008) 31 0 = 0x00010001 ∧ t.reqMem = [] ∧ t.rspMem = [] ∧ t.tender.snapshot = none ∧
    hrd t 0x1004 = hostReset 0x1004 ∧ (∀ o, o / 0x1000 = 5 → hrd t o = hrd s o) ∧ t.reg = s.reg) ∧
  (∀ s : State, hostRuns s = true → upH s = false → Completes .hpwResetRadioDie s fun t => t.tender.resetHeld = true ∧ t.hguard = none ∧ t.reg = s.reg ∧ t.hreg = s.hreg ∧ t.linkH = s.linkH) ∧
  (∀ s : State, hostRuns s = true → upH s = true → Completes .hpwResetRadioDie s fun t => t.linkH.q = s.linkH.q ++ [(0xC, leBytes 4 1)] ∧ t.hguard = none ∧ t.reg = s.reg) ∧
  (∀ s : State, hostRuns s = false → exec .hostPllLockLoss s = .next s ∧ exec .tenderWdtExpiry s = .next s ∧ exec .hpwResetHostDie s = .next s ∧ exec .hpwResetRadioDie s = .next s)

/-- R409-R412, R476-R484: start-up. -/
def Obligations.BootSequence : Prop :=
  (∀ (b : BitVec 4) (s : State), hostRuns s = false ∨ s.boot.mode ≠ 0 → exec (.romBoot b) s = .next s) ∧
  (∀ (b : BitVec 4) (s : State), hostRuns s = true → s.boot.mode = 0 → b.toNat / 2 % 4 = 2 → Completes (.romBoot b) s fun t => hrd t 0x10 = BitVec.ofNat 32 b.toNat ∧ t.boot.mode = 3 ∧
    t.reg = s.reg ∧ ∀ o, o ≠ 0x10 → hrd t o = hrd s o) ∧
  (∀ (b : BitVec 4) (s : State), hostRuns s = true → s.boot.mode = 0 → b.toNat / 2 % 4 = 1 → Completes (.romBoot b) s fun t => hrd t 0x10 = BitVec.ofNat 32 b.toNat ∧ t.boot.mode = 2 ∧
    hrd t 0x14 = 0 ∧ hgetF t 0x2000 1 0 = 1 ∧ t.boot.trial = false ∧ t.reg = s.reg) ∧
  (∀ (b : BitVec 4) (s : State), hostRuns s = true → s.boot.mode = 0 → b.toNat / 2 % 4 ≠ 1 → b.toNat / 2 % 4 ≠ 2 → s.flash.words = [] → Completes (.romBoot b) s fun t =>
    hrd t 0x10 = BitVec.ofNat 32 b.toNat ∧ t.boot.mode = 2 ∧ hgetF t 0x2000 1 0 = 1 ∧ t.reg = s.reg) ∧
  (∀ s : State, (tenderRuns s = false ∨ s.boot.stage ≠ 0 → exec .waitImageTimeout s = .next s) ∧
    (tenderRuns s = true → s.boot.stage = 0 → Completes .waitImageTimeout s fun t => s.boot.startAge + clocksOfNs 1000000000 ≤ t.age ∧ t.boot = s.boot ∧ t.reg = s.reg ∧
      t.hreg = s.hreg ∧ t.tender = s.tender)) ∧
  (∀ s : State, (s.boot.starting = false ∨ s.boot.mode ≠ 1 → exec .bootAttemptTimeout s = .next s) ∧
    (s.boot.starting = true → s.boot.mode = 1 → hostRuns s = true → Completes .bootAttemptTimeout s fun t => t.boot.attempts = s.boot.attempts + 1 ∧ t.boot.starting = false ∧
      t.boot.stopped = decide (2 ≤ s.boot.attempts) ∧ (upH s = false → t.tender.resetHeld = true) ∧ (upH s = true → t.linkH.q = s.linkH.q ++ [(0xC, leBytes 4 1)]))) ∧
  (∀ s : State, (s.boot.trial = false ∨ s.tender.radioReady = false ∨ upH s = false → exec .trialConfirm s = .next s) ∧
    (s.boot.trial = true → s.tender.radioReady = true → upH s = true → s.boot.mode = 1 → Completes .trialConfirm s fun t => t.boot.trial = false ∧ t.tender = s.tender ∧
      t.hreg = s.hreg ∧ t.boot.slot = s.boot.slot ∧ (384 ≤ (stateWords s s.boot.slot).length ∨
        flWord t (slotBase s.boot.slot / 16 + 0x80 + (stateWords s s.boot.slot).length) =
          some { data := crcRecord (leBytes 1 0x43 ++ leBytes 1 0 ++ leBytes 2 0 ++ leBytes 4 (slotGen s s.boot.slot)) }))) ∧
  (∀ s : State, (s.boot.trial = false → exec .trialTimerExpiry s = .next s) ∧
    (s.boot.trial = true → hostPower s < 2 → resetEarlier s.linkR s = true → resetEarlier s.linkH s = true → Completes .trialTimerExpiry s fun t => t.boot.trial = false ∧ fieldOf (hrd t 0x1008) 19 16 = 9 ∧ hostPower t = 0 ∧ t.boot.mode = 0 ∧
      (upH s = true → s.power.fault = false → fieldOf (rd t 4) 19 16 = 4)))

/-- R443-R445: sensors, rails and the trip. -/
def Obligations.SensorsAndAlarms : Prop :=
  (∀ (n : Fin 8) (v : BitVec 16) (s : State), (n.val < 6 → coreRuns s = false → exec (.sensorSample n v) s = .next s) ∧
    (6 ≤ n.val → (hostRuns s = false ∨ s.boot.mode ≠ 1) → exec (.sensorSample n v) s = .next s)) ∧
  (∀ (n : Fin 8) (v : BitVec 16) (s : State), n.val < 6 → coreRuns s = true → Completes (.sensorSample n v) s fun t =>
    rd t (0xD0000 + 4 * n.val) = BitVec.ofNat 32 v.toNat ∧ t.hreg = s.hreg ∧
    (s.keeper.alarms.contains n.val = false → (v.toInt < (tempLimits s n.val).1 ∨ (tempLimits s n.val).2 < v.toInt) →
      getB t 0xD0100 n.val = true ∧ t.keeper.alarms = n.val :: s.keeper.alarms ∧ t.keeper.logNext = (s.keeper.logNext + 1) % 2 ^ 32) ∧
    (s.keeper.alarms.contains n.val = true → (tempLimits s n.val).1 + 8 ≤ v.toInt → v.toInt ≤ (tempLimits s n.val).2 - 8 → t.keeper.alarms = s.keeper.alarms.erase n.val) ∧
    (s.keeper.alarms.contains n.val = true → ¬ ((tempLimits s n.val).1 + 8 ≤ v.toInt ∧ v.toInt ≤ (tempLimits s n.val).2 - 8) → t.keeper.alarms = s.keeper.alarms) ∧
    (tripTemp ≤ v.toInt → getB t 0xD0100 16 = true) ∧ (getB s 0xD0100 16 = true → tripTemp - 40 < v.toInt → getB t 0xD0100 16 = true)) ∧
  (∀ (n : Fin 8) (v : BitVec 16) (s : State), 6 ≤ n.val → hostRuns s = true → s.boot.mode = 1 → Completes (.sensorSample n v) s fun t =>
    tabGet (fun _ => 0) t.tender.temps n.val = v.toNat ∧ t.reg = s.reg ∧
    (s.tender.alarms.contains n.val = false → (v.toInt < (tempLimits s n.val).1 ∨ (tempLimits s n.val).2 < v.toInt) →
      t.tender.alarms = n.val :: s.tender.alarms ∧ t.tender.hold3.length = s.tender.hold3.length + 2) ∧
    (s.tender.alarms.contains n.val = true → (tempLimits s n.val).1 + 8 ≤ v.toInt → v.toInt ≤ (tempLimits s n.val).2 - 8 →
      t.tender.alarms = s.tender.alarms.erase n.val ∧ t.tender.hold3 = s.tender.hold3)) ∧
  (∀ (r : Fin 13) (v : BitVec 16) (s : State), (r.val < 8 → coreRuns s = false → exec (.railSample r v) s = .next s) ∧
    (8 ≤ r.val → (hostRuns s = false ∨ s.boot.mode ≠ 1) → exec (.railSample r v) s = .next s)) ∧
  (∀ (r : Fin 13) (v : BitVec 16) (s : State), r.val < 8 → coreRuns s = true → Completes (.railSample r v) s fun t =>
    rd t (0xD0040 + 4 * r.val) = BitVec.ofNat 32 v.toNat ∧
    (r.val < 5 → (getB s 0x100A0 r.val = false ∨ getB s 0x10000 8 = true) → onlyRegs [0xD0040 + 4 * r.val] s t) ∧
    (5 ≤ r.val ∨ (getB s 0x100A0 r.val = true ∧ getB s 0x10000 8 = false) → s.keeper.alarms.contains (16 + r.val) = false →
      (v.toNat < (railLimitsOf s r.val).1 ∨ (railLimitsOf s r.val).2 < v.toNat) → getB t 0xD0100 (8 + r.val) = true ∧ t.keeper.alarms = (16 + r.val) :: s.keeper.alarms ∧
        t.keeper.logNext = (s.keeper.logNext + 1) % 2 ^ 32)) ∧
  (∀ (r : Fin 13) (v : BitVec 16) (s : State), 8 ≤ r.val → hostRuns s = true → s.boot.mode = 1 → Completes (.railSample r v) s fun t =>
    tabGet (fun _ => 0) t.tender.rails r.val = v.toNat ∧ t.reg = s.reg ∧
    (s.tender.alarms.contains (16 + r.val) = false → (v.toNat < (railLimitsOf s r.val).1 ∨ (railLimitsOf s r.val).2 < v.toNat) →
      t.tender.alarms = (16 + r.val) :: s.tender.alarms ∧ t.tender.hold3.length = s.tender.hold3.length + 2))

/-- R446-R449: the watchdogs. -/
def Obligations.Watchdogs : Prop :=
  (∀ (w : Word) (n : Nat) (s : State), s.keeper.wdtOn = false ∨ coreRuns s = false → exec (.wdtKick w n) s = .next s ∧ exec .watchdogWarn s = .next s ∧ exec .watchdogExpiry s = .next s) ∧
  (∀ (w : Word) (n : Nat) (s : State), s.keeper.wdtOn = true → coreRuns s = true → s.keeper.kickClk = s.ntb.clk → s.ntb.slew = 0 → resetEarlier s.linkR s = true →
    let tmo := fieldOf s.keeper.wdtCfg 15 0
    (tmo ≤ n → Completes (.wdtKick w n) s fun t => fieldOf (rd t 4) 19 16 = 6 ∧ fieldOf (rd t 4) 23 20 = 3 ∧ t.keeper = {} ∧ t.ctx = []) ∧
    (n < tmo → n < fieldOf s.keeper.wdtCfg 23 16 → Completes (.wdtKick w n) s fun t => fieldOf (rd t 4) 19 16 = 6 ∧ fieldOf (rd t 4) 23 20 = 1 ∧ t.keeper = {}) ∧
    (n < tmo → fieldOf s.keeper.wdtCfg 23 16 ≤ n → w ≠ wdtExpected s → Completes (.wdtKick w n) s fun t => fieldOf (rd t 4) 19 16 = 6 ∧ fieldOf (rd t 4) 23 20 = 2 ∧ t.keeper = {}) ∧
    (n < tmo → n < wdtWarnMs s → fieldOf s.keeper.wdtCfg 23 16 ≤ n → w = wdtExpected s → Completes (.wdtKick w n) s fun t => getB t 0xC0048 16 = (!getB s 0xC0048 16) ∧
      t.keeper.kickClk = s.ntb.clk + n * 655360 ∧ t.keeper.wdtCfg = rd s 0xC0040 ∧ onlyRegs [0xC0048] { s with keeper := t.keeper, ntb := t.ntb, age := t.age, regWas := t.regWas, hregWas := t.hregWas } t) ∧
    (n < tmo → wdtWarnMs s ≤ n → fieldOf s.keeper.wdtCfg 23 16 ≤ n → w = wdtExpected s → Completes (.wdtKick w n) s fun t =>
      getB t 0xC0048 16 = (!getB s 0xC0048 16) ∧ t.keeper.wdtCfg = rd s 0xC0040 ∧ t.keeper.warned = false ∧ (s.keeper.warned = false → getB t 0xC0048 17 = true))) ∧
  (∀ s : State, s.keeper.wdtOn = true → coreRuns s = true → s.keeper.warned = false → s.ntb.clk < s.keeper.kickClk + wdtWarnMs s * 655360 → Completes .watchdogWarn s fun t => getB t 0xC0048 17 = true ∧
    t.keeper.logNext = (s.keeper.logNext + 1) % 2 ^ 32 ∧ t.keeper.kickClk = s.keeper.kickClk) ∧
  (∀ s : State, s.keeper.wdtOn = true → coreRuns s = true → resetEarlier s.linkR s = true → Completes .watchdogExpiry s fun t => fieldOf (rd t 4) 19 16 = 6 ∧ fieldOf (rd t 4) 23 20 = 3 ∧ t.keeper = {} ∧ t.ctx = [] ∧
    t.hreg = s.hreg) ∧
  (∀ (w : Word) (s : State), s.guard = some (0xC0040, ~~~w) → guardInTimeR s = true →
    let v := ~~~w
    (fieldOf v 15 0 < 10 ∨ fieldOf v 15 0 ≤ fieldOf v 23 16 ∨ fieldOf v 15 0 ≤ 10 * fieldOf v 31 24 → Completes (.kprWdtCfg w) s fun t =>
      t.guard = none ∧ onlyRegs [0xC0048] { s with guard := none } t ∧ rd t 0xC0048 = withBit (rd s 0xC0048) 18 true) ∧
    (10 ≤ fieldOf v 15 0 → fieldOf v 23 16 < fieldOf v 15 0 → 10 * fieldOf v 31 24 < fieldOf v 15 0 → Completes (.kprWdtCfg w) s fun t =>
      t.guard = none ∧ onlyRegs [0xC0040] { s with guard := none } t ∧ rd t 0xC0040 = v)) ∧
  (∀ s : State, (hostRuns s = false → exec .tenderWdogWarn s = .next s) ∧ (hostRuns s = true → Completes .tenderWdogWarn s fun t => hgetB t 0x4D00 19 = true ∧ t.reg = s.reg ∧
    (hgetB s 0x4D00 19 = true → t.hreg = (hsetB 0x4D00 19 true s).hreg)))

/-- R459-R462: the air interface. -/
def Obligations.TagAirInterface : Prop :=
  (∀ s : State, (s.tag.st ≠ 0 → exec .fieldOn s = .next s) ∧ (s.tag.st = 0 → Completes .fieldOn s fun t => t.tag.st = 1 ∧ t.tag.cfg = tagRecord s ∧ t.tag.copies = s.tag.copies ∧ t.reg = s.reg ∧
      (hostPower s < 2 → s.tag.raised = false ∨ s.tag.fdLow ≤ s.age → hgetB t 0x4D00 15 = true ∧ hgetB t 0x6004 17 = true))) ∧
  (∀ s : State, (s.tag.st = 0 → exec .fieldLost s = .next s) ∧ (s.tag.st ≠ 0 → Completes .fieldLost s fun t => t.tag.st = 0 ∧ t.tag.fieldWrite = none ∧ t.tag.fieldWait = none ∧
      t.tag.held = none ∧ t.reg = s.reg ∧ (s.tag.served = true → s.tag.st = 5 → t.tag.quiet = true))) ∧
  (∀ s : State, (s.tag.quiet = true → s.tag.st = 1 → exec .reqa s = .next s ∧ exec .wupa s = .next s) ∧ (s.tag.quiet = true → s.tag.st = 4 → exec .wupa s = .next s) ∧
    (s.tag.st = 4 → exec .reqa s = .next s) ∧ (s.tag.st = 5 ∨ s.tag.st = 0 → exec .reqa s = .next s ∧ exec .wupa s = .next s) ∧
    (s.tag.quiet = false → s.tag.st = 1 → Completes .reqa s (fun t => t.tag.st = 2 ∧ t.tag.fromHalt = false ∧ t.tag.sent = s.tag.sent ++ [[0x44, 0x00]]) ∧
      Completes .wupa s (fun t => t.tag.st = 2 ∧ t.tag.fromHalt = false ∧ t.tag.sent = s.tag.sent ++ [[0x44, 0x00]])) ∧
    (s.tag.quiet = false → s.tag.st = 4 → Completes .wupa s fun t => t.tag.st = 2 ∧ t.tag.fromHalt = true ∧ t.tag.sent = s.tag.sent ++ [[0x44, 0x00]])) ∧
  (∀ s : State, s.tag.st = 2 ∨ s.tag.st = 3 →
    let back := if s.tag.fromHalt then 4 else 1
    Completes .reqa s (fun t => t.tag.st = back ∧ t.tag.sent = s.tag.sent) ∧ Completes .wupa s (fun t => t.tag.st = back ∧ t.tag.sent = s.tag.sent) ∧
    Completes .tagOtherFrame s (fun t => t.tag.st = back ∧ t.tag.sent = s.tag.sent) ∧ Completes .sDeselect s (fun t => t.tag.st = back ∧ t.tag.sent = s.tag.sent) ∧
    (s.tag.st = 2 → Completes .hlta s (fun t => t.tag.st = back) ∧ Completes .rats s (fun t => t.tag.st = back)) ∧
    (s.tag.st = 3 → Completes .hlta s (fun t => t.tag.st = 4 ∧ t.tag.sent = s.tag.sent) ∧ Completes .rats s (fun t => t.tag.st = 5 ∧ t.tag.cfg = tagRecord s ∧ t.tag.sk = [] ∧
      t.tag.served = false ∧ t.tag.rt = none ∧ t.tag.ctrIn = 0 ∧ t.tag.ctrOut = 0))) ∧
  (∀ (u : BitVec 56) (s : State), (s.tag.st = 2 → u = Config.tagUid → Completes (.anticollisionSelect u) s fun t => t.tag.st = 3 ∧ t.tag.sent = s.tag.sent ++ [[0x04], [0x20]]) ∧
    (s.tag.st = 3 ∨ (s.tag.st = 2 ∧ u ≠ Config.tagUid) → Completes (.anticollisionSelect u) s fun t => t.tag.st = (if s.tag.fromHalt then 4 else 1) ∧ t.tag.sent = s.tag.sent) ∧
    (s.tag.st ≠ 2 → s.tag.st ≠ 3 → exec (.anticollisionSelect u) s = .next s)) ∧
  (∀ s : State, s.tag.st ≠ 2 → s.tag.st ≠ 3 → exec .hlta s = .next s ∧ exec .rats s = .next s ∧ exec .tagOtherFrame s = .next s ∧ (s.tag.st ≠ 5 → exec .sDeselect s = .next s)) ∧
  (∀ s : State, s.tag.st = 5 → Completes .sDeselect s fun t => t.tag.st = 4 ∧ t.tag.served = false ∧ t.tag.sk = [] ∧ t.tag.rt = none ∧ t.tag.sent = s.tag.sent ++ [[0xC2]] ∧
    t.tag.quiet = (s.tag.served || s.tag.quiet) ∧ t.tag.copies = s.tag.copies ∧ t.tag.buf = s.tag.buf ∧ t.reg = s.reg ∧
    (hostPower s < 2 → hrd t 0x6060 = (if s.tag.served then hrd s 0x6060 + 1 else hrd s 0x6060) ∧ hgetB t 0x4D00 16 = true)) ∧
  (∀ s : State, (s.tag.quiet = false → exec .quietExpiry s = .next s) ∧ (s.tag.quiet = true → Completes .quietExpiry s fun t => t.tag = { s.tag with quiet := false } ∧
    hgetB t 0x6004 4 = false ∧ (∀ o, o ≠ 0x6004 → hrd t o = hrd s o) ∧ (s.tag.quietEnd ≤ t.age ∨ (s.tag.st = 0 ∧ s.tag.quietDrop ≤ t.age))))

/-- R463-R469: tag commands. -/
def Obligations.TagCommands : Prop :=
  (∀ (bs : List Byte) (s : State), s.tag.st ≠ 5 ∨ s.tag.fieldWrite.isSome = true ∨ s.tag.fieldWait.isSome = true → exec (.getInfo bs) s = .next s ∧ exec (.readPage bs) s = .next s ∧
    exec (.writePage bs) s = .next s ∧ exec (.setConfig bs) s = .next s ∧ exec (.authBegin bs) s = .next s ∧ exec (.authFinish bs) s = .next s) ∧
  (∀ (bs : List Byte) (s : State), s.tag.st = 5 → s.tag.fieldWrite = none → s.tag.fieldWait = none → s.tag.sk = [] →
    let answers := fun (st : Nat) (t : State) => decide (t.tag.sent = s.tag.sent ++ [leBytes 1 st] ∧ t.tag.rt = none ∧ t.tag.copies = s.tag.copies ∧ t.tag.st = 5)
    (bs = [] → Completes (.getInfo bs) s (fun t => answers 4 t = true) ∧ Completes (.authBegin bs) s (fun t => answers 4 t = true)) ∧
    (bs ≠ [] → tagCodes.contains (leAt bs 0 1) = false → Completes (.getInfo bs) s (fun t => answers 11 t = true) ∧ Completes (.authFinish bs) s (fun t => answers 11 t = true)) ∧
    (leAt bs 0 1 = 1 → bs.length = 1 → tagSecured s = false → Completes (.getInfo bs) s fun t => t.tag.sent = s.tag.sent ++ [leBytes 1 0 ++ tagIdentity s] ∧ t.tag.served = true) ∧
    (leAt bs 0 1 = 1 → bs.length = 1 → tagSecured s = true → Completes (.getInfo bs) s fun t => t.tag.sent = s.tag.sent ++ [leBytes 1 0 ++ leBytes 1 1 ++ leBytes 7 Config.tagUid.toNat]) ∧
    (leAt bs 0 1 = 0x20 → bs.length ≠ 2 → Completes (.readPage bs) s fun t => answers 4 t = true) ∧
    (leAt bs 0 1 = 0x20 → bs.length = 2 → 63 < leAt bs 1 1 → Completes (.readPage bs) s fun t => answers 12 t = true) ∧
    (leAt bs 0 1 = 0x20 → bs.length = 2 → leAt bs 1 1 ≤ 63 → (tagSecured s = true ∨ fread s (leAt bs 1 1) = true) → Completes (.readPage bs) s fun t => answers 17 t = true) ∧
    (leAt bs 0 1 = 0x20 → bs.length = 2 → leAt bs 1 1 ≤ 63 → tagSecured s = false → fread s (leAt bs 1 1) = false → Completes (.readPage bs) s fun t =>
      t.tag.sent = s.tag.sent ++ [leBytes 1 0 ++ (leBytes 4 (pageSeq s (leAt bs 1 1)) ++ pageData s (leAt bs 1 1))] ∧ t.tag.served = true ∧ t.tag.copies = s.tag.copies)) ∧
  (∀ (bs : List Byte) (s : State), s.tag.st = 5 → s.tag.fieldWrite = none → s.tag.fieldWait = none → s.tag.sk = [] →
    let answers := fun (st : Nat) (t : State) => decide (t.tag.sent = s.tag.sent ++ [leBytes 1 st] ∧ t.tag.rt = none ∧ t.tag.copies = s.tag.copies ∧ t.tag.st = 5)
    (leAt bs 0 1 = 0x21 → bs.length = 130 → Completes (.writePage bs) s fun t => answers (if 63 < leAt bs 1 1 then 12 else 17) t = true) ∧
    (leAt bs 0 1 = 0x30 → bs.length = 3 → Completes (.setConfig bs) s fun t => answers (if 1 < leAt bs 1 1 ∨ leAt bs 2 1 < 2 ∨ 20 < leAt bs 2 1 then 12 else 17) t = true) ∧
    (leAt bs 0 1 = 0x10 → bs.length = 1 → Completes (.authBegin bs) s fun t => t.tag.rt.isSome = true ∧ t.tag.st = 5 ∧ t.tag.sk = [] ∧ t.tag.served = true ∧ t.free = s.free + 1 ∧
      t.tag.copies = s.tag.copies) ∧
    (leAt bs 0 1 = 0x11 → bs.length = 33 → s.tag.rt = none → Completes (.authFinish bs) s fun t => answers 22 t = true)) ∧
  (∀ (bs : List Byte) (s : State), s.tag.st = 5 → s.tag.fieldWrite = none → s.tag.fieldWait = none → s.tag.sk = [] → leAt bs 0 1 = 0x11 → bs.length = 33 → s.tag.rt.isSome = true →
    let ks := roundKeys (natsOf (tagKey s))
    let c := natsOf (bs.drop 1)
    xorL (aesDec ks (c.drop 16)) (c.take 16) ≠ rotByte (natsOf (s.tag.rt.getD [])) → Completes (.authFinish bs) s fun t => t.tag.st = 4 ∧ t.tag.sk = [] ∧ t.tag.sent = s.tag.sent ++ [leBytes 1 1] ∧
      (hostPower s < 2 → hrd t 0x6064 = hrd s 0x6064 + 1)) ∧
  (∀ (bs : List Byte) (s : State), s.tag.st = 5 → s.tag.fieldWrite = none → s.tag.fieldWait = none → s.tag.sk = [] → leAt bs 0 1 = 0x11 → bs.length = 33 → s.tag.rt.isSome = true →
    let ks := roundKeys (natsOf (tagKey s))
    let c := natsOf (bs.drop 1)
    let rt := natsOf (s.tag.rt.getD [])
    xorL (aesDec ks (c.drop 16)) (c.take 16) = rotByte rt → Completes (.authFinish bs) s fun t => t.tag.st = 5 ∧ t.tag.rt = none ∧ t.tag.ctrIn = 0 ∧ t.tag.ctrOut = 0 ∧
      t.tag.sk = bytesOf (aesEnc ks ((aesDec ks (c.take 16)).take 8 ++ rt.take 8)) ∧ t.tag.sent = s.tag.sent ++ [leBytes 1 0 ++ bytesOf (aesEnc ks (rotByte (aesDec ks (c.take 16))))]) ∧
  (∀ (bs : List Byte) (s : State), s.tag.st = 5 → s.tag.fieldWrite = none → s.tag.fieldWait = none → s.tag.hostWrite = none → s.tag.sk ≠ [] → 8 ≤ bs.length →
    let p := ccmOpen (natsOf s.tag.sk) (tagNonce s.tag.ctrIn 0) [] (natsOf (bs.take (bs.length - 8))) (natsOf (bs.drop (bs.length - 8)))
    let q := bytesOf (p.getD [])
    Completes (.writePage bs) s (fun t => (p = none → t.tag.st = 4 ∧ t.tag.sk = [] ∧ t.tag.sent = s.tag.sent ++ [leBytes 1 1] ∧ t.tag.copies = s.tag.copies) ∧
      (p.isSome = true → leAt q 0 1 = 0x21 → q.length = 130 → leAt q 1 1 ≤ 63 → fwrite s (leAt q 1 1) = true →
        t.tag.fieldWrite = some { cmd := 1, page := leAt q 1 1, data := q.drop 2, asked := s.age, since := s.age } ∧ t.tag.sent = s.tag.sent ∧ t.tag.ctrIn = (s.tag.ctrIn + 1) % 2 ^ 32 ∧ t.tag.st = 5)) ∧
    Completes (.readPage bs) s (fun t => p = none → t.tag.st = 4 ∧ t.tag.sk = [] ∧ t.tag.sent = s.tag.sent ++ [leBytes 1 1]) ∧
    Completes (.setConfig bs) s (fun t => p.isSome = true → leAt q 0 1 = 0x30 → q.length = 3 → leAt q 1 1 ≤ 1 → 2 ≤ leAt q 2 1 → leAt q 2 1 ≤ 20 →
      t.tag.fieldWrite = some { cmd := 3, page := 64, data := q.drop 1, asked := s.age, since := s.age } ∧ t.tag.sent = s.tag.sent ∧ t.tag.ctrIn = (s.tag.ctrIn + 1) % 2 ^ 32))

/-- R467-R472: pages and the host side. -/
def Obligations.TagPagesAndHost : Prop :=
  (∀ (p : Fin 65) (f x : Bool) (s : State), (if f then s.tag.fieldWrite else s.tag.hostWrite) = none → exec (.pageWriteDone p f x) s = .next s) ∧
  (∀ (p : Fin 65) (x : Bool) (s : State), ∀ w, s.tag.fieldWrite = some w → (w.page ≠ p.val → exec (.pageWriteDone p true x) s = .next s) ∧
    (w.page = p.val → s.tag.held = none → Completes (.pageWriteDone p true x) s fun t => t.tag.fieldWrite = none ∧ t.tag.sent.length = s.tag.sent.length + 1 ∧
      (x = false → pageData t p.val = writtenData w s ∧ pageSeq t p.val = (pageSeq s p.val + 1) % 2 ^ 32) ∧ (x = true → t.tag.copies = s.tag.copies) ∧
      (∀ q, q ≠ p.val → pageSeq t q = pageSeq s q ∧ pageData t q = pageData s q))) ∧
  (∀ (p : Fin 65) (x : Bool) (s : State), ∀ w, s.tag.hostWrite = some w → w.page = p.val → s.tag.fieldWait = none → Completes (.pageWriteDone p false x) s fun t => t.tag.hostWrite = none ∧
      hgetB t 0x6004 9 = false ∧ hgetF t 0x600C 7 0 = (if x then sFlash else 0) ∧ hgetF t 0x600C 31 16 = (hgetF s 0x600C 31 16 + 1) % 65536 ∧
      (x = false → pageData t p.val = writtenData w s ∧ pageSeq t p.val = (pageSeq s p.val + 1) % 2 ^ 32) ∧ (x = true → t.tag.copies = s.tag.copies) ∧
      (∀ q, q ≠ p.val → pageSeq t q = pageSeq s q ∧ pageData t q = pageData s q)) ∧
  (∀ (o : Word) (z : AccSize) (v : Word) (s : State),
    let a := accAddr z (o.toNat % 0x2000)
    (hostRuns s = false → exec (.tagmWrite o z v) s = .next s) ∧
    (hostRuns s = true → (a / 128 = 0 ∨ (hgetB s 0x6004 8 = true ∧ hgetF s 0x600C 13 8 ≠ a / 128)) → exec (.tagmWrite o z v) s = .next (hsetB 0x6004 20 true s)) ∧
    (hostRuns s = true → a / 128 ≠ 0 → hgetB s 0x6004 8 = false → Completes (.tagmWrite o z v) s fun t => hgetB t 0x6004 8 = true ∧ hgetF t 0x600C 13 8 = a / 128 ∧
      t.tag.copies = s.tag.copies ∧ t.tag.buf = (pageData s (a / 128)).take (a % 128) ++ accBytes z v ++ (pageData s (a / 128)).drop (a % 128 + (accBytes z v).length)) ∧
    (hostRuns s = true → a / 128 ≠ 0 → hgetB s 0x6004 8 = true → hgetF s 0x600C 13 8 = a / 128 → Completes (.tagmWrite o z v) s fun t =>
      t = { s with tag := { s.tag with buf := s.tag.buf.take (a % 128) ++ accBytes z v ++ s.tag.buf.drop (a % 128 + (accBytes z v).length) } })) ∧
  (∀ s : State, hostRuns s = false → exec .tagCommit s = .next s ∧ exec .tagDiscard s = .next s ∧ exec .quietClr s = .next s ∧ exec .tagKeyLoad s = .next s ∧ exec .cfgStore s = .next s) ∧
  (∀ s : State, hostRuns s = true → hgetB s 0x6004 9 = true → exec .tagCommit s = .next (hsetB 0x6004 20 true s) ∧ exec .tagKeyLoad s = .next (hsetB 0x6004 20 true s) ∧
    exec .cfgStore s = .next (hsetB 0x6004 20 true s)) ∧
  (∀ s : State, hostRuns s = true → hgetB s 0x6004 9 = false → (hgetB s 0x6004 8 = false → Completes .tagCommit s fun t => hgetF t 0x600C 7 0 = 0 ∧ hgetB t 0x6004 9 = false ∧ t.tag = s.tag) ∧
    (hgetB s 0x6004 8 = true → s.tag.fieldWrite = none → Completes .tagCommit s fun t => hgetB t 0x6004 9 = true ∧ t.tag.held = none ∧
      t.tag.hostWrite = some { cmd := 1, page := hgetF s 0x600C 13 8, data := s.tag.buf, asked := s.age, since := s.age } ∧ ∀ q, pageSeq t q = pageSeq s q ∧ pageData t q = pageData s q)) ∧
  (∀ s : State, hostRuns s = true → Completes .tagDiscard s (fun t => hgetB t 0x6004 8 = false ∧ t.tag = { s.tag with buf := [] } ∧ onlyHregs [0x6004] { s with tag := t.tag } t) ∧
    Completes .quietClr s (fun t => t.tag = { s.tag with quiet := false } ∧ hgetB t 0x6004 4 = false ∧ onlyHregs [0x6004] { s with tag := t.tag } t)) ∧
  (∀ s : State, hostRuns s = true → hgetB s 0x6004 9 = false → (hgetF s 0x6000 12 8 < 2 ∨ 20 < hgetF s 0x6000 12 8 → Completes .cfgStore s fun t => hgetF t 0x600C 7 0 = 12 ∧ t.tag = s.tag) ∧
    (2 ≤ hgetF s 0x6000 12 8 → hgetF s 0x6000 12 8 ≤ 20 → s.tag.fieldWrite = none → Completes .cfgStore s fun t => hgetB t 0x6004 9 = true ∧
      t.tag.hostWrite = some { cmd := 3, page := 64, data := tagRegBytes s, asked := s.age, since := s.age }) ∧
    (2 ≤ hgetF s 0x6000 12 8 → hgetF s 0x6000 12 8 ≤ 20 → ∀ w, s.tag.fieldWrite = some w → w.page = 64 → Completes .cfgStore s fun t => hgetB t 0x6004 9 = true ∧
      t.tag.held.isSome = true ∧ t.tag.copies = s.tag.copies)) ∧
  (∀ s : State, hostRuns s = true → hgetB s 0x6004 9 = false →
    let w := (List.range 6).flatMap (fun i => leBytes 4 (hrd s (0x6040 + 4 * i)).toNat)
    let k := kwUnwrap (natsOf (ktOf s)) (natsOf w)
    Completes .tagKeyLoad s (fun t => k = none → hgetB t 0x6004 21 = true ∧ hgetF t 0x600C 7 0 = 1 ∧ t.tag = s.tag) ∧
    (s.tag.fieldWrite = none → Completes .tagKeyLoad s fun t => k.isSome = true → hgetB t 0x6004 9 = true ∧
      t.tag.hostWrite = some { cmd := 2, page := 64, data := bytesOf (k.getD []), asked := s.age, since := s.age })) ∧
  (∀ s : State, (s.tag.held = none → exec .commitHoldTimeout s = .next s) ∧ (s.tag.held.isSome = true → Completes .commitHoldTimeout s fun t => t.tag = { s.tag with held := none } ∧
    hgetF t 0x600C 7 0 = 9 ∧ hgetB t 0x6004 9 = false ∧ hgetF t 0x600C 31 16 = (hgetF s 0x600C 31 16 + 1) % 65536))

/-- R486-R494: test and bypass. -/
def Obligations.SelfTestsTonesAndTaps : Prop :=
  (∀ (f : Bool) (d : BitVec 24) (s : State), (bistRunning s = false → exec (.bistDone f d) s = .next s) ∧
    (bistRunning s = true →
      let b := getF s 0xE0018 1 0
      let i := getF s 0xE0018 12 8
      Completes (.bistDone f d) s fun t => bistRunning t = false ∧ rd t 0xE001C = BitVec.ofNat 32 (if f then 1 + 256 * d.toNat else 0) ∧
        t.keeper.failed.contains (256 * b + i) = f ∧ (∀ u, u ≠ 256 * b + i → t.keeper.failed.contains u = s.keeper.failed.contains u) ∧
        (t.keeper.pend.any (fun p => p.opcode == 0x0F01 && p.obj == 256 * b + i) = false ∨ 1 < s.keeper.pend.length) ∧
        (b = 0 → f = true → bankOut t i = true) ∧
        (s.keeper.pend.any (fun p => p.opcode == 0x8F05 && p.obj == 256 * b + i) = true → f = false → (b = 0 → bankOut t i = false) ∧ (b = 1 → frdOut t i = false) ∧ (b = 2 → coreIn t i = true)) ∧
        (f = true → b = 1 → frdOut t i = frdOut s i) ∧ (f = true → b = 2 → coreIn t i = coreIn s i))) ∧
  (∀ s : State, (s.keeper.toneEnd = none → exec .toneEnd s = .next s) ∧
    (s.keeper.toneEnd.isSome = true → Completes .toneEnd s fun t => t.keeper.toneEnd = none ∧ t.hreg = s.hreg ∧ t.pkt = s.pkt)) ∧
  (∀ s : State, (s.keeper.loopNext = none → exec .loopbackSwitch s = .next s) ∧
    (∀ k, s.keeper.loopNext = some k → k < 3 → Completes .loopbackSwitch s fun t => t.keeper.loopNext = none ∧ getF t 0xE0004 17 16 = k ∧ t.hreg = s.hreg)) ∧
  (∀ (d : Die) (s : State), (if d = .radio then s.power.dead = false else hostPower s < 2) →
    let sel := fun (n : Nat) (dr : List Bool) => ({ s with taps := if d = .radio then { s.taps with radio := n, radioDr := dr } else { s.taps with host := n, hostDr := dr } } : State)
    let code := (List.range 32).map (if d = .radio then Config.idcodeRadio else Config.idcodeHost).getLsbD
    Completes (.extest d) s (fun t => t = { sel 3 (Config.boundary s.free) with free := t.free }) ∧
    Completes (.samplePreload d) s (fun t => t = { sel 2 (Config.boundary s.free) with free := t.free }) ∧
    Completes (.bypass d) s (fun t => t = sel 1 [false]) ∧ Completes (.idcode d) s (fun t => t = sel 0 code) ∧ Completes (.tapReset d) s (fun t => t = sel 0 code)) ∧
  (∀ (d : Die) (s : State), (if d = .radio then s.power.dead = true else 2 ≤ hostPower s) → exec (.extest d) s = .next s ∧ exec (.bypass d) s = .next s ∧ exec (.idcode d) s = .next s ∧
    exec (.samplePreload d) s = .next s ∧ exec (.tapReset d) s = .next s)

/-- R353-R369, R384, R454: the H commands. -/
def Obligations.TenderCommands : Prop :=
  (∀ (q : Req) (s : State), forTender q s = false →
    Completes (.nop q) s (tenderAnswered 0x0101 q 12 [] s) ∧
    Completes (.sysStatus q) s (tenderAnswered 0x0102 q 12 [] s) ∧
    Completes (.sysReset q) s (tenderAnswered 0x8103 q 12 [] s) ∧
    Completes (.settingsSave q) s (tenderAnswered 0x0105 q 12 [] s) ∧
    Completes (.settingsDefault q) s (tenderAnswered 0x8106 q 12 [] s) ∧
    Completes (.idGet q) s (tenderAnswered 0x0201 q 12 [] s) ∧
    Completes (.certRead q) s (tenderAnswered 0x0202 q 12 [] s) ∧
    Completes (.rtcSync q) s (tenderAnswered 0x0709 q 12 [] s) ∧
    Completes (.powerStatus q) s (tenderAnswered 0x0A02 q 12 [] s) ∧
    Completes (.ockReplace q) s (tenderAnswered 0x8B04 q 12 [] s) ∧
    Completes (.updBegin q) s (tenderAnswered 0x8C01 q 12 [] s) ∧
    Completes (.updWrite q) s (tenderAnswered 0x0C02 q 12 [] s) ∧
    Completes (.updCommit q) s (tenderAnswered 0x8C03 q 12 [] s) ∧
    Completes (.updStatus q) s (tenderAnswered 0x0C04 q 12 [] s) ∧
    Completes (.updAbort q) s (tenderAnswered 0x0C05 q 12 [] s) ∧
    Completes (.snapRead q) s (tenderAnswered 0x0D02 q 12 [] s)) ∧
  (∀ (q : Req) (s : State), forTender q s = true →
    (q.payload.length ≠ 0 → Completes (.nop q) s (tenderAnswered 0x0101 q 4 [] s)) ∧
    (q.payload.length ≠ 0 → Completes (.sysStatus q) s (tenderAnswered 0x0102 q 4 [] s)) ∧
    (q.payload.length ≠ 4 → Completes (.sysReset q) s (tenderAnswered 0x8103 q 4 [] s)) ∧
    (q.payload.length ≠ 0 → Completes (.settingsSave q) s (tenderAnswered 0x0105 q 4 [] s)) ∧
    (q.payload.length ≠ 0 → Completes (.settingsDefault q) s (tenderAnswered 0x8106 q 4 [] s)) ∧
    (q.payload.length ≠ 0 → Completes (.idGet q) s (tenderAnswered 0x0201 q 4 [] s)) ∧
    (q.payload.length ≠ 8 → Completes (.certRead q) s (tenderAnswered 0x0202 q 4 [] s)) ∧
    (q.payload.length ≠ 4 → Completes (.rtcSync q) s (tenderAnswered 0x0709 q 4 [] s)) ∧
    (q.payload.length ≠ 0 → Completes (.powerStatus q) s (tenderAnswered 0x0A02 q 4 [] s)) ∧
    (q.payload.length ≠ 24 → Completes (.ockReplace q) s (tenderAnswered 0x8B04 q 4 [] s)) ∧
    (q.payload.length ≠ 0 → Completes (.updCommit q) s (tenderAnswered 0x8C03 q 4 [] s)) ∧
    (q.payload.length ≠ 0 → Completes (.updStatus q) s (tenderAnswered 0x0C04 q 4 [] s)) ∧
    (q.payload.length ≠ 0 → Completes (.updAbort q) s (tenderAnswered 0x0C05 q 4 [] s)) ∧
    (q.payload.length ≠ 8 → Completes (.snapRead q) s (tenderAnswered 0x0D02 q 4 [] s))) ∧
  (∀ (q : Req) (s : State), forTender q s = true → q.payload = [] → Completes (.nop q) s (tenderAnswered 0x0101 q 0 [] s) ∧
    Completes (.sysStatus q) s (tenderAnswered 0x0102 q 0 (leBytes 1 (hostPower s) ++ leBytes 1 (hgetF s 0x1000 5 4) ++ leBytes 1 (hgetF s 0x2000 1 0) ++
      leBytes 1 (if s.tender.netSeen then s.tender.netState else 0xFF) ++ leBytes 1 (hostDev s) ++ leBytes 3 0 ++ leBytes 4 s.tender.radioResets ++
      leBytes 4 ((s.age - s.tender.start) * 100000 / 65536000000000)) s) ∧
    Completes (.settingsDefault q) s (fun t => tenderAnswered 0x8106 q 0 [] s t ∧ t.settings = { s.settings with resetNext := true }) ∧
    Completes (.powerStatus q) s (tenderAnswered 0x0A02 q 0 (leBytes 1 (hgetF s 0x1000 5 4) ++ leBytes 1 (hostPower s) ++
      leBytes 1 (if getB s 0x10000 14 then getF s 0x10000 13 12 else 0xFF) ++ leBytes 1 0 ++ leBytes 2 (getF s 0x1001C 9 0) ++ leBytes 2 0 ++ leBytes 4 (rd s 0x10018).toNat) s) ∧
    Completes (.idGet q) s (tenderAnswered 0x0201 q 0 (let v := if s.boot.mode = 2 then 0 else imgVer s s.boot.slot
      leBytes 4 (hrd s 0).toNat ++ leBytes 1 (hrd s 4).toNat ++ leBytes 3 0 ++ leBytes 8 Config.eui.toNat ++ leBytes 4 v ++ leBytes 4 v ++ leBytes 4 v ++
      leBytes 1 s.boot.slot ++ leBytes 3 0 ++ leBytes 4 (if s.tender.last = 0xFFFFFFFF then 0 else s.tender.last + 1)) s)) ∧
  (∀ (q : Req) (s : State), forTender q s = true → q.payload = [] →
    ((getBank s s.settings.active).valid = false → Completes (.settingsSave q) s fun t => tenderAnswered 0x0105 q 24 [] s t ∧ t.settings = s.settings) ∧
    ((getBank s s.settings.active).valid = true → s.tender.radioReady = false → Completes (.settingsSave q) s fun t => tenderAnswered 0x0105 q 0 [] s t ∧ t.settings = s.settings) ∧
    ((getBank s s.settings.active).valid = true → s.tender.radioReady = true → Completes (.settingsSave q) s fun t => tenderAnswered 0x0105 q 0 [] s t ∧
      (getBank t s.settings.active).config = some (savedRegs.map (fun o => (o, rd s o))) ∧ (getBank t s.settings.active).seq = (getBank s s.settings.active).seq ∧
      (getBank t s.settings.active).core = (getBank s s.settings.active).core)) ∧
  (∀ (q : Req) (s : State), forTender q s = true → q.payload.length = 4 →
    (fld q 0 1 = 0 ∨ 3 < fld q 0 1 ∨ fld q 1 3 ≠ 0 → Completes (.sysReset q) s fun t => tenderAnswered 0x8103 q 12 [] s t ∧ t.boot = s.boot) ∧
    (1 ≤ fld q 0 1 → fld q 0 1 ≤ 3 → fld q 1 3 = 0 → Completes (.sysReset q) s fun t => tenderAnswered 0x8103 q 0 [] s t ∧ t.boot = { s.boot with due := fld q 0 1, dueAge := s.age + 6553600 })) ∧
  (∀ (q : Req) (s : State), forTender q s = true → q.payload.length = 8 → fld q 0 1 < 8 → fld q 1 1 = 0 → fld q 4 2 ≤ 4076 → fld q 6 2 = 0 →
    let cert := Config.cert (fld q 0 1)
    Completes (.certRead q) s fun t => if cert = [] then tenderAnswered 0x0202 q 20 [] s t
      else if cert.length < fld q 2 2 + fld q 4 2 then tenderAnswered 0x0202 q 4 [] s t
      else tenderAnswered 0x0202 q 0 (leBytes 2 cert.length ++ leBytes 2 0 ++ (cert.drop (fld q 2 2)).take (fld q 4 2)) s t) ∧
  (∀ (q : Req) (s : State), forTender q s = true → q.payload.length = 8 → fld q 4 1 ≤ 127 → fld q 5 3 = 0 →
    (s.tender.snapshot = none → Completes (.snapRead q) s (tenderAnswered 0x0D02 q 20 [] s)) ∧
    (∀ log, s.tender.snapshot = some log → log ≠ [] →
      let es := (log.filter (fun e => decide (max (fld q 0 4) (leAt (log.headD []) 0 4) ≤ leAt e 0 4))).take (fld q 4 1)
      Completes (.snapRead q) s (tenderAnswered 0x0D02 q 0 (leBytes 4 (leAt (log.headD []) 0 4) ++ leBytes 4 (leAt (log.getLast?.getD []) 0 4 + 1) ++ leBytes 1 es.length ++ leBytes 7 0 ++
        es.flatten) s))) ∧
  (∀ (q : Req) (s : State), forTender q s = true → q.payload.length = 24 →
    let k := kwUnwrap (natsOf (ktOf s)) (natsOf q.payload)
    Completes (.ockReplace q) s fun t => if k = none then tenderAnswered 0x8B04 q 1 [] s t ∧ t.settings = s.settings ∧ t.tender.last = s.tender.last
      else if (getBank s s.settings.active).valid = false then tenderAnswered 0x8B04 q 24 [] s t ∧ t.settings = s.settings ∧ t.tender.last = s.tender.last
      else tenderAnswered 0x8B04 q 0 [] s t ∧ ockOf t = bytesOf (k.getD []) ∧ t.tender.last = 0 ∧ t.tender.persisted = 0 ∧ coreGet t 256 ≠ none) ∧
  (∀ (q : Req) (s : State), forTender q s = true → q.payload.length = 4 → fld q 2 2 = 0 →
    (s.tender.netSeen = false ∨ s.tender.netState % 4 = 0 → Completes (.rtcSync q) s fun t => tenderAnswered 0x0709 q 22 [] s t ∧ t.rtc = s.rtc) ∧
    (s.tender.netSeen = true → s.tender.netState % 4 ≠ 0 → s.rtc.sync.isSome = true → Completes (.rtcSync q) s fun t => tenderAnswered 0x0709 q 9 [] s t ∧ t.rtc = s.rtc) ∧
    (s.tender.netSeen = true → s.tender.netState % 4 ≠ 0 → s.rtc.sync = none → Completes (.rtcSync q) s fun t => t.rtc.sync = some (useOf s 0x0709 q, sgn q 0 2) ∧ hgetB t 0x5010 8 = false ∧
      hgetB t 0x5010 9 = false ∧ t.tender.hold0 = s.tender.hold0 ∧ t.tender.tags = s.tender.tags))

/-- R404-R413: firmware update. -/
def Obligations.UpdateCommands : Prop :=
  (∀ (q : Req) (s : State), forTender q s = true →
    let key := kwUnwrap (natsOf (ktOf s)) (natsOf (q.payload.take 40))
    let h := q.payload.drop 40
    let level := if s.boot.mode = 1 then hLevel (slotHeader s s.boot.slot) else 0
    (q.payload.length < 296 → Completes (.updBegin q) s fun t => tenderAnswered 0x8C01 q 4 [] s t ∧ t.boot = s.boot ∧ t.flash = s.flash) ∧
    (296 ≤ q.payload.length → Completes (.updBegin q) s fun t => inTrial s = true → tenderAnswered 0x8C01 q 22 [] s t ∧ t.boot = s.boot ∧ t.flash = s.flash) ∧
    (296 ≤ q.payload.length → inTrial s = false → Completes (.updBegin q) s fun t =>
      let n := if sameHeader s (otherSlot s) h then verified s (otherSlot s) else 0
      if key = none ∨ htagOk (bytesOf (key.getD [])) h = false then tenderAnswered 0x8C01 q 1 [] s t ∧ t.boot = s.boot ∧ t.flash = s.flash
      else if headerOk h level = false then tenderAnswered 0x8C01 q 25 [] s t ∧ t.boot = s.boot ∧ t.flash = s.flash
      else tenderAnswered 0x8C01 q 0 (leBytes 4 n) s t ∧ t.boot.session = true ∧ t.boot.next = n ∧ t.boot.key = bytesOf (key.getD []) ∧ t.boot.slot = s.boot.slot ∧
        t.flash = if sameHeader s (otherSlot s) h then s.flash else (storeHeader (otherSlot s) h (bytesOf (key.getD [])) s).flash)) ∧
  (∀ (q : Req) (s : State), forTender q s = true → q.payload.length < 8 ∨ 4072 < q.payload.length ∨ (q.payload.length - 8) % 16 ≠ 0 →
    Completes (.updWrite q) s fun t => tenderAnswered 0x0C02 q 4 [] s t ∧ t.flash = s.flash ∧ t.boot = s.boot) ∧
  (∀ (q : Req) (s : State), forTender q s = true → 8 ≤ q.payload.length → q.payload.length ≤ 4072 → (q.payload.length - 8) % 16 = 0 →
    let n := q.payload.length - 8
    let ver := verified s (otherSlot s)
    (fld q 4 4 ≠ 0 ∨ fld q 0 4 ≠ updNext s → Completes (.updWrite q) s fun t => tenderAnswered 0x0C02 q 12 [] s t ∧ t.flash = s.flash ∧ t.boot = s.boot) ∧
    (fld q 4 4 = 0 → fld q 0 4 = updNext s → n = 0 → Completes (.updWrite q) s fun t => tenderAnswered 0x0C02 q 0 (leBytes 4 ver) s t ∧ t.flash = s.flash ∧ t.boot = s.boot) ∧
    (fld q 4 4 = 0 → n ≠ 0 → s.boot.session = false → Completes (.updWrite q) s fun t => fld q 0 4 = updNext s → tenderAnswered 0x0C02 q 22 [] s t ∧ t.flash = s.flash)) ∧
  (∀ (q : Req) (s : State), forTender q s = true → 8 ≤ q.payload.length → q.payload.length ≤ 4072 → (q.payload.length - 8) % 16 = 0 →
    fld q 4 4 = 0 → q.payload.length ≠ 8 → s.boot.session = true → fld q 0 4 = s.boot.next →
    let n := q.payload.length - 8
    let b := otherSlot s
    let ver := verified s b
    let body := hBody (slotHeader s b)
    let u := bodyWrite b (n / 16) (fld q 0 4) (q.payload.drop 8) s
    Completes (.updWrite q) s (fun t => slotState' s b ≠ 1 → tenderAnswered 0x0C02 q 22 [] s t ∧ t.flash = s.flash) ∧
    (body < fld q 0 4 + n → Completes (.updWrite q) s fun t => slotState' s b = 1 → tenderAnswered 0x0C02 q 4 [] s t ∧ t.flash = s.flash) ∧
    (fld q 0 4 + n ≤ body → fld q 0 4 + n < min body (ver + 65536) → Completes (.updWrite q) s fun t => slotState' s b = 1 →
      tenderAnswered 0x0C02 q 0 (leBytes 4 ver) s t ∧ t.boot.next = fld q 0 4 + n ∧ t.boot.session = true ∧ t.flash = u.flash) ∧
    (fld q 0 4 + n ≤ body → min body (ver + 65536) ≤ fld q 0 4 + n → ver < body → Completes (.updWrite q) s fun t => slotState' s b = 1 →
      if (slotChunk u b (ver / 65536)).isSome then t.flash = (putRec b 0x56 (ver / 65536) 0 u).flash ∧ t.boot.next = fld q 0 4 + n ∧
        tenderAnswered 0x0C02 q 0 (leBytes 4 (verified t b)) s t
      else t.flash = u.flash ∧ t.boot.next = ver ∧ tenderAnswered 0x0C02 q 25 [] s t)) ∧
  (∀ (q : Req) (s : State), forTender q s = true → q.payload = [] →
    let b := otherSlot s
    (verified s b = hBody (slotHeader s b) → Completes (.updCommit q) s fun t => if slotState' s b = 1 then tenderAnswered 0x8C03 q 0 [] s t ∧
      t.boot = { s.boot with due := 4, dueAge := s.age + 65536000 } ∧ t.flash = s.flash else tenderAnswered 0x8C03 q 22 [] s t ∧ t.boot = s.boot) ∧
    (verified s b ≠ hBody (slotHeader s b) → Completes (.updCommit q) s fun t => tenderAnswered 0x8C03 q 22 [] s t ∧ t.boot = s.boot) ∧
    Completes (.updStatus q) s (fun t => tenderAnswered 0x0C04 q 0 (leBytes 1 s.boot.slot ++ leBytes 1 (updState s) ++ leBytes 2 0 ++ leBytes 4 (updNext s) ++
      leBytes 4 (if slotState' s b = 1 then verified s b else 0) ++ leBytes 4 (if slotValid s b then hBody (slotHeader s b) else 0) ++
      leBytes 4 (if slotValid s 0 then imgVer s 0 else 0) ++ leBytes 4 (if slotValid s 1 then imgVer s 1 else 0)) s t ∧ t.boot = s.boot ∧ t.flash = s.flash) ∧
    Completes (.updAbort q) s (fun t => inTrial s = true → tenderAnswered 0x0C05 q 22 [] s t ∧ t.boot = s.boot ∧ t.flash = s.flash) ∧
    (inTrial s = false → Completes (.updAbort q) s fun t => tenderAnswered 0x0C05 q 0 [] s t ∧ t.boot.session = false ∧ t.boot.next = 0 ∧ t.boot.due ≠ 4 ∧
      t.flash = (putRec b 0x52 0 0 s).flash))

/-- R299-R304, R368-R370, R433-R435. -/
def Obligations.KeyLoadAndPowerState : Prop :=
  (∀ (q : Req) (s : State), q.payload.length ≠ 32 → q.payload.length ≠ 48 → Completes (.keyLoad q) s (tenderAnswered 0x8B01 q 4 [] s)) ∧
  (∀ (q : Req) (s : State), q.payload.length = 32 ∨ q.payload.length = 48 →
    let kt := fld q 0 4
    let attr := fld q 4 4
    let tg := (useOf s 0x8B01 q).target
    let here := tg == 0x1E || tg == hostDev s
    let key := kwUnwrap (natsOf (ktOf s)) (natsOf (q.payload.drop 8))
    let ok := ktOk kt && attrOk attr && !(decide (16 ≤ tg) && decide (tg < 0x1E))
    (ok = false → Completes (.keyLoad q) s (tenderAnswered 0x8B01 q 12 [] s)) ∧
    (ok = true → q.payload.length = 16 + keySize (attrBig attr) → here = false → kt = 0 ∨ attrBig attr = true → Completes (.keyLoad q) s (tenderAnswered 0x8B01 q 17 [] s)) ∧
    (ok = true → q.payload.length = 16 + keySize (attrBig attr) → here = true → Completes (.keyLoad q) s fun t => key = none → tenderAnswered 0x8B01 q 1 [] s t) ∧
    (ok = true → q.payload.length = 16 + keySize (attrBig attr) → here = true → loadRefused kt attr = true → Completes (.keyLoad q) s fun t => key.isSome = true → tenderAnswered 0x8B01 q 3 [] s t) ∧
    (ok = true → q.payload.length = 16 + keySize (attrBig attr) → here = true → loadRefused kt attr = false →
      256 ≤ kt ∨ (getBank s s.settings.active).valid = true → Completes (.keyLoad q) s fun t => key.isSome = true →
        t.linkH.q = s.linkH.q ++ [(0xA, leBytes 1 (useOf s 0x8B01 q).win ++ leBytes 3 0 ++ leBytes 4 kt ++ leBytes 4 attr ++ leBytes 4 0 ++ padTo 32 (bytesOf (key.getD [])))] ∧
        t.tender.hold0 = s.tender.hold0 ∧ t.tender.tags = s.tender.tags ∧ t.reg = s.reg ∧
        (kt < 256 → (getBank t s.settings.active).core = tabSet (fun _ => none) (getBank s s.settings.active).core kt
          (some { cseq := s.settings.nextCseq, data := leBytes 4 attr ++ bytesOf (kwWrap (natsOf duk) (natsOf (bytesOf (key.getD [])))) })) ∧
        (256 ≤ kt → t.settings = s.settings))) ∧
  (∀ (q : Req) (s : State), s.tender.reqs.contains (q.win.val, reqMsg 0x8A01 q) = true → q.payload.length = 4 → forTender q s = true →
    (3 < fld q 0 1 ∨ fld q 1 3 ≠ 0 → Completes (.powerState q) s (tenderAnswered 0x8A01 q 12 [] s)) ∧
    (fld q 0 1 < 4 → fld q 1 3 = 0 → Completes (.powerState q) s fun t => t.linkH.q = s.linkH.q ++ [(8, leBytes 1 4 ++ leBytes 3 0 ++ leBytes 4 (fld q 0 1))] ∧
      t.tender.hold0.length = s.tender.hold0.length + 1 ∧ t.tender.wakes.map (fun w => w.2.1) = s.tender.wakes.map (fun w => w.2.1) ++ [fld q 0 1] ∧
      t.tender.tags.length = s.tender.tags.length ∧ t.reg = s.reg)) ∧
  (∀ (q : Req) (s : State), s.tender.reqs.contains (q.win.val, reqMsg 0x8A01 q) = false → forKeeper 0x8A01 q s = true → q.payload.length = 4 → getB s 0x10000 8 = false →
    (3 < fld q 0 1 ∨ fld q 1 3 ≠ 0 → Completes (.powerState q) s (keeperOnlyAnswered 0x8A01 q 12 [] s)) ∧
    (fld q 0 1 = radioPower s → fld q 1 3 = 0 → Completes (.powerState q) s fun t => radioPower t = radioPower s ∧ getB t 0x10000 8 = false ∧
      t.linkR.q[s.linkR.q.length]? = some (answerOf 0x8A01 q 8 [] s) ∧ t.keeper.logNext = (s.keeper.logNext + 1) % 2 ^ 32) ∧
    (fld q 0 1 ≠ radioPower s → fld q 0 1 < 2 → radioPower s < 2 → fld q 1 3 = 0 → Completes (.powerState q) s fun t => keeperPends 0x8A01 q 0 [] s t ∧ getB t 0x10000 8 = true ∧
      getF t 0x10000 5 4 = fld q 0 1 ∧ radioPower t = radioPower s))

/-- R358-R372: commands that read. -/
def Obligations.KeeperReadCommands : Prop :=
  (∀ (q : Req) (s : State),
    (forKeeper 0x0302 q s = true → q.payload.length ≠ 0 → Completes (.planGet q) s (keeperOnlyAnswered 0x0302 q 4 [] s)) ∧
    (forKeeper 0x0304 q s = true → q.payload.length ≠ 4 → Completes (.chStats q) s (keeperOnlyAnswered 0x0304 q 4 [] s)) ∧
    (forKeeper 0x0305 q s = true → q.payload.length ≠ 4 → Completes (.chTrace q) s (keeperOnlyAnswered 0x0305 q 4 [] s)) ∧
    (forKeeper 0x0401 q s = true → q.payload.length ≠ 0 → Completes (.radioStatus q) s (keeperOnlyAnswered 0x0401 q 4 [] s)) ∧
    (forKeeper 0x0406 q s = true → q.payload.length ≠ 8 → Completes (.surveyRead q) s (keeperOnlyAnswered 0x0406 q 4 [] s)) ∧
    (forKeeper 0x0504 q s = true → q.payload.length ≠ 4 → Completes (.nodeList q) s (keeperOnlyAnswered 0x0504 q 4 [] s)) ∧
    (forKeeper 0x0701 q s = true → q.payload.length ≠ 0 → Completes (.timeGet q) s (keeperOnlyAnswered 0x0701 q 4 [] s)) ∧
    (forKeeper 0x0801 q s = true → q.payload.length ≠ 0 → Completes (.mrStatus q) s (keeperOnlyAnswered 0x0801 q 4 [] s)) ∧
    (forKeeper 0x0902 q s = true → q.payload.length ≠ 4 → Completes (.evcGet q) s (keeperOnlyAnswered 0x0902 q 4 [] s)) ∧
    (forKeeper 0x0903 q s = true → q.payload.length ≠ 0 → Completes (.evfStatus q) s (keeperOnlyAnswered 0x0903 q 4 [] s)) ∧
    (forKeeper 0x0B03 q s = true → q.payload.length ≠ 4 → Completes (.keyAttr q) s (keeperOnlyAnswered 0x0B03 q 4 [] s)) ∧
    (forKeeper 0x0D01 q s = true → q.payload.length ≠ 8 → Completes (.logRead q) s (keeperOnlyAnswered 0x0D01 q 4 [] s)) ∧
    (forKeeper 0x0E01 q s = true → q.payload.length ≠ 0 → Completes (.sensRead q) s (keeperOnlyAnswered 0x0E01 q 4 [] s))) ∧
  (∀ (q : Req) (s : State), q.payload = [] →
    (forKeeper 0x0302 q s = true → Completes (.planGet q) s (keeperOnlyAnswered 0x0302 q 0 ((List.range 64).flatMap (planEntry s)) s)) ∧
    (forKeeper 0x0401 q s = true → Completes (.radioStatus q) s (keeperOnlyAnswered 0x0401 q 0
      (wordsOf s [0x38000, 0x38004, 0x38008, 0x30004, 0x31004, 0x32004, 0x33004, 0x34004, 0x6000C, 0x6400C, 0x40004, 0x41004, 0x42004, 0x43004]) s)) ∧
    (forKeeper 0x0801 q s = true → Completes (.mrStatus q) s (keeperOnlyAnswered 0x0801 q 0
      (wordsOf s [0xA0010, 0xA0014, 0xA0018, 0xA001C, 0xA0020, 0xA0024, 0xA8010, 0xA8014, 0xA8018, 0xA801C, 0xA8020, 0xA8024, 0xA00C4, 0xA00C8, 0xA00CC, 0xA00D0]) s)) ∧
    (forKeeper 0x0903 q s = true → Completes (.evfStatus q) s (keeperOnlyAnswered 0x0903 q 0
      (wordsOf s [0x80840, 0x80844, 0x80848, 0x8084C, 0x80850, 0x80854, 0x80860, 0x80864, 0x80868, 0x8086C, 0x80870, 0x80874, 0x80880, 0x80884, 0x80888, 0x80890, 0x80894,
        0x80898, 0x80810]) s)) ∧
    (forKeeper 0x0E01 q s = true → Completes (.sensRead q) s (keeperOnlyAnswered 0x0E01 q 0 (leBytes 1 13 ++ leBytes 1 0 ++
      (List.range 8).flatMap (fun n => leBytes 2 (if n < 6 then (rd s (0xD0000 + 4 * n)).toNat else 0)) ++
      (List.range 13).flatMap (fun r => leBytes 1 r ++ leBytes 1 0 ++ leBytes 2 (if r < 8 then (rd s (0xD0040 + 4 * r)).toNat else 0))) s)) ∧
    (forKeeper 0x0701 q s = true → Completes (.timeGet q) s fun t => keeperAnswered 0x0701 q 0 (leBytes 8 (secOf s.ntb.net) ++ leBytes 4 (nanoOf s.ntb.net) ++ leBytes 2 (fracOf s.ntb.net) ++
      leBytes 1 (stepByte s) ++ leBytes 1 (getF s 0x20024 1 0) ++ leBytes 8 (secOf s.ntb.anch) ++ leBytes 4 (nanoOf s.ntb.anch) ++ leBytes 2 (fracOf s.ntb.anch) ++
      leBytes 1 (ntbSource s) ++ leBytes 1 0 ++ leBytes 4 (holdBound s)) s t ∧ t.ntb.net = s.ntb.net ∧ t.ntb.anch = s.ntb.anch)) ∧
  (∀ (q : Req) (s : State), q.payload.length = 4 →
    (forKeeper 0x0305 q s = true → fld q 0 1 < 64 → fld q 1 3 = 0 → Completes (.chTrace q) s (keeperOnlyAnswered 0x0305 q 0
      (wordsOf s ((0x50180 + 0x400 * fld q 0 1) :: (List.range 32).map (fun k => 0x50100 + 0x400 * fld q 0 1 + 4 * k))) s)) ∧
    (forKeeper 0x0305 q s = true → 64 ≤ fld q 0 1 → Completes (.chTrace q) s (keeperOnlyAnswered 0x0305 q 12 [] s)) ∧
    (forKeeper 0x0902 q s = true → fld q 0 1 < 96 → fld q 1 3 = 0 → Completes (.evcGet q) s (keeperOnlyAnswered 0x0902 q 0
      (wordsOf s [0x80000 + 16 * fld q 0 1, 0x80004 + 16 * fld q 0 1, 0x80008 + 16 * fld q 0 1, 0x8000C + 16 * fld q 0 1]) s)) ∧
    (forKeeper 0x0902 q s = true → 96 ≤ fld q 0 1 → Completes (.evcGet q) s (keeperOnlyAnswered 0x0902 q 12 [] s)) ∧
    (forKeeper 0x0B03 q s = true → fld q 1 1 = 0 → fld q 2 2 ≠ 0 → fld q 0 1 + fld q 2 2 ≤ 256 → Completes (.keyAttr q) s (keeperOnlyAnswered 0x0B03 q 0
      ((List.range (fld q 2 2)).flatMap (fun k => leBytes 4 (keyAttr s (fld q 0 1 + k)).toNat)) s)) ∧
    (forKeeper 0x0304 q s = true → fld q 0 1 < 64 → fld q 1 3 = 0 → Completes (.chStats q) s (keeperOnlyAnswered 0x0304 q 0
      (wordsOf s ((List.range 15).map (fun k => 0x50040 + 0x400 * fld q 0 1 + 4 * k))) s)) ∧
    (forKeeper 0x0304 q s = true → fld q 0 1 < 64 → fld q 1 1 = 1 → fld q 2 2 = 0 → Completes (.chStats q) s fun t =>
      keeperAnswered 0x0304 q 0 ((List.range 15).flatMap (fun k => leBytes 4 (liveCount s (fld q 0 1) k).toNat)) s t ∧ t.live = s.live)) ∧
  (∀ (q : Req) (s : State), q.payload.length = 4 → forKeeper 0x0504 q s = true → fld q 0 1 < 8 → fld q 1 1 = 0 →
    let all := s.ctx.filter (fun p => p.2.role != 0 && decide (fld q 2 2 ≤ p.1) && (fld q 0 1 == 0 || (fld q 0 1).testBit (p.2.role - 1)))
    let got := if fld q 0 1 = 0 then [] else all.take 678
    Completes (.nodeList q) s (keeperOnlyAnswered 0x0504 q 0 (leBytes 2 got.length ++ leBytes 2 0 ++
      leBytes 4 (((all.drop got.length).head?.map (fun p => p.1)).getD 0xFFFFFFFF) ++
      got.flatMap (fun p => leBytes 2 p.1 ++ leBytes 3 p.2.addr ++ ((ctxBytes p.2).drop 3).take 1)) s)) ∧
  (∀ (q : Req) (s : State), q.payload.length = 8 →
    (forKeeper 0x0406 q s = true → fld q 4 2 ≤ 4076 → fld q 6 2 = 0 → fld q 0 4 + fld q 4 2 ≤ s.pathS.bins.length → Completes (.surveyRead q) s (keeperOnlyAnswered 0x0406 q 0
      (leBytes 4 s.pathS.bins.length ++ (s.pathS.bins.drop (fld q 0 4)).take (fld q 4 2)) s)) ∧
    (forKeeper 0x0406 q s = true → fld q 4 2 ≤ 4076 → fld q 6 2 = 0 → s.pathS.bins.length < fld q 0 4 + fld q 4 2 → Completes (.surveyRead q) s (keeperOnlyAnswered 0x0406 q 4 [] s)) ∧
    (forKeeper 0x0D01 q s = true → fld q 4 1 ≤ 127 → fld q 5 3 = 0 →
      let from0 := max (fld q 0 4) (rd s 0xC0024).toNat
      let es := (s.keeper.log.drop (from0 - (rd s 0xC0024).toNat)).take (fld q 4 1)
      Completes (.logRead q) s (keeperOnlyAnswered 0x0D01 q 0 (leBytes 4 (rd s 0xC0024).toNat ++ leBytes 4 s.keeper.logNext ++ leBytes 1 es.length ++ leBytes 7 0 ++ es.flatten) s))) ∧
  (∀ (q : Req) (n : Nat) (s : State), q.payload.length = 4 → fld q 3 1 = 0 →
    (forNode 0x0503 q n s = true → Completes (.nodeGet q) s (keeperOnlyAnswered 0x0503 q 0 (leBytes 1 (devOf s) ++ leBytes 3 0 ++ ctxBytes (getCtx s n)) s)) ∧
    (forNode 0x0602 q n s = true → Completes (.dlQueue q) s (keeperOnlyAnswered 0x0602 q 0 (leBytes 1 (getRun s n).dls.length ++ leBytes 3 0 ++
      (getRun s n).dls.flatMap (fun d => leBytes 2 d.tag ++ leBytes 1 d.tries ++ leBytes 1 (if d.fcnt.isSome then 1 else 0) ++ leBytes 4 (d.fcnt.getD 0))) s)))

/-- R358-R360: channel plan and radio. -/
def Obligations.ChannelPlanAndRadioCommands : Prop :=
  (∀ (q : Req) (s : State), forKeeper 0x0303 q s = true → q.payload.length = 16 →
    (planHeld s (fld q 0 1) = true → Completes (.chSet q) s (keeperOnlyAnswered 0x0303 q 9 [] s)) ∧
    (planHeld s (fld q 0 1) = false → planZeros q.payload = false → Completes (.chSet q) s (keeperOnlyAnswered 0x0303 q 12 [] s)) ∧
    (planHeld s (fld q 0 1) = false → planZeros q.payload = true → planCode s q.payload ≠ 0 →
      Completes (.chSet q) s (keeperOnlyAnswered 0x0303 q 12 (leBytes 1 (fld q 0 1) ++ leBytes 1 (planCode s q.payload) ++ leBytes 2 0) s)) ∧
    (planHeld s (fld q 0 1) = false → planZeros q.payload = true → planCode s q.payload = 0 → Completes (.chSet q) s fun t =>
      t.linkR.q[s.linkR.q.length]? = some (answerOf 0x0303 q 8 [] s) ∧ rdShadow t (chBase (fld q 0 1) + 8) = BitVec.ofNat 32 (fld q 4 4) ∧
      rdShadow t (chBase (fld q 0 1) + 0x20) &&& BitVec.ofNat 32 (radioDesc (chBase (fld q 0 1) + 0x20)).rwb = BitVec.ofNat 32 (fld q 8 4) &&& BitVec.ofNat 32 (radioDesc (chBase (fld q 0 1) + 0x20)).rwb ∧
      ∀ o, o / 0x400 ≠ chBase (fld q 0 1) / 0x400 → o ≠ 0xC0020 → o ≠ 0xC0024 → rd t o = rd s o)) ∧
  (∀ (q : Req) (s : State), forKeeper 0x0301 q s = true → 4 ≤ q.payload.length → fld q 0 1 ≤ 64 → fld q 1 1 < 2 → fld q 2 2 = 0 → q.payload.length = 4 + 16 * fld q 0 1 →
    let es := planEntries q 4 (fld q 0 1)
    (holdsAny s 0x0301 = true ∨ holdsAny s 0x0303 = true → Completes (.planLoad q) s (keeperOnlyAnswered 0x0301 q 9 [] s)) ∧
    (holdsAny s 0x0301 = false → holdsAny s 0x0303 = false → es.all planZeros = true → (planFail s [] es).isSome = true → Completes (.planLoad q) s
      (keeperOnlyAnswered 0x0301 q 12 (leBytes 1 ((planFail s [] es).getD (0, 0)).1 ++ leBytes 1 ((planFail s [] es).getD (0, 0)).2 ++ leBytes 2 0) s)) ∧
    (holdsAny s 0x0301 = false → holdsAny s 0x0303 = false → es.all planZeros = true → planFail s [] es = none → Completes (.planLoad q) s fun t =>
      t.linkR.q[s.linkR.q.length]? = some (answerOf 0x0301 q 8 [] s) ∧ (∀ e ∈ es, rdShadow t (chBase (leAt e 0 1) + 8) = BitVec.ofNat 32 (leAt e 4 4)) ∧
      (fld q 1 1 = 1 → ∀ ch, ch < 64 → es.any (fun e => leAt e 0 1 == ch) = false → bitOf (rdShadow t (chBase ch + 4)) 0 = false))) ∧
  (∀ (q : Req) (s : State), forKeeper 0x0402 q s = true → q.payload.length = 12 → fld q 0 1 < 2 → fld q 1 1 < 3 → fld q 2 1 < 3 → fld q 3 1 = 0 → holdsAny s 0x0404 = false →
    let off := [0, 1, 2, 3].all (fun p => pathState s p == 0)
    (off = false → Completes (.bandCfg q) s (keeperOnlyAnswered 0x0402 q 22 [] s)) ∧
    (off = true → Completes (.bandCfg q) s fun t => keeperAnswered 0x0402 q 0 [] s t ∧ rd t 0x38000 = BitVec.ofNat 32 (fld q 0 1 + 16 * fld q 1 1 + 256 * fld q 2 1) ∧
      rd t 0x38004 = BitVec.ofNat 32 (fld q 4 4) ∧ rd t 0x38008 = BitVec.ofNat 32 (fld q 8 4) ∧ ∀ o, o ∉ [0x38000, 0x38004, 0x38008] → rd t o = rd s o)) ∧
  (∀ (q : Req) (s : State), forKeeper 0x0403 q s = true → q.payload.length = 4 →
    let bad := decide (32 ≤ fld q 0 1 ∨ 4 ≤ fld q 1 1 ∨ fld q 2 2 ≠ 0) || [0, 1, 2, 3].any (fun p => (fld q 0 1).testBit p &&
      (decide (bandLo s (pathBand s p) < 380000000) || decide (1050000000 < bandLo s (pathBand s p))))
    (bad = true → Completes (.pathEnable q) s (keeperOnlyAnswered 0x0403 q 12 [] s)) ∧
    (bad = false → Completes (.pathEnable q) s fun t => t.linkR.q.getLast? = some (answerOf 0x0403 q 0 [] s) ∧
      (∀ p, p < 4 → getB t (rxBase p) 0 = (fld q 0 1).testBit p) ∧ getB t 0x34000 0 = (fld q 0 1).testBit 4 ∧
      ∀ p, p < 2 → getB t (txBase p + 8) 0 = (fld q 1 1).testBit p)) ∧
  (∀ (q : Req) (s : State), forKeeper 0x0404 q s = true → q.payload.length = 8 → fld q 0 1 < 2 → fld q 1 3 = 0 → 380000000 ≤ fld q 4 4 → fld q 4 4 ≤ 1050000000 →
    fld q 0 1 = 0 ∨ getB s 0x38000 0 = true → holds s 0x0404 (fld q 0 1) = false → Completes (.radioRetune q) s fun t => keeperPends 0x0404 q (fld q 0 1) [] s t ∧
      tabGet (fun _ => none) t.pathS.retune (fld q 0 1) = some (fld q 4 4) ∧ t.reg = s.reg) ∧
  (∀ (q : Req) (s : State), forKeeper 0x0405 q s = true → q.payload.length = 12 → fld q 8 1 < 5 → fld q 10 2 = 0 → fld q 0 4 ≤ fld q 4 4 →
    surveyBins (fld q 0 4) (fld q 4 4) (fld q 8 1) ≤ 65536 → holdsAny s 0x0405 = false →
    (getB s 0x34000 0 = false ∨ getB s 0x34000 7 = false → sRole s = 0 → Completes (.survey q) s (keeperOnlyAnswered 0x0405 q 9 [] s)) ∧
    (getB s 0x34000 0 = true → getB s 0x34000 7 = true → sRole s = 0 → Completes (.survey q) s fun t => keeperPends 0x0405 q 0 [] s t ∧ sRole t = 3 ∧
      rd t 0x34020 = BitVec.ofNat 32 (fld q 0 4) ∧ rd t 0x34024 = BitVec.ofNat 32 (fld q 4 4) ∧ getF t 0x34028 2 0 = fld q 8 1 ∧ t.pathS.bins = []))

/-- R298, R369, R372, R443, R488-R494. -/
def Obligations.TestAndServiceCommands : Prop :=
  (∀ (q : Req) (s : State), forKeeper 0x0F02 q s = true → q.payload.length = 4 → fld q 0 1 < 4 → fld q 2 2 = 0 → holds s 0x0F02 (fld q 0 1) = false →
    (fld q 1 1 = 1 → s.pathS.test.contains (fld q 0 1) = true → Completes (.pathTest q) s (keeperOnlyAnswered 0x0F02 q 9 [] s)) ∧
    (fld q 1 1 = 1 → s.pathS.test.contains (fld q 0 1) = false → getB s 0x34000 0 = true → getB s 0x34000 6 = true → sRole s = 0 → holdsAny s 0x0F02 = false →
      Completes (.pathTest q) s fun t => keeperPends 0x0F02 q (fld q 0 1) [1] s t ∧ testServed t (fld q 0 1) = true ∧ t.pathS.test = s.pathS.test ++ [fld q 0 1]) ∧
    (fld q 1 1 = 0 → testServed s (fld q 0 1) = false → holdsAny s 0x0F02 = false → Completes (.pathTest q) s fun t =>
      t.linkR.q[s.linkR.q.length]? = some (answerOf 0x0F02 q 8 [] s) ∧ t.keeper.pend = s.keeper.pend ∧ t.pathS.test.contains (fld q 0 1) = false)) ∧
  (∀ (q : Req) (s : State), forKeeper 0x0F03 q s = true → q.payload.length = 12 → fld q 0 1 < 4 → fld q 1 1 ≤ 90 → fld q 2 2 = 0 → 2 * (sgn q 4 4).natAbs ≤ bandBw s (pathBand s (fld q 0 1)) →
    (pathState s (fld q 0 1) ≠ 3 → pathState s (fld q 0 1) ≠ 4 → Completes (.tone q) s (keeperOnlyAnswered 0x0F03 q 22 [] s)) ∧
    (pathState s (fld q 0 1) = 3 ∨ pathState s (fld q 0 1) = 4 →
      (fld q 8 4 ≠ 0 → Completes (.tone q) s fun t => keeperAnswered 0x0F03 q 0 [] s t ∧ t.keeper.toneEnd = some (s.ntb.clk + clocksOfNs (1000 * fld q 8 4)) ∧
        rd t 0xE0008 = BitVec.ofNat 32 (fld q 0 1 + 256 * fld q 1 1) ∧ rd t 0xE000C = BitVec.ofNat 32 (fld q 4 4) ∧ ∀ o, o ≠ 0xE0008 → o ≠ 0xE000C → rd t o = rd s o) ∧
      (fld q 8 4 = 0 → Completes (.tone q) s fun t => keeperAnswered 0x0F03 q 0 [] s t ∧ (t.keeper.toneEnd.isSome = true → getF s 0xE0008 2 0 ≠ fld q 0 1)))) ∧
  (∀ (q : Req) (s : State), forKeeper 0x0F04 q s = true → q.payload.length = 4 → fld q 1 3 = 0 → (1 ≤ fld q 0 1 → fld q 0 1 ≤ 2 → Completes (.loopback q) s fun t =>
      keeperAnswered 0x0F04 q 0 [] s t ∧ t.keeper.loopNext = some (fld q 0 1) ∧ t.reg = s.reg) ∧ (7 ≤ fld q 0 1 → Completes (.loopback q) s (keeperOnlyAnswered 0x0F04 q 12 [] s)) ∧
    (fld q 0 1 = 0 → Completes (.loopback q) s fun t => t.keeper.loopNext = some 0 ∧ t.linkR.q[s.linkR.q.length]? ≠ none)) ∧
  (∀ (q : Req) (s : State), forKeeper 0x0F01 q s = true → q.payload.length = 4 →
    let b := fld q 0 1
    let i := fld q 1 1
    let ok := decide (b < 3) && decide (i < [32, 16, 8].getD b 0) && decide (fld q 2 2 = 0)
    (ok = false → Completes (.bistRun q) s (keeperOnlyAnswered 0x0F01 q 12 [] s)) ∧
    (ok = true → unitHeld s b i = true ∨ bistRunning s = true → Completes (.bistRun q) s (keeperOnlyAnswered 0x0F01 q 9 [] s)) ∧
    (ok = true → unitHeld s b i = false → bistRunning s = false → (b = 1 ∧ frdOut s i = false) ∨ (b = 2 ∧ coreIn s i = true) → Completes (.bistRun q) s (keeperOnlyAnswered 0x0F01 q 22 [] s)) ∧
    (ok = true → unitHeld s b i = false → bistRunning s = false → b = 0 ∨ (b = 1 ∧ frdOut s i = true) ∨ (b = 2 ∧ coreIn s i = false) → Completes (.bistRun q) s fun t =>
      keeperPends 0x0F01 q (256 * b + i) [] s t ∧ bistRunning t = true ∧ getF t 0xE0018 1 0 = b ∧ getF t 0xE0018 12 8 = i ∧ ∀ o, o ≠ 0xE0018 → rd t o = rd s o)) ∧
  (∀ (q : Req) (s : State), forKeeper 0x8F05 q s = true → q.payload.length = 4 → fld q 2 1 < 2 → fld q 3 1 = 0 →
    let i := fld q 1 1
    (fld q 0 1 = 0 → i < 2 → fld q 2 1 = 1 → unitHeld s 1 i = false → frdOut s i = false → Completes (.unitService q) s (keeperOnlyAnswered 0x8F05 q 22 [] s)) ∧
    (fld q 0 1 = 1 → i < 8 → fld q 2 1 = 1 → unitHeld s 2 i = false → coreIn s i = true → (List.range 8).any (fun x => x != i && coreIn s x) = false →
      Completes (.unitService q) s (keeperOnlyAnswered 0x8F05 q 22 [] s)) ∧
    (fld q 0 1 = 1 → i < 8 → fld q 2 1 = 1 → unitHeld s 2 i = false → coreIn s i = true → (List.range 8).any (fun x => x != i && coreIn s x) = true →
      Completes (.unitService q) s fun t => coreIn t i = false ∧ t.linkR.q.contains (answerOf 0x8F05 q 8 [] s) = true ∧ t.keeper.pend = s.keeper.pend)) ∧
  (∀ (q : Req) (s : State), forKeeper 0x8F05 q s = true → q.payload.length = 4 → fld q 2 1 < 2 → fld q 3 1 = 0 →
    let i := fld q 1 1
    (fld q 0 1 = 0 → 2 ≤ i → i < 16 → fld q 2 1 = 1 → unitHeld s 1 i = false → frdOut s i = false → inWatch s = false → Completes (.unitService q) s fun t => frdOut t i = true ∧
      t.linkR.q[s.linkR.q.length]? = some (answerOf 0x8F05 q 8 [] s)) ∧
    (fld q 0 1 = 2 → i < 32 → fld q 2 1 = 0 → unitHeld s 0 i = false → bankOut s i = true → bistRunning s = false → Completes (.unitService q) s fun t =>
      keeperPends 0x8F05 q i [0] s t ∧ bistRunning t = true ∧ getF t 0xE0018 12 8 = i ∧ bankOut t i = true)) ∧
  (∀ (q : Req) (s : State), forKeeper 0x0E02 q s = true → q.payload.length = 8 → fld q 2 2 = 0 →
    (fld q 0 1 = 0 → fld q 1 1 < 6 → sgn q 4 2 ≤ sgn q 6 2 → Completes (.sensLimits q) s fun t => keeperAnswered 0x0E02 q 0 [] s t ∧ rd t (0xD0080 + 4 * fld q 1 1) = BitVec.ofNat 32 (fld q 4 4) ∧
      ∀ o, o ≠ 0xD0080 + 4 * fld q 1 1 → rd t o = rd s o) ∧
    (fld q 0 1 = 1 → fld q 1 1 < 8 → fld q 4 2 ≤ fld q 6 2 → Completes (.sensLimits q) s fun t => keeperAnswered 0x0E02 q 0 [] s t ∧ rd t (0xD00C0 + 4 * fld q 1 1) = BitVec.ofNat 32 (fld q 4 4) ∧
      ∀ o, o ≠ 0xD00C0 + 4 * fld q 1 1 → rd t o = rd s o) ∧
    (fld q 0 1 = 0 → fld q 1 1 < 8 → sgn q 6 2 < sgn q 4 2 → Completes (.sensLimits q) s (keeperOnlyAnswered 0x0E02 q 12 [] s))) ∧
  (∀ (q : Req) (s : State), forKeeper 0x8B02 q s = true → q.payload.length = 4 → fld q 2 2 = 0 → s.cipher.reqs = [] → s.cipher.changes = [] →
    (fld q 1 1 = 0 → Completes (.keyInval q) s fun t => keeperAnswered 0x8B02 q 0 [] s t ∧ (getKey t (fld q 0 1)).valid = false ∧ ∀ k, k ≠ fld q 0 1 → getKey t k = getKey s k) ∧
    (fld q 1 1 = 1 → Completes (.keyInval q) s fun t => keeperAnswered 0x8B02 q 0 [] s t ∧ (∀ k, 1 ≤ k → k < 256 → (getKey t k).valid = false) ∧ getKey t 0 = getKey s 0))

/-- R365-R367: time, Mooring and Rhizome commands. -/
def Obligations.TimeAndLinkCommands : Prop :=
  (∀ (q : Req) (s : State), forKeeper 0x8702 q s = true → q.payload.length = 16 → s.ntb.stepReady = 0 → s.ntb.slew = 0 →
    let u := reachNet ((nowNs s + 1) * nsUnit) s
    (getF s 0x20024 1 0 = 1 ∨ getB s 0x20020 14 = false → fld q 8 4 < 1000000000 → Completes (.timeSet q) s fun t =>
      t.linkR.q.getLast? = some (answerOf 0x8702 q 22 [] s) ∧ t.ntb = u.ntb) ∧
    (1000000000 ≤ fld q 8 4 % 2 ^ 30 → Completes (.timeSet q) s fun t => t.linkR.q.getLast? = some (answerOf 0x8702 q 12 [] s) ∧ t.ntb = u.ntb) ∧
    (getF s 0x20024 1 0 ≠ 1 → getB s 0x20020 14 = true → fld q 8 4 < 1000000000 → coreRuns s = true → (∀ n, n < 8 → (getLamp s n).armed = false) → (∀ n, n < 128 → opLive s n = false) →
      Completes (.timeSet q) s fun t =>
      t.ntb.net = (fld q 0 8 * 1000000000 + fld q 8 4) * nsUnit + (if nowNs (clocks 1 u) < fld q 0 8 * 1000000000 + fld q 8 4 then netInc s else 0) ∧ t.linkR.q.getLast? = some (answerOf 0x8702 q 0 (leBytes 1 (stepByte t) ++ leBytes 3 0) s) ∧
      rd t 0x20028 = rd s 0x20028 + 1 ∧ getF t 0x20024 1 0 = 2)) ∧
  (∀ (q : Req) (s : State), forKeeper 0x8703 q s = true → q.payload.length = 12 → s.ntb.stepReady = 0 → s.ntb.slew = 0 →
    let u := reachNet ((nowNs s + 1) * nsUnit) s
    let ds := (BitVec.ofNat 32 (fld q 0 4)).toInt
    let dn := (BitVec.ofNat 32 (fld q 4 4)).toInt
    let ok := decide (-999999999 ≤ dn) && decide (dn ≤ 999999999) && !(decide (0 < ds) && decide (dn < 0)) && !(decide (ds < 0) && decide (0 < dn))
    (getF s 0x20024 1 0 = 1 ∨ getB s 0x20020 14 = false → ok = true → Completes (.timeStep q) s fun t => t.linkR.q.getLast? = some (answerOf 0x8703 q 22 [] s) ∧ t.ntb = u.ntb) ∧
    (ok = false → Completes (.timeStep q) s fun t => t.linkR.q.getLast? = some (answerOf 0x8703 q 12 [] s) ∧ t.ntb = u.ntb) ∧
    (getF s 0x20024 1 0 ≠ 1 → getB s 0x20020 14 = true → ok = true → 0 ≤ (u.ntb.net : Int) + (ds * 1000000000 + dn) * nsUnit → coreRuns s = true →
      (∀ n, n < 8 → (getLamp s n).armed = false) → (∀ n, n < 128 → opLive s n = false) →
      Completes (.timeStep q) s fun t =>
        (t.ntb.net : Int) = u.ntb.net + netInc s + (ds * 1000000000 + dn) * nsUnit + (if 0 < ds * 1000000000 + dn then netInc s else 0) ∧ rd t 0x20028 = rd s 0x20028 + 1)) ∧
  (∀ (q : Req) (s : State), forKeeper 0x0704 q s = true → q.payload.length = 8 → Completes (.ppsArm q) s fun t => keeperAnswered 0x0704 q 0 [] s t ∧ t.ntb.armed = some (fld q 0 8) ∧
    rd t 0x20038 = BitVec.ofNat 32 (fld q 0 4) ∧ rd t 0x2003C = BitVec.ofNat 32 (fld q 4 4) ∧ ∀ o, o ∉ [0x20038, 0x2003C, 0x20024] → rd t o = rd s o) ∧
  (∀ (q : Req) (s : State), forKeeper 0x0705 q s = true → q.payload.length = 16 →
    let ok := decide (fld q 0 1 < 8) && decide (fld q 1 1 < 16) && decide (fld q 2 1 < 2) && decide (fld q 3 1 < 2) && decide (-549755813 ≤ sgn q 12 4) && decide (sgn q 12 4 ≤ 549755813)
    (ok = false → Completes (.timeSrcCfg q) s (keeperOnlyAnswered 0x0705 q 12 [] s)) ∧
    (ok = true → getB s 0x78030 0 = true → fld q 0 1 % 4 ≠ 0 → Completes (.timeSrcCfg q) s (keeperOnlyAnswered 0x0705 q 22 [] s)) ∧
    (ok = true → getB s 0x78030 0 = false → Completes (.timeSrcCfg q) s fun t => t.linkR.q.getLast? = some (answerOf 0x0705 q 0 [] s) ∧ rd t 0x20034 = BitVec.ofNat 32 (fld q 4 4) ∧
      rd t 0x20030 = BitVec.ofNat 32 (fld q 8 4) ∧ getF t 0x20020 14 12 = fld q 0 1 ∧ getF t 0x20020 11 8 = fld q 1 1 ∧ getB t 0x20020 0 = (fld q 2 1 == 1))) ∧
  (∀ (q : Req) (s : State), forKeeper 0x0706 q s = true → q.payload.length = 4 → Completes (.slotCfg q) s (keeperOnlyAnswered 0x0706 q 12 [] s)) ∧
  (∀ (q : Req) (s : State), (callerOf s 0x0706 q).origin = 16 → q.target = 0x1F → othersReachable s = [] → q.payload.length = 4 → slotUsOk (fld q 0 2) = true → fld q 3 1 = 0 →
    s.ctx.any (fun p => p.2.role == 1) = false → s.chain.asked = [] → Completes (.slotCfg q) s fun t =>
      rd t 0x7800C = BitVec.ofNat 32 (fld q 0 2) ∧ getF t 0x78010 7 0 = fld q 2 1 ∧ t.mac.slotNext = some (fld q 0 2) ∧ answerOf 0x0706 q 8 [] s = t.linkR.q[s.linkR.q.length]?.getD (0, [])) ∧
  (∀ (q : Req) (s : State), forKeeper 0x0707 q s = true → 24 ≤ q.payload.length → fld q 20 2 ≠ 0 → fld q 20 2 ≠ 0xFFFF → fld q 22 1 ≤ 64 → fld q 23 1 = 0 →
    q.payload.length = 24 + fld q 22 1 → Completes (.beaconCfg q) s fun t => keeperAnswered 0x0707 q 0 [] s t ∧ t.mac.extra = q.payload.drop 24 ∧ rd t 0x78044 = BitVec.ofNat 32 (fld q 20 2) ∧
      (∀ p ∈ [(0x78010, 0), (0x78014, 4), (0x78018, 8), (0x7803C, 12), (0x78040, 16)],
        rd t p.1 &&& BitVec.ofNat 32 (radioDesc p.1).rw = BitVec.ofNat 32 (fld q p.2 4) &&& BitVec.ofNat 32 (radioDesc p.1).rw) ∧
      ∀ o, o ∉ [0x78010, 0x78014, 0x78018, 0x7803C, 0x78040, 0x78044] → rd t o = rd s o) ∧
  (∀ (q : Req) (s : State), forKeeper 0x0708 q s = true → q.payload.length = 8 →
    ((fld q 0 4).testBit 0 = true → getF s 0x20020 13 12 ≠ 0 → Completes (.relayCfg q) s (keeperOnlyAnswered 0x0708 q 22 [] s)) ∧
    ((fld q 0 4).testBit 0 = false ∨ getF s 0x20020 13 12 = 0 → Completes (.relayCfg q) s fun t => keeperAnswered 0x0708 q 0 [] s t ∧ rd t 0x78030 = BitVec.ofNat 32 (fld q 0 4) &&& 0xFFFFFF1F ∧
      rd t 0x78038 &&& BitVec.ofNat 32 (radioDesc 0x78038).rw = BitVec.ofNat 32 (fld q 4 4) &&& BitVec.ofNat 32 (radioDesc 0x78038).rw)) ∧
  (∀ (q : Req) (s : State), forKeeper 0x8802 q s = true → q.payload.length = 4 → (16 ≤ fld q 0 1 ∨ 16 ≤ fld q 1 1 → Completes (.mrChainSet q) s (keeperOnlyAnswered 0x8802 q 12 [] s)) ∧
    (fld q 0 1 < 16 → fld q 1 1 < 16 → (getBank s s.settings.active).valid = true → Completes (.mrChainSet q) s fun t =>
      getF t 0xA00C0 3 0 = fld q 0 1 ∧ getF t 0xA00C0 7 4 = fld q 1 1 ∧ getF t 0xA00C0 31 16 = fld q 2 2 ∧
      coreGet t 257 = some (leBytes 4 (fld q 0 1 + 16 * fld q 1 1 + 65536 * fld q 2 2)))) ∧
  (∀ (q : Req) (s : State), forKeeper 0x0803 q s = true → q.payload.length = 12 → fld q 0 1 < 2 → fld q 1 3 = 0 → tabGet (fun _ => none) s.shadow (mrBase (fld q 0 1) + 8) = none →
    let b := mrBase (fld q 0 1)
    let ok := decide (fld q 4 4 / 4 % 4 ≤ fld q 4 4 % 4) && decide (-1000000 ≤ sgn q 8 4) && decide (sgn q 8 4 ≤ 1000000)
    getF s (b + 8) 1 0 = 0 →
    (ok = false → Completes (.mrPortCfg q) s fun t => t.linkR.q.getLast? = some (answerOf 0x0803 q 12 [] s) ∧ rd t (b + 4) = rd s (b + 4) ∧ rd t (b + 0xC) = rd s (b + 0xC)) ∧
    (ok = true → Completes (.mrPortCfg q) s fun t => t.linkR.q.getLast? = some (answerOf 0x0803 q 0 [] s) ∧ rd t (b + 0xC) = BitVec.ofNat 32 (fld q 8 4) ∧ getF t (b + 4) 3 0 = fld q 4 4 % 16)) ∧
  (∀ (q : Req) (s : State), forKeeper 0x8804 q s = true → q.payload.length = 4 → fld q 2 2 = 0 → (2 ≤ fld q 0 1 ∨ 2 ≤ fld q 1 1 → Completes (.mrPortEnable q) s (keeperOnlyAnswered 0x8804 q 12 [] s)) ∧
    (fld q 0 1 < 2 → fld q 1 1 < 2 → Completes (.mrPortEnable q) s fun t => t.linkR.q.getLast? = some (answerOf 0x8804 q 0 [] s) ∧
      rd t (mrBase (fld q 0 1) + 0x40) = BitVec.ofNat 32 (1 - fld q 1 1) ∧ (fld q 1 1 = 0 → lstate t (fld q 0 1) = 0) ∧
      (fld q 1 1 = 1 → lstate t (fld q 0 1) = if lstate s (fld q 0 1) = 0 then 1 else lstate s (fld q 0 1)))) ∧
  (∀ (q : Req) (s : State), forKeeper 0x0901 q s = true → q.payload.length = 16 → fld q 1 3 = 0 → (96 ≤ fld q 0 1 → Completes (.evcSet q) s (keeperOnlyAnswered 0x0901 q 12 [] s)) ∧
    (fld q 0 1 < 96 → Completes (.evcSet q) s fun t => keeperAnswered 0x0901 q 0 [] s t ∧
      let b := 0x80000 + 16 * fld q 0 1
      rd t b = BitVec.ofNat 32 (fld q 4 4) &&& 0x80007FFF ∧
      rd t (b + 4) &&& BitVec.ofNat 32 (radioDesc (b + 4)).rw = BitVec.ofNat 32 (fld q 8 4) &&& BitVec.ofNat 32 (radioDesc (b + 4)).rw ∧
      rd t (b + 8) &&& BitVec.ofNat 32 (radioDesc (b + 8)).rw = BitVec.ofNat 32 (fld q 12 4) &&& BitVec.ofNat 32 (radioDesc (b + 8)).rw ∧
      ∀ o, o ∉ [b, b + 4, b + 8] → rd t o = rd s o))

/-- R357, R361-R364: the node commands. -/
def Obligations.NodeCommands : Prop :=
  (∀ (q : Req) (n : Nat) (s : State), forNode 0x0601 q n s = true → 8 ≤ q.payload.length → q.payload.length ≤ 2030 →
    (8 ≤ fld q 3 1 → Completes (.dlSend q) s (keeperOnlyAnswered 0x0601 q 12 [] s)) ∧
    (fld q 3 1 < 8 → (getCtx s n).key = [] → Completes (.dlSend q) s (keeperOnlyAnswered 0x0601 q 2 [] s)) ∧
    (fld q 3 1 < 8 → (getCtx s n).key ≠ [] → 255 ≤ (getCtx s n).dlPend → Completes (.dlSend q) s (keeperOnlyAnswered 0x0601 q 9 [] s)) ∧
    (fld q 3 1 < 8 → (getCtx s n).key ≠ [] → (getCtx s n).dlPend < 255 → Completes (.dlSend q) s fun t => keeperPends 0x0601 q n [] s t ∧
      (getRun t n).dls.length = (getRun s n).dls.length + 1 ∧ (getRun t n).dls.take (getRun s n).dls.length = (getRun s n).dls ∧
      ((getRun t n).dls.getLast?.map (fun d => (d.tag, d.origin, d.flags, d.data, d.tries, d.fcnt))) = some (q.tag.toNat, 16, fld q 3 1, q.payload.drop 8, 0, none) ∧
      (fld q 4 4 = 0 → ((getRun t n).dls.getLast?.bind (fun d => d.expires)) = none) ∧
      (fld q 4 4 ≠ 0 → ((getRun t n).dls.getLast?.bind (fun d => d.expires)) = some (s.ntb.clk + clocksOfNs (fld q 4 4 * 1000000))) ∧
      (getCtx t n).dlPend = min 255 ((getRun s n).dls.length + 1) ∧ (getCtx t n).gen = ((getCtx s n).gen + 1) % 2 ^ 32 ∧
      (∀ m, m ≠ n → getCtx t m = getCtx s m ∧ getRun t m = getRun s m) ∧ t.reg = s.reg ∧ t.uses = s.uses)) ∧
  (∀ (q : Req) (n : Nat) (s : State), forNode 0x0505 q n s = true → 20 ≤ q.payload.length → q.payload.length ≤ 2046 →
    let bad := decide (fld q 3 1 = 0) || decide (4 ≤ fld q 3 1) || ((fld q 3 1).testBit 0 && decide (fld q 4 8 = 0)) || ((fld q 3 1).testBit 1 && decide (64 ≤ fld q 12 1)) || decide (fld q 13 3 ≠ 0)
    let ahead := (fld q 16 4 + 2 ^ 32 - (nextSend s n + 2) % 2 ^ 32) % 2 ^ 32
    (bad = true → Completes (.nodeConn q) s (keeperOnlyAnswered 0x0505 q 12 [] s)) ∧
    (bad = false → (getRun s n).conn.isSome = true → Completes (.nodeConn q) s (keeperOnlyAnswered 0x0505 q 9 [] s)) ∧
    (bad = false → (getRun s n).conn = none → s.nodes.waits = [] → (getCtx s n).key = [] → Completes (.nodeConn q) s (keeperOnlyAnswered 0x0505 q 2 [] s)) ∧
    (bad = false → (getRun s n).conn = none → s.nodes.waits = [] → (getCtx s n).key ≠ [] → 2 ^ 31 ≤ ahead → Completes (.nodeConn q) s (keeperOnlyAnswered 0x0505 q 32 [] s)) ∧
    (bad = false → (getRun s n).conn = none → s.nodes.waits = [] → (getCtx s n).key ≠ [] → ahead < 2 ^ 31 → Completes (.nodeConn q) s fun t => keeperPends 0x0505 q n [] s t ∧
      ((getRun t n).conn.map (fun x => (x.what, x.chmap, x.hop, x.applyK, x.dl.data))) = some (fld q 3 1, fld q 4 8, fld q 12 1, fld q 16 4, q.payload.drop 20) ∧
      t.ctx = s.ctx ∧ (getRun t n).dls = (getRun s n).dls ∧ (∀ m, m ≠ n → getRun t m = getRun s m) ∧ t.reg = s.reg)) ∧
  (∀ (q : Req) (n : Nat) (s : State), forNode 0x0506 q n s = true → q.payload.length = 8 →
    (fld q 3 1 ≠ 0 ∨ fld q 6 2 ≠ 0 → Completes (.nodeSupervise q) s (keeperOnlyAnswered 0x0506 q 12 [] s)) ∧
    (fld q 3 1 = 0 → fld q 6 2 = 0 → Completes (.nodeSupervise q) s fun t => t.linkR.q.getLast? = some (answerOf 0x0506 q 0 [] s) ∧
      (getCtx t n).supTo = fld q 4 2 ∧ (getCtx t n).gen = ((getCtx s n).gen + 1) % 2 ^ 32 ∧ (getCtx t n).key = (getCtx s n).key ∧ (getCtx t n).dnFcnt = (getCtx s n).dnFcnt ∧
      (∀ m, m ≠ n → getCtx t m = getCtx s m) ∧ t.keeper.pend = s.keeper.pend)) ∧
  (∀ (q : Req) (n : Nat) (s : State), forNode 0x0502 q n s = true → q.payload.length = 4 → fld q 3 1 = 0 →
    ((getRun s n).conn.isSome = true ∨ s.nodes.waits.any (fun w => w.ctx == n) = true → Completes (.nodeRemove q) s (keeperOnlyAnswered 0x0502 q 9 [] s)) ∧
    ((getRun s n).conn = none → s.nodes.waits = [] → Completes (.nodeRemove q) s fun t => getCtx t n = {} ∧ getRun t n = {} ∧
      t.linkR.q[s.linkR.q.length]? = some (answerOf 0x0502 q 8 [] s) ∧ t.keeper.pend.length + (getRun s n).dls.length = s.keeper.pend.length + (getRun s n).dls.countP
        (fun d => !s.keeper.pend.any (fun p => p.opcode == 0x0601 && p.tag == d.tag && p.origin == d.origin)) ∧ ∀ m, m ≠ n → getCtx t m = getCtx s m)) ∧
  (∀ (q : Req) (s : State), forKeeper 0x0501 q s = true → q.payload.length = 36 → nodeAddFields q = true →
    (deliveredBy s (fld q 0 8) = none → Completes (.nodeAdd q) s (keeperOnlyAnswered 0x0501 q 20 [] s)) ∧
    (deliveredBy s (fld q 0 8) = some (devOf s) → s.nodes.waits = [] →
      let held := (findEui s (fld q 0 8)).isSome || (findNode s (fld q 8 3)).isSome || devNid s == 0
      let jk := getKey s (fld q 30 1)
      (held = true → Completes (.nodeAdd q) s (keeperOnlyAnswered 0x0501 q 22 [] s)) ∧
      (held = false → phyOk (fld q 11 1 % 8) ((fld q 11 1).testBit 3) = false → Completes (.nodeAdd q) s (keeperOnlyAnswered 0x0501 q 5 [] s)) ∧
      (held = false → phyOk (fld q 11 1 % 8) ((fld q 11 1).testBit 3) = true → (jk.valid && jk.usage.testBit 1) = false → Completes (.nodeAdd q) s (keeperOnlyAnswered 0x0501 q 3 [] s)) ∧
      (held = false → phyOk (fld q 11 1 % 8) ((fld q 11 1).testBit 3) = true → (jk.valid && jk.usage.testBit 1) = true → getB s 0xB0000 1 = false → quiet s = true →
        (slotFor s).isSome = true → Completes (.nodeAdd q) s fun t =>
          let n := (slotFor s).getD 0
          keeperPends 0x0501 q n [] s t ∧ (getCtx t n).addr = fld q 8 3 ∧ (getCtx t n).eui = fld q 0 8 ∧ (getCtx t n).role = 1 ∧ (getCtx t n).ci = fld q 12 3 ∧
          (getCtx t n).hop = fld q 15 1 ∧ (getCtx t n).chmap = fld q 16 8 ∧ (getCtx t n).phy = fld q 11 1 ∧ (getCtx t n).pre = fld q 29 1 ∧ (getCtx t n).supTo = fld q 24 2 ∧
          (getCtx t n).homeDev = devOf s ∧ (getCtx t n).key = [] ∧ t.nodes.waits.map (fun w => (w.tag, w.ctx, w.eui, w.jkey)) = [(q.tag.toNat, n, fld q 0 8, fld q 30 1)] ∧
          ∀ m, m ≠ n → getCtx t m = getCtx s m))) ∧
  (∀ (q : Req) (s : State), forKeeper 0x0501 q s = true → q.payload.length = 36 → nodeAddFields q = false → Completes (.nodeAdd q) s (keeperOnlyAnswered 0x0501 q 12 [] s)) ∧
  (∀ (q : Req) (s : State), forKeeper 0x0603 q s = true → 24 ≤ q.payload.length → q.payload.length ≤ 2050 →
    let bad := decide (64 ≤ fld q 0 1) || decide (64 ≤ fld q 1 1) || decide (1000000000 ≤ fld q 12 4) || decide (fld q 18 2 < 16) || decide (1024 < fld q 18 2) || decide (16 ≤ fld q 20 1) || decide (fld q 21 3 ≠ 0)
    let phy := phyOk (fld q 1 1 % 8) ((fld q 1 1).testBit 3)
    let k := fld q 3 1
    let keyed := (getKey s k).valid && (getKey s k).usage.testBit 0
    let fcnt := fcntOf s k
    (bad = true → Completes (.bcastSend q) s (keeperOnlyAnswered 0x0603 q 12 [] s)) ∧
    (bad = false → phy = false → Completes (.bcastSend q) s (keeperOnlyAnswered 0x0603 q 5 [] s)) ∧
    (bad = false → phy = true → keyed = false → Completes (.bcastSend q) s (keeperOnlyAnswered 0x0603 q 3 [] s)) ∧
    (bad = false → phy = true → keyed = true → devNid s = 0 → Completes (.bcastSend q) s (keeperOnlyAnswered 0x0603 q 22 [] s)) ∧
    (bad = false → phy = true → keyed = true → devNid s ≠ 0 → fcnt < 2 ^ 32 → freeEntry s true = none → Completes (.bcastSend q) s (keeperOnlyAnswered 0x0603 q 9 [] s)) ∧
    (bad = false → phy = true → keyed = true → devNid s ≠ 0 → fcnt < 2 ^ 32 → (freeEntry s true).isSome = true → applyPending s (opBase ((freeEntry s true).getD 0)) = false → quiet s = true →
      nowNs s ≤ fld q 4 8 % 2 ^ 64 * 1000000000 + fld q 12 4 → Completes (.bcastSend q) s fun t =>
        let e := (freeEntry s true).getD 0
        keeperPends 0x0603 q 0 [] s t ∧ fcntOf t k = fcnt + 1 ∧ getUse t e = .broadcast q.tag.toNat k fcnt ∧
        opState t e = 2 ∧ opOwner t e = 16 ∧ opKind t e = (if (fld q 1 1).testBit 4 then 3 else 2) ∧ opChannel t e = fld q 0 1 ∧ opMode t e = fld q 1 1 % 8 ∧
        opStart t e = fld q 4 8 * 1000000000 + fld q 12 4 ∧ (∀ m, m < 128 → m ≠ e → opState t m = opState s m) ∧ t.ctx = s.ctx)) ∧
  (∀ (q : Req) (s : State), (callerOf s 0x0104 q).origin = 16 → ownShare s q.tag.toNat = false → q.payload.length = 4 → fld q 2 2 = 0 → s.chain.asked = [] → quiet s = true →
    let p := s.keeper.pend.find? (fun p => p.tag == fld q 0 2 && p.origin == 16)
    (p = none → Completes (.cancel q) s (keeperOnlyAnswered 0x0104 q 20 [] s)) ∧
    (∀ x, p = some x → [0x0601, 0x0603, 0x0501, 0x0405].contains x.opcode = false → Completes (.cancel q) s (keeperOnlyAnswered 0x0104 q 22 [] s))) ∧
  (∀ (q : Req) (n : Nat) (s : State), (callerOf s 0x0104 q).origin = 16 → ownShare s q.tag.toNat = false → ownShare s (fld q 0 2) = false → q.payload.length = 4 → fld q 2 2 = 0 → s.chain.asked = [] → s.uses = [] →
    requester s = false → s.ops.all (fun p => !p.2.closed) = true → s.nodes.runs.all (fun p => p.2.win.isNone) = true →
    ∀ x, s.keeper.pend.find? (fun p => p.tag == fld q 0 2 && p.origin == 16) = some x → x.opcode = 0x0601 → x.obj = n →
    (getRun s n).dls.any (fun d => d.tag == x.tag && d.origin == 16) = true → Completes (.cancel q) s fun t =>
      (getRun t n).dls = (getRun s n).dls.eraseP (fun d => d.tag == x.tag && d.origin == 16) ∧ t.keeper.pend.length + 1 = s.keeper.pend.length ∧
      t.linkR.q.contains (answerOf 0x0104 q 0 [] s) = true ∧ ∀ m, m ≠ n → getRun t m = getRun s m)

/-- R343-R346: REG_ACCESS and REG_ACCESS_CRIT. -/
def Obligations.RegisterAccess : Prop :=
  (∀ (q : Req) (s : State), forKeeper 0x1001 q s = true →
    (q.payload.length % 16 ≠ 0 ∨ q.payload.length < 16 ∨ 4080 < q.payload.length → Completes (.regAccess q) s (keeperOnlyAnswered 0x1001 q 4 [] s)) ∧
    (q.payload.length = 16 → itemBad (itemAt q.payload 0) = true → Completes (.regAccess q) s (keeperOnlyAnswered 0x1001 q 12 [] s))) ∧
  (∀ (q : Req) (s : State), forKeeper 0x1001 q s = true → s.guard = none → s.keeper.run = none → q.payload.length = 16 → itemBad (itemAt q.payload 0) = false →
    let x := itemAt q.payload 0
    let off := canonRadio x.addr
    let there := inRadioBlocks x.addr && decide (x.addr.toNat % 4 = 0)
    let fail := fun (st : Nat) => keeperOnlyAnswered 0x1001 q st (leBytes 2 0 ++ leBytes 2 0) s
    (x.addr.toNat % 4 ≠ 0 ∨ (inRadioBlocks x.addr = false ∧ inStoreWindow x.addr = false) → Completes (.regAccess q) s (fail 6)) ∧
    (x.addr.toNat % 4 = 0 → inStoreWindow x.addr = true → x.op = 2 ∨ x.op = 3 → Completes (.regAccess q) s (fail 16)) ∧
    (there = true → (x.op = 2 ∨ x.op = 3) → (0x90060 ≤ off ∧ off ≤ 0x9007C) ∨ off = 0x90080 → Completes (.regAccess q) s (fail 17)) ∧
    (there = true → (x.op = 2 ∨ x.op = 3) → 0x70000 ≤ off → off < 0x72000 → opOwner s ((off - 0x70000) / 0x40) ≠ 17 → Completes (.regAccess q) s (fail 17)) ∧
    (there = true → (x.op = 3 ∧ (0 < (radioDesc off).rwg ∨ (twinOf off).isSome = true)) ∨ (x.op = 2 ∧ (0 < (radioDesc off).rwg ∨ (twinOf off).isSome = true)) → Completes (.regAccess q) s (fail 17))) ∧
  (∀ (q : Req) (s : State), forKeeper 0x1001 q s = true → s.guard = none → s.keeper.run = none → q.payload.length = 16 → itemBad (itemAt q.payload 0) = false →
    let x := itemAt q.payload 0
    let answered := fun (v : Word) (t : State) => t.linkR.q = s.linkR.q ++ [answerOf 0x1001 q 0 (leBytes 2 1 ++ leBytes 2 0xFFFF ++ leBytes 4 v.toNat) s]
    let hit := (itemRead x s).1 &&& x.mask == x.value &&& x.mask
    x.addr.toNat % 4 = 0 → inRadioBlocks x.addr = true →
    (x.op = 1 → Completes (.regAccess q) s fun t => answered (itemRead x s).1 t ∧ t.reg = (itemRead x s).2.reg) ∧
    (x.op = 4 → hit = true → Completes (.regAccess q) s fun t => answered (itemRead x s).1 t ∧ t.reg = (itemRead x s).2.reg ∧ t.keeper.run = none) ∧
    (x.op = 4 → hit = false → x.limit = 0 → Completes (.regAccess q) s fun t => t.linkR.q = s.linkR.q ++ [answerOf 0x1001 q 18 (leBytes 2 0 ++ leBytes 2 0) s] ∧ t.keeper.run = none) ∧
    (x.op = 4 → hit = false → x.limit ≠ 0 → Completes (.regAccess q) s fun t => t.linkR.q = s.linkR.q ∧
      (t.keeper.run.map (fun r => (r.tag, r.done, r.values, r.limit))) = some (q.tag.toNat, 0, [], s.ntb.clk + clocksOfNs (1000 * x.limit)))) ∧
  (∀ (q : Req) (s : State), forKeeper 0x1001 q s = true → s.guard = none → s.keeper.run = none → itemBad (itemAt q.payload 0) = false →
    let x := itemAt q.payload 0
    let off := canonRadio x.addr
    let plain := twinOf off == none && (radioDesc off).rwg == 0 && unitAt off == none && (radioDesc off).wo == 0 && (radioDesc off).w1c == 0 &&
      (specialWrite off x.value s).isNone && (specialWrite off (((itemRead x s).1 &&& ~~~x.mask) ||| (x.value &&& x.mask)) s).isNone &&
      !(decide (0x90060 ≤ off) && decide (off ≤ 0x90080)) && !(decide (0x70000 ≤ off) && decide (off < 0x72000))
    let m := BitVec.ofNat 32 (radioDesc off).rw
    x.addr.toNat % 4 = 0 → inRadioBlocks x.addr = true → plain = true →
    (x.op = 2 → q.payload.length = 16 → Completes (.regAccess q) s fun t => t.linkR.q = s.linkR.q ++ [answerOf 0x1001 q 0 (leBytes 2 1 ++ leBytes 2 0xFFFF ++ leBytes 4 0) s] ∧
      rd t off &&& m = x.value &&& m ∧ ∀ a, a ≠ off → rd t a = rd s a) ∧
    (x.op = 3 → q.payload.length = 16 → (itemRead x s).2 = s → Completes (.regAccess q) s fun t =>
      t.linkR.q = s.linkR.q ++ [answerOf 0x1001 q 0 (leBytes 2 1 ++ leBytes 2 0xFFFF ++ leBytes 4 (itemRead x s).1.toNat) s] ∧
      rd t off &&& m = (((itemRead x s).1 &&& ~~~x.mask) ||| (x.value &&& x.mask)) &&& m ∧ ∀ a, a ≠ off → rd t a = rd s a) ∧
    (x.op = 2 → q.payload.length = 32 → itemBad (itemAt q.payload 1) = false → (itemAt q.payload 1).limit = 0 → (itemAt q.payload 1).addr.toNat % 4 ≠ 0 → Completes (.regAccess q) s fun t =>
      t.linkR.q = s.linkR.q ++ [answerOf 0x1001 q 6 (leBytes 2 1 ++ leBytes 2 1 ++ leBytes 4 0) s] ∧ rd t off &&& m = x.value &&& m ∧ ∀ a, a ≠ off → rd t a = rd s a)) ∧
  (∀ (q : Req) (s : State), forKeeper 0x9001 q s = true →
    (q.payload.length % 16 ≠ 0 ∨ q.payload.length < 16 ∨ 4064 < q.payload.length → Completes (.regAccessCrit q) s (keeperOnlyAnswered 0x9001 q 4 [] s)) ∧
    (q.payload.length = 16 → itemBad (itemAt q.payload 0) = true → Completes (.regAccessCrit q) s (keeperOnlyAnswered 0x9001 q 12 [] s))) ∧
  (∀ (q : Req) (s : State), forKeeper 0x9001 q s = true → s.guard = none → s.keeper.run = none → q.payload.length = 16 → itemBad (itemAt q.payload 0) = false →
    let x := itemAt q.payload 0
    let off := canonRadio x.addr
    let there := inRadioBlocks x.addr && decide (x.addr.toNat % 4 = 0)
    let fail := fun (st : Nat) => keeperOnlyAnswered 0x9001 q st (leBytes 2 0 ++ leBytes 2 0) s
    (x.addr.toNat % 4 ≠ 0 ∨ (inRadioBlocks x.addr = false ∧ inStoreWindow x.addr = false) → Completes (.regAccessCrit q) s (fail 6)) ∧
    (x.addr.toNat % 4 = 0 → inStoreWindow x.addr = true → x.op = 2 ∨ x.op = 3 → Completes (.regAccessCrit q) s (fail 16)) ∧
    (there = true → (x.op = 2 ∨ x.op = 3) → (0x90060 ≤ off ∧ off ≤ 0x9007C) ∨ off = 0x90080 → Completes (.regAccessCrit q) s (fail 17)) ∧
    (there = true → (x.op = 2 ∨ x.op = 3) → 0x70000 ≤ off → off < 0x72000 → opOwner s ((off - 0x70000) / 0x40) ≠ 17 → Completes (.regAccessCrit q) s (fail 17)) ∧
    (there = true → (x.op = 3 ∧ (0 < (radioDesc off).rwg ∨ (twinOf off).isSome = true)) → Completes (.regAccessCrit q) s (fail 17))) ∧
  (∀ (q : Req) (s : State), forKeeper 0x9001 q s = true → s.guard = none → s.keeper.run = none → q.payload.length = 16 → itemBad (itemAt q.payload 0) = false →
    let x := itemAt q.payload 0
    let answered := fun (v : Word) (t : State) => t.linkR.q = s.linkR.q ++ [answerOf 0x9001 q 0 (leBytes 2 1 ++ leBytes 2 0xFFFF ++ leBytes 4 v.toNat) s]
    let hit := (itemRead x s).1 &&& x.mask == x.value &&& x.mask
    x.addr.toNat % 4 = 0 → inRadioBlocks x.addr = true →
    (x.op = 1 → Completes (.regAccessCrit q) s fun t => answered (itemRead x s).1 t ∧ t.reg = (itemRead x s).2.reg) ∧
    (x.op = 4 → hit = true → Completes (.regAccessCrit q) s fun t => answered (itemRead x s).1 t ∧ t.reg = (itemRead x s).2.reg ∧ t.keeper.run = none) ∧
    (x.op = 4 → hit = false → x.limit = 0 → Completes (.regAccessCrit q) s fun t => t.linkR.q = s.linkR.q ++ [answerOf 0x9001 q 18 (leBytes 2 0 ++ leBytes 2 0) s] ∧ t.keeper.run = none) ∧
    (x.op = 4 → hit = false → x.limit ≠ 0 → Completes (.regAccessCrit q) s fun t => t.linkR.q = s.linkR.q ∧
      (t.keeper.run.map (fun r => (r.tag, r.done, r.values, r.limit))) = some (q.tag.toNat, 0, [], s.ntb.clk + clocksOfNs (1000 * x.limit)))) ∧
  (∀ (q : Req) (s : State), forKeeper 0x9001 q s = true → s.guard = none → s.keeper.run = none → itemBad (itemAt q.payload 0) = false →
    let x := itemAt q.payload 0
    let off := canonRadio x.addr
    let plain := twinOf off == none && (radioDesc off).rwg == 0 && unitAt off == none && (radioDesc off).wo == 0 && (radioDesc off).w1c == 0 &&
      (specialWrite off x.value s).isNone && (specialWrite off (((itemRead x s).1 &&& ~~~x.mask) ||| (x.value &&& x.mask)) s).isNone &&
      !(decide (0x90060 ≤ off) && decide (off ≤ 0x90080)) && !(decide (0x70000 ≤ off) && decide (off < 0x72000))
    let m := BitVec.ofNat 32 (radioDesc off).rw
    x.addr.toNat % 4 = 0 → inRadioBlocks x.addr = true → plain = true →
    (x.op = 2 → q.payload.length = 16 → Completes (.regAccessCrit q) s fun t => t.linkR.q = s.linkR.q ++ [answerOf 0x9001 q 0 (leBytes 2 1 ++ leBytes 2 0xFFFF ++ leBytes 4 0) s] ∧
      rd t off &&& m = x.value &&& m ∧ ∀ a, a ≠ off → rd t a = rd s a) ∧
    (x.op = 3 → q.payload.length = 16 → (itemRead x s).2 = s → Completes (.regAccessCrit q) s fun t =>
      t.linkR.q = s.linkR.q ++ [answerOf 0x9001 q 0 (leBytes 2 1 ++ leBytes 2 0xFFFF ++ leBytes 4 (itemRead x s).1.toNat) s] ∧
      rd t off &&& m = (((itemRead x s).1 &&& ~~~x.mask) ||| (x.value &&& x.mask)) &&& m ∧ ∀ a, a ≠ off → rd t a = rd s a) ∧
    (x.op = 2 → q.payload.length = 32 → itemBad (itemAt q.payload 1) = false → (itemAt q.payload 1).limit = 0 → (itemAt q.payload 1).addr.toNat % 4 ≠ 0 → Completes (.regAccessCrit q) s fun t =>
      t.linkR.q = s.linkR.q ++ [answerOf 0x9001 q 6 (leBytes 2 1 ++ leBytes 2 1 ++ leBytes 4 0) s] ∧ rd t off &&& m = x.value &&& m ∧ ∀ a, a ≠ off → rd t a = rd s a)) ∧
  (∀ (q : Req) (p : Fin 2) (s : State), forKeeper 0x9001 q s = true → s.guard = none → s.keeper.run = none → q.payload.length = 32 →
    let x := itemAt q.payload 0
    let y := itemAt q.payload 1
    itemBad x = false → itemBad y = false → x.op = 2 → y.op = 2 → x.addr = BitVec.ofNat 32 (0x40000000 + mrBase p + 0x40) → y.addr = BitVec.ofNat 32 (0x40000000 + mrBase p + 0x840) → x.value = 1 →
    (y.value = ~~~x.value → Completes (.regAccessCrit q) s fun t => t.linkR.q.getLast? = some (answerOf 0x9001 q 0 (leBytes 2 2 ++ leBytes 2 0xFFFF ++ leBytes 8 0) s) ∧
      rd t (mrBase p + 0x40) = 1 ∧ t.guard = none ∧ getB t 0x20 0 = getB s 0x20 0) ∧
    (y.value ≠ ~~~x.value → Completes (.regAccessCrit q) s fun t => t.linkR.q.getLast? = some (answerOf 0x9001 q 0 (leBytes 2 2 ++ leBytes 2 0xFFFF ++ leBytes 8 0) s) ∧
      t.guard = none ∧ getB t 0x20 0 = true ∧ getF t 0x20 15 8 = min 255 (getF s 0x20 15 8 + 1) ∧ rd t (mrBase p + 0x40) = rd s (mrBase p + 0x40)))

/-- The invariant State.wf holds after every step from every state in which it holds. -/
def Obligations.StepKeepsInvariant : Prop :=
  ∀ s t : State, s.wf = true → step s = .next t → t.wf = true

/-- What reset leaves: the Reset columns of the register tables, and the invariant. -/
def Obligations.ResetState : Prop :=
  (∀ p ∈ ([(0x20000, 0), (0x20020, 0x7501), (0x20024, 0), (0x20028, 0), (0x2002C, 0xFFFFFFFF), (0x20030, 0x186A0), (0x20034, 0xF4240), (0x20044, 0),
    (0x2005C, 0xF4240), (0x20064, 0), (0x20068, 0), (0x34000, 0xF3), (0x34004, 0x70), (0x3400C, 0xAC31806), (0x34018, 0x32), (0x3401C, 0x3E8000A),
    (0x34028, 0x101), (0x38000, 0x220), (0x48000, 0), (0x48004, 0x640A32), (0x68000, 0x8FEAC), (0x78000, 0x3200), (0x78004, 0x8000),
    (0x7800C, 0x2710), (0x78010, 0x7832000F), (0x78014, 0x4047800), (0x78020, 0x320014), (0x78024, 0x1F43C14), (0x78028, 0xA00304), (0x78030, 0),
    (0x78044, 0), (0x80810, 0x32710), (0x90000, 0xFF), (0x90004, 0), (0xB0000, 0x40A550F), (0xB0004, 0x133C0E10), (0xB0008, 0x2C814),
    (0xB000C, 0x140305A0), (0xB0014, 0), (0xB0018, 0), (0xB001C, 0), (0xB0020, 0x10000), (0xA00C0, 0), (0xA00C4, 0), (0xA00C8, 0),
    (0xA00CC, 0xFFFFFFF0), (0xA00D0, 0xFFFFFFFF), (0xA00D8, 0x30A), (0, 0x2016416), (4, 0x10001), (8, 0), (0x10, 0), (0x20, 0), (0x10000, 0),
    (0x10004, 0), (0x10008, 0x6464), (0x1001C, 0x352), (0x10020, 0x3520001), (0x10060, 1), (0x10080, 0x10040), (0x10090, 0x10044), (0x100A0, 0x1F),
    (0xC0004, 1), (0xC0008, 0), (0xC0040, 0xA3203E8), (0xC0020, 0), (0xC0024, 0), (0xC0048, 0), (0xD0100, 0), (0xE0004, 0), (0xE0010, 0),
    (0xE0014, 0), (0x60200, 0xA0002), (0x6023C, 0x3FF03FD)] : List (Nat × Nat)),
    (radioRead p.1 State.reset).1 = BitVec.ofNat 32 p.2) ∧
  (∀ p ∈ ([(0x30000, 0x1000, 4, 0), (0x3000C, 0x1000, 4, 0xAC31806), (0x30010, 0x1000, 4, 0x285400), (0x3001C, 0x1000, 4, 0x2060A),
    (0x40000, 0x1000, 4, 0xF01), (0x42010, 0x1000, 2, 0x16A65700), (0x42014, 0x1000, 2, 0x140000), (0x40004, 0x1000, 4, 0),
    (0x50004, 0x400, 0x40, 0x10), (0x50008, 0x400, 0x40, 0), (0x5000C, 0x400, 0x40, 0xFFF), (0x50010, 0x400, 0x40, 0x602), (0x5001C, 0x400, 0x40, 3),
    (0x50020, 0x400, 0x40, 0x9E4B35D1), (0x50040, 0x400, 0x40, 0), (0x60004, 0x4000, 2, 0x6100A), (0x60008, 0x4000, 2, 0), (0x60010, 0x4000, 2, 0xA0),
    (0x60014, 0x4000, 2, 0x53), (0x60018, 0x4000, 2, 0x3000000), (0x6001C, 0x4000, 2, 0x1F), (0x6017C, 0x4000, 2, 0x4000), (0x70004, 0x40, 0x80, 0),
    (0x70018, 0x40, 0x80, 0x200000), (0x70020, 0x40, 0x80, 0x1F), (0x70028, 0x40, 0x80, 0), (0xA0004, 0x8000, 2, 0x3C101E13), (0xA0010, 0x8000, 2, 0),
    (0xA001C, 0x8000, 2, 0xFF), (0xA0040, 0x8000, 2, 0), (0x80000, 0x10, 0x60, 0), (0x21000, 0x40, 8, 0)] : List (Nat × Nat × Nat × Nat)),
    ∀ n, n < p.2.2.1 → (radioRead (p.1 + n * p.2.1) State.reset).1 = BitVec.ofNat 32 p.2.2.2) ∧
  (∀ p ∈ ([(0, 0x16416), (4, 2), (0x1C, 0), (0x1000, 0x30), (0x1004, 7), (0x1050, 0), (0x2000, 0), (0x2004, 0), (0x3004, 0), (0x300C, 0xE4), (0x400C, 1),
    (0x5000, 0x6000000), (0x5004, 0x20000101), (0x5010, 1), (0x5014, 0), (0x5018, 0x20000101), (0x501C, 0), (0x600C, 0xFF), (0x6018, 0)] : List (Nat × Nat)),
    (hostReadAt (BitVec.ofNat 32 p.1) State.reset).1 = BitVec.ofNat 32 p.2) ∧
  hrd State.reset 0x8000 = 0x207 ∧ State.reset.ntb.net = 0 ∧ State.reset.ntb.anch = 0 ∧ State.reset.guard = none ∧ State.reset.hguard = none ∧
  State.reset.shadow = [] ∧ (∀ n, getCtx State.reset n = {}) ∧ (∀ k, (getKey State.reset k).valid = false) ∧ State.reset.keeper.reqs = [] ∧ State.reset.tender.reqs = [] ∧
  State.reset.pending = [] ∧ State.reset.wf = true
end

