-- ==== Sys2Proof/Laws/State.lean ====
section
/-! SUPPORT. What the register setters leave of every field of the state: one lemma per field and setter, each true by unfolding. -/

namespace Sys2Proof.Machine

@[simp] theorem wr_pending (off : Nat) (v : Word) (s : State) : (wr off v s).pending = s.pending := rfl
@[simp] theorem wr_free (off : Nat) (v : Word) (s : State) : (wr off v s).free = s.free := rfl
@[simp] theorem wr_lastRead (off : Nat) (v : Word) (s : State) : (wr off v s).lastRead = s.lastRead := rfl
@[simp] theorem wr_shadow (off : Nat) (v : Word) (s : State) : (wr off v s).shadow = s.shadow := rfl
@[simp] theorem wr_latch (off : Nat) (v : Word) (s : State) : (wr off v s).latch = s.latch := rfl
@[simp] theorem wr_guard (off : Nat) (v : Word) (s : State) : (wr off v s).guard = s.guard := rfl
@[simp] theorem wr_ntb (off : Nat) (v : Word) (s : State) : (wr off v s).ntb = s.ntb := rfl
@[simp] theorem wr_lamps (off : Nat) (v : Word) (s : State) : (wr off v s).lamps = s.lamps := rfl
@[simp] theorem wr_caps (off : Nat) (v : Word) (s : State) : (wr off v s).caps = s.caps := rfl
@[simp] theorem wr_stamps (off : Nat) (v : Word) (s : State) : (wr off v s).stamps = s.stamps := rfl
@[simp] theorem wr_evf (off : Nat) (v : Word) (s : State) : (wr off v s).evf = s.evf := rfl
@[simp] theorem wr_paths (off : Nat) (v : Word) (s : State) : (wr off v s).paths = s.paths := rfl
@[simp] theorem wr_pathS (off : Nat) (v : Word) (s : State) : (wr off v s).pathS = s.pathS := rfl
@[simp] theorem wr_slots (off : Nat) (v : Word) (s : State) : (wr off v s).slots = s.slots := rfl
@[simp] theorem wr_live (off : Nat) (v : Word) (s : State) : (wr off v s).live = s.live := rfl
@[simp] theorem wr_agc (off : Nat) (v : Word) (s : State) : (wr off v s).agc = s.agc := rfl
@[simp] theorem wr_energyAt (off : Nat) (v : Word) (s : State) : (wr off v s).energyAt = s.energyAt := rfl
@[simp] theorem wr_intake (off : Nat) (v : Word) (s : State) : (wr off v s).intake = s.intake := rfl
@[simp] theorem wr_syns (off : Nat) (v : Word) (s : State) : (wr off v s).syns = s.syns := rfl
@[simp] theorem wr_txs (off : Nat) (v : Word) (s : State) : (wr off v s).txs = s.txs := rfl
@[simp] theorem wr_ops (off : Nat) (v : Word) (s : State) : (wr off v s).ops = s.ops := rfl
@[simp] theorem wr_coexIn (off : Nat) (v : Word) (s : State) : (wr off v s).coexIn = s.coexIn := rfl
@[simp] theorem wr_uses (off : Nat) (v : Word) (s : State) : (wr off v s).uses = s.uses := rfl
@[simp] theorem wr_mac (off : Nat) (v : Word) (s : State) : (wr off v s).mac = s.mac := rfl
@[simp] theorem wr_pkt (off : Nat) (v : Word) (s : State) : (wr off v s).pkt = s.pkt := rfl
@[simp] theorem wr_air (off : Nat) (v : Word) (s : State) : (wr off v s).air = s.air := rfl
@[simp] theorem wr_cipher (off : Nat) (v : Word) (s : State) : (wr off v s).cipher = s.cipher := rfl
@[simp] theorem wr_ctx (off : Nat) (v : Word) (s : State) : (wr off v s).ctx = s.ctx := rfl
@[simp] theorem wr_nodes (off : Nat) (v : Word) (s : State) : (wr off v s).nodes = s.nodes := rfl
@[simp] theorem wr_chain (off : Nat) (v : Word) (s : State) : (wr off v s).chain = s.chain := rfl
@[simp] theorem wr_linkR (off : Nat) (v : Word) (s : State) : (wr off v s).linkR = s.linkR := rfl
@[simp] theorem wr_keeper (off : Nat) (v : Word) (s : State) : (wr off v s).keeper = s.keeper := rfl
@[simp] theorem wr_hreg (off : Nat) (v : Word) (s : State) : (wr off v s).hreg = s.hreg := rfl
@[simp] theorem wr_hlatch (off : Nat) (v : Word) (s : State) : (wr off v s).hlatch = s.hlatch := rfl
@[simp] theorem wr_regWas (off : Nat) (v : Word) (s : State) : (wr off v s).regWas = s.regWas := rfl
@[simp] theorem wr_hregWas (off : Nat) (v : Word) (s : State) : (wr off v s).hregWas = s.hregWas := rfl
@[simp] theorem wr_hguard (off : Nat) (v : Word) (s : State) : (wr off v s).hguard = s.hguard := rfl
@[simp] theorem wr_guardAge (off : Nat) (v : Word) (s : State) : (wr off v s).guardAge = s.guardAge := rfl
@[simp] theorem wr_hguardAge (off : Nat) (v : Word) (s : State) : (wr off v s).hguardAge = s.hguardAge := rfl
@[simp] theorem wr_reqMem (off : Nat) (v : Word) (s : State) : (wr off v s).reqMem = s.reqMem := rfl
@[simp] theorem wr_rspMem (off : Nat) (v : Word) (s : State) : (wr off v s).rspMem = s.rspMem := rfl
@[simp] theorem wr_linkH (off : Nat) (v : Word) (s : State) : (wr off v s).linkH = s.linkH := rfl
@[simp] theorem wr_tender (off : Nat) (v : Word) (s : State) : (wr off v s).tender = s.tender := rfl
@[simp] theorem wr_flash (off : Nat) (v : Word) (s : State) : (wr off v s).flash = s.flash := rfl
@[simp] theorem wr_settings (off : Nat) (v : Word) (s : State) : (wr off v s).settings = s.settings := rfl
@[simp] theorem wr_boot (off : Nat) (v : Word) (s : State) : (wr off v s).boot = s.boot := rfl
@[simp] theorem wr_age (off : Nat) (v : Word) (s : State) : (wr off v s).age = s.age := rfl
@[simp] theorem wr_image (off : Nat) (v : Word) (s : State) : (wr off v s).image = s.image := rfl
@[simp] theorem wr_power (off : Nat) (v : Word) (s : State) : (wr off v s).power = s.power := rfl
@[simp] theorem wr_rtc (off : Nat) (v : Word) (s : State) : (wr off v s).rtc = s.rtc := rfl
@[simp] theorem wr_tag (off : Nat) (v : Word) (s : State) : (wr off v s).tag = s.tag := rfl
@[simp] theorem wr_taps (off : Nat) (v : Word) (s : State) : (wr off v s).taps = s.taps := rfl

@[simp] theorem setF_pending (off hi lo v : Nat) (s : State) : (setF off hi lo v s).pending = s.pending := rfl
@[simp] theorem setF_free (off hi lo v : Nat) (s : State) : (setF off hi lo v s).free = s.free := rfl
@[simp] theorem setF_lastRead (off hi lo v : Nat) (s : State) : (setF off hi lo v s).lastRead = s.lastRead := rfl
@[simp] theorem setF_shadow (off hi lo v : Nat) (s : State) : (setF off hi lo v s).shadow = s.shadow := rfl
@[simp] theorem setF_latch (off hi lo v : Nat) (s : State) : (setF off hi lo v s).latch = s.latch := rfl
@[simp] theorem setF_guard (off hi lo v : Nat) (s : State) : (setF off hi lo v s).guard = s.guard := rfl
@[simp] theorem setF_ntb (off hi lo v : Nat) (s : State) : (setF off hi lo v s).ntb = s.ntb := rfl
@[simp] theorem setF_lamps (off hi lo v : Nat) (s : State) : (setF off hi lo v s).lamps = s.lamps := rfl
@[simp] theorem setF_caps (off hi lo v : Nat) (s : State) : (setF off hi lo v s).caps = s.caps := rfl
@[simp] theorem setF_stamps (off hi lo v : Nat) (s : State) : (setF off hi lo v s).stamps = s.stamps := rfl
@[simp] theorem setF_evf (off hi lo v : Nat) (s : State) : (setF off hi lo v s).evf = s.evf := rfl
@[simp] theorem setF_paths (off hi lo v : Nat) (s : State) : (setF off hi lo v s).paths = s.paths := rfl
@[simp] theorem setF_pathS (off hi lo v : Nat) (s : State) : (setF off hi lo v s).pathS = s.pathS := rfl
@[simp] theorem setF_slots (off hi lo v : Nat) (s : State) : (setF off hi lo v s).slots = s.slots := rfl
@[simp] theorem setF_live (off hi lo v : Nat) (s : State) : (setF off hi lo v s).live = s.live := rfl
@[simp] theorem setF_agc (off hi lo v : Nat) (s : State) : (setF off hi lo v s).agc = s.agc := rfl
@[simp] theorem setF_energyAt (off hi lo v : Nat) (s : State) : (setF off hi lo v s).energyAt = s.energyAt := rfl
@[simp] theorem setF_intake (off hi lo v : Nat) (s : State) : (setF off hi lo v s).intake = s.intake := rfl
@[simp] theorem setF_syns (off hi lo v : Nat) (s : State) : (setF off hi lo v s).syns = s.syns := rfl
@[simp] theorem setF_txs (off hi lo v : Nat) (s : State) : (setF off hi lo v s).txs = s.txs := rfl
@[simp] theorem setF_ops (off hi lo v : Nat) (s : State) : (setF off hi lo v s).ops = s.ops := rfl
@[simp] theorem setF_coexIn (off hi lo v : Nat) (s : State) : (setF off hi lo v s).coexIn = s.coexIn := rfl
@[simp] theorem setF_uses (off hi lo v : Nat) (s : State) : (setF off hi lo v s).uses = s.uses := rfl
@[simp] theorem setF_mac (off hi lo v : Nat) (s : State) : (setF off hi lo v s).mac = s.mac := rfl
@[simp] theorem setF_pkt (off hi lo v : Nat) (s : State) : (setF off hi lo v s).pkt = s.pkt := rfl
@[simp] theorem setF_air (off hi lo v : Nat) (s : State) : (setF off hi lo v s).air = s.air := rfl
@[simp] theorem setF_cipher (off hi lo v : Nat) (s : State) : (setF off hi lo v s).cipher = s.cipher := rfl
@[simp] theorem setF_ctx (off hi lo v : Nat) (s : State) : (setF off hi lo v s).ctx = s.ctx := rfl
@[simp] theorem setF_nodes (off hi lo v : Nat) (s : State) : (setF off hi lo v s).nodes = s.nodes := rfl
@[simp] theorem setF_chain (off hi lo v : Nat) (s : State) : (setF off hi lo v s).chain = s.chain := rfl
@[simp] theorem setF_linkR (off hi lo v : Nat) (s : State) : (setF off hi lo v s).linkR = s.linkR := rfl
@[simp] theorem setF_keeper (off hi lo v : Nat) (s : State) : (setF off hi lo v s).keeper = s.keeper := rfl
@[simp] theorem setF_hreg (off hi lo v : Nat) (s : State) : (setF off hi lo v s).hreg = s.hreg := rfl
@[simp] theorem setF_hlatch (off hi lo v : Nat) (s : State) : (setF off hi lo v s).hlatch = s.hlatch := rfl
@[simp] theorem setF_regWas (off hi lo v : Nat) (s : State) : (setF off hi lo v s).regWas = s.regWas := rfl
@[simp] theorem setF_hregWas (off hi lo v : Nat) (s : State) : (setF off hi lo v s).hregWas = s.hregWas := rfl
@[simp] theorem setF_hguard (off hi lo v : Nat) (s : State) : (setF off hi lo v s).hguard = s.hguard := rfl
@[simp] theorem setF_guardAge (off hi lo v : Nat) (s : State) : (setF off hi lo v s).guardAge = s.guardAge := rfl
@[simp] theorem setF_hguardAge (off hi lo v : Nat) (s : State) : (setF off hi lo v s).hguardAge = s.hguardAge := rfl
@[simp] theorem setF_reqMem (off hi lo v : Nat) (s : State) : (setF off hi lo v s).reqMem = s.reqMem := rfl
@[simp] theorem setF_rspMem (off hi lo v : Nat) (s : State) : (setF off hi lo v s).rspMem = s.rspMem := rfl
@[simp] theorem setF_linkH (off hi lo v : Nat) (s : State) : (setF off hi lo v s).linkH = s.linkH := rfl
@[simp] theorem setF_tender (off hi lo v : Nat) (s : State) : (setF off hi lo v s).tender = s.tender := rfl
@[simp] theorem setF_flash (off hi lo v : Nat) (s : State) : (setF off hi lo v s).flash = s.flash := rfl
@[simp] theorem setF_settings (off hi lo v : Nat) (s : State) : (setF off hi lo v s).settings = s.settings := rfl
@[simp] theorem setF_boot (off hi lo v : Nat) (s : State) : (setF off hi lo v s).boot = s.boot := rfl
@[simp] theorem setF_age (off hi lo v : Nat) (s : State) : (setF off hi lo v s).age = s.age := rfl
@[simp] theorem setF_image (off hi lo v : Nat) (s : State) : (setF off hi lo v s).image = s.image := rfl
@[simp] theorem setF_power (off hi lo v : Nat) (s : State) : (setF off hi lo v s).power = s.power := rfl
@[simp] theorem setF_rtc (off hi lo v : Nat) (s : State) : (setF off hi lo v s).rtc = s.rtc := rfl
@[simp] theorem setF_tag (off hi lo v : Nat) (s : State) : (setF off hi lo v s).tag = s.tag := rfl
@[simp] theorem setF_taps (off hi lo v : Nat) (s : State) : (setF off hi lo v s).taps = s.taps := rfl

@[simp] theorem setB_pending (off i : Nat) (b : Bool) (s : State) : (setB off i b s).pending = s.pending := rfl
@[simp] theorem setB_free (off i : Nat) (b : Bool) (s : State) : (setB off i b s).free = s.free := rfl
@[simp] theorem setB_lastRead (off i : Nat) (b : Bool) (s : State) : (setB off i b s).lastRead = s.lastRead := rfl
@[simp] theorem setB_shadow (off i : Nat) (b : Bool) (s : State) : (setB off i b s).shadow = s.shadow := rfl
@[simp] theorem setB_latch (off i : Nat) (b : Bool) (s : State) : (setB off i b s).latch = s.latch := rfl
@[simp] theorem setB_guard (off i : Nat) (b : Bool) (s : State) : (setB off i b s).guard = s.guard := rfl
@[simp] theorem setB_ntb (off i : Nat) (b : Bool) (s : State) : (setB off i b s).ntb = s.ntb := rfl
@[simp] theorem setB_lamps (off i : Nat) (b : Bool) (s : State) : (setB off i b s).lamps = s.lamps := rfl
@[simp] theorem setB_caps (off i : Nat) (b : Bool) (s : State) : (setB off i b s).caps = s.caps := rfl
@[simp] theorem setB_stamps (off i : Nat) (b : Bool) (s : State) : (setB off i b s).stamps = s.stamps := rfl
@[simp] theorem setB_evf (off i : Nat) (b : Bool) (s : State) : (setB off i b s).evf = s.evf := rfl
@[simp] theorem setB_paths (off i : Nat) (b : Bool) (s : State) : (setB off i b s).paths = s.paths := rfl
@[simp] theorem setB_pathS (off i : Nat) (b : Bool) (s : State) : (setB off i b s).pathS = s.pathS := rfl
@[simp] theorem setB_slots (off i : Nat) (b : Bool) (s : State) : (setB off i b s).slots = s.slots := rfl
@[simp] theorem setB_live (off i : Nat) (b : Bool) (s : State) : (setB off i b s).live = s.live := rfl
@[simp] theorem setB_agc (off i : Nat) (b : Bool) (s : State) : (setB off i b s).agc = s.agc := rfl
@[simp] theorem setB_energyAt (off i : Nat) (b : Bool) (s : State) : (setB off i b s).energyAt = s.energyAt := rfl
@[simp] theorem setB_intake (off i : Nat) (b : Bool) (s : State) : (setB off i b s).intake = s.intake := rfl
@[simp] theorem setB_syns (off i : Nat) (b : Bool) (s : State) : (setB off i b s).syns = s.syns := rfl
@[simp] theorem setB_txs (off i : Nat) (b : Bool) (s : State) : (setB off i b s).txs = s.txs := rfl
@[simp] theorem setB_ops (off i : Nat) (b : Bool) (s : State) : (setB off i b s).ops = s.ops := rfl
@[simp] theorem setB_coexIn (off i : Nat) (b : Bool) (s : State) : (setB off i b s).coexIn = s.coexIn := rfl
@[simp] theorem setB_uses (off i : Nat) (b : Bool) (s : State) : (setB off i b s).uses = s.uses := rfl
@[simp] theorem setB_mac (off i : Nat) (b : Bool) (s : State) : (setB off i b s).mac = s.mac := rfl
@[simp] theorem setB_pkt (off i : Nat) (b : Bool) (s : State) : (setB off i b s).pkt = s.pkt := rfl
@[simp] theorem setB_air (off i : Nat) (b : Bool) (s : State) : (setB off i b s).air = s.air := rfl
@[simp] theorem setB_cipher (off i : Nat) (b : Bool) (s : State) : (setB off i b s).cipher = s.cipher := rfl
@[simp] theorem setB_ctx (off i : Nat) (b : Bool) (s : State) : (setB off i b s).ctx = s.ctx := rfl
@[simp] theorem setB_nodes (off i : Nat) (b : Bool) (s : State) : (setB off i b s).nodes = s.nodes := rfl
@[simp] theorem setB_chain (off i : Nat) (b : Bool) (s : State) : (setB off i b s).chain = s.chain := rfl
@[simp] theorem setB_linkR (off i : Nat) (b : Bool) (s : State) : (setB off i b s).linkR = s.linkR := rfl
@[simp] theorem setB_keeper (off i : Nat) (b : Bool) (s : State) : (setB off i b s).keeper = s.keeper := rfl
@[simp] theorem setB_hreg (off i : Nat) (b : Bool) (s : State) : (setB off i b s).hreg = s.hreg := rfl
@[simp] theorem setB_hlatch (off i : Nat) (b : Bool) (s : State) : (setB off i b s).hlatch = s.hlatch := rfl
@[simp] theorem setB_regWas (off i : Nat) (b : Bool) (s : State) : (setB off i b s).regWas = s.regWas := rfl
@[simp] theorem setB_hregWas (off i : Nat) (b : Bool) (s : State) : (setB off i b s).hregWas = s.hregWas := rfl
@[simp] theorem setB_hguard (off i : Nat) (b : Bool) (s : State) : (setB off i b s).hguard = s.hguard := rfl
@[simp] theorem setB_guardAge (off i : Nat) (b : Bool) (s : State) : (setB off i b s).guardAge = s.guardAge := rfl
@[simp] theorem setB_hguardAge (off i : Nat) (b : Bool) (s : State) : (setB off i b s).hguardAge = s.hguardAge := rfl
@[simp] theorem setB_reqMem (off i : Nat) (b : Bool) (s : State) : (setB off i b s).reqMem = s.reqMem := rfl
@[simp] theorem setB_rspMem (off i : Nat) (b : Bool) (s : State) : (setB off i b s).rspMem = s.rspMem := rfl
@[simp] theorem setB_linkH (off i : Nat) (b : Bool) (s : State) : (setB off i b s).linkH = s.linkH := rfl
@[simp] theorem setB_tender (off i : Nat) (b : Bool) (s : State) : (setB off i b s).tender = s.tender := rfl
@[simp] theorem setB_flash (off i : Nat) (b : Bool) (s : State) : (setB off i b s).flash = s.flash := rfl
@[simp] theorem setB_settings (off i : Nat) (b : Bool) (s : State) : (setB off i b s).settings = s.settings := rfl
@[simp] theorem setB_boot (off i : Nat) (b : Bool) (s : State) : (setB off i b s).boot = s.boot := rfl
@[simp] theorem setB_age (off i : Nat) (b : Bool) (s : State) : (setB off i b s).age = s.age := rfl
@[simp] theorem setB_image (off i : Nat) (b : Bool) (s : State) : (setB off i b s).image = s.image := rfl
@[simp] theorem setB_power (off i : Nat) (b : Bool) (s : State) : (setB off i b s).power = s.power := rfl
@[simp] theorem setB_rtc (off i : Nat) (b : Bool) (s : State) : (setB off i b s).rtc = s.rtc := rfl
@[simp] theorem setB_tag (off i : Nat) (b : Bool) (s : State) : (setB off i b s).tag = s.tag := rfl
@[simp] theorem setB_taps (off i : Nat) (b : Bool) (s : State) : (setB off i b s).taps = s.taps := rfl

@[simp] theorem incF_pending (off hi lo n : Nat) (s : State) : (incF off hi lo n s).pending = s.pending := rfl
@[simp] theorem incF_free (off hi lo n : Nat) (s : State) : (incF off hi lo n s).free = s.free := rfl
@[simp] theorem incF_lastRead (off hi lo n : Nat) (s : State) : (incF off hi lo n s).lastRead = s.lastRead := rfl
@[simp] theorem incF_shadow (off hi lo n : Nat) (s : State) : (incF off hi lo n s).shadow = s.shadow := rfl
@[simp] theorem incF_latch (off hi lo n : Nat) (s : State) : (incF off hi lo n s).latch = s.latch := rfl
@[simp] theorem incF_guard (off hi lo n : Nat) (s : State) : (incF off hi lo n s).guard = s.guard := rfl
@[simp] theorem incF_ntb (off hi lo n : Nat) (s : State) : (incF off hi lo n s).ntb = s.ntb := rfl
@[simp] theorem incF_lamps (off hi lo n : Nat) (s : State) : (incF off hi lo n s).lamps = s.lamps := rfl
@[simp] theorem incF_caps (off hi lo n : Nat) (s : State) : (incF off hi lo n s).caps = s.caps := rfl
@[simp] theorem incF_stamps (off hi lo n : Nat) (s : State) : (incF off hi lo n s).stamps = s.stamps := rfl
@[simp] theorem incF_evf (off hi lo n : Nat) (s : State) : (incF off hi lo n s).evf = s.evf := rfl
@[simp] theorem incF_paths (off hi lo n : Nat) (s : State) : (incF off hi lo n s).paths = s.paths := rfl
@[simp] theorem incF_pathS (off hi lo n : Nat) (s : State) : (incF off hi lo n s).pathS = s.pathS := rfl
@[simp] theorem incF_slots (off hi lo n : Nat) (s : State) : (incF off hi lo n s).slots = s.slots := rfl
@[simp] theorem incF_live (off hi lo n : Nat) (s : State) : (incF off hi lo n s).live = s.live := rfl
@[simp] theorem incF_agc (off hi lo n : Nat) (s : State) : (incF off hi lo n s).agc = s.agc := rfl
@[simp] theorem incF_energyAt (off hi lo n : Nat) (s : State) : (incF off hi lo n s).energyAt = s.energyAt := rfl
@[simp] theorem incF_intake (off hi lo n : Nat) (s : State) : (incF off hi lo n s).intake = s.intake := rfl
@[simp] theorem incF_syns (off hi lo n : Nat) (s : State) : (incF off hi lo n s).syns = s.syns := rfl
@[simp] theorem incF_txs (off hi lo n : Nat) (s : State) : (incF off hi lo n s).txs = s.txs := rfl
@[simp] theorem incF_ops (off hi lo n : Nat) (s : State) : (incF off hi lo n s).ops = s.ops := rfl
@[simp] theorem incF_coexIn (off hi lo n : Nat) (s : State) : (incF off hi lo n s).coexIn = s.coexIn := rfl
@[simp] theorem incF_uses (off hi lo n : Nat) (s : State) : (incF off hi lo n s).uses = s.uses := rfl
@[simp] theorem incF_mac (off hi lo n : Nat) (s : State) : (incF off hi lo n s).mac = s.mac := rfl
@[simp] theorem incF_pkt (off hi lo n : Nat) (s : State) : (incF off hi lo n s).pkt = s.pkt := rfl
@[simp] theorem incF_air (off hi lo n : Nat) (s : State) : (incF off hi lo n s).air = s.air := rfl
@[simp] theorem incF_cipher (off hi lo n : Nat) (s : State) : (incF off hi lo n s).cipher = s.cipher := rfl
@[simp] theorem incF_ctx (off hi lo n : Nat) (s : State) : (incF off hi lo n s).ctx = s.ctx := rfl
@[simp] theorem incF_nodes (off hi lo n : Nat) (s : State) : (incF off hi lo n s).nodes = s.nodes := rfl
@[simp] theorem incF_chain (off hi lo n : Nat) (s : State) : (incF off hi lo n s).chain = s.chain := rfl
@[simp] theorem incF_linkR (off hi lo n : Nat) (s : State) : (incF off hi lo n s).linkR = s.linkR := rfl
@[simp] theorem incF_keeper (off hi lo n : Nat) (s : State) : (incF off hi lo n s).keeper = s.keeper := rfl
@[simp] theorem incF_hreg (off hi lo n : Nat) (s : State) : (incF off hi lo n s).hreg = s.hreg := rfl
@[simp] theorem incF_hlatch (off hi lo n : Nat) (s : State) : (incF off hi lo n s).hlatch = s.hlatch := rfl
@[simp] theorem incF_regWas (off hi lo n : Nat) (s : State) : (incF off hi lo n s).regWas = s.regWas := rfl
@[simp] theorem incF_hregWas (off hi lo n : Nat) (s : State) : (incF off hi lo n s).hregWas = s.hregWas := rfl
@[simp] theorem incF_hguard (off hi lo n : Nat) (s : State) : (incF off hi lo n s).hguard = s.hguard := rfl
@[simp] theorem incF_guardAge (off hi lo n : Nat) (s : State) : (incF off hi lo n s).guardAge = s.guardAge := rfl
@[simp] theorem incF_hguardAge (off hi lo n : Nat) (s : State) : (incF off hi lo n s).hguardAge = s.hguardAge := rfl
@[simp] theorem incF_reqMem (off hi lo n : Nat) (s : State) : (incF off hi lo n s).reqMem = s.reqMem := rfl
@[simp] theorem incF_rspMem (off hi lo n : Nat) (s : State) : (incF off hi lo n s).rspMem = s.rspMem := rfl
@[simp] theorem incF_linkH (off hi lo n : Nat) (s : State) : (incF off hi lo n s).linkH = s.linkH := rfl
@[simp] theorem incF_tender (off hi lo n : Nat) (s : State) : (incF off hi lo n s).tender = s.tender := rfl
@[simp] theorem incF_flash (off hi lo n : Nat) (s : State) : (incF off hi lo n s).flash = s.flash := rfl
@[simp] theorem incF_settings (off hi lo n : Nat) (s : State) : (incF off hi lo n s).settings = s.settings := rfl
@[simp] theorem incF_boot (off hi lo n : Nat) (s : State) : (incF off hi lo n s).boot = s.boot := rfl
@[simp] theorem incF_age (off hi lo n : Nat) (s : State) : (incF off hi lo n s).age = s.age := rfl
@[simp] theorem incF_image (off hi lo n : Nat) (s : State) : (incF off hi lo n s).image = s.image := rfl
@[simp] theorem incF_power (off hi lo n : Nat) (s : State) : (incF off hi lo n s).power = s.power := rfl
@[simp] theorem incF_rtc (off hi lo n : Nat) (s : State) : (incF off hi lo n s).rtc = s.rtc := rfl
@[simp] theorem incF_tag (off hi lo n : Nat) (s : State) : (incF off hi lo n s).tag = s.tag := rfl
@[simp] theorem incF_taps (off hi lo n : Nat) (s : State) : (incF off hi lo n s).taps = s.taps := rfl

@[simp] theorem incW_pending (off : Nat) (s : State) : (incW off s).pending = s.pending := rfl
@[simp] theorem incW_free (off : Nat) (s : State) : (incW off s).free = s.free := rfl
@[simp] theorem incW_lastRead (off : Nat) (s : State) : (incW off s).lastRead = s.lastRead := rfl
@[simp] theorem incW_shadow (off : Nat) (s : State) : (incW off s).shadow = s.shadow := rfl
@[simp] theorem incW_latch (off : Nat) (s : State) : (incW off s).latch = s.latch := rfl
@[simp] theorem incW_guard (off : Nat) (s : State) : (incW off s).guard = s.guard := rfl
@[simp] theorem incW_ntb (off : Nat) (s : State) : (incW off s).ntb = s.ntb := rfl
@[simp] theorem incW_lamps (off : Nat) (s : State) : (incW off s).lamps = s.lamps := rfl
@[simp] theorem incW_caps (off : Nat) (s : State) : (incW off s).caps = s.caps := rfl
@[simp] theorem incW_stamps (off : Nat) (s : State) : (incW off s).stamps = s.stamps := rfl
@[simp] theorem incW_evf (off : Nat) (s : State) : (incW off s).evf = s.evf := rfl
@[simp] theorem incW_paths (off : Nat) (s : State) : (incW off s).paths = s.paths := rfl
@[simp] theorem incW_pathS (off : Nat) (s : State) : (incW off s).pathS = s.pathS := rfl
@[simp] theorem incW_slots (off : Nat) (s : State) : (incW off s).slots = s.slots := rfl
@[simp] theorem incW_live (off : Nat) (s : State) : (incW off s).live = s.live := rfl
@[simp] theorem incW_agc (off : Nat) (s : State) : (incW off s).agc = s.agc := rfl
@[simp] theorem incW_energyAt (off : Nat) (s : State) : (incW off s).energyAt = s.energyAt := rfl
@[simp] theorem incW_intake (off : Nat) (s : State) : (incW off s).intake = s.intake := rfl
@[simp] theorem incW_syns (off : Nat) (s : State) : (incW off s).syns = s.syns := rfl
@[simp] theorem incW_txs (off : Nat) (s : State) : (incW off s).txs = s.txs := rfl
@[simp] theorem incW_ops (off : Nat) (s : State) : (incW off s).ops = s.ops := rfl
@[simp] theorem incW_coexIn (off : Nat) (s : State) : (incW off s).coexIn = s.coexIn := rfl
@[simp] theorem incW_uses (off : Nat) (s : State) : (incW off s).uses = s.uses := rfl
@[simp] theorem incW_mac (off : Nat) (s : State) : (incW off s).mac = s.mac := rfl
@[simp] theorem incW_pkt (off : Nat) (s : State) : (incW off s).pkt = s.pkt := rfl
@[simp] theorem incW_air (off : Nat) (s : State) : (incW off s).air = s.air := rfl
@[simp] theorem incW_cipher (off : Nat) (s : State) : (incW off s).cipher = s.cipher := rfl
@[simp] theorem incW_ctx (off : Nat) (s : State) : (incW off s).ctx = s.ctx := rfl
@[simp] theorem incW_nodes (off : Nat) (s : State) : (incW off s).nodes = s.nodes := rfl
@[simp] theorem incW_chain (off : Nat) (s : State) : (incW off s).chain = s.chain := rfl
@[simp] theorem incW_linkR (off : Nat) (s : State) : (incW off s).linkR = s.linkR := rfl
@[simp] theorem incW_keeper (off : Nat) (s : State) : (incW off s).keeper = s.keeper := rfl
@[simp] theorem incW_hreg (off : Nat) (s : State) : (incW off s).hreg = s.hreg := rfl
@[simp] theorem incW_hlatch (off : Nat) (s : State) : (incW off s).hlatch = s.hlatch := rfl
@[simp] theorem incW_regWas (off : Nat) (s : State) : (incW off s).regWas = s.regWas := rfl
@[simp] theorem incW_hregWas (off : Nat) (s : State) : (incW off s).hregWas = s.hregWas := rfl
@[simp] theorem incW_hguard (off : Nat) (s : State) : (incW off s).hguard = s.hguard := rfl
@[simp] theorem incW_guardAge (off : Nat) (s : State) : (incW off s).guardAge = s.guardAge := rfl
@[simp] theorem incW_hguardAge (off : Nat) (s : State) : (incW off s).hguardAge = s.hguardAge := rfl
@[simp] theorem incW_reqMem (off : Nat) (s : State) : (incW off s).reqMem = s.reqMem := rfl
@[simp] theorem incW_rspMem (off : Nat) (s : State) : (incW off s).rspMem = s.rspMem := rfl
@[simp] theorem incW_linkH (off : Nat) (s : State) : (incW off s).linkH = s.linkH := rfl
@[simp] theorem incW_tender (off : Nat) (s : State) : (incW off s).tender = s.tender := rfl
@[simp] theorem incW_flash (off : Nat) (s : State) : (incW off s).flash = s.flash := rfl
@[simp] theorem incW_settings (off : Nat) (s : State) : (incW off s).settings = s.settings := rfl
@[simp] theorem incW_boot (off : Nat) (s : State) : (incW off s).boot = s.boot := rfl
@[simp] theorem incW_age (off : Nat) (s : State) : (incW off s).age = s.age := rfl
@[simp] theorem incW_image (off : Nat) (s : State) : (incW off s).image = s.image := rfl
@[simp] theorem incW_power (off : Nat) (s : State) : (incW off s).power = s.power := rfl
@[simp] theorem incW_rtc (off : Nat) (s : State) : (incW off s).rtc = s.rtc := rfl
@[simp] theorem incW_tag (off : Nat) (s : State) : (incW off s).tag = s.tag := rfl
@[simp] theorem incW_taps (off : Nat) (s : State) : (incW off s).taps = s.taps := rfl

@[simp] theorem hwr_pending (off : Nat) (v : Word) (s : State) : (hwr off v s).pending = s.pending := rfl
@[simp] theorem hwr_free (off : Nat) (v : Word) (s : State) : (hwr off v s).free = s.free := rfl
@[simp] theorem hwr_lastRead (off : Nat) (v : Word) (s : State) : (hwr off v s).lastRead = s.lastRead := rfl
@[simp] theorem hwr_reg (off : Nat) (v : Word) (s : State) : (hwr off v s).reg = s.reg := rfl
@[simp] theorem hwr_shadow (off : Nat) (v : Word) (s : State) : (hwr off v s).shadow = s.shadow := rfl
@[simp] theorem hwr_latch (off : Nat) (v : Word) (s : State) : (hwr off v s).latch = s.latch := rfl
@[simp] theorem hwr_guard (off : Nat) (v : Word) (s : State) : (hwr off v s).guard = s.guard := rfl
@[simp] theorem hwr_ntb (off : Nat) (v : Word) (s : State) : (hwr off v s).ntb = s.ntb := rfl
@[simp] theorem hwr_lamps (off : Nat) (v : Word) (s : State) : (hwr off v s).lamps = s.lamps := rfl
@[simp] theorem hwr_caps (off : Nat) (v : Word) (s : State) : (hwr off v s).caps = s.caps := rfl
@[simp] theorem hwr_stamps (off : Nat) (v : Word) (s : State) : (hwr off v s).stamps = s.stamps := rfl
@[simp] theorem hwr_evf (off : Nat) (v : Word) (s : State) : (hwr off v s).evf = s.evf := rfl
@[simp] theorem hwr_paths (off : Nat) (v : Word) (s : State) : (hwr off v s).paths = s.paths := rfl
@[simp] theorem hwr_pathS (off : Nat) (v : Word) (s : State) : (hwr off v s).pathS = s.pathS := rfl
@[simp] theorem hwr_slots (off : Nat) (v : Word) (s : State) : (hwr off v s).slots = s.slots := rfl
@[simp] theorem hwr_live (off : Nat) (v : Word) (s : State) : (hwr off v s).live = s.live := rfl
@[simp] theorem hwr_agc (off : Nat) (v : Word) (s : State) : (hwr off v s).agc = s.agc := rfl
@[simp] theorem hwr_energyAt (off : Nat) (v : Word) (s : State) : (hwr off v s).energyAt = s.energyAt := rfl
@[simp] theorem hwr_intake (off : Nat) (v : Word) (s : State) : (hwr off v s).intake = s.intake := rfl
@[simp] theorem hwr_syns (off : Nat) (v : Word) (s : State) : (hwr off v s).syns = s.syns := rfl
@[simp] theorem hwr_txs (off : Nat) (v : Word) (s : State) : (hwr off v s).txs = s.txs := rfl
@[simp] theorem hwr_ops (off : Nat) (v : Word) (s : State) : (hwr off v s).ops = s.ops := rfl
@[simp] theorem hwr_coexIn (off : Nat) (v : Word) (s : State) : (hwr off v s).coexIn = s.coexIn := rfl
@[simp] theorem hwr_uses (off : Nat) (v : Word) (s : State) : (hwr off v s).uses = s.uses := rfl
@[simp] theorem hwr_mac (off : Nat) (v : Word) (s : State) : (hwr off v s).mac = s.mac := rfl
@[simp] theorem hwr_pkt (off : Nat) (v : Word) (s : State) : (hwr off v s).pkt = s.pkt := rfl
@[simp] theorem hwr_air (off : Nat) (v : Word) (s : State) : (hwr off v s).air = s.air := rfl
@[simp] theorem hwr_cipher (off : Nat) (v : Word) (s : State) : (hwr off v s).cipher = s.cipher := rfl
@[simp] theorem hwr_ctx (off : Nat) (v : Word) (s : State) : (hwr off v s).ctx = s.ctx := rfl
@[simp] theorem hwr_nodes (off : Nat) (v : Word) (s : State) : (hwr off v s).nodes = s.nodes := rfl
@[simp] theorem hwr_chain (off : Nat) (v : Word) (s : State) : (hwr off v s).chain = s.chain := rfl
@[simp] theorem hwr_linkR (off : Nat) (v : Word) (s : State) : (hwr off v s).linkR = s.linkR := rfl
@[simp] theorem hwr_keeper (off : Nat) (v : Word) (s : State) : (hwr off v s).keeper = s.keeper := rfl
@[simp] theorem hwr_hlatch (off : Nat) (v : Word) (s : State) : (hwr off v s).hlatch = s.hlatch := rfl
@[simp] theorem hwr_regWas (off : Nat) (v : Word) (s : State) : (hwr off v s).regWas = s.regWas := rfl
@[simp] theorem hwr_hregWas (off : Nat) (v : Word) (s : State) : (hwr off v s).hregWas = s.hregWas := rfl
@[simp] theorem hwr_hguard (off : Nat) (v : Word) (s : State) : (hwr off v s).hguard = s.hguard := rfl
@[simp] theorem hwr_guardAge (off : Nat) (v : Word) (s : State) : (hwr off v s).guardAge = s.guardAge := rfl
@[simp] theorem hwr_hguardAge (off : Nat) (v : Word) (s : State) : (hwr off v s).hguardAge = s.hguardAge := rfl
@[simp] theorem hwr_reqMem (off : Nat) (v : Word) (s : State) : (hwr off v s).reqMem = s.reqMem := rfl
@[simp] theorem hwr_rspMem (off : Nat) (v : Word) (s : State) : (hwr off v s).rspMem = s.rspMem := rfl
@[simp] theorem hwr_linkH (off : Nat) (v : Word) (s : State) : (hwr off v s).linkH = s.linkH := rfl
@[simp] theorem hwr_tender (off : Nat) (v : Word) (s : State) : (hwr off v s).tender = s.tender := rfl
@[simp] theorem hwr_flash (off : Nat) (v : Word) (s : State) : (hwr off v s).flash = s.flash := rfl
@[simp] theorem hwr_settings (off : Nat) (v : Word) (s : State) : (hwr off v s).settings = s.settings := rfl
@[simp] theorem hwr_boot (off : Nat) (v : Word) (s : State) : (hwr off v s).boot = s.boot := rfl
@[simp] theorem hwr_age (off : Nat) (v : Word) (s : State) : (hwr off v s).age = s.age := rfl
@[simp] theorem hwr_image (off : Nat) (v : Word) (s : State) : (hwr off v s).image = s.image := rfl
@[simp] theorem hwr_power (off : Nat) (v : Word) (s : State) : (hwr off v s).power = s.power := rfl
@[simp] theorem hwr_rtc (off : Nat) (v : Word) (s : State) : (hwr off v s).rtc = s.rtc := rfl
@[simp] theorem hwr_tag (off : Nat) (v : Word) (s : State) : (hwr off v s).tag = s.tag := rfl
@[simp] theorem hwr_taps (off : Nat) (v : Word) (s : State) : (hwr off v s).taps = s.taps := rfl

@[simp] theorem hsetF_pending (off hi lo v : Nat) (s : State) : (hsetF off hi lo v s).pending = s.pending := rfl
@[simp] theorem hsetF_free (off hi lo v : Nat) (s : State) : (hsetF off hi lo v s).free = s.free := rfl
@[simp] theorem hsetF_lastRead (off hi lo v : Nat) (s : State) : (hsetF off hi lo v s).lastRead = s.lastRead := rfl
@[simp] theorem hsetF_reg (off hi lo v : Nat) (s : State) : (hsetF off hi lo v s).reg = s.reg := rfl
@[simp] theorem hsetF_shadow (off hi lo v : Nat) (s : State) : (hsetF off hi lo v s).shadow = s.shadow := rfl
@[simp] theorem hsetF_latch (off hi lo v : Nat) (s : State) : (hsetF off hi lo v s).latch = s.latch := rfl
@[simp] theorem hsetF_guard (off hi lo v : Nat) (s : State) : (hsetF off hi lo v s).guard = s.guard := rfl
@[simp] theorem hsetF_ntb (off hi lo v : Nat) (s : State) : (hsetF off hi lo v s).ntb = s.ntb := rfl
@[simp] theorem hsetF_lamps (off hi lo v : Nat) (s : State) : (hsetF off hi lo v s).lamps = s.lamps := rfl
@[simp] theorem hsetF_caps (off hi lo v : Nat) (s : State) : (hsetF off hi lo v s).caps = s.caps := rfl
@[simp] theorem hsetF_stamps (off hi lo v : Nat) (s : State) : (hsetF off hi lo v s).stamps = s.stamps := rfl
@[simp] theorem hsetF_evf (off hi lo v : Nat) (s : State) : (hsetF off hi lo v s).evf = s.evf := rfl
@[simp] theorem hsetF_paths (off hi lo v : Nat) (s : State) : (hsetF off hi lo v s).paths = s.paths := rfl
@[simp] theorem hsetF_pathS (off hi lo v : Nat) (s : State) : (hsetF off hi lo v s).pathS = s.pathS := rfl
@[simp] theorem hsetF_slots (off hi lo v : Nat) (s : State) : (hsetF off hi lo v s).slots = s.slots := rfl
@[simp] theorem hsetF_live (off hi lo v : Nat) (s : State) : (hsetF off hi lo v s).live = s.live := rfl
@[simp] theorem hsetF_agc (off hi lo v : Nat) (s : State) : (hsetF off hi lo v s).agc = s.agc := rfl
@[simp] theorem hsetF_energyAt (off hi lo v : Nat) (s : State) : (hsetF off hi lo v s).energyAt = s.energyAt := rfl
@[simp] theorem hsetF_intake (off hi lo v : Nat) (s : State) : (hsetF off hi lo v s).intake = s.intake := rfl
@[simp] theorem hsetF_syns (off hi lo v : Nat) (s : State) : (hsetF off hi lo v s).syns = s.syns := rfl
@[simp] theorem hsetF_txs (off hi lo v : Nat) (s : State) : (hsetF off hi lo v s).txs = s.txs := rfl
@[simp] theorem hsetF_ops (off hi lo v : Nat) (s : State) : (hsetF off hi lo v s).ops = s.ops := rfl
@[simp] theorem hsetF_coexIn (off hi lo v : Nat) (s : State) : (hsetF off hi lo v s).coexIn = s.coexIn := rfl
@[simp] theorem hsetF_uses (off hi lo v : Nat) (s : State) : (hsetF off hi lo v s).uses = s.uses := rfl
@[simp] theorem hsetF_mac (off hi lo v : Nat) (s : State) : (hsetF off hi lo v s).mac = s.mac := rfl
@[simp] theorem hsetF_pkt (off hi lo v : Nat) (s : State) : (hsetF off hi lo v s).pkt = s.pkt := rfl
@[simp] theorem hsetF_air (off hi lo v : Nat) (s : State) : (hsetF off hi lo v s).air = s.air := rfl
@[simp] theorem hsetF_cipher (off hi lo v : Nat) (s : State) : (hsetF off hi lo v s).cipher = s.cipher := rfl
@[simp] theorem hsetF_ctx (off hi lo v : Nat) (s : State) : (hsetF off hi lo v s).ctx = s.ctx := rfl
@[simp] theorem hsetF_nodes (off hi lo v : Nat) (s : State) : (hsetF off hi lo v s).nodes = s.nodes := rfl
@[simp] theorem hsetF_chain (off hi lo v : Nat) (s : State) : (hsetF off hi lo v s).chain = s.chain := rfl
@[simp] theorem hsetF_linkR (off hi lo v : Nat) (s : State) : (hsetF off hi lo v s).linkR = s.linkR := rfl
@[simp] theorem hsetF_keeper (off hi lo v : Nat) (s : State) : (hsetF off hi lo v s).keeper = s.keeper := rfl
@[simp] theorem hsetF_hlatch (off hi lo v : Nat) (s : State) : (hsetF off hi lo v s).hlatch = s.hlatch := rfl
@[simp] theorem hsetF_regWas (off hi lo v : Nat) (s : State) : (hsetF off hi lo v s).regWas = s.regWas := rfl
@[simp] theorem hsetF_hregWas (off hi lo v : Nat) (s : State) : (hsetF off hi lo v s).hregWas = s.hregWas := rfl
@[simp] theorem hsetF_hguard (off hi lo v : Nat) (s : State) : (hsetF off hi lo v s).hguard = s.hguard := rfl
@[simp] theorem hsetF_guardAge (off hi lo v : Nat) (s : State) : (hsetF off hi lo v s).guardAge = s.guardAge := rfl
@[simp] theorem hsetF_hguardAge (off hi lo v : Nat) (s : State) : (hsetF off hi lo v s).hguardAge = s.hguardAge := rfl
@[simp] theorem hsetF_reqMem (off hi lo v : Nat) (s : State) : (hsetF off hi lo v s).reqMem = s.reqMem := rfl
@[simp] theorem hsetF_rspMem (off hi lo v : Nat) (s : State) : (hsetF off hi lo v s).rspMem = s.rspMem := rfl
@[simp] theorem hsetF_linkH (off hi lo v : Nat) (s : State) : (hsetF off hi lo v s).linkH = s.linkH := rfl
@[simp] theorem hsetF_tender (off hi lo v : Nat) (s : State) : (hsetF off hi lo v s).tender = s.tender := rfl
@[simp] theorem hsetF_flash (off hi lo v : Nat) (s : State) : (hsetF off hi lo v s).flash = s.flash := rfl
@[simp] theorem hsetF_settings (off hi lo v : Nat) (s : State) : (hsetF off hi lo v s).settings = s.settings := rfl
@[simp] theorem hsetF_boot (off hi lo v : Nat) (s : State) : (hsetF off hi lo v s).boot = s.boot := rfl
@[simp] theorem hsetF_age (off hi lo v : Nat) (s : State) : (hsetF off hi lo v s).age = s.age := rfl
@[simp] theorem hsetF_image (off hi lo v : Nat) (s : State) : (hsetF off hi lo v s).image = s.image := rfl
@[simp] theorem hsetF_power (off hi lo v : Nat) (s : State) : (hsetF off hi lo v s).power = s.power := rfl
@[simp] theorem hsetF_rtc (off hi lo v : Nat) (s : State) : (hsetF off hi lo v s).rtc = s.rtc := rfl
@[simp] theorem hsetF_tag (off hi lo v : Nat) (s : State) : (hsetF off hi lo v s).tag = s.tag := rfl
@[simp] theorem hsetF_taps (off hi lo v : Nat) (s : State) : (hsetF off hi lo v s).taps = s.taps := rfl

@[simp] theorem hsetB_pending (off i : Nat) (b : Bool) (s : State) : (hsetB off i b s).pending = s.pending := rfl
@[simp] theorem hsetB_free (off i : Nat) (b : Bool) (s : State) : (hsetB off i b s).free = s.free := rfl
@[simp] theorem hsetB_lastRead (off i : Nat) (b : Bool) (s : State) : (hsetB off i b s).lastRead = s.lastRead := rfl
@[simp] theorem hsetB_reg (off i : Nat) (b : Bool) (s : State) : (hsetB off i b s).reg = s.reg := rfl
@[simp] theorem hsetB_shadow (off i : Nat) (b : Bool) (s : State) : (hsetB off i b s).shadow = s.shadow := rfl
@[simp] theorem hsetB_latch (off i : Nat) (b : Bool) (s : State) : (hsetB off i b s).latch = s.latch := rfl
@[simp] theorem hsetB_guard (off i : Nat) (b : Bool) (s : State) : (hsetB off i b s).guard = s.guard := rfl
@[simp] theorem hsetB_ntb (off i : Nat) (b : Bool) (s : State) : (hsetB off i b s).ntb = s.ntb := rfl
@[simp] theorem hsetB_lamps (off i : Nat) (b : Bool) (s : State) : (hsetB off i b s).lamps = s.lamps := rfl
@[simp] theorem hsetB_caps (off i : Nat) (b : Bool) (s : State) : (hsetB off i b s).caps = s.caps := rfl
@[simp] theorem hsetB_stamps (off i : Nat) (b : Bool) (s : State) : (hsetB off i b s).stamps = s.stamps := rfl
@[simp] theorem hsetB_evf (off i : Nat) (b : Bool) (s : State) : (hsetB off i b s).evf = s.evf := rfl
@[simp] theorem hsetB_paths (off i : Nat) (b : Bool) (s : State) : (hsetB off i b s).paths = s.paths := rfl
@[simp] theorem hsetB_pathS (off i : Nat) (b : Bool) (s : State) : (hsetB off i b s).pathS = s.pathS := rfl
@[simp] theorem hsetB_slots (off i : Nat) (b : Bool) (s : State) : (hsetB off i b s).slots = s.slots := rfl
@[simp] theorem hsetB_live (off i : Nat) (b : Bool) (s : State) : (hsetB off i b s).live = s.live := rfl
@[simp] theorem hsetB_agc (off i : Nat) (b : Bool) (s : State) : (hsetB off i b s).agc = s.agc := rfl
@[simp] theorem hsetB_energyAt (off i : Nat) (b : Bool) (s : State) : (hsetB off i b s).energyAt = s.energyAt := rfl
@[simp] theorem hsetB_intake (off i : Nat) (b : Bool) (s : State) : (hsetB off i b s).intake = s.intake := rfl
@[simp] theorem hsetB_syns (off i : Nat) (b : Bool) (s : State) : (hsetB off i b s).syns = s.syns := rfl
@[simp] theorem hsetB_txs (off i : Nat) (b : Bool) (s : State) : (hsetB off i b s).txs = s.txs := rfl
@[simp] theorem hsetB_ops (off i : Nat) (b : Bool) (s : State) : (hsetB off i b s).ops = s.ops := rfl
@[simp] theorem hsetB_coexIn (off i : Nat) (b : Bool) (s : State) : (hsetB off i b s).coexIn = s.coexIn := rfl
@[simp] theorem hsetB_uses (off i : Nat) (b : Bool) (s : State) : (hsetB off i b s).uses = s.uses := rfl
@[simp] theorem hsetB_mac (off i : Nat) (b : Bool) (s : State) : (hsetB off i b s).mac = s.mac := rfl
@[simp] theorem hsetB_pkt (off i : Nat) (b : Bool) (s : State) : (hsetB off i b s).pkt = s.pkt := rfl
@[simp] theorem hsetB_air (off i : Nat) (b : Bool) (s : State) : (hsetB off i b s).air = s.air := rfl
@[simp] theorem hsetB_cipher (off i : Nat) (b : Bool) (s : State) : (hsetB off i b s).cipher = s.cipher := rfl
@[simp] theorem hsetB_ctx (off i : Nat) (b : Bool) (s : State) : (hsetB off i b s).ctx = s.ctx := rfl
@[simp] theorem hsetB_nodes (off i : Nat) (b : Bool) (s : State) : (hsetB off i b s).nodes = s.nodes := rfl
@[simp] theorem hsetB_chain (off i : Nat) (b : Bool) (s : State) : (hsetB off i b s).chain = s.chain := rfl
@[simp] theorem hsetB_linkR (off i : Nat) (b : Bool) (s : State) : (hsetB off i b s).linkR = s.linkR := rfl
@[simp] theorem hsetB_keeper (off i : Nat) (b : Bool) (s : State) : (hsetB off i b s).keeper = s.keeper := rfl
@[simp] theorem hsetB_hlatch (off i : Nat) (b : Bool) (s : State) : (hsetB off i b s).hlatch = s.hlatch := rfl
@[simp] theorem hsetB_regWas (off i : Nat) (b : Bool) (s : State) : (hsetB off i b s).regWas = s.regWas := rfl
@[simp] theorem hsetB_hregWas (off i : Nat) (b : Bool) (s : State) : (hsetB off i b s).hregWas = s.hregWas := rfl
@[simp] theorem hsetB_hguard (off i : Nat) (b : Bool) (s : State) : (hsetB off i b s).hguard = s.hguard := rfl
@[simp] theorem hsetB_guardAge (off i : Nat) (b : Bool) (s : State) : (hsetB off i b s).guardAge = s.guardAge := rfl
@[simp] theorem hsetB_hguardAge (off i : Nat) (b : Bool) (s : State) : (hsetB off i b s).hguardAge = s.hguardAge := rfl
@[simp] theorem hsetB_reqMem (off i : Nat) (b : Bool) (s : State) : (hsetB off i b s).reqMem = s.reqMem := rfl
@[simp] theorem hsetB_rspMem (off i : Nat) (b : Bool) (s : State) : (hsetB off i b s).rspMem = s.rspMem := rfl
@[simp] theorem hsetB_linkH (off i : Nat) (b : Bool) (s : State) : (hsetB off i b s).linkH = s.linkH := rfl
@[simp] theorem hsetB_tender (off i : Nat) (b : Bool) (s : State) : (hsetB off i b s).tender = s.tender := rfl
@[simp] theorem hsetB_flash (off i : Nat) (b : Bool) (s : State) : (hsetB off i b s).flash = s.flash := rfl
@[simp] theorem hsetB_settings (off i : Nat) (b : Bool) (s : State) : (hsetB off i b s).settings = s.settings := rfl
@[simp] theorem hsetB_boot (off i : Nat) (b : Bool) (s : State) : (hsetB off i b s).boot = s.boot := rfl
@[simp] theorem hsetB_age (off i : Nat) (b : Bool) (s : State) : (hsetB off i b s).age = s.age := rfl
@[simp] theorem hsetB_image (off i : Nat) (b : Bool) (s : State) : (hsetB off i b s).image = s.image := rfl
@[simp] theorem hsetB_power (off i : Nat) (b : Bool) (s : State) : (hsetB off i b s).power = s.power := rfl
@[simp] theorem hsetB_rtc (off i : Nat) (b : Bool) (s : State) : (hsetB off i b s).rtc = s.rtc := rfl
@[simp] theorem hsetB_tag (off i : Nat) (b : Bool) (s : State) : (hsetB off i b s).tag = s.tag := rfl
@[simp] theorem hsetB_taps (off i : Nat) (b : Bool) (s : State) : (hsetB off i b s).taps = s.taps := rfl

@[simp] theorem drawFree_pending (s : State) : (drawFree s).pending = s.pending := rfl
@[simp] theorem drawFree_lastRead (s : State) : (drawFree s).lastRead = s.lastRead := rfl
@[simp] theorem drawFree_reg (s : State) : (drawFree s).reg = s.reg := rfl
@[simp] theorem drawFree_shadow (s : State) : (drawFree s).shadow = s.shadow := rfl
@[simp] theorem drawFree_latch (s : State) : (drawFree s).latch = s.latch := rfl
@[simp] theorem drawFree_guard (s : State) : (drawFree s).guard = s.guard := rfl
@[simp] theorem drawFree_ntb (s : State) : (drawFree s).ntb = s.ntb := rfl
@[simp] theorem drawFree_lamps (s : State) : (drawFree s).lamps = s.lamps := rfl
@[simp] theorem drawFree_caps (s : State) : (drawFree s).caps = s.caps := rfl
@[simp] theorem drawFree_stamps (s : State) : (drawFree s).stamps = s.stamps := rfl
@[simp] theorem drawFree_evf (s : State) : (drawFree s).evf = s.evf := rfl
@[simp] theorem drawFree_paths (s : State) : (drawFree s).paths = s.paths := rfl
@[simp] theorem drawFree_pathS (s : State) : (drawFree s).pathS = s.pathS := rfl
@[simp] theorem drawFree_slots (s : State) : (drawFree s).slots = s.slots := rfl
@[simp] theorem drawFree_live (s : State) : (drawFree s).live = s.live := rfl
@[simp] theorem drawFree_agc (s : State) : (drawFree s).agc = s.agc := rfl
@[simp] theorem drawFree_energyAt (s : State) : (drawFree s).energyAt = s.energyAt := rfl
@[simp] theorem drawFree_intake (s : State) : (drawFree s).intake = s.intake := rfl
@[simp] theorem drawFree_syns (s : State) : (drawFree s).syns = s.syns := rfl
@[simp] theorem drawFree_txs (s : State) : (drawFree s).txs = s.txs := rfl
@[simp] theorem drawFree_ops (s : State) : (drawFree s).ops = s.ops := rfl
@[simp] theorem drawFree_coexIn (s : State) : (drawFree s).coexIn = s.coexIn := rfl
@[simp] theorem drawFree_uses (s : State) : (drawFree s).uses = s.uses := rfl
@[simp] theorem drawFree_mac (s : State) : (drawFree s).mac = s.mac := rfl
@[simp] theorem drawFree_pkt (s : State) : (drawFree s).pkt = s.pkt := rfl
@[simp] theorem drawFree_air (s : State) : (drawFree s).air = s.air := rfl
@[simp] theorem drawFree_cipher (s : State) : (drawFree s).cipher = s.cipher := rfl
@[simp] theorem drawFree_ctx (s : State) : (drawFree s).ctx = s.ctx := rfl
@[simp] theorem drawFree_nodes (s : State) : (drawFree s).nodes = s.nodes := rfl
@[simp] theorem drawFree_chain (s : State) : (drawFree s).chain = s.chain := rfl
@[simp] theorem drawFree_linkR (s : State) : (drawFree s).linkR = s.linkR := rfl
@[simp] theorem drawFree_keeper (s : State) : (drawFree s).keeper = s.keeper := rfl
@[simp] theorem drawFree_hreg (s : State) : (drawFree s).hreg = s.hreg := rfl
@[simp] theorem drawFree_hlatch (s : State) : (drawFree s).hlatch = s.hlatch := rfl
@[simp] theorem drawFree_regWas (s : State) : (drawFree s).regWas = s.regWas := rfl
@[simp] theorem drawFree_hregWas (s : State) : (drawFree s).hregWas = s.hregWas := rfl
@[simp] theorem drawFree_hguard (s : State) : (drawFree s).hguard = s.hguard := rfl
@[simp] theorem drawFree_guardAge (s : State) : (drawFree s).guardAge = s.guardAge := rfl
@[simp] theorem drawFree_hguardAge (s : State) : (drawFree s).hguardAge = s.hguardAge := rfl
@[simp] theorem drawFree_reqMem (s : State) : (drawFree s).reqMem = s.reqMem := rfl
@[simp] theorem drawFree_rspMem (s : State) : (drawFree s).rspMem = s.rspMem := rfl
@[simp] theorem drawFree_linkH (s : State) : (drawFree s).linkH = s.linkH := rfl
@[simp] theorem drawFree_tender (s : State) : (drawFree s).tender = s.tender := rfl
@[simp] theorem drawFree_flash (s : State) : (drawFree s).flash = s.flash := rfl
@[simp] theorem drawFree_settings (s : State) : (drawFree s).settings = s.settings := rfl
@[simp] theorem drawFree_boot (s : State) : (drawFree s).boot = s.boot := rfl
@[simp] theorem drawFree_age (s : State) : (drawFree s).age = s.age := rfl
@[simp] theorem drawFree_image (s : State) : (drawFree s).image = s.image := rfl
@[simp] theorem drawFree_power (s : State) : (drawFree s).power = s.power := rfl
@[simp] theorem drawFree_rtc (s : State) : (drawFree s).rtc = s.rtc := rfl
@[simp] theorem drawFree_tag (s : State) : (drawFree s).tag = s.tag := rfl
@[simp] theorem drawFree_taps (s : State) : (drawFree s).taps = s.taps := rfl

end Sys2Proof.Machine
end

