-- ==== Sys2Proof/Laws/Tab.lean ====
section
/-! SUPPORT. The laws of sparse tables: read after write, and that every write keeps the canonical form. -/

namespace Sys2Proof.Machine

theorem tabFind_erase_same {α : Type} (t : Tab α) (k : Nat) : tabFind (tabErase t k) k = none := by
  induction t with
  | nil => rfl
  | cons p t ih =>
    obtain ⟨a, v⟩ := p
    by_cases h : a = k
    · simpa [tabErase, h] using ih
    · simpa [tabErase, h, tabFind] using ih

theorem tabFind_erase_other {α : Type} (t : Tab α) {k j : Nat} (hj : j ≠ k) :
    tabFind (tabErase t k) j = tabFind t j := by
  induction t with
  | nil => rfl
  | cons p t ih =>
    obtain ⟨a, v⟩ := p
    have ih' : tabFind (t.filter (fun p => p.1 != k)) j = tabFind t j := ih
    by_cases h : a = k
    · subst h
      simp [tabErase, tabFind, ih', Ne.symm hj]
    · by_cases h2 : a = j
      · subst h2
        simp [tabErase, h, tabFind]
      · simp [tabErase, h, tabFind, h2, ih']

theorem tabFind_insert {α : Type} (t : Tab α) (k j : Nat) (v : α) (h : tabFind t k = none) :
    tabFind (tabInsert t k v) j = if k = j then some v else tabFind t j := by
  induction t with
  | nil => simp [tabInsert, tabFind]
  | cons p t ih =>
    obtain ⟨a, w⟩ := p
    have hak : a ≠ k := by
      intro hc
      simp [tabFind, hc] at h
    have ht : tabFind t k = none := by simpa [tabFind, hak] using h
    have ih' := ih ht
    by_cases hlt : k < a
    · simp [tabInsert, hlt, tabFind]
    · by_cases haj : a = j
      · subst haj
        simp [tabInsert, hlt, tabFind, Ne.symm hak]
      · simp [tabInsert, hlt, tabFind, haj, ih']

/-- A read after a write of the same key gives the value written. -/
@[simp] theorem tabGet_set_same {α : Type} [DecidableEq α] (d : Nat → α) (t : Tab α) (k : Nat) (v : α) :
    tabGet d (tabSet d t k v) k = v := by
  by_cases h : v = d k
  · simp [tabSet, tabGet, h, tabFind_erase_same]
  · simp [tabSet, tabGet, h, tabFind_insert _ _ _ _ (tabFind_erase_same t k)]

/-- A write leaves every other key as it reads. -/
theorem tabGet_set_other {α : Type} [DecidableEq α] (d : Nat → α) (t : Tab α) {k j : Nat} (v : α) (h : j ≠ k) :
    tabGet d (tabSet d t k v) j = tabGet d t j := by
  by_cases hv : v = d k
  · simp [tabSet, tabGet, hv, tabFind_erase_other t h]
  · simp [tabSet, tabGet, hv, tabFind_insert _ _ _ _ (tabFind_erase_same t k), tabFind_erase_other t h, Ne.symm h]

theorem tabRising_mono {α : Type} {lo lo' : Nat} (t : Tab α) (h : lo' ≤ lo) (hr : tabRising lo t = true) :
    tabRising lo' t = true := by
  cases t with
  | nil => rfl
  | cons p t =>
    obtain ⟨a, v⟩ := p
    simp only [tabRising, Bool.and_eq_true, decide_eq_true_eq] at hr ⊢
    exact ⟨Nat.le_trans h hr.1, hr.2⟩

theorem tabRising_erase {α : Type} (t : Tab α) (k : Nat) : ∀ lo, tabRising lo t = true → tabRising lo (tabErase t k) = true := by
  induction t with
  | nil => intro lo _; rfl
  | cons p t ih =>
    obtain ⟨a, v⟩ := p
    intro lo h
    simp only [tabRising, Bool.and_eq_true, decide_eq_true_eq] at h
    have ih' := ih (a + 1) h.2
    by_cases hk : a = k
    · have : tabErase ((a, v) :: t) k = tabErase t k := by simp [tabErase, hk]
      rw [this]
      exact tabRising_mono _ (by omega) ih'
    · have : tabErase ((a, v) :: t) k = (a, v) :: tabErase t k := by simp [tabErase, hk]
      rw [this]
      simp only [tabRising, Bool.and_eq_true, decide_eq_true_eq]
      exact ⟨h.1, ih'⟩

theorem tabRising_insert {α : Type} (t : Tab α) (k : Nat) (v : α) (hn : tabFind t k = none) :
    ∀ lo, lo ≤ k → tabRising lo t = true → tabRising lo (tabInsert t k v) = true := by
  induction t with
  | nil => intro lo h _; simp [tabInsert, tabRising, h]
  | cons p t ih =>
    obtain ⟨a, w⟩ := p
    intro lo h hr
    simp only [tabRising, Bool.and_eq_true, decide_eq_true_eq] at hr
    have hak : a ≠ k := by
      intro hc
      simp [tabFind, hc] at hn
    have ht : tabFind t k = none := by simpa [tabFind, hak] using hn
    by_cases hlt : k < a
    · simp only [tabInsert, hlt, if_true, tabRising, Bool.and_eq_true, decide_eq_true_eq]
      exact ⟨h, by omega, hr.2⟩
    · simp only [tabInsert, hlt, if_false, tabRising, Bool.and_eq_true, decide_eq_true_eq]
      exact ⟨hr.1, ih ht (a + 1) (by omega) hr.2⟩

theorem tabInsert_all {α : Type} (f : Nat × α → Bool) (t : Tab α) (k : Nat) (v : α) :
    (tabInsert t k v).all f = (f (k, v) && t.all f) := by
  induction t with
  | nil => simp [tabInsert]
  | cons p t ih =>
    obtain ⟨a, w⟩ := p
    by_cases hlt : k < a
    · simp [tabInsert, hlt]
    · simp only [tabInsert, hlt, if_false, List.all_cons, ih]
      cases f (a, w) <;> cases f (k, v) <;> simp

/-- A write keeps the canonical form. -/
theorem tabSet_wf {α : Type} [DecidableEq α] (d : Nat → α) (t : Tab α) (k : Nat) (v : α) (h : tabWf d t = true) :
    tabWf d (tabSet d t k v) = true := by
  simp only [tabWf, Bool.and_eq_true] at h ⊢
  have hall : (tabErase t k).all (fun p => !decide (p.2 = d p.1)) = true := by
    rw [List.all_eq_true] at h ⊢
    intro p hp
    exact h.2 p (List.mem_filter.mp hp).1
  by_cases hv : v = d k
  · simp only [tabSet, hv, if_true]
    exact ⟨tabRising_erase t k 0 h.1, hall⟩
  · simp only [tabSet, hv, if_false]
    refine ⟨tabRising_insert _ k v (tabFind_erase_same t k) 0 (Nat.zero_le _) (tabRising_erase t k 0 h.1), ?_⟩
    rw [tabInsert_all]
    simp only [Bool.and_eq_true]
    exact ⟨by simp [hv], hall⟩

/-- Writing bytes keeps the canonical form. -/
theorem tabWriteBytes_wf (d : Nat → Byte) (bs : List Byte) :
    ∀ (t : Tab Byte) (a : Nat), tabWf d t = true → tabWf d (tabWriteBytes d t a bs) = true := by
  induction bs with
  | nil => intro t a h; exact h
  | cons b bs ih => intro t a h; exact ih _ _ (tabSet_wf d t a b h)

/-- Bytes written leave every address outside them as it reads. -/
theorem tabGet_writeBytes_other (d : Nat → Byte) (bs : List Byte) :
    ∀ (t : Tab Byte) (a j : Nat), j < a ∨ a + bs.length ≤ j → tabGet d (tabWriteBytes d t a bs) j = tabGet d t j := by
  induction bs with
  | nil => intro t a j _; rfl
  | cons b bs ih =>
    intro t a j h
    simp only [List.length_cons] at h
    simp only [tabWriteBytes]
    rw [ih _ _ _ (by omega), tabGet_set_other d t b (by omega)]

end Sys2Proof.Machine
end

