-- ==== Sys2Proof/Laws/Regs.lean ====
section
/-! SUPPORT. The laws of registers: a read after a write, bits and fields of a word after one of them is set. -/

namespace Sys2Proof.Machine

/-! ### Words -/

theorem bitOf_withBit (w : Word) {i j : Nat} (b : Bool) (h : j < 32) :
    bitOf (withBit w i b) j = if j = i then b else bitOf w j := by
  have hp : (BitVec.ofNat 32 (2 ^ i)).getLsbD j = decide (j = i) := by
    rw [BitVec.getLsbD_ofNat, Nat.testBit_two_pow]
    simp [h, eq_comm]
  unfold bitOf withBit
  cases b
  · simp only [Bool.false_eq_true, if_false, BitVec.getLsbD_and, BitVec.getLsbD_not, hp, h, decide_true, Bool.true_and]
    by_cases hij : j = i <;> simp [hij]
  · simp only [if_true, BitVec.getLsbD_or, hp]
    by_cases hij : j = i <;> simp [hij]

@[simp] theorem bitOf_withBit_same (w : Word) (i : Nat) (b : Bool) (h : i < 32) : bitOf (withBit w i b) i = b := by
  simp [bitOf_withBit w b h]

theorem bitOf_withBit_other (w : Word) {i j : Nat} (b : Bool) (h : j < 32) (hn : j ≠ i) :
    bitOf (withBit w i b) j = bitOf w j := by
  simp [bitOf_withBit w b h, hn]

theorem testBit_fieldOf (w : Word) (hi lo k : Nat) :
    (fieldOf w hi lo).testBit k = (decide (k < hi + 1 - lo) && bitOf w (lo + k)) := by
  unfold fieldOf bitOf
  rw [Nat.testBit_mod_two_pow, Nat.testBit_shiftRight]
  rfl

theorem bitOf_maskOf (hi lo j : Nat) (h : j < 32) :
    (maskOf hi lo).getLsbD j = decide (lo ≤ j ∧ j < lo + (hi + 1 - lo)) := by
  unfold maskOf
  rw [BitVec.getLsbD_ofNat, Nat.testBit_shiftLeft, Nat.testBit_two_pow_sub_one]
  simp only [h, decide_true, Bool.true_and]
  by_cases h1 : lo ≤ j
  · simp [h1]
    omega
  · simp [h1]

theorem bitOf_withField (w : Word) (hi lo v j : Nat) (h : j < 32) :
    bitOf (withField w hi lo v) j = if lo ≤ j ∧ j < lo + (hi + 1 - lo) then v.testBit (j - lo) else bitOf w j := by
  unfold withField bitOf
  simp only [BitVec.getLsbD_or, BitVec.getLsbD_and, BitVec.getLsbD_not, BitVec.getLsbD_shiftLeft, BitVec.getLsbD_ofNat, bitOf_maskOf hi lo j h, h]
  by_cases hc : lo ≤ j ∧ j < lo + (hi + 1 - lo)
  · have : ¬ j < lo := by omega
    have h2 : j - lo < 32 := by omega
    simp [hc, this, h2]
  · simp [hc]

theorem fieldOf_withField (w : Word) (hi lo v : Nat) (h : hi < 32) :
    fieldOf (withField w hi lo v) hi lo = v % 2 ^ (hi + 1 - lo) := by
  apply Nat.eq_of_testBit_eq
  intro k
  rw [testBit_fieldOf, Nat.testBit_mod_two_pow]
  by_cases hk : k < hi + 1 - lo
  · have h1 : lo + k < 32 := by omega
    simp [hk, bitOf_withField w hi lo v (lo + k) h1]
  · simp [hk]

theorem fieldOf_withField_other (w : Word) {hi lo hi' lo' : Nat} (v : Nat) (h : hi' < 32) (hd : hi' < lo ∨ hi < lo') :
    fieldOf (withField w hi lo v) hi' lo' = fieldOf w hi' lo' := by
  apply Nat.eq_of_testBit_eq
  intro k
  rw [testBit_fieldOf, testBit_fieldOf]
  by_cases hk : k < hi' + 1 - lo'
  · have h1 : lo' + k < 32 := by omega
    have h2 : ¬ (lo ≤ lo' + k ∧ lo' + k < lo + (hi + 1 - lo)) := by omega
    simp [hk, bitOf_withField w hi lo v (lo' + k) h1, h2]
  · simp [hk]

theorem bitOf_withField_other (w : Word) {hi lo i : Nat} (v : Nat) (h : i < 32) (hd : i < lo ∨ hi < i) :
    bitOf (withField w hi lo v) i = bitOf w i := by
  rw [bitOf_withField w hi lo v i h, if_neg (by omega)]

theorem fieldOf_withBit_other (w : Word) {i hi lo : Nat} (b : Bool) (h : hi < 32) (hd : hi < i ∨ i < lo) :
    fieldOf (withBit w i b) hi lo = fieldOf w hi lo := by
  apply Nat.eq_of_testBit_eq
  intro k
  rw [testBit_fieldOf, testBit_fieldOf]
  by_cases hk : k < hi + 1 - lo
  · have h1 : lo + k < 32 := by omega
    simp [hk, bitOf_withBit_other w b h1 (show lo + k ≠ i by omega)]
  · simp [hk]

/-! ### Registers of the radio die -/

@[simp] theorem rd_wr_same (s : State) (off : Nat) (v : Word) : rd (wr off v s) off = v := by simp [rd, wr]

theorem rd_wr_other (s : State) {off o : Nat} (v : Word) (h : o ≠ off) : rd (wr off v s) o = rd s o := by
  simp [rd, wr, tabGet_set_other _ _ _ h]

theorem rd_wr (s : State) (off o : Nat) (v : Word) : rd (wr off v s) o = if o = off then v else rd s o := by
  by_cases h : o = off
  · subst h; simp
  · simp [h, rd_wr_other s v h]

theorem rd_setB_other (s : State) {off o : Nat} (i : Nat) (b : Bool) (h : o ≠ off) : rd (setB off i b s) o = rd s o :=
  rd_wr_other s _ h

theorem rd_setF_other (s : State) {off o : Nat} (hi lo v : Nat) (h : o ≠ off) : rd (setF off hi lo v s) o = rd s o :=
  rd_wr_other s _ h

@[simp] theorem rd_setB_same (s : State) (off i : Nat) (b : Bool) : rd (setB off i b s) off = withBit (rd s off) i b := by
  simp [setB]

@[simp] theorem rd_setF_same (s : State) (off hi lo v : Nat) : rd (setF off hi lo v s) off = withField (rd s off) hi lo v := by
  simp [setF]

@[simp] theorem rd_hwr (s : State) (off o : Nat) (v : Word) : rd (hwr off v s) o = rd s o := rfl

/-! ### Registers of the host die -/

@[simp] theorem hrd_hwr_same (s : State) (off : Nat) (v : Word) : hrd (hwr off v s) off = v := by simp [hrd, hwr]

theorem hrd_hwr_other (s : State) {off o : Nat} (v : Word) (h : o ≠ off) : hrd (hwr off v s) o = hrd s o := by
  simp [hrd, hwr, tabGet_set_other _ _ _ h]

theorem hrd_hwr (s : State) (off o : Nat) (v : Word) : hrd (hwr off v s) o = if o = off then v else hrd s o := by
  by_cases h : o = off
  · subst h; simp
  · simp [h, hrd_hwr_other s v h]

@[simp] theorem hrd_wr (s : State) (off o : Nat) (v : Word) : hrd (wr off v s) o = hrd s o := rfl

@[simp] theorem hrd_hsetB_same (s : State) (off i : Nat) (b : Bool) : hrd (hsetB off i b s) off = withBit (hrd s off) i b := by
  simp [hsetB]

@[simp] theorem hrd_hsetF_same (s : State) (off hi lo v : Nat) : hrd (hsetF off hi lo v s) off = withField (hrd s off) hi lo v := by
  simp [hsetF]

theorem hrd_hsetB_other (s : State) {off o : Nat} (i : Nat) (b : Bool) (h : o ≠ off) : hrd (hsetB off i b s) o = hrd s o :=
  hrd_hwr_other s _ h

theorem hrd_hsetF_other (s : State) {off o : Nat} (hi lo v : Nat) (h : o ≠ off) : hrd (hsetF off hi lo v s) o = hrd s o :=
  hrd_hwr_other s _ h

end Sys2Proof.Machine
end

