-- ==== Sys2Proof/Laws/Ops.lean ====
section
/-! SUPPORT. What the shared operations can change: sources, messages, events, the trouble log, interrupts, time, apply units and guarded
pairs. Each lemma says once what is left as it was. -/

namespace Sys2Proof.Machine

/-! ### Sources and messages -/

/-- A source changes nothing but the fabric. -/
theorem raiseSrc_only (n : Nat) (s : State) : { raiseSrc n s with evf := s.evf } = s := by
  unfold raiseSrc
  simp only
  split <;> rfl

@[simp] theorem raiseSrc_reg (n : Nat) (s : State) : (raiseSrc n s).reg = s.reg := by
  have := congrArg State.reg (raiseSrc_only n s); exact this

@[simp] theorem rd_raiseSrc (n : Nat) (s : State) (o : Nat) : rd (raiseSrc n s) o = rd s o := by simp [rd]

@[simp] theorem raiseSrc_hreg (n : Nat) (s : State) : (raiseSrc n s).hreg = s.hreg := by
  have := congrArg State.hreg (raiseSrc_only n s); exact this

@[simp] theorem raiseSrc_guard (n : Nat) (s : State) : (raiseSrc n s).guard = s.guard := by
  have := congrArg State.guard (raiseSrc_only n s); exact this

@[simp] theorem raiseSrc_shadow (n : Nat) (s : State) : (raiseSrc n s).shadow = s.shadow := by
  have := congrArg State.shadow (raiseSrc_only n s); exact this

@[simp] theorem raiseSrc_ntb (n : Nat) (s : State) : (raiseSrc n s).ntb = s.ntb := by
  have := congrArg State.ntb (raiseSrc_only n s); exact this

/-- A message of the radio end changes nothing but its link end. -/
theorem sendR_only (typ : Nat) (p : List Byte) (s : State) : { sendR typ p s with linkR := s.linkR } = s := rfl

@[simp] theorem sendR_reg (typ : Nat) (p : List Byte) (s : State) : (sendR typ p s).reg = s.reg := rfl

@[simp] theorem rd_sendR (typ : Nat) (p : List Byte) (s : State) (o : Nat) : rd (sendR typ p s) o = rd s o := rfl

/-- An event message goes to the link end, or waits in the Keeper. -/
theorem sendEvent_only (m : List Byte) (s : State) : { sendEvent m s with linkR := s.linkR, keeper := s.keeper } = s := by
  unfold sendEvent
  split
  · rfl
  · split <;> rfl

@[simp] theorem sendEvent_reg (m : List Byte) (s : State) : (sendEvent m s).reg = s.reg := by
  have := congrArg State.reg (sendEvent_only m s); exact this

/-- A trouble-log entry changes the log, its two registers and the link end. -/
theorem logWrite_only (source code : Nat) (args : List Byte) (s : State) :
    { logWrite source code args s with linkR := s.linkR, keeper := s.keeper, reg := s.reg } = s := by
  unfold logWrite
  simp only
  split <;> rfl

theorem rd_logWrite (source code : Nat) (args : List Byte) (s : State) {o : Nat} (h : o ≠ 0xC0020) (h' : o ≠ 0xC0024) :
    rd (logWrite source code args s) o = rd s o := by
  unfold logWrite
  simp only
  split <;> simp [rd_wr, h, h'] <;> rfl

theorem sendEvent_eq (m : List Byte) (s : State) : ∃ l k, sendEvent m s = { s with linkR := l, keeper := k } := by
  unfold sendEvent
  split
  · exact ⟨_, _, rfl⟩
  · split <;> exact ⟨_, _, rfl⟩

theorem logWrite_eq (source code : Nat) (args : List Byte) (s : State) :
    ∃ l k r, logWrite source code args s = { s with linkR := l, keeper := k, reg := r } := by
  unfold logWrite
  simp only
  split <;> exact ⟨_, _, _, rfl⟩

/-- An event of the radio die changes the link end, the Keeper and the log's registers. -/
theorem raiseEvtAt_eq (t step source code : Nat) (args : List Byte) (s : State) :
    ∃ l k r, raiseEvtAt t step source code args s = { s with linkR := l, keeper := k, reg := r } := by
  unfold raiseEvtAt
  simp only
  obtain ⟨l, k, h⟩ := sendEvent_eq (eventMsg code 30 0 0 s.keeper.evSeq t step (devOf s) args)
    { s with keeper := { s.keeper with evSeq := (s.keeper.evSeq + 1) % 2 ^ 32 } }
  rw [h]
  obtain ⟨l', k', r', h'⟩ := logWrite_eq source code args { s with linkR := l, keeper := k }
  exact ⟨l', k', r', h'⟩

theorem rd_raiseEvtAt (t step source code : Nat) (args : List Byte) (s : State) {o : Nat} (h : o ≠ 0xC0020) (h' : o ≠ 0xC0024) :
    rd (raiseEvtAt t step source code args s) o = rd s o := by
  unfold raiseEvtAt
  simp only
  rw [rd_logWrite _ _ _ _ h h']
  simp [rd]

theorem raiseEvt_eq (source code : Nat) (args : List Byte) (s : State) :
    ∃ l k r, raiseEvt source code args s = { s with linkR := l, keeper := k, reg := r } := raiseEvtAt_eq ..

theorem rd_raiseEvt (source code : Nat) (args : List Byte) (s : State) {o : Nat} (h : o ≠ 0xC0020) (h' : o ≠ 0xC0024) :
    rd (raiseEvt source code args s) o = rd s o := rd_raiseEvtAt _ _ _ _ _ _ h h'

@[simp] theorem raiseEvt_guard (source code : Nat) (args : List Byte) (s : State) : (raiseEvt source code args s).guard = s.guard := by
  obtain ⟨l, k, r, h⟩ := raiseEvt_eq source code args s
  rw [h]

@[simp] theorem raiseEvt_shadow (source code : Nat) (args : List Byte) (s : State) : (raiseEvt source code args s).shadow = s.shadow := by
  obtain ⟨l, k, r, h⟩ := raiseEvt_eq source code args s
  rw [h]

/-! ### Time -/

/-- Core clocks change the time base, the age, the registers as they stood a clock before and the slew flag of NTB_STATUS, and
nothing else. -/
theorem clocks_only (n : Nat) (s : State) :
    { clocks n s with age := s.age, ntb := s.ntb, reg := s.reg, regWas := s.regWas, hregWas := s.hregWas } = s := by
  unfold clocks plainClocks endSlew
  simp only
  repeat' split
  all_goals rfl

theorem plainClocks_reg (n : Nat) (s : State) : (plainClocks n s).reg = s.reg := by
  unfold plainClocks
  simp only
  repeat' split
  all_goals rfl

theorem rd_endSlew (s : State) {o : Nat} (h : o ≠ 0x20024) : rd (endSlew s) o = rd s o :=
  rd_setB_other (s := { s with ntb := { s.ntb with slew := 0, slewLeft := 0 } }) 4 false h

theorem rd_clocks (n : Nat) (s : State) {o : Nat} (h : o ≠ 0x20024) : rd (clocks n s) o = rd s o := by
  unfold clocks
  split
  · simp [rd, plainClocks_reg]
  · split
    · simp [rd, plainClocks_reg]
    · have := rd_endSlew (plainClocks (slewClocks s) s) h
      simp only [rd, plainClocks_reg] at this ⊢
      exact this

/-! ### Interrupts of the host die -/

/-- An interrupt source changes host registers and posts at most a message. -/
theorem irq_only (n : Nat) (s : State) : { irq n s with hreg := s.hreg, tender := s.tender } = s := by
  unfold irq vectorPend post
  simp only
  repeat' split
  all_goals rfl

@[simp] theorem irq_reg (n : Nat) (s : State) : (irq n s).reg = s.reg := by
  have := congrArg State.reg (irq_only n s); exact this

/-! ### Guarded pairs -/

theorem guardFaultR_guard (cause off : Nat) (s : State) : (guardFaultR cause off s).guard = s.guard := by
  unfold guardFaultR
  simp only
  split <;> simp [incSat]

/-- A write to a twin in time: the exact complement of the pending value acts, any other write is a fault. -/
theorem guardTwinR_match (off : Nat) (v : Word) (effect : Nat → Word → State → State) (s : State) (h : s.guard = some (off, v))
    (t : guardInTimeR s = true) : guardTwinR off (~~~v) effect s = effect off v { s with guard := none } := by
  simp [guardTwinR, h, t]

end Sys2Proof.Machine
end

