-- ==== Sys2Proof/Machine/Balls.lean ====
section
/-! DEFINITION. The ball grid (R6, R477, R499-R504): which domain a site belongs to, what each ball carries, its type, its supply and its
state in reset. -/

namespace Sys2Proof.Machine

/-- The supply and ground nets (R501, R503). -/
inductive Net where
  | vddCore | vddSram | vddRf | vddAdc | vddRf18 | vddMr | vddIoA | vddIoB | vss
  | vddhCore | vddhIo | vddhPcie09 | vddhPcie18 | vbat | vssh
  /-- the tag's coil and the RTC's crystal have supplies of their own (R502) -/
  | field | rtcDomain
deriving DecidableEq, Repr

/-- The type of a signal ball; differential pairs and pulls are marked (R500, R502). -/
inductive BallType where
  | analogIn | analogOut | input | output | inOut | openDrain
deriving DecidableEq, Repr

/-- What a ball does while its die is in reset and until its block is first enabled (R477). -/
inductive BallReset where
  | input | low | high | highZ | driverOff | zeroVolt | silent | ignored | sense | oscillating | byTag | byPcie
deriving DecidableEq, Repr

/-- A signal ball. -/
structure Ball where
  name : String
  type : BallType
  supply : Net
  reset : BallReset
  /-- one of a differential pair -/
  pair : Bool := false
  /-- internal 50 kOhm pull: up, down or none -/
  pull : Option Bool := none
deriving DecidableEq, Repr

/-- A site of the grid. -/
inductive Site where
  /-- the moat and the depopulated sites: no pad -/
  | none
  | signal (b : Ball)
  | power (n : Net)
deriving DecidableEq, Repr

/-- Signal balls side by side: their row index and first column. -/
structure BallRun where
  row : Nat
  col : Nat
  balls : List Ball
deriving DecidableEq, Repr

/-- Balls that differ in their names alone. -/
def ballsLike (t : BallType) (n : Net) (r : BallReset) (names : List String) : List Ball :=
  names.map (fun x => { name := x, type := t, supply := n, reset := r })

/-- Numbered balls. -/
def ballsNumbered (t : BallType) (n : Net) (r : BallReset) (stem : String) (first count : Nat) : List Ball :=
  ballsLike t n r ((List.range count).map (fun i => stem ++ toString (first + i)))

/-- A ball of a differential pair alone in its row. -/
def pairBall (row col : Nat) (t : BallType) (n : Net) (r : BallReset) (name : String) : BallRun :=
  { row := row, col := col, balls := [{ name := name, type := t, supply := n, reset := r, pair := true }] }

/-- The analog balls of the radio domain (R500). -/
def radioAnalog : List BallRun :=
  [pairBall 2 1 .analogIn .vddRf .input "RFIN_A_P", pairBall 3 1 .analogIn .vddRf .input "RFIN_A_N",
   pairBall 5 1 .analogIn .vddRf .input "RFIN_B_P", pairBall 6 1 .analogIn .vddRf .input "RFIN_B_N",
   pairBall 8 1 .analogIn .vddRf .input "RFS_P", pairBall 9 1 .analogIn .vddRf .input "RFS_N",
   pairBall 11 1 .analogIn .vddRf .input "RFIN_C_P", pairBall 12 1 .analogIn .vddRf .input "RFIN_C_N",
   pairBall 14 1 .analogIn .vddRf .input "RFIN_D_P", pairBall 15 1 .analogIn .vddRf .input "RFIN_D_N",
   pairBall 17 1 .analogOut .vddRf18 .driverOff "RFOUT_A_P", pairBall 18 1 .analogOut .vddRf18 .driverOff "RFOUT_A_N",
   pairBall 20 1 .analogOut .vddRf18 .driverOff "RFOUT_B_P", pairBall 21 1 .analogOut .vddRf18 .driverOff "RFOUT_B_N",
   ⟨3, 3, ballsLike .analogOut .vddRf18 .zeroVolt ["PABIAS_A", "PABIAS_B"]⟩,
   ⟨19, 8, [⟨"VSENSE_CORE", .analogOut, .vddCore, .sense, true, none⟩, ⟨"VSENSE_GND", .analogOut, .vss, .sense, true, none⟩]⟩,
   ⟨20, 3, ballsLike .analogIn .vddRf18 .input ["XO_IN"]⟩,
   ⟨22, 4, [⟨"MRE_P", .inOut, .vddMr, .silent, true, none⟩, ⟨"MRE_N", .inOut, .vddMr, .silent, true, none⟩]⟩,
   ⟨22, 8, [⟨"MRW_P", .inOut, .vddMr, .silent, true, none⟩, ⟨"MRW_N", .inOut, .vddMr, .silent, true, none⟩]⟩]

/-- The digital balls of the radio domain (R500). -/
def radioDigital : List BallRun :=
  [⟨1, 3, ballsNumbered .output .vddIoB .low "FE_A" 0 6 ++ ballsNumbered .output .vddIoB .low "FE_B" 0 6⟩,
   ⟨2, 3, ballsNumbered .output .vddIoB .low "FE_C" 0 6 ++ ballsNumbered .output .vddIoB .low "FE_D" 0 6⟩,
   ⟨3, 5, ballsLike .inOut .vddIoB .low ["COEX_REQ", "COEX_PRI"] ++ ballsLike .input .vddIoB .ignored ["COEX_GNT"] ++
     ballsLike .output .vddIoB .low ["COEX_STAT"] ++ ballsNumbered .output .vddIoB .low "LAMP" 0 8⟩,
   ⟨19, 3, [⟨"TCK_RD", .input, .vddIoA, .input, false, none⟩, ⟨"TMS_RD", .input, .vddIoA, .input, false, some true⟩,
     ⟨"TDI_RD", .input, .vddIoA, .input, false, some true⟩, ⟨"TDO_RD", .output, .vddIoA, .highZ, false, none⟩,
     ⟨"TRST_RD_N", .input, .vddIoA, .input, false, some false⟩]⟩,
   ⟨20, 5, ballsLike .output .vddIoA .high ["TCXO_EN"] ++ ballsLike .input .vddIoA .input ["PPS_IN"] ++
     ballsNumbered .input .vddIoA .input "CAP" 0 4 ++ ballsLike .openDrain .vddIoA .highZ ["PMB_SCL", "PMB_SDA"] ++
     ballsLike .input .vddIoA .input ["PMB_ALERT"] ++ [⟨"RRESET_N", .input, .vddIoA, .input, false, some true⟩]⟩]

/-- The signal balls of the host domain (R502). -/
def hostSignals : List BallRun :=
  [pairBall 2 26 .output .vddhPcie09 .byPcie "PCIE_TXP0", pairBall 3 26 .output .vddhPcie09 .byPcie "PCIE_TXN0",
   pairBall 5 26 .output .vddhPcie09 .byPcie "PCIE_TXP1", pairBall 6 26 .output .vddhPcie09 .byPcie "PCIE_TXN1",
   pairBall 8 26 .input .vddhPcie09 .byPcie "PCIE_RXP0", pairBall 9 26 .input .vddhPcie09 .byPcie "PCIE_RXN0",
   pairBall 11 26 .input .vddhPcie09 .byPcie "PCIE_RXP1", pairBall 12 26 .input .vddhPcie09 .byPcie "PCIE_RXN1",
   pairBall 14 26 .input .vddhPcie18 .input "PCIE_REFCLK_P", pairBall 15 26 .input .vddhPcie18 .input "PCIE_REFCLK_N",
   ⟨2, 24, ballsLike .input .vddhIo .input ["PERST_N"]⟩,
   ⟨1, 21, ballsLike .input .vddhIo .input ["SPI_CS_N", "SPI_SCK"] ++ ballsNumbered .inOut .vddhIo .highZ "SPI_IO" 0 2⟩,
   ⟨2, 21, ballsNumbered .inOut .vddhIo .highZ "SPI_IO" 2 2 ++ ballsLike .output .vddhIo .highZ ["SPI_IRQ_N"]⟩,
   ⟨3, 21, ballsLike .output .vddhIo .high ["UART_TX"] ++ ballsLike .input .vddhIo .input ["UART_RX"] ++
     [⟨"RESET_N", .input, .vddhIo, .input, false, some true⟩] ++ ballsLike .output .vddhIo .byTag ["TAG_FD"]⟩,
   ⟨4, 21, (ballsLike .input .vddhIo .input ["STRAP_HOSTIF", "STRAP_BOOT0", "STRAP_BOOT1", "STRAP_BOOT2"]).map
     (fun b => { b with pull := some false })⟩,
   ⟨17, 21, [⟨"TCK_HD", .input, .vddhIo, .input, false, none⟩, ⟨"TMS_HD", .input, .vddhIo, .input, false, some true⟩,
     ⟨"TDI_HD", .input, .vddhIo, .input, false, some true⟩, ⟨"TDO_HD", .output, .vddhIo, .highZ, false, none⟩]⟩,
   ⟨18, 21, [⟨"TRST_HD_N", .input, .vddhIo, .input, false, some false⟩]⟩,
   ⟨18, 23, ballsLike .analogIn .vddhCore .oscillating ["XH_IN"] ++ ballsLike .analogOut .vddhCore .oscillating ["XH_OUT"]⟩,
   pairBall 17 26 .analogIn .field .byTag "TAG_LA", pairBall 18 26 .analogIn .field .byTag "TAG_LB",
   ⟨20, 26, ballsLike .analogIn .rtcDomain .oscillating ["XRTC_IN"]⟩, ⟨21, 26, ballsLike .analogOut .rtcDomain .oscillating ["XRTC_OUT"]⟩]

/-- The signal at a site, if it carries one. -/
def signalAt (runs : List BallRun) (row col : Nat) : Option Ball :=
  match runs.find? (fun r => r.row == row && decide (r.col ≤ col) && decide (col < r.col + r.balls.length)) with
  | some r => r.balls[col - r.col]?
  | none => none

/-- The checkerboard: an even sum takes the first net. -/
def checker (row col : Nat) (a b : Net) : Net := if (row + col) % 2 = 0 then a else b

/-- The net of a radio-domain ball that carries no signal (R501); rows by index. -/
def radioNet (row col : Nat) : Net :=
  if col ≤ 2 then .vss
  else if row ≤ 2 then .vddIoB
  else if 4 ≤ row ∧ row ≤ 18 then
    if col = 3 ∨ col = 5 then (if row ≤ 8 then .vddRf else if row ≤ 13 then .vddAdc else .vddRf18)
    else if 7 ≤ col ∧ col ≤ 14 then
      (if row ≤ 9 then checker row col .vddSram .vss else if row ≤ 16 then checker row col .vddCore .vss else .vss)
    else .vss
  else if row = 19 then (if col = 10 then .vddIoA else .vss)
  else if row = 20 then (if 15 ≤ col then .vddIoA else .vss)
  else if (row = 21 ∨ row = 22) ∧ 11 ≤ col ∧ col ≤ 14 then .vddMr
  else .vss

/-- The net of a host-domain ball that carries no signal (R503). -/
def hostNet (row col : Nat) : Net :=
  if col = 20 then checker row col .vddhCore .vssh
  else if col = 25 then
    (if row = 2 ∨ row = 4 ∨ row = 6 ∨ row = 8 then .vddhPcie09
     else if row = 10 ∨ row = 12 then .vddhPcie18
     else if row = 14 ∨ row = 16 ∨ row = 18 then .vddhIo
     else if row = 20 then .vbat else .vssh)
  else if row = 5 ∧ (col = 21 ∨ col = 23) then .vddhIo
  else if (row = 19 ∧ (col = 21 ∨ col = 23)) ∨ (row = 20 ∧ (col = 22 ∨ col = 24)) ∨ (row = 21 ∧ (col = 21 ∨ col = 23)) then .vddhCore
  else .vssh

/-- The site at a row index of 1 to 22 and a column of 1 to 26 (R499): columns 17 and 18 are the moat, columns 21 to 24 of rows F to U
are depopulated. -/
def siteAt (row col : Nat) : Site :=
  if row = 0 ∨ 22 < row ∨ col = 0 ∨ 26 < col ∨ col = 17 ∨ col = 18 ∨ (6 ≤ row ∧ row ≤ 16 ∧ 21 ≤ col ∧ col ≤ 24) then .none
  else if col ≤ 16 then
    match signalAt (radioAnalog ++ radioDigital) row col with
    | some b => .signal b
    | none => .power (radioNet row col)
  else match signalAt hostSignals row col with
    | some b => .signal b
    | none => .power (hostNet row col)

/-- How many sites of a domain's columns pass a test. -/
def countSites (first last : Nat) (f : Site → Bool) : Nat :=
  ((List.range 22).map (fun r => ((List.range (last + 1 - first)).filter (fun c => f (siteAt (r + 1) (first + c)))).length)).sum

end Sys2Proof.Machine
end

