-- ==== Sys2Proof/Tests/Slice0.lean ====
section
/-! SUPPORT. Tests: ill-formed terms, worked examples of the spec, and a witness for the hypotheses of every obligation. -/

namespace Sys2Proof.Machine.Tests

set_option maxRecDepth 20000
set_option Elab.async false

/-! ### Well-formedness: an ill-formed command for each check -/

theorem test_wf_requestTooLong : (Instr.sysReset ⟨0, 30, 1, 0, List.replicate 4081 0⟩).wf = false := by decide
theorem test_wf_requestOfSize : (Instr.sysReset ⟨0, 30, 1, 0, [1, 0, 0, 0]⟩).wf = true := by decide
theorem test_wf_messageTooLong :
    BMsg.ok ⟨2, 0, 0, 0, 0, List.replicate 65536 0, 0⟩ = false := by
  show decide ((List.replicate 65536 (0 : Byte)).length < 65536) = false
  rw [List.length_replicate]; rfl
theorem test_wf_frameLengthDiffers :
    (Instr.hello ⟨0, 1, 1, 0x1F, 0, 3, 0, 0, 0, [1, 2], 0, 0, 0⟩).wf = false := by
  decide
theorem test_wf_tagBlockTooLong : (Instr.readPage (List.replicate 257 0)).wf = false := by decide
theorem test_wf_softTooLong : softOk (List.replicate 32829 0) = false := by
  show decide ((List.replicate 32829 (0 : Byte)).length ≤ 2 * (8 * 2051 + 6)) = false
  rw [List.length_replicate]; rfl
theorem test_wf_unalignedWrite : (Instr.registerWrite .radio 0x40000002 .b4 0).wf = false := by decide
theorem test_wf_alignedHalfWrite : (Instr.registerWrite .radio 0x40000002 .b2 0).wf = true := by decide
theorem test_wf_unalignedRead : (Instr.lowWordLatchRead .host 0x3001 .b2).wf = false := by decide
theorem test_wf_unalignedShadow : (Instr.shadowWrite 0x40050005 0).wf = false := by decide
theorem test_wf_unalignedFlash : (Instr.flashProgram 8 0 0).wf = false := by decide
theorem test_wf_noChannelFound : (Instr.syncMatch 0 []).wf = false := by decide
theorem test_wf_weakWordOutside : (Instr.blankCheckDone [512]).wf = false := by decide
theorem test_wf_loadsMissing : (Instr.loadWindow [1, 2]).wf = false := by decide
theorem test_wf_descriptorShort : (Instr.cphSubmit 0 [1]).wf = false := by decide

/-! ### The opcode table gives no bits -/

theorem test_table_has_no_bits : decodeTableWord 32 0x12345678 = none := by decide

/-! ### Worked examples of the spec: every expected value is the spec's own -/

/-- 02_register_conventions.md, R37: disabling MRW with a wrong complement leaves the port and records one MISMATCH. -/
theorem test_guard_mismatch_example :
    let s := mrPortDisable 1 0xFFFFFFFF { State.reset with guard := some (0xA8040, 1) }
    rd s 0x20 = 0x103 ∧ rd s 0x24 = 0xA8040 ∧ rd s 0xA8040 = rd State.reset 0xA8040 := by decide +kernel

/-- R38: with a mask that ignores bits [14:12] and [10:8] (R275), 0x400A1110 selects the register at 0x400A0010. -/
theorem test_alias_mooring : canonRadio 0x400A1110 = 0xA0010 := by decide

/-- 03_network_time.md, holdover: 20 ns, one hour at 50 ppb and 2 ppb a degree over 4 degrees give 208,820 ns. -/
theorem test_holdover_bound :
    let s := wr 0xD0000 16 (setF 0x20024 1 0 2 (setF 0x20024 3 2 1 State.reset))
    holdBound { s with ntb := { s.ntb with e0 := 20, fHalf := false, holdClk := 0, clk := 3600 * 655360000, holdTemp := 0 } } = 208820 := by decide +kernel

/-- 08_laone_frames.md, R170: the headers DA 80 04 and 02 00 B4 have HCRC 0x68 and 0x76. -/
theorem test_header_crcs : hcrc 0x0480DA = 0x68 ∧ hcrc 0xB40002 = 0x76 := by decide +kernel

/-- 08_laone_frames.md: whitening turns 19 00 2E into E6 E1 33. -/
theorem test_whitening : whiten [0x19, 0x00, 0x2E] = [0xE6, 0xE1, 0x33] := by decide +kernel

/-- 08_laone_frames.md, R175: an M0 presence frame takes 20.48 ms, a coded payload of 20 bytes 63.36 ms more, and the uplink of the
worked example 13,760 us. -/
theorem test_air_times :
    airNs 0 32 32 false 0 = 20480000 ∧ airNs 0 32 32 true 20 = 20480000 + 63360000 ∧ airNs 2 32 32 false 27 = 13760000 := by decide

/-- 09_medium_access.md: event 42 of the worked example is on CH15. -/
theorem test_event_channel : eventChannel 9 7 0xFFFF 42 = 15 := by decide

/-- The node of the worked example of 09_medium_access.md: CI 360,000, FITTED, temperatures in half degrees. -/
def hourly : Ctx :=
  { ci := 360000, u0 := 9, hop := 7, chmap := 0xFFFF, txOfs := 2000, phy := 2, pre := 4, tempOfs := 1, mstate := 1, f := 2500000, c := -40000,
    temp0 := 30, tempLast := 24, tlS := 3458415, tlNs := 250000000, jLast := 41 * 360000 }

/-- 09_medium_access.md: the prediction of event 42 is 3,462,015 s : 259,432,000 ns, its half-width 200 us, and its window opens at
3,462,015 s : 263,792,000 ns anchored. -/
theorem test_event_window :
    let s := setF 0x20024 1 0 1 State.reset
    let s := { s with mac := { s.mac with slotUs := 10000 } }
    let w := eventWindow s hourly {} 42 15 false
    predict s hourly (42 * 360000) = 3462015259432000 ∧ w.opens = 3462015263792000 ∧ w.dur = 400000 := by decide +kernel

/-- 10_node_contexts_and_placement.md, R238: node 0x0A1B2C starts on FRD12. -/
theorem test_first_frond : frondFor 0x0A1B2C = 12 := by decide

/-- 11_mooring.md, the worked exchange: MRW_CABLE_DLY reads 0x000249F0 and MRW_TIME_OFS 0x00001F40. -/
theorem test_time_exchange :
    let t := exchangeDone 1 (158 * 65536) (142 * 65536) 50 State.reset
    rd t 0xA8020 = 0x249F0 ∧ rd t 0xA8024 = 0x1F40 := by decide +kernel

/-- 04_receive_front_end.md: a peak of -2 dBFS takes path B from index 62 to 55. -/
theorem test_agc_blocker :
    let s := setB 0x31000 0 true (setF 0x31008 6 0 62 State.reset)
    rd (agcWindowEnd 1 (-200) 0 s) 0x31008 = 0x37 ∧ rd s 0x3100C = 0x0AC31806 := by decide +kernel

/-- 05_synthesisers_and_radio_states.md: with the base and raster of the example, 869,525,000 Hz lies in entry 373 of SYN2. -/
theorem test_calibration_entry : entryFor State.reset 2 869525000 = some 373 ∧ entryFor State.reset 2 868100000 = some 372 := by decide +kernel

/-- 07_transmit.md, R150: four carriers of code 132 on TX A give way by 9. -/
theorem test_power_excess : powerExcess State.reset 0 [132, 132, 132, 132] = 9 := by decide +kernel

/-- 11_mooring.md, the worked HELLO: the header of the frame that DEV 3 sends on MRE. -/
theorem test_hello_header :
    mrHeader { port := 0, cls := 1, typ := 1, dst := 0x1F, src := 3, len := 16, chainId := 0x0207, seq := 0x0A5C, ack := 0x0A51, payload := [], crc := 0 } =
      [0x01, 0x01, 0x1F, 0x03, 0x10, 0x00, 0x07, 0x02, 0x5C, 0x0A, 0x51, 0x0A] := by decide +kernel

/-- 13_cipher.md, the worked uplink MIC: 6 blocks, 232 core clocks. -/
theorem test_mic_clocks :
    let d := leBytes 4 0x00070D10 ++ leBytes 4 0x2C41 ++ leBytes 4 0x123420 ++ leBytes 4 0x00060011 ++ leBytes 4 0x123431 ++ leBytes 4 0x123431 ++
      leBytes 4 0x123437 ++ leBytes 20 0
    cipherBlocks d = 6 ∧ cipherClocks d (leBytes 16 0) = 232 := by decide +kernel

/-- 25_balls_and_package.md, the worked example: balls P11, K12, AA25, K16 and K19, and the depopulated site M22. -/
theorem test_balls_from_rules :
    siteAt 14 11 = .power .vss ∧ siteAt 10 12 = .power .vddCore ∧ siteAt 12 22 = .none ∧ siteAt 20 25 = .power .vbat ∧
      siteAt 10 16 = .power .vss ∧ siteAt 10 19 = .power .vssh := by decide +kernel

/-- 17_real_time_clock.md: a load of 29 February 2100 is refused, and the tick shows 23:59:58 on Sunday. -/
theorem test_rtc_no_leap_day :
    let s := hwr 0x5004 0x21000228 (hwr 0x5000 0x07235957 State.reset)
    let s := { hsetB 0x5010 0 false s with rtc := { s.rtc with stopped := false, tickDue := none } }
    let s := rtcLoad false (rtcShadowWrite false 0x120000 (rtcShadowWrite true 0x21000229 s))
    hrd s 0x5010 = 0x300 ∧ hrd (rtcTick s) 0x5000 = 0x07235958 ∧ hrd (rtcTick s) 0x5010 = 2 := by decide +kernel

/-- 17_real_time_clock.md: 28 February 2100 is followed by Monday, 1 March. -/
theorem test_rtc_march :
    let s := hwr 0x5004 0x21000228 (hwr 0x5000 0x07235959 State.reset)
    hrd (rtcAdvance s) 0x5004 = 0x21000301 ∧ hrd (rtcAdvance s) 0x5000 = 0x01000000 := by decide +kernel

/-! ### Published vectors of the algorithms that the spec names -/

/-- FIPS 197, appendix C.1 and C.3. -/
theorem test_aes_fips197 :
    aesEnc (roundKeys (List.range 16)) (List.map (fun i => 17 * i) (List.range 16)) =
      [0x69, 0xC4, 0xE0, 0xD8, 0x6A, 0x7B, 0x04, 0x30, 0xD8, 0xCD, 0xB7, 0x80, 0x70, 0xB4, 0xC5, 0x5A] ∧
    aesEnc (roundKeys (List.range 32)) (List.map (fun i => 17 * i) (List.range 16)) =
      [0x8E, 0xA2, 0xB7, 0xCA, 0x51, 0x67, 0x45, 0xBF, 0xEA, 0xFC, 0x49, 0x90, 0x4B, 0x49, 0x60, 0x89] := by decide +kernel

/-- The check value of CRC-32 over the digits 1 to 9. -/
theorem test_crc32_check : crc32 [0x31, 0x32, 0x33, 0x34, 0x35, 0x36, 0x37, 0x38, 0x39] = 0xCBF43926 := by decide +kernel

/-! ### The queue -/

theorem test_idle_steps : step State.reset = .next (idle State.reset) := rfl
theorem test_idle_advances_one_clock : (idle State.reset).ntb.clk = State.reset.ntb.clk + 1 := by decide +kernel
theorem test_front_first : ((match step { State.reset with pending := [.crystalStop, .crystalRestart] } with
    | .next t => t.rtc.stopped && t.pending == [.crystalRestart]
    | _ => false)) = true := by decide +kernel
theorem test_absent_address : (match exec (.lowWordLatchRead .radio 0x40100000 .b4) State.reset with
    | .fault (.noSuchAddress a) => a == 0x40100000
    | _ => false) = true := by decide +kernel

/-- R306: a byte of 8b/10b, the groups of the standard's table: D21.5 is balanced, D0.0 at negative disparity 100111 0100. -/
theorem test_lane_code : (code8b10b false 0xB5).1 = groupBits 10 0b1010101010 ∧ (code8b10b false 0x00).1 = groupBits 10 0b1001110100 := by decide

/-- R306: the bytes go round the lanes, lane 0 first; four lanes carry 2.0 Gbit/s of message bytes. -/
theorem test_lane_striping : laneBytes 4 1 [0, 1, 2, 3, 4, 5] = [1, 5] ∧ laneNs 4 1000 = 4000 := by decide

/-! ### States of the witnesses -/

def nz1 : State := setB 0x48008 1 true (setB 0x48008 0 true (wr 0x48000 1 State.reset))
def nzPend (o : Nat) (info : List Byte) (s : State) : State := { s with keeper := { s.keeper with pend := [{ tag := 7, opcode := o, target := 30, origin := 16, obj := 0, info := info }] } }
def nz4 : State := nzPend 0x0301 [5] State.reset
def nz7 : State := { State.reset with power := { State.reset.power with dead := true } }
def shW (o v : Nat) (s : State) : State := radioWrite o (BitVec.ofNat 32 v) s
def ab1 : State := shW 0x48008 0 (shW 0x48004 1 (shW 0x20064 12345 (shW 0x20044 1 (shW 0x20048 77 (shW 0x20050 5 (setB 0x20020 14 true (setB 0x20020 0 false State.reset)))))))
def ab2 : State := shW (lampBase 0 + 0x10) 7 (shW (lampBase 7 + 0x14) 9 (shW (mrBase 0 + 4) 3 (shW (mrBase 1 + 0xC) 44 (shW (txBase 1 + 4) 0x4000 (shW (opBase 0 + 4) 3 (shW (opBase 127 + 4) 2 ab1))))))
def ab3 : State := shW (chBase 0 + 0x1C) 2 (shW (chBase 63 + 8) 433000000 (shW (txBase 1 + 0x10) 6 (shW (lampBase 0 + 0x1C) 1 (setF 0x20020 13 12 0 (setF 0x20020 0 0 0 ab2)))))
def guLate : State := { State.reset with guard := some (0xC0040, 1), hguard := some (0x1040, 2), age := 10000 }
def guNow : State := { State.reset with guard := some (0xC0040, 1), hguard := some (0x1040, 2) }
def wT : State := { State.reset with ntb := { State.reset.ntb with net := 5 * secUnit + 12345 } }
def wSet : State := wr 0x20050 7 { wT with ntb := { wT.ntb with stepReady := 1 } }
def wStep : State := wr 0x20054 3 { wT with ntb := { wT.ntb with stepReady := 2 } }
def sP : State := { State.reset with ntb := { State.reset.ntb with net := 6 * secUnit + 12345, clk := 77 } }
def wA : State := { sP with ntb := { sP.ntb with armed := some 5 } }
def wA2 : State := { sP with ntb := { sP.ntb with ppsSec := some 5, ppsLast := some (5*secUnit,77) } }
def wA4 : State := { sP with ntb := { sP.ntb with ppsSec := some 5, ppsOut := 1, ppsLast := some (77,5) } }
def wA5 : State := setF 0x20024 3 0 9 { wA2 with ntb := { wA2.ntb with ppsQual := true } }
def wA6 : State := setF 0x20024 3 0 9 { wA5 with ntb := { wA5.ntb with mrQual := true, candidate := 1, mrOffset := -2000, mrAcc := 9 } }
def wA8 : State := setF 0x20024 3 0 10 sP
def wC2 : State := forAll [0,1,2,3,4] (fun i s => setF (capBase i + 0x14) 31 16 0xFFFF (wr (capBase i) (if i % 2 = 0 then 3 else 1) s)) State.reset
def lam (cfg st wid per : Nat) (s : State) : State := forAll (List.range 8) (fun n s => setLamp n { armed := true, next := st } (wr (lampBase n + 4) (BitVec.ofNat 32 cfg) (wr (lampBase n + 0x10) (BitVec.ofNat 32 st) (wr (lampBase n + 0x14) (BitVec.ofNat 32 wid) (wr (lampBase n + 0x18) (BitVec.ofNat 32 per) s))))) s
def wL1 : State := lam 1 500 100 0 State.reset
def wL5 : State := forAll (List.range 8) (fun n s => setLamp n { pulseEnd := some 100, pol := true, oneShot := n == 0 } s) (lam 3 500 9 0 State.reset)
def onPaths : State := forAll [0,1,2,3] (fun p s => setF (rxBase p + 4) 2 0 2 (wr (rxBase p) 1 (wr (rxBase p + 8) 60 s))) (wr 0x38004 868000000 (wr 0x34000 0xF1 State.reset))
def sat4 : State := forAll [0,1,2,3] (fun p s => setPath p { satSince := some 10 } s) onPaths
def sal : State := setF 0x34004 9 8 1 (setF 0x34004 6 4 2 (setF 0x34004 2 0 1 onPaths))
def sal2 : State := { sal with pathS := { sal.pathS with aligned := true } }
def ssub : State := setPath 2 { unsatSince := some 5 } (setF (rxBase 2 + 4) 2 0 3 (setF 0x34004 2 0 2 sal))
def scal : State := setF 0x34004 2 0 4 onPaths
def ssurv : State := setF 0x34004 6 4 7 (setF 0x34004 2 0 3 onPaths)
def conv : State := forAll [0,1,2,3] (fun p s => setB (rxBase p + 0x14) 8 true s) onPaths
def rt : State := { onPaths with pathS := { onPaths.pathS with retune := [(0, some 433000000), (1, some 868000000)] } }
def late9 : State := forAll [0,1,2,3] (fun p s => wr (rxBase p + 8) (if p = 1 then 83 else 40) s) { onPaths with ntb := { onPaths.ntb with clk := 10 ^ 9 } }
def satlim : State := wr 0x34018 0 sat4
def lck : State := forAll [0,1,2,3] (fun p s => wr (rxBase p) 0 (setF (rxBase p + 4) 2 0 0 s)) (wr 0x38008 433000000 (setF 0x41004 3 0 12 (setF 0x40004 3 0 12 onPaths)))
def synS (st : Nat) (s : State) : State := forAll [0,1,2,3] (fun n s => setSyn n { getSyn s n with target := 868000000 + n } (setF (synBase n + 4) 3 0 st s)) s
def tabE : Tab CalEntry := [(3, { valid := true, stale := false, temp := 40, draw := 3, freq := 868000000 }), (371, { valid := true, stale := true, temp := 2, draw := 1, freq := 5 })]
def withTab (s : State) : State := forAll [0,1,2,3] (fun n s => setSyn n { getSyn s n with table := tabE, work := [371] } s) (wr 0xD0000 100 (wr 0xD0008 0 s))
def syA : State := synS 12 State.reset
def syB : State := synS 2 State.reset
def syC : State := withTab (synS 3 State.reset)
def syD : State := forAll [0,1,2,3] (fun n s => setSyn n { getSyn s n with retried := true } s) syC
def syE : State := withTab (synS 12 (wr 0x42000 0x050F01 (wr 0x43000 0x050F01 State.reset)))
def syF : State := setB 0x6000C 0 true (setB 0x6400C 0 true (withTab (synS 1 State.reset)))
def syI : State := forAll [0,1] (fun n s => setF (synBase n + 0x18) 2 0 3 s) syC
def tx0 : State := setF 0x43004 3 0 12 (wr 0x43008 868000000 (setF 0x42004 3 0 12 (wr 0x42008 868000000 (wr 0x60008 1 (wr 0x64008 1 (wr 0x38004 868000000 (wr (chBase 5 + 8) 868000000 (wr (chBase 6 + 8) 900000000 (wr (chBase 7 + 8) 2000000000 State.reset)))))))))
def mkOp (n kind ch path : Nat) (s : State) : State :=
  setOpState n 2 (wr (opBase n + 0x20) 17 (wr (opBase n + 0x10) 10000000 (wr (opBase n + 0x18) 0x200005 (wr (opBase n + 4) (BitVec.ofNat 32 (kind + 64 * path + 256 * ch + 2 ^ 24 * 100 + 2 ^ 20 * 2)) s))))
def duo (n p : Nat) (x : OpRun → OpRun) (s : State) : State := setOp n (x { getOp s n with due := true, path := p, ramp := 16 }) s
def txB : State := mkOp 5 2 5 1 tx0
def txB3 : State := wr 0x60008 0 (wr 0x64008 0 txB)
def txD : State := duo 5 0 (fun x => { x with planned := true }) (mkOp 5 2 5 1 (setSyn 2 { getSyn tx0 2 with target := 868000000 } (setTx 0 { getTx tx0 0 with lo := 868000000 } tx0)))
def txD2 : State := setF 0x42004 3 0 2 txD
def txR : State := setB 0x6000C 0 true (setF 0x6000C 3 1 1 (setTx 0 { lo := 868000000 } (duo 5 0 (fun x => { x with radiating := true, stamp := 10000000, power := 100, endClk := 10 ^ 12 }) (setOpState 5 3 (mkOp 5 2 5 1 tx0)))))
def txR2 : State := duo 6 0 id (mkOp 6 2 5 1 txR)
def txR3 : State := duo 6 0 id (mkOp 6 2 6 1 txR)
def at10 (s : State) : State := { s with ntb := { s.ntb with net := 10000000 * nsUnit } }
def txR4 : State := at10 txR2
def txR5 : State := at10 txR3
def txM : State := wr 0x60240 1 (wr 0x60004 0x61008 txR)
def txM2 : State := wr 0x60240 1 (wr 0x60004 0x6100C txR)
def txH : State := duo 5 0 (fun x => { x with held := 1 }) (mkOp 5 2 5 1 tx0)
def txL : State := duo 5 0 id (mkOp 5 3 5 1 tx0)
def cqR (s : State) : State := wr 0x48000 0xD s
def cxArb2 : State := setB 0x48008 3 true (setB 0x48008 0 true (wr 0x48000 3 txD))
def cxDue : State := cqR txD
def idleOp (n kind : Nat) (s : State) : State := setOpState n 1 (mkOp n kind 5 1 s)
def oI : State := idleOp 5 2 (idleOp 6 0 (idleOp 120 1 tx0))
def oLate : State := { oI with ntb := { oI.ntb with net := 20000000 * nsUnit, anch := 20000000 * nsUnit } }
def oMark : State := mkOp 6 0 5 0 (mkOp 5 1 5 0 (mkOp 120 5 5 0 tx0))
def oWin : State := setOpState 5 3 (setOpState 120 3 (wr (opBase 5 + 0x14) 77 (wr (opBase 120 + 0x14) 33 oMark)))
def chOn (pol : Nat) (s : State) : State := forAll [0,3,63] (fun c s => wr (chBase c + 0x10) (BitVec.ofNat 32 (0x600 + pol)) (wr (chBase c + 0xC) 0xF30 (wr (chBase c + 8) 868000000 (wr (chBase c + 4) 0x61 s)))) (forAll [0,1,2,3] (fun p s => setF (rxBase p + 4) 2 0 2 (wr (rxBase p) 1 s)) (setB 0x40004 3 true (setB 0x41004 3 true (wr 0x38000 0x220 (wr 0x38008 868000000 (wr 0x38004 868000000 { State.reset with ntb := { State.reset.ntb with net := 6 * secUnit + 12345, clk := 10 ^ 8 } }))))))
def slotsAs (a b : Nat) (x y : Slot) (s : State) : State := forAll [0,3,63] (fun c s => setSlotState c 1 b (setSlotState c 0 a (setSlot c 1 y (setSlot c 0 x s)))) s
def sl (m seq len : Nat) (st : Bool) (bl : Nat) : Slot := { mode := m, rxseq := seq, header := 8 * len + m + 2 ^ 18, stepSeen := st, blocks := bl, stamp := 77, clk := 10 ^ 8 - 10 ^ 6 }
def at0 (s : State) : State := { s with ntb := { s.ntb with clk := 0 }, slots := s.slots.map (fun p => (p.1, { p.2 with clk := 0 })) }
def c0 : State := chOn 2 State.reset
def c1 (pol : Nat) : State := slotsAs 1 0 (sl 0 5 0 false 0) {} (chOn pol State.reset)
def c2 (pol : Nat) : State := slotsAs 2 0 (sl 0 5 3 false 0) {} (chOn pol State.reset)
def c2s (pol bl : Nat) : State := slotsAs 2 0 (sl 0 5 3 true bl) {} (chOn pol State.reset)
def c12 (pol : Nat) : State := slotsAs 1 2 (sl 0 5 0 true 0) { sl 3 6 0 true 0 with pendCapture := true } (chOn pol State.reset)
def c32 : State := slotsAs 3 2 { sl 0 5 3 true 4 with liveFailed := true } (sl 3 6 3 false 0) (chOn 2 State.reset)
def c3h (b : Bool) : State := let s := slotsAs 3 0 { sl 0 5 3 true 4 with liveFailed := true, captorEnd := some (b, 6), recClk := 10 ^ 8 - 10 ^ 6 } {} (chOn 2 State.reset)
  { s with ntb := { s.ntb with clk := 2 * 10 ^ 8 } }
def cPend : State := forAll [0,3,63] (fun c s => setB (chBase c) 8 true s) c0
def nd0 : State :=
  let s := { tx0 with ntb := { tx0.ntb with net := 1000 * secUnit, anch := 1000 * secUnit }, ctx := [(5, { addr := 0x0A1B2C, role := 1, ci := 360000, hop := 7, u0 := 9, chmap := 0xFFFF, phy := 2, pre := 4, key := leBytes 16 77, anchorS := 900, tlS := 1000, mstate := 0, supTo := 60, lastS := 1000, gen := 9, eui := 0x1122334455667788 }), (9, { addr := 0x55, role := 3, lastS := 1000, homeDev := 2, marginOwn := 17 })] }
  let s := { s with cipher := { s.cipher with slots := [(0, { valid := true, usage := 4, key := leBytes 32 5 }), (3, { valid := true, usage := 1, key := leBytes 16 9 }), (4, { valid := true, usage := 2, key := leBytes 16 11 })] } }
  wr 0x78044 0x1234 (wr 0x78010 0x7832050F (setB 0x78014 3 true (wr 0x78018 0x8685 s)))
def ndRel : State := setF 0x78034 5 4 1 (setF 0x78034 1 0 1 (wr 0x78030 0x12340001 { nd0 with mac := { nd0.mac with upNext := 999 * 1000000000, upBi := 16 } }))
def ndAck : State := { nd0 with nodes := { nd0.nodes with acks := [{ ctx := 5, ch := 5, mode := 2, fec := false, aseq := 2, start := 1001 * 1000000000 }] } }
def ndAck2 : State := { nd0 with nodes := { nd0.nodes with acks := [{ ctx := 9, ch := 5, mode := 2, fec := false, aseq := 2, start := 1001 * 1000000000 }] } }
def fullPool (s : State) : State :=
  let s := setF 0x78000 6 0 64 s
  { s with reg := s.reg.filter (fun p => decide (p.1 < 0x70000)) ++ (List.range 64).map (fun n => (opBase n + 0x28, 1)) ++
      s.reg.filter (fun p => decide (0x78000 ≤ p.1)) }
def ndFull : State := fullPool nd0
def ndLh : State := wr 0x78018 0x85 nd0
def ndB : State := { setB 0x78010 19 true nd0 with mac := { nd0.mac with beaconOn := true } }
def recUp (bs : List Byte) (hdr : Nat) (out : Nat) : RxRec :=
  { ch := 5, slot := 0, mode := 2, header := hdr + 8 * bs.length + 2 + 2 ^ 18, stamp := 1000 * secUnit, step := 0, anch := 1000 * secUnit, outcome := out, flags := 0x10000, rssi := 0xFE00, snr := 40, foff := 0, rxseq := 3, related := 0, payload := bs, crc := 0, soft := [] }
/-- A data frame of the node 0x0A1B2C with the counter `fc`, sealed under its key, as a byte string. -/
def goodUp (fc : Nat) : List Byte :=
  match fc with
  | 5 => [9, 0, 7, 52, 18, 255, 255, 255, 44, 27, 10, 0, 1, 5, 0, 0, 0, 75, 132, 2, 53, 48, 234, 136]
  | 48 => [9, 0, 7, 52, 18, 255, 255, 255, 44, 27, 10, 0, 1, 48, 0, 0, 0, 175, 123, 196, 97, 58, 39, 242]
  | 49 => [9, 0, 7, 52, 18, 255, 255, 255, 44, 27, 10, 0, 1, 49, 0, 0, 0, 18, 247, 144, 51, 23, 141, 226]
  | 50 => [9, 0, 7, 52, 18, 255, 255, 255, 44, 27, 10, 0, 1, 50, 0, 0, 0, 200, 209, 52, 247, 38, 66, 131]
  | 60 => [9, 0, 7, 52, 18, 255, 255, 255, 44, 27, 10, 0, 1, 60, 0, 0, 0, 6, 130, 164, 120, 52, 111, 132]
  | _ => []
def badUp : List Byte := (goodUp 5).take 20 ++ [9] ++ (goodUp 5).drop 21
def otherUp : List Byte := [9, 0, 7, 52, 18, 255, 255, 255, 45, 27, 10, 0, 1, 5, 0, 0, 0, 65, 44, 199, 33, 0, 142, 158]
def joinUp : List Byte := [12, 0, 7, 52, 18, 255, 255, 255, 255, 255, 255, 205, 171, 0, 0, 0, 0, 0, 0, 4, 1, 5, 0, 0, 0, 137, 150, 184, 19, 220, 232, 224]
def inS (r : RxRec) (s : State) : State := { s with intake := [r] }
def micS (k : MicKind) (r : RxRec) (s : State) : State := { s with nodes := { s.nodes with mics := [{ rx := r, bytes := r.payload, kind := k }] } }
def seenCtx (s : State) : State := setCtx 5 { getCtx s 5 with upCount := 3, upFcnt := 50, upWin := 1 } s
def upA : State := inS (recUp (goodUp 5) 0 0) nd0
def upC : State := inS (recUp otherUp 0 0) nd0
def upD : State := inS (recUp [1,2] 0 0) nd0
def upE : State := inS (recUp (goodUp 5) (2 ^ 20) 0) nd0
def upH : State := inS (recUp (goodUp 5) 0 2) nd0
def miA : State := micS (.node 5) (recUp (goodUp 5) 0 0) nd0
def miB : State := micS (.node 5) (recUp badUp 0 0) nd0
def miC (fc : Nat) : State := micS (.node 5) (recUp (goodUp fc) 0 0) (seenCtx nd0)
def miE : State := micS (.node 9) (recUp (goodUp 5) 0 0) nd0
def mfr (cls typ dst src seq : Nat) (p : List Byte) : MFrame :=
  let f : MFrame := { port := 0, cls := BitVec.ofNat 8 cls, typ := BitVec.ofNat 8 typ, dst := BitVec.ofNat 8 dst, src := BitVec.ofNat 8 src, len := BitVec.ofNat 16 p.length, chainId := 0, seq := BitVec.ofNat 16 seq, ack := 0, payload := p, crc := 0 }
  { f with crc := BitVec.ofNat 32 (crc32 (mrHeader f ++ p)) }
def linkUp (s : State) : State := wr 0xA001C 2 (wr 0xA0010 8 s)
def nl0 : State := linkUp nd0
def nlR : State := setB 0xA00C8 2 true nl0
def joinS : State := { nl0 with nodes := { nl0.nodes with joins := [{ eui := 0xABCD, reports := [(2, -40), (0, -30)], own := some (recUp joinUp 0 0, joinUp, [1,2,3]) }] } }
def dlOf : Downlink := { tag := 7, target := 0x1E, origin := 16, flags := 1, expires := some 900, data := [1,2] }
def pendDl (op : Nat) (s : State) : State := { s with keeper := { s.keeper with pend := [{ tag := 7, opcode := op, target := 30, origin := 16, obj := 5, info := [] }] } }
def dlS : State := pendDl 0x0601 (setRun 5 { dls := [dlOf] } nl0)
def wtS : State := pendDl 0x0501 { nl0 with nodes := { nl0.nodes with waits := [{ tag := 7, ctx := 5, eui := 0xABCD, jkey := 4, expires := some 800 }] } }
def rsS : State := setRun 9 { kept := [(3, recUp (goodUp 5) 0 1), (4, recUp (goodUp 5) 0 1)] } (setRun 5 { rescue := some { k := 3 } } nl0)
def rsS3 : State := setRun 9 { kept := [(3, recUp (goodUp 5) 0 1)] } nlR
def hm : Ctx := { addr := 0x0A1B2C, role := 1, ci := 360000, hop := 7, u0 := 9, chmap := 0xFFFF, phy := 2, pre := 4, key := leBytes 16 77, gen := 9, chalDev := 2, chalValid := true, chalRun := 2, chalMargin := 50, marginOwn := 30, dnFcnt := 5 }
def haS : State := setRun 5 { hand := some { dest := 2, k := 0 } } (setCtx 5 hm nl0)
def haT : State := setRun 5 { hand := some { dest := 2, k := 0, sent := true }, dls := [dlOf] } (setCtx 5 { hm with transit := true } nl0)
def haSR : State := setB 0xA00C8 2 true haS
def haTR : State := setB 0xA00C8 2 true haT
def haG : State := setCtx 5 { hm with role := 3, gen := 9, homeDev := 2 } nl0
def haR : State := setCtx 5 { hm with role := 2, gen := 9, homeDev := 2, ci := 0, lastS := 1000 } (setCtx 9 { addr := 0x55, role := 3, lastS := 990, homeDev := 2, marginOwn := 17 } nl0)
def mvS : State := { nl0 with nodes := { nl0.nodes with moves := [(5, 4)] } }
def mvB (c : Nat) : State := { mvS with ntb := { mvS.ntb with clk := c }, nodes := { mvS.nodes with moveClk := 5 }, cipher := { mvS.cipher with waiting := [(0, leBytes 48 261), (1, List.replicate 8 0 ++ leBytes 40 261), (2, List.replicate 4 0 ++ leBytes 44 261)] } }
def lostS : State := { nl0 with nodes := { nl0.nodes with lost := [(20, 0x0A1B2C, 1), (21, 0x99, 3)] } }
def both (g : Nat → State → State) (s : State) : State := g 1 (g 0 s)
def ls (v : Nat) (s : State) : State := both (fun p => setF (mrBase p + 0x10) 3 0 v) s
def mq : State := both (fun p => wr (mrBase p + 0x1C) 2) nd0
def mL (v : Nat) : State := ls v mq
def mLate (v : Nat) : State := { mL v with ntb := { (mL v).ntb with clk := 10 ^ 12 } }
def mPh (v : Nat) : State := both (fun p => setPort p { trial := 2, cfg := 0x7, phaseClk := 0, t0 := 10 ^ 8 }) { mL v with ntb := { (mL v).ntb with clk := 10 ^ 7 } }
def mWait : State := both (fun p => setPort p { waiting := true }) (mL 3)
def mUp : State := setB 0xA00C8 2 true (wr 0xA0010 (0x28 + 0x100) (wr 0xA0014 0 (wr 0xA001C 2 nd0)))
def mUpF : State := setPort 0 { cls := [(1, { q := [⟨0x10,2,0,[1]⟩], sent := 1, base := 4, tries := 3 })] } (setB 0xA0004 4 true (setF 0xA0004 3 0 3 mUp))
def mUpR : State := wr 0xA0018 300 (wr 0xA0004 0x05000003 (setF 0xA0010 5 4 1 mUp))
def mTries : State := setPort 0 { cls := [(1, { q := [⟨0x10,2,0,[1]⟩], sent := 1, base := 4, tries := 15 })] } mUp
def mGu (p v : Nat) (s : State) : State := { s with guard := some (mrBase p + 0x40, BitVec.ofNat 32 v) }
def mF7 : State := both (fun p => wr (mrBase p + 0x1C) 0x00070002) (mL 7)
def mEx : State := setPort 0 { mseq := 0x1F8, marks := [(0x1F7, (1000 * 1000000000 + 200000) * 65536)], delays := [], good := 7, bad := 2 } mUp
def tsync (rx : Nat) : List Byte := leBytes 2 0x200 ++ leBytes 2 rx ++ leBytes 8 1000 ++ leBytes 4 100000 ++ leBytes 2 0 ++ leBytes 2 0 ++ leBytes 8 1000 ++ leBytes 4 200142 ++ leBytes 4 50 ++ leBytes 1 1 ++ leBytes 1 0x02 ++ leBytes 2 0
def mFwd : State := { mUp with chain := { mUp.chain with fwd := [(2, 0x0101, 0, none)], asked := [{ tag := 0x0101, opcode := 0x0001, target := 2, node := false, waits := [2], results := [] }] } }
def emsg : List Byte := leBytes 2 1 ++ leBytes 1 0 ++ leBytes 1 2 ++ leBytes 2 0x0101 ++ leBytes 2 0 ++ leBytes 4 0 ++ leBytes 2 0 ++ leBytes 2 0
def ev0 : State := { tx0 with ntb := { tx0.ntb with clk := 100, net := 50 * secUnit } }
def evA (ch c : Nat) (s : State) : State := { s with evf := { s.evf with arrivals := s.evf.arrivals ++ [(ch, c)] } }
def evD (t c : Nat) (s : State) : State := { s with evf := { s.evf with deliveries := s.evf.deliveries ++ [(t, c)] } }
def chn (ch src t0 rate : Nat) (s : State) : State := wr (0x80000 + 16 * ch + 8) (BitVec.ofNat 32 rate) (wr (0x80000 + 16 * ch + 4) (BitVec.ofNat 32 (t0 + 256)) (wr (0x80000 + 16 * ch) (BitVec.ofNat 32 (2 ^ 31 + src)) s))
def ev1 : State := evA 3 100 (chn 3 1 156 0 ev0)
def ev2 : State := { evA 3 100 (chn 3 1 156 50 ev0) with evf := { (evA 3 100 (chn 3 1 156 50 ev0)).evf with lastFire := [(3, 90)] } }
def ev3 : State := evD 156 100 ev0
def ev4 : State := evD 172 100 (evD 172 100 ev0)
def ev5 : State := evD 176 100 (wr 0x80804 0xF ev0)
def ev6 : State := evD 152 100 (setB 0x80910 0 true ev0)
def ev7 : State := evD 144 100 ev0
def ev8 : State := { evD 144 100 ev0 with evf := { (evD 144 100 ev0).evf with notify := [(0, some (5, 1))] } }
def evB : State := evD 5 100 ev0
def desc (ctl key aad lens src dst tag : Nat) (nonce : List Byte) : List Byte := padTo 48 (leBytes 4 ctl ++ leBytes 4 key ++ leBytes 4 aad ++ leBytes 4 lens ++ leBytes 4 src ++ leBytes 4 dst ++ leBytes 4 tag ++ leBytes 4 0 ++ nonce)
def dCtr : List Byte := desc (2 + 16 * 256 + 0x77 * 65536) 7 0 (4 * 65536) 0x3F8000 0x3F9000 0 (leBytes 16 3)
def dCmac : List Byte := desc (3 + 16 + 2 * 32) 7 0 (4 * 65536) 0x3F8000 0 0x3FA000 []
def cp0 : State := { wr 0x90000 0xFF nd0 with cipher := { nd0.cipher with slots := nd0.cipher.slots ++ [(7, { valid := true, usage := 8, key := leBytes 16 99, gen := 4 })] } }
def cpQ (rs : List CphReq) (s : State) : State := { s with cipher := { s.cipher with reqs := rs } }
def crq (sub : Nat) (d : List Byte) : CphReq := { sub := sub, desc := d }
def cp1 : State := cpQ [crq 17 dCtr] cp0
def cp3 : State := cpQ [{ crq 17 dCtr with core := some 2, key := leBytes 16 99 }, { crq 17 dCmac with core := some 3, key := leBytes 16 99 }] cp0
def cp5 : State := cpQ [{ crq 3 dCtr with result := some 7 }] cp0
def cp6 : State := cpQ (List.replicate 4 (crq 17 dCtr)) cp0
def cp7 : State := cpQ (List.replicate 16 (crq 3 dCtr)) cp0
def cp9 : State := { cp0 with cipher := { cp0.cipher with changes := [{ code := 7, slot := {} }, { code := 8, slot := { valid := true, usage := 8, key := leBytes 16 1 } }] } }
def cpI (v : Nat) : State := { cp0 with guard := some (0x90040, BitVec.ofNat 32 v) }
def dOpen : List Byte := desc (16 + 13 * 256) 7 0x3F8000 (4 * 65536) 0x3F8000 0x3F9000 0x3FA000 (leBytes 13 3)
def cpBad : State := cpQ [{ crq 17 dOpen with core := some 2, key := leBytes 16 99 }] cp0
def bmsg (t seq ack : Nat) (p : List Byte) : BMsg :=
  let m : BMsg := { typ := BitVec.ofNat 8 t, rsv := 0, len := BitVec.ofNat 16 p.length, seq := BitVec.ofNat 16 seq, ack := BitVec.ofNat 16 ack, payload := p, crc := 0 }
  { m with crc := BitVec.ofNat 32 (crc32 (bmsgBytes m)) }
def lup (s : State) : State := { hsetF 0x1000 1 0 0 (hsetF 0x2000 1 0 2 (setF 0x10 1 0 2 s)) with boot := { s.boot with mode := 1 } }
def ba0 : State := lup nd0
def baQ : State := { ba0 with linkR := { ba0.linkR with q := [(4,[1]),(5,[2]),(6,[3])], sent := 3, base := 7 }, linkH := { ba0.linkH with q := [(2,[1]),(2,[2])], sent := 2, base := 9, tries := 3 } }
def baT : State := { baQ with linkH := { baQ.linkH with tries := 15 }, linkR := { baQ.linkR with tries := 15 } }
def baDn : State := { setF 0x10 1 0 1 (hsetF 0x2000 1 0 1 ba0) with linkR := { ba0.linkR with q := [(4,[1])] } }
def baBoot (n : Nat) : State := setF 8 3 0 n ba0
def baHold : State := setF 0x10000 1 0 2 ba0
def ls16 (r pw xo la : Nat) : List Byte := leBytes 2 r ++ leBytes 2 0 ++ leBytes 1 pw ++ leBytes 1 xo ++ leBytes 1 la ++ leBytes 9 0
def mbh (op kind target tag len counter status ver rsv : Nat) : List Byte := leBytes 2 op ++ leBytes 1 kind ++ leBytes 1 target ++ leBytes 2 tag ++ leBytes 2 len ++ leBytes 4 counter ++ leBytes 2 status ++ leBytes 1 ver ++ leBytes 1 rsv
def putWin (w : Nat) (bs : List Byte) (s : State) : State := setWinState w 1 { s with reqMem := tabWriteBytes zeroByte s.reqMem (w * 0x1000) bs }
def signed (s : State) (bs : List Byte) : List Byte := bs ++ bytesOf ((cmac (natsOf (ockOf s)) (natsOf bs)).take 8)
def mxRdy : State := { ba0 with tender := { ba0.tender with radioReady := true, last := 5 }, settings := { ba0.settings with ock := some (leBytes 16 0x1234567) } }
def mxW : State := putWin 0 (mbh 0x0101 0 30 7 0 0 0 1 0) (putWin 1 (mbh 0x0101 1 30 8 0 0 0 1 0) (putWin 2 (mbh 0x0101 0 30 9 5000 0 0 1 0) (putWin 3 (mbh 0x0FFF 0 30 10 0 0 0 1 0) (putWin 4 (mbh 0x0102 0 40 10 0 0 0 1 0) (putWin 5 (mbh 0x0C04 0 30 7 0 0 0 1 0) (setWinState 6 0 mxRdy))))))
def mxC : State := putWin 0 (signed mxRdy (mbh 0x8103 0 30 7 0 6 0 1 0 )) (putWin 1 (signed mxRdy (mbh 0x8103 0 30 7 0 5 0 1 0 )) (putWin 2 (mbh 0x8103 0 30 7 0 9 0 1 0 ++ leBytes 8 77) (putWin 3 (signed mxRdy (mbh 0x8103 0 30 7 0 900 0 1 0 )) (setWinState 6 0 mxRdy))))
def mxT : State := { mxW with tender := { mxW.tender with tags := [{ tag := 7, opcode := 0x0101, target := 30, counter := 0, win := 2, pend := false, radio := true }] } }
def mxMax : State := { mxC with tender := { mxC.tender with last := 0xFFFFFFFF } }
def rngs (cfg : Nat) (s : State) : State := hsetF 0x300C 7 0 0xE4 (forAll [0,1,2,3] (fun r s => hwr (ringBase r + 8) (BitVec.ofNat 32 cfg) (hwr (ringBase r) 0x1000 (hwr (ringBase r + 0x14) 0x9000 s))) { s with tender := { s.tender with busMaster := true } })
def mxHolds (s : State) : State := { s with tender := { s.tender with hold0 := [leBytes 1 2 ++ leBytes 3 0 ++ mbh 0x0101 1 30 7 0 0 0 1 0, [1,2,3]], hold1 := [List.replicate 300 7, [4]], hold2 := [List.replicate 100 3], hold3 := [] } }
def mxR : State := mxHolds (rngs 0x00000601 mxRdy)
def mxR2 : State := hwr (ringBase 1 + 0xC) 63 (hwr (ringBase 1 + 0x10) 60 (hwr (ringBase 0 + 0xC) 70 (hwr (ringBase 0 + 0x10) 6 mxR)))
def mxS : State := mxHolds (hsetB 0x010 0 true mxRdy)
def mxS2 : State := hsetB 0x3010 2 true (hsetB 0x3010 14 true { mxS with tender := { mxS.tender with spiFill := 40 } })
def mxS3 : State := { mxS with tender := { mxS.tender with spiFill := 24, spiWin := 15 } }
def rt0 (t d : Nat) : State := hwr 0x5004 (BitVec.ofNat 32 d) (hwr 0x5000 (BitVec.ofNat 32 t) ba0)
def rtLoad (t d t' d' : Nat) : State := let s := rt0 t d; hsetB 0x5010 9 true (hsetB 0x5010 8 true { s with rtc := { s.rtc with time := BitVec.ofNat 32 t', date := BitVec.ofNat 32 d' } })
def rtAlm (t d : Nat) (s : State) : State := hsetB 0x501C 0 true (hwr 0x5014 (BitVec.ofNat 32 t) (hwr 0x5018 (BitVec.ofNat 32 d) s))
def rtStop : State := { rt0 0x07235958 0x19991228 with rtc := { stopped := true } }
def rtSync : State := { rt0 0x07235958 0x20240228 with rtc := { sync := some ({ tag := 9, opcode := 0x0709, target := 30, counter := 0, win := 1, pend := false, radio := false }, 37) } }
def rtOff : State := hsetF 0x1000 1 0 1 (rt0 0x05010203 0x20240101)
def rtVb : State := hsetB 0x5010 10 true (rt0 0x05010203 0x20240101)
def flw (l : List (Nat × Nat)) (s : State) : State := l.foldl (fun s p => flProg p.1 (leBytes 16 p.2) s) s
def fl0 : State := flw [(0x80000, 5), (0x80010, 6), (0x82000, 7)] ba0
def flP : State := flashProgram 0x90000 0x123456789ABCDEF0 (~~~1) fl0
def flE : State := flashErase 0x80010 (~~~2) fl0
def flEs : State := flashSuspend 500 flE
def flEp : State := flashSuspend 20 flE
def flEsP : State := flashProgram 0x90000 0x77 (~~~1) flEs
def flEd : State := flashEraseDone flE
def flB : State := blankCheck 0x80000 (~~~3) flEd
def flB2 : State := blankCheck 0x80000 (~~~3) fl0
def flG (v : Nat) : State := { fl0 with hguard := some (0x8040, BitVec.ofNat 32 v) }
def pwG (v : Nat) (s : State) : State := { s with guard := some (0x10040, BitVec.ofNat 32 v) }
def pw0 : State := nd0
def pwW : State := setF 0x10000 1 0 1 nd0
def pwHold : State := setF 0x10000 1 0 2 ba0
def pwOff : State := setF 0x10000 1 0 3 ba0
def pwHot : State := wr 0xD0000 1000 nd0
def pwT (v : Nat) (s : State) : State := pwrRequest v none false s
def pwUp : State := { pw0 with keeper := { pw0.keeper with upHold := [[1,2],[3]] } }
def pwPen : State := pwrRequest 1 none false (pwT 3 (pwT 1 pw0))
def pwWakeH : State := setF 0x1000C 1 0 3 (wr 0x10010 5000 pwHold)
def pwStand : State := { ba0 with tender := { ba0.tender with hold0 := [[1]] } }
def pwRail : State := forAll [0,1,2,3,4] (fun r s => setB (0x10080 + 4 * r) 16 true s) pw0
def pwSb : State := hsetF 0x1000 1 0 1 (hsetF 0x1004 2 0 7 ba0)
def rsG (off v : Nat) (s : State) : State := { s with guard := some (off, BitVec.ofNat 32 v) }
def rsKey : State := { nd0 with ctx := [(3, {})], pkt := [(1, 2)], hreg := ba0.hreg, reqMem := [(4, 7)], rspMem := [(4, 7)], tender := { ba0.tender with snapshot := some [], posted := [(1, [2])] }, rtc := { owedAlarm := true }, keeper := { wdtOn := true, wdtCfg := 0x0A3203E8 }, power := { brown := true } }
def rsBm (m : Nat) : State := { rsKey with boot := { rsKey.boot with mode := m, trial := true, trialAge := 0, readyAge := 0 }, tender := { rsKey.tender with radioReady := true } }
def rsOff : State := hsetF 0x1000 1 0 2 rsKey
def rsSt : State := { rsBm 1 with boot := { (rsBm 1).boot with starting := true, attempts := 1 } }
def sn0 : State := { rsBm 1 with keeper := { (rsBm 1).keeper with wdtOn := true, wdtCfg := 0x0A3203E8 } }
def snG (v : Nat) : State := { sn0 with guard := some (0xC0040, BitVec.ofNat 32 v) }
def tg (st : Nat) (s : State) : State := tagTo st { s with tag := { s.tag with st := st, cfg := tagRecord s } }
def tg0 : State := { (rsBm 1) with settings := { (rsBm 1).settings with ock := some (leBytes 16 0x1234567) } }
def tgS (st : Nat) : State := tg st tg0
def tgQ : State := { tgS 1 with tag := { (tgS 1).tag with quiet := true } }
def tgRec (acc q at_ : Nat) (s : State) : State := setTagCopy 64 0 { valid := true, seq := 3, data := leBytes 1 acc ++ leBytes 1 q ++ leBytes 16 at_ ++ leBytes 16 77 } s
def tgSec : State := tg 5 (tgRec 1 5 0x1C tg0)
def tgSk : State := { tgSec with tag := { tgSec.tag with sk := leBytes 16 9 } }
def tgBeg : State := { tgSec with tag := { tgSec.tag with rt := some (leBytes 16 0x55) } }
def tgPg : State := setTagCopy 5 1 { valid := true, seq := 8, data := List.replicate 128 7 } (tgS 5)
def tgHc : State := tagmWrite 0x284 .b4 5 tg0
def tgHw : State := tagCommit tgHc
def tgFw : State := fieldStart { cmd := 1, page := 5, data := List.replicate 128 4 } tgPg
def tgBoth : State := { tgFw with tag := { tgFw.tag with held := some { cmd := 1, page := 5, data := List.replicate 128 4 } } }
def tgCf : State := hwr 0x6000 0x0501 tg0
def tgCfF : State := hwr 0x6000 0x0501 (fieldStart { cmd := 3, page := 64, data := List.replicate 34 4 } tg0)
def tgAns : List Byte := let ks := roundKeys (natsOf (tagKey tgBeg)); let c1 := aesEnc ks (natsOf (leBytes 16 0x1234)); let c2 := aesEnc ks (xorL (rotByte (natsOf (tgBeg.tag.rt.getD []))) c1); [0x11] ++ bytesOf (c1 ++ c2)
def tsB (b i : Nat) (s : State) : State := bistStart b i { s with keeper := { s.keeper with pend := [{ tag := 7, opcode := 0x0F01, target := 30, origin := 16, obj := unitObj b i, info := [] }] } }
def ts0 : State := lup nd0
def tsTone : State := setF 0xE0008 2 0 1 { ts0 with keeper := { ts0.keeper with toneEnd := some 70000 } }
def tsLp (k : Nat) : State := { ts0 with keeper := { ts0.keeper with loopNext := some k } }
def rq (t : Nat) (p : List Byte) : Req := { win := 2, target := BitVec.ofNat 8 t, tag := 77, counter := 5, payload := p }
def tr0 : State := { (rsBm 1) with linkR := {}, linkH := {}, settings := { (rsBm 1).settings with ock := some (leBytes 16 0x1234567) } }
def trBank : State := setBank 0 { valid := true, format := 1, seq := 2 } tr0
def trSnap : State := { trBank with tender := { trBank.tender with snapshot := some [leBytes 4 7 ++ leBytes 28 1, leBytes 4 8 ++ leBytes 28 2] } }
def trSync : State := { trBank with tender := { trBank.tender with netSeen := true, netState := 2 } }
def trSync2 : State := { trSync with rtc := { sync := some ({ tag := 9, opcode := 0x0709, target := 30, counter := 0, win := 1, pend := false, radio := false }, 37) } }
def trRec : State := { trBank with boot := { trBank.boot with mode := 2 } }
def okKey : List Byte := bytesOf (kwWrap (natsOf (ktOf trBank)) (natsOf (leBytes 16 0xABC)))
def udKey : List Byte := leBytes 32 0x5A5A
def udPt : List Byte := leBytes 48 0x0102030405060708
def udSec (t o : Nat) : List Byte := leBytes 1 t ++ leBytes 3 0 ++ leBytes 4 o ++ leBytes 4 16 ++ leBytes 4 0
def udH0 : List Byte := [0x48,0x4C,0x44,0x49] ++ leBytes 2 1 ++ leBytes 2 0x110 ++ leBytes 2 0x6416 ++ leBytes 1 0 ++ leBytes 1 2 ++ leBytes 4 0x10203 ++ leBytes 4 1 ++ leBytes 2 1 ++ leBytes 1 1 ++ leBytes 1 0 ++ leBytes 4 48 ++ leBytes 8 0xABCD ++ leBytes 12 0 ++ udSec 0 0 ++ udSec 1 16 ++ udSec 2 32 ++ (leBytes 1 0xFF ++ leBytes 15 0)
def udCt : List Nat × List Nat := gcmSeal (natsOf udKey) (natsOf (leBytes 8 0xABCD) ++ natsOf (leBytes 4 0)) (natsOf udH0) (natsOf udPt)
def udHt : List Nat := (gcmSeal (natsOf udKey) (natsOf (leBytes 8 0xABCD) ++ natsOf (leBytes 4 0xFFFFFFFF)) (natsOf udH0 ++ udCt.2) []).2
def udHdr : List Byte := udH0 ++ bytesOf udHt ++ leBytes 40 0 ++ leBytes 88 0 ++ bytesOf udCt.2
def udQ (p : List Byte) : Req := rq 30 p
def udSlot (s : State) : State := forAll (List.range 20) (fun i s => setFlWord (slotBase 1 / 16 + i) (some { data := (udHdr.drop (16 * i)).take 16 }) s) { s with boot := { s.boot with session := true, slot := 0 } }
def udTag (op : Nat) (s : State) : State := { s with tender := { s.tender with tags := [{ tag := 77, opcode := op, target := 30, counter := 5, win := 2, pend := false, radio := true }], reqs := [] } }
def psReq (v : Nat) : State := lup { tr0 with tender := { tr0.tender with reqs := [(2, reqMsg 0x8A01 (rq 30 [BitVec.ofNat 8 v,0,0,0]))] } }
def udZero : State := setFlWord (slotBase 1 / 16 + 1) (some { data := leBytes 16 0 }) { trRec with boot := { trRec.boot with slot := 0 } }
def kq (p : List Byte) : Req := rq 30 p
def kp0 : State := { nd0 with boot := { nd0.boot with mode := 1 } }
def kpC : State := { kp0 with ctx := [(5, { addr := 0x123, role := 1, ci := 40, k := 2, homeDev := 0, key := leBytes 16 3, frond := 0 }), (9, { addr := 0x456, role := 2, homeDev := 3, key := leBytes 16 4 })] }
def kpS : State := { kpC with pathS := { kpC.pathS with bins := [1,2,3,4,5,6,7,8,9,10] }, live := [(16, 7), (17, 5)] }
def ent (ch f : Nat) : List Byte := leBytes 1 ch ++ leBytes 1 0x11 ++ leBytes 2 100 ++ leBytes 4 f ++ leBytes 4 0 ++ leBytes 1 0x10 ++ leBytes 1 0 ++ leBytes 2 0
def rc0 : State := kpC
def rcOn : State := setF 0x30004 2 0 4 (setF 0x31004 2 0 3 rc0)
def rcPl : State := { rc0 with keeper := { rc0.keeper with pend := [{ tag := 9, opcode := 0x0303, target := 30, origin := 16, obj := 4, info := [4] }] } }
def rcB : State := bistStart 0 3 rc0
def rcOut : State := setB 0xE0014 5 true (setB 0xE0010 4 true (wr 0x90000 0xFD rc0))
def plan (fl : Nat) (es : List (List Byte)) : List Byte := leBytes 1 es.length ++ leBytes 1 fl ++ leBytes 2 0 ++ es.flatten
def entN : List Byte := leBytes 1 4 ++ leBytes 1 0x61 ++ leBytes 2 0xFF2 ++ leBytes 4 868100000 ++ leBytes 4 0 ++ leBytes 1 0x10 ++ leBytes 1 0x62 ++ leBytes 2 0
def tc0 : State := setF 0x20024 1 0 2 (setB 0x20020 14 true rc0)
def tcLock : State := setF 0x20024 1 0 1 tc0
def tcUp : State := setF 0xA0010 3 0 8 (setB 0x20020 14 true trBank)
def tcRel : State := setB 0x78030 0 true tc0
def nc0 : State := { rc0 with nodes := { rc0.nodes with delivered := [(0x77, 0, 0), (0x78, 3, 0)] } }
def ncAlone : State := setB 0xB0000 1 false nc0
def dl1 : Downlink := { tag := 31, target := 30, origin := 16, flags := 0, expires := none, data := [1,2] }
def pdl : Pend := { tag := 31, opcode := 0x0601, target := 30, origin := 16, obj := 5, info := [] }
def ncDl : State := setRun 5 { dls := [dl1, { dl1 with tag := 32 }] } { nc0 with keeper := { nc0.keeper with pend := [pdl, { pdl with tag := 32 }, { pdl with tag := 44, opcode := 0x0303 }, { pdl with tag := 51, opcode := 0x0603, obj := 0 }] } }
def ncConn : State := setRun 5 { conn := some { what := 1, chmap := 3, hop := 0, applyK := 9, dl := dl1 } } nc0
def ncKeyless : State := setCtx 5 { getCtx nc0 5 with key := [] } nc0
def ncBusy : State := setCtx 5 { getCtx nc0 5 with dlPend := 255 } nc0
def ncPool : State := fullPool nc0
def addP (eui addr phy key : Nat) : List Byte := leBytes 8 eui ++ leBytes 3 addr ++ leBytes 1 phy ++ leBytes 3 4000 ++ leBytes 1 7 ++ leBytes 8 0xFF ++ leBytes 2 60 ++ leBytes 2 9 ++ leBytes 1 3 ++ leBytes 1 8 ++ leBytes 1 key ++ leBytes 1 0 ++ leBytes 2 30 ++ leBytes 2 0
def bcP (ch m fl key pri : Nat) : List Byte := leBytes 1 ch ++ leBytes 1 m ++ leBytes 1 fl ++ leBytes 1 key ++ leBytes 8 2000 ++ leBytes 4 5 ++ leBytes 2 100 ++ leBytes 2 16 ++ leBytes 1 pri ++ leBytes 3 0 ++ leBytes 3 0x010203
def itB (op lim addr val mask : Nat) : List Byte := leBytes 1 op ++ leBytes 1 0 ++ leBytes 2 lim ++ leBytes 4 addr ++ leBytes 4 val ++ leBytes 4 mask

/-! ### Witnesses -/

/-- States and operands that meet the hypotheses of `EveryCommandAnswers`. -/
theorem witness_EveryCommandAnswers :
    (∃ (c : Instr), (∀ (d : Die) (a : Word) (z : AccSize) (v : Word), c ≠ Instr.registerWrite d a z v) ∧ (∀ (d : Die) (a : Word) (z : AccSize), c ≠ Instr.lowWordLatchRead d a z)) ∧
    (∃ (s : State), s.pending = []) ∧
    (∃ (s : State), standbyReady s = false ∧ s.keeper.run = none ∧ s.boot.due = 0 ∧ s.power.ponrDue = none) :=
  ⟨⟨.refreshStale 2, by simp⟩,
   ⟨State.reset, by decide +kernel⟩,
   ⟨State.reset, by decide +kernel⟩⟩

/-- States and operands that meet the hypotheses of `RegisterWriteAccessCodes`. -/
theorem witness_RegisterWriteAccessCodes :
    (∃ (addr : Word) (v : Word) (s : State), inStoreWindow addr = false ∧ inRadioBlocks addr = true ∧ twinOf (canonRadio addr) = none ∧ (radioDesc (canonRadio addr)).rwg = 0 ∧ unitAt (canonRadio addr) = none ∧ specialWrite (canonRadio addr) v s = none) ∧
    (∃ (addr : Word) (size : AccSize), inRadioBlocks addr = true ∧ size ≠ AccSize.b4) ∧
    (∃ (addr : Word), inStoreWindow addr = true) ∧
    (∃ (addr : Word), inStoreWindow addr = false ∧ inRadioBlocks addr = false) ∧
    (∃ (addr : Word) (size : AccSize) (off : Nat) (s : State), BitVec.toNat addr < 524288 ∧ hostRuns s = true ∧ hostTarget addr = HostTarget.register off ∧ size ≠ AccSize.b4) ∧
    (∃ (addr : Word) (off : Nat) (s : State), BitVec.toNat addr < 524288 ∧ hostRuns s = true ∧ hostTarget addr = HostTarget.register off ∧ hostTwinOf off = none ∧ (hostDesc off).rwg = 0 ∧ off ∉ [12288, 12308, 20480, 20484, 20492, 20500, 20504, 20508, 20520, 24584] ∧ (off < 12352 ∨ 12480 ≤ off) ∧ (off < 16384 ∨ 16896 ≤ off)) ∧
    (∃ (addr : Word), 4194304 ≤ BitVec.toNat addr) :=
  ⟨⟨0x40020030, 0, State.reset, by decide +kernel⟩,
   ⟨0x40020030, (.b1 : AccSize), by decide +kernel⟩,
   ⟨0x50000000, by decide +kernel⟩,
   ⟨0, by decide +kernel⟩,
   ⟨0, (.b1 : AccSize), 0, State.reset, by decide +kernel⟩,
   ⟨0, 0, State.reset, by decide +kernel⟩,
   ⟨0x40020030, by decide +kernel⟩⟩

/-- States and operands that meet the hypotheses of `BufferedApplyProcedure`. -/
theorem witness_BufferedApplyProcedure :
    (∃ (addr : Word) (u : ApplyUnit), unitAt (canonRadio addr) = some u ∧ (radioDesc (canonRadio addr)).rwb ≠ 0) ∧
    (∃ (a : Nat) (check : State → Nat) (s : State), s.shadowWf = true ∧ (radioDesc a).rwb = 0 ∧ applyPending s a = true ∧ applyHeld s a = false ∧ check s = 0) ∧
    (∃ (a : Nat) (check : State → Nat) (s : State) (o : Nat), applyPending s a = true ∧ applyHeld s a = false ∧ check s ≠ 0 ∧ a ≠ 786464 ∧ a ≠ 786468 ∧ o ≠ a ∧ o ≠ 786464 ∧ o ≠ 786468) ∧
    (∃ (a : Nat) (lo : Nat) (hi : Nat) (check : State → Nat) (s : State) (o : Nat), applyPending s a = true ∧ applyHeld s a = false ∧ check s ≠ 0 ∧ a ≠ 786464 ∧ a ≠ 786468 ∧ lo ≤ o ∧ o < hi) ∧
    (∃ (a : Nat) (s : State), (applyPending s a && !applyHeld s a) = false) :=
  ⟨⟨0x40050004, (.chan 0 : ApplyUnit), by decide +kernel⟩,
   ⟨0x50000, (fun _ => 0 : State → Nat), setB 0x50000 8 true State.reset, by decide +kernel⟩,
   ⟨0x50000, (fun _ => 3 : State → Nat), setB 0x50000 8 true State.reset, 0, by decide +kernel⟩,
   ⟨0x50000, 0, 0x50000, (fun _ => 3 : State → Nat), setB 0x50000 8 true State.reset, 0, by decide +kernel⟩,
   ⟨0, State.reset, by decide +kernel⟩⟩

/-- States and operands that meet the hypotheses of `ApplyRegisterAndBoundaries`. -/
theorem witness_ApplyRegisterAndBoundaries :
    (∃ (n : Fin 128) (s : State), s.keeper.pend = [] ∧ (opState s ↑n = 2 ∨ opState s ↑n = 3)) ∧
    (∃ (u : ApplyUnit) (s : State) (n : Fin 64), s.keeper.pend = [] ∧ s.shadowWf = true ∧ applyPending s (unitRange u).1 = true ∧ applyHeld s (unitRange u).1 = false ∧ u = ApplyUnit.chan n ∧ slotState s (↑n) 0 = 0 ∧ slotState s (↑n) 1 = 0 ∧ chanCheck (↑n) s = 0) ∧
    (∃ (u : ApplyUnit) (s : State) (n : Fin 2), s.keeper.pend = [] ∧ s.shadowWf = true ∧ applyPending s (unitRange u).1 = true ∧ applyHeld s (unitRange u).1 = false ∧ u = ApplyUnit.tx n ∧ inBurst s ↑n = false ∧ txCheck (↑n) s = 0) ∧
    (∃ (u : ApplyUnit) (s : State) (n : Fin 8), s.keeper.pend = [] ∧ s.shadowWf = true ∧ applyPending s (unitRange u).1 = true ∧ applyHeld s (unitRange u).1 = false ∧ u = ApplyUnit.lamp n ∧ lampPeriodic s ↑n = false ∧ (getLamp s ↑n).pulseEnd = none ∧ lampCheck (↑n) s = 0) ∧
    (∃ (u : ApplyUnit) (s : State) (n : Fin 2), s.keeper.pend = [] ∧ s.shadowWf = true ∧ applyPending s (unitRange u).1 = true ∧ applyHeld s (unitRange u).1 = false ∧ u = ApplyUnit.port n ∧ portCheck (↑n) s = 0) ∧
    (∃ (u : ApplyUnit) (s : State) (n : Fin 128), s.keeper.pend = [] ∧ s.shadowWf = true ∧ applyPending s (unitRange u).1 = true ∧ applyHeld s (unitRange u).1 = false ∧ u = ApplyUnit.op n ∧ (opState s ↑n = 0 ∨ opState s ↑n = 1) ∧ requester s = false ∧ s.ops = [] ∧ opCheck (↑n) s = 0) ∧
    (∃ (s : State), s.shadowWf = true ∧ s.keeper.pend = [] ∧ applyPending s 131168 = true ∧ applyHeld s 131168 = false ∧ servoOn s = false ∧ -rateMax ≤ BitVec.toInt (rdShadow s 131172) ∧ BitVec.toInt (rdShadow s 131172) ≤ rateMax ∧ s.ntb.slew = 0 ∧ coreRuns s = true) ∧
    (∃ (s : State), s.shadowWf = true ∧ s.keeper.pend = [] ∧ applyPending s 131136 = true ∧ applyHeld s 131136 = false ∧ coreRuns s = true ∧ s.ntb.slew = 0 ∧ fieldOf (rdShadow s 131140) 1 0 = 1 ∧ fieldOf (rdShadow s 131152) 29 0 < 1000000000 ∧ ntbState s ≠ 1 ∧ getB s 131104 14 = true) ∧
    (∃ (u : ApplyUnit) (s : State), s.keeper.pend = [] ∧ (∀ (n : Fin 128), u ≠ ApplyUnit.op n) ∧ (applyPending s (unitRange u).1 && !applyHeld s (unitRange u).1) = false) :=
  ⟨⟨1, setOpState 1 2 State.reset, by decide +kernel⟩,
   ⟨(.chan 0 : ApplyUnit), ab3, 0, by decide +kernel⟩,
   ⟨(.tx 1 : ApplyUnit), ab2, 1, by decide +kernel⟩,
   ⟨(.lamp 0 : ApplyUnit), ab2, 0, by decide +kernel⟩,
   ⟨(.port 0 : ApplyUnit), ab2, 0, by decide +kernel⟩,
   ⟨(.op 0 : ApplyUnit), ab2, 0, by decide +kernel⟩,
   ⟨ab1, by decide +kernel⟩,
   ⟨ab1, by decide +kernel⟩,
   ⟨(.chan 0 : ApplyUnit), State.reset, by decide +kernel⟩⟩

/-- States and operands that meet the hypotheses of `GuardedPairs`. -/
theorem witness_GuardedPairs :
    (∃ (addr : Word) (s : State), (radioDesc (canonRadio addr)).rwg ≠ 0 ∧ s.guard = none) ∧
    (∃ (addr : Word) (s : State) (p : Nat × Word), (radioDesc (canonRadio addr)).rwg ≠ 0 ∧ s.guard = some p ∧ guardInTimeR s = true) ∧
    (∃ (addr : Word) (s : State) (p : Nat × Word), (radioDesc (canonRadio addr)).rwg ≠ 0 ∧ s.guard = some p ∧ guardInTimeR s = false) ∧
    (∃ (addr : Word), (radioDesc (canonRadio addr)).rwg = 0) ∧
    (∃ (addr : Word) (off : Nat) (s : State), hostTarget addr = HostTarget.register off ∧ (hostDesc off).rwg ≠ 0 ∧ off < 32768 ∧ s.hguard = none) ∧
    (∃ (addr : Word) (off : Nat) (s : State) (p : Nat × Word), hostTarget addr = HostTarget.register off ∧ (hostDesc off).rwg ≠ 0 ∧ off < 32768 ∧ s.hguard = some p ∧ guardInTimeH s = true) ∧
    (∃ (addr : Word) (off : Nat) (s : State) (p : Nat × Word), hostTarget addr = HostTarget.register off ∧ (hostDesc off).rwg ≠ 0 ∧ off < 32768 ∧ s.hguard = some p ∧ guardInTimeH s = false) ∧
    (∃ (s : State) (off : Nat) (v : Word), s.guard = some (off, v)) ∧
    (∃ (s : State) (off : Nat) (v : Word), s.hguard = some (off, v)) :=
  ⟨⟨0x40000040, State.reset, by decide +kernel⟩,
   ⟨0x40000040, guNow, (0xC0040,1), by decide +kernel⟩,
   ⟨0x40000040, guLate, (0xC0040,1), by decide +kernel⟩,
   ⟨0, by decide +kernel⟩,
   ⟨0x1040, 0x1040, State.reset, by decide +kernel⟩,
   ⟨0x1040, 0x1040, guNow, (0x1040,2), by decide +kernel⟩,
   ⟨0x1040, 0x1040, guLate, (0x1040,2), by decide +kernel⟩,
   ⟨guNow, 0xC0040, 1, by decide +kernel⟩,
   ⟨{ State.reset with hguard := some (0x1040, 1) }, 0x1040, 1, by decide +kernel⟩⟩

/-- States and operands that meet the hypotheses of `RegisterReads`. -/
theorem witness_RegisterReads :
    (∃ (addr : Word) (s : State), inStoreWindow addr = false ∧ inRadioBlocks addr = true ∧ canonRadio addr < 65536 ∧ twinOf (canonRadio addr) = none ∧ canonRadio addr ≠ 12 ∧ tabGet (fun _ => none) s.latch (canonRadio addr) = none) ∧
    (∃ (addr : Word) (r : Nat), inStoreWindow addr = false ∧ inRadioBlocks addr = true ∧ twinOf (canonRadio addr) = some r) ∧
    (∃ (s : State), tabGet (fun _ => none) s.latch 131144 = none) ∧
    (∃ (w : Word) (s : State), tabGet (fun _ => none) s.latch 131148 = some w) ∧
    (∃ (addr : Word), inStoreWindow addr = false ∧ inRadioBlocks addr = false) ∧
    (∃ (addr : Word), 4194304 ≤ BitVec.toNat addr) ∧
    (∃ (s : State), hostRuns s = true ∧ tabGet (fun _ => none) s.hlatch 28 = none) :=
  ⟨⟨0x40000040#32, State.reset, by decide +kernel⟩,
   ⟨0x40000840#32, 64, by decide +kernel⟩,
   ⟨State.reset, by decide +kernel⟩,
   ⟨0x00000005#32, { State.reset with latch := [(0x2004C, some 5)] }, by decide +kernel⟩,
   ⟨0x00000005#32, by decide +kernel⟩,
   ⟨0x40020030#32, by decide +kernel⟩,
   ⟨State.reset, by decide +kernel⟩⟩

/-- States and operands that meet the hypotheses of `ContextWindowReadOnly`. -/
theorem witness_ContextWindowReadOnly :
    (∃ (n : Nat) (k : Nat), n < 65536 ∧ k < 32) ∧
    (∃ (k : Nat), 68 ≤ k ∧ k < 84) ∧
    (∃ (x : Item), inStoreWindow x.addr = true ∧ BitVec.toNat x.addr % 4 = 0 ∧ (x.op = 2 ∨ x.op = 3)) ∧
    (∃ (addr : Word), inStoreWindow addr = true) :=
  ⟨⟨0, 0, by decide +kernel⟩,
   ⟨68, by decide +kernel⟩,
   ⟨⟨2,0,0,0x50000000,1,0⟩, by decide +kernel⟩,
   ⟨0x50000000, by decide +kernel⟩⟩

/-- States and operands that meet the hypotheses of `NetworkTimeReadsAndSteps`. -/
theorem witness_NetworkTimeReadsAndSteps :
    (∃ (s : State), coreRuns s = true ∧ quiet s = true ∧ s.ntb.stepReady = 1 ∧ (nsTotal (setTime s) ≤ nsTotal (clocks 1 s).ntb.net ∨ (∀ n < 8, (getLamp s n).armed = false) ∧ ∀ n < 128, opLive s n = false)) ∧
    (∃ (s : State), coreRuns s = true ∧ quiet s = true ∧ s.ntb.stepReady = 2 ∧ (nsTotal (((clocks 1 s).ntb.net : Int) + stepDelta (rd s 131156) (rd s 131160) * ↑nsUnit).toNat ≤ nsTotal (clocks 1 s).ntb.net ∨ (∀ n < 8, (getLamp s n).armed = false) ∧ ∀ n < 128, opLive s n = false)) ∧
    (∃ (s : State), quiet s = true ∧ s.ntb.stepReady ≠ 1) ∧
    (∃ (s : State), quiet s = true ∧ s.ntb.stepReady ≠ 2) :=
  ⟨⟨wSet, by decide +kernel⟩,
   ⟨wStep, by decide +kernel⟩,
   ⟨State.reset, by decide +kernel⟩,
   ⟨State.reset, by decide +kernel⟩⟩

/-- States and operands that meet the hypotheses of `SourcesAndHoldover`. -/
theorem witness_SourcesAndHoldover :
    (∃ (up : Bool) (s : State), (s.ntb.armed = none ∧ s.ntb.ppsSec = none ∨ getB s 131456 1 = up)) ∧
    (∃ (s : State) (sec : Nat), s.ntb.armed = some sec ∧ s.ntb.ppsLast = none) ∧
    (∃ (s : State) (sec : Nat) (c0 : Nat) (t0 : Int), s.ntb.armed = none ∧ s.ntb.ppsSec = some sec ∧ s.ntb.ppsLast = some (t0, c0) ∧ s.ntb.ppsQual = false ∧ s.ntb.ppsGood < 2 ∧ (↑s.ntb.net - t0 - ↑secUnit).natAbs ≤ 2000 * nsUnit) ∧
    (∃ (s : State) (sec : Nat) (c0 : Nat) (t0 : Int), s.ntb.armed = none ∧ s.ntb.ppsSec = some sec ∧ s.ntb.ppsLast = some (t0, c0) ∧ s.ntb.ppsOut < 2 ∧ 2000 * nsUnit < (↑s.ntb.net - t0 - ↑secUnit).natAbs) ∧
    (∃ (s : State) (c0 : Nat) (t0 : Int), s.ntb.ppsLast = some (t0, c0) ∧ getF s 131108 1 0 = 1 ∧ getF s 131108 3 2 = 2 ∧ sourceOk s 1 = false) ∧
    (∃ (s : State), s.ntb.candidate = 1 ∧ sourceOk s 1 = true ∧ getF s 131108 1 0 = 1 ∧ getF s 131108 3 2 = 2 ∧ s.ntb.mrOffset.natAbs ≤ BitVec.toNat (rd s 131124) * nsUnit ∧ servoOn s = true) ∧
    (∃ (s : State), s.ntb.candidate = 0) ∧
    (∃ (s : State), getF s 131108 1 0 = 2 ∧ s.ntb.alarmed = false ∧ rd s 131120 ≠ 0) ∧
    (∃ (s : State), (getF s 131108 1 0 ≠ 2 ∨ s.ntb.alarmed = true ∨ rd s 131120 = 0)) :=
  ⟨⟨false, State.reset, by decide +kernel⟩,
   ⟨wA, 5, by decide +kernel⟩,
   ⟨wA2, 5, 77, 5*secUnit, by decide +kernel⟩,
   ⟨wA4, 5, 5, 77, by decide +kernel⟩,
   ⟨wA5, 77, 5*secUnit, by decide +kernel⟩,
   ⟨wA6, by decide +kernel⟩,
   ⟨State.reset, by decide +kernel⟩,
   ⟨wA8, by decide +kernel⟩,
   ⟨State.reset, by decide +kernel⟩⟩

/-- States and operands that meet the hypotheses of `CapturesAndLamps`. -/
theorem witness_CapturesAndLamps :
    (∃ (n : Fin 5) (rising : Bool) (s : State), (getB s (capBase ↑n) 0 = true ∧ getB s (capBase ↑n) 1 = !rising)) ∧
    (∃ (n : Fin 5) (rising : Bool) (s : State), (¬(getB s (capBase ↑n) 0 = true ∧ getB s (capBase ↑n) 1 = !rising))) ∧
    (∃ (n : Fin 8) (s : State), (getLamp s ↑n).armed = true ∧ coreRuns s = true) ∧
    (∃ (n : Fin 8) (s : State), (getLamp s ↑n).armed = false) ∧
    (∃ (n : Fin 8) (c : Nat) (s : State), (getLamp s ↑n).pulseEnd = some c) ∧
    (∃ (n : Fin 8) (s : State), (getLamp s ↑n).pulseEnd = none) :=
  ⟨⟨0, false, wC2, by decide +kernel⟩,
   ⟨0, false, State.reset, by decide +kernel⟩,
   ⟨0, wL1, by decide +kernel⟩,
   ⟨0, State.reset, by decide +kernel⟩,
   ⟨0, 100, wL5, by decide +kernel⟩,
   ⟨0, State.reset, by decide +kernel⟩⟩

/-- States and operands that meet the hypotheses of `AgcAndHealthChecks`. -/
theorem witness_AgcAndHealthChecks :
    (∃ (p : Fin 4) (peak : Int) (s : State), getB s (rxBase ↑p) 0 = true ∧ getB s (rxBase ↑p) 1 = false ∧ getB s (rxBase ↑p) 4 = false ∧ getB s (rxBase ↑p + 8) 8 = false ∧ -(100 * ↑(getF s (rxBase ↑p + 12) 7 0)) < peak) ∧
    (∃ (p : Fin 4) (peak : Int) (s : State), getB s (rxBase ↑p) 0 = true ∧ getB s (rxBase ↑p) 1 = false ∧ getB s (rxBase ↑p) 4 = false ∧ getB s (rxBase ↑p + 8) 8 = false ∧ peak ≤ -(100 * ↑(getF s (rxBase ↑p + 12) 7 0)) ∧ peak < -(100 * ↑(getF s (rxBase ↑p + 12) 15 8)) ∧ getF s (rxBase ↑p + 12) 31 24 * 65536 ≤ s.ntb.clk - (getPath s ↑p).lastStep) ∧
    (∃ (p : Fin 5) (s : State), getB s (rxBase ↑p) 0 = false) ∧
    (∃ (p : Fin 4) (s : State), getB s (rxBase ↑p + 20) 8 = true) ∧
    (∃ (p : Fin 4) (s : State), getB s (rxBase ↑p + 20) 8 = false) ∧
    (∃ (p : Fin 4) (s : State), s.keeper.pend = [] ∧ (getPath s ↑p).satSince ≠ none ∧ (getF s 213016 15 0 = 0 ∨ getB s 212992 0 = false)) ∧
    (∃ (p : Fin 4) (c : Nat) (s : State), s.keeper.pend = [] ∧ (getPath s ↑p).satSince = some c ∧ getF s 213016 15 0 ≠ 0 ∧ getB s 212992 0 = true ∧ getB s 212992 5 = true ∧ getF s 212996 2 0 = 0) ∧
    (∃ (p : Fin 4) (s : State), s.keeper.pend = [] ∧ pathState s ↑p = 2 ∧ getF s (rxBase ↑p + 28) 7 0 ≠ 0) ∧
    (∃ (p : Fin 4) (s : State), s.keeper.pend = [] ∧ pathState s ↑p ≠ 2) ∧
    (∃ (s : State), s.keeper.pend = [] ∧ s.pathS.waiting = [] ∧ getF s 212996 2 0 = 4) :=
  ⟨⟨0, (-500 : Int), onPaths, by decide +kernel⟩,
   ⟨0, (-9000 : Int), late9, by decide +kernel⟩,
   ⟨0, State.reset, by decide +kernel⟩,
   ⟨0, conv, by decide +kernel⟩,
   ⟨0, State.reset, by decide +kernel⟩,
   ⟨0, satlim, by decide +kernel⟩,
   ⟨0, 10, sat4, by decide +kernel⟩,
   ⟨0, onPaths, by decide +kernel⟩,
   ⟨0, State.reset, by decide +kernel⟩,
   ⟨scal, by decide +kernel⟩⟩

/-- States and operands that meet the hypotheses of `PathSubstitutionAndBands`. -/
theorem witness_PathSubstitutionAndBands :
    (∃ (s : State), getF s 212996 2 0 = 1 ∧ coreRuns s = true) ∧
    (∃ (s : State), getF s 212996 2 0 ≠ 1) ∧
    (∃ (s : State), getF s 212996 2 0 = 1 ∧ s.pathS.aligned = true ∧ sServes s < 4) ∧
    (∃ (s : State), (getF s 212996 2 0 ≠ 1 ∨ s.pathS.aligned = false)) ∧
    (∃ (s : State) (c : Nat), s.keeper.pend = [] ∧ getF s 212996 2 0 = 2 ∧ sCause s = 1 ∧ sServes s < 4 ∧ (getPath s (sServes s)).unsatSince = some c ∧ s.pathS.waiting = []) ∧
    (∃ (s : State), s.keeper.pend = [] ∧ s.pathS.waiting = [] ∧ getF s 212996 2 0 = 3) ∧
    (∃ (b : Fin 2) (f : Nat) (s : State), tabGet (fun _ => none) s.pathS.retune ↑b = some f ∧ f < 2 ^ 32) ∧
    (∃ (b : Fin 2) (s : State), tabGet (fun _ => none) s.pathS.retune ↑b = none) ∧
    (∃ (s : State), (∀ p < 4, pathState s p = 0)) ∧
    (∃ (k : Fin 3) (s : State), pathState s 0 ≠ 0 ∧ pathState s 2 ≠ 0 ∧ (↑k = 2 → getB s 229376 0 = true)) ∧
    (∃ (p : Fin 4) (v : Word) (s : State), bitOf v 0 = true ∧ (bandLo s (pathBand s ↑p) < 380000000 ∨ 1050000000 < bandLo s (pathBand s ↑p))) ∧
    (∃ (p : Fin 4) (v : Word) (s : State), bitOf v 0 = true ∧ getB s (rxBase ↑p) 0 = false ∧ synState s (pathBand s ↑p) = 4 ∧ 380000000 ≤ bandLo s (pathBand s ↑p) ∧ bandLo s (pathBand s ↑p) ≤ 1050000000) ∧
    (∃ (p : Fin 4) (v : Word) (s : State), bitOf v 0 = false ∧ getB s (rxBase ↑p) 0 = true) :=
  ⟨⟨sal, by decide +kernel⟩,
   ⟨State.reset, by decide +kernel⟩,
   ⟨sal2, by decide +kernel⟩,
   ⟨State.reset, by decide +kernel⟩,
   ⟨ssub, 5, by decide +kernel⟩,
   ⟨ssurv, by decide +kernel⟩,
   ⟨0, 433000000, rt, by decide +kernel⟩,
   ⟨0, State.reset, by decide +kernel⟩,
   ⟨State.reset, by decide +kernel⟩,
   ⟨0, onPaths, by decide +kernel⟩,
   ⟨0, 1, State.reset, by decide +kernel⟩,
   ⟨0, 1, lck, by decide +kernel⟩,
   ⟨0, 0, onPaths, by decide +kernel⟩⟩

/-- States and operands that meet the hypotheses of `SynthesiserStates`. -/
theorem witness_SynthesiserStates :
    (∃ (n : Fin 4) (s : State), quiet s = true ∧ s.keeper.pend = [] ∧ (synState s ↑n = 2 ∨ synState s ↑n = 3) ∧ (getSyn s ↑n).refreshing = none ∧ (2 ≤ ↑n → dueOn s (↑n - 2) = [])) ∧
    (∃ (n : Fin 4) (s : State), quiet s = true ∧ s.keeper.pend = [] ∧ synState s ↑n ≠ 2 ∧ synState s ↑n ≠ 3) ∧
    (∃ (n : Fin 4) (s : State), quiet s = true ∧ synState s ↑n = 4 ∧ (2 ≤ ↑n → inBurst s (↑n - 2) = false)) ∧
    (∃ (n : Fin 4) (s : State), quiet s = true ∧ synState s ↑n ≠ 4) ∧
    (∃ (n : Fin 4) (s : State), quiet s = true ∧ s.keeper.pend = [] ∧ synState s ↑n = 3 ∧ (getSyn s ↑n).retried = false) ∧
    (∃ (n : Fin 4) (s : State), quiet s = true ∧ s.keeper.pend = [] ∧ synState s ↑n = 3 ∧ (getSyn s ↑n).retried = true ∧ (2 ≤ ↑n → dueOn s (↑n - 2) = [])) ∧
    (∃ (p : Fin 2) (k : Nat) (s : State), inBurst s ↑p = false ∧ dueOn s ↑p = [] ∧ nextLock s ↑p = none ∧ (synState s (2 + ↑p) = 1 ∨ synState s (2 + ↑p) = 4) ∧ refreshPick s (2 + ↑p) = some k) ∧
    (∃ (p : Fin 2) (s : State), inBurst s ↑p = true) ∧
    (∃ (p : Fin 2) (s : State), synState s (2 + ↑p) = 4 ∧ getF s (synBase (2 + ↑p)) 23 16 ≠ 0 ∧ inBurst s ↑p = false ∧ dueOn s ↑p = [] ∧ nextLock s ↑p = none) :=
  ⟨⟨0, syB, by decide +kernel⟩,
   ⟨0, State.reset, by decide +kernel⟩,
   ⟨0, syA, by decide +kernel⟩,
   ⟨0, State.reset, by decide +kernel⟩,
   ⟨0, syC, by decide +kernel⟩,
   ⟨0, syD, by decide +kernel⟩,
   ⟨0, 371, syE, by decide +kernel⟩,
   ⟨0, syF, by decide +kernel⟩,
   ⟨0, syE, by decide +kernel⟩⟩

/-- States and operands that meet the hypotheses of `CalibrationTables`. -/
theorem witness_CalibrationTables :
    (∃ (n : Fin 4) (s : State), ↑n < 2 ∧ (getEntry s (↑n) (getF s (synBase ↑n + 24) 2 0)).valid = true) ∧
    (∃ (n : Fin 4) (s : State), ↑n < 2 ∧ (getEntry s (↑n) (getF s (synBase ↑n + 24) 2 0)).valid = false) ∧
    (∃ (n : Fin 4) (s : State), 2 ≤ ↑n ∧ inBurst s (↑n - 2) = true) ∧
    (∃ (n : Fin 4) (s : State), 2 ≤ ↑n ∧ inBurst s (↑n - 2) = false ∧ dueOn s (↑n - 2) = []) :=
  ⟨⟨0, syI, by decide +kernel⟩,
   ⟨0, State.reset, by decide +kernel⟩,
   ⟨3, syF, by decide +kernel⟩,
   ⟨3, State.reset, by decide +kernel⟩⟩

/-- States and operands that meet the hypotheses of `TransmitBursts`. -/
theorem witness_TransmitBursts :
    (∃ (n : Fin 128) (s : State), quiet s = true ∧ opLive s ↑n = true ∧ opKind s ↑n = 2 ∧ (getOp s ↑n).due = false ∧ applyPending s (opBase ↑n) = false ∧ getUse s ↑n = OpUse.none ∧ (getOp s ↑n).released = none ∧ (tripped s = true ∨ opFreq s ↑n < 380000000 ∨ 1050000000 < opFreq s ↑n ∨ txEnabled s 0 = false ∧ txEnabled s 1 = false)) ∧
    (∃ (n : Fin 128) (p : Nat) (s : State), quiet s = true ∧ opLive s ↑n = true ∧ opKind s ↑n = 2 ∧ (getOp s ↑n).due = false ∧ (getOp s ↑n).path = 2 ∧ tripped s = false ∧ 380000000 ≤ opFreq s ↑n ∧ opFreq s ↑n ≤ 1050000000 ∧ pathFor s ↑n = some p ∧ (∀ m < 128, m ≠ ↑n → opLive s m = false) ∧ inBurst s p = false ∧ (getOp s ↑n).planned = false ∧ acquiring s (2 + p) = false ∧ autoRamp s p = false) ∧
    (∃ (p : Fin 2) (n : Nat) (s : State), quiet s = true ∧ txEnabled s ↑p = true ∧ inBurst s ↑p = false ∧ dueOn s ↑p = [n] ∧ radiatingOn s ↑p = [] ∧ opKind s n = 2 ∧ (getOp s n).held = 0 ∧ tripped s = false ∧ coexOn s = false ∧ synState s (2 + ↑p) ≠ 4) ∧
    (∃ (p : Fin 2) (n : Nat) (s : State), quiet s = true ∧ txEnabled s ↑p = true ∧ inBurst s ↑p = false ∧ dueOn s ↑p = [n] ∧ radiatingOn s ↑p = [] ∧ opKind s n = 2 ∧ (getOp s n).held = 0 ∧ tripped s = false ∧ coexOn s = false ∧ lockedTo s (2 + ↑p) (getTx s ↑p).lo = true ∧ (getOp s n).planned = true ∧ tooLate s n (opPreamble s (↑p) n) = false) ∧
    (∃ (n : Fin 128) (p : Nat) (s : State), quiet s = true ∧ opLive s ↑n = true ∧ (getOp s ↑n).due = true ∧ (getOp s ↑n).radiating = false ∧ (getOp s ↑n).path = p ∧ opKind s ↑n = 2 ∧ (getOp s ↑n).held = 0 ∧ inBurst s p = true ∧ p < 2 ∧ inLo (opFreq s ↑n) (opWidth s ↑n) (getTx s p).lo = false ∧ activeOn s p = radiatingOn s p ∧ opTarget s ↑n ≤ nowNs s + (getOp s ↑n).ramp * us) ∧
    (∃ (n : Fin 128) (p : Nat) (c : Nat) (s : State), quiet s = true ∧ opLive s ↑n = true ∧ (getOp s ↑n).due = true ∧ (getOp s ↑n).radiating = false ∧ (getOp s ↑n).path = p ∧ opKind s ↑n = 2 ∧ (getOp s ↑n).held = 0 ∧ inBurst s p = true ∧ p < 2 ∧ (getOp s ↑n).planned = false ∧ inLo (opFreq s ↑n) (opWidth s ↑n) (getTx s p).lo = true ∧ (activeOn s p).length < 4 ∧ joinPower s p ↑n = some c ∧ activeOn s p = radiatingOn s p ∧ opTarget s ↑n ≤ nowNs s + (getOp s ↑n).ramp * us ∧ tooLate s (↑n) (max (opTarget s ↑n) (nowNs s)) = false ∧ gateShut s p = false) ∧
    (∃ (p : Fin 2) (n : Nat) (s : State), quiet s = true ∧ inBurst s ↑p = true ∧ radiatingOn s ↑p = [n] ∧ (getOp s n).released = none ∧ applyPending s (opBase n) = false ∧ coexOn s = false) ∧
    (∃ (v : Word) (s : State), quiet s = true ∧ bitOf v 0 = true) ∧
    (∃ (p : Fin 2) (v : Word) (s : State), quiet s = true ∧ bitOf v 0 = false ∧ dueOn s ↑p = [] ∧ coexOn s = false) :=
  ⟨⟨5, txB3, by decide +kernel⟩,
   ⟨5, 0, txB, by decide +kernel⟩,
   ⟨0, 5, txD2, by decide +kernel⟩,
   ⟨0, 5, txD, by decide +kernel⟩,
   ⟨6, 0, txR5, by decide +kernel⟩,
   ⟨6, 0, 100, txR4, by decide +kernel⟩,
   ⟨0, 5, txR, by decide +kernel⟩,
   ⟨1, State.reset, by decide +kernel⟩,
   ⟨0, 0, State.reset, by decide +kernel⟩⟩

/-- States and operands that meet the hypotheses of `TransmitOutcomes`. -/
theorem witness_TransmitOutcomes :
    (∃ (n : Fin 128) (l : Nat) (s : State), quiet s = true ∧ opLive s ↑n = true ∧ (getOp s ↑n).held ≠ 0 ∧ (getOp s ↑n).radiating = false ∧ opLimit s ↑n = some l ∧ applyPending s (opBase ↑n) = false ∧ getUse s ↑n = OpUse.none ∧ (getOp s ↑n).path < 2 ∧ coexOn s = false) ∧
    (∃ (n : Fin 128) (s : State), quiet s = true ∧ (getOp s ↑n).held = 0) ∧
    (∃ (n : Fin 128) (s : State), quiet s = true ∧ opLive s ↑n = true ∧ opKind s ↑n = 3 ∧ (getOp s ↑n).due = true ∧ (getOp s ↑n).radiating = false ∧ (getOp s ↑n).clear = false ∧ tripped s = false ∧ applyPending s (opBase ↑n) = false ∧ getUse s ↑n = OpUse.none ∧ (getOp s ↑n).released = none ∧ (getOp s ↑n).path < 2 ∧ coexOn s = false ∧ blindNow (reachNet (assessNs s ↑n * nsUnit) s) (opChannel s ↑n) = false) ∧
    (∃ (n : Fin 128) (bins : List (Int × BitVec 16)) (s : State), quiet s = true ∧ (getOp s ↑n).radiating = true ∧ (getOp s ↑n).path < 2 ∧ getF s (txBase (getOp s ↑n).path + 576) 15 0 ≠ 0 ∧ getF s 917508 17 16 ≠ (getOp s ↑n).path + 1 ∧ Option.any (fun w => decide (w.1 < 0)) (worstBin s (getOp s ↑n).path (↑n) bins) = true ∧ (getB s (txBase (getOp s ↑n).path + 4) 2 = false ∨ (getOp s ↑n).endClk ≤ s.ntb.clk)) ∧
    (∃ (n : Fin 128) (bins : List (Int × BitVec 16)) (s : State), quiet s = true ∧ (getOp s ↑n).radiating = true ∧ (getOp s ↑n).path < 2 ∧ getF s (txBase (getOp s ↑n).path + 576) 15 0 ≠ 0 ∧ getF s 917508 17 16 ≠ (getOp s ↑n).path + 1 ∧ Option.any (fun w => decide (w.1 < 0)) (worstBin s (getOp s ↑n).path (↑n) bins) = true ∧ getB s (txBase (getOp s ↑n).path + 4) 2 = true ∧ s.ntb.clk < (getOp s ↑n).endClk ∧ radiatingOn s (getOp s ↑n).path = [↑n] ∧ (getOp s ↑n).released = none ∧ applyPending s (opBase ↑n) = false ∧ coexOn s = false ∧ inBurst s (getOp s ↑n).path = true ∧ dueOn s (getOp s ↑n).path = []) ∧
    (∃ (n : Fin 128) (off : Int) (p : Nat) (s : State), 0 < getF s (txBase p + 576) 15 0 ∧ getF s (txBase p + 576) 15 0 ≤ off.natAbs ∧ getF s (txBase p + 580) 15 0 = 0 ∧ (↑(opFreq s ↑n) + 1000 * off - ↑(getTx s p).lo).natAbs ≤ 16000000 ∧ activeOn s p = [↑n]) ∧
    (∃ (n : Fin 128) (bins : List (Int × BitVec 16)) (s : State), quiet s = true ∧ ((getOp s ↑n).radiating = false ∨ Option.all (fun w => decide (0 ≤ w.1)) (worstBin s (getOp s ↑n).path (↑n) bins) = true)) :=
  ⟨⟨5, 10005000, txH, by decide +kernel⟩,
   ⟨5, State.reset, by decide +kernel⟩,
   ⟨5, txL, by decide +kernel⟩,
   ⟨5, [(300,16)], txM, by decide +kernel⟩,
   ⟨5, [(300,16)], txM2, by decide +kernel⟩,
   ⟨5, 300, 0, txM, by decide +kernel⟩,
   ⟨5, [], State.reset, by decide +kernel⟩⟩

/-- States and operands that meet the hypotheses of `CoexistenceWires`. -/
theorem witness_CoexistenceWires :
    (∃ (p : Fin 2) (n : Nat) (s : State), s.uses = [] ∧ s.nodes.runs = [] ∧ (List.all s.ops fun p => !p.2.closed) = true ∧ requester s = true ∧ coreRuns s = true ∧ inBurst s ↑p = false ∧ dueOn s ↑p = [n] ∧ opKind s n = 2 ∧ (getOp s n).held = 0) ∧
    (∃ (s : State), quiet s = true) ∧
    (∃ (s : State), arbiter s = false) ∧
    (∃ (p : Fin 2) (n : Nat) (s : State), arbiter s = true ∧ coreRuns s = true ∧ List.filter (fun m => opLive s m && isTxKind (opKind s m) && !(getOp s m).radiating && (getOp s m).path == ↑p) (List.range 128) = [n]) :=
  ⟨⟨0, 5, cxDue, by decide +kernel⟩,
   ⟨State.reset, by decide +kernel⟩,
   ⟨State.reset, by decide +kernel⟩,
   ⟨0, 5, cxArb2, by decide +kernel⟩⟩

/-- States and operands that meet the hypotheses of `OperationQueue`. -/
theorem witness_OperationQueue :
    (∃ (n : Fin 128) (s : State), opState s ↑n ≠ 1 ∧ opState s ↑n ≠ 4) ∧
    (∃ (n : Fin 128) (s : State), (opState s ↑n = 1 ∨ opState s ↑n = 4) ∧ applyPending s (opBase ↑n) = true) ∧
    (∃ (n : Fin 128) (s : State), (opState s ↑n = 1 ∨ opState s ↑n = 4) ∧ applyPending s (opBase ↑n) = false ∧ opNow s ↑n ≤ opStartReg s ↑n) ∧
    (∃ (n : Fin 128) (s : State), (opState s ↑n = 1 ∨ opState s ↑n = 4) ∧ applyPending s (opBase ↑n) = false ∧ opStartReg s ↑n + opTolNs s ↑n < opNow s ↑n) ∧
    (∃ (n : Fin 128) (s : State), quiet s = true ∧ opLive s ↑n = true ∧ (getOp s ↑n).radiating = false ∧ (getOp s ↑n).released = none ∧ applyPending s (opBase ↑n) = false) ∧
    (∃ (n : Fin 128) (s : State), quiet s = true ∧ opLive s ↑n = false) ∧
    (∃ (n : Fin 128) (s : State), quiet s = true ∧ coreRuns s = true ∧ opState s ↑n = 2 ∧ (getOp s ↑n).released = none ∧ applyPending s (opBase ↑n) = false ∧ opKind s ↑n = 0) ∧
    (∃ (n : Fin 128) (s : State), quiet s = true ∧ coreRuns s = true ∧ opState s ↑n = 2 ∧ (getOp s ↑n).released = none ∧ applyPending s (opBase ↑n) = false ∧ opKind s ↑n = 1) ∧
    (∃ (n : Fin 128) (s : State), opState s ↑n = 3 ∧ opKind s ↑n = 5 ∧ (getOp s ↑n).released = none ∧ applyPending s (opBase ↑n) = false) ∧
    (∃ (n : Fin 128) (s : State), quiet s = true ∧ s.intake = [] ∧ s.nodes.mics = [] ∧ opState s ↑n = 3 ∧ opKind s ↑n = 1 ∧ (getOp s ↑n).released = none ∧ applyPending s (opBase ↑n) = false ∧ slotState s (opChannel s ↑n) 0 = 0 ∧ slotState s (opChannel s ↑n) 1 = 0) ∧
    (∃ (n : Fin 128) (s : State), quiet s = true ∧ opState s ↑n = 4 ∧ opOwner s ↑n ≠ 17 ∧ ↑n < hostFirst s) :=
  ⟨⟨0, State.reset, by decide +kernel⟩,
   ⟨0, setB (opBase 0) 8 true (setOpState 0 1 State.reset), by decide +kernel⟩,
   ⟨5, oI, by decide +kernel⟩,
   ⟨5, oLate, by decide +kernel⟩,
   ⟨5, oMark, by decide +kernel⟩,
   ⟨0, State.reset, by decide +kernel⟩,
   ⟨6, oMark, by decide +kernel⟩,
   ⟨5, oMark, by decide +kernel⟩,
   ⟨120, oWin, by decide +kernel⟩,
   ⟨5, oWin, by decide +kernel⟩,
   ⟨0, setF 0x78000 7 0 8 (setOpState 0 4 State.reset), by decide +kernel⟩⟩

/-- States and operands that meet the hypotheses of `ChannelMatches`. -/
theorem witness_ChannelMatches :
    (∃ (ch : Fin 64) (m : Match) (s : State), blockDue s = none ∧ passing s ↑ch [m] = [m] ∧ applyPending s (chBase ↑ch) = true ∧ applyHeld s (chBase ↑ch) = false) ∧
    (∃ (ch : Fin 64) (m : Match) (s : State), blockDue s = none ∧ passing s ↑ch [m] = [m] ∧ applyPending s (chBase ↑ch) = false ∧ slotState s (↑ch) 0 ≠ 0 ∧ slotState s (↑ch) 1 ≠ 0) ∧
    (∃ (ch : Fin 64) (m : Match) (s : State), blockDue s = none ∧ getB s (chBase ↑ch + 4) 0 = true ∧ getB s (chBase ↑ch + 36) 8 = false ∧ inWatch s = false ∧ bandHears s (chBand s ↑ch) = true ∧ ↑m.mode ∈ chModes s ↑ch ∧ 16 ≤ m.preamble ∧ matchPaths s (↑ch) m ≠ [] ∧ syncErrs s (↑ch) m ≤ getF s (chBase ↑ch + 28) 2 0 ∧ offsetOk s (↑ch) (↑m.mode) m.foff = true ∧ applyPending s (chBase ↑ch) = false ∧ slotState s (↑ch) 0 = 0 ∧ slotState s (↑ch) 1 = 0) ∧
    (∃ (ch : Fin 64) (m : Match) (s : State), blockDue s = none ∧ passing s ↑ch [m] = [m] ∧ applyPending s (chBase ↑ch) = false ∧ slotState s (↑ch) 0 = 1 ∧ slotState s (↑ch) 1 = 0) ∧
    (∃ (ch : Fin 64) (m : Match) (s : State), blockDue s = none ∧ passing s ↑ch [m] = [m] ∧ applyPending s (chBase ↑ch) = false ∧ slotState s (↑ch) 0 = 2 ∧ slotState s (↑ch) 1 = 0 ∧ (getSlot s (↑ch) 0).stepSeen = false) ∧
    (∃ (ch : Fin 64) (m : Match) (s : State), blockDue s = none ∧ passing s ↑ch [m] = [m] ∧ applyPending s (chBase ↑ch) = false ∧ slotState s (↑ch) 0 = 2 ∧ slotState s (↑ch) 1 = 0 ∧ (getSlot s (↑ch) 0).stepSeen = true) ∧
    (∃ (ch : Fin 64) (m : Match) (ms : List Match) (s : State), blockDue s = none ∧ passing s (↑ch) (m :: ms) = []) :=
  ⟨⟨0, { mode := 0, preamble := 16, window := 0x9e4b35d1#32, paths := 0x9#4, rssi := 0xfe00#16, snr := 0x0028#16, foff := 0x0003#16, agc := 0xff00#16 }, cPend, by decide +kernel⟩,
   ⟨0, { mode := 0, preamble := 16, window := 0x9e4b35d1#32, paths := 0x9#4, rssi := 0xfe00#16, snr := 0x0028#16, foff := 0x0003#16, agc := 0xff00#16 }, c12 0, by decide +kernel⟩,
   ⟨0, { mode := 0, preamble := 16, window := 0x9e4b35d1#32, paths := 0x9#4, rssi := 0xfe00#16, snr := 0x0028#16, foff := 0x0003#16, agc := 0xff00#16 }, c0, by decide +kernel⟩,
   ⟨0, { mode := 0, preamble := 16, window := 0x9e4b35d1#32, paths := 0x9#4, rssi := 0xfe00#16, snr := 0x0028#16, foff := 0x0003#16, agc := 0xff00#16 }, c1 0, by decide +kernel⟩,
   ⟨0, { mode := 0, preamble := 16, window := 0x9e4b35d1#32, paths := 0x9#4, rssi := 0xfe00#16, snr := 0x0028#16, foff := 0x0003#16, agc := 0xff00#16 }, c2 0, by decide +kernel⟩,
   ⟨0, { mode := 0, preamble := 16, window := 0x9e4b35d1#32, paths := 0x9#4, rssi := 0xfe00#16, snr := 0x0028#16, foff := 0x0003#16, agc := 0xff00#16 }, c2s 0 0, by decide +kernel⟩,
   ⟨0, { mode := 0, preamble := 16, window := 0x9e4b35d1#32, paths := 0x9#4, rssi := 0xfe00#16, snr := 0x0028#16, foff := 0x0003#16, agc := 0xff00#16 }, [{ mode := 0, preamble := 16, window := 0x9e4b35d1#32, paths := 0x9#4, rssi := 0xfe00#16, snr := 0x0028#16, foff := 0x0003#16, agc := 0xff00#16 }], State.reset, by decide +kernel⟩⟩

/-- States and operands that meet the hypotheses of `ReceptionOutcomes`. -/
theorem witness_ReceptionOutcomes :
    (∃ (ch : Fin 64) (k : Fin 2) (h : Word) (s : State), quiet s = true ∧ blockDue s = none ∧ slotState s ↑ch ↑k = 1 ∧ hcrc (BitVec.toNat h % 2 ^ 24) ≠ BitVec.toNat h / 2 ^ 24) ∧
    (∃ (ch : Fin 64) (k : Fin 2) (h : Word) (s : State), quiet s = true ∧ blockDue s = none ∧ slotState s ↑ch ↑k = 1 ∧ hcrc (BitVec.toNat h % 2 ^ 24) = BitVec.toNat h / 2 ^ 24 ∧ (fieldOf h 19 18 ≠ 1 ∨ fieldOf h 2 0 ≠ (getSlot s ↑ch ↑k).mode ∨ (getSlot s ↑ch ↑k).mode = 0 ∧ bitOf h 14 = false ∨ 2 ≤ (getSlot s ↑ch ↑k).mode ∧ bitOf h 14 = true)) ∧
    (∃ (ch : Fin 64) (k : Fin 2) (h : Word) (s : State), quiet s = true ∧ blockDue s = none ∧ slotState s ↑ch ↑k = 1 ∧ hcrc (BitVec.toNat h % 2 ^ 24) = BitVec.toNat h / 2 ^ 24 ∧ headerInvalid (getSlot s ↑ch ↑k).mode (BitVec.toNat h) = false ∧ fieldOf h 13 3 = 0 ∧ bitOf h 21 = false ∧ s.ops = []) ∧
    (∃ (ch : Fin 64) (k : Fin 2) (h : Word) (s : State), quiet s = true ∧ blockDue s = none ∧ slotState s ↑ch ↑k = 1 ∧ hcrc (BitVec.toNat h % 2 ^ 24) = BitVec.toNat h / 2 ^ 24 ∧ headerInvalid (getSlot s ↑ch ↑k).mode (BitVec.toNat h) = false ∧ fieldOf h 13 3 ≠ 0 ∧ slotState s (↑ch) (1 - ↑k) = 0) ∧
    (∃ (ch : Fin 64) (k : Fin 2) (s : State), quiet s = true ∧ s.ops = [] ∧ blockDue s = none ∧ blankedDuring s ↑ch ↑k = false ∧ slotState s ↑ch ↑k = 2) ∧
    (∃ (ch : Fin 64) (k : Fin 2) (s : State), quiet s = true ∧ s.ops = [] ∧ blockDue s = none ∧ slotState s ↑ch ↑k = 3 ∧ (getSlot s ↑ch ↑k).blocks ≠ 0) ∧
    (∃ (x : Slot) (soft : List Byte) (b : Byte), b ∈ softOf x soft) ∧
    (∃ (ch : Fin 64) (k : Fin 2) (v : BitVec 16) (s : State), blockDue s = none ∧ (slotState s ↑ch ↑k = 1 ∨ slotState s ↑ch ↑k = 2) ∧ (getSlot s ↑ch ↑k).rssi.toInt + 4 * ↑(getF s (chBase ↑ch + 16) 11 8) ≤ v.toInt) ∧
    (∃ (ch : Fin 64) (k : Fin 2) (v : BitVec 16) (s : State), blockDue s = none ∧ (slotState s ↑ch ↑k = 0 ∨ slotState s ↑ch ↑k = 4 ∨ v.toInt < (getSlot s ↑ch ↑k).rssi.toInt + 4 * ↑(getF s (chBase ↑ch + 16) 11 8))) ∧
    (∃ (ch : Fin 64) (k : Fin 2) (v : BitVec 16) (s : State), blockDue s = none ∧ v.toInt < (getSlot s ↑ch ↑k).rssi.toInt + 4 * ↑(getF s (chBase ↑ch + 16) 11 8) - 4) ∧
    (∃ (ch : Fin 64) (k : Fin 2) (v : BitVec 16) (s : State), blockDue s = none ∧ (getSlot s ↑ch ↑k).rssi.toInt + 4 * ↑(getF s (chBase ↑ch + 16) 11 8) - 4 ≤ v.toInt) ∧
    (∃ (ch : Fin 64) (s : State), blockDue s = none ∧ waitingHeld s (↑ch) 0 = true) ∧
    (∃ (ch : Fin 64) (s : State), blockDue s = none ∧ waitingHeld s (↑ch) 0 = false ∧ waitingHeld s (↑ch) 1 = false) ∧
    (∃ (ch : Fin 64) (k : Fin 2) (s : State), quiet s = true ∧ s.ops = [] ∧ blockDue s = none ∧ slotState s ↑ch ↑k = 4) ∧
    (∃ (ch : Fin 64) (k : Fin 2) (s : State), quiet s = true ∧ blockDue s = none ∧ slotState s ↑ch ↑k = 0) :=
  ⟨⟨0, 0, 0x00000123#32, c1 0, by decide +kernel⟩,
   ⟨0, 0, 0x62040003#32, c1 0, by decide +kernel⟩,
   ⟨0, 0, 0x87044000#32, c1 0, by decide +kernel⟩,
   ⟨0, 0, 0x48044018#32, c1 0, by decide +kernel⟩,
   ⟨0, 0, c2 0, by decide +kernel⟩,
   ⟨0, 0, at0 c32, by decide +kernel⟩,
   ⟨(sl 0 5 3 true 0 : Slot), [], 0, by decide +kernel⟩,
   ⟨0, 0, 0x1234, c1 0, by decide +kernel⟩,
   ⟨0, 0, 0, State.reset, by decide +kernel⟩,
   ⟨0, 0, 0, State.reset, by decide +kernel⟩,
   ⟨0, 0, 0, setSlot 0 0 { rssi := 0xFE00 } c0, by decide +kernel⟩,
   ⟨0, c3h true, by decide +kernel⟩,
   ⟨0, State.reset, by decide +kernel⟩,
   ⟨0, 0, setSlotState 0 0 4 State.reset, by decide +kernel⟩,
   ⟨0, 0, State.reset, by decide +kernel⟩⟩

/-- States and operands that meet the hypotheses of `DetectBalanceKept`. -/
theorem witness_DetectBalanceKept :
    (∃ (c : Nat) (x : Instr) (s : State), c < 64 ∧ detectBalanced s c ∧ quiet s = true ∧ s.ops = [] ∧ isReception x = true) :=
  ⟨0, .redecodeEnd 0 0 [], State.reset, by decide, by unfold detectBalanced; decide +kernel, by decide +kernel, by decide +kernel, rfl⟩

/-- States and operands that meet the hypotheses of `ScheduledActivities`. -/
theorem witness_ScheduledActivities :
    (∃ (s : State), getB s 491536 19 = false ∧ s.mac.beaconOn = false) ∧
    (∃ (s : State), devNid s = 0) ∧
    (∃ (s : State) (n : Nat), s.ntb.slew = 0 ∧ coreRuns s = true ∧ getB s 491536 19 = true ∧ s.mac.beaconOn = true ∧ devNid s ≠ 0 ∧ (beaconKey s).isSome = true ∧ beaconWritten s OpUse.beacon (nextBeacon s (nowNs s)) = false ∧ freeEntry s true = some n ∧ getB s 491564 2 = false) ∧
    (∃ (s : State), getB s 491540 3 = false) ∧
    (∃ (s : State) (n : Nat) (c : Nat), s.ntb.slew = 0 ∧ coreRuns s = true ∧ getB s 491540 3 = true ∧ devNid s ≠ 0 ∧ rescueChannels s = [c] ∧ freeEntry s true = some n ∧ (beaconWritten s OpUse.lighthouse (if nowNs s ≤ nowNs s / 2000000000 * 2000000000 + devOf s * s.mac.slotUs * 1000 then nowNs s / 2000000000 * 2000000000 + devOf s * s.mac.slotUs * 1000 else nowNs s / 2000000000 * 2000000000 + devOf s * s.mac.slotUs * 1000 + 2000000000) = false)) ∧
    (∃ (n : Fin 128) (x : BitVec 16) (s : State), s.uses = [] ∧ s.ops = [] ∧ s.nodes.runs = [] ∧ requester s = false ∧ coreRuns s = true ∧ s.ntb.slew = 0 ∧ schedulable s x.toNat = true ∧ (dlAllowed s x.toNat = false ∨ headDl s x.toNat = none) ∧ freeEntry s false = some ↑n ∧ anchNow s ≤ (eventWindow s (getCtx s x.toNat) { } (getCtx s x.toNat).k (chanOf (getCtx s x.toNat) (getCtx s x.toNat).k) false).opens) ∧
    (∃ (x : BitVec 16) (s : State), quiet s = true ∧ schedulable s x.toNat = false) ∧
    (∃ (x : BitVec 16) (s : State), schedulable s x.toNat = true ∧ freeEntry s false = none) ∧
    (∃ (a : AckDue) (n : Fin 128) (s : State), s.uses = [] ∧ s.ops = [] ∧ s.nodes.runs = [] ∧ requester s = false ∧ s.nodes.acks = [a] ∧ isHome s a.ctx = true ∧ freeEntry s false = some ↑n ∧ a.ch < 64 ∧ a.mode < 8) ∧
    (∃ (a : AckDue) (s : State), quiet s = true ∧ s.nodes.acks = [a] ∧ isHome s a.ctx = false) ∧
    (∃ (x : BitVec 16) (s : State), isHome s x.toNat = true ∧ (getCtx s x.toNat).supTo ≠ 0 ∧ (getCtx s x.toNat).mstate ≠ 2 ∧ usedFor s (isWindowOf x.toNat) = []) ∧
    (∃ (x : BitVec 16) (s : State), (isHome s x.toNat = false ∨ (getCtx s x.toNat).supTo = 0 ∨ (getCtx s x.toNat).mstate = 2)) ∧
    (∃ (s : State), (getB s 491568 0 = false ∨ getF s 491572 1 0 ≠ 1)) ∧
    (∃ (s : State), getB s 491568 0 = true ∧ getF s 491572 1 0 = 1) :=
  ⟨⟨State.reset, by decide +kernel⟩,
   ⟨State.reset, by decide +kernel⟩,
   ⟨ndB, 0, by decide +kernel⟩,
   ⟨State.reset, by decide +kernel⟩,
   ⟨ndLh, 0, 5, by decide +kernel⟩,
   ⟨0, 5, ndLh, by decide +kernel⟩,
   ⟨5, State.reset, by decide +kernel⟩,
   ⟨5, ndFull, by decide +kernel⟩,
   ⟨({ ctx := 5, ch := 5, mode := 2, fec := false, aseq := 2, start := 1001 * 1000000000 } : AckDue), 0, ndAck, by decide +kernel⟩,
   ⟨({ ctx := 9, ch := 5, mode := 2, fec := false, aseq := 2, start := 1001 * 1000000000 } : AckDue), ndAck2, by decide +kernel⟩,
   ⟨5, ndLh, by decide +kernel⟩,
   ⟨5, State.reset, by decide +kernel⟩,
   ⟨State.reset, by decide +kernel⟩,
   ⟨ndRel, by decide +kernel⟩⟩

/-- States and operands that meet the hypotheses of `UplinkIntake`, part 1. -/
theorem witness_UplinkIntake :
    (∃ (s : State), quiet s = true ∧ s.intake = []) ∧
    (∃ (r : RxRec) (rs : List RxRec) (s : State), quiet s = true ∧ s.intake = r :: rs ∧ r.outcome = 2) ∧
    (∃ (r : RxRec) (rs : List RxRec) (s : State), quiet s = true ∧ s.intake = r :: rs ∧ r.outcome = 0 ∧ (List.all s.ctx fun p => p.2.role != 2 && p.2.role != 3 || p.2.ci == 0) = true ∧ r.header.testBit 20 = true ∧ getB s 491568 0 = false) ∧
    (∃ (r : RxRec) (rs : List RxRec) (s : State), quiet s = true ∧ s.intake = r :: rs ∧ r.outcome = 0 ∧ (List.all s.ctx fun p => p.2.role != 2 && p.2.role != 3 || p.2.ci == 0) = true ∧ r.header.testBit 20 = false ∧ r.header / 8 % 2048 ≠ 0 ∧ parseMac r.payload = none) :=
  ⟨⟨State.reset, by decide +kernel⟩,
   ⟨{ ch := 5, slot := 0, mode := 2, header := 262338, stamp := 72057594037927936000000000000, step := 0, anch := 72057594037927936000000000000, outcome := 2, flags := 0x00010000#32, rssi := 0xfe00#16, snr := 0x0028#16, foff := 0x0000#16, rxseq := 3, related := 0, payload := [0x09#8, 0x00#8, 0x07#8, 0x34#8, 0x12#8, 0xff#8, 0xff#8, 0xff#8, 0x2c#8, 0x1b#8, 0x0a#8, 0x00#8, 0x01#8, 0x05#8, 0x00#8, 0x00#8, 0x00#8, 0x4b#8, 0x84#8, 0x02#8, 0x35#8, 0x30#8, 0xea#8, 0x88#8], crc := 0, soft := [] }, [], upH, by decide +kernel⟩,
   ⟨{ ch := 5, slot := 0, mode := 2, header := 1310914, stamp := 72057594037927936000000000000, step := 0, anch := 72057594037927936000000000000, outcome := 0, flags := 0x00010000#32, rssi := 0xfe00#16, snr := 0x0028#16, foff := 0x0000#16, rxseq := 3, related := 0, payload := [0x09#8, 0x00#8, 0x07#8, 0x34#8, 0x12#8, 0xff#8, 0xff#8, 0xff#8, 0x2c#8, 0x1b#8, 0x0a#8, 0x00#8, 0x01#8, 0x05#8, 0x00#8, 0x00#8, 0x00#8, 0x4b#8, 0x84#8, 0x02#8, 0x35#8, 0x30#8, 0xea#8, 0x88#8], crc := 0, soft := [] }, [], upE, by decide +kernel⟩,
   ⟨{ ch := 5, slot := 0, mode := 2, header := 262162, stamp := 72057594037927936000000000000, step := 0, anch := 72057594037927936000000000000, outcome := 0, flags := 0x00010000#32, rssi := 0xfe00#16, snr := 0x0028#16, foff := 0x0000#16, rxseq := 3, related := 0, payload := [0x01#8, 0x02#8], crc := 0, soft := [] }, [], upD, by decide +kernel⟩⟩

/-- States and operands that meet the hypotheses of `UplinkIntake`, part 2. -/
theorem witness_UplinkIntake_2 :
    (∃ (r : RxRec) (rs : List RxRec) (s : State) (f : MacFrame), quiet s = true ∧ s.intake = r :: rs ∧ r.outcome = 0 ∧ (List.all s.ctx fun p => p.2.role != 2 && p.2.role != 3 || p.2.ci == 0) = true ∧ parseMac r.payload = some f ∧ r.header.testBit 20 = false ∧ r.header / 8 % 2048 ≠ 0 ∧ f.sec = true ∧ f.typ ≠ 4 ∧ f.keyIndex = 0 ∧ findNode s f.src = none) ∧
    (∃ (r : RxRec) (rs : List RxRec) (s : State) (f : MacFrame) (n : Nat), quiet s = true ∧ s.intake = r :: rs ∧ r.outcome = 0 ∧ (List.all s.ctx fun p => p.2.role != 2 && p.2.role != 3 || p.2.ci == 0) = true ∧ parseMac r.payload = some f ∧ r.header.testBit 20 = false ∧ r.header / 8 % 2048 ≠ 0 ∧ f.sec = true ∧ f.typ ≠ 4 ∧ f.keyIndex = 0 ∧ findNode s f.src = some n ∧ inMap s n r.ch = true) ∧
    (∃ (s : State), quiet s = true ∧ s.nodes.mics = []) ∧
    (∃ (w : MicWait) (ws : List MicWait) (f : MacFrame) (s : State), quiet s = true ∧ s.nodes.mics = w :: ws ∧ parseMac w.bytes = some f ∧ (micKey s w f).1 = none) :=
  ⟨⟨{ ch := 5, slot := 0, mode := 2, header := 262338, stamp := 72057594037927936000000000000, step := 0, anch := 72057594037927936000000000000, outcome := 0, flags := 0x00010000#32, rssi := 0xfe00#16, snr := 0x0028#16, foff := 0x0000#16, rxseq := 3, related := 0, payload := [0x09#8, 0x00#8, 0x07#8, 0x34#8, 0x12#8, 0xff#8, 0xff#8, 0xff#8, 0x2d#8, 0x1b#8, 0x0a#8, 0x00#8, 0x01#8, 0x05#8, 0x00#8, 0x00#8, 0x00#8, 0x41#8, 0x2c#8, 0xc7#8, 0x21#8, 0x00#8, 0x8e#8, 0x9e#8], crc := 0, soft := [] }, [], upC, { typ := 1, sec := true, ackreq := false, pending := false, seq := 7, nid := 4660, dst := 16777215, src := 662317, eui := 0, keyIndex := 0, enc := true, mic64 := false, fcnt := 5, hops := 0, origin := 0, head := [0x09#8, 0x00#8, 0x07#8, 0x34#8, 0x12#8, 0xff#8, 0xff#8, 0xff#8, 0x2d#8, 0x1b#8, 0x0a#8, 0x00#8, 0x01#8, 0x05#8, 0x00#8, 0x00#8, 0x00#8], payload := [0x41#8, 0x2c#8, 0xc7#8], mic := [0x21#8, 0x00#8, 0x8e#8, 0x9e#8] }, by decide +kernel⟩,
   ⟨{ ch := 5, slot := 0, mode := 2, header := 262338, stamp := 72057594037927936000000000000, step := 0, anch := 72057594037927936000000000000, outcome := 0, flags := 0x00010000#32, rssi := 0xfe00#16, snr := 0x0028#16, foff := 0x0000#16, rxseq := 3, related := 0, payload := [0x09#8, 0x00#8, 0x07#8, 0x34#8, 0x12#8, 0xff#8, 0xff#8, 0xff#8, 0x2c#8, 0x1b#8, 0x0a#8, 0x00#8, 0x01#8, 0x05#8, 0x00#8, 0x00#8, 0x00#8, 0x4b#8, 0x84#8, 0x02#8, 0x35#8, 0x30#8, 0xea#8, 0x88#8], crc := 0, soft := [] }, [], upA, { typ := 1, sec := true, ackreq := false, pending := false, seq := 7, nid := 4660, dst := 16777215, src := 662316, eui := 0, keyIndex := 0, enc := true, mic64 := false, fcnt := 5, hops := 0, origin := 0, head := [0x09#8, 0x00#8, 0x07#8, 0x34#8, 0x12#8, 0xff#8, 0xff#8, 0xff#8, 0x2c#8, 0x1b#8, 0x0a#8, 0x00#8, 0x01#8, 0x05#8, 0x00#8, 0x00#8, 0x00#8], payload := [0x4b#8, 0x84#8, 0x02#8], mic := [0x35#8, 0x30#8, 0xea#8, 0x88#8] }, 5, by decide +kernel⟩,
   ⟨State.reset, by decide +kernel⟩,
   ⟨{ rx := { ch := 5, slot := 0, mode := 2, header := 262338, stamp := 72057594037927936000000000000, step := 0, anch := 72057594037927936000000000000, outcome := 0, flags := 0x00010000#32, rssi := 0xfe00#16, snr := 0x0028#16, foff := 0x0000#16, rxseq := 3, related := 0, payload := [0x09#8, 0x00#8, 0x07#8, 0x34#8, 0x12#8, 0xff#8, 0xff#8, 0xff#8, 0x2c#8, 0x1b#8, 0x0a#8, 0x00#8, 0x01#8, 0x05#8, 0x00#8, 0x00#8, 0x00#8, 0x4b#8, 0x84#8, 0x02#8, 0x35#8, 0x30#8, 0xea#8, 0x88#8], crc := 0, soft := [] }, bytes := [0x09#8, 0x00#8, 0x07#8, 0x34#8, 0x12#8, 0xff#8, 0xff#8, 0xff#8, 0x2c#8, 0x1b#8, 0x0a#8, 0x00#8, 0x01#8, 0x05#8, 0x00#8, 0x00#8, 0x00#8, 0x4b#8, 0x84#8, 0x02#8, 0x35#8, 0x30#8, 0xea#8, 0x88#8], kind := Sys2Proof.Machine.MicKind.node 9, rescued := none }, [], { typ := 1, sec := true, ackreq := false, pending := false, seq := 7, nid := 4660, dst := 16777215, src := 662316, eui := 0, keyIndex := 0, enc := true, mic64 := false, fcnt := 5, hops := 0, origin := 0, head := [0x09#8, 0x00#8, 0x07#8, 0x34#8, 0x12#8, 0xff#8, 0xff#8, 0xff#8, 0x2c#8, 0x1b#8, 0x0a#8, 0x00#8, 0x01#8, 0x05#8, 0x00#8, 0x00#8, 0x00#8], payload := [0x4b#8, 0x84#8, 0x02#8], mic := [0x35#8, 0x30#8, 0xea#8, 0x88#8] }, miE, by decide +kernel⟩⟩

/-- States and operands that meet the hypotheses of `UplinkIntake`, part 3. -/
theorem witness_UplinkIntake_3 :
    (∃ (w : MicWait) (ws : List MicWait) (f : MacFrame) (s : State) (key : List Byte), quiet s = true ∧ s.nodes.mics = w :: ws ∧ parseMac w.bytes = some f ∧ (micKey s w f).1 = some key ∧ macOpen key (micKey s w f).2 (w.rx.header.testBit 20) f = none) ∧
    (∃ (w : MicWait) (ws : List MicWait) (f : MacFrame) (s : State) (key : List Byte) (p : List Byte) (n : Nat), quiet s = true ∧ s.nodes.mics = w :: ws ∧ parseMac w.bytes = some f ∧ (micKey s w f).1 = some key ∧ macOpen key (micKey s w f).2 (w.rx.header.testBit 20) f = some p ∧ w.kind = MicKind.node n ∧ judgeFcnt (getCtx s n) f.fcnt = 2 ∧ f.ackreq = false) ∧
    (∃ (w : MicWait) (ws : List MicWait) (f : MacFrame) (s : State) (key : List Byte) (p : List Byte) (n : Nat), quiet s = true ∧ s.nodes.mics = w :: ws ∧ parseMac w.bytes = some f ∧ (micKey s w f).1 = some key ∧ macOpen key (micKey s w f).2 (w.rx.header.testBit 20) f = some p ∧ w.kind = MicKind.node n ∧ judgeFcnt (getCtx s n) f.fcnt = 3) ∧
    (∃ (w : MicWait) (ws : List MicWait) (f : MacFrame) (s : State) (key : List Byte) (p : List Byte) (n : Nat), quiet s = true ∧ s.nodes.mics = w :: ws ∧ parseMac w.bytes = some f ∧ (micKey s w f).1 = some key ∧ macOpen key (micKey s w f).2 (w.rx.header.testBit 20) f = some p ∧ w.kind = MicKind.node n ∧ isHome s n = true ∧ ((getCtx s n).upCount = 0 ∨ (getCtx s n).upFcnt < f.fcnt)) :=
  ⟨⟨{ rx := { ch := 5, slot := 0, mode := 2, header := 262338, stamp := 72057594037927936000000000000, step := 0, anch := 72057594037927936000000000000, outcome := 0, flags := 0x00010000#32, rssi := 0xfe00#16, snr := 0x0028#16, foff := 0x0000#16, rxseq := 3, related := 0, payload := [0x09#8, 0x00#8, 0x07#8, 0x34#8, 0x12#8, 0xff#8, 0xff#8, 0xff#8, 0x2c#8, 0x1b#8, 0x0a#8, 0x00#8, 0x01#8, 0x05#8, 0x00#8, 0x00#8, 0x00#8, 0x4b#8, 0x84#8, 0x02#8, 0x09#8, 0x30#8, 0xea#8, 0x88#8], crc := 0, soft := [] }, bytes := [0x09#8, 0x00#8, 0x07#8, 0x34#8, 0x12#8, 0xff#8, 0xff#8, 0xff#8, 0x2c#8, 0x1b#8, 0x0a#8, 0x00#8, 0x01#8, 0x05#8, 0x00#8, 0x00#8, 0x00#8, 0x4b#8, 0x84#8, 0x02#8, 0x09#8, 0x30#8, 0xea#8, 0x88#8], kind := Sys2Proof.Machine.MicKind.node 5, rescued := none }, [], { typ := 1, sec := true, ackreq := false, pending := false, seq := 7, nid := 4660, dst := 16777215, src := 662316, eui := 0, keyIndex := 0, enc := true, mic64 := false, fcnt := 5, hops := 0, origin := 0, head := [0x09#8, 0x00#8, 0x07#8, 0x34#8, 0x12#8, 0xff#8, 0xff#8, 0xff#8, 0x2c#8, 0x1b#8, 0x0a#8, 0x00#8, 0x01#8, 0x05#8, 0x00#8, 0x00#8, 0x00#8], payload := [0x4b#8, 0x84#8, 0x02#8], mic := [0x09#8, 0x30#8, 0xea#8, 0x88#8] }, miB, (leBytes 16 77 : List Byte), by decide +kernel⟩,
   ⟨{ rx := { ch := 5, slot := 0, mode := 2, header := 262338, stamp := 72057594037927936000000000000, step := 0, anch := 72057594037927936000000000000, outcome := 0, flags := 0x00010000#32, rssi := 0xfe00#16, snr := 0x0028#16, foff := 0x0000#16, rxseq := 3, related := 0, payload := [0x09#8, 0x00#8, 0x07#8, 0x34#8, 0x12#8, 0xff#8, 0xff#8, 0xff#8, 0x2c#8, 0x1b#8, 0x0a#8, 0x00#8, 0x01#8, 0x32#8, 0x00#8, 0x00#8, 0x00#8, 0xc8#8, 0xd1#8, 0x34#8, 0xf7#8, 0x26#8, 0x42#8, 0x83#8], crc := 0, soft := [] }, bytes := [0x09#8, 0x00#8, 0x07#8, 0x34#8, 0x12#8, 0xff#8, 0xff#8, 0xff#8, 0x2c#8, 0x1b#8, 0x0a#8, 0x00#8, 0x01#8, 0x32#8, 0x00#8, 0x00#8, 0x00#8, 0xc8#8, 0xd1#8, 0x34#8, 0xf7#8, 0x26#8, 0x42#8, 0x83#8], kind := Sys2Proof.Machine.MicKind.node 5, rescued := none }, [], { typ := 1, sec := true, ackreq := false, pending := false, seq := 7, nid := 4660, dst := 16777215, src := 662316, eui := 0, keyIndex := 0, enc := true, mic64 := false, fcnt := 50, hops := 0, origin := 0, head := [0x09#8, 0x00#8, 0x07#8, 0x34#8, 0x12#8, 0xff#8, 0xff#8, 0xff#8, 0x2c#8, 0x1b#8, 0x0a#8, 0x00#8, 0x01#8, 0x32#8, 0x00#8, 0x00#8, 0x00#8], payload := [0xc8#8, 0xd1#8, 0x34#8], mic := [0xf7#8, 0x26#8, 0x42#8, 0x83#8] }, miC 50, (leBytes 16 77 : List Byte), [1,2,3], 5, by decide +kernel⟩,
   ⟨{ rx := { ch := 5, slot := 0, mode := 2, header := 262338, stamp := 72057594037927936000000000000, step := 0, anch := 72057594037927936000000000000, outcome := 0, flags := 0x00010000#32, rssi := 0xfe00#16, snr := 0x0028#16, foff := 0x0000#16, rxseq := 3, related := 0, payload := [0x09#8, 0x00#8, 0x07#8, 0x34#8, 0x12#8, 0xff#8, 0xff#8, 0xff#8, 0x2c#8, 0x1b#8, 0x0a#8, 0x00#8, 0x01#8, 0x05#8, 0x00#8, 0x00#8, 0x00#8, 0x4b#8, 0x84#8, 0x02#8, 0x35#8, 0x30#8, 0xea#8, 0x88#8], crc := 0, soft := [] }, bytes := [0x09#8, 0x00#8, 0x07#8, 0x34#8, 0x12#8, 0xff#8, 0xff#8, 0xff#8, 0x2c#8, 0x1b#8, 0x0a#8, 0x00#8, 0x01#8, 0x05#8, 0x00#8, 0x00#8, 0x00#8, 0x4b#8, 0x84#8, 0x02#8, 0x35#8, 0x30#8, 0xea#8, 0x88#8], kind := Sys2Proof.Machine.MicKind.node 5, rescued := none }, [], { typ := 1, sec := true, ackreq := false, pending := false, seq := 7, nid := 4660, dst := 16777215, src := 662316, eui := 0, keyIndex := 0, enc := true, mic64 := false, fcnt := 5, hops := 0, origin := 0, head := [0x09#8, 0x00#8, 0x07#8, 0x34#8, 0x12#8, 0xff#8, 0xff#8, 0xff#8, 0x2c#8, 0x1b#8, 0x0a#8, 0x00#8, 0x01#8, 0x05#8, 0x00#8, 0x00#8, 0x00#8], payload := [0x4b#8, 0x84#8, 0x02#8], mic := [0x35#8, 0x30#8, 0xea#8, 0x88#8] }, miC 5, (leBytes 16 77 : List Byte), [1,2,3], 5, by decide +kernel⟩,
   ⟨{ rx := { ch := 5, slot := 0, mode := 2, header := 262338, stamp := 72057594037927936000000000000, step := 0, anch := 72057594037927936000000000000, outcome := 0, flags := 0x00010000#32, rssi := 0xfe00#16, snr := 0x0028#16, foff := 0x0000#16, rxseq := 3, related := 0, payload := [0x09#8, 0x00#8, 0x07#8, 0x34#8, 0x12#8, 0xff#8, 0xff#8, 0xff#8, 0x2c#8, 0x1b#8, 0x0a#8, 0x00#8, 0x01#8, 0x05#8, 0x00#8, 0x00#8, 0x00#8, 0x4b#8, 0x84#8, 0x02#8, 0x35#8, 0x30#8, 0xea#8, 0x88#8], crc := 0, soft := [] }, bytes := [0x09#8, 0x00#8, 0x07#8, 0x34#8, 0x12#8, 0xff#8, 0xff#8, 0xff#8, 0x2c#8, 0x1b#8, 0x0a#8, 0x00#8, 0x01#8, 0x05#8, 0x00#8, 0x00#8, 0x00#8, 0x4b#8, 0x84#8, 0x02#8, 0x35#8, 0x30#8, 0xea#8, 0x88#8], kind := Sys2Proof.Machine.MicKind.node 5, rescued := none }, [], { typ := 1, sec := true, ackreq := false, pending := false, seq := 7, nid := 4660, dst := 16777215, src := 662316, eui := 0, keyIndex := 0, enc := true, mic64 := false, fcnt := 5, hops := 0, origin := 0, head := [0x09#8, 0x00#8, 0x07#8, 0x34#8, 0x12#8, 0xff#8, 0xff#8, 0xff#8, 0x2c#8, 0x1b#8, 0x0a#8, 0x00#8, 0x01#8, 0x05#8, 0x00#8, 0x00#8, 0x00#8], payload := [0x4b#8, 0x84#8, 0x02#8], mic := [0x35#8, 0x30#8, 0xea#8, 0x88#8] }, miA, (leBytes 16 77 : List Byte), [1,2,3], 5, by decide +kernel⟩⟩

/-- States and operands that meet the hypotheses of `UplinkIntake`, part 4. -/
theorem witness_UplinkIntake_4 :
    (∃ (w : MicWait) (ws : List MicWait) (f : MacFrame) (s : State) (key : List Byte) (p : List Byte) (n : Nat), quiet s = true ∧ s.nodes.mics = w :: ws ∧ parseMac w.bytes = some f ∧ (micKey s w f).1 = some key ∧ macOpen key (micKey s w f).2 (w.rx.header.testBit 20) f = some p ∧ w.kind = MicKind.node n ∧ isHome s n = true ∧ judgeFcnt (getCtx s n) f.fcnt = 1) :=
  ⟨{ rx := { ch := 5, slot := 0, mode := 2, header := 262338, stamp := 72057594037927936000000000000, step := 0, anch := 72057594037927936000000000000, outcome := 0, flags := 0x00010000#32, rssi := 0xfe00#16, snr := 0x0028#16, foff := 0x0000#16, rxseq := 3, related := 0, payload := [0x09#8, 0x00#8, 0x07#8, 0x34#8, 0x12#8, 0xff#8, 0xff#8, 0xff#8, 0x2c#8, 0x1b#8, 0x0a#8, 0x00#8, 0x01#8, 0x30#8, 0x00#8, 0x00#8, 0x00#8, 0xaf#8, 0x7b#8, 0xc4#8, 0x61#8, 0x3a#8, 0x27#8, 0xf2#8], crc := 0, soft := [] }, bytes := [0x09#8, 0x00#8, 0x07#8, 0x34#8, 0x12#8, 0xff#8, 0xff#8, 0xff#8, 0x2c#8, 0x1b#8, 0x0a#8, 0x00#8, 0x01#8, 0x30#8, 0x00#8, 0x00#8, 0x00#8, 0xaf#8, 0x7b#8, 0xc4#8, 0x61#8, 0x3a#8, 0x27#8, 0xf2#8], kind := Sys2Proof.Machine.MicKind.node 5, rescued := none }, [], { typ := 1, sec := true, ackreq := false, pending := false, seq := 7, nid := 4660, dst := 16777215, src := 662316, eui := 0, keyIndex := 0, enc := true, mic64 := false, fcnt := 48, hops := 0, origin := 0, head := [0x09#8, 0x00#8, 0x07#8, 0x34#8, 0x12#8, 0xff#8, 0xff#8, 0xff#8, 0x2c#8, 0x1b#8, 0x0a#8, 0x00#8, 0x01#8, 0x30#8, 0x00#8, 0x00#8, 0x00#8], payload := [0xaf#8, 0x7b#8, 0xc4#8], mic := [0x61#8, 0x3a#8, 0x27#8, 0xf2#8] }, miC 48, (leBytes 16 77 : List Byte), [1,2,3], 5, by decide +kernel⟩

/-- States and operands that meet the hypotheses of `JoinsDownlinksRescue`. -/
theorem witness_JoinsDownlinksRescue :
    (∃ (f : MFrame) (s : State), arrivesForAll 1 18 f s = true) ∧
    (∃ (e : BitVec 64) (s : State), List.find? (fun j => j.eui == e.toNat) s.nodes.joins = none) ∧
    (∃ (e : BitVec 64) (j : JoinHeard) (d : Nat) (m : Int) (s : State), List.find? (fun j => j.eui == e.toNat) s.nodes.joins = some j ∧ (d, m) ∈ j.reports ∧ (∀ p ∈ j.reports, p.2 < m ∨ p.2 = m ∧ d ≤ p.1)) ∧
    (∃ (g : BitVec 16) (w : JoinWait) (c : Nat) (s : State), List.find? (fun w => w.tag == g.toNat) s.nodes.waits = some w ∧ w.expires = some c) ∧
    (∃ (g : BitVec 16) (s : State), List.find? (fun w => w.tag == g.toNat) s.nodes.waits = none) ∧
    (∃ (g : BitVec 16) (n : Nat) (d : Downlink) (s : State), s.nodes.runs = [(n, { dls := [d] })] ∧ d.tag = g.toNat ∧ d.expires ≠ none ∧ s.uses = []) ∧
    (∃ (s : State), s.nodes.runs = []) ∧
    (∃ (f : MFrame) (n : Nat) (s : State), arrivesHere 4 65 f s = true ∧ findNode s (leAt f.payload 0 3) = some n ∧ leAt f.payload 5 4 = 0) ∧
    (∃ (f : MFrame) (n : Nat) (p : Nat) (x : Nat × RxRec) (s : State), arrivesForAll 1 23 f s = true ∧ findNode s (leAt f.payload 2 3) = some n ∧ isHome s n = false ∧ (getRun s n).kept = [x] ∧ x.1 % 2 ^ 32 = leAt f.payload 5 4 ∧ anchNow s ≤ nsTotal x.2.anch + getF s 720904 15 8 * 1000000 ∧ signedOf 8 (getF s 720904 31 24) ≤ x.2.snr.toInt ∧ portTo s (mrSrc f) = some p ∧ s.chain.out = [] ∧ (recordBytes x.2 ++ x.2.soft).length ≤ 4096) ∧
    (∃ (f : MFrame) (n : Nat) (q : RescueRun) (s : State), arrivesHere 3 48 f s = true ∧ s.uses = [] ∧ requester s = false ∧ s.ops = [] ∧ (List.all s.nodes.runs fun p => p.2.win.isNone) = true ∧ findNode s (leAt f.payload 0 3) = some n ∧ (getRun s n).rescue = some q ∧ q.k % 2 ^ 32 = leAt f.payload 3 4 ∧ leAt f.payload 7 1 = 0) ∧
    (∃ (f : MFrame) (n : Nat) (s : State), arrivesHere 3 48 f s = true ∧ quiet s = true ∧ findNode s (leAt f.payload 0 3) = some n ∧ leAt f.payload 7 1 = 128) ∧
    (∃ (a : BitVec 24) (s : State), findNode s a.toNat = none) ∧
    (∃ (a : BitVec 24) (s : State) (n : Nat), findNode s a.toNat = some n ∧ (getRun s n).rescue = none) ∧
    (∃ (a : BitVec 24) (s : State) (n : Nat), findNode s a.toNat = some n ∧ (getRun s n).rescue ≠ none) :=
  ⟨⟨(mfr 1 0x12 0x1F 2 0 (leBytes 2 9 ++ leBytes 8 0xABCD ++ leBytes 2 0xFFD8 ++ leBytes 1 2) : MFrame), nl0, by decide +kernel⟩,
   ⟨0xABCD, State.reset, by decide +kernel⟩,
   ⟨0xABCD, { eui := 43981, clk := 0, reports := [(2, -40), (0, -30)], own := some ({ ch := 5, slot := 0, mode := 2, header := 262402, stamp := 72057594037927936000000000000, step := 0, anch := 72057594037927936000000000000, outcome := 0, flags := 0x00010000#32, rssi := 0xfe00#16, snr := 0x0028#16, foff := 0x0000#16, rxseq := 3, related := 0, payload := [0x0c#8, 0x00#8, 0x07#8, 0x34#8, 0x12#8, 0xff#8, 0xff#8, 0xff#8, 0xff#8, 0xff#8, 0xff#8, 0xcd#8, 0xab#8, 0x00#8, 0x00#8, 0x00#8, 0x00#8, 0x00#8, 0x00#8, 0x04#8, 0x01#8, 0x05#8, 0x00#8, 0x00#8, 0x00#8, 0x89#8, 0x96#8, 0xb8#8, 0x13#8, 0xdc#8, 0xe8#8, 0xe0#8], crc := 0, soft := [] }, [0x0c#8, 0x00#8, 0x07#8, 0x34#8, 0x12#8, 0xff#8, 0xff#8, 0xff#8, 0xff#8, 0xff#8, 0xff#8, 0xcd#8, 0xab#8, 0x00#8, 0x00#8, 0x00#8, 0x00#8, 0x00#8, 0x00#8, 0x04#8, 0x01#8, 0x05#8, 0x00#8, 0x00#8, 0x00#8, 0x89#8, 0x96#8, 0xb8#8, 0x13#8, 0xdc#8, 0xe8#8, 0xe0#8], [0x01#8, 0x02#8, 0x03#8]) }, 0, (-30 : Int), joinS, by decide +kernel⟩,
   ⟨7, { tag := 7, ctx := 5, eui := 43981, jkey := 4, expires := some 800, answering := false }, 800, wtS, by decide +kernel⟩,
   ⟨7, State.reset, by decide +kernel⟩,
   ⟨7, 5, dlOf, dlS, by decide +kernel⟩,
   ⟨State.reset, by decide +kernel⟩,
   ⟨(mfr 4 0x41 0 2 0 (leBytes 3 0x0A1B2C ++ leBytes 2 77 ++ leBytes 4 0 ++ leBytes 1 1 ++ [1,2,3]) : MFrame), 5, nl0, by decide +kernel⟩,
   ⟨(mfr 1 0x17 0x1F 2 0 (leBytes 2 9 ++ leBytes 3 0x55 ++ leBytes 4 3) : MFrame), 9, 0, (3, { ch := 5, slot := 0, mode := 2, header := 262338, stamp := 72057594037927936000000000000, step := 0, anch := 72057594037927936000000000000, outcome := 1, flags := 0x00010000#32, rssi := 0xfe00#16, snr := 0x0028#16, foff := 0x0000#16, rxseq := 3, related := 0, payload := [0x09#8, 0x00#8, 0x07#8, 0x34#8, 0x12#8, 0xff#8, 0xff#8, 0xff#8, 0x2c#8, 0x1b#8, 0x0a#8, 0x00#8, 0x01#8, 0x05#8, 0x00#8, 0x00#8, 0x00#8, 0x4b#8, 0x84#8, 0x02#8, 0x35#8, 0x30#8, 0xea#8, 0x88#8], crc := 0, soft := [] }), rsS3, by decide +kernel⟩,
   ⟨(mfr 3 0x30 0 2 0 (leBytes 3 0x0A1B2C ++ leBytes 4 3 ++ leBytes 1 0 ++ [1,2,3]) : MFrame), 5, ({ k := 3 } : RescueRun), rsS, by decide +kernel⟩,
   ⟨(mfr 3 0x30 0 2 0 (leBytes 3 0x0A1B2C ++ leBytes 4 8 ++ leBytes 1 0x80 ++ [1,2,3]) : MFrame), 5, nl0, by decide +kernel⟩,
   ⟨0x0A1B2C, State.reset, by decide +kernel⟩,
   ⟨0x0A1B2C, nd0, 5, by decide +kernel⟩,
   ⟨0x0A1B2C, rsS, 5, by decide +kernel⟩⟩

/-- States and operands that meet the hypotheses of `HomeElectionAndHandover`. -/
theorem witness_HomeElectionAndHandover :
    (∃ (f : MFrame) (n : Nat) (s : State), arrivesHere 1 16 f s = true ∧ leAt f.payload 0 2 = 1 ∧ f.payload.length = 7 ∧ findNode s (leAt f.payload 2 3) = some n ∧ isHome s n = true) ∧
    (∃ (x : BitVec 16) (h : HandOver) (s : State), (getRun s x.toNat).hand = some h ∧ (h.sent = true ∨ isHome s x.toNat = false ∨ handReady s x.toNat h = false)) ∧
    (∃ (x : BitVec 16) (h : HandOver) (s : State) (p : Nat), (getRun s x.toNat).hand = some h ∧ h.sent = false ∧ isHome s x.toNat = true ∧ handReady s x.toNat h = true ∧ (getRun s x.toNat).conn = none ∧ portTo s h.dest = some p) ∧
    (∃ (x : BitVec 16) (h : HandOver) (s : State) (p : Nat), (getRun s x.toNat).hand = some h ∧ h.sent = true ∧ (getCtx s x.toNat).transit = true ∧ portTo s h.dest = some p) ∧
    (∃ (x : BitVec 16) (s : State), (getRun s x.toNat).hand = none) ∧
    (∃ (f : MFrame) (n : Nat) (s : State), arrivesHere 1 19 f s = true ∧ findNode s (leAt f.payload 0 3) = some n ∧ isHome s n = false ∧ (getCtx s n).gen = leAt f.payload 7 4) ∧
    (∃ (f : MFrame) (n : Nat) (s : State), arrivesHere 1 19 f s = true ∧ findNode s (leAt f.payload 0 3) = some n ∧ isHome s n = false ∧ (getCtx s n).gen ≠ leAt f.payload 7 4) ∧
    (∃ (f : MFrame) (n : Nat) (h : HandOver) (s : State), arrivesHere 1 20 f s = true ∧ findNode s (leAt f.payload 0 3) = some n ∧ (getRun s n).hand = some h ∧ h.sent = true ∧ (getCtx s n).transit = true) ∧
    (∃ (f : MFrame) (n : Nat) (h : HandOver) (s : State), arrivesHere 1 22 f s = true ∧ findNode s (leAt f.payload 0 3) = some n ∧ (getRun s n).hand = some h ∧ h.sent = true ∧ (getCtx s n).transit = true) ∧
    (∃ (f : MFrame) (s : State), arrivesHere 1 21 f s = true) ∧
    (∃ (f : MFrame) (n : Nat) (s : State), arrivesHere 1 24 f s = true ∧ findNode s (leAt f.payload 0 3) = some n ∧ isHome s n = false) ∧
    (∃ (f : MFrame) (n : Nat) (s : State), arrivesHere 1 24 f s = true ∧ findNode s (leAt f.payload 0 3) = some n ∧ isHome s n = true ∧ newerGen (leAt f.payload 3 4) (getCtx s n).gen = true) ∧
    (∃ (f : MFrame) (n : Nat) (s : State), arrivesHere 1 24 f s = true ∧ findNode s (leAt f.payload 0 3) = some n ∧ isHome s n = true ∧ newerGen (leAt f.payload 3 4) (getCtx s n).gen = false) ∧
    (∃ (f : MFrame) (n : Nat) (s : State), arrivesForAll 1 17 f s = true ∧ leAt f.payload 2 2 = 1 ∧ f.payload.length = 10 ∧ findNode s (leAt f.payload 4 3) = some n ∧ isHome s n = true ∧ 4 * signedOf 8 (getF s 720908 23 16) ≤ signedOf 16 (leAt f.payload 8 2) ∧ (chainKey s).isSome = true) ∧
    (∃ (f : MFrame) (n : Nat) (s : State), arrivesForAll 1 17 f s = true ∧ leAt f.payload 2 2 = 1 ∧ f.payload.length = 10 ∧ findNode s (leAt f.payload 4 3) = some n ∧ isHome s n = true ∧ signedOf 16 (leAt f.payload 8 2) < 4 * signedOf 8 (getF s 720908 23 16)) :=
  ⟨⟨(mfr 1 0x10 0 2 0 (leBytes 2 1 ++ leBytes 3 0x0A1B2C ++ leBytes 2 60) : MFrame), 5, setCtx 5 { hm with replDev := 2 } nl0, by decide +kernel⟩,
   ⟨5, { dest := 2, k := 0, sent := true, clk := 0 }, haT, by decide +kernel⟩,
   ⟨5, { dest := 2, k := 0, sent := false, clk := 0 }, haSR, 0, by decide +kernel⟩,
   ⟨5, { dest := 2, k := 0, sent := true, clk := 0 }, haTR, 0, by decide +kernel⟩,
   ⟨5, setCtx 5 { hm with replDev := 2 } nl0, by decide +kernel⟩,
   ⟨(mfr 1 0x13 0 2 0 (leBytes 3 0x0A1B2C ++ leBytes 4 43 ++ leBytes 4 9) : MFrame), 5, haG, by decide +kernel⟩,
   ⟨(mfr 1 0x13 0 2 0 (leBytes 3 0x0A1B2C ++ leBytes 4 43 ++ leBytes 4 8) : MFrame), 5, haG, by decide +kernel⟩,
   ⟨(mfr 1 0x14 0 2 0 (leBytes 3 0x0A1B2C ++ leBytes 4 9) : MFrame), 5, { dest := 2, k := 0, sent := true, clk := 0 }, haT, by decide +kernel⟩,
   ⟨(mfr 1 0x16 0 2 0 (leBytes 3 0x0A1B2C ++ leBytes 4 9) : MFrame), 5, { dest := 2, k := 0, sent := true, clk := 0 }, haT, by decide +kernel⟩,
   ⟨(mfr 1 0x15 0 2 0 (leBytes 3 0x0A1B2C ++ leBytes 4 9) : MFrame), setCtx 5 { hm with replDev := 2 } nl0, by decide +kernel⟩,
   ⟨(mfr 1 0x18 0 2 0 (leBytes 3 0x0A1B2C ++ leBytes 4 10 ++ leBytes 4 70 ++ leBytes 4 3 ++ leBytes 4 80) : MFrame), 5, haG, by decide +kernel⟩,
   ⟨(mfr 1 0x18 0 2 0 (leBytes 3 0x0A1B2C ++ leBytes 4 10 ++ leBytes 4 70 ++ leBytes 4 3 ++ leBytes 4 80) : MFrame), 5, setCtx 5 { hm with replDev := 2 } nl0, by decide +kernel⟩,
   ⟨(mfr 1 0x18 0 2 0 (leBytes 3 0x0A1B2C ++ leBytes 4 8 ++ leBytes 4 70 ++ leBytes 4 3 ++ leBytes 4 80) : MFrame), 5, setCtx 5 { hm with replDev := 2 } nl0, by decide +kernel⟩,
   ⟨(mfr 1 0x11 0x1F 2 0 (leBytes 2 7 ++ leBytes 2 1 ++ leBytes 3 0x0A1B2C ++ leBytes 1 2 ++ leBytes 2 40) : MFrame), 5, setCtx 5 { hm with replDev := 2 } nl0, by decide +kernel⟩,
   ⟨(mfr 1 0x11 0x1F 2 0 (leBytes 2 8 ++ leBytes 2 1 ++ leBytes 3 0x0A1B2C ++ leBytes 1 2 ++ leBytes 2 1) : MFrame), 5, setCtx 5 { hm with replDev := 2 } nl0, by decide +kernel⟩⟩

/-- States and operands that meet the hypotheses of `PlacementOfContexts`. -/
theorem witness_PlacementOfContexts :
    (∃ (s : State), getB s 720896 0 = false) ∧
    (∃ (x : BitVec 16) (d : Fin 16) (s : State), s.keeper.pend = [] ∧ (x.toNat, ↑d) ∈ s.nodes.moves ∧ nodeIdle s x.toNat = true) ∧
    (∃ (x : BitVec 16) (d : Fin 16) (s : State), s.keeper.pend = [] ∧ (x.toNat, ↑d) ∈ s.nodes.moves ∧ nodeIdle s x.toNat = false ∧ s.nodes.moveClk + clocksOfNs 10000000 ≤ s.ntb.clk) ∧
    (∃ (x : BitVec 16) (d : Fin 16) (s : State), s.keeper.pend = [] ∧ (x.toNat, ↑d) ∈ s.nodes.moves ∧ nodeIdle s x.toNat = false ∧ s.ntb.clk < s.nodes.moveClk + clocksOfNs 10000000) ∧
    (∃ (x : BitVec 16) (d : Fin 16) (s : State), s.keeper.pend = [] ∧ (x.toNat, ↑d) ∉ s.nodes.moves ∧ bankOut s (x.toNat / 2048) = false) ∧
    (∃ (d : Fin 16) (n : Nat) (s : State), reachable s ↑d = false ∧ List.filter (fun p => p.2.role == 2 && p.2.homeDev == ↑d) s.ctx = [(n, getCtx s n)]) ∧
    (∃ (d : Fin 16) (s : State), reachable s ↑d = true) ∧
    (∃ (x : BitVec 16) (s : State), (getCtx s x.toNat).role = 3 ∧ getF s 720908 15 0 ≠ 0) ∧
    (∃ (x : BitVec 16) (s : State), ((getCtx s x.toNat).role ≠ 3 ∨ getF s 720908 15 0 = 0)) ∧
    (∃ (f : MFrame) (s : State) (n : Nat), arrivesHere 4 64 f s = true ∧ f.payload.length = 156 ∧ leAt f.payload 0 1 % 4 = 0 ∧ ((List.take 24 (List.drop 132 f.payload)).all fun b => b == 0) = true ∧ findNode s (leAt f.payload 4 3) = some n ∧ isHome s n = false) ∧
    (∃ (f : MFrame) (s : State) (n : Nat), arrivesHere 4 64 f s = true ∧ f.payload.length = 156 ∧ leAt f.payload 0 1 % 4 = 0 ∧ ((List.take 24 (List.drop 132 f.payload)).all fun b => b == 0) = true ∧ findNode s (leAt f.payload 4 3) = some n ∧ isHome s n = true ∧ (getCtx s n).replDev ≠ mrSrc f) ∧
    (∃ (f : MFrame) (s : State) (n : Nat), arrivesHere 4 64 f s = true ∧ f.payload.length = 156 ∧ leAt f.payload 0 1 % 4 = 0 ∧ ((List.take 24 (List.drop 132 f.payload)).all fun b => b == 0) = true ∧ findNode s (leAt f.payload 4 3) = some n ∧ isHome s n = true ∧ (getCtx s n).replDev = mrSrc f) ∧
    (∃ (f : MFrame) (s : State) (kek : List Byte), arrivesHere 4 64 f s = true ∧ f.payload.length = 156 ∧ chainKey s = some kek ∧ ((List.take 24 (List.drop 132 f.payload)).all fun b => b == 0) = false ∧ kwUnwrap (natsOf kek) (natsOf (List.take 24 (List.drop 132 f.payload))) = none) ∧
    (∃ (f : MFrame) (s : State) (n : Nat), arrivesHere 4 64 f s = true ∧ f.payload.length = 156 ∧ leAt f.payload 0 1 % 4 = 3 ∧ ((List.take 24 (List.drop 132 f.payload)).all fun b => b == 0) = true ∧ findNode s (leAt f.payload 4 3) = none ∧ s.nodes.lost = [] ∧ s.nodes.finals = [] ∧ slotFor s = some n) ∧
    (∃ (x : BitVec 16) (s : State), List.find? (fun l => l.1 == x.toNat && l.2.2 == 1) s.nodes.lost = none) ∧
    (∃ (x : BitVec 16) (s : State) (l : Nat × Nat × Nat), List.find? (fun l => l.1 == x.toNat && l.2.2 == 1) s.nodes.lost = some l) :=
  ⟨⟨setB 0xB0000 0 false State.reset, by decide +kernel⟩,
   ⟨5, 4, mvS, by decide +kernel⟩,
   ⟨5, 4, mvB 10000000000, by decide +kernel⟩,
   ⟨5, 4, mvB 7, by decide +kernel⟩,
   ⟨5, 0, setCtx 5 { hm with replDev := 2 } nl0, by decide +kernel⟩,
   ⟨2, 5, haR, by decide +kernel⟩,
   ⟨0, setCtx 5 { hm with replDev := 2 } nl0, by decide +kernel⟩,
   ⟨5, haG, by decide +kernel⟩,
   ⟨5, setCtx 5 { hm with replDev := 2 } nl0, by decide +kernel⟩,
   ⟨(mfr 4 0x40 0 2 0 (leBytes 1 0 ++ leBytes 3 0 ++ ctxBytes hm ++ leBytes 24 0) : MFrame), haG, 5, by decide +kernel⟩,
   ⟨(mfr 4 0x40 0 2 0 (leBytes 1 0 ++ leBytes 3 0 ++ ctxBytes hm ++ leBytes 24 0) : MFrame), nl0, 5, by decide +kernel⟩,
   ⟨(mfr 4 0x40 0 2 0 (leBytes 1 0 ++ leBytes 3 0 ++ ctxBytes hm ++ leBytes 24 0) : MFrame), setCtx 5 { hm with replDev := 2 } nl0, 5, by decide +kernel⟩,
   ⟨(mfr 4 0x40 0 2 0 (leBytes 1 2 ++ leBytes 3 0 ++ ctxBytes { hm with addr := 0x777 } ++ leBytes 24 77) : MFrame), setCtx 5 { hm with replDev := 2 } nl0, (leBytes 32 5 : List Byte), by decide +kernel⟩,
   ⟨(mfr 4 0x40 0 2 0 (leBytes 1 3 ++ leBytes 3 0 ++ ctxBytes { hm with addr := 0x777 } ++ leBytes 24 0) : MFrame), setCtx 5 { hm with replDev := 2 } nl0, 0, by decide +kernel⟩,
   ⟨5, setCtx 5 { hm with replDev := 2 } nl0, by decide +kernel⟩,
   ⟨20, lostS, (20, 662316, 1), by decide +kernel⟩⟩

/-- States and operands that meet the hypotheses of `MooringPortStates`. -/
theorem witness_MooringPortStates :
    (∃ (p : Fin 2) (s : State), lstate s ↑p = 1 ∧ (getPort s ↑p).waiting = false) ∧
    (∃ (p : Fin 2) (s : State), (lstate s ↑p ≠ 1 ∨ (getPort s ↑p).waiting = true)) ∧
    (∃ (p : Fin 2) (s : State), (getPort s ↑p).waiting = false ∧ s.ntb.clk ≤ phaseLimit s (↑p) (lstate s ↑p) ∧ lstate s ↑p = 2) ∧
    (∃ (p : Fin 2) (i : TrainInfo) (s : State), (getPort s ↑p).waiting = false ∧ s.ntb.clk ≤ phaseLimit s (↑p) (lstate s ↑p) ∧ lstate s ↑p = 3 ∧ (getPort s ↑p).phaseClk + clocksOfNs 10000000 ≤ s.ntb.clk ∧ 170 + ↑(fieldOf (getPort s ↑p).cfg 15 8) ≤ i.snr.toInt) ∧
    (∃ (p : Fin 2) (i : TrainInfo) (s : State), (getPort s ↑p).waiting = false ∧ s.ntb.clk ≤ phaseLimit s (↑p) (lstate s ↑p) ∧ lstate s ↑p = 3 ∧ (getPort s ↑p).phaseClk + clocksOfNs 10000000 ≤ s.ntb.clk ∧ i.snr.toInt < 170 + ↑(fieldOf (getPort s ↑p).cfg 15 8)) ∧
    (∃ (p : Fin 2) (i : TrainInfo) (s : State), (getPort s ↑p).waiting = false ∧ s.ntb.clk ≤ phaseLimit s (↑p) (lstate s ↑p) ∧ lstate s ↑p = 4 ∧ fieldOf (getPort s ↑p).cfg 3 2 ≤ min (getPort s ↑p).trial ↑i.rate ∧ (getPort s ↑p).trial < 4) ∧
    (∃ (p : Fin 2) (s : State), (getPort s ↑p).waiting = false ∧ s.ntb.clk ≤ phaseLimit s (↑p) (lstate s ↑p) ∧ lstate s ↑p = 5) ∧
    (∃ (p : Fin 2) (s : State), (getPort s ↑p).waiting = false ∧ s.ntb.clk ≤ phaseLimit s (↑p) (lstate s ↑p) ∧ lstate s ↑p = 6) ∧
    (∃ (p : Fin 2) (i : TrainInfo) (s : State), (getPort s ↑p).waiting = false ∧ s.ntb.clk ≤ phaseLimit s (↑p) (lstate s ↑p) ∧ lstate s ↑p = 4 ∧ min (getPort s ↑p).trial ↑i.rate < fieldOf (getPort s ↑p).cfg 3 2) ∧
    (∃ (p : Fin 2) (s : State), (getPort s ↑p).waiting = false ∧ s.ntb.clk ≤ phaseLimit s (↑p) (lstate s ↑p) ∧ lstate s ↑p = 7 ∧ getF s (mrBase ↑p + 28) 31 16 ≠ getF s 655552 31 16) ∧
    (∃ (p : Fin 2) (s : State), (getPort s ↑p).waiting = false ∧ phaseLimit s (↑p) (lstate s ↑p) < s.ntb.clk ∧ 2 ≤ lstate s ↑p ∧ lstate s ↑p ≤ 7) ∧
    (∃ (p : Fin 2) (s : State), (lstate s ↑p < 2 ∨ 7 < lstate s ↑p ∨ (getPort s ↑p).waiting = true)) ∧
    (∃ (p : Fin 2) (s : State), (getPort s ↑p).waiting = true) ∧
    (∃ (p : Fin 2) (s : State), 8 ≤ lstate s ↑p ∧ lstate s ↑p ≤ 11) ∧
    (∃ (p : Fin 2) (s : State), (lstate s ↑p < 8 ∨ 11 < lstate s ↑p)) ∧
    (∃ (p : Fin 2) (s : State), (lstate s ↑p = 8 ∨ lstate s ↑p = 9) ∧ getB s (mrBase ↑p + 4) 4 = true ∧ getF s (mrBase ↑p + 4) 3 2 < rateOfPort s ↑p) ∧
    (∃ (p : Fin 2) (s : State), lstate s ↑p ≠ 8 ∧ lstate s ↑p ≠ 9) ∧
    (∃ (p : Fin 2) (s : State), (lstate s ↑p = 8 ∨ lstate s ↑p = 9) ∧ (getB s (mrBase ↑p + 4) 4 = false ∨ rateOfPort s ↑p ≤ getF s (mrBase ↑p + 4) 3 2)) ∧
    (∃ (p : Fin 2) (s : State), lstate s ↑p = 8 ∧ rateOfPort s ↑p < getF s (mrBase ↑p + 4) 1 0 ∧ getF s (mrBase ↑p + 4) 31 24 ≠ 0 ∧ 200 + ↑(getF s (mrBase ↑p + 4) 15 8) ≤ signedOf 16 (getF s (mrBase ↑p + 24) 15 0) ∧ (upstream s ≠ some ↑p ∨ getB s 655556 5 = true)) ∧
    (∃ (p : Fin 2) (s : State), (lstate s ↑p ≠ 8 ∨ getF s (mrBase ↑p + 4) 1 0 ≤ rateOfPort s ↑p ∨ getF s (mrBase ↑p + 4) 31 24 = 0)) ∧
    (∃ (p : Fin 2) (v : Word) (s : State), s.guard = some (mrBase ↑p + 64, v) ∧ guardInTimeR s = true ∧ bitOf v 0 = true) ∧
    (∃ (p : Fin 2) (v : Word) (s : State), s.guard = some (mrBase ↑p + 64, v) ∧ guardInTimeR s = true ∧ bitOf v 0 = false ∧ lstate s ↑p = 0) ∧
    (∃ (p : Fin 2) (c : Fin 5) (s : State), ((getCls s ↑p ↑c).sent = 0 ∨ c = 0 ∨ c = 3)) ∧
    (∃ (p : Fin 2) (c : Fin 5) (s : State), (getCls s ↑p ↑c).sent ≠ 0 ∧ (c = 1 ∨ c = 2 ∨ c = 4) ∧ (getCls s ↑p ↑c).tries < 15) ∧
    (∃ (p : Fin 2) (c : Fin 5) (s : State), (getCls s ↑p ↑c).sent ≠ 0 ∧ (c = 1 ∨ c = 2 ∨ c = 4) ∧ 15 ≤ (getCls s ↑p ↑c).tries) :=
  ⟨⟨0, mL 1, by decide +kernel⟩,
   ⟨0, State.reset, by decide +kernel⟩,
   ⟨0, mL 2, by decide +kernel⟩,
   ⟨0, ⟨0,300,400,2,5,0,0x99⟩, mPh 3, by decide +kernel⟩,
   ⟨0, ⟨0,1,2,3,5,0x1234,0x99⟩, mPh 3, by decide +kernel⟩,
   ⟨0, ⟨0,300,400,2,5,0,0x99⟩, mL 4, by decide +kernel⟩,
   ⟨0, mL 5, by decide +kernel⟩,
   ⟨0, mL 6, by decide +kernel⟩,
   ⟨0, ⟨0,300,400,2,5,0,0x99⟩, mPh 4, by decide +kernel⟩,
   ⟨0, mF7, by decide +kernel⟩,
   ⟨0, mLate 2, by decide +kernel⟩,
   ⟨0, State.reset, by decide +kernel⟩,
   ⟨0, mWait, by decide +kernel⟩,
   ⟨0, mL 8, by decide +kernel⟩,
   ⟨0, State.reset, by decide +kernel⟩,
   ⟨0, mUp, by decide +kernel⟩,
   ⟨0, State.reset, by decide +kernel⟩,
   ⟨0, mL 8, by decide +kernel⟩,
   ⟨0, mUpR, by decide +kernel⟩,
   ⟨0, State.reset, by decide +kernel⟩,
   ⟨0, 1, mGu 0 1 mUp, by decide +kernel⟩,
   ⟨0, 0, mGu 0 0 (mL 0), by decide +kernel⟩,
   ⟨0, 0, State.reset, by decide +kernel⟩,
   ⟨0, 1, mUpF, by decide +kernel⟩,
   ⟨0, 1, mTries, by decide +kernel⟩⟩

/-- States and operands that meet the hypotheses of `MooringTimeAndChain`. -/
theorem witness_MooringTimeAndChain :
    (∃ (p : Fin 2) (s : State), 7 ≤ lstate s ↑p ∧ lstate s ↑p ≤ 9) ∧
    (∃ (p : Fin 2) (s : State), (lstate s ↑p < 7 ∨ 9 < lstate s ↑p)) ∧
    (∃ (f : MFrame) (sent : Nat) (s : State), arrives 0 1 f s = true ∧ mrDst f = 30 ∧ f.payload.length = 40 ∧ (getPort s ↑f.port).delays.length < 8 ∧ List.find? (fun m => m.1 == leAt f.payload 2 2) (getPort s ↑f.port).marks = some (leAt f.payload 2 2, sent)) ∧
    (∃ (f : MFrame) (s : State), arrives 0 1 f s = true ∧ mrDst f = 30 ∧ f.payload.length = 40 ∧ List.find? (fun m => m.1 == leAt f.payload 2 2) (getPort s ↑f.port).marks = none) ∧
    (∃ (p : Fin 2) (s : State), (lstate s ↑p = 8 ∨ lstate s ↑p = 9)) ∧
    (∃ (p : Fin 2) (s : State), lstate s ↑p ≠ 8 ∧ lstate s ↑p ≠ 9) ∧
    (∃ (f : MFrame) (s : State), arrivesForAll 1 1 f s = true ∧ lstate s ↑f.port = 8 ∧ f.payload.length = 16 ∧ f.chainId.toNat = chainId s) ∧
    (∃ (d : Fin 16) (s : State), ↑d ≠ devOf s ∧ getB s 655560 ↑d = true) ∧
    (∃ (d : Fin 16) (s : State), (↑d = devOf s ∨ getB s 655560 ↑d = false)) ∧
    (∃ (f : MFrame) (s : State), arrivesForAll 1 2 f s = true ∧ leAt f.payload 3 1 = 1) ∧
    (∃ (f : MFrame) (s : State), arrivesForAll 1 2 f s = true ∧ leAt f.payload 3 1 = 0 ∧ getB s 655556 5 = true) ∧
    (∃ (d : Fin 16) (s : State), (portTo s ↑d).isSome = true) ∧
    (∃ (d : Fin 16) (s : State), portTo s ↑d = none ∧ s.chain.asked = []) ∧
    (∃ (s : State), (lstate s 0 ≠ 0 ∨ lstate s 1 ≠ 0)) ∧
    (∃ (s : State), lstate s 0 = 0 ∧ lstate s 1 = 0) ∧
    (∃ (f : MFrame) (s : State), arrivesHere 2 32 f s = true ∧ List.find? (fun x => x.1 == leAt f.payload 0 1 % 16 && x.2.1 == leAt (List.drop 4 f.payload) 4 2 && decide (s.ntb.clk < x.2.2.1 + twoSeconds)) s.chain.fwd = none) ∧
    (∃ (f : MFrame) (s : State) (x : Nat × Nat × Nat × Option (List Byte)), arrivesHere 2 32 f s = true ∧ List.find? (fun x => x.1 == leAt f.payload 0 1 % 16 && x.2.1 == leAt (List.drop 4 f.payload) 4 2 && decide (s.ntb.clk < x.2.2.1 + twoSeconds)) s.chain.fwd = some x) ∧
    (∃ (f : MFrame) (a : Ask) (s : State), arrivesHere 2 33 f s = true ∧ s.chain.asked = [a] ∧ a.tag = leAt (List.drop 4 f.payload) 4 2 ∧ mrSrc f ∈ a.waits ∧ a.node = false) ∧
    (∃ (f : MFrame) (s : State), mrTakes s f = true ∧ mrBad s f = true) ∧
    (∃ (f : MFrame) (s : State), mrTakes s f = true ∧ mrBad s f = false ∧ f.typ = 0 ∧ f.ack.toNat = (getCls s (↑f.port) (mrClassOf f)).base % 65536 ∧ (getCls s (↑f.port) (mrClassOf f)).base < 65536) :=
  ⟨⟨0, mL 7, by decide +kernel⟩,
   ⟨0, State.reset, by decide +kernel⟩,
   ⟨(mfr 0 1 0x1E 2 0 (tsync 0x1F7) : MFrame), ((1000 * 1000000000 + 200000) * 65536 : Nat), mEx, by decide +kernel⟩,
   ⟨(mfr 0 1 0x1E 2 0 (tsync 0x1F7) : MFrame), mL 7, by decide +kernel⟩,
   ⟨0, mL 8, by decide +kernel⟩,
   ⟨0, State.reset, by decide +kernel⟩,
   ⟨(mfr 1 1 0x1F 2 0 (leBytes 2 0x1234 ++ leBytes 8 0x70B3D5F000002A17 ++ leBytes 1 5 ++ leBytes 1 9 ++ leBytes 1 4 ++ leBytes 1 2 ++ leBytes 1 5 ++ leBytes 1 0x30) : MFrame), mL 8, by decide +kernel⟩,
   ⟨2, mUp, by decide +kernel⟩,
   ⟨0, State.reset, by decide +kernel⟩,
   ⟨(mfr 1 2 0x1F 2 0 (leBytes 2 77 ++ [1,1,2]) : MFrame), mL 8, by decide +kernel⟩,
   ⟨(mfr 1 2 0x1F 2 0 (leBytes 2 77 ++ [0,0,2]) : MFrame), setB 0xA00C4 5 true mUp, by decide +kernel⟩,
   ⟨2, mUp, by decide +kernel⟩,
   ⟨0, State.reset, by decide +kernel⟩,
   ⟨mL 7, by decide +kernel⟩,
   ⟨State.reset, by decide +kernel⟩,
   ⟨(mfr 2 0x20 0 2 0 (leBytes 1 2 ++ leBytes 3 0 ++ emsg) : MFrame), mL 8, by decide +kernel⟩,
   ⟨(mfr 2 0x20 0 2 0 (leBytes 1 2 ++ leBytes 3 0 ++ emsg) : MFrame), mFwd, ((2, 0x0101, 0, none) : Nat × Nat × Nat × Option (List Byte)), by decide +kernel⟩,
   ⟨(mfr 2 0x21 0 2 0 (leBytes 1 0 ++ leBytes 3 0 ++ emsg) : MFrame), { tag := 257, opcode := 1, target := 2, node := false, waits := [2], results := [] }, mFwd, by decide +kernel⟩,
   ⟨({ mfr 1 0x10 0 2 0 [1,2] with crc := 7 } : MFrame), mL 8, by decide +kernel⟩,
   ⟨(mfr 1 0 0x1E 2 0 [] : MFrame), mL 8, by decide +kernel⟩⟩

/-- States and operands that meet the hypotheses of `RhizomeFabric`. -/
theorem witness_RhizomeFabric :
    (∃ (ch : Fin 96) (s : State), List.find? (fun a => a.1 == ↑ch) s.evf.arrivals = none) ∧
    (∃ (ch : Fin 96) (s : State), List.find? (fun a => a.1 == ↑ch) s.evf.arrivals = some (↑ch, s.ntb.clk) ∧ (↑ch ≥ 16 ∨ ∀ c < 96, fieldOf (rd s (524288 + 16 * c)) 7 0 ≠ 240 + ↑ch) ∧ (getF s (evcBase ↑ch + 8) 15 0 = 0 ∨ tabGet (fun _ => 0) s.evf.lastFire ↑ch = 0 ∨ tabGet (fun _ => 0) s.evf.lastFire ↑ch + getF s (evcBase ↑ch + 8) 15 0 ≤ s.ntb.clk + 1)) ∧
    (∃ (ch : Fin 96) (s : State), List.find? (fun a => a.1 == ↑ch) s.evf.arrivals = some (↑ch, s.ntb.clk) ∧ (↑ch ≥ 16 ∨ ∀ c < 96, fieldOf (rd s (524288 + 16 * c)) 7 0 ≠ 240 + ↑ch) ∧ getF s (evcBase ↑ch + 8) 15 0 ≠ 0 ∧ tabGet (fun _ => 0) s.evf.lastFire ↑ch ≠ 0 ∧ s.ntb.clk + 1 < tabGet (fun _ => 0) s.evf.lastFire ↑ch + getF s (evcBase ↑ch + 8) 15 0) ∧
    (∃ (k : Fin 192) (s : State), List.find? (fun d => d.1 == ↑k) s.evf.deliveries = none) ∧
    (∃ (k : Fin 192) (s : State), List.find? (fun d => d.1 == ↑k) s.evf.deliveries = some (↑k, s.ntb.clk) ∧ quiet s = true ∧ taskBusy s ↑k = true) ∧
    (∃ (k : Fin 192) (s : State), List.find? (fun d => d.1 == ↑k) s.evf.deliveries = some (↑k, s.ntb.clk) ∧ quiet s = true ∧ 2 ≤ (List.filter (fun x => x == (↑k, s.ntb.clk)) s.evf.deliveries).length) ∧
    (∃ (k : Fin 192) (s : State), List.find? (fun d => d.1 == ↑k) s.evf.deliveries = some (↑k, s.ntb.clk) ∧ quiet s = true ∧ 156 ≤ ↑k ∧ ↑k < 172) ∧
    (∃ (k : Fin 192) (s : State), List.find? (fun d => d.1 == ↑k) s.evf.deliveries = some (↑k, s.ntb.clk) ∧ quiet s = true ∧ 176 ≤ ↑k ∧ ↑k < 180) ∧
    (∃ (k : Fin 192) (s : State), List.find? (fun d => d.1 == ↑k) s.evf.deliveries = some (↑k, s.ntb.clk) ∧ quiet s = true ∧ 172 ≤ ↑k ∧ ↑k < 176 ∧ tabGet (fun _ => 0) s.evf.swClear (↑k - 172) = 0) ∧
    (∃ (k : Fin 192) (s : State), List.find? (fun d => d.1 == ↑k) s.evf.deliveries = some (↑k, s.ntb.clk) ∧ quiet s = true ∧ 152 ≤ ↑k ∧ ↑k < 156) ∧
    (∃ (k : Fin 192) (s : State), List.find? (fun d => d.1 == ↑k) s.evf.deliveries = some (↑k, s.ntb.clk) ∧ quiet s = true ∧ 144 ≤ ↑k ∧ ↑k < 148 ∧ tabGet (fun _ => none) s.evf.notify (↑k - 144) = none) ∧
    (∃ (n : Fin 4) (s : State), tabGet (fun _ => none) s.evf.notify ↑n = none) ∧
    (∃ (n : Fin 4) (s : State) (x : Nat × Nat), tabGet (fun _ => none) s.evf.notify ↑n = some x) ∧
    (∃ (s : State), coreRuns s = true) ∧
    (∃ (s : State), getF s 526352 15 0 = 0) ∧
    (∃ (s : State), getF s 526352 15 0 ≠ 0) :=
  ⟨⟨0, State.reset, by decide +kernel⟩,
   ⟨3, ev1, by decide +kernel⟩,
   ⟨3, ev2, by decide +kernel⟩,
   ⟨5, State.reset, by decide +kernel⟩,
   ⟨5, evB, by decide +kernel⟩,
   ⟨172, ev4, by decide +kernel⟩,
   ⟨156, ev3, by decide +kernel⟩,
   ⟨176, ev5, by decide +kernel⟩,
   ⟨172, ev4, by decide +kernel⟩,
   ⟨152, ev6, by decide +kernel⟩,
   ⟨144, ev7, by decide +kernel⟩,
   ⟨0, State.reset, by decide +kernel⟩,
   ⟨0, ev8, (5,1), by decide +kernel⟩,
   ⟨State.reset, by decide +kernel⟩,
   ⟨wr 0x80810 0 ev0, by decide +kernel⟩,
   ⟨State.reset, by decide +kernel⟩⟩

/-- States and operands that meet the hypotheses of `CipherQueue`. -/
theorem witness_CipherQueue :
    (∃ (u : Fin 17) (s : State), s.cipher.waiting = [] ∧ hasRoom s ↑u = true) ∧
    (∃ (u : Fin 17) (s : State), s.cipher.waiting = [] ∧ hasRoom s ↑u = false) ∧
    (∃ (c : Fin 8) (s : State), (coreFree s ↑c = false ∨ s.cipher.reqs = [])) ∧
    (∃ (c : Fin 8) (r : CphReq) (s : State), coreFree s ↑c = true ∧ s.cipher.reqs = [r] ∧ r.core = none ∧ r.result = none ∧ r.sub < 18 ∧ s.cipher.changes = []) ∧
    (∃ (c : Fin 8) (s : State), (s.cipher.reqs.all fun r => r.core != some ↑c) = true) ∧
    (∃ (c : Fin 8) (r : CphReq) (rs : List CphReq) (s : State), s.cipher.reqs = r :: rs ∧ r.core = some ↑c ∧ coreRuns s = true) ∧
    (∃ (c : Fin 8) (r : CphReq) (rs : List CphReq) (s : State), s.cipher.reqs = r :: rs ∧ r.core = some ↑c ∧ cipherRun r.key r.desc (pktRead s (dAad r.desc) (dAadLen r.desc)) (pktRead s (dSrc r.desc) (dLen r.desc)) (pktRead s (dTag r.desc) (dTagLen r.desc)) = none) ∧
    (∃ (c : Fin 8) (r : CphReq) (rs : List CphReq) (s : State) (p : List Byte × List Byte), s.cipher.reqs = r :: rs ∧ r.core = some ↑c ∧ cipherRun r.key r.desc (pktRead s (dAad r.desc) (dAadLen r.desc)) (pktRead s (dSrc r.desc) (dLen r.desc)) (pktRead s (dTag r.desc) (dTagLen r.desc)) = some p) ∧
    (∃ (u : Fin 18) (r : CphReq) (s : State), s.cipher.reqs = [r] ∧ r.sub = ↑u ∧ s.cipher.waiting = [] ∧ r.result = none) ∧
    (∃ (u : Fin 18) (r : CphReq) (s : State) (st : Nat), s.cipher.reqs = [r] ∧ r.sub = ↑u ∧ s.cipher.waiting = [] ∧ r.result = some st ∧ s.cipher.results.length < 4) ∧
    (∃ (v : Word), bitOf v 0 = false) ∧
    (∃ (v : Word) (s : State), bitOf v 0 = true ∧ 4 ≤ heldBy s 17) ∧
    (∃ (v : Word) (s : State), bitOf v 0 = true ∧ heldBy s 17 < 4 ∧ s.cipher.reqs.length < 64) ∧
    (∃ (s : State), List.find? (fun c => !keyHeld s c.code) s.cipher.changes = none) ∧
    (∃ (x : KeyChange) (s : State), List.find? (fun c => !keyHeld s c.code) s.cipher.changes = some x ∧ x.code < 256) ∧
    (∃ (v : Word) (s : State), s.guard = some (589888, v) ∧ guardInTimeR s = true ∧ s.cipher.changes = [] ∧ s.cipher.reqs = []) :=
  ⟨⟨0, State.reset, by decide +kernel⟩,
   ⟨3, cp7, by decide +kernel⟩,
   ⟨0, State.reset, by decide +kernel⟩,
   ⟨0, { sub := 17, desc := [0x02#8, 0x10#8, 0x77#8, 0x00#8, 0x07#8, 0x00#8, 0x00#8, 0x00#8, 0x00#8, 0x00#8, 0x00#8, 0x00#8, 0x00#8, 0x00#8, 0x04#8, 0x00#8, 0x00#8, 0x80#8, 0x3f#8, 0x00#8, 0x00#8, 0x90#8, 0x3f#8, 0x00#8, 0x00#8, 0x00#8, 0x00#8, 0x00#8, 0x00#8, 0x00#8, 0x00#8, 0x00#8, 0x03#8, 0x00#8, 0x00#8, 0x00#8, 0x00#8, 0x00#8, 0x00#8, 0x00#8, 0x00#8, 0x00#8, 0x00#8, 0x00#8, 0x00#8, 0x00#8, 0x00#8, 0x00#8], core := none, key := [], result := none, clk := 0 }, cp1, by decide +kernel⟩,
   ⟨0, State.reset, by decide +kernel⟩,
   ⟨2, { sub := 17, desc := [0x02#8, 0x10#8, 0x77#8, 0x00#8, 0x07#8, 0x00#8, 0x00#8, 0x00#8, 0x00#8, 0x00#8, 0x00#8, 0x00#8, 0x00#8, 0x00#8, 0x04#8, 0x00#8, 0x00#8, 0x80#8, 0x3f#8, 0x00#8, 0x00#8, 0x90#8, 0x3f#8, 0x00#8, 0x00#8, 0x00#8, 0x00#8, 0x00#8, 0x00#8, 0x00#8, 0x00#8, 0x00#8, 0x03#8, 0x00#8, 0x00#8, 0x00#8, 0x00#8, 0x00#8, 0x00#8, 0x00#8, 0x00#8, 0x00#8, 0x00#8, 0x00#8, 0x00#8, 0x00#8, 0x00#8, 0x00#8], core := some 2, key := [0x63#8, 0x00#8, 0x00#8, 0x00#8, 0x00#8, 0x00#8, 0x00#8, 0x00#8, 0x00#8, 0x00#8, 0x00#8, 0x00#8, 0x00#8, 0x00#8, 0x00#8, 0x00#8], result := none, clk := 0 }, [{ sub := 17, desc := [0x53#8, 0x00#8, 0x00#8, 0x00#8, 0x07#8, 0x00#8, 0x00#8, 0x00#8, 0x00#8, 0x00#8, 0x00#8, 0x00#8, 0x00#8, 0x00#8, 0x04#8, 0x00#8, 0x00#8, 0x80#8, 0x3f#8, 0x00#8, 0x00#8, 0x00#8, 0x00#8, 0x00#8, 0x00#8, 0xa0#8, 0x3f#8, 0x00#8, 0x00#8, 0x00#8, 0x00#8, 0x00#8, 0x00#8, 0x00#8, 0x00#8, 0x00#8, 0x00#8, 0x00#8, 0x00#8, 0x00#8, 0x00#8, 0x00#8, 0x00#8, 0x00#8, 0x00#8, 0x00#8, 0x00#8, 0x00#8], core := some 3, key := [0x63#8, 0x00#8, 0x00#8, 0x00#8, 0x00#8, 0x00#8, 0x00#8, 0x00#8, 0x00#8, 0x00#8, 0x00#8, 0x00#8, 0x00#8, 0x00#8, 0x00#8, 0x00#8], result := none, clk := 0 }], cp3, by decide +kernel⟩,
   ⟨2, { sub := 17, desc := [0x10#8, 0x0d#8, 0x00#8, 0x00#8, 0x07#8, 0x00#8, 0x00#8, 0x00#8, 0x00#8, 0x80#8, 0x3f#8, 0x00#8, 0x00#8, 0x00#8, 0x04#8, 0x00#8, 0x00#8, 0x80#8, 0x3f#8, 0x00#8, 0x00#8, 0x90#8, 0x3f#8, 0x00#8, 0x00#8, 0xa0#8, 0x3f#8, 0x00#8, 0x00#8, 0x00#8, 0x00#8, 0x00#8, 0x03#8, 0x00#8, 0x00#8, 0x00#8, 0x00#8, 0x00#8, 0x00#8, 0x00#8, 0x00#8, 0x00#8, 0x00#8, 0x00#8, 0x00#8, 0x00#8, 0x00#8, 0x00#8], core := some 2, key := [0x63#8, 0x00#8, 0x00#8, 0x00#8, 0x00#8, 0x00#8, 0x00#8, 0x00#8, 0x00#8, 0x00#8, 0x00#8, 0x00#8, 0x00#8, 0x00#8, 0x00#8, 0x00#8], result := none, clk := 0 }, [], cpBad, by decide +kernel⟩,
   ⟨2, { sub := 17, desc := [0x02#8, 0x10#8, 0x77#8, 0x00#8, 0x07#8, 0x00#8, 0x00#8, 0x00#8, 0x00#8, 0x00#8, 0x00#8, 0x00#8, 0x00#8, 0x00#8, 0x04#8, 0x00#8, 0x00#8, 0x80#8, 0x3f#8, 0x00#8, 0x00#8, 0x90#8, 0x3f#8, 0x00#8, 0x00#8, 0x00#8, 0x00#8, 0x00#8, 0x00#8, 0x00#8, 0x00#8, 0x00#8, 0x03#8, 0x00#8, 0x00#8, 0x00#8, 0x00#8, 0x00#8, 0x00#8, 0x00#8, 0x00#8, 0x00#8, 0x00#8, 0x00#8, 0x00#8, 0x00#8, 0x00#8, 0x00#8], core := some 2, key := [0x63#8, 0x00#8, 0x00#8, 0x00#8, 0x00#8, 0x00#8, 0x00#8, 0x00#8, 0x00#8, 0x00#8, 0x00#8, 0x00#8, 0x00#8, 0x00#8, 0x00#8, 0x00#8], result := none, clk := 0 }, [{ sub := 17, desc := [0x53#8, 0x00#8, 0x00#8, 0x00#8, 0x07#8, 0x00#8, 0x00#8, 0x00#8, 0x00#8, 0x00#8, 0x00#8, 0x00#8, 0x00#8, 0x00#8, 0x04#8, 0x00#8, 0x00#8, 0x80#8, 0x3f#8, 0x00#8, 0x00#8, 0x00#8, 0x00#8, 0x00#8, 0x00#8, 0xa0#8, 0x3f#8, 0x00#8, 0x00#8, 0x00#8, 0x00#8, 0x00#8, 0x00#8, 0x00#8, 0x00#8, 0x00#8, 0x00#8, 0x00#8, 0x00#8, 0x00#8, 0x00#8, 0x00#8, 0x00#8, 0x00#8, 0x00#8, 0x00#8, 0x00#8, 0x00#8], core := some 3, key := [0x63#8, 0x00#8, 0x00#8, 0x00#8, 0x00#8, 0x00#8, 0x00#8, 0x00#8, 0x00#8, 0x00#8, 0x00#8, 0x00#8, 0x00#8, 0x00#8, 0x00#8, 0x00#8], result := none, clk := 0 }], cp3, ([0x52#8, 0xc7#8, 0x91#8, 0x32#8], []), by decide +kernel⟩,
   ⟨17, { sub := 17, desc := [0x02#8, 0x10#8, 0x77#8, 0x00#8, 0x07#8, 0x00#8, 0x00#8, 0x00#8, 0x00#8, 0x00#8, 0x00#8, 0x00#8, 0x00#8, 0x00#8, 0x04#8, 0x00#8, 0x00#8, 0x80#8, 0x3f#8, 0x00#8, 0x00#8, 0x90#8, 0x3f#8, 0x00#8, 0x00#8, 0x00#8, 0x00#8, 0x00#8, 0x00#8, 0x00#8, 0x00#8, 0x00#8, 0x03#8, 0x00#8, 0x00#8, 0x00#8, 0x00#8, 0x00#8, 0x00#8, 0x00#8, 0x00#8, 0x00#8, 0x00#8, 0x00#8, 0x00#8, 0x00#8, 0x00#8, 0x00#8], core := none, key := [], result := none, clk := 0 }, cp1, by decide +kernel⟩,
   ⟨3, { sub := 3, desc := [0x02#8, 0x10#8, 0x77#8, 0x00#8, 0x07#8, 0x00#8, 0x00#8, 0x00#8, 0x00#8, 0x00#8, 0x00#8, 0x00#8, 0x00#8, 0x00#8, 0x04#8, 0x00#8, 0x00#8, 0x80#8, 0x3f#8, 0x00#8, 0x00#8, 0x90#8, 0x3f#8, 0x00#8, 0x00#8, 0x00#8, 0x00#8, 0x00#8, 0x00#8, 0x00#8, 0x00#8, 0x00#8, 0x03#8, 0x00#8, 0x00#8, 0x00#8, 0x00#8, 0x00#8, 0x00#8, 0x00#8, 0x00#8, 0x00#8, 0x00#8, 0x00#8, 0x00#8, 0x00#8, 0x00#8, 0x00#8], core := none, key := [], result := some 7, clk := 0 }, cp5, 7, by decide +kernel⟩,
   ⟨0, by decide +kernel⟩,
   ⟨1, cp6, by decide +kernel⟩,
   ⟨1, State.reset, by decide +kernel⟩,
   ⟨State.reset, by decide +kernel⟩,
   ⟨{ code := 7, slot := { valid := false, big := false, usage := 0, gen := 0, key := [] } }, cp9, by decide +kernel⟩,
   ⟨7, cpI 7, by decide +kernel⟩⟩

/-- States and operands that meet the hypotheses of `BarrierLink`. -/
theorem witness_BarrierLink :
    (∃ (h : BitVec 4) (r : BitVec 4) (s : State), hostRuns s = true ∧ s.power.dead = false ∧ upR s = false ∧ Machine.upH s = false ∧ (h = 0 ∨ r = 0)) ∧
    (∃ (h : BitVec 4) (r : BitVec 4) (s : State), hostRuns s = true ∧ s.power.dead = false ∧ upR s = false ∧ Machine.upH s = false ∧ h ≠ 0 ∧ r ≠ 0) ∧
    (∃ (s : State), (upR s = true ∨ Machine.upH s = true)) ∧
    (∃ (s : State), upR s = false ∧ Machine.upH s = false ∧ s.power.dead = true ∧ hostRuns s = true ∧ hgetF s 8192 1 0 ≠ 0) ∧
    (∃ (s : State), upR s = false ∧ Machine.upH s = false ∧ s.power.dead = false ∧ hostRuns s = false) ∧
    (∃ (s : State), upR s = true ∧ Machine.upH s = true) ∧
    (∃ (d : Die) (s : State), (upEnd s d = false ∨ (getEnd s d).sent = 0)) ∧
    (∃ (d : Die) (s : State), upEnd s d = true ∧ (getEnd s d).sent ≠ 0 ∧ (getEnd s d).tries < 15) ∧
    (∃ (d : Die) (s : State), upEnd s d = true ∧ (getEnd s d).sent ≠ 0 ∧ 15 ≤ (getEnd s d).tries) ∧
    (∃ (d : Die) (m : BMsg) (s : State), upEnd s d = true ∧ bmsgCrcOk m = true ∧ m.typ = 0 ∧ m.len = 0 ∧ m.payload = [] ∧ ((m.ack.toNat + 65536 - (getEnd s d).base) % 65536 = 0 ∨ (getEnd s d).sent < (m.ack.toNat + 65536 - (getEnd s d).base) % 65536)) ∧
    (∃ (d : Die) (m : BMsg) (s : State), upEnd s d = true ∧ bmsgCrcOk m = true ∧ m.typ = 0 ∧ m.len = 0 ∧ m.payload = [] ∧ (m.ack.toNat + 65536 - (getEnd s d).base) % 65536 ≠ 0 ∧ (m.ack.toNat + 65536 - (getEnd s d).base) % 65536 ≤ (getEnd s d).sent ∧ (d = Die.host ∨ s.keeper.evHold = [] ∧ s.keeper.upHold = [] ∧ s.keeper.evLost = 0)) ∧
    (∃ (m : BMsg) (s : State), BitVec.toNat m.typ = 4 ∧ upEnd s Die.host = true ∧ bmsgCrcOk m = false) ∧
    (∃ (m : BMsg) (s : State), BitVec.toNat m.typ = 4 ∧ upEnd s Die.host = true ∧ bmsgCrcOk m = true ∧ m.seq.toNat ≠ s.linkH.rxNext) ∧
    (∃ (m : BMsg) (s : State), Machine.upH s = true ∧ bmsgCrcOk m = true ∧ m.typ ≠ 0 ∧ m.seq.toNat = s.linkH.rxNext ∧ bCause s Die.host m ≠ 0 ∧ bCause s Die.host m < 8 ∧ m.ack.toNat = s.linkH.base ∧ s.linkH.base < 65536) ∧
    (∃ (m : BMsg) (s : State), upR s = true ∧ bmsgCrcOk m = true ∧ m.typ ≠ 0 ∧ m.seq.toNat = s.linkR.rxNext ∧ bCause s Die.radio m ≠ 0 ∧ m.ack.toNat = s.linkR.base ∧ s.linkR.base < 65536) ∧
    (∃ (m : BMsg) (s : State), comesThrough 1 Die.host m s = true ∧ (s.linkH.peerResets = none ∨ s.linkH.peerResets = some (leAt m.payload 0 2))) ∧
    (∃ (m : BMsg) (s : State), comesThrough 1 Die.radio m s = true) :=
  ⟨⟨0, 0, State.reset, by decide +kernel⟩,
   ⟨1, 1, State.reset, by decide +kernel⟩,
   ⟨ba0, by decide +kernel⟩,
   ⟨{ baDn with power := { baDn.power with dead := true } }, by decide +kernel⟩,
   ⟨hsetF 0x1000 1 0 1 baDn, by decide +kernel⟩,
   ⟨ba0, by decide +kernel⟩,
   ⟨(.radio : Die), State.reset, by decide +kernel⟩,
   ⟨(.radio : Die), baQ, by decide +kernel⟩,
   ⟨(.radio : Die), baT, by decide +kernel⟩,
   ⟨(.radio : Die), (bmsg 0 0 8 [] : BMsg), ba0, by decide +kernel⟩,
   ⟨(.radio : Die), (bmsg 0 0 8 [] : BMsg), baQ, by decide +kernel⟩,
   ⟨({ bmsg 4 0 9 (leBytes 16 0) with crc := 1 } : BMsg), ba0, by decide +kernel⟩,
   ⟨(bmsg 4 5 9 (leBytes 16 0) : BMsg), ba0, by decide +kernel⟩,
   ⟨(bmsg 1 0 9 (ls16 4 0 6 15) : BMsg), baQ, by decide +kernel⟩,
   ⟨(bmsg 2 0 7 (leBytes 20 0xFFFF) : BMsg), baQ, by decide +kernel⟩,
   ⟨(bmsg 1 0 7 (ls16 3 1 0 15) : BMsg), ba0, by decide +kernel⟩,
   ⟨(bmsg 1 0 7 (ls16 3 1 0 15) : BMsg), ba0, by decide +kernel⟩⟩

/-- States and operands that meet the hypotheses of `BarrierMessages`. -/
theorem witness_BarrierMessages :
    (∃ (m : BMsg) (s : State), comesThrough 2 Die.radio m s = true) ∧
    (∃ (m : BMsg) (s : State), comesThrough 3 Die.host m s = true ∧ leAt m.payload 4 2 ≠ 3585) ∧
    (∃ (m : BMsg) (s : State), comesThrough 4 Die.host m s = true) ∧
    (∃ (m : BMsg) (s : State), comesThrough 5 Die.host m s = true) ∧
    (∃ (m : BMsg) (s : State), comesThrough 6 Die.host m s = true ∧ m.payload.length = 32 ∧ s.tender.mirror.length < 4096 ∧ leAt m.payload 14 2 ≠ 362) ∧
    (∃ (m : BMsg) (s : State), comesThrough 7 Die.radio m s = true ∧ ((m.ack.toNat + 65536 - s.linkR.base) % 65536 = 0 ∨ s.linkR.sent < (m.ack.toNat + 65536 - s.linkR.base) % 65536)) ∧
    (∃ (m : BMsg) (s : State), comesThrough 8 Die.radio m s = true ∧ ((m.ack.toNat + 65536 - s.linkR.base) % 65536 = 0 ∨ s.linkR.sent < (m.ack.toNat + 65536 - s.linkR.base) % 65536) ∧ leAt m.payload 0 1 = 1 ∧ bootStage s = 1) ∧
    (∃ (m : BMsg) (s : State), comesThrough 8 Die.radio m s = true ∧ ((m.ack.toNat + 65536 - s.linkR.base) % 65536 = 0 ∨ s.linkR.sent < (m.ack.toNat + 65536 - s.linkR.base) % 65536) ∧ leAt m.payload 0 1 = 1 ∧ bootStage s ≠ 1) ∧
    (∃ (m : BMsg) (s : State), comesThrough 8 Die.radio m s = true ∧ ((m.ack.toNat + 65536 - s.linkR.base) % 65536 = 0 ∨ s.linkR.sent < (m.ack.toNat + 65536 - s.linkR.base) % 65536) ∧ leAt m.payload 0 1 = 2 ∧ bootStage s = 2) ∧
    (∃ (m : BMsg) (s : State), comesThrough 8 Die.radio m s = true ∧ ((m.ack.toNat + 65536 - s.linkR.base) % 65536 = 0 ∨ s.linkR.sent < (m.ack.toNat + 65536 - s.linkR.base) % 65536) ∧ leAt m.payload 0 1 = 2 ∧ bootStage s ≠ 2) ∧
    (∃ (m : BMsg) (s : State), comesThrough 8 Die.radio m s = true ∧ ((m.ack.toNat + 65536 - s.linkR.base) % 65536 = 0 ∨ s.linkR.sent < (m.ack.toNat + 65536 - s.linkR.base) % 65536) ∧ leAt m.payload 0 1 = 3 ∧ bootStage s ≠ 4) ∧
    (∃ (m : BMsg) (s : State), comesThrough 8 Die.radio m s = true ∧ leAt m.payload 0 1 = 3 ∧ bootStage s = 4) ∧
    (∃ (m : BMsg) (s : State), comesThrough 8 Die.radio m s = true ∧ leAt m.payload 0 1 = 4 ∧ getB s 65536 8 = false ∧ s.power.ponrDue = none ∧ leAt m.payload 4 4 = radioPower s) ∧
    (∃ (m : BMsg) (s : State), comesThrough 10 Die.radio m s = true ∧ s.tender.radioReady = false ∧ leAt m.payload 4 4 < 256 ∧ s.cipher.reqs = [] ∧ s.cipher.changes = []) ∧
    (∃ (m : BMsg) (s : State), comesThrough 11 Die.host m s = true ∧ s.rtc.sync = none) ∧
    (∃ (m : BMsg) (s : State), comesThrough 12 Die.radio m s = true ∧ s.power.fault = false) ∧
    (∃ (m : BMsg) (s : State), comesThrough 9 Die.host m s = true ∧ leAt m.payload 0 1 ≠ 0 ∧ s.boot.mode ≠ 1) :=
  ⟨⟨(bmsg 2 0 7 (leBytes 1 2 ++ leBytes 3 0 ++ leBytes 16 0x0101) : BMsg), ba0, by decide +kernel⟩,
   ⟨(bmsg 3 0 9 (leBytes 1 2 ++ leBytes 3 0 ++ leBytes 2 0x0101 ++ leBytes 2 1 ++ leBytes 2 7 ++ leBytes 10 0) : BMsg), ba0, by decide +kernel⟩,
   ⟨(bmsg 4 0 9 (leBytes 2 0x100 ++ leBytes 2 2 ++ leBytes 2 7 ++ leBytes 10 0) : BMsg), ba0, by decide +kernel⟩,
   ⟨(bmsg 5 0 9 (leBytes 16 5) : BMsg), ba0, by decide +kernel⟩,
   ⟨(bmsg 6 0 9 (leBytes 32 5) : BMsg), ba0, by decide +kernel⟩,
   ⟨(bmsg 7 0 9 (leBytes 1 1 ++ leBytes 3 0 ++ leBytes 4 0x20 ++ leBytes 16 0xABCDEF) : BMsg), ba0, by decide +kernel⟩,
   ⟨(bmsg 8 0 9 (leBytes 4 1 ++ leBytes 4 0) : BMsg), baBoot 1, by decide +kernel⟩,
   ⟨(bmsg 8 0 9 (leBytes 4 1 ++ leBytes 4 0) : BMsg), ba0, by decide +kernel⟩,
   ⟨(bmsg 8 0 9 (leBytes 4 2 ++ leBytes 4 0) : BMsg), baBoot 2, by decide +kernel⟩,
   ⟨(bmsg 8 0 9 (leBytes 4 2 ++ leBytes 4 0) : BMsg), ba0, by decide +kernel⟩,
   ⟨(bmsg 8 0 9 (leBytes 4 3 ++ leBytes 4 0) : BMsg), ba0, by decide +kernel⟩,
   ⟨(bmsg 8 0 9 (leBytes 4 3 ++ leBytes 4 0) : BMsg), baBoot 4, by decide +kernel⟩,
   ⟨(bmsg 8 0 9 (leBytes 4 4 ++ leBytes 4 2) : BMsg), baHold, by decide +kernel⟩,
   ⟨(bmsg 0xA 0 9 (leBytes 4 0 ++ leBytes 4 9 ++ leBytes 4 0x10 ++ leBytes 4 0 ++ leBytes 16 0x1234 ++ leBytes 16 0) : BMsg), ba0, by decide +kernel⟩,
   ⟨(bmsg 0xB 0 9 (leBytes 8 5000 ++ leBytes 4 77 ++ leBytes 1 3 ++ leBytes 1 5 ++ leBytes 2 0) : BMsg), ba0, by decide +kernel⟩,
   ⟨(bmsg 0xC 0 9 (leBytes 4 1) : BMsg), ba0, by decide +kernel⟩,
   ⟨(bmsg 9 0 9 (leBytes 1 5 ++ leBytes 1 0 ++ leBytes 2 0 ++ leBytes 4 0) : BMsg), { ba0 with boot := { ba0.boot with mode := 0 } }, by decide +kernel⟩⟩

/-- States and operands that meet the hypotheses of `RequestWindows`. -/
theorem witness_RequestWindows :
    (∃ (o : Word) (z : AccSize) (s : State), winState s (accAddr z (BitVec.toNat o % 65536) / 4096) = 0) ∧
    (∃ (o : Word) (z : AccSize) (s : State), winState s (accAddr z (BitVec.toNat o % 65536) / 4096) ≠ 0) ∧
    (∃ (v : Word) (s : State), winState s (fieldOf v 3 0) = 0 ∧ (s.boot.mode = 1 ∨ s.boot.mode = 2) ∧ s.boot.standby = false ∧ (spiMode s = false ∨ fieldOf v 3 0 < 14 ∧ hgetB s 12304 (fieldOf v 3 0) = false)) ∧
    (∃ (v : Word) (s : State), (winState s (fieldOf v 3 0) ≠ 0 ∨ s.boot.mode ≠ 1 ∧ s.boot.mode ≠ 2 ∨ s.boot.standby = true)) ∧
    (∃ (w : Fin 16) (s : State), (winState s ↑w ≠ 1 ∨ s.linkH.xoff.testBit 0 = true)) ∧
    (∃ (w : Fin 16) (s : State), winState s ↑w = 1 ∧ s.linkH.xoff.testBit 0 = false ∧ (s.boot.mode = 1 ∨ s.boot.mode = 2) ∧ (decide ((postedIn s ↑w).f 2 1 ≠ 0 ∨ (postedIn s ↑w).f 14 1 ≠ 1 ∨ (postedIn s ↑w).f 12 2 ≠ 0 ∨ (postedIn s ↑w).f 15 1 ≠ 0 ∨ 32 ≤ (postedIn s ↑w).f 3 1) = true)) ∧
    (∃ (w : Fin 16) (s : State), winState s ↑w = 1 ∧ s.linkH.xoff.testBit 0 = false ∧ (s.boot.mode = 1 ∨ s.boot.mode = 2) ∧ (decide ((postedIn s ↑w).f 2 1 ≠ 0 ∨ (postedIn s ↑w).f 14 1 ≠ 1 ∨ (postedIn s ↑w).f 12 2 ≠ 0 ∨ (postedIn s ↑w).f 15 1 ≠ 0 ∨ 32 ≤ (postedIn s ↑w).f 3 1) = false) ∧ 4080 < (postedIn s ↑w).len) ∧
    (∃ (w : Fin 16) (s : State), winState s ↑w = 1 ∧ s.linkH.xoff.testBit 0 = false ∧ (s.boot.mode = 1 ∨ s.boot.mode = 2) ∧ (decide ((postedIn s ↑w).f 2 1 ≠ 0 ∨ (postedIn s ↑w).f 14 1 ≠ 1 ∨ (postedIn s ↑w).f 12 2 ≠ 0 ∨ (postedIn s ↑w).f 15 1 ≠ 0 ∨ 32 ≤ (postedIn s ↑w).f 3 1) = false) ∧ (postedIn s ↑w).len ≤ 4072 ∧ inCatalogue (postedIn s ↑w).opcode = false) ∧
    (∃ (w : Fin 16) (s : State), winState s ↑w = 1 ∧ s.linkH.xoff.testBit 0 = false ∧ (s.boot.mode = 1 ∨ s.boot.mode = 2) ∧ formCheck s (postedIn s ↑w) = 0 ∧ (postedIn s ↑w).critical = true ∧ cmacOk s (postedIn s ↑w) = false) ∧
    (∃ (w : Fin 16) (s : State), winState s ↑w = 1 ∧ s.linkH.xoff.testBit 0 = false ∧ (s.boot.mode = 1 ∨ s.boot.mode = 2) ∧ formCheck s (postedIn s ↑w) = 0 ∧ (postedIn s ↑w).critical = true ∧ cmacOk s (postedIn s ↑w) = true ∧ s.tender.last = 4294967295) ∧
    (∃ (w : Fin 16) (s : State), winState s ↑w = 1 ∧ s.linkH.xoff.testBit 0 = false ∧ (s.boot.mode = 1 ∨ s.boot.mode = 2) ∧ formCheck s (postedIn s ↑w) = 0 ∧ (postedIn s ↑w).critical = true ∧ cmacOk s (postedIn s ↑w) = true ∧ s.tender.last ≠ 4294967295 ∧ (postedIn s ↑w).counter ≤ s.tender.last) ∧
    (∃ (w : Fin 16) (s : State), winState s ↑w = 1 ∧ s.linkH.xoff.testBit 0 = false ∧ (s.boot.mode = 1 ∨ s.boot.mode = 2) ∧ formCheck s (postedIn s ↑w) = 0 ∧ authCheck s (postedIn s ↑w) = 0 ∧ (postedIn s ↑w).critical = true ∧ counterFails s (postedIn s ↑w).counter = true) ∧
    (∃ (w : Fin 16) (s : State), winState s ↑w = 1 ∧ s.linkH.xoff.testBit 0 = false ∧ (s.boot.mode = 1 ∨ s.boot.mode = 2) ∧ formCheck s (postedIn s ↑w) = 0 ∧ authCheck s (postedIn s ↑w) = 0 ∧ ((postedIn s ↑w).critical = true → counterFails s (postedIn s ↑w).counter = false) ∧ (s.tender.tags.any fun t => t.tag == (postedIn s ↑w).tag) = true) ∧
    (∃ (w : Fin 16) (s : State), winState s ↑w = 1 ∧ s.linkH.xoff.testBit 0 = false ∧ (s.boot.mode = 1 ∨ s.boot.mode = 2) ∧ formCheck s (postedIn s ↑w) = 0 ∧ authCheck s (postedIn s ↑w) = 0 ∧ ((postedIn s ↑w).critical = true → counterFails s (postedIn s ↑w).counter = false) ∧ (s.tender.tags.any fun t => t.tag == (postedIn s ↑w).tag) = false ∧ hostCodes.contains (postedIn s ↑w).opcode = false ∧ tenderPower s (postedIn s ↑w).opcode = false ∧ (Machine.upH s = false ∨ s.tender.radioReady = false)) ∧
    (∃ (w : Fin 16) (s : State), winState s ↑w = 1 ∧ s.linkH.xoff.testBit 0 = false ∧ (s.boot.mode = 1 ∨ s.boot.mode = 2) ∧ formCheck s (postedIn s ↑w) = 0 ∧ authCheck s (postedIn s ↑w) = 0 ∧ ((postedIn s ↑w).critical = true → counterFails s (postedIn s ↑w).counter = false) ∧ lateCheck s (postedIn s ↑w) = 0) :=
  ⟨⟨0, (.b1 : AccSize), State.reset, by decide +kernel⟩,
   ⟨0, (.b1 : AccSize), mxW, by decide +kernel⟩,
   ⟨0, mxRdy, by decide +kernel⟩,
   ⟨0, State.reset, by decide +kernel⟩,
   ⟨0, State.reset, by decide +kernel⟩,
   ⟨1, mxW, by decide +kernel⟩,
   ⟨2, mxW, by decide +kernel⟩,
   ⟨3, mxW, by decide +kernel⟩,
   ⟨2, mxC, by decide +kernel⟩,
   ⟨0, mxMax, by decide +kernel⟩,
   ⟨1, mxC, by decide +kernel⟩,
   ⟨3, mxC, by decide +kernel⟩,
   ⟨0, mxT, by decide +kernel⟩,
   ⟨0, { (putWin 0 (mbh 0x0401 0 30 7 0 0 0 1 0) mxW) with tender := { mxW.tender with radioReady := false }, boot := { mxW.boot with mode := 1 } }, by decide +kernel⟩,
   ⟨0, mxW, by decide +kernel⟩⟩

/-- States and operands that meet the hypotheses of `ResponsePaths`. -/
theorem witness_ResponsePaths :
    (∃ (c : Fin 4) (s : State), holdOf s.tender ↑c = []) ∧
    (∃ (c : Fin 4) (s : State) (m : List Byte), (holdOf s.tender ↑c).head? = some m ∧ spiMode s = false ∧ (ringOn s (ringOf s ↑c) = false ∨ s.tender.busMaster = false ∨ ringSize s (ringOf s ↑c) < ((ringTail s (ringOf s ↑c) + 2 ^ 32 - ringHead s (ringOf s ↑c)) % 2 ^ 32 + if ringSize s (ringOf s ↑c) < ringTail s (ringOf s ↑c) % ringSize s (ringOf s ↑c) + (8 + m.length + ringSlot s (ringOf s ↑c) - 1) / ringSlot s (ringOf s ↑c) then ringSize s (ringOf s ↑c) - ringTail s (ringOf s ↑c) % ringSize s (ringOf s ↑c) else 0) + (8 + m.length + ringSlot s (ringOf s ↑c) - 1) / ringSlot s (ringOf s ↑c))) ∧
    (∃ (c : Fin 4) (s : State) (m : List Byte), (holdOf s.tender ↑c).head? = some m ∧ spiMode s = false ∧ ringOn s (ringOf s ↑c) = true ∧ s.tender.busMaster = true ∧ (((ringTail s (ringOf s ↑c) + 2 ^ 32 - ringHead s (ringOf s ↑c)) % 2 ^ 32 + if ringSize s (ringOf s ↑c) < ringTail s (ringOf s ↑c) % ringSize s (ringOf s ↑c) + (8 + m.length + ringSlot s (ringOf s ↑c) - 1) / ringSlot s (ringOf s ↑c) then ringSize s (ringOf s ↑c) - ringTail s (ringOf s ↑c) % ringSize s (ringOf s ↑c) else 0) + (8 + m.length + ringSlot s (ringOf s ↑c) - 1) / ringSlot s (ringOf s ↑c) ≤ ringSize s (ringOf s ↑c)) ∧ ↑c ≠ 1 ∧ s.tender.msixEnable = false) ∧
    (∃ (s : State) (m : List Byte), s.tender.hold0.head? = some m ∧ spiMode s = true ∧ hgetB s 12304 (leAt m 0 1) = true) ∧
    (∃ (s : State) (m : List Byte), s.tender.hold0.head? = some m ∧ spiMode s = true ∧ leAt m 0 1 < 14 ∧ hgetB s 12304 (leAt m 0 1) = false) ∧
    (∃ (s : State), s.tender.spiRest = []) ∧
    (∃ (b : Bool) (s : State), ((s.tender.spiWin ≠ if b = true then 15 else 14) ∨ s.tender.spiFill = 0 ∨ hgetB s 12304 (if b = true then 15 else 14) = true)) ∧
    (∃ (b : Bool) (s : State), (s.tender.spiWin = if b = true then 15 else 14) ∧ s.tender.spiFill ≠ 0 ∧ (hgetB s 12304 (if b = true then 15 else 14) = false)) ∧
    (∃ (r : Fin 4) (v : Word) (s : State), ringSize s ↑r < (ringTail s ↑r + 2 ^ 32 - BitVec.toNat v) % 2 ^ 32) ∧
    (∃ (r : Fin 4) (v : Word) (s : State), (ringTail s ↑r + 2 ^ 32 - BitVec.toNat v) % 2 ^ 32 ≤ ringSize s ↑r) ∧
    (∃ (r : Fin 4) (v : Word) (s : State), ringOn s ↑r = true ∧ fieldOf v 0 0 = 1) ∧
    (∃ (v : Word), fieldOf v 0 0 = 1 ∧ ringCfgOk v = false) ∧
    (∃ (r : Fin 4) (v : Word) (s : State), fieldOf v 0 0 = 1 ∧ ringOn s ↑r = false ∧ ringCfgOk v = true) ∧
    (∃ (v : Word), fieldOf v 0 0 = 0) ∧
    (∃ (r : Fin 4) (s : State) (k : Nat), k ∈ [0, 4, 20, 24] ∧ ringOn s ↑r = true) ∧
    (∃ (r : Fin 4) (s : State) (k : Nat), k ∈ [0, 4, 20, 24] ∧ ringOn s ↑r = false) :=
  ⟨⟨0, State.reset, by decide +kernel⟩,
   ⟨0, mxR2, [0x02#8, 0x00#8, 0x00#8, 0x00#8, 0x01#8, 0x01#8, 0x01#8, 0x1e#8, 0x07#8, 0x00#8, 0x00#8, 0x00#8, 0x00#8, 0x00#8, 0x00#8, 0x00#8, 0x00#8, 0x00#8, 0x01#8, 0x00#8], by decide +kernel⟩,
   ⟨0, { mxR with tender := { mxR.tender with msixEnable := false } }, [0x02#8, 0x00#8, 0x00#8, 0x00#8, 0x01#8, 0x01#8, 0x01#8, 0x1e#8, 0x07#8, 0x00#8, 0x00#8, 0x00#8, 0x00#8, 0x00#8, 0x00#8, 0x00#8, 0x00#8, 0x00#8, 0x01#8, 0x00#8], by decide +kernel⟩,
   ⟨mxS2, [0x02#8, 0x00#8, 0x00#8, 0x00#8, 0x01#8, 0x01#8, 0x01#8, 0x1e#8, 0x07#8, 0x00#8, 0x00#8, 0x00#8, 0x00#8, 0x00#8, 0x00#8, 0x00#8, 0x00#8, 0x00#8, 0x01#8, 0x00#8], by decide +kernel⟩,
   ⟨mxS, [0x02#8, 0x00#8, 0x00#8, 0x00#8, 0x01#8, 0x01#8, 0x01#8, 0x1e#8, 0x07#8, 0x00#8, 0x00#8, 0x00#8, 0x00#8, 0x00#8, 0x00#8, 0x00#8, 0x00#8, 0x00#8, 0x01#8, 0x00#8], by decide +kernel⟩,
   ⟨State.reset, by decide +kernel⟩,
   ⟨false, State.reset, by decide +kernel⟩,
   ⟨true, mxS3, by decide +kernel⟩,
   ⟨0, 0, mxR2, by decide +kernel⟩,
   ⟨0, 0, State.reset, by decide +kernel⟩,
   ⟨0, 1, mxR, by decide +kernel⟩,
   ⟨1, by decide +kernel⟩,
   ⟨0, 0x601, State.reset, by decide +kernel⟩,
   ⟨0, by decide +kernel⟩,
   ⟨0, mxR, 0, by decide +kernel⟩,
   ⟨0, State.reset, 0, by decide +kernel⟩⟩

/-- States and operands that meet the hypotheses of `RtcCalendar`. -/
theorem witness_RtcCalendar :
    (∃ (s : State), s.rtc.stopped = true) ∧
    (∃ (s : State), s.rtc.stopped = false ∧ s.rtc.tickDue = none ∧ hgetB s 20496 8 = false ∧ hgetB s 20508 0 = false) ∧
    (∃ (y : Nat), 2000 ≤ y ∧ y < 4000 ∧ daysIn y 2 ≠ 29) ∧
    (∃ (s : State), s.rtc.stopped = false ∧ s.rtc.tickDue = none ∧ hgetB s 20496 8 = true ∧ hgetB s 20508 0 = false) ∧
    (∃ (s : State), s.rtc.stopped = false ∧ s.rtc.tickDue = none ∧ hgetB s 20508 0 = true) ∧
    (∃ (s : State), hostRuns s = false) ∧
    (∃ (s : State), hostRuns s = true) :=
  ⟨⟨rtStop, by decide +kernel⟩,
   ⟨State.reset, by decide +kernel⟩,
   ⟨2001, by decide +kernel⟩,
   ⟨rtLoad 0x05010203 0x20240101 0x00102030 0x20260731, by decide +kernel⟩,
   ⟨rtAlm 0x010204 0x20240101 (rt0 0x05010203 0x20240101), by decide +kernel⟩,
   ⟨rtOff, by decide +kernel⟩,
   ⟨State.reset, by decide +kernel⟩⟩

/-- States and operands that meet the hypotheses of `RtcRegistersAndSupply`. -/
theorem witness_RtcRegistersAndSupply :
    (∃ (s : State), hostRuns s = false) ∧
    (∃ (s : State), hostRuns s = true ∧ s.rtc.sync.isSome = true) ∧
    (∃ (s : State), hostRuns s = true ∧ s.rtc.sync = none ∧ hgetB s 20496 8 = true) ∧
    (∃ (s : State), hostRuns s = true ∧ s.rtc.sync = none ∧ hgetB s 20496 8 = false) ∧
    (∃ (s : State), hostRuns s = true ∧ civilOk (hrd s 20500) (hrd s 20504) = true) ∧
    (∃ (s : State), hostRuns s = true ∧ civilOk (hrd s 20500) (hrd s 20504) = false) ∧
    (∃ (s : State), hgetB s 20496 10 = true) ∧
    (∃ (s : State), hgetB s 20496 10 = false) :=
  ⟨⟨rtOff, by decide +kernel⟩,
   ⟨rtSync, by decide +kernel⟩,
   ⟨rtLoad 0x05010203 0x20240101 0x00102030 0x20260731, by decide +kernel⟩,
   ⟨State.reset, by decide +kernel⟩,
   ⟨State.reset, by decide +kernel⟩,
   ⟨hwr 0x5018 0xFFFFFFFF ba0, by decide +kernel⟩,
   ⟨rtVb, by decide +kernel⟩,
   ⟨State.reset, by decide +kernel⟩⟩

/-- States and operands that meet the hypotheses of `FlashReadsAndPrograms`. -/
theorem witness_FlashReadsAndPrograms :
    (∃ (a : BitVec 24) (s : State), hgetB s 32772 1 = false ∧ (hgetB s 32772 2 = false ∨ flSector a.toNat ≠ s.flash.sector)) ∧
    (∃ (s : State) (w : Nat), flWord s w = none) ∧
    (∃ (a : BitVec 24) (s : State), hgetB s 32772 0 = false ∧ hgetB s 32772 2 = true ∧ flSector a.toNat = s.flash.sector) ∧
    (∃ (s : State) (x : Word), s.hguard = none ∧ x ≠ ~~~1) ∧
    (∃ (s : State), s.hguard = none ∧ hgetB s 32772 0 = true) ∧
    (∃ (a : BitVec 24) (s : State), s.hguard = none ∧ hgetB s 32772 0 = false ∧ flLocked (16 * (a.toNat / 16)) = true) ∧
    (∃ (a : BitVec 24) (s : State), s.hguard = none ∧ hgetB s 32772 0 = false ∧ flLocked (16 * (a.toNat / 16)) = false ∧ hgetB s 32772 2 = false ∧ (flWord s (a.toNat / 16)).isSome = true) ∧
    (∃ (a : BitVec 24) (s : State), s.hguard = none ∧ hgetB s 32772 0 = false ∧ flLocked (16 * (a.toNat / 16)) = false ∧ hgetB s 32772 2 = false ∧ flWord s (a.toNat / 16) = none) ∧
    (∃ (p : Nat × Word) (s : State), s.hguard = some p ∧ guardInTimeH s = true) ∧
    (∃ (s : State), s.flash.op ≠ 1) ∧
    (∃ (s : State) (w : Nat), s.flash.op = 1 ∧ flProgramming s = some w) :=
  ⟨⟨0, State.reset, by decide +kernel⟩,
   ⟨State.reset, 0, by decide +kernel⟩,
   ⟨0x80000, flEs, by decide +kernel⟩,
   ⟨State.reset, 0, by decide +kernel⟩,
   ⟨flP, by decide +kernel⟩,
   ⟨0, State.reset, by decide +kernel⟩,
   ⟨0x80000, fl0, by decide +kernel⟩,
   ⟨0x80000, State.reset, by decide +kernel⟩,
   ⟨(0x8040,1), flG 1, by decide +kernel⟩,
   ⟨State.reset, by decide +kernel⟩,
   ⟨flP, 0x9000, by decide +kernel⟩⟩

/-- States and operands that meet the hypotheses of `FlashErases`. -/
theorem witness_FlashErases :
    (∃ (s : State) (x : Word), s.hguard = none ∧ x ≠ ~~~2) ∧
    (∃ (s : State) (x : Word), s.hguard = none ∧ x ≠ ~~~3) ∧
    (∃ (s : State), s.hguard = none ∧ (hgetB s 32772 0 = true ∨ hgetB s 32772 2 = true)) ∧
    (∃ (a : BitVec 24) (s : State), s.hguard = none ∧ (hgetB s 32772 0 = true ∨ hgetB s 32772 2 = true ∧ a.toNat / 8192 = s.flash.sector)) ∧
    (∃ (a : BitVec 24) (s : State), s.hguard = none ∧ hgetB s 32772 0 = false ∧ hgetB s 32772 2 = false ∧ flLocked a.toNat = true) ∧
    (∃ (a : BitVec 24) (s : State), s.hguard = none ∧ hgetB s 32772 0 = false ∧ hgetB s 32772 2 = false ∧ flLocked a.toNat = false) ∧
    (∃ (a : BitVec 24) (s : State), s.hguard = none ∧ hgetB s 32772 0 = false ∧ (¬(hgetB s 32772 2 = true ∧ a.toNat / 8192 = s.flash.sector))) ∧
    (∃ (s : State), (s.flash.op ≠ 2 ∨ hgetB s 32772 2 = true)) ∧
    (∃ (n : Nat) (s : State), s.flash.op = 2 ∧ hgetB s 32772 2 = false ∧ s.flash.heldRead = none ∧ (200 ≤ n ∨ s.flash.opAge + clkUs 200 ≤ s.age)) ∧
    (∃ (n : Nat) (s : State), s.flash.op = 2 ∧ hgetB s 32772 2 = false ∧ n < 200 ∧ s.age < s.flash.opAge + clkUs 200) ∧
    (∃ (s : State), hgetB s 32772 3 = false) ∧
    (∃ (s : State), hgetB s 32772 3 = true ∧ s.flash.op = 2 ∧ s.flash.heldRead = none) ∧
    (∃ (s : State), hgetB s 32772 2 = true ∧ hgetB s 32772 0 = false) ∧
    (∃ (s : State), hgetB s 32772 2 = true ∧ hgetB s 32772 0 = true) ∧
    (∃ (s : State), s.flash.op ≠ 3) ∧
    (∃ (ws : List Nat) (s : State), s.flash.op = 3 ∧ List.filter (fun x => decide (x < 512)) ws ++ notBlank s s.flash.checkSec = []) ∧
    (∃ (ws : List Nat) (s : State), s.flash.op = 3 ∧ List.filter (fun x => decide (x < 512)) ws ++ notBlank s s.flash.checkSec ≠ []) ∧
    (∃ (s : State), s.settings.active < 2) :=
  ⟨⟨State.reset, 0, by decide +kernel⟩,
   ⟨State.reset, 0, by decide +kernel⟩,
   ⟨flP, by decide +kernel⟩,
   ⟨0, flP, by decide +kernel⟩,
   ⟨0, State.reset, by decide +kernel⟩,
   ⟨0x80000, State.reset, by decide +kernel⟩,
   ⟨0, State.reset, by decide +kernel⟩,
   ⟨State.reset, by decide +kernel⟩,
   ⟨200, flE, by decide +kernel⟩,
   ⟨0, flE, by decide +kernel⟩,
   ⟨State.reset, by decide +kernel⟩,
   ⟨flEp, by decide +kernel⟩,
   ⟨flEs, by decide +kernel⟩,
   ⟨flEsP, by decide +kernel⟩,
   ⟨State.reset, by decide +kernel⟩,
   ⟨[], flB, by decide +kernel⟩,
   ⟨[], flB2, by decide +kernel⟩,
   ⟨State.reset, by decide +kernel⟩⟩

/-- States and operands that meet the hypotheses of `PowerStateRequests`. -/
theorem witness_PowerStateRequests :
    (∃ (w : Word) (s : State), s.guard = some (65600, ~~~w) ∧ guardInTimeR s = true ∧ bitOf (~~~w) 8 = true ∧ getB s 65536 8 = false ∧ fieldOf (~~~w) 1 0 = radioPower s) ∧
    (∃ (w : Word) (s : State), s.guard = some (65600, ~~~w) ∧ guardInTimeR s = true ∧ bitOf (~~~w) 8 = true ∧ getB s 65536 8 = false ∧ fieldOf (~~~w) 1 0 ≠ radioPower s ∧ 2 ≤ fieldOf (~~~w) 1 0 ∧ (s.boot.trial = true ∨ ((List.range 6).any fun n => decide (4 * ↑(getF s 65544 15 8) < sensorTemp s n)) = true)) ∧
    (∃ (w : Word) (s : State), s.guard = some (65600, ~~~w) ∧ guardInTimeR s = true ∧ bitOf (~~~w) 8 = true ∧ getB s 65536 8 = false ∧ fieldOf (~~~w) 1 0 ≠ radioPower s ∧ fieldOf (~~~w) 1 0 < 2 ∧ radioPower s < 2) ∧
    (∃ (w : Word) (s : State), s.guard = some (65600, ~~~w) ∧ guardInTimeR s = true ∧ bitOf (~~~w) 8 = true ∧ getB s 65536 8 = false ∧ 2 ≤ fieldOf (~~~w) 1 0 ∧ s.boot.trial = false ∧ ((List.range 6).any fun n => decide (4 * ↑(getF s 65544 15 8) < sensorTemp s n)) = false ∧ radioPower s < 2) ∧
    (∃ (w : Word) (s : State), s.guard = some (65600, ~~~w) ∧ guardInTimeR s = true ∧ bitOf (~~~w) 8 = true ∧ getB s 65536 8 = true ∧ getB s 65536 9 = true) ∧
    (∃ (w : Word) (s : State), s.guard = some (65600, ~~~w) ∧ guardInTimeR s = true ∧ bitOf (~~~w) 8 = false) ∧
    (∃ (s : State), (radioPower s ≠ 2 ∨ getB s 65548 0 = false ∨ rd s 65552 = 0)) ∧
    (∃ (s : State), radioPower s = 2 ∧ getB s 65548 0 = true ∧ rd s 65552 ≠ 0 ∧ getB s 65536 8 = false) ∧
    (∃ (s : State), (radioPower s ≠ 2 ∨ getB s 65548 1 = false)) ∧
    (∃ (s : State), radioPower s = 2 ∧ getB s 65548 1 = true ∧ getB s 65536 8 = false) ∧
    (∃ (s : State), getB s 65536 8 = true ∧ getB s 65536 9 = true ∧ s.power.dead = false ∧ s.power.start < 2 ∧ s.power.second = none ∧ getB s 65536 14 = false ∧ getF s 65536 5 4 < 3) ∧
    (∃ (s : State), getB s 65536 8 = true ∧ s.power.dead = false ∧ s.power.start < 2 ∧ s.power.second = none ∧ getB s 65536 14 = false ∧ getF s 65536 5 4 = 3 ∧ getB s 65536 9 = true) ∧
    (∃ (s : State), (getB s 65536 8 = false ∨ getB s 65536 9 = true)) ∧
    (∃ (s : State), getB s 65536 8 = true ∧ getB s 65536 9 = false) :=
  ⟨⟨(~~~0x102 : Word), pwG 0x102 pwHold, by decide +kernel⟩,
   ⟨(~~~0x102 : Word), pwG 0x102 pwHot, by decide +kernel⟩,
   ⟨(~~~0x100 : Word), pwG 0x100 pwW, by decide +kernel⟩,
   ⟨(~~~0x102 : Word), pwG 0x102 pw0, by decide +kernel⟩,
   ⟨(~~~0x103 : Word), pwG 0x103 pwPen, by decide +kernel⟩,
   ⟨(~~~2 : Word), pwG 2 pw0, by decide +kernel⟩,
   ⟨State.reset, by decide +kernel⟩,
   ⟨pwWakeH, by decide +kernel⟩,
   ⟨State.reset, by decide +kernel⟩,
   ⟨pwWakeH, by decide +kernel⟩,
   ⟨pwT 1 pw0, by decide +kernel⟩,
   ⟨setB 0x10000 9 true (pwT 3 pwUp), by decide +kernel⟩,
   ⟨State.reset, by decide +kernel⟩,
   ⟨pwT 2 pw0, by decide +kernel⟩⟩

/-- States and operands that meet the hypotheses of `PowerFaultsAndHostStates`. -/
theorem witness_PowerFaultsAndHostStates :
    (∃ (r : Fin 5) (c : Fin 6) (s : State), getB s (65664 + 4 * ↑r) 16 = true ∧ coreRuns s = true ∧ ↑c ≠ 0) ∧
    (∃ (r : Fin 5) (s : State), getB s (65664 + 4 * ↑r) 16 = false) ∧
    (∃ (r : Fin 5) (w : BitVec 16) (s : State), getB s (65664 + 4 * ↑r) 16 = true ∧ coreRuns s = true ∧ pmbFault w = false) ∧
    (∃ (r : Fin 5) (w : BitVec 16) (s : State), getB s (65664 + 4 * ↑r) 16 = true ∧ coreRuns s = true ∧ pmbFault w = true) ∧
    (∃ (s : State), (getB s 65536 8 = false ∨ s.power.start < 2)) ∧
    (∃ (s : State), getB s 65536 8 = true ∧ 2 ≤ s.power.start ∧ s.power.dead = false) ∧
    (∃ (s : State), (getF s 65536 1 0 ≠ 0 ∨ getB s 65568 0 = false)) ∧
    (∃ (s : State), getF s 65536 1 0 = 0 ∧ getB s 65568 0 = true ∧ s.power.dead = false) ∧
    (∃ (s : State), islandOnly s = false) ∧
    (∃ (s : State), islandOnly s = true ∧ s.power.dead = false) ∧
    (∃ (s : State), hostPower s ≠ 1) ∧
    (∃ (s : State), hostRuns s = false) ∧
    (∃ (s : State), hostRuns s = true ∧ s.tender.hold0 ≠ []) ∧
    (∃ (s : State), hostRuns s = true ∧ s.tender.hold0 = [] ∧ s.tender.tags = [] ∧ hrd s 12292 = 0) ∧
    (∃ (c : WakeSrc) (s : State), (hostPower s ≠ 1 ∨ wakeEnabled s c = false)) ∧
    (∃ (c : WakeSrc) (s : State), hostPower s = 1 ∧ wakeEnabled s c = true) :=
  ⟨⟨0, 1, State.reset, by decide +kernel⟩,
   ⟨1, wr 0x10084 0 pwRail, by decide +kernel⟩,
   ⟨0, 0, State.reset, by decide +kernel⟩,
   ⟨0, 4, State.reset, by decide +kernel⟩,
   ⟨State.reset, by decide +kernel⟩,
   ⟨pwT 3 pwHold, by decide +kernel⟩,
   ⟨pwW, by decide +kernel⟩,
   ⟨State.reset, by decide +kernel⟩,
   ⟨State.reset, by decide +kernel⟩,
   ⟨pwHold, by decide +kernel⟩,
   ⟨State.reset, by decide +kernel⟩,
   ⟨pwSb, by decide +kernel⟩,
   ⟨pwStand, by decide +kernel⟩,
   ⟨State.reset, by decide +kernel⟩,
   ⟨(.tag : WakeSrc), State.reset, by decide +kernel⟩,
   ⟨(.tag : WakeSrc), pwSb, by decide +kernel⟩⟩

/-- States and operands that meet the hypotheses of `DieResets`. -/
theorem witness_DieResets :
    (∃ (s : State) (w : Word), radioPower s < 2 ∧ s.power.dead = false ∧ resetEarlier s.linkR s = true ∧ s.guard = some (64, ~~~w) ∧ guardInTimeR s = true ∧ bitOf (~~~w) 0 = true) ∧
    (∃ (s : State) (w : Word), radioPower s < 2 ∧ s.power.dead = false ∧ resetEarlier s.linkR s = true ∧ s.guard = some (64, ~~~w) ∧ guardInTimeR s = true ∧ bitOf (~~~w) 0 = false) ∧
    (∃ (s : State), radioPower s = 3 ∧ s.power.dead = false ∧ resetEarlier s.linkR s = true) ∧
    (∃ (s : State), coreRuns s = true) ∧
    (∃ (s : State), hostRuns s = true ∧ resetEarlier s.linkH s = true) ∧
    (∃ (s : State), hostRuns s = true ∧ Machine.upH s = false) ∧
    (∃ (s : State), hostRuns s = true ∧ Machine.upH s = true) ∧
    (∃ (s : State), hostRuns s = false) :=
  ⟨⟨rsG 0x40 1 rsKey, (~~~1 : Word), by decide +kernel⟩,
   ⟨rsG 0x40 0 rsKey, (~~~0 : Word), by decide +kernel⟩,
   ⟨pwOff, by decide +kernel⟩,
   ⟨State.reset, by decide +kernel⟩,
   ⟨State.reset, by decide +kernel⟩,
   ⟨State.reset, by decide +kernel⟩,
   ⟨ba0, by decide +kernel⟩,
   ⟨rsOff, by decide +kernel⟩⟩

/-- States and operands that meet the hypotheses of `BootSequence`. -/
theorem witness_BootSequence :
    (∃ (s : State), (hostRuns s = false ∨ s.boot.mode ≠ 0)) ∧
    (∃ (b : BitVec 4) (s : State), hostRuns s = true ∧ s.boot.mode = 0 ∧ b.toNat / 2 % 4 = 2) ∧
    (∃ (b : BitVec 4) (s : State), hostRuns s = true ∧ s.boot.mode = 0 ∧ b.toNat / 2 % 4 = 1) ∧
    (∃ (b : BitVec 4) (s : State), hostRuns s = true ∧ s.boot.mode = 0 ∧ b.toNat / 2 % 4 ≠ 1 ∧ b.toNat / 2 % 4 ≠ 2 ∧ s.flash.words = []) ∧
    (∃ (s : State), (tenderRuns s = false ∨ s.boot.stage ≠ 0)) ∧
    (∃ (s : State), tenderRuns s = true ∧ s.boot.stage = 0) ∧
    (∃ (s : State), (s.boot.starting = false ∨ s.boot.mode ≠ 1)) ∧
    (∃ (s : State), s.boot.starting = true ∧ s.boot.mode = 1 ∧ hostRuns s = true) ∧
    (∃ (s : State), (s.boot.trial = false ∨ s.tender.radioReady = false ∨ Machine.upH s = false)) ∧
    (∃ (s : State), s.boot.trial = true ∧ s.tender.radioReady = true ∧ Machine.upH s = true ∧ s.boot.mode = 1) ∧
    (∃ (s : State), s.boot.trial = false) ∧
    (∃ (s : State), s.boot.trial = true ∧ hostPower s < 2 ∧ resetEarlier s.linkR s = true ∧ resetEarlier s.linkH s = true) :=
  ⟨⟨ba0, by decide +kernel⟩,
   ⟨4, State.reset, by decide +kernel⟩,
   ⟨2, State.reset, by decide +kernel⟩,
   ⟨0, State.reset, by decide +kernel⟩,
   ⟨State.reset, by decide +kernel⟩,
   ⟨ba0, by decide +kernel⟩,
   ⟨State.reset, by decide +kernel⟩,
   ⟨rsSt, by decide +kernel⟩,
   ⟨State.reset, by decide +kernel⟩,
   ⟨rsBm 1, by decide +kernel⟩,
   ⟨State.reset, by decide +kernel⟩,
   ⟨rsBm 1, by decide +kernel⟩⟩

/-- States and operands that meet the hypotheses of `SensorsAndAlarms`. -/
theorem witness_SensorsAndAlarms :
    (∃ (n : Fin 8) (s : State), ↑n < 6 ∧ coreRuns s = false) ∧
    (∃ (n : Fin 8) (s : State), 6 ≤ ↑n ∧ (hostRuns s = false ∨ s.boot.mode ≠ 1)) ∧
    (∃ (n : Fin 8) (s : State), ↑n < 6 ∧ coreRuns s = true) ∧
    (∃ (n : Fin 8) (s : State), 6 ≤ ↑n ∧ hostRuns s = true ∧ s.boot.mode = 1) ∧
    (∃ (r : Fin 13) (s : State), ↑r < 8 ∧ coreRuns s = false) ∧
    (∃ (r : Fin 13) (s : State), 8 ≤ ↑r ∧ (hostRuns s = false ∨ s.boot.mode ≠ 1)) ∧
    (∃ (r : Fin 13) (s : State), ↑r < 8 ∧ coreRuns s = true) ∧
    (∃ (r : Fin 13) (s : State), 8 ≤ ↑r ∧ hostRuns s = true ∧ s.boot.mode = 1) :=
  ⟨⟨0, pwHold, by decide +kernel⟩,
   ⟨6, State.reset, by decide +kernel⟩,
   ⟨0, State.reset, by decide +kernel⟩,
   ⟨6, sn0, by decide +kernel⟩,
   ⟨0, pwHold, by decide +kernel⟩,
   ⟨8, State.reset, by decide +kernel⟩,
   ⟨0, State.reset, by decide +kernel⟩,
   ⟨8, sn0, by decide +kernel⟩⟩

/-- States and operands that meet the hypotheses of `Watchdogs`. -/
theorem witness_Watchdogs :
    (∃ (s : State), (s.keeper.wdtOn = false ∨ coreRuns s = false)) ∧
    (∃ (n : Nat) (s : State), s.keeper.wdtOn = true ∧ coreRuns s = true ∧ s.keeper.kickClk = s.ntb.clk ∧ s.ntb.slew = 0 ∧ resetEarlier s.linkR s = true ∧ fieldOf s.keeper.wdtCfg 15 0 ≤ n) ∧
    (∃ (n : Nat) (s : State), s.keeper.wdtOn = true ∧ coreRuns s = true ∧ s.keeper.kickClk = s.ntb.clk ∧ s.ntb.slew = 0 ∧ resetEarlier s.linkR s = true ∧ n < fieldOf s.keeper.wdtCfg 15 0 ∧ n < fieldOf s.keeper.wdtCfg 23 16) ∧
    (∃ (w : Word) (n : Nat) (s : State), s.keeper.wdtOn = true ∧ coreRuns s = true ∧ s.keeper.kickClk = s.ntb.clk ∧ s.ntb.slew = 0 ∧ resetEarlier s.linkR s = true ∧ n < fieldOf s.keeper.wdtCfg 15 0 ∧ fieldOf s.keeper.wdtCfg 23 16 ≤ n ∧ w ≠ wdtExpected s) ∧
    (∃ (w : Word) (n : Nat) (s : State), s.keeper.wdtOn = true ∧ coreRuns s = true ∧ s.keeper.kickClk = s.ntb.clk ∧ s.ntb.slew = 0 ∧ resetEarlier s.linkR s = true ∧ n < fieldOf s.keeper.wdtCfg 15 0 ∧ n < wdtWarnMs s ∧ fieldOf s.keeper.wdtCfg 23 16 ≤ n ∧ w = wdtExpected s) ∧
    (∃ (w : Word) (n : Nat) (s : State), s.keeper.wdtOn = true ∧ coreRuns s = true ∧ s.keeper.kickClk = s.ntb.clk ∧ s.ntb.slew = 0 ∧ resetEarlier s.linkR s = true ∧ n < fieldOf s.keeper.wdtCfg 15 0 ∧ wdtWarnMs s ≤ n ∧ fieldOf s.keeper.wdtCfg 23 16 ≤ n ∧ w = wdtExpected s) ∧
    (∃ (s : State), s.keeper.wdtOn = true ∧ coreRuns s = true ∧ s.keeper.warned = false ∧ s.ntb.clk < s.keeper.kickClk + wdtWarnMs s * 655360) ∧
    (∃ (w : Word) (s : State), s.guard = some (786496, ~~~w) ∧ guardInTimeR s = true ∧ (fieldOf (~~~w) 15 0 < 10 ∨ fieldOf (~~~w) 15 0 ≤ fieldOf (~~~w) 23 16 ∨ fieldOf (~~~w) 15 0 ≤ 10 * fieldOf (~~~w) 31 24)) ∧
    (∃ (w : Word) (s : State), s.guard = some (786496, ~~~w) ∧ guardInTimeR s = true ∧ 10 ≤ fieldOf (~~~w) 15 0 ∧ fieldOf (~~~w) 23 16 < fieldOf (~~~w) 15 0 ∧ 10 * fieldOf (~~~w) 31 24 < fieldOf (~~~w) 15 0) ∧
    (∃ (s : State), hostRuns s = false) ∧
    (∃ (s : State), hostRuns s = true) :=
  ⟨⟨State.reset, by decide +kernel⟩,
   ⟨1000, sn0, by decide +kernel⟩,
   ⟨0, sn0, by decide +kernel⟩,
   ⟨0, 50, sn0, by decide +kernel⟩,
   ⟨0xA5A5, 50, sn0, by decide +kernel⟩,
   ⟨0xA5A5, 999, sn0, by decide +kernel⟩,
   ⟨sn0, by decide +kernel⟩,
   ⟨(~~~0x000A0005 : Word), snG 0x000A0005, by decide +kernel⟩,
   ⟨(~~~0x0A3203E8 : Word), snG 0x0A3203E8, by decide +kernel⟩,
   ⟨rsOff, by decide +kernel⟩,
   ⟨State.reset, by decide +kernel⟩⟩

/-- States and operands that meet the hypotheses of `TagAirInterface`. -/
theorem witness_TagAirInterface :
    (∃ (s : State), s.tag.st ≠ 0) ∧
    (∃ (s : State), s.tag.st = 0) ∧
    (∃ (s : State), s.tag.quiet = true ∧ s.tag.st = 1) ∧
    (∃ (s : State), s.tag.quiet = true ∧ s.tag.st = 4) ∧
    (∃ (s : State), (s.tag.st = 5 ∨ s.tag.st = 0)) ∧
    (∃ (s : State), s.tag.quiet = false ∧ s.tag.st = 1) ∧
    (∃ (s : State), s.tag.quiet = false ∧ s.tag.st = 4) ∧
    (∃ (s : State), (s.tag.st = 2 ∨ s.tag.st = 3) ∧ s.tag.st = 2) ∧
    (∃ (s : State), (s.tag.st = 2 ∨ s.tag.st = 3) ∧ s.tag.st = 3) ∧
    (∃ (u : BitVec 56) (s : State), s.tag.st = 2 ∧ u = Config.tagUid) ∧
    (∃ (u : BitVec 56) (s : State), (s.tag.st = 3 ∨ s.tag.st = 2 ∧ u ≠ Config.tagUid)) ∧
    (∃ (s : State), s.tag.st ≠ 2 ∧ s.tag.st ≠ 3 ∧ s.tag.st ≠ 5) ∧
    (∃ (s : State), s.tag.st = 5) :=
  ⟨⟨tgS 1, by decide +kernel⟩,
   ⟨State.reset, by decide +kernel⟩,
   ⟨tgQ, by decide +kernel⟩,
   ⟨{ tgS 4 with tag := { (tgS 4).tag with quiet := true } }, by decide +kernel⟩,
   ⟨State.reset, by decide +kernel⟩,
   ⟨tgS 1, by decide +kernel⟩,
   ⟨tgS 4, by decide +kernel⟩,
   ⟨tgS 2, by decide +kernel⟩,
   ⟨tgS 3, by decide +kernel⟩,
   ⟨Config.tagUid, tgS 2, by decide +kernel, rfl⟩,
   ⟨0, tgS 3, by decide +kernel⟩,
   ⟨State.reset, by decide +kernel⟩,
   ⟨tgS 5, by decide +kernel⟩⟩

/-- States and operands that meet the hypotheses of `TagCommands`. -/
theorem witness_TagCommands :
    (∃ (s : State), (s.tag.st ≠ 5 ∨ s.tag.fieldWrite.isSome = true ∨ s.tag.fieldWait.isSome = true)) ∧
    (∃ (bs : List Byte) (s : State), s.tag.st = 5 ∧ s.tag.fieldWrite = none ∧ s.tag.fieldWait = none ∧ s.tag.sk = [] ∧ bs = []) ∧
    (∃ (bs : List Byte) (s : State), s.tag.st = 5 ∧ s.tag.fieldWrite = none ∧ s.tag.fieldWait = none ∧ s.tag.sk = [] ∧ bs ≠ [] ∧ tagCodes.contains (leAt bs 0 1) = false) ∧
    (∃ (bs : List Byte) (s : State), s.tag.st = 5 ∧ s.tag.fieldWrite = none ∧ s.tag.fieldWait = none ∧ s.tag.sk = [] ∧ leAt bs 0 1 = 1 ∧ bs.length = 1 ∧ tagSecured s = false) ∧
    (∃ (bs : List Byte) (s : State), s.tag.st = 5 ∧ s.tag.fieldWrite = none ∧ s.tag.fieldWait = none ∧ s.tag.sk = [] ∧ leAt bs 0 1 = 1 ∧ bs.length = 1 ∧ tagSecured s = true) ∧
    (∃ (bs : List Byte) (s : State), s.tag.st = 5 ∧ s.tag.fieldWrite = none ∧ s.tag.fieldWait = none ∧ s.tag.sk = [] ∧ leAt bs 0 1 = 32 ∧ bs.length ≠ 2) ∧
    (∃ (bs : List Byte) (s : State), s.tag.st = 5 ∧ s.tag.fieldWrite = none ∧ s.tag.fieldWait = none ∧ s.tag.sk = [] ∧ leAt bs 0 1 = 32 ∧ bs.length = 2 ∧ 63 < leAt bs 1 1) ∧
    (∃ (bs : List Byte) (s : State), s.tag.st = 5 ∧ s.tag.fieldWrite = none ∧ s.tag.fieldWait = none ∧ s.tag.sk = [] ∧ leAt bs 0 1 = 32 ∧ bs.length = 2 ∧ leAt bs 1 1 ≤ 63 ∧ (tagSecured s = true ∨ fread s (leAt bs 1 1) = true)) ∧
    (∃ (bs : List Byte) (s : State), s.tag.st = 5 ∧ s.tag.fieldWrite = none ∧ s.tag.fieldWait = none ∧ s.tag.sk = [] ∧ leAt bs 0 1 = 32 ∧ bs.length = 2 ∧ leAt bs 1 1 ≤ 63 ∧ tagSecured s = false ∧ fread s (leAt bs 1 1) = false) ∧
    (∃ (bs : List Byte) (s : State), s.tag.st = 5 ∧ s.tag.fieldWrite = none ∧ s.tag.fieldWait = none ∧ s.tag.sk = [] ∧ leAt bs 0 1 = 33 ∧ bs.length = 130) ∧
    (∃ (bs : List Byte) (s : State), s.tag.st = 5 ∧ s.tag.fieldWrite = none ∧ s.tag.fieldWait = none ∧ s.tag.sk = [] ∧ leAt bs 0 1 = 48 ∧ bs.length = 3) ∧
    (∃ (bs : List Byte) (s : State), s.tag.st = 5 ∧ s.tag.fieldWrite = none ∧ s.tag.fieldWait = none ∧ s.tag.sk = [] ∧ leAt bs 0 1 = 16 ∧ bs.length = 1) ∧
    (∃ (bs : List Byte) (s : State), s.tag.st = 5 ∧ s.tag.fieldWrite = none ∧ s.tag.fieldWait = none ∧ s.tag.sk = [] ∧ leAt bs 0 1 = 17 ∧ bs.length = 33 ∧ s.tag.rt = none) ∧
    (∃ (bs : List Byte) (s : State), s.tag.st = 5 ∧ s.tag.fieldWrite = none ∧ s.tag.fieldWait = none ∧ s.tag.sk = [] ∧ leAt bs 0 1 = 17 ∧ bs.length = 33 ∧ s.tag.rt.isSome = true ∧ xorL (aesDec (roundKeys (natsOf (tagKey s))) (List.drop 16 (natsOf (List.drop 1 bs)))) (List.take 16 (natsOf (List.drop 1 bs))) ≠ rotByte (natsOf (s.tag.rt.getD []))) ∧
    (∃ (bs : List Byte) (s : State), s.tag.st = 5 ∧ s.tag.fieldWrite = none ∧ s.tag.fieldWait = none ∧ s.tag.sk = [] ∧ leAt bs 0 1 = 17 ∧ bs.length = 33 ∧ s.tag.rt.isSome = true ∧ xorL (aesDec (roundKeys (natsOf (tagKey s))) (List.drop 16 (natsOf (List.drop 1 bs)))) (List.take 16 (natsOf (List.drop 1 bs))) = rotByte (natsOf (s.tag.rt.getD []))) ∧
    (∃ (bs : List Byte) (s : State), s.tag.st = 5 ∧ s.tag.fieldWrite = none ∧ s.tag.fieldWait = none ∧ s.tag.hostWrite = none ∧ s.tag.sk ≠ [] ∧ 8 ≤ bs.length) :=
  ⟨⟨State.reset, by decide +kernel⟩,
   ⟨[], tgS 5, by decide +kernel⟩,
   ⟨[0x99], tgS 5, by decide +kernel⟩,
   ⟨[1], tgS 5, by decide +kernel⟩,
   ⟨[1], tgSec, by decide +kernel⟩,
   ⟨[0x20,5,1], tgS 5, by decide +kernel⟩,
   ⟨[0x20,70], tgS 5, by decide +kernel⟩,
   ⟨[0x20,5], tgSec, by decide +kernel⟩,
   ⟨[0x20,5], tgS 5, by decide +kernel⟩,
   ⟨([0x21,5] ++ List.replicate 128 9 : List Byte), tgS 5, by decide +kernel⟩,
   ⟨[0x30,1,5], tgS 5, by decide +kernel⟩,
   ⟨[0x10], tgS 5, by decide +kernel⟩,
   ⟨([0x11] ++ List.replicate 32 3 : List Byte), tgS 5, by decide +kernel⟩,
   ⟨([0x11] ++ List.replicate 32 3 : List Byte), tgBeg, by decide +kernel⟩,
   ⟨tgAns, tgBeg, by decide +kernel⟩,
   ⟨([0x21,5] ++ List.replicate 128 9 : List Byte), tgSk, by decide +kernel⟩⟩

/-- States and operands that meet the hypotheses of `TagPagesAndHost`, part 1. -/
theorem witness_TagPagesAndHost :
    (∃ (f : Bool) (s : State), ((if f = true then s.tag.fieldWrite else s.tag.hostWrite) = none)) ∧
    (∃ (p : Fin 65) (s : State) (w : TagWrite), s.tag.fieldWrite = some w ∧ w.page ≠ ↑p) ∧
    (∃ (p : Fin 65) (s : State) (w : TagWrite), s.tag.fieldWrite = some w ∧ w.page = ↑p ∧ s.tag.held = none) ∧
    (∃ (p : Fin 65) (s : State) (w : TagWrite), s.tag.hostWrite = some w ∧ w.page = ↑p ∧ s.tag.fieldWait = none) ∧
    (∃ (s : State), hostRuns s = false) ∧
    (∃ (o : Word) (z : AccSize) (s : State), hostRuns s = true ∧ (accAddr z (BitVec.toNat o % 8192) / 128 = 0 ∨ hgetB s 24580 8 = true ∧ hgetF s 24588 13 8 ≠ accAddr z (BitVec.toNat o % 8192) / 128)) ∧
    (∃ (o : Word) (z : AccSize) (s : State), hostRuns s = true ∧ accAddr z (BitVec.toNat o % 8192) / 128 ≠ 0 ∧ hgetB s 24580 8 = false) ∧
    (∃ (o : Word) (z : AccSize) (s : State), hostRuns s = true ∧ accAddr z (BitVec.toNat o % 8192) / 128 ≠ 0 ∧ hgetB s 24580 8 = true ∧ hgetF s 24588 13 8 = accAddr z (BitVec.toNat o % 8192) / 128) :=
  ⟨⟨true, tg0, by decide +kernel⟩,
   ⟨0, tgFw, { cmd := 1, page := 5, data := [0x04#8, 0x04#8, 0x04#8, 0x04#8, 0x04#8, 0x04#8, 0x04#8, 0x04#8, 0x04#8, 0x04#8, 0x04#8, 0x04#8, 0x04#8, 0x04#8, 0x04#8, 0x04#8, 0x04#8, 0x04#8, 0x04#8, 0x04#8, 0x04#8, 0x04#8, 0x04#8, 0x04#8, 0x04#8, 0x04#8, 0x04#8, 0x04#8, 0x04#8, 0x04#8, 0x04#8, 0x04#8, 0x04#8, 0x04#8, 0x04#8, 0x04#8, 0x04#8, 0x04#8, 0x04#8, 0x04#8, 0x04#8, 0x04#8, 0x04#8, 0x04#8, 0x04#8, 0x04#8, 0x04#8, 0x04#8, 0x04#8, 0x04#8, 0x04#8, 0x04#8, 0x04#8, 0x04#8, 0x04#8, 0x04#8, 0x04#8, 0x04#8, 0x04#8, 0x04#8, 0x04#8, 0x04#8, 0x04#8, 0x04#8, 0x04#8, 0x04#8, 0x04#8, 0x04#8, 0x04#8, 0x04#8, 0x04#8, 0x04#8, 0x04#8, 0x04#8, 0x04#8, 0x04#8, 0x04#8, 0x04#8, 0x04#8, 0x04#8, 0x04#8, 0x04#8, 0x04#8, 0x04#8, 0x04#8, 0x04#8, 0x04#8, 0x04#8, 0x04#8, 0x04#8, 0x04#8, 0x04#8, 0x04#8, 0x04#8, 0x04#8, 0x04#8, 0x04#8, 0x04#8, 0x04#8, 0x04#8, 0x04#8, 0x04#8, 0x04#8, 0x04#8, 0x04#8, 0x04#8, 0x04#8, 0x04#8, 0x04#8, 0x04#8, 0x04#8, 0x04#8, 0x04#8, 0x04#8, 0x04#8, 0x04#8, 0x04#8, 0x04#8, 0x04#8, 0x04#8, 0x04#8, 0x04#8, 0x04#8, 0x04#8, 0x04#8, 0x04#8, 0x04#8, 0x04#8], asked := 0, since := 0 }, by decide +kernel⟩,
   ⟨5, tgFw, { cmd := 1, page := 5, data := [0x04#8, 0x04#8, 0x04#8, 0x04#8, 0x04#8, 0x04#8, 0x04#8, 0x04#8, 0x04#8, 0x04#8, 0x04#8, 0x04#8, 0x04#8, 0x04#8, 0x04#8, 0x04#8, 0x04#8, 0x04#8, 0x04#8, 0x04#8, 0x04#8, 0x04#8, 0x04#8, 0x04#8, 0x04#8, 0x04#8, 0x04#8, 0x04#8, 0x04#8, 0x04#8, 0x04#8, 0x04#8, 0x04#8, 0x04#8, 0x04#8, 0x04#8, 0x04#8, 0x04#8, 0x04#8, 0x04#8, 0x04#8, 0x04#8, 0x04#8, 0x04#8, 0x04#8, 0x04#8, 0x04#8, 0x04#8, 0x04#8, 0x04#8, 0x04#8, 0x04#8, 0x04#8, 0x04#8, 0x04#8, 0x04#8, 0x04#8, 0x04#8, 0x04#8, 0x04#8, 0x04#8, 0x04#8, 0x04#8, 0x04#8, 0x04#8, 0x04#8, 0x04#8, 0x04#8, 0x04#8, 0x04#8, 0x04#8, 0x04#8, 0x04#8, 0x04#8, 0x04#8, 0x04#8, 0x04#8, 0x04#8, 0x04#8, 0x04#8, 0x04#8, 0x04#8, 0x04#8, 0x04#8, 0x04#8, 0x04#8, 0x04#8, 0x04#8, 0x04#8, 0x04#8, 0x04#8, 0x04#8, 0x04#8, 0x04#8, 0x04#8, 0x04#8, 0x04#8, 0x04#8, 0x04#8, 0x04#8, 0x04#8, 0x04#8, 0x04#8, 0x04#8, 0x04#8, 0x04#8, 0x04#8, 0x04#8, 0x04#8, 0x04#8, 0x04#8, 0x04#8, 0x04#8, 0x04#8, 0x04#8, 0x04#8, 0x04#8, 0x04#8, 0x04#8, 0x04#8, 0x04#8, 0x04#8, 0x04#8, 0x04#8, 0x04#8, 0x04#8, 0x04#8, 0x04#8], asked := 0, since := 0 }, by decide +kernel⟩,
   ⟨5, tgHw, { cmd := 1, page := 5, data := [0x00#8, 0x00#8, 0x00#8, 0x00#8, 0x05#8, 0x00#8, 0x00#8, 0x00#8, 0x00#8, 0x00#8, 0x00#8, 0x00#8, 0x00#8, 0x00#8, 0x00#8, 0x00#8, 0x00#8, 0x00#8, 0x00#8, 0x00#8, 0x00#8, 0x00#8, 0x00#8, 0x00#8, 0x00#8, 0x00#8, 0x00#8, 0x00#8, 0x00#8, 0x00#8, 0x00#8, 0x00#8, 0x00#8, 0x00#8, 0x00#8, 0x00#8, 0x00#8, 0x00#8, 0x00#8, 0x00#8, 0x00#8, 0x00#8, 0x00#8, 0x00#8, 0x00#8, 0x00#8, 0x00#8, 0x00#8, 0x00#8, 0x00#8, 0x00#8, 0x00#8, 0x00#8, 0x00#8, 0x00#8, 0x00#8, 0x00#8, 0x00#8, 0x00#8, 0x00#8, 0x00#8, 0x00#8, 0x00#8, 0x00#8, 0x00#8, 0x00#8, 0x00#8, 0x00#8, 0x00#8, 0x00#8, 0x00#8, 0x00#8, 0x00#8, 0x00#8, 0x00#8, 0x00#8, 0x00#8, 0x00#8, 0x00#8, 0x00#8, 0x00#8, 0x00#8, 0x00#8, 0x00#8, 0x00#8, 0x00#8, 0x00#8, 0x00#8, 0x00#8, 0x00#8, 0x00#8, 0x00#8, 0x00#8, 0x00#8, 0x00#8, 0x00#8, 0x00#8, 0x00#8, 0x00#8, 0x00#8, 0x00#8, 0x00#8, 0x00#8, 0x00#8, 0x00#8, 0x00#8, 0x00#8, 0x00#8, 0x00#8, 0x00#8, 0x00#8, 0x00#8, 0x00#8, 0x00#8, 0x00#8, 0x00#8, 0x00#8, 0x00#8, 0x00#8, 0x00#8, 0x00#8, 0x00#8, 0x00#8, 0x00#8, 0x00#8, 0x00#8, 0x00#8, 0x00#8], asked := 0, since := 0 }, by decide +kernel⟩,
   ⟨rsOff, by decide +kernel⟩,
   ⟨0, (.b1 : AccSize), tg0, by decide +kernel⟩,
   ⟨0x84, (.b1 : AccSize), tg0, by decide +kernel⟩,
   ⟨0x284, (.b1 : AccSize), tgHc, by decide +kernel⟩⟩

/-- States and operands that meet the hypotheses of `TagPagesAndHost`, part 2. -/
theorem witness_TagPagesAndHost_2 :
    (∃ (s : State), hostRuns s = true ∧ hgetB s 24580 9 = true) ∧
    (∃ (s : State), hostRuns s = true ∧ hgetB s 24580 9 = false ∧ hgetB s 24580 8 = false) ∧
    (∃ (s : State), hostRuns s = true ∧ hgetB s 24580 9 = false ∧ hgetB s 24580 8 = true ∧ s.tag.fieldWrite = none) ∧
    (∃ (s : State), hostRuns s = true ∧ hgetB s 24580 9 = false ∧ (hgetF s 24576 12 8 < 2 ∨ 20 < hgetF s 24576 12 8)) ∧
    (∃ (s : State), hostRuns s = true ∧ hgetB s 24580 9 = false ∧ 2 ≤ hgetF s 24576 12 8 ∧ hgetF s 24576 12 8 ≤ 20 ∧ s.tag.fieldWrite = none) ∧
    (∃ (s : State) (w : TagWrite), hostRuns s = true ∧ hgetB s 24580 9 = false ∧ 2 ≤ hgetF s 24576 12 8 ∧ hgetF s 24576 12 8 ≤ 20 ∧ s.tag.fieldWrite = some w ∧ w.page = 64) ∧
    (∃ (s : State), s.tag.held.isSome = true) :=
  ⟨⟨tgHw, by decide +kernel⟩,
   ⟨tg0, by decide +kernel⟩,
   ⟨tgHc, by decide +kernel⟩,
   ⟨tg0, by decide +kernel⟩,
   ⟨tgCf, by decide +kernel⟩,
   ⟨tgCfF, { cmd := 3, page := 64, data := [0x04#8, 0x04#8, 0x04#8, 0x04#8, 0x04#8, 0x04#8, 0x04#8, 0x04#8, 0x04#8, 0x04#8, 0x04#8, 0x04#8, 0x04#8, 0x04#8, 0x04#8, 0x04#8, 0x04#8, 0x04#8, 0x04#8, 0x04#8, 0x04#8, 0x04#8, 0x04#8, 0x04#8, 0x04#8, 0x04#8, 0x04#8, 0x04#8, 0x04#8, 0x04#8, 0x04#8, 0x04#8, 0x04#8, 0x04#8], asked := 0, since := 0 }, by decide +kernel⟩,
   ⟨tgBoth, by decide +kernel⟩⟩

/-- States and operands that meet the hypotheses of `SelfTestsTonesAndTaps`. -/
theorem witness_SelfTestsTonesAndTaps :
    (∃ (s : State), bistRunning s = false) ∧
    (∃ (s : State), bistRunning s = true) ∧
    (∃ (s : State), s.keeper.toneEnd = none) ∧
    (∃ (s : State), s.keeper.toneEnd.isSome = true) ∧
    (∃ (s : State), s.keeper.loopNext = none) ∧
    (∃ (s : State) (k : Nat), s.keeper.loopNext = some k ∧ k < 3) ∧
    (∃ (d : Die) (s : State), (if d = Die.radio then s.power.dead = false else hostPower s < 2)) ∧
    (∃ (d : Die) (s : State), (if d = Die.radio then s.power.dead = true else 2 ≤ hostPower s)) :=
  ⟨⟨State.reset, by decide +kernel⟩,
   ⟨tsB 0 4 ts0, by decide +kernel⟩,
   ⟨State.reset, by decide +kernel⟩,
   ⟨tsTone, by decide +kernel⟩,
   ⟨State.reset, by decide +kernel⟩,
   ⟨tsLp 0, 0, by decide +kernel⟩,
   ⟨(.radio : Die), State.reset, by decide +kernel⟩,
   ⟨(.radio : Die), nz7, by decide +kernel⟩⟩

/-- States and operands that meet the hypotheses of `TenderCommands`, part 1. -/
theorem witness_TenderCommands :
    (∃ (q : Req) (s : State), forTender q s = false) ∧
    (∃ (q : Req) (s : State), forTender q s = true ∧ q.payload.length ≠ 0) ∧
    (∃ (q : Req) (s : State), forTender q s = true ∧ q.payload.length ≠ 4) ∧
    (∃ (q : Req) (s : State), forTender q s = true ∧ q.payload.length ≠ 8) ∧
    (∃ (q : Req) (s : State), forTender q s = true ∧ q.payload.length ≠ 24) ∧
    (∃ (q : Req) (s : State), forTender q s = true ∧ q.payload = [] ∧ (getBank s s.settings.active).valid = false) ∧
    (∃ (q : Req) (s : State), forTender q s = true ∧ q.payload = [] ∧ (getBank s s.settings.active).valid = true ∧ s.tender.radioReady = false) ∧
    (∃ (q : Req) (s : State), forTender q s = true ∧ q.payload = [] ∧ (getBank s s.settings.active).valid = true ∧ s.tender.radioReady = true) ∧
    (∃ (q : Req) (s : State), forTender q s = true ∧ q.payload.length = 4 ∧ (fld q 0 1 = 0 ∨ 3 < fld q 0 1 ∨ fld q 1 3 ≠ 0)) :=
  ⟨⟨(rq 5 [] : Req), tr0, by decide +kernel⟩,
   ⟨(rq 30 [1,0,0,0] : Req), tr0, by decide +kernel⟩,
   ⟨(rq 30 [] : Req), tr0, by decide +kernel⟩,
   ⟨(rq 30 [] : Req), tr0, by decide +kernel⟩,
   ⟨(rq 30 [] : Req), tr0, by decide +kernel⟩,
   ⟨(rq 30 [] : Req), tr0, by decide +kernel⟩,
   ⟨(rq 30 [] : Req), { trBank with tender := { trBank.tender with radioReady := false } }, by decide +kernel⟩,
   ⟨(rq 30 [] : Req), trBank, by decide +kernel⟩,
   ⟨(rq 3 [9,0,0,0] : Req), corePut 257 [3] trBank, by decide +kernel⟩⟩

/-- States and operands that meet the hypotheses of `TenderCommands`, part 2. -/
theorem witness_TenderCommands_2 :
    (∃ (q : Req) (s : State), forTender q s = true ∧ q.payload.length = 4 ∧ 1 ≤ fld q 0 1 ∧ fld q 0 1 ≤ 3 ∧ fld q 1 3 = 0) ∧
    (∃ (q : Req) (s : State), forTender q s = true ∧ q.payload.length = 8 ∧ fld q 0 1 < 8 ∧ fld q 1 1 = 0 ∧ fld q 4 2 ≤ 4076 ∧ fld q 6 2 = 0) ∧
    (∃ (q : Req) (s : State), forTender q s = true ∧ q.payload.length = 8 ∧ fld q 4 1 ≤ 127 ∧ fld q 5 3 = 0 ∧ s.tender.snapshot = none) ∧
    (∃ (q : Req) (s : State) (log : List (List Byte)), forTender q s = true ∧ q.payload.length = 8 ∧ fld q 4 1 ≤ 127 ∧ fld q 5 3 = 0 ∧ s.tender.snapshot = some log ∧ log ≠ []) ∧
    (∃ (q : Req) (s : State), forTender q s = true ∧ q.payload.length = 24) ∧
    (∃ (q : Req) (s : State), forTender q s = true ∧ q.payload.length = 4 ∧ fld q 2 2 = 0 ∧ (s.tender.netSeen = false ∨ s.tender.netState % 4 = 0)) ∧
    (∃ (q : Req) (s : State), forTender q s = true ∧ q.payload.length = 4 ∧ fld q 2 2 = 0 ∧ s.tender.netSeen = true ∧ s.tender.netState % 4 ≠ 0 ∧ s.rtc.sync.isSome = true) ∧
    (∃ (q : Req) (s : State), forTender q s = true ∧ q.payload.length = 4 ∧ fld q 2 2 = 0 ∧ s.tender.netSeen = true ∧ s.tender.netState % 4 ≠ 0 ∧ s.rtc.sync = none) :=
  ⟨⟨(rq 30 [1,0,0,0] : Req), tr0, by decide +kernel⟩,
   ⟨(rq 30 [7,0,0,0,1,0,0,0] : Req), tr0, by decide +kernel⟩,
   ⟨(rq 30 [7,0,0,0,1,0,0,0] : Req), nz1, by decide +kernel⟩,
   ⟨(rq 30 [7,0,0,0,1,0,0,0] : Req), trSnap, [[0x07#8, 0x00#8, 0x00#8, 0x00#8, 0x01#8, 0x00#8, 0x00#8, 0x00#8, 0x00#8, 0x00#8, 0x00#8, 0x00#8, 0x00#8, 0x00#8, 0x00#8, 0x00#8, 0x00#8, 0x00#8, 0x00#8, 0x00#8, 0x00#8, 0x00#8, 0x00#8, 0x00#8, 0x00#8, 0x00#8, 0x00#8, 0x00#8, 0x00#8, 0x00#8, 0x00#8, 0x00#8], [0x08#8, 0x00#8, 0x00#8, 0x00#8, 0x02#8, 0x00#8, 0x00#8, 0x00#8, 0x00#8, 0x00#8, 0x00#8, 0x00#8, 0x00#8, 0x00#8, 0x00#8, 0x00#8, 0x00#8, 0x00#8, 0x00#8, 0x00#8, 0x00#8, 0x00#8, 0x00#8, 0x00#8, 0x00#8, 0x00#8, 0x00#8, 0x00#8, 0x00#8, 0x00#8, 0x00#8, 0x00#8]], by decide +kernel⟩,
   ⟨(rq 30 okKey : Req), tr0, by decide +kernel⟩,
   ⟨(rq 30 [1,0,0,0] : Req), tr0, by decide +kernel⟩,
   ⟨(rq 30 [1,0,0,0] : Req), trSync2, by decide +kernel⟩,
   ⟨(rq 30 [1,0,0,0] : Req), trSync, by decide +kernel⟩⟩

/-- States and operands that meet the hypotheses of `UpdateCommands`, part 1. -/
theorem witness_UpdateCommands :
    (∃ (q : Req) (s : State), forTender q s = true ∧ q.payload.length < 296) ∧
    (∃ (q : Req) (s : State), forTender q s = true ∧ 296 ≤ q.payload.length ∧ inTrial s = false) ∧
    (∃ (q : Req) (s : State), forTender q s = true ∧ (q.payload.length < 8 ∨ 4072 < q.payload.length ∨ (q.payload.length - 8) % 16 ≠ 0)) ∧
    (∃ (q : Req) (s : State), forTender q s = true ∧ 8 ≤ q.payload.length ∧ q.payload.length ≤ 4072 ∧ (q.payload.length - 8) % 16 = 0 ∧ (fld q 4 4 ≠ 0 ∨ fld q 0 4 ≠ updNext s)) ∧
    (∃ (q : Req) (s : State), forTender q s = true ∧ 8 ≤ q.payload.length ∧ q.payload.length ≤ 4072 ∧ (q.payload.length - 8) % 16 = 0 ∧ fld q 4 4 = 0 ∧ fld q 0 4 = updNext s ∧ q.payload.length - 8 = 0) ∧
    (∃ (q : Req) (s : State), forTender q s = true ∧ 8 ≤ q.payload.length ∧ q.payload.length ≤ 4072 ∧ (q.payload.length - 8) % 16 = 0 ∧ fld q 4 4 = 0 ∧ q.payload.length - 8 ≠ 0 ∧ s.boot.session = false) :=
  ⟨⟨(udQ [] : Req), udSlot trRec, by decide +kernel⟩,
   ⟨(udQ (leBytes 300 0) : Req), udSlot trRec, by decide +kernel⟩,
   ⟨(udQ [] : Req), udSlot trRec, by decide +kernel⟩,
   ⟨udQ (leBytes 24 5), udSlot trRec, by decide +kernel⟩,
   ⟨(udQ (leBytes 8 0) : Req), udSlot trRec, by decide +kernel⟩,
   ⟨(udQ (leBytes 40 0) : Req), trRec, by decide +kernel⟩⟩

/-- States and operands that meet the hypotheses of `UpdateCommands`, part 2. -/
theorem witness_UpdateCommands_2 :
    (∃ (q : Req) (s : State), forTender q s = true ∧ 8 ≤ q.payload.length ∧ q.payload.length ≤ 4072 ∧ (q.payload.length - 8) % 16 = 0 ∧ fld q 4 4 = 0 ∧ q.payload.length ≠ 8 ∧ s.boot.session = true ∧ fld q 0 4 = s.boot.next ∧ hBody (slotHeader s (otherSlot s)) < fld q 0 4 + (q.payload.length - 8)) ∧
    (∃ (q : Req) (s : State), forTender q s = true ∧ 8 ≤ q.payload.length ∧ q.payload.length ≤ 4072 ∧ (q.payload.length - 8) % 16 = 0 ∧ fld q 4 4 = 0 ∧ q.payload.length ≠ 8 ∧ s.boot.session = true ∧ fld q 0 4 = s.boot.next ∧ fld q 0 4 + (q.payload.length - 8) ≤ hBody (slotHeader s (otherSlot s)) ∧ fld q 0 4 + (q.payload.length - 8) < min (hBody (slotHeader s (otherSlot s))) (verified s (otherSlot s) + 65536)) ∧
    (∃ (q : Req) (s : State), forTender q s = true ∧ 8 ≤ q.payload.length ∧ q.payload.length ≤ 4072 ∧ (q.payload.length - 8) % 16 = 0 ∧ fld q 4 4 = 0 ∧ q.payload.length ≠ 8 ∧ s.boot.session = true ∧ fld q 0 4 = s.boot.next ∧ fld q 0 4 + (q.payload.length - 8) ≤ hBody (slotHeader s (otherSlot s)) ∧ min (hBody (slotHeader s (otherSlot s))) (verified s (otherSlot s) + 65536) ≤ fld q 0 4 + (q.payload.length - 8) ∧ verified s (otherSlot s) < hBody (slotHeader s (otherSlot s))) ∧
    (∃ (q : Req) (s : State), forTender q s = true ∧ q.payload = [] ∧ verified s (otherSlot s) = hBody (slotHeader s (otherSlot s))) ∧
    (∃ (q : Req) (s : State), forTender q s = true ∧ q.payload = [] ∧ verified s (otherSlot s) ≠ hBody (slotHeader s (otherSlot s))) ∧
    (∃ (q : Req) (s : State), forTender q s = true ∧ q.payload = [] ∧ inTrial s = false) :=
  ⟨⟨(udQ (leBytes 72 0) : Req), udSlot trRec, by decide +kernel⟩,
   ⟨(udQ (leBytes 40 0) : Req), udSlot trRec, by decide +kernel⟩,
   ⟨(udQ (leBytes 56 0) : Req), udSlot trRec, by decide +kernel⟩,
   ⟨(udQ [] : Req), udZero, by decide +kernel⟩,
   ⟨(udQ [] : Req), udSlot trRec, by decide +kernel⟩,
   ⟨(udQ [] : Req), udSlot trRec, by decide +kernel⟩⟩

/-- States and operands that meet the hypotheses of `KeyLoadAndPowerState`, part 1. -/
theorem witness_KeyLoadAndPowerState :
    (∃ (q : Req), q.payload.length ≠ 32 ∧ q.payload.length ≠ 48) ∧
    (∃ (q : Req) (s : State), (q.payload.length = 32 ∨ q.payload.length = 48) ∧ (ktOk (fld q 0 4) && attrOk (fld q 4 4) && !(decide (16 ≤ (useOf s 35585 q).target) && decide ((useOf s 35585 q).target < 30))) = false) ∧
    (∃ (q : Req) (s : State), (q.payload.length = 32 ∨ q.payload.length = 48) ∧ (ktOk (fld q 0 4) && attrOk (fld q 4 4) && !(decide (16 ≤ (useOf s 35585 q).target) && decide ((useOf s 35585 q).target < 30))) = true ∧ q.payload.length = 16 + keySize (attrBig (fld q 4 4)) ∧ ((useOf s 35585 q).target == 30 || (useOf s 35585 q).target == hostDev s) = false ∧ (fld q 0 4 = 0 ∨ attrBig (fld q 4 4) = true)) :=
  ⟨⟨(rq 30 [] : Req), by decide +kernel⟩,
   ⟨(rq 30 (leBytes 4 5 ++ leBytes 4 0x1F ++ leBytes 24 1) : Req), udTag 0x8B01 trBank, by decide +kernel⟩,
   ⟨(rq 5 (leBytes 4 0 ++ leBytes 4 0x11 ++ leBytes 40 1) : Req), trBank, by decide +kernel⟩⟩

/-- States and operands that meet the hypotheses of `KeyLoadAndPowerState`, part 2. -/
theorem witness_KeyLoadAndPowerState_2 :
    (∃ (q : Req) (s : State), (q.payload.length = 32 ∨ q.payload.length = 48) ∧ (ktOk (fld q 0 4) && attrOk (fld q 4 4) && !(decide (16 ≤ (useOf s 35585 q).target) && decide ((useOf s 35585 q).target < 30))) = true ∧ q.payload.length = 16 + keySize (attrBig (fld q 4 4)) ∧ ((useOf s 35585 q).target == 30 || (useOf s 35585 q).target == hostDev s) = true ∧ loadRefused (fld q 0 4) (fld q 4 4) = true) ∧
    (∃ (q : Req) (s : State), (q.payload.length = 32 ∨ q.payload.length = 48) ∧ (ktOk (fld q 0 4) && attrOk (fld q 4 4) && !(decide (16 ≤ (useOf s 35585 q).target) && decide ((useOf s 35585 q).target < 30))) = true ∧ q.payload.length = 16 + keySize (attrBig (fld q 4 4)) ∧ ((useOf s 35585 q).target == 30 || (useOf s 35585 q).target == hostDev s) = true ∧ loadRefused (fld q 0 4) (fld q 4 4) = false ∧ (256 ≤ fld q 0 4 ∨ (getBank s s.settings.active).valid = true)) ∧
    (∃ (q : Req) (s : State), s.tender.reqs.contains (↑q.win, reqMsg 35329 q) = true ∧ q.payload.length = 4 ∧ forTender q s = true ∧ (3 < fld q 0 1 ∨ fld q 1 3 ≠ 0)) :=
  ⟨⟨(rq 30 (leBytes 4 0 ++ leBytes 4 0x11 ++ leBytes 40 1) : Req), udTag 0x8B01 trBank, by decide +kernel⟩,
   ⟨(rq 30 (leBytes 4 5 ++ leBytes 4 0x10 ++ leBytes 24 1) : Req), udTag 0x8B01 trBank, by decide +kernel⟩,
   ⟨(rq 30 [9,0,0,0] : Req), psReq 9, by decide +kernel⟩⟩

/-- States and operands that meet the hypotheses of `KeyLoadAndPowerState`, part 3. -/
theorem witness_KeyLoadAndPowerState_3 :
    (∃ (q : Req) (s : State), s.tender.reqs.contains (↑q.win, reqMsg 35329 q) = true ∧ q.payload.length = 4 ∧ forTender q s = true ∧ fld q 0 1 < 4 ∧ fld q 1 3 = 0) ∧
    (∃ (q : Req) (s : State), s.tender.reqs.contains (↑q.win, reqMsg 35329 q) = false ∧ forKeeper 35329 q s = true ∧ q.payload.length = 4 ∧ getB s 65536 8 = false ∧ (3 < fld q 0 1 ∨ fld q 1 3 ≠ 0)) ∧
    (∃ (q : Req) (s : State), s.tender.reqs.contains (↑q.win, reqMsg 35329 q) = false ∧ forKeeper 35329 q s = true ∧ q.payload.length = 4 ∧ getB s 65536 8 = false ∧ fld q 0 1 = radioPower s ∧ fld q 1 3 = 0) :=
  ⟨⟨(rq 30 [0,0,0,0] : Req), psReq 0, by decide +kernel⟩,
   ⟨(rq 30 [9,0,0,0] : Req), udTag 0x8B01 trBank, by decide +kernel⟩,
   ⟨(rq 30 [0,0,0,0] : Req), udTag 0x8B01 trBank, by decide +kernel⟩⟩

/-- States and operands that meet the hypotheses of `KeyLoadAndPowerState`, part 4. -/
theorem witness_KeyLoadAndPowerState_4 :
    (∃ (q : Req) (s : State), s.tender.reqs.contains (↑q.win, reqMsg 35329 q) = false ∧ forKeeper 35329 q s = true ∧ q.payload.length = 4 ∧ getB s 65536 8 = false ∧ fld q 0 1 ≠ radioPower s ∧ fld q 0 1 < 2 ∧ radioPower s < 2 ∧ fld q 1 3 = 0) :=
  ⟨(rq 30 [0,0,0,0] : Req), setF 0x10000 1 0 1 tr0, by decide +kernel⟩

/-- States and operands that meet the hypotheses of `KeeperReadCommands`. -/
theorem witness_KeeperReadCommands :
    (∃ (q : Req) (s : State), forKeeper 770 q s = true ∧ q.payload.length ≠ 0) ∧
    (∃ (q : Req) (s : State), forKeeper 772 q s = true ∧ q.payload.length ≠ 4) ∧
    (∃ (q : Req) (s : State), forKeeper 773 q s = true ∧ q.payload.length ≠ 4) ∧
    (∃ (q : Req) (s : State), forKeeper 1025 q s = true ∧ q.payload.length ≠ 0) ∧
    (∃ (q : Req) (s : State), forKeeper 1030 q s = true ∧ q.payload.length ≠ 8) ∧
    (∃ (q : Req) (s : State), forKeeper 1284 q s = true ∧ q.payload.length ≠ 4) ∧
    (∃ (q : Req) (s : State), forKeeper 1793 q s = true ∧ q.payload.length ≠ 0) ∧
    (∃ (q : Req) (s : State), forKeeper 2049 q s = true ∧ q.payload.length ≠ 0) ∧
    (∃ (q : Req) (s : State), forKeeper 2306 q s = true ∧ q.payload.length ≠ 4) ∧
    (∃ (q : Req) (s : State), forKeeper 2307 q s = true ∧ q.payload.length ≠ 0) ∧
    (∃ (q : Req) (s : State), forKeeper 2819 q s = true ∧ q.payload.length ≠ 4) ∧
    (∃ (q : Req) (s : State), forKeeper 3329 q s = true ∧ q.payload.length ≠ 8) ∧
    (∃ (q : Req) (s : State), forKeeper 3585 q s = true ∧ q.payload.length ≠ 0) ∧
    (∃ (q : Req) (s : State), q.payload = [] ∧ forKeeper 770 q s = true) ∧
    (∃ (q : Req) (s : State), q.payload = [] ∧ forKeeper 1025 q s = true) ∧
    (∃ (q : Req) (s : State), q.payload = [] ∧ forKeeper 2049 q s = true) ∧
    (∃ (q : Req) (s : State), q.payload = [] ∧ forKeeper 2307 q s = true) ∧
    (∃ (q : Req) (s : State), q.payload = [] ∧ forKeeper 3585 q s = true) ∧
    (∃ (q : Req) (s : State), q.payload = [] ∧ forKeeper 1793 q s = true) ∧
    (∃ (q : Req) (s : State), q.payload.length = 4 ∧ forKeeper 773 q s = true ∧ fld q 0 1 < 64 ∧ fld q 1 3 = 0) ∧
    (∃ (q : Req) (s : State), q.payload.length = 4 ∧ forKeeper 773 q s = true ∧ 64 ≤ fld q 0 1) ∧
    (∃ (q : Req) (s : State), q.payload.length = 4 ∧ forKeeper 2306 q s = true ∧ fld q 0 1 < 96 ∧ fld q 1 3 = 0) ∧
    (∃ (q : Req) (s : State), q.payload.length = 4 ∧ forKeeper 2306 q s = true ∧ 96 ≤ fld q 0 1) ∧
    (∃ (q : Req) (s : State), q.payload.length = 4 ∧ forKeeper 2819 q s = true ∧ fld q 1 1 = 0 ∧ fld q 2 2 ≠ 0 ∧ fld q 0 1 + fld q 2 2 ≤ 256) ∧
    (∃ (q : Req) (s : State), q.payload.length = 4 ∧ forKeeper 772 q s = true ∧ fld q 0 1 < 64 ∧ fld q 1 3 = 0) ∧
    (∃ (q : Req) (s : State), q.payload.length = 4 ∧ forKeeper 772 q s = true ∧ fld q 0 1 < 64 ∧ fld q 1 1 = 1 ∧ fld q 2 2 = 0) ∧
    (∃ (q : Req) (s : State), q.payload.length = 4 ∧ forKeeper 1284 q s = true ∧ fld q 0 1 < 8 ∧ fld q 1 1 = 0) ∧
    (∃ (q : Req) (s : State), q.payload.length = 8 ∧ forKeeper 1030 q s = true ∧ fld q 4 2 ≤ 4076 ∧ fld q 6 2 = 0 ∧ fld q 0 4 + fld q 4 2 ≤ s.pathS.bins.length) ∧
    (∃ (q : Req) (s : State), q.payload.length = 8 ∧ forKeeper 1030 q s = true ∧ fld q 4 2 ≤ 4076 ∧ fld q 6 2 = 0 ∧ s.pathS.bins.length < fld q 0 4 + fld q 4 2) ∧
    (∃ (q : Req) (s : State), q.payload.length = 8 ∧ forKeeper 3329 q s = true ∧ fld q 4 1 ≤ 127 ∧ fld q 5 3 = 0) ∧
    (∃ (q : Req) (n : Nat) (s : State), q.payload.length = 4 ∧ fld q 3 1 = 0 ∧ forNode 1283 q n s = true) ∧
    (∃ (q : Req) (n : Nat) (s : State), q.payload.length = 4 ∧ fld q 3 1 = 0 ∧ forNode 1538 q n s = true) :=
  ⟨⟨(kq [0x23,1,0,0] : Req), State.reset, by decide +kernel⟩,
   ⟨(kq [] : Req), State.reset, by decide +kernel⟩,
   ⟨(kq [] : Req), State.reset, by decide +kernel⟩,
   ⟨(kq [0x23,1,0,0] : Req), State.reset, by decide +kernel⟩,
   ⟨(kq [] : Req), State.reset, by decide +kernel⟩,
   ⟨(kq [] : Req), State.reset, by decide +kernel⟩,
   ⟨(kq [0x23,1,0,0] : Req), State.reset, by decide +kernel⟩,
   ⟨(kq [0x23,1,0,0] : Req), State.reset, by decide +kernel⟩,
   ⟨(kq [] : Req), State.reset, by decide +kernel⟩,
   ⟨(kq [0x23,1,0,0] : Req), State.reset, by decide +kernel⟩,
   ⟨(kq [] : Req), State.reset, by decide +kernel⟩,
   ⟨(kq [] : Req), State.reset, by decide +kernel⟩,
   ⟨(kq [0x23,1,0,0] : Req), State.reset, by decide +kernel⟩,
   ⟨(kq [] : Req), State.reset, by decide +kernel⟩,
   ⟨(kq [] : Req), State.reset, by decide +kernel⟩,
   ⟨(kq [] : Req), State.reset, by decide +kernel⟩,
   ⟨(kq [] : Req), State.reset, by decide +kernel⟩,
   ⟨(kq [] : Req), State.reset, by decide +kernel⟩,
   ⟨(kq [] : Req), State.reset, by decide +kernel⟩,
   ⟨(kq [1,0,0,0] : Req), State.reset, by decide +kernel⟩,
   ⟨(kq [0x56,4,0,0] : Req), State.reset, by decide +kernel⟩,
   ⟨(kq [1,0,0,0] : Req), State.reset, by decide +kernel⟩,
   ⟨(kq [96,0,0,0] : Req), State.reset, by decide +kernel⟩,
   ⟨(kq [0,0,3,0] : Req), State.reset, by decide +kernel⟩,
   ⟨(kq [1,0,0,0] : Req), State.reset, by decide +kernel⟩,
   ⟨(kq [0x23,1,0,0] : Req), State.reset, by decide +kernel⟩,
   ⟨(kq [1,0,0,0] : Req), State.reset, by decide +kernel⟩,
   ⟨(kq [2,0,0,0,4,0,0,0] : Req), kpS, by decide +kernel⟩,
   ⟨(kq [2,0,0,0,4,0,0,0] : Req), State.reset, by decide +kernel⟩,
   ⟨(kq [2,0,0,0,4,0,0,0] : Req), State.reset, by decide +kernel⟩,
   ⟨(kq [0x23,1,0,0] : Req), 5, kpC, by decide +kernel⟩,
   ⟨(kq [0x23,1,0,0] : Req), 5, kpC, by decide +kernel⟩⟩

/-- States and operands that meet the hypotheses of `ChannelPlanAndRadioCommands`. -/
theorem witness_ChannelPlanAndRadioCommands :
    (∃ (q : Req) (s : State), forKeeper 771 q s = true ∧ q.payload.length = 16 ∧ planHeld s (fld q 0 1) = true) ∧
    (∃ (q : Req) (s : State), forKeeper 771 q s = true ∧ q.payload.length = 16 ∧ planHeld s (fld q 0 1) = false ∧ planZeros q.payload = false) ∧
    (∃ (q : Req) (s : State), forKeeper 771 q s = true ∧ q.payload.length = 16 ∧ planHeld s (fld q 0 1) = false ∧ planZeros q.payload = true ∧ planCode s q.payload ≠ 0) ∧
    (∃ (q : Req) (s : State), forKeeper 771 q s = true ∧ q.payload.length = 16 ∧ planHeld s (fld q 0 1) = false ∧ planZeros q.payload = true ∧ planCode s q.payload = 0) ∧
    (∃ (q : Req) (s : State), forKeeper 769 q s = true ∧ 4 ≤ q.payload.length ∧ fld q 0 1 ≤ 64 ∧ fld q 1 1 < 2 ∧ fld q 2 2 = 0 ∧ q.payload.length = 4 + 16 * fld q 0 1 ∧ (holdsAny s 769 = true ∨ holdsAny s 771 = true)) ∧
    (∃ (q : Req) (s : State), forKeeper 769 q s = true ∧ 4 ≤ q.payload.length ∧ fld q 0 1 ≤ 64 ∧ fld q 1 1 < 2 ∧ fld q 2 2 = 0 ∧ q.payload.length = 4 + 16 * fld q 0 1 ∧ holdsAny s 769 = false ∧ holdsAny s 771 = false ∧ (planEntries q 4 (fld q 0 1)).all planZeros = true ∧ (planFail s [] (planEntries q 4 (fld q 0 1))).isSome = true) ∧
    (∃ (q : Req) (s : State), forKeeper 769 q s = true ∧ 4 ≤ q.payload.length ∧ fld q 0 1 ≤ 64 ∧ fld q 1 1 < 2 ∧ fld q 2 2 = 0 ∧ q.payload.length = 4 + 16 * fld q 0 1 ∧ holdsAny s 769 = false ∧ holdsAny s 771 = false ∧ (planEntries q 4 (fld q 0 1)).all planZeros = true ∧ planFail s [] (planEntries q 4 (fld q 0 1)) = none) ∧
    (∃ (q : Req) (s : State), forKeeper 1026 q s = true ∧ q.payload.length = 12 ∧ fld q 0 1 < 2 ∧ fld q 1 1 < 3 ∧ fld q 2 1 < 3 ∧ fld q 3 1 = 0 ∧ holdsAny s 1028 = false ∧ ([0, 1, 2, 3].all fun p => pathState s p == 0) = false) ∧
    (∃ (q : Req) (s : State), forKeeper 1026 q s = true ∧ q.payload.length = 12 ∧ fld q 0 1 < 2 ∧ fld q 1 1 < 3 ∧ fld q 2 1 < 3 ∧ fld q 3 1 = 0 ∧ holdsAny s 1028 = false ∧ ([0, 1, 2, 3].all fun p => pathState s p == 0) = true) ∧
    (∃ (q : Req) (s : State), forKeeper 1027 q s = true ∧ q.payload.length = 4 ∧ ((decide (32 ≤ fld q 0 1 ∨ 4 ≤ fld q 1 1 ∨ fld q 2 2 ≠ 0) || [0, 1, 2, 3].any fun p => (fld q 0 1).testBit p && (decide (bandLo s (pathBand s p) < 380000000) || decide (1050000000 < bandLo s (pathBand s p)))) = true)) ∧
    (∃ (q : Req) (s : State), forKeeper 1027 q s = true ∧ q.payload.length = 4 ∧ ((decide (32 ≤ fld q 0 1 ∨ 4 ≤ fld q 1 1 ∨ fld q 2 2 ≠ 0) || [0, 1, 2, 3].any fun p => (fld q 0 1).testBit p && (decide (bandLo s (pathBand s p) < 380000000) || decide (1050000000 < bandLo s (pathBand s p)))) = false)) ∧
    (∃ (q : Req) (s : State), forKeeper 1028 q s = true ∧ q.payload.length = 8 ∧ fld q 0 1 < 2 ∧ fld q 1 3 = 0 ∧ 380000000 ≤ fld q 4 4 ∧ fld q 4 4 ≤ 1050000000 ∧ (fld q 0 1 = 0 ∨ getB s 229376 0 = true) ∧ holds s 1028 (fld q 0 1) = false) ∧
    (∃ (q : Req) (s : State), forKeeper 1029 q s = true ∧ q.payload.length = 12 ∧ fld q 8 1 < 5 ∧ fld q 10 2 = 0 ∧ fld q 0 4 ≤ fld q 4 4 ∧ surveyBins (fld q 0 4) (fld q 4 4) (fld q 8 1) ≤ 65536 ∧ holdsAny s 1029 = false ∧ (getB s 212992 0 = false ∨ getB s 212992 7 = false) ∧ sRole s = 0) ∧
    (∃ (q : Req) (s : State), forKeeper 1029 q s = true ∧ q.payload.length = 12 ∧ fld q 8 1 < 5 ∧ fld q 10 2 = 0 ∧ fld q 0 4 ≤ fld q 4 4 ∧ surveyBins (fld q 0 4) (fld q 4 4) (fld q 8 1) ≤ 65536 ∧ holdsAny s 1029 = false ∧ getB s 212992 0 = true ∧ getB s 212992 7 = true ∧ sRole s = 0) :=
  ⟨⟨(kq (ent 4 868100000) : Req), rcPl, by decide +kernel⟩,
   ⟨(kq (ent 64 0) : Req), State.reset, by decide +kernel⟩,
   ⟨(kq (ent 4 868100000) : Req), State.reset, by decide +kernel⟩,
   ⟨(kq entN : Req), rc0, by decide +kernel⟩,
   ⟨(kq (plan 0 [ent 4 868100000, ent 6 869000000]) : Req), rcPl, by decide +kernel⟩,
   ⟨(kq (plan 0 [ent 4 868100000, ent 6 869000000]) : Req), State.reset, by decide +kernel⟩,
   ⟨(kq (plan 0 []) : Req), State.reset, by decide +kernel⟩,
   ⟨(kq (leBytes 1 0 ++ leBytes 1 1 ++ leBytes 1 2 ++ leBytes 1 0 ++ leBytes 4 868000000 ++ leBytes 4 0) : Req), rcOn, by decide +kernel⟩,
   ⟨(kq (leBytes 1 0 ++ leBytes 1 1 ++ leBytes 1 2 ++ leBytes 1 0 ++ leBytes 4 868000000 ++ leBytes 4 0) : Req), State.reset, by decide +kernel⟩,
   ⟨(kq [1,0,0,0] : Req), State.reset, by decide +kernel⟩,
   ⟨(kq (plan 0 []) : Req), State.reset, by decide +kernel⟩,
   ⟨(kq (leBytes 4 0 ++ leBytes 4 869000000) : Req), State.reset, by decide +kernel⟩,
   ⟨kq (leBytes 4 868000000 ++ leBytes 4 868100000 ++ leBytes 1 0 ++ leBytes 1 2 ++ leBytes 2 0), setF 0x34000 7 0 0 rc0, by decide +kernel⟩,
   ⟨(kq (leBytes 4 868000000 ++ leBytes 4 868100000 ++ leBytes 1 0 ++ leBytes 1 2 ++ leBytes 2 0) : Req), State.reset, by decide +kernel⟩⟩

/-- States and operands that meet the hypotheses of `TestAndServiceCommands`. -/
theorem witness_TestAndServiceCommands :
    (∃ (q : Req) (s : State), forKeeper 3842 q s = true ∧ q.payload.length = 4 ∧ fld q 0 1 < 4 ∧ fld q 2 2 = 0 ∧ holds s 3842 (fld q 0 1) = false ∧ fld q 1 1 = 1 ∧ s.pathS.test.contains (fld q 0 1) = true) ∧
    (∃ (q : Req) (s : State), forKeeper 3842 q s = true ∧ q.payload.length = 4 ∧ fld q 0 1 < 4 ∧ fld q 2 2 = 0 ∧ holds s 3842 (fld q 0 1) = false ∧ fld q 1 1 = 1 ∧ s.pathS.test.contains (fld q 0 1) = false ∧ getB s 212992 0 = true ∧ getB s 212992 6 = true ∧ sRole s = 0 ∧ holdsAny s 3842 = false) ∧
    (∃ (q : Req) (s : State), forKeeper 3842 q s = true ∧ q.payload.length = 4 ∧ fld q 0 1 < 4 ∧ fld q 2 2 = 0 ∧ holds s 3842 (fld q 0 1) = false ∧ fld q 1 1 = 0 ∧ testServed s (fld q 0 1) = false ∧ holdsAny s 3842 = false) ∧
    (∃ (q : Req) (s : State), forKeeper 3843 q s = true ∧ q.payload.length = 12 ∧ fld q 0 1 < 4 ∧ fld q 1 1 ≤ 90 ∧ fld q 2 2 = 0 ∧ 2 * (sgn q 4 4).natAbs ≤ bandBw s (pathBand s (fld q 0 1)) ∧ pathState s (fld q 0 1) ≠ 3 ∧ pathState s (fld q 0 1) ≠ 4) ∧
    (∃ (q : Req) (s : State), forKeeper 3843 q s = true ∧ q.payload.length = 12 ∧ fld q 0 1 < 4 ∧ fld q 1 1 ≤ 90 ∧ fld q 2 2 = 0 ∧ 2 * (sgn q 4 4).natAbs ≤ bandBw s (pathBand s (fld q 0 1)) ∧ (pathState s (fld q 0 1) = 3 ∨ pathState s (fld q 0 1) = 4) ∧ fld q 8 4 ≠ 0) ∧
    (∃ (q : Req) (s : State), forKeeper 3843 q s = true ∧ q.payload.length = 12 ∧ fld q 0 1 < 4 ∧ fld q 1 1 ≤ 90 ∧ fld q 2 2 = 0 ∧ 2 * (sgn q 4 4).natAbs ≤ bandBw s (pathBand s (fld q 0 1)) ∧ (pathState s (fld q 0 1) = 3 ∨ pathState s (fld q 0 1) = 4) ∧ fld q 8 4 = 0) ∧
    (∃ (q : Req) (s : State), forKeeper 3844 q s = true ∧ q.payload.length = 4 ∧ fld q 1 3 = 0 ∧ 1 ≤ fld q 0 1 ∧ fld q 0 1 ≤ 2) ∧
    (∃ (q : Req) (s : State), forKeeper 3844 q s = true ∧ q.payload.length = 4 ∧ fld q 1 3 = 0 ∧ 7 ≤ fld q 0 1) ∧
    (∃ (q : Req) (s : State), forKeeper 3844 q s = true ∧ q.payload.length = 4 ∧ fld q 1 3 = 0 ∧ fld q 0 1 = 0) ∧
    (∃ (q : Req) (s : State), forKeeper 3841 q s = true ∧ q.payload.length = 4 ∧ (decide (fld q 0 1 < 3) && decide (fld q 1 1 < [32, 16, 8].getD (fld q 0 1) 0) && decide (fld q 2 2 = 0)) = false) ∧
    (∃ (q : Req) (s : State), forKeeper 3841 q s = true ∧ q.payload.length = 4 ∧ (decide (fld q 0 1 < 3) && decide (fld q 1 1 < [32, 16, 8].getD (fld q 0 1) 0) && decide (fld q 2 2 = 0)) = true ∧ (unitHeld s (fld q 0 1) (fld q 1 1) = true ∨ bistRunning s = true)) ∧
    (∃ (q : Req) (s : State), forKeeper 3841 q s = true ∧ q.payload.length = 4 ∧ (decide (fld q 0 1 < 3) && decide (fld q 1 1 < [32, 16, 8].getD (fld q 0 1) 0) && decide (fld q 2 2 = 0)) = true ∧ unitHeld s (fld q 0 1) (fld q 1 1) = false ∧ bistRunning s = false ∧ (fld q 0 1 = 1 ∧ frdOut s (fld q 1 1) = false ∨ fld q 0 1 = 2 ∧ coreIn s (fld q 1 1) = true)) ∧
    (∃ (q : Req) (s : State), forKeeper 3841 q s = true ∧ q.payload.length = 4 ∧ (decide (fld q 0 1 < 3) && decide (fld q 1 1 < [32, 16, 8].getD (fld q 0 1) 0) && decide (fld q 2 2 = 0)) = true ∧ unitHeld s (fld q 0 1) (fld q 1 1) = false ∧ bistRunning s = false ∧ (fld q 0 1 = 0 ∨ fld q 0 1 = 1 ∧ frdOut s (fld q 1 1) = true ∨ fld q 0 1 = 2 ∧ coreIn s (fld q 1 1) = false)) ∧
    (∃ (q : Req) (s : State), forKeeper 36613 q s = true ∧ q.payload.length = 4 ∧ fld q 2 1 < 2 ∧ fld q 3 1 = 0 ∧ fld q 0 1 = 0 ∧ fld q 1 1 < 2 ∧ fld q 2 1 = 1 ∧ unitHeld s 1 (fld q 1 1) = false ∧ frdOut s (fld q 1 1) = false) ∧
    (∃ (q : Req) (s : State), forKeeper 36613 q s = true ∧ q.payload.length = 4 ∧ fld q 2 1 < 2 ∧ fld q 3 1 = 0 ∧ fld q 0 1 = 1 ∧ fld q 1 1 < 8 ∧ fld q 2 1 = 1 ∧ unitHeld s 2 (fld q 1 1) = false ∧ coreIn s (fld q 1 1) = true ∧ ((List.range 8).any fun x => x != fld q 1 1 && coreIn s x) = false) ∧
    (∃ (q : Req) (s : State), forKeeper 36613 q s = true ∧ q.payload.length = 4 ∧ fld q 2 1 < 2 ∧ fld q 3 1 = 0 ∧ fld q 0 1 = 1 ∧ fld q 1 1 < 8 ∧ fld q 2 1 = 1 ∧ unitHeld s 2 (fld q 1 1) = false ∧ coreIn s (fld q 1 1) = true ∧ ((List.range 8).any fun x => x != fld q 1 1 && coreIn s x) = true) ∧
    (∃ (q : Req) (s : State), forKeeper 36613 q s = true ∧ q.payload.length = 4 ∧ fld q 2 1 < 2 ∧ fld q 3 1 = 0 ∧ fld q 0 1 = 0 ∧ 2 ≤ fld q 1 1 ∧ fld q 1 1 < 16 ∧ fld q 2 1 = 1 ∧ unitHeld s 1 (fld q 1 1) = false ∧ frdOut s (fld q 1 1) = false ∧ inWatch s = false) ∧
    (∃ (q : Req) (s : State), forKeeper 36613 q s = true ∧ q.payload.length = 4 ∧ fld q 2 1 < 2 ∧ fld q 3 1 = 0 ∧ fld q 0 1 = 2 ∧ fld q 1 1 < 32 ∧ fld q 2 1 = 0 ∧ unitHeld s 0 (fld q 1 1) = false ∧ bankOut s (fld q 1 1) = true ∧ bistRunning s = false) ∧
    (∃ (q : Req) (s : State), forKeeper 3586 q s = true ∧ q.payload.length = 8 ∧ fld q 2 2 = 0 ∧ fld q 0 1 = 0 ∧ fld q 1 1 < 6 ∧ sgn q 4 2 ≤ sgn q 6 2) ∧
    (∃ (q : Req) (s : State), forKeeper 3586 q s = true ∧ q.payload.length = 8 ∧ fld q 2 2 = 0 ∧ fld q 0 1 = 1 ∧ fld q 1 1 < 8 ∧ fld q 4 2 ≤ fld q 6 2) ∧
    (∃ (q : Req) (s : State), forKeeper 3586 q s = true ∧ q.payload.length = 8 ∧ fld q 2 2 = 0 ∧ fld q 0 1 = 0 ∧ fld q 1 1 < 8 ∧ sgn q 6 2 < sgn q 4 2) ∧
    (∃ (q : Req) (s : State), forKeeper 35586 q s = true ∧ q.payload.length = 4 ∧ fld q 2 2 = 0 ∧ s.cipher.reqs = [] ∧ s.cipher.changes = [] ∧ fld q 1 1 = 0) ∧
    (∃ (q : Req) (s : State), forKeeper 35586 q s = true ∧ q.payload.length = 4 ∧ fld q 2 2 = 0 ∧ s.cipher.reqs = [] ∧ s.cipher.changes = [] ∧ fld q 1 1 = 1) :=
  ⟨⟨(kq [0,1,0,0] : Req), { rc0 with pathS := { rc0.pathS with test := [0] } }, by decide +kernel⟩,
   ⟨(kq [3,1,0,0] : Req), State.reset, by decide +kernel⟩,
   ⟨(kq (plan 0 []) : Req), State.reset, by decide +kernel⟩,
   ⟨(kq (leBytes 1 1 ++ leBytes 1 20 ++ leBytes 2 0 ++ leBytes 4 100 ++ leBytes 4 50) : Req), State.reset, by decide +kernel⟩,
   ⟨(kq (leBytes 1 1 ++ leBytes 1 20 ++ leBytes 2 0 ++ leBytes 4 100 ++ leBytes 4 50) : Req), rcOn, by decide +kernel⟩,
   ⟨(kq (leBytes 1 1 ++ leBytes 1 20 ++ leBytes 2 0 ++ leBytes 4 100 ++ leBytes 4 0) : Req), rcOn, by decide +kernel⟩,
   ⟨(kq [1,0,0,0] : Req), State.reset, by decide +kernel⟩,
   ⟨(kq [64,0,0,0] : Req), State.reset, by decide +kernel⟩,
   ⟨(kq (plan 0 []) : Req), State.reset, by decide +kernel⟩,
   ⟨(kq [3,1,0,0] : Req), State.reset, by decide +kernel⟩,
   ⟨(kq (plan 0 []) : Req), rcB, by decide +kernel⟩,
   ⟨(kq [1,0,0,0] : Req), State.reset, by decide +kernel⟩,
   ⟨(kq (plan 0 []) : Req), State.reset, by decide +kernel⟩,
   ⟨(kq [0,0,1,0] : Req), State.reset, by decide +kernel⟩,
   ⟨(kq [1,2,1,0] : Req), wr 0x90000 4 rc0, by decide +kernel⟩,
   ⟨(kq [1,2,1,0] : Req), State.reset, by decide +kernel⟩,
   ⟨(kq [0,4,1,0] : Req), State.reset, by decide +kernel⟩,
   ⟨(kq [2,4,0,0] : Req), rcOut, by decide +kernel⟩,
   ⟨(kq (leBytes 4 0 ++ leBytes 4 869000000) : Req), State.reset, by decide +kernel⟩,
   ⟨(kq (leBytes 1 1 ++ leBytes 1 3 ++ leBytes 2 0 ++ leBytes 2 5 ++ leBytes 2 300) : Req), State.reset, by decide +kernel⟩,
   ⟨(kq (leBytes 4 0 ++ leBytes 4 5) : Req), State.reset, by decide +kernel⟩,
   ⟨(kq (plan 0 []) : Req), State.reset, by decide +kernel⟩,
   ⟨(kq [3,1,0,0] : Req), State.reset, by decide +kernel⟩⟩

/-- States and operands that meet the hypotheses of `TimeAndLinkCommands`. -/
theorem witness_TimeAndLinkCommands :
    (∃ (q : Req) (s : State), forKeeper 34562 q s = true ∧ q.payload.length = 16 ∧ s.ntb.stepReady = 0 ∧ s.ntb.slew = 0 ∧ (getF s 131108 1 0 = 1 ∨ getB s 131104 14 = false) ∧ fld q 8 4 < 1000000000) ∧
    (∃ (q : Req) (s : State), forKeeper 34562 q s = true ∧ q.payload.length = 16 ∧ s.ntb.stepReady = 0 ∧ s.ntb.slew = 0 ∧ 1000000000 ≤ fld q 8 4 % 2 ^ 30) ∧
    (∃ (q : Req) (s : State), forKeeper 34562 q s = true ∧ q.payload.length = 16 ∧ s.ntb.stepReady = 0 ∧ s.ntb.slew = 0 ∧ getF s 131108 1 0 ≠ 1 ∧ getB s 131104 14 = true ∧ fld q 8 4 < 1000000000 ∧ coreRuns s = true ∧ (∀ n < 8, (getLamp s n).armed = false) ∧ (∀ n < 128, opLive s n = false)) ∧
    (∃ (q : Req) (s : State), forKeeper 34563 q s = true ∧ q.payload.length = 12 ∧ s.ntb.stepReady = 0 ∧ s.ntb.slew = 0 ∧ (getF s 131108 1 0 = 1 ∨ getB s 131104 14 = false) ∧ (decide (-999999999 ≤ (BitVec.ofNat 32 (fld q 4 4)).toInt) && decide ((BitVec.ofNat 32 (fld q 4 4)).toInt ≤ 999999999) && !(decide (0 < (BitVec.ofNat 32 (fld q 0 4)).toInt) && decide ((BitVec.ofNat 32 (fld q 4 4)).toInt < 0)) && !(decide ((BitVec.ofNat 32 (fld q 0 4)).toInt < 0) && decide (0 < (BitVec.ofNat 32 (fld q 4 4)).toInt))) = true) ∧
    (∃ (q : Req) (s : State), forKeeper 34563 q s = true ∧ q.payload.length = 12 ∧ s.ntb.stepReady = 0 ∧ s.ntb.slew = 0 ∧ (decide (-999999999 ≤ (BitVec.ofNat 32 (fld q 4 4)).toInt) && decide ((BitVec.ofNat 32 (fld q 4 4)).toInt ≤ 999999999) && !(decide (0 < (BitVec.ofNat 32 (fld q 0 4)).toInt) && decide ((BitVec.ofNat 32 (fld q 4 4)).toInt < 0)) && !(decide ((BitVec.ofNat 32 (fld q 0 4)).toInt < 0) && decide (0 < (BitVec.ofNat 32 (fld q 4 4)).toInt))) = false) ∧
    (∃ (q : Req) (s : State), forKeeper 34563 q s = true ∧ q.payload.length = 12 ∧ s.ntb.stepReady = 0 ∧ s.ntb.slew = 0 ∧ getF s 131108 1 0 ≠ 1 ∧ getB s 131104 14 = true ∧ (decide (-999999999 ≤ (BitVec.ofNat 32 (fld q 4 4)).toInt) && decide ((BitVec.ofNat 32 (fld q 4 4)).toInt ≤ 999999999) && !(decide (0 < (BitVec.ofNat 32 (fld q 0 4)).toInt) && decide ((BitVec.ofNat 32 (fld q 4 4)).toInt < 0)) && !(decide ((BitVec.ofNat 32 (fld q 0 4)).toInt < 0) && decide (0 < (BitVec.ofNat 32 (fld q 4 4)).toInt))) = true ∧ 0 ≤ ↑(reachNet ((nowNs s + 1) * nsUnit) s).ntb.net + ((BitVec.ofNat 32 (fld q 0 4)).toInt * 1000000000 + (BitVec.ofNat 32 (fld q 4 4)).toInt) * ↑nsUnit ∧ coreRuns s = true ∧ (∀ n < 8, (getLamp s n).armed = false) ∧ (∀ n < 128, opLive s n = false)) ∧
    (∃ (q : Req) (s : State), forKeeper 1796 q s = true ∧ q.payload.length = 8) ∧
    (∃ (q : Req) (s : State), forKeeper 1797 q s = true ∧ q.payload.length = 16 ∧ (decide (fld q 0 1 < 8) && decide (fld q 1 1 < 16) && decide (fld q 2 1 < 2) && decide (fld q 3 1 < 2) && decide (-549755813 ≤ sgn q 12 4) && decide (sgn q 12 4 ≤ 549755813)) = false) ∧
    (∃ (q : Req) (s : State), forKeeper 1797 q s = true ∧ q.payload.length = 16 ∧ (decide (fld q 0 1 < 8) && decide (fld q 1 1 < 16) && decide (fld q 2 1 < 2) && decide (fld q 3 1 < 2) && decide (-549755813 ≤ sgn q 12 4) && decide (sgn q 12 4 ≤ 549755813)) = true ∧ getB s 491568 0 = true ∧ fld q 0 1 % 4 ≠ 0) ∧
    (∃ (q : Req) (s : State), forKeeper 1797 q s = true ∧ q.payload.length = 16 ∧ (decide (fld q 0 1 < 8) && decide (fld q 1 1 < 16) && decide (fld q 2 1 < 2) && decide (fld q 3 1 < 2) && decide (-549755813 ≤ sgn q 12 4) && decide (sgn q 12 4 ≤ 549755813)) = true ∧ getB s 491568 0 = false) ∧
    (∃ (q : Req) (s : State), forKeeper 1798 q s = true ∧ q.payload.length = 4) ∧
    (∃ (q : Req) (s : State), (callerOf s 1798 q).origin = 16 ∧ q.target = 31 ∧ othersReachable s = [] ∧ q.payload.length = 4 ∧ slotUsOk (fld q 0 2) = true ∧ fld q 3 1 = 0 ∧ (List.any s.ctx fun p => p.2.role == 1) = false ∧ s.chain.asked = []) ∧
    (∃ (q : Req) (s : State), forKeeper 1799 q s = true ∧ 24 ≤ q.payload.length ∧ fld q 20 2 ≠ 0 ∧ fld q 20 2 ≠ 65535 ∧ fld q 22 1 ≤ 64 ∧ fld q 23 1 = 0 ∧ q.payload.length = 24 + fld q 22 1) ∧
    (∃ (q : Req) (s : State), forKeeper 1800 q s = true ∧ q.payload.length = 8 ∧ (fld q 0 4).testBit 0 = true ∧ getF s 131104 13 12 ≠ 0) ∧
    (∃ (q : Req) (s : State), forKeeper 1800 q s = true ∧ q.payload.length = 8 ∧ ((fld q 0 4).testBit 0 = false ∨ getF s 131104 13 12 = 0)) ∧
    (∃ (q : Req) (s : State), forKeeper 34818 q s = true ∧ q.payload.length = 4 ∧ (16 ≤ fld q 0 1 ∨ 16 ≤ fld q 1 1)) ∧
    (∃ (q : Req) (s : State), forKeeper 34818 q s = true ∧ q.payload.length = 4 ∧ fld q 0 1 < 16 ∧ fld q 1 1 < 16 ∧ (getBank s s.settings.active).valid = true) ∧
    (∃ (q : Req) (s : State), forKeeper 2051 q s = true ∧ q.payload.length = 12 ∧ fld q 0 1 < 2 ∧ fld q 1 3 = 0 ∧ tabGet (fun _ => none) s.shadow (mrBase (fld q 0 1) + 8) = none ∧ getF s (mrBase (fld q 0 1) + 8) 1 0 = 0 ∧ (decide (fld q 4 4 / 4 % 4 ≤ fld q 4 4 % 4) && decide (-1000000 ≤ sgn q 8 4) && decide (sgn q 8 4 ≤ 1000000)) = false) ∧
    (∃ (q : Req) (s : State), forKeeper 2051 q s = true ∧ q.payload.length = 12 ∧ fld q 0 1 < 2 ∧ fld q 1 3 = 0 ∧ tabGet (fun _ => none) s.shadow (mrBase (fld q 0 1) + 8) = none ∧ getF s (mrBase (fld q 0 1) + 8) 1 0 = 0 ∧ (decide (fld q 4 4 / 4 % 4 ≤ fld q 4 4 % 4) && decide (-1000000 ≤ sgn q 8 4) && decide (sgn q 8 4 ≤ 1000000)) = true) ∧
    (∃ (q : Req) (s : State), forKeeper 34820 q s = true ∧ q.payload.length = 4 ∧ fld q 2 2 = 0 ∧ (2 ≤ fld q 0 1 ∨ 2 ≤ fld q 1 1)) ∧
    (∃ (q : Req) (s : State), forKeeper 34820 q s = true ∧ q.payload.length = 4 ∧ fld q 2 2 = 0 ∧ fld q 0 1 < 2 ∧ fld q 1 1 < 2) ∧
    (∃ (q : Req) (s : State), forKeeper 2305 q s = true ∧ q.payload.length = 16 ∧ fld q 1 3 = 0 ∧ 96 ≤ fld q 0 1) ∧
    (∃ (q : Req) (s : State), forKeeper 2305 q s = true ∧ q.payload.length = 16 ∧ fld q 1 3 = 0 ∧ fld q 0 1 < 96) :=
  ⟨⟨(kq (leBytes 8 1000 ++ leBytes 4 5 ++ leBytes 4 77) : Req), tcLock, by decide +kernel⟩,
   ⟨(kq (leBytes 4 5 ++ leBytes 4 0x80000007 ++ leBytes 4 0xFFFFFFFF ++ leBytes 4 3) : Req), State.reset, by decide +kernel⟩,
   ⟨(kq (leBytes 8 1000 ++ leBytes 4 5 ++ leBytes 4 77) : Req), State.reset, by decide +kernel⟩,
   ⟨(kq (leBytes 4 1 ++ leBytes 4 7 ++ leBytes 4 9) : Req), tcLock, by decide +kernel⟩,
   ⟨(kq (leBytes 4 1 ++ leBytes 4 0xFFFFFFFF ++ leBytes 4 9) : Req), State.reset, by decide +kernel⟩,
   ⟨(kq (leBytes 4 1 ++ leBytes 4 7 ++ leBytes 4 9) : Req), State.reset, by decide +kernel⟩,
   ⟨(kq (leBytes 8 1234) : Req), State.reset, by decide +kernel⟩,
   ⟨(kq (leBytes 8 1000 ++ leBytes 4 5 ++ leBytes 4 77) : Req), State.reset, by decide +kernel⟩,
   ⟨(kq (leBytes 4 5 ++ leBytes 4 0x80000007 ++ leBytes 4 0xFFFFFFFF ++ leBytes 4 3) : Req), tcRel, by decide +kernel⟩,
   ⟨(kq (leBytes 1 4 ++ leBytes 1 3 ++ leBytes 1 0 ++ leBytes 1 1 ++ leBytes 4 77 ++ leBytes 4 88 ++ leBytes 4 1000) : Req), State.reset, by decide +kernel⟩,
   ⟨(kq [0x10,0x27,1,0] : Req), State.reset, by decide +kernel⟩,
   ⟨(rq 31 [0x10,0x27,1,0] : Req), State.reset, by decide +kernel⟩,
   ⟨(kq (leBytes 4 0x80003 ++ leBytes 4 5 ++ leBytes 4 6 ++ leBytes 4 7 ++ leBytes 4 8 ++ leBytes 2 44 ++ leBytes 1 2 ++ leBytes 1 0 ++ [1,2]) : Req), State.reset, by decide +kernel⟩,
   ⟨(kq (leBytes 8 0x0000000100000031) : Req), State.reset, by decide +kernel⟩,
   ⟨(kq (leBytes 8 1234) : Req), State.reset, by decide +kernel⟩,
   ⟨(kq [0x10,0x27,1,0] : Req), State.reset, by decide +kernel⟩,
   ⟨(kq [3,1,2,0] : Req), tcUp, by decide +kernel⟩,
   ⟨(kq (leBytes 1 1 ++ leBytes 3 0 ++ leBytes 4 4 ++ leBytes 4 5) : Req), State.reset, by decide +kernel⟩,
   ⟨(kq (leBytes 4 1 ++ leBytes 4 7 ++ leBytes 4 9) : Req), State.reset, by decide +kernel⟩,
   ⟨(kq [16,0,0,0] : Req), State.reset, by decide +kernel⟩,
   ⟨(kq [0,1,0,0] : Req), State.reset, by decide +kernel⟩,
   ⟨(kq (leBytes 4 96 ++ leBytes 12 0) : Req), State.reset, by decide +kernel⟩,
   ⟨(kq (leBytes 1 9 ++ leBytes 15 0) : Req), State.reset, by decide +kernel⟩⟩

/-- States and operands that meet the hypotheses of `NodeCommands`. -/
theorem witness_NodeCommands :
    (∃ (q : Req) (n : Nat) (s : State), forNode 1537 q n s = true ∧ 8 ≤ q.payload.length ∧ q.payload.length ≤ 2030 ∧ 8 ≤ fld q 3 1) ∧
    (∃ (q : Req) (n : Nat) (s : State), forNode 1537 q n s = true ∧ 8 ≤ q.payload.length ∧ q.payload.length ≤ 2030 ∧ fld q 3 1 < 8 ∧ (getCtx s n).key = []) ∧
    (∃ (q : Req) (n : Nat) (s : State), forNode 1537 q n s = true ∧ 8 ≤ q.payload.length ∧ q.payload.length ≤ 2030 ∧ fld q 3 1 < 8 ∧ (getCtx s n).key ≠ [] ∧ 255 ≤ (getCtx s n).dlPend) ∧
    (∃ (q : Req) (n : Nat) (s : State), forNode 1537 q n s = true ∧ 8 ≤ q.payload.length ∧ q.payload.length ≤ 2030 ∧ fld q 3 1 < 8 ∧ (getCtx s n).key ≠ [] ∧ (getCtx s n).dlPend < 255) ∧
    (∃ (q : Req) (n : Nat) (s : State), forNode 1285 q n s = true ∧ 20 ≤ q.payload.length ∧ q.payload.length ≤ 2046 ∧ (decide (fld q 3 1 = 0) || decide (4 ≤ fld q 3 1) || (fld q 3 1).testBit 0 && decide (fld q 4 8 = 0) || (fld q 3 1).testBit 1 && decide (64 ≤ fld q 12 1) || decide (fld q 13 3 ≠ 0)) = true) ∧
    (∃ (q : Req) (n : Nat) (s : State), forNode 1285 q n s = true ∧ 20 ≤ q.payload.length ∧ q.payload.length ≤ 2046 ∧ (decide (fld q 3 1 = 0) || decide (4 ≤ fld q 3 1) || (fld q 3 1).testBit 0 && decide (fld q 4 8 = 0) || (fld q 3 1).testBit 1 && decide (64 ≤ fld q 12 1) || decide (fld q 13 3 ≠ 0)) = false ∧ (getRun s n).conn.isSome = true) ∧
    (∃ (q : Req) (n : Nat) (s : State), forNode 1285 q n s = true ∧ 20 ≤ q.payload.length ∧ q.payload.length ≤ 2046 ∧ (decide (fld q 3 1 = 0) || decide (4 ≤ fld q 3 1) || (fld q 3 1).testBit 0 && decide (fld q 4 8 = 0) || (fld q 3 1).testBit 1 && decide (64 ≤ fld q 12 1) || decide (fld q 13 3 ≠ 0)) = false ∧ (getRun s n).conn = none ∧ s.nodes.waits = [] ∧ (getCtx s n).key = []) ∧
    (∃ (q : Req) (n : Nat) (s : State), forNode 1285 q n s = true ∧ 20 ≤ q.payload.length ∧ q.payload.length ≤ 2046 ∧ (decide (fld q 3 1 = 0) || decide (4 ≤ fld q 3 1) || (fld q 3 1).testBit 0 && decide (fld q 4 8 = 0) || (fld q 3 1).testBit 1 && decide (64 ≤ fld q 12 1) || decide (fld q 13 3 ≠ 0)) = false ∧ (getRun s n).conn = none ∧ s.nodes.waits = [] ∧ (getCtx s n).key ≠ [] ∧ 2 ^ 31 ≤ (fld q 16 4 + 2 ^ 32 - (nextSend s n + 2) % 2 ^ 32) % 2 ^ 32) ∧
    (∃ (q : Req) (n : Nat) (s : State), forNode 1285 q n s = true ∧ 20 ≤ q.payload.length ∧ q.payload.length ≤ 2046 ∧ (decide (fld q 3 1 = 0) || decide (4 ≤ fld q 3 1) || (fld q 3 1).testBit 0 && decide (fld q 4 8 = 0) || (fld q 3 1).testBit 1 && decide (64 ≤ fld q 12 1) || decide (fld q 13 3 ≠ 0)) = false ∧ (getRun s n).conn = none ∧ s.nodes.waits = [] ∧ (getCtx s n).key ≠ [] ∧ (fld q 16 4 + 2 ^ 32 - (nextSend s n + 2) % 2 ^ 32) % 2 ^ 32 < 2 ^ 31) ∧
    (∃ (q : Req) (n : Nat) (s : State), forNode 1286 q n s = true ∧ q.payload.length = 8 ∧ (fld q 3 1 ≠ 0 ∨ fld q 6 2 ≠ 0)) ∧
    (∃ (q : Req) (n : Nat) (s : State), forNode 1286 q n s = true ∧ q.payload.length = 8 ∧ fld q 3 1 = 0 ∧ fld q 6 2 = 0) ∧
    (∃ (q : Req) (n : Nat) (s : State), forNode 1282 q n s = true ∧ q.payload.length = 4 ∧ fld q 3 1 = 0 ∧ ((getRun s n).conn.isSome = true ∨ (s.nodes.waits.any fun w => w.ctx == n) = true)) ∧
    (∃ (q : Req) (n : Nat) (s : State), forNode 1282 q n s = true ∧ q.payload.length = 4 ∧ fld q 3 1 = 0 ∧ (getRun s n).conn = none ∧ s.nodes.waits = []) ∧
    (∃ (q : Req) (s : State), forKeeper 1281 q s = true ∧ q.payload.length = 36 ∧ nodeAddFields q = true ∧ deliveredBy s (fld q 0 8) = none) ∧
    (∃ (q : Req) (s : State), forKeeper 1281 q s = true ∧ q.payload.length = 36 ∧ nodeAddFields q = true ∧ deliveredBy s (fld q 0 8) = some (devOf s) ∧ s.nodes.waits = [] ∧ ((findEui s (fld q 0 8)).isSome || (findNode s (fld q 8 3)).isSome || devNid s == 0) = true) ∧
    (∃ (q : Req) (s : State), forKeeper 1281 q s = true ∧ q.payload.length = 36 ∧ nodeAddFields q = true ∧ deliveredBy s (fld q 0 8) = some (devOf s) ∧ s.nodes.waits = [] ∧ ((findEui s (fld q 0 8)).isSome || (findNode s (fld q 8 3)).isSome || devNid s == 0) = false ∧ phyOk (fld q 11 1 % 8) ((fld q 11 1).testBit 3) = false) ∧
    (∃ (q : Req) (s : State), forKeeper 1281 q s = true ∧ q.payload.length = 36 ∧ nodeAddFields q = true ∧ deliveredBy s (fld q 0 8) = some (devOf s) ∧ s.nodes.waits = [] ∧ ((findEui s (fld q 0 8)).isSome || (findNode s (fld q 8 3)).isSome || devNid s == 0) = false ∧ phyOk (fld q 11 1 % 8) ((fld q 11 1).testBit 3) = true ∧ ((getKey s (fld q 30 1)).valid && (getKey s (fld q 30 1)).usage.testBit 1) = false) ∧
    (∃ (q : Req) (s : State), forKeeper 1281 q s = true ∧ q.payload.length = 36 ∧ nodeAddFields q = true ∧ deliveredBy s (fld q 0 8) = some (devOf s) ∧ s.nodes.waits = [] ∧ ((findEui s (fld q 0 8)).isSome || (findNode s (fld q 8 3)).isSome || devNid s == 0) = false ∧ phyOk (fld q 11 1 % 8) ((fld q 11 1).testBit 3) = true ∧ ((getKey s (fld q 30 1)).valid && (getKey s (fld q 30 1)).usage.testBit 1) = true ∧ getB s 720896 1 = false ∧ quiet s = true ∧ (slotFor s).isSome = true) ∧
    (∃ (q : Req) (s : State), forKeeper 1281 q s = true ∧ q.payload.length = 36 ∧ nodeAddFields q = false) ∧
    (∃ (q : Req) (s : State), forKeeper 1539 q s = true ∧ 24 ≤ q.payload.length ∧ q.payload.length ≤ 2050 ∧ (decide (64 ≤ fld q 0 1) || decide (64 ≤ fld q 1 1) || decide (1000000000 ≤ fld q 12 4) || decide (fld q 18 2 < 16) || decide (1024 < fld q 18 2) || decide (16 ≤ fld q 20 1) || decide (fld q 21 3 ≠ 0)) = true) ∧
    (∃ (q : Req) (s : State), forKeeper 1539 q s = true ∧ 24 ≤ q.payload.length ∧ q.payload.length ≤ 2050 ∧ (decide (64 ≤ fld q 0 1) || decide (64 ≤ fld q 1 1) || decide (1000000000 ≤ fld q 12 4) || decide (fld q 18 2 < 16) || decide (1024 < fld q 18 2) || decide (16 ≤ fld q 20 1) || decide (fld q 21 3 ≠ 0)) = false ∧ phyOk (fld q 1 1 % 8) ((fld q 1 1).testBit 3) = false) ∧
    (∃ (q : Req) (s : State), forKeeper 1539 q s = true ∧ 24 ≤ q.payload.length ∧ q.payload.length ≤ 2050 ∧ (decide (64 ≤ fld q 0 1) || decide (64 ≤ fld q 1 1) || decide (1000000000 ≤ fld q 12 4) || decide (fld q 18 2 < 16) || decide (1024 < fld q 18 2) || decide (16 ≤ fld q 20 1) || decide (fld q 21 3 ≠ 0)) = false ∧ phyOk (fld q 1 1 % 8) ((fld q 1 1).testBit 3) = true ∧ ((getKey s (fld q 3 1)).valid && (getKey s (fld q 3 1)).usage.testBit 0) = false) ∧
    (∃ (q : Req) (s : State), forKeeper 1539 q s = true ∧ 24 ≤ q.payload.length ∧ q.payload.length ≤ 2050 ∧ (decide (64 ≤ fld q 0 1) || decide (64 ≤ fld q 1 1) || decide (1000000000 ≤ fld q 12 4) || decide (fld q 18 2 < 16) || decide (1024 < fld q 18 2) || decide (16 ≤ fld q 20 1) || decide (fld q 21 3 ≠ 0)) = false ∧ phyOk (fld q 1 1 % 8) ((fld q 1 1).testBit 3) = true ∧ ((getKey s (fld q 3 1)).valid && (getKey s (fld q 3 1)).usage.testBit 0) = true ∧ devNid s = 0) ∧
    (∃ (q : Req) (s : State), forKeeper 1539 q s = true ∧ 24 ≤ q.payload.length ∧ q.payload.length ≤ 2050 ∧ (decide (64 ≤ fld q 0 1) || decide (64 ≤ fld q 1 1) || decide (1000000000 ≤ fld q 12 4) || decide (fld q 18 2 < 16) || decide (1024 < fld q 18 2) || decide (16 ≤ fld q 20 1) || decide (fld q 21 3 ≠ 0)) = false ∧ phyOk (fld q 1 1 % 8) ((fld q 1 1).testBit 3) = true ∧ ((getKey s (fld q 3 1)).valid && (getKey s (fld q 3 1)).usage.testBit 0) = true ∧ devNid s ≠ 0 ∧ fcntOf s (fld q 3 1) < 2 ^ 32 ∧ freeEntry s true = none) ∧
    (∃ (q : Req) (s : State), forKeeper 1539 q s = true ∧ 24 ≤ q.payload.length ∧ q.payload.length ≤ 2050 ∧ (decide (64 ≤ fld q 0 1) || decide (64 ≤ fld q 1 1) || decide (1000000000 ≤ fld q 12 4) || decide (fld q 18 2 < 16) || decide (1024 < fld q 18 2) || decide (16 ≤ fld q 20 1) || decide (fld q 21 3 ≠ 0)) = false ∧ phyOk (fld q 1 1 % 8) ((fld q 1 1).testBit 3) = true ∧ ((getKey s (fld q 3 1)).valid && (getKey s (fld q 3 1)).usage.testBit 0) = true ∧ devNid s ≠ 0 ∧ fcntOf s (fld q 3 1) < 2 ^ 32 ∧ (freeEntry s true).isSome = true ∧ applyPending s (opBase ((freeEntry s true).getD 0)) = false ∧ quiet s = true ∧ nowNs s ≤ fld q 4 8 % 2 ^ 64 * 1000000000 + fld q 12 4) ∧
    (∃ (q : Req) (s : State), (callerOf s 260 q).origin = 16 ∧ ownShare s q.tag.toNat = false ∧ q.payload.length = 4 ∧ fld q 2 2 = 0 ∧ s.chain.asked = [] ∧ quiet s = true ∧ List.find? (fun p => p.tag == fld q 0 2 && p.origin == 16) s.keeper.pend = none) ∧
    (∃ (q : Req) (s : State) (x : Pend), (callerOf s 260 q).origin = 16 ∧ ownShare s q.tag.toNat = false ∧ q.payload.length = 4 ∧ fld q 2 2 = 0 ∧ s.chain.asked = [] ∧ quiet s = true ∧ List.find? (fun p => p.tag == fld q 0 2 && p.origin == 16) s.keeper.pend = some x ∧ [1537, 1539, 1281, 1029].contains x.opcode = false) ∧
    (∃ (q : Req) (n : Nat) (s : State) (x : Pend), (callerOf s 260 q).origin = 16 ∧ ownShare s q.tag.toNat = false ∧ ownShare s (fld q 0 2) = false ∧ q.payload.length = 4 ∧ fld q 2 2 = 0 ∧ s.chain.asked = [] ∧ s.uses = [] ∧ requester s = false ∧ (List.all s.ops fun p => !p.2.closed) = true ∧ (List.all s.nodes.runs fun p => p.2.win.isNone) = true ∧ List.find? (fun p => p.tag == fld q 0 2 && p.origin == 16) s.keeper.pend = some x ∧ x.opcode = 1537 ∧ x.obj = n ∧ ((getRun s n).dls.any fun d => d.tag == x.tag && d.origin == 16) = true) :=
  ⟨⟨(kq [0x23,1,0,8,0,0,0,0] : Req), 5, nc0, by decide +kernel⟩,
   ⟨(kq [0x23,1,0,0,1,2,3,4,5,6] : Req), 5, ncKeyless, by decide +kernel⟩,
   ⟨(kq [0x23,1,0,0,1,2,3,4,5,6] : Req), 5, ncBusy, by decide +kernel⟩,
   ⟨(kq [0x23,1,0,0,1,2,3,4,5,6] : Req), 5, nc0, by decide +kernel⟩,
   ⟨(kq ([0x23,1,0,1] ++ leBytes 8 0 ++ leBytes 1 5 ++ leBytes 3 0 ++ leBytes 4 100) : Req), 5, nc0, by decide +kernel⟩,
   ⟨(kq ([0x23,1,0,3] ++ leBytes 8 0xF0 ++ leBytes 1 5 ++ leBytes 3 0 ++ leBytes 4 100 ++ [1]) : Req), 5, ncConn, by decide +kernel⟩,
   ⟨(kq ([0x23,1,0,3] ++ leBytes 8 0xF0 ++ leBytes 1 5 ++ leBytes 3 0 ++ leBytes 4 100 ++ [1]) : Req), 5, ncKeyless, by decide +kernel⟩,
   ⟨(kq ([0x23,1,0,2] ++ leBytes 8 0 ++ leBytes 1 7 ++ leBytes 3 0 ++ leBytes 4 3) : Req), 5, nc0, by decide +kernel⟩,
   ⟨(kq ([0x23,1,0,3] ++ leBytes 8 0xF0 ++ leBytes 1 5 ++ leBytes 3 0 ++ leBytes 4 100 ++ [1]) : Req), 5, nc0, by decide +kernel⟩,
   ⟨(kq [0x23,1,0,8,0,0,0,0] : Req), 5, nc0, by decide +kernel⟩,
   ⟨(kq [0x23,1,0,0,44,1,0,0] : Req), 5, nc0, by decide +kernel⟩,
   ⟨(kq [0x23,1,0,0] : Req), 5, ncConn, by decide +kernel⟩,
   ⟨(kq [0x23,1,0,0] : Req), 5, nc0, by decide +kernel⟩,
   ⟨(kq (addP 0x77 0x321 2 4) : Req), State.reset, by decide +kernel⟩,
   ⟨(kq (addP 0x77 0x321 2 4) : Req), { ncAlone with reg := (wr 0x78044 0 ncAlone).reg }, by decide +kernel⟩,
   ⟨(kq (addP 0x77 0x321 0 4) : Req), nc0, by decide +kernel⟩,
   ⟨(kq (addP 0x77 0x321 2 3) : Req), nc0, by decide +kernel⟩,
   ⟨(kq (addP 0x77 0x321 2 4) : Req), ncAlone, by decide +kernel⟩,
   ⟨(kq (addP 0x77 0x321 20 4) : Req), State.reset, by decide +kernel⟩,
   ⟨(kq (addP 0x77 0x321 2 4) : Req), State.reset, by decide +kernel⟩,
   ⟨(kq (bcP 5 0 1 3 4) : Req), State.reset, by decide +kernel⟩,
   ⟨(kq (bcP 5 2 1 3 4) : Req), State.reset, by decide +kernel⟩,
   ⟨(kq (bcP 5 2 1 3 4) : Req), { ncAlone with reg := (wr 0x78044 0 ncAlone).reg }, by decide +kernel⟩,
   ⟨(kq (bcP 5 2 1 3 4) : Req), ncPool, by decide +kernel⟩,
   ⟨(kq (bcP 5 2 1 3 4) : Req), nc0, by decide +kernel⟩,
   ⟨(kq [0x23,1,0,0] : Req), State.reset, by decide +kernel⟩,
   ⟨(kq [7,0,0,0] : Req), nz4, { tag := 7, opcode := 769, target := 30, origin := 16, obj := 0, info := [0x05#8] }, by decide +kernel⟩,
   ⟨(kq [31,0,0,0] : Req), 5, ncDl, { tag := 31, opcode := 1537, target := 30, origin := 16, obj := 5, info := [] }, by decide +kernel⟩⟩

/-- States and operands that meet the hypotheses of `RegisterAccess`. -/
theorem witness_RegisterAccess :
    (∃ (q : Req) (s : State), forKeeper 4097 q s = true ∧ (q.payload.length % 16 ≠ 0 ∨ q.payload.length < 16 ∨ 4080 < q.payload.length)) ∧
    (∃ (q : Req) (s : State), forKeeper 4097 q s = true ∧ q.payload.length = 16 ∧ itemBad (itemAt q.payload 0) = true) ∧
    (∃ (q : Req) (s : State), forKeeper 4097 q s = true ∧ s.guard = none ∧ s.keeper.run = none ∧ q.payload.length = 16 ∧ itemBad (itemAt q.payload 0) = false ∧ (BitVec.toNat (itemAt q.payload 0).addr % 4 ≠ 0 ∨ inRadioBlocks (itemAt q.payload 0).addr = false ∧ inStoreWindow (itemAt q.payload 0).addr = false)) ∧
    (∃ (q : Req) (s : State), forKeeper 4097 q s = true ∧ s.guard = none ∧ s.keeper.run = none ∧ q.payload.length = 16 ∧ itemBad (itemAt q.payload 0) = false ∧ BitVec.toNat (itemAt q.payload 0).addr % 4 = 0 ∧ inStoreWindow (itemAt q.payload 0).addr = true ∧ ((itemAt q.payload 0).op = 2 ∨ (itemAt q.payload 0).op = 3)) ∧
    (∃ (q : Req) (s : State), forKeeper 4097 q s = true ∧ s.guard = none ∧ s.keeper.run = none ∧ q.payload.length = 16 ∧ itemBad (itemAt q.payload 0) = false ∧ (inRadioBlocks (itemAt q.payload 0).addr && decide (BitVec.toNat (itemAt q.payload 0).addr % 4 = 0)) = true ∧ ((itemAt q.payload 0).op = 2 ∨ (itemAt q.payload 0).op = 3) ∧ (589920 ≤ canonRadio (itemAt q.payload 0).addr ∧ canonRadio (itemAt q.payload 0).addr ≤ 589948 ∨ canonRadio (itemAt q.payload 0).addr = 589952)) ∧
    (∃ (q : Req) (s : State), forKeeper 4097 q s = true ∧ s.guard = none ∧ s.keeper.run = none ∧ q.payload.length = 16 ∧ itemBad (itemAt q.payload 0) = false ∧ (inRadioBlocks (itemAt q.payload 0).addr && decide (BitVec.toNat (itemAt q.payload 0).addr % 4 = 0)) = true ∧ ((itemAt q.payload 0).op = 2 ∨ (itemAt q.payload 0).op = 3) ∧ 458752 ≤ canonRadio (itemAt q.payload 0).addr ∧ canonRadio (itemAt q.payload 0).addr < 466944 ∧ opOwner s ((canonRadio (itemAt q.payload 0).addr - 458752) / 64) ≠ 17) ∧
    (∃ (q : Req) (s : State), forKeeper 4097 q s = true ∧ s.guard = none ∧ s.keeper.run = none ∧ q.payload.length = 16 ∧ itemBad (itemAt q.payload 0) = false ∧ (inRadioBlocks (itemAt q.payload 0).addr && decide (BitVec.toNat (itemAt q.payload 0).addr % 4 = 0)) = true ∧ ((itemAt q.payload 0).op = 3 ∧ (0 < (radioDesc (canonRadio (itemAt q.payload 0).addr)).rwg ∨ (twinOf (canonRadio (itemAt q.payload 0).addr)).isSome = true) ∨ (itemAt q.payload 0).op = 2 ∧ (0 < (radioDesc (canonRadio (itemAt q.payload 0).addr)).rwg ∨ (twinOf (canonRadio (itemAt q.payload 0).addr)).isSome = true))) ∧
    (∃ (q : Req) (s : State), forKeeper 4097 q s = true ∧ s.guard = none ∧ s.keeper.run = none ∧ q.payload.length = 16 ∧ itemBad (itemAt q.payload 0) = false ∧ BitVec.toNat (itemAt q.payload 0).addr % 4 = 0 ∧ inRadioBlocks (itemAt q.payload 0).addr = true ∧ (itemAt q.payload 0).op = 1) ∧
    (∃ (q : Req) (s : State), forKeeper 4097 q s = true ∧ s.guard = none ∧ s.keeper.run = none ∧ q.payload.length = 16 ∧ itemBad (itemAt q.payload 0) = false ∧ BitVec.toNat (itemAt q.payload 0).addr % 4 = 0 ∧ inRadioBlocks (itemAt q.payload 0).addr = true ∧ (itemAt q.payload 0).op = 4 ∧ ((itemRead (itemAt q.payload 0) s).1 &&& (itemAt q.payload 0).mask == (itemAt q.payload 0).value &&& (itemAt q.payload 0).mask) = true) ∧
    (∃ (q : Req) (s : State), forKeeper 4097 q s = true ∧ s.guard = none ∧ s.keeper.run = none ∧ q.payload.length = 16 ∧ itemBad (itemAt q.payload 0) = false ∧ BitVec.toNat (itemAt q.payload 0).addr % 4 = 0 ∧ inRadioBlocks (itemAt q.payload 0).addr = true ∧ (itemAt q.payload 0).op = 4 ∧ ((itemRead (itemAt q.payload 0) s).1 &&& (itemAt q.payload 0).mask == (itemAt q.payload 0).value &&& (itemAt q.payload 0).mask) = false ∧ (itemAt q.payload 0).limit = 0) ∧
    (∃ (q : Req) (s : State), forKeeper 4097 q s = true ∧ s.guard = none ∧ s.keeper.run = none ∧ q.payload.length = 16 ∧ itemBad (itemAt q.payload 0) = false ∧ BitVec.toNat (itemAt q.payload 0).addr % 4 = 0 ∧ inRadioBlocks (itemAt q.payload 0).addr = true ∧ (itemAt q.payload 0).op = 4 ∧ ((itemRead (itemAt q.payload 0) s).1 &&& (itemAt q.payload 0).mask == (itemAt q.payload 0).value &&& (itemAt q.payload 0).mask) = false ∧ (itemAt q.payload 0).limit ≠ 0) ∧
    (∃ (q : Req) (s : State), forKeeper 4097 q s = true ∧ s.guard = none ∧ s.keeper.run = none ∧ itemBad (itemAt q.payload 0) = false ∧ BitVec.toNat (itemAt q.payload 0).addr % 4 = 0 ∧ inRadioBlocks (itemAt q.payload 0).addr = true ∧ (twinOf (canonRadio (itemAt q.payload 0).addr) == none && (radioDesc (canonRadio (itemAt q.payload 0).addr)).rwg == 0 && unitAt (canonRadio (itemAt q.payload 0).addr) == none && (radioDesc (canonRadio (itemAt q.payload 0).addr)).wo == 0 && (radioDesc (canonRadio (itemAt q.payload 0).addr)).w1c == 0 && (specialWrite (canonRadio (itemAt q.payload 0).addr) (itemAt q.payload 0).value s).isNone && (specialWrite (canonRadio (itemAt q.payload 0).addr) ((itemRead (itemAt q.payload 0) s).1 &&& ~~~(itemAt q.payload 0).mask ||| (itemAt q.payload 0).value &&& (itemAt q.payload 0).mask) s).isNone && !(decide (589920 ≤ canonRadio (itemAt q.payload 0).addr) && decide (canonRadio (itemAt q.payload 0).addr ≤ 589952)) && !(decide (458752 ≤ canonRadio (itemAt q.payload 0).addr) && decide (canonRadio (itemAt q.payload 0).addr < 466944))) = true ∧ (itemAt q.payload 0).op = 2 ∧ q.payload.length = 16) ∧
    (∃ (q : Req) (s : State), forKeeper 4097 q s = true ∧ s.guard = none ∧ s.keeper.run = none ∧ itemBad (itemAt q.payload 0) = false ∧ BitVec.toNat (itemAt q.payload 0).addr % 4 = 0 ∧ inRadioBlocks (itemAt q.payload 0).addr = true ∧ (twinOf (canonRadio (itemAt q.payload 0).addr) == none && (radioDesc (canonRadio (itemAt q.payload 0).addr)).rwg == 0 && unitAt (canonRadio (itemAt q.payload 0).addr) == none && (radioDesc (canonRadio (itemAt q.payload 0).addr)).wo == 0 && (radioDesc (canonRadio (itemAt q.payload 0).addr)).w1c == 0 && (specialWrite (canonRadio (itemAt q.payload 0).addr) (itemAt q.payload 0).value s).isNone && (specialWrite (canonRadio (itemAt q.payload 0).addr) ((itemRead (itemAt q.payload 0) s).1 &&& ~~~(itemAt q.payload 0).mask ||| (itemAt q.payload 0).value &&& (itemAt q.payload 0).mask) s).isNone && !(decide (589920 ≤ canonRadio (itemAt q.payload 0).addr) && decide (canonRadio (itemAt q.payload 0).addr ≤ 589952)) && !(decide (458752 ≤ canonRadio (itemAt q.payload 0).addr) && decide (canonRadio (itemAt q.payload 0).addr < 466944))) = true ∧ (itemAt q.payload 0).op = 3 ∧ q.payload.length = 16 ∧ (itemRead (itemAt q.payload 0) s).2 = s) ∧
    (∃ (q : Req) (s : State), forKeeper 4097 q s = true ∧ s.guard = none ∧ s.keeper.run = none ∧ itemBad (itemAt q.payload 0) = false ∧ BitVec.toNat (itemAt q.payload 0).addr % 4 = 0 ∧ inRadioBlocks (itemAt q.payload 0).addr = true ∧ (twinOf (canonRadio (itemAt q.payload 0).addr) == none && (radioDesc (canonRadio (itemAt q.payload 0).addr)).rwg == 0 && unitAt (canonRadio (itemAt q.payload 0).addr) == none && (radioDesc (canonRadio (itemAt q.payload 0).addr)).wo == 0 && (radioDesc (canonRadio (itemAt q.payload 0).addr)).w1c == 0 && (specialWrite (canonRadio (itemAt q.payload 0).addr) (itemAt q.payload 0).value s).isNone && (specialWrite (canonRadio (itemAt q.payload 0).addr) ((itemRead (itemAt q.payload 0) s).1 &&& ~~~(itemAt q.payload 0).mask ||| (itemAt q.payload 0).value &&& (itemAt q.payload 0).mask) s).isNone && !(decide (589920 ≤ canonRadio (itemAt q.payload 0).addr) && decide (canonRadio (itemAt q.payload 0).addr ≤ 589952)) && !(decide (458752 ≤ canonRadio (itemAt q.payload 0).addr) && decide (canonRadio (itemAt q.payload 0).addr < 466944))) = true ∧ (itemAt q.payload 0).op = 2 ∧ q.payload.length = 32 ∧ itemBad (itemAt q.payload 1) = false ∧ (itemAt q.payload 1).limit = 0 ∧ BitVec.toNat (itemAt q.payload 1).addr % 4 ≠ 0) ∧
    (∃ (q : Req) (s : State), forKeeper 36865 q s = true ∧ (q.payload.length % 16 ≠ 0 ∨ q.payload.length < 16 ∨ 4064 < q.payload.length)) ∧
    (∃ (q : Req) (s : State), forKeeper 36865 q s = true ∧ q.payload.length = 16 ∧ itemBad (itemAt q.payload 0) = true) ∧
    (∃ (q : Req) (s : State), forKeeper 36865 q s = true ∧ s.guard = none ∧ s.keeper.run = none ∧ q.payload.length = 16 ∧ itemBad (itemAt q.payload 0) = false ∧ (BitVec.toNat (itemAt q.payload 0).addr % 4 ≠ 0 ∨ inRadioBlocks (itemAt q.payload 0).addr = false ∧ inStoreWindow (itemAt q.payload 0).addr = false)) ∧
    (∃ (q : Req) (s : State), forKeeper 36865 q s = true ∧ s.guard = none ∧ s.keeper.run = none ∧ q.payload.length = 16 ∧ itemBad (itemAt q.payload 0) = false ∧ BitVec.toNat (itemAt q.payload 0).addr % 4 = 0 ∧ inStoreWindow (itemAt q.payload 0).addr = true ∧ ((itemAt q.payload 0).op = 2 ∨ (itemAt q.payload 0).op = 3)) ∧
    (∃ (q : Req) (s : State), forKeeper 36865 q s = true ∧ s.guard = none ∧ s.keeper.run = none ∧ q.payload.length = 16 ∧ itemBad (itemAt q.payload 0) = false ∧ (inRadioBlocks (itemAt q.payload 0).addr && decide (BitVec.toNat (itemAt q.payload 0).addr % 4 = 0)) = true ∧ ((itemAt q.payload 0).op = 2 ∨ (itemAt q.payload 0).op = 3) ∧ (589920 ≤ canonRadio (itemAt q.payload 0).addr ∧ canonRadio (itemAt q.payload 0).addr ≤ 589948 ∨ canonRadio (itemAt q.payload 0).addr = 589952)) ∧
    (∃ (q : Req) (s : State), forKeeper 36865 q s = true ∧ s.guard = none ∧ s.keeper.run = none ∧ q.payload.length = 16 ∧ itemBad (itemAt q.payload 0) = false ∧ (inRadioBlocks (itemAt q.payload 0).addr && decide (BitVec.toNat (itemAt q.payload 0).addr % 4 = 0)) = true ∧ ((itemAt q.payload 0).op = 2 ∨ (itemAt q.payload 0).op = 3) ∧ 458752 ≤ canonRadio (itemAt q.payload 0).addr ∧ canonRadio (itemAt q.payload 0).addr < 466944 ∧ opOwner s ((canonRadio (itemAt q.payload 0).addr - 458752) / 64) ≠ 17) ∧
    (∃ (q : Req) (s : State), forKeeper 36865 q s = true ∧ s.guard = none ∧ s.keeper.run = none ∧ q.payload.length = 16 ∧ itemBad (itemAt q.payload 0) = false ∧ (inRadioBlocks (itemAt q.payload 0).addr && decide (BitVec.toNat (itemAt q.payload 0).addr % 4 = 0)) = true ∧ ((itemAt q.payload 0).op = 3 ∧ (0 < (radioDesc (canonRadio (itemAt q.payload 0).addr)).rwg ∨ (twinOf (canonRadio (itemAt q.payload 0).addr)).isSome = true))) ∧
    (∃ (q : Req) (s : State), forKeeper 36865 q s = true ∧ s.guard = none ∧ s.keeper.run = none ∧ q.payload.length = 16 ∧ itemBad (itemAt q.payload 0) = false ∧ BitVec.toNat (itemAt q.payload 0).addr % 4 = 0 ∧ inRadioBlocks (itemAt q.payload 0).addr = true ∧ (itemAt q.payload 0).op = 1) ∧
    (∃ (q : Req) (s : State), forKeeper 36865 q s = true ∧ s.guard = none ∧ s.keeper.run = none ∧ q.payload.length = 16 ∧ itemBad (itemAt q.payload 0) = false ∧ BitVec.toNat (itemAt q.payload 0).addr % 4 = 0 ∧ inRadioBlocks (itemAt q.payload 0).addr = true ∧ (itemAt q.payload 0).op = 4 ∧ ((itemRead (itemAt q.payload 0) s).1 &&& (itemAt q.payload 0).mask == (itemAt q.payload 0).value &&& (itemAt q.payload 0).mask) = true) ∧
    (∃ (q : Req) (s : State), forKeeper 36865 q s = true ∧ s.guard = none ∧ s.keeper.run = none ∧ q.payload.length = 16 ∧ itemBad (itemAt q.payload 0) = false ∧ BitVec.toNat (itemAt q.payload 0).addr % 4 = 0 ∧ inRadioBlocks (itemAt q.payload 0).addr = true ∧ (itemAt q.payload 0).op = 4 ∧ ((itemRead (itemAt q.payload 0) s).1 &&& (itemAt q.payload 0).mask == (itemAt q.payload 0).value &&& (itemAt q.payload 0).mask) = false ∧ (itemAt q.payload 0).limit = 0) ∧
    (∃ (q : Req) (s : State), forKeeper 36865 q s = true ∧ s.guard = none ∧ s.keeper.run = none ∧ q.payload.length = 16 ∧ itemBad (itemAt q.payload 0) = false ∧ BitVec.toNat (itemAt q.payload 0).addr % 4 = 0 ∧ inRadioBlocks (itemAt q.payload 0).addr = true ∧ (itemAt q.payload 0).op = 4 ∧ ((itemRead (itemAt q.payload 0) s).1 &&& (itemAt q.payload 0).mask == (itemAt q.payload 0).value &&& (itemAt q.payload 0).mask) = false ∧ (itemAt q.payload 0).limit ≠ 0) ∧
    (∃ (q : Req) (s : State), forKeeper 36865 q s = true ∧ s.guard = none ∧ s.keeper.run = none ∧ itemBad (itemAt q.payload 0) = false ∧ BitVec.toNat (itemAt q.payload 0).addr % 4 = 0 ∧ inRadioBlocks (itemAt q.payload 0).addr = true ∧ (twinOf (canonRadio (itemAt q.payload 0).addr) == none && (radioDesc (canonRadio (itemAt q.payload 0).addr)).rwg == 0 && unitAt (canonRadio (itemAt q.payload 0).addr) == none && (radioDesc (canonRadio (itemAt q.payload 0).addr)).wo == 0 && (radioDesc (canonRadio (itemAt q.payload 0).addr)).w1c == 0 && (specialWrite (canonRadio (itemAt q.payload 0).addr) (itemAt q.payload 0).value s).isNone && (specialWrite (canonRadio (itemAt q.payload 0).addr) ((itemRead (itemAt q.payload 0) s).1 &&& ~~~(itemAt q.payload 0).mask ||| (itemAt q.payload 0).value &&& (itemAt q.payload 0).mask) s).isNone && !(decide (589920 ≤ canonRadio (itemAt q.payload 0).addr) && decide (canonRadio (itemAt q.payload 0).addr ≤ 589952)) && !(decide (458752 ≤ canonRadio (itemAt q.payload 0).addr) && decide (canonRadio (itemAt q.payload 0).addr < 466944))) = true ∧ (itemAt q.payload 0).op = 2 ∧ q.payload.length = 16) ∧
    (∃ (q : Req) (s : State), forKeeper 36865 q s = true ∧ s.guard = none ∧ s.keeper.run = none ∧ itemBad (itemAt q.payload 0) = false ∧ BitVec.toNat (itemAt q.payload 0).addr % 4 = 0 ∧ inRadioBlocks (itemAt q.payload 0).addr = true ∧ (twinOf (canonRadio (itemAt q.payload 0).addr) == none && (radioDesc (canonRadio (itemAt q.payload 0).addr)).rwg == 0 && unitAt (canonRadio (itemAt q.payload 0).addr) == none && (radioDesc (canonRadio (itemAt q.payload 0).addr)).wo == 0 && (radioDesc (canonRadio (itemAt q.payload 0).addr)).w1c == 0 && (specialWrite (canonRadio (itemAt q.payload 0).addr) (itemAt q.payload 0).value s).isNone && (specialWrite (canonRadio (itemAt q.payload 0).addr) ((itemRead (itemAt q.payload 0) s).1 &&& ~~~(itemAt q.payload 0).mask ||| (itemAt q.payload 0).value &&& (itemAt q.payload 0).mask) s).isNone && !(decide (589920 ≤ canonRadio (itemAt q.payload 0).addr) && decide (canonRadio (itemAt q.payload 0).addr ≤ 589952)) && !(decide (458752 ≤ canonRadio (itemAt q.payload 0).addr) && decide (canonRadio (itemAt q.payload 0).addr < 466944))) = true ∧ (itemAt q.payload 0).op = 3 ∧ q.payload.length = 16 ∧ (itemRead (itemAt q.payload 0) s).2 = s) ∧
    (∃ (q : Req) (s : State), forKeeper 36865 q s = true ∧ s.guard = none ∧ s.keeper.run = none ∧ itemBad (itemAt q.payload 0) = false ∧ BitVec.toNat (itemAt q.payload 0).addr % 4 = 0 ∧ inRadioBlocks (itemAt q.payload 0).addr = true ∧ (twinOf (canonRadio (itemAt q.payload 0).addr) == none && (radioDesc (canonRadio (itemAt q.payload 0).addr)).rwg == 0 && unitAt (canonRadio (itemAt q.payload 0).addr) == none && (radioDesc (canonRadio (itemAt q.payload 0).addr)).wo == 0 && (radioDesc (canonRadio (itemAt q.payload 0).addr)).w1c == 0 && (specialWrite (canonRadio (itemAt q.payload 0).addr) (itemAt q.payload 0).value s).isNone && (specialWrite (canonRadio (itemAt q.payload 0).addr) ((itemRead (itemAt q.payload 0) s).1 &&& ~~~(itemAt q.payload 0).mask ||| (itemAt q.payload 0).value &&& (itemAt q.payload 0).mask) s).isNone && !(decide (589920 ≤ canonRadio (itemAt q.payload 0).addr) && decide (canonRadio (itemAt q.payload 0).addr ≤ 589952)) && !(decide (458752 ≤ canonRadio (itemAt q.payload 0).addr) && decide (canonRadio (itemAt q.payload 0).addr < 466944))) = true ∧ (itemAt q.payload 0).op = 2 ∧ q.payload.length = 32 ∧ itemBad (itemAt q.payload 1) = false ∧ (itemAt q.payload 1).limit = 0 ∧ BitVec.toNat (itemAt q.payload 1).addr % 4 ≠ 0) ∧
    (∃ (q : Req) (p : Fin 2) (s : State), forKeeper 36865 q s = true ∧ s.guard = none ∧ s.keeper.run = none ∧ q.payload.length = 32 ∧ itemBad (itemAt q.payload 0) = false ∧ itemBad (itemAt q.payload 1) = false ∧ (itemAt q.payload 0).op = 2 ∧ (itemAt q.payload 1).op = 2 ∧ (itemAt q.payload 0).addr = BitVec.ofNat 32 (1073741824 + mrBase ↑p + 64) ∧ (itemAt q.payload 1).addr = BitVec.ofNat 32 (1073741824 + mrBase ↑p + 2112) ∧ (itemAt q.payload 0).value = 1 ∧ (itemAt q.payload 1).value = ~~~(itemAt q.payload 0).value) ∧
    (∃ (q : Req) (p : Fin 2) (s : State), forKeeper 36865 q s = true ∧ s.guard = none ∧ s.keeper.run = none ∧ q.payload.length = 32 ∧ itemBad (itemAt q.payload 0) = false ∧ itemBad (itemAt q.payload 1) = false ∧ (itemAt q.payload 0).op = 2 ∧ (itemAt q.payload 1).op = 2 ∧ (itemAt q.payload 0).addr = BitVec.ofNat 32 (1073741824 + mrBase ↑p + 64) ∧ (itemAt q.payload 1).addr = BitVec.ofNat 32 (1073741824 + mrBase ↑p + 2112) ∧ (itemAt q.payload 0).value = 1 ∧ (itemAt q.payload 1).value ≠ ~~~(itemAt q.payload 0).value) :=
  ⟨⟨(kq (itB 1 0 0x40020030 0 0 ++ [1]) : Req), State.reset, by decide +kernel⟩,
   ⟨(kq (itB 5 0 0x40020030 0 0) : Req), State.reset, by decide +kernel⟩,
   ⟨(kq (itB 2 0 0x40020032 1 0) : Req), State.reset, by decide +kernel⟩,
   ⟨(kq (itB 2 0 0x50000100 0 0) : Req), State.reset, by decide +kernel⟩,
   ⟨(kq (itB 2 0 0x40090060 0 0) : Req), State.reset, by decide +kernel⟩,
   ⟨(kq (itB 2 0 0x40070004 0 0) : Req), State.reset, by decide +kernel⟩,
   ⟨(kq (itB 2 0 0x400A0040 1 0) : Req), State.reset, by decide +kernel⟩,
   ⟨(kq (itB 1 0 0x40020030 0 0) : Req), State.reset, by decide +kernel⟩,
   ⟨(kq (itB 4 0 0x40020030 0x86A0 0xFFFF) : Req), State.reset, by decide +kernel⟩,
   ⟨(kq (itB 4 0 0x40020030 0x86A1 0xFFFF) : Req), State.reset, by decide +kernel⟩,
   ⟨(kq (itB 4 500 0x40020030 0x86A1 0xFFFF) : Req), State.reset, by decide +kernel⟩,
   ⟨(kq (itB 2 0 0x40020030 1234 0) : Req), State.reset, by decide +kernel⟩,
   ⟨(kq (itB 3 0 0x40020030 0xFF 0xF0F) : Req), State.reset, by decide +kernel⟩,
   ⟨(kq (itB 2 0 0x40020030 77 0 ++ itB 2 0 0x40020032 1 0) : Req), State.reset, by decide +kernel⟩,
   ⟨(kq (itB 1 0 0x40020030 0 0 ++ [1]) : Req), State.reset, by decide +kernel⟩,
   ⟨(kq (itB 5 0 0x40020030 0 0) : Req), State.reset, by decide +kernel⟩,
   ⟨(kq (itB 2 0 0x40020032 1 0) : Req), State.reset, by decide +kernel⟩,
   ⟨(kq (itB 2 0 0x50000100 0 0) : Req), State.reset, by decide +kernel⟩,
   ⟨(kq (itB 2 0 0x40090060 0 0) : Req), State.reset, by decide +kernel⟩,
   ⟨(kq (itB 2 0 0x40070004 0 0) : Req), State.reset, by decide +kernel⟩,
   ⟨(kq (itB 3 0 0x400A0040 1 1) : Req), State.reset, by decide +kernel⟩,
   ⟨(kq (itB 1 0 0x40020030 0 0) : Req), State.reset, by decide +kernel⟩,
   ⟨(kq (itB 4 0 0x40020030 0x86A0 0xFFFF) : Req), State.reset, by decide +kernel⟩,
   ⟨(kq (itB 4 0 0x40020030 0x86A1 0xFFFF) : Req), State.reset, by decide +kernel⟩,
   ⟨(kq (itB 4 500 0x40020030 0x86A1 0xFFFF) : Req), State.reset, by decide +kernel⟩,
   ⟨(kq (itB 2 0 0x40020030 1234 0) : Req), State.reset, by decide +kernel⟩,
   ⟨(kq (itB 3 0 0x40020030 0xFF 0xF0F) : Req), State.reset, by decide +kernel⟩,
   ⟨(kq (itB 2 0 0x40020030 77 0 ++ itB 2 0 0x40020032 1 0) : Req), State.reset, by decide +kernel⟩,
   ⟨(kq (itB 2 0 0x400A0040 1 0 ++ itB 2 0 0x400A0840 0xFFFFFFFE 0) : Req), 0, State.reset, by decide +kernel⟩,
   ⟨(kq (itB 2 0 0x400A0040 1 0 ++ itB 2 0 0x400A0840 0xFFFFFFFF 0) : Req), 0, State.reset, by decide +kernel⟩⟩

/-- States and operands that meet the hypotheses of `GuardedPairs` on the twin rows. -/
theorem witness_GuardedPairs_twins :
    (∃ (c : Instr) (own : Nat) (w : Word) (s : State), c = .sysResetWrite w ∧ own = 0x40 ∧ s.guard = none) ∧
    (∃ (c : Instr) (own : Nat) (w : Word) (s : State) (off : Nat) (v : Word),
      c = .kprWdtCfg w ∧ own = 0xC0040 ∧ s.guard = some (off, v) ∧ guardInTimeR s = true ∧ ¬ (off = own ∧ w = ~~~v)) ∧
    (∃ (c : Instr) (own : Nat) (w : Word) (s : State) (off : Nat) (v : Word),
      (∃ p : Fin 2, c = .mrPortDisable p w ∧ own = 0xA0040 + 0x8000 * p.val) ∧ s.guard = some (off, v) ∧ guardInTimeR s = true ∧ ¬ (off = own ∧ w = ~~~v)) :=
  ⟨⟨_, 0x40, 0, State.reset, rfl, rfl, by decide +kernel⟩,
   ⟨_, 0xC0040, 5, { State.reset with guard := some (0xC0040, 1) }, 0xC0040, 1, rfl, rfl, by decide +kernel, by decide +kernel, by decide +kernel⟩,
   ⟨_, 0xA8040, 5, { State.reset with guard := some (0xA0040, 1) }, 0xA0040, 1, ⟨1, rfl, rfl⟩, by decide +kernel, by decide +kernel, by decide +kernel⟩⟩

/-- A state and a step that meet the hypotheses of `StepKeepsInvariant`. -/
theorem witness_StepKeepsInvariant : ∃ (s t : State), s.wf = true ∧ step s = .next t :=
  ⟨State.reset, idle State.reset, by decide +kernel, rfl⟩

/-- A queue and a command that meet the hypotheses of `FrontCommandRuns`. -/
theorem witness_FrontCommandRuns : ∃ (s : State) (c : Instr) (rest : List Instr), s.pending = c :: rest :=
  ⟨{ State.reset with pending := [.crystalStop] }, .crystalStop, [], rfl⟩

end Sys2Proof.Machine.Tests
end

section
/-! SUPPORT. Every step keeps the invariant `State.wf` (O59). One lemma per operation, in the order of the model: an operation that starts in
a state of the invariant ends in one. Nearly all leave the memories, the shadows and the waiting values as they were (`frame_wf`); the
few that write them follow the laws of sparse tables. -/

namespace Sys2Proof.Machine

section
variable {s : State} (h : s.wf)
include h

/-! ### The parts of the invariant -/

/-- A state that differs from `s` in no memory, shadow or waiting value meets the invariant as `s` does. -/
theorem frame_wf {pending : List Instr} {free guardAge hguardAge age : Nat} {lastRead : Word} {reg live hreg regWas hregWas : Tab Word}
    {latch hlatch : Tab (Option Word)} {ntb : TimeBase} {lamps : Tab Lamp} {caps stamps : Tab (Nat × Nat)} {evf : Fabric}
    {paths : Tab RxPath} {pathS : PathS} {slots : Tab Slot} {agc : Tab (BitVec 16)} {energyAt : Tab Nat} {intake : List RxRec}
    {syns : Tab Synth} {txs : Tab TxPath} {ops : Tab OpRun} {coexIn : CoexIn} {uses : Tab OpUse} {mac : Mac} {air : List AirFrame}
    {cipher : Cipher} {ctx : Tab Ctx} {nodes : NodeSpace} {chain : Chain} {linkR linkH : LinkEnd} {keeper : Keeper} {tender : Tender}
    {flash : Flash} {settings : Settings} {boot : Boot} {power : Power} {rtc : Rtc} {tag : Tag} {taps : Taps} : (⟨pending, free, lastRead,
    reg, s.shadow, latch, s.guard, ntb, lamps, caps, stamps, evf, paths, pathS, slots, live, agc, energyAt, intake, syns, txs, ops, coexIn,
    uses, mac, s.pkt, air, cipher, ctx, nodes, chain, linkR, keeper, hreg, hlatch, regWas, hregWas, s.hguard, guardAge, hguardAge, s.reqMem,
    s.rspMem, linkH, tender, flash, settings, boot, age, s.image, power, rtc, tag, taps⟩ : State).wf := h

omit h in
/-- A choice between two states meets the invariant if each does where it is taken. -/
theorem ite_wf_of {c : Prop} [Decidable c] {a b : State} (ha : c → a.wf) (hb : ¬ c → b.wf) : (if c then a else b).wf := by
  split
  · exact ha ‹_›
  · exact hb ‹_›

omit h in
theorem ite_wf {c : Prop} [Decidable c] {a b : State} (ha : a.wf) (hb : b.wf) : (if c then a else b).wf :=
  ite_wf_of (fun _ => ha) fun _ => hb

omit h in
theorem ite_snd_wf {α : Type} {c : Prop} [Decidable c] {a b : α × State} (ha : a.2.wf) (hb : b.2.wf) : (if c then a else b).2.wf := by
  split
  · exact ha
  · exact hb

omit h in
/-- An operation applied to a state where a condition holds. -/
theorem when_wf {c : Prop} [Decidable c] {f : State → State} {x : State} (hx : x.wf) (hf : ∀ s, s.wf → (f s).wf) :
    (if c then f x else x).wf := ite_wf (hf x hx) hx

omit h in
/-- An operation applied to a state unless a condition holds. -/
theorem unless_wf {c : Prop} [Decidable c] {f : State → State} {x : State} (hx : x.wf) (hf : ∀ s, s.wf → (f s).wf) :
    (if c then x else f x).wf := ite_wf hx (hf x hx)

theorem id_wf : (id s).wf := h

omit h in
theorem wf_iff {s : State} :
    s.wf ↔ (Memory.wf s.pkt ∧ Memory.wf s.reqMem ∧ Memory.wf s.rspMem ∧ Memory.wf s.image) ∧ s.shadowWf ∧ s.guardWf := by
  simp [State.wf, State.memWf, and_assoc]

theorem pkt_wf {m : Tab Byte} (hm : Memory.wf m) : ({ s with pkt := m } : State).wf := by
  obtain ⟨⟨-, hq, hr, hi⟩, hs, hg⟩ := wf_iff.mp h
  exact wf_iff.mpr ⟨⟨hm, hq, hr, hi⟩, hs, hg⟩

theorem reqMem_wf {m : Tab Byte} (hm : Memory.wf m) : ({ s with reqMem := m } : State).wf := by
  obtain ⟨⟨hp, -, hr, hi⟩, hs, hg⟩ := wf_iff.mp h
  exact wf_iff.mpr ⟨⟨hp, hm, hr, hi⟩, hs, hg⟩

theorem rspMem_wf {m : Tab Byte} (hm : Memory.wf m) : ({ s with rspMem := m } : State).wf := by
  obtain ⟨⟨hp, hq, -, hi⟩, hs, hg⟩ := wf_iff.mp h
  exact wf_iff.mpr ⟨⟨hp, hq, hm, hi⟩, hs, hg⟩

theorem image_wf {m : Tab Byte} (hm : Memory.wf m) : ({ s with image := m } : State).wf := by
  obtain ⟨⟨hp, hq, hr, -⟩, hs, hg⟩ := wf_iff.mp h
  exact wf_iff.mpr ⟨⟨hp, hq, hr, hm⟩, hs, hg⟩

theorem shadow_wf {t : Tab (Option Word)} (ht : tabWf (fun _ => none) t)
    (hb : ∀ p ∈ t, (radioDesc p.1).rwb ≠ 0) : ({ s with shadow := t } : State).wf := by
  obtain ⟨hm, -, hg⟩ := wf_iff.mp h
  exact wf_iff.mpr ⟨hm, by simpa [State.shadowWf, ht] using hb, hg⟩

theorem guard_none_wf : ({ s with guard := none } : State).wf := by
  obtain ⟨hm, hs, hg⟩ := wf_iff.mp h
  refine wf_iff.mpr ⟨hm, hs, ?_⟩
  simp only [State.guardWf, Bool.and_eq_true] at hg ⊢
  exact ⟨rfl, hg.2⟩

theorem guard_some_wf {off : Nat} {v : Word} (hd : (radioDesc off).rwg ≠ 0) : ({ s with guard := some (off, v) } : State).wf := by
  obtain ⟨hm, hs, hg⟩ := wf_iff.mp h
  refine wf_iff.mpr ⟨hm, hs, ?_⟩
  simp only [State.guardWf, Bool.and_eq_true] at hg ⊢
  exact ⟨by simpa using hd, hg.2⟩

theorem hguard_none_wf : ({ s with hguard := none } : State).wf := by
  obtain ⟨hm, hs, hg⟩ := wf_iff.mp h
  refine wf_iff.mpr ⟨hm, hs, ?_⟩
  simp only [State.guardWf, Bool.and_eq_true] at hg ⊢
  exact ⟨hg.1, rfl⟩

theorem hguard_some_wf {off : Nat} {v : Word} (hd : (hostDesc off).rwg ≠ 0) : ({ s with hguard := some (off, v) } : State).wf := by
  obtain ⟨hm, hs, hg⟩ := wf_iff.mp h
  refine wf_iff.mpr ⟨hm, hs, ?_⟩
  simp only [State.guardWf, Bool.and_eq_true] at hg ⊢
  exact ⟨hg.1, by simpa using hd⟩

/-- The shadows of a state that meets the invariant are canonical and of buffered registers. -/
theorem shadows_of_wf : tabWf (fun _ => (none : Option Word)) s.shadow ∧ ∀ p ∈ s.shadow, (radioDesc p.1).rwb ≠ 0 := by
  have hs := (wf_iff.mp h).2.1
  simpa [State.shadowWf] using hs

omit h in
/-- Rising keys stay rising when entries are dropped. -/
theorem tabRising_filter {α : Type} (f : Nat × α → Bool) {t : Tab α} :
    ∀ {lo : Nat}, tabRising lo t → tabRising lo (t.filter f) := by
  induction t with
  | nil => intro lo ht; exact ht
  | cons p t ih =>
    intro lo ht
    simp only [tabRising, Bool.and_eq_true, decide_eq_true_eq] at ht
    by_cases hf : f p
    · simpa [List.filter_cons, hf, tabRising] using ⟨ht.1, ih ht.2⟩
    · simpa [List.filter_cons, hf] using tabRising_mono _ (by omega : lo ≤ p.1 + 1) (ih ht.2)

omit h in
theorem tabWf_filter {α : Type} [DecidableEq α] {d : Nat → α} (f : Nat × α → Bool) {t : Tab α} (ht : tabWf d t) :
    tabWf d (t.filter f) := by
  simp only [tabWf, Bool.and_eq_true, List.all_eq_true] at ht ⊢
  exact ⟨tabRising_filter f ht.1, fun p hp => ht.2 p (List.mem_filter.mp hp).1⟩

omit h in
/-- The listed keys after a write are the old ones and the key written. -/
theorem mem_tabSet {α : Type} [DecidableEq α] {d : Nat → α} {t : Tab α} {k : Nat} {v : α} {p : Nat × α}
    (hp : p ∈ tabSet d t k v) : p ∈ t ∨ p.1 = k := by
  have erased : ∀ {q}, q ∈ tabErase t k → q ∈ t := fun hq => (List.mem_filter.mp hq).1
  have inserted : ∀ {u : Tab α}, p ∈ tabInsert u k v → p ∈ u ∨ p.1 = k := by
    intro u
    induction u with
    | nil => intro hu; simp [tabInsert] at hu; simp [hu]
    | cons q u ih =>
      intro hu
      unfold tabInsert at hu
      split at hu
      · rcases List.mem_cons.mp hu with rfl | hu
        · exact .inr rfl
        · exact .inl hu
      · rcases List.mem_cons.mp hu with rfl | hu
        · exact .inl (List.mem_cons_self ..)
        · exact (ih hu).imp (List.mem_cons_of_mem _) id
  unfold tabSet at hp
  split at hp
  · exact .inl (erased hp)
  · exact (inserted hp).imp erased id

omit h in
theorem rwb_chBase {ch o : Nat} {os : List Nat} (hc : ch < 64) (hos : ∀ o ∈ os, (chnDesc o).rwb ≠ 0 ∧ o < 0x400) (ho : o ∈ os) :
    (radioDesc (chBase ch + o)).rwb ≠ 0 := by
  obtain ⟨hd, hl⟩ := hos o ho
  have h1 : (0x50000 + ch * 0x400 + o) / 0x10000 = 5 := by omega
  have h2 : (0x50000 + ch * 0x400 + o) % 0x10000 % 0x400 = o := by omega
  simpa [radioDesc, chBase, h1, h2] using hd

omit h in
theorem rwb_mrBase {p o : Nat} (hp : p < 2) (ho : (mrDesc o).rwb ≠ 0) (hl : o < 0x8000) : (radioDesc (mrBase p + o)).rwb ≠ 0 := by
  have h1 : (0xA0000 + p * 0x8000 + o) / 0x10000 = 10 := by omega
  have h2 : (0xA0000 + p * 0x8000 + o) % 0x10000 % 0x8000 = o := by omega
  simpa [radioDesc, mrBase, h1, h2] using ho

/-! ### Registers, time, messages and interrupts -/

theorem wr_wf {off : Nat} {v : Word} : (wr off v s).wf := frame_wf h
theorem setF_wf {off hi lo v : Nat} : (setF off hi lo v s).wf := wr_wf h
theorem setB_wf {off i : Nat} {b : Bool} : (setB off i b s).wf := wr_wf h
theorem incW_wf {off : Nat} : (incW off s).wf := wr_wf h
theorem incF_wf {off hi lo n : Nat} : (incF off hi lo n s).wf := setF_wf h
theorem incSat_wf {off hi lo n : Nat} : (incSat off hi lo n s).wf := setF_wf h
theorem hwr_wf {off : Nat} {v : Word} : (hwr off v s).wf := frame_wf h
theorem hsetF_wf {off hi lo v : Nat} : (hsetF off hi lo v s).wf := hwr_wf h
theorem hsetB_wf {off i : Nat} {b : Bool} : (hsetB off i b s).wf := hwr_wf h
theorem hincW_wf {off : Nat} : (hincW off s).wf := hwr_wf h
theorem hincF_wf {off hi lo n : Nat} : (hincF off hi lo n s).wf := hsetF_wf h

theorem onlyIf_wf {c : Bool} {f : State → State} (hf : ∀ s, s.wf → (f s).wf) : (onlyIf c f s).wf :=
  ite_wf (hf s h) h

/-- An operation over a list keeps the invariant if it does for each element. -/
theorem forAll_wf_mem {α : Type} {xs : List α} {f : α → State → State} (hf : ∀ x ∈ xs, ∀ s, s.wf → (f x s).wf) :
    (forAll xs f s).wf := by
  induction xs generalizing s with
  | nil => exact h
  | cons x xs ih => exact ih (hf x (List.mem_cons_self ..) s h) fun y hy => hf y (List.mem_cons_of_mem _ hy)

theorem forAll_wf {α : Type} {xs : List α} {f : α → State → State} (hf : ∀ x s, s.wf → (f x s).wf) : (forAll xs f s).wf :=
  forAll_wf_mem h fun x _ => hf x

theorem drawFree_wf : (drawFree s).wf := frame_wf h
theorem plainClocks_wf {n : Nat} : (plainClocks n s).wf := ite_wf (frame_wf (ite_wf h (frame_wf h))) (frame_wf (ite_wf h (frame_wf h)))
theorem endSlew_wf : (endSlew s).wf := setB_wf (frame_wf h)

theorem clocks_wf {n : Nat} : (clocks n s).wf :=
  ite_wf (plainClocks_wf h) (ite_wf (plainClocks_wf (frame_wf h)) (plainClocks_wf (endSlew_wf (plainClocks_wf h))))

theorem reachNet_wf {t : Nat} : (reachNet t s).wf := ite_wf (clocks_wf h) (clocks_wf (clocks_wf h))
theorem reachAnch_wf {t : Nat} : (reachAnch t s).wf := clocks_wf h
theorem reachClk_wf {c : Nat} : (reachClk c s).wf := clocks_wf h
theorem reachAge_wf {a : Nat} : (reachAge a s).wf := clocks_wf h
theorem raiseSrc_wf {src : Nat} : (raiseSrc src s).wf := ite_wf h (frame_wf h)
theorem sendR_wf {typ : Nat} {payload : List Byte} : (sendR typ payload s).wf := frame_wf h
theorem drainUp_wf : (drainUp s).wf := ite_wf (forAll_wf (frame_wf h) (fun _ _ h => sendR_wf h)) h
theorem sendH_wf {typ : Nat} {payload : List Byte} : (sendH typ payload s).wf := hwr_wf (frame_wf h)
theorem sendEvent_wf {m : List Byte} : (sendEvent m s).wf := ite_wf (sendR_wf h) (ite_wf (frame_wf h) (frame_wf h))

theorem logWrite_wf {source code : Nat} {args : List Byte} : (logWrite source code args s).wf :=
  unless_wf (wr_wf (wr_wf (frame_wf h))) fun _ h => sendR_wf h

theorem raiseEvtAt_wf {t step source code : Nat} {args : List Byte} : (raiseEvtAt t step source code args s).wf :=
  logWrite_wf (sendEvent_wf (frame_wf h))

theorem raiseEvt_wf {source code : Nat} {args : List Byte} : (raiseEvt source code args s).wf := raiseEvtAt_wf h

theorem completion_wf {tag target opcode status : Nat} {payload : List Byte} : (completion tag target opcode status payload s).wf :=
  logWrite_wf (sendEvent_wf (frame_wf h))

theorem post_wf {addr : Nat} {bs : List Byte} : (post addr bs s).wf := frame_wf h
theorem vectorPend_wf {v : Nat} : (vectorPend v s).wf := ite_wf (hsetB_wf h) (post_wf h)
theorem irq_wf {n : Nat} : (irq n s).wf := when_wf (hsetB_wf h) fun _ h => vectorPend_wf h
theorem xoffUpdate_wf {cls : Nat} : (xoffUpdate cls s).wf := when_wf (hsetB_wf (frame_wf h)) fun _ h => irq_wf h
theorem toHost_wf {cls : Nat} {m : List Byte} : (toHost cls m s).wf := xoffUpdate_wf (frame_wf h)

theorem tenderEvtMsg_wf {code target tag status : Nat} {args : List Byte} : (tenderEvtMsg code target tag status args s).wf :=
  toHost_wf (toHost_wf h)

theorem tenderEvt_wf {code : Nat} {args : List Byte} : (tenderEvt code args s).wf := tenderEvtMsg_wf h

/-! ### Apply units and guarded registers -/

theorem dropShadows_wf {lo hi : Nat} : (dropShadows lo hi s).wf := by
  obtain ⟨ht, hb⟩ := shadows_of_wf h
  exact shadow_wf h (tabWf_filter _ ht) fun p hp => hb p (List.mem_filter.mp hp).1

theorem shadowPut_wf {a off : Nat} {v : Word} (hd : (radioDesc off).rwb ≠ 0) : (shadowPut a off v s).wf := by
  obtain ⟨ht, hb⟩ := shadows_of_wf h
  refine setB_wf (shadow_wf h (tabSet_wf _ _ _ _ ht) fun p hp => ?_)
  rcases mem_tabSet hp with hp | hp
  · exact hb p hp
  · rwa [hp]

theorem copyShadows_wf {lo hi : Nat} : (copyShadows lo hi s).wf := dropShadows_wf (forAll_wf h (fun _ _ h => wr_wf h))
theorem applyDrop_wf {a lo hi : Nat} : (applyDrop a lo hi s).wf := setB_wf (dropShadows_wf h)

theorem applyRun_wf {a lo hi src blk : Nat} {check : State → Nat} {after : State → State} (hf : ∀ s, s.wf → (after s).wf) :
    (applyRun a lo hi src blk check after s).wf :=
  ite_wf
    (ite_wf (hf _ (raiseSrc_wf (setB_wf (incF_wf (copyShadows_wf h)))))
      (raiseEvt_wf (raiseSrc_wf (setB_wf (setF_wf (setB_wf (dropShadows_wf h)))))))
    h

theorem guardFaultR_wf {cause off : Nat} : (guardFaultR cause off s).wf :=
  raiseEvt_wf (raiseSrc_wf (ite_wf (wr_wf (setF_wf (setB_wf (incSat_wf h)))) (incSat_wf h)))

theorem guardFaultH_wf {cause off : Nat} : (guardFaultH cause off s).wf :=
  irq_wf (ite_wf (hwr_wf (hsetF_wf (hsetB_wf (hsetF_wf h)))) (hsetF_wf h))

theorem guardLateR_wf : (guardLateR s).wf := by
  unfold guardLateR
  split
  · exact h
  · exact guardFaultR_wf (guard_none_wf h)

theorem guardLateH_wf : (guardLateH s).wf := by
  unfold guardLateH
  split
  · exact h
  · exact guardFaultH_wf (hguard_none_wf h)

theorem guardValueR_wf {off : Nat} {v : Word} (hd : (radioDesc off).rwg ≠ 0) : (guardValueR off v s).wf := by
  have h' : (if guardInTimeR s then s else guardLateR s).wf := ite_wf h (guardLateR_wf h)
  unfold guardValueR
  dsimp only
  split
  · exact frame_wf (guard_some_wf h' hd)
  · exact guardFaultR_wf (guard_none_wf h')

theorem guardValueH_wf {off : Nat} {v : Word} (hd : (hostDesc off).rwg ≠ 0) : (guardValueH off v s).wf := by
  have h' : (if guardInTimeH s then s else guardLateH s).wf := ite_wf h (guardLateH_wf h)
  unfold guardValueH
  dsimp only
  split
  · exact frame_wf (hguard_some_wf h' hd)
  · exact guardFaultH_wf (hguard_none_wf h')

theorem guardTwinR_wf {off : Nat} {w : Word} {effect : Nat → Word → State → State} (hf : ∀ o v s, s.wf → (effect o v s).wf) :
    (guardTwinR off w effect s).wf := by
  have h' : (if guardInTimeR s then s else guardLateR s).wf := ite_wf h (guardLateR_wf h)
  unfold guardTwinR
  dsimp only
  split
  · exact guardFaultR_wf h'
  · exact ite_wf (hf _ _ _ (guard_none_wf h')) (guardFaultR_wf (guard_none_wf h'))

theorem guardTwinH_wf {off : Nat} {w : Word} {effect : Nat → Word → State → State} (hf : ∀ o v s, s.wf → (effect o v s).wf) :
    (guardTwinH off w effect s).wf := by
  have h' : (if guardInTimeH s then s else guardLateH s).wf := ite_wf h (guardLateH_wf h)
  unfold guardTwinH
  dsimp only
  split
  · exact guardFaultH_wf h'
  · exact ite_wf (hf _ _ _ (hguard_none_wf h')) (guardFaultH_wf (hguard_none_wf h'))

/-! ### Cipher (Machine/Cipher.lean) -/

theorem setKey_wf {k : Nat} {v : KeySlot} : (setKey k v s).wf := frame_wf h
theorem setCtx_wf {n : Nat} {c : Ctx} : (setCtx n c s).wf := frame_wf h

theorem pktWrite_wf {a : Nat} {bs : List Byte} : (pktWrite a bs s).wf :=
  pkt_wf h (tabWriteBytes_wf _ _ _ _ (wf_iff.mp h).1.1)

theorem cphSync_wf : (cphSync s).wf := setF_wf (setF_wf (setF_wf (setF_wf (setB_wf h))))
theorem enqueue_wf {sub : Nat} {d : List Byte} : (enqueue sub d s).wf := cphSync_wf (frame_wf h)

theorem admitAll_wf {ws : List (Nat × List Byte)} : (admitAll ws s).wf := by
  induction ws generalizing s with
  | nil => exact h
  | cons w ws ih => exact ite_wf (ih (enqueue_wf h)) (ih (frame_wf h))

theorem cphSubmit_wf {submitter : Fin 17} {desc : List Byte} : (cphSubmit submitter desc s).wf := ite_wf (enqueue_wf h) (frame_wf h)
theorem setReq_wf {i : Nat} {r : CphReq} : (setReq i r s).wf := cphSync_wf (frame_wf h)

theorem cphStart_wf {core : Fin 8} : (cphStart core s).wf :=
  ite_wf h (by split; exacts [h, ite_wf (setReq_wf (reachClk_wf (frame_wf h))) (setReq_wf (reachClk_wf (frame_wf h)))])

theorem cphCoreDone_wf {core : Fin 8} {fault : Bool} : (cphCoreDone core fault s).wf := by
  unfold cphCoreDone
  split
  · exact h
  · refine ite_wf (raiseEvt_wf (setB_wf (setReq_wf (reachClk_wf h)))) ?_
    split
    · exact setReq_wf (reachClk_wf h)
    · exact setReq_wf (pktWrite_wf (pktWrite_wf (reachClk_wf h)))

theorem countCompletion_wf {status : Nat} : (countCompletion status s).wf :=
  ite_wf (incW_wf h) (ite_wf (incW_wf (incW_wf h)) (incW_wf (incW_wf h)))

theorem cphCompletion_wf {submitter : Fin 18} : (cphCompletion submitter s).wf := by
  unfold cphCompletion
  dsimp only
  split
  · exact h
  · split
    · exact h
    · exact ite_wf h (admitAll_wf (frame_wf (raiseSrc_wf (countCompletion_wf (cphSync_wf (ite_wf (frame_wf (ite_wf (incF_wf (frame_wf
        (frame_wf (reachClk_wf h)))) (frame_wf (reachClk_wf h)))) (ite_wf (incF_wf (frame_wf (frame_wf (reachClk_wf h)))) (frame_wf
        (reachClk_wf h)))))))))

theorem cphHsubmit_wf {value : Word} : (cphHsubmit value s).wf := ite_wf h (ite_wf (setB_wf h) (enqueue_wf h))
theorem cphHresultRead_wf : (cphHresultRead s).wf := cphSync_wf (frame_wf h)
theorem cphCfgWrite_wf {value : Word} : (cphCfgWrite value s).wf := ite_wf (wr_wf h) (setB_wf h)
theorem makeChange_wf {c : KeyChange} : (makeChange c s).wf := ite_wf (setKey_wf h) (setCtx_wf h)
theorem keyChange_wf {c : KeyChange} : (keyChange c s).wf := ite_wf (frame_wf h) (makeChange_wf h)

theorem keySlotChange_wf : (keySlotChange s).wf := by
  unfold keySlotChange
  split
  · exact h
  · exact makeChange_wf (frame_wf h)

theorem keyInvalidate_wf {slot : Nat} {all : Bool} : (keyInvalidate slot all s).wf := forAll_wf h fun _ _ h => keyChange_wf h
theorem keyInvalEffect_wf {off : Nat} {v : Word} : (keyInvalEffect off v s).wf := keyInvalidate_wf (wr_wf h)
theorem cphKeyInval_wf {value : Word} : (cphKeyInval value s).wf := guardTwinR_wf h fun _ _ _ h => keyInvalEffect_wf h

/-! ### Channel (Machine/Channel.lean) -/

theorem setSlot_wf {ch k : Nat} {v : Slot} : (setSlot ch k v s).wf := frame_wf h
theorem setSlotState_wf {ch k v : Nat} : (setSlotState ch k v s).wf := setF_wf h
theorem count_wf {ch k : Nat} : (count ch k s).wf := frame_wf h

theorem trace_wf {ch event slot mode rxseq : Nat} {noSeq : Bool} : (trace ch event slot mode rxseq noSeq s).wf :=
  incF_wf (setF_wf (wr_wf (wr_wf h)))

theorem setEnergy_wf {ch : Nat} {v : BitVec 16} : (setEnergy ch v s).wf := wr_wf (frame_wf h)
theorem stepSeenUpdate_wf {ch : Nat} : (stepSeenUpdate ch s).wf := setB_wf h

theorem endReception_wf {ch k outcome : Nat} {payload : List Byte} {crc : Nat} {soft : List Byte} : (endReception ch k outcome payload
    crc soft s).wf :=
  stepSeenUpdate_wf (setSlotState_wf (setSlot_wf (unless_wf (ite_wf (frame_wf (raiseSrc_wf (trace_wf (count_wf h)))) (raiseSrc_wf (trace_wf
    (count_wf h)))) fun _ h => setSlot_wf h)))

theorem flagSlot_wf {ch k bit : Nat} : (flagSlot ch k bit s).wf := setSlot_wf h
theorem abandonSlot_wf {ch k : Nat} : (abandonSlot ch k s).wf := endReception_wf (frame_wf h)

theorem flagWhere_wf {live : State → Nat → Nat → Bool} {p bit : Nat} : (flagWhere live p bit s).wf :=
  forAll_wf h fun _ _ h => ite_wf (forAll_wf h (fun _ _ h => onlyIf_wf h (fun _ h => flagSlot_wf h))) h

theorem flagPath_wf {p bit : Nat} : (flagPath p bit s).wf := flagWhere_wf h
theorem flagMoved_wf {p : Nat} : (flagMoved p s).wf := ite_wf (flagWhere_wf h) h

theorem abandonBand_wf {b : Nat} : (abandonBand b s).wf :=
  forAll_wf h fun _ _ h => ite_wf (forAll_wf h (fun _ _ h => onlyIf_wf h (fun _ h => abandonSlot_wf (flagSlot_wf h)))) h

theorem holdFails_wf {ch k : Nat} : (holdFails ch k s).wf := trace_wf (count_wf (setB_wf (flagSlot_wf (setSlot_wf h))))
theorem takeBlock_wf {ch k : Nat} : (takeBlock ch k s).wf := ite_wf (setSlot_wf h) (holdFails_wf h)

theorem growHolds_wf {fuel : Nat} : (growHolds fuel s).wf := by
  induction fuel generalizing s with
  | zero => exact h
  | succ fuel ih =>
    unfold growHolds
    split
    · exact h
    · exact ih (takeBlock_wf h)

theorem holdCatchUp_wf : (holdCatchUp s).wf := growHolds_wf h
theorem startRecording_wf {ch k : Nat} : (startRecording ch k s).wf := holdCatchUp_wf (takeBlock_wf (setSlot_wf h))
theorem holdSlot_wf {ch k : Nat} : (holdSlot ch k s).wf := trace_wf (setSlotState_wf (flagSlot_wf h))

theorem commitSlot_wf {ch k : Nat} {m : Match} {flags related : Nat} {pend : Bool} {event : Nat} : (commitSlot ch k m flags related
    pend event s).wf :=
  raiseSrc_wf (trace_wf (when_wf (count_wf (wr_wf (setF_wf (setSlotState_wf (setSlot_wf h))))) fun _ h => count_wf h))

theorem placeMatch_wf {ch k : Nat} {m : Match} : (placeMatch ch k m s).wf :=
  ite_wf (commitSlot_wf h) (ite_wf (commitSlot_wf h) (ite_wf (ite_wf (trace_wf (count_wf (count_wf h))) (when_wf (commitSlot_wf (when_wf
    (setSlot_wf (count_wf h)) fun _ h => abandonSlot_wf h)) fun _ h => holdSlot_wf h)) (ite_wf (count_wf (commitSlot_wf (setSlot_wf h)))
    (commitSlot_wf h))))

theorem agcSeen_wf {ch : Nat} {found : List Match} : (agcSeen ch found s).wf := by
  unfold agcSeen
  split
  · exact h
  · exact frame_wf h

theorem syncMatch_wf {ch : Fin 64} {found : List Match} : (syncMatch ch found s).wf := by
  unfold syncMatch
  dsimp only
  split
  · exact agcSeen_wf (holdCatchUp_wf h)
  · exact ite_wf (trace_wf (count_wf (agcSeen_wf (holdCatchUp_wf h)))) (ite_wf (placeMatch_wf (agcSeen_wf (holdCatchUp_wf h))) (ite_wf
      (placeMatch_wf (agcSeen_wf (holdCatchUp_wf h))) (trace_wf (count_wf (agcSeen_wf (holdCatchUp_wf h))))))

theorem pendingCapture_wf {ch k : Nat} : (pendingCapture ch k s).wf :=
  ite_wf (ite_wf (abandonSlot_wf (trace_wf (count_wf h))) (ite_wf (abandonSlot_wf (setSlot_wf (setSlot_wf (trace_wf (count_wf h)))))
    (when_wf (when_wf (setSlot_wf (setSlot_wf (trace_wf (count_wf h)))) fun _ h => startRecording_wf h) fun _ h => holdSlot_wf h))) h

theorem headerCheck_wf {ch : Fin 64} {slot : Fin 2} {header : Word} : (headerCheck ch slot header s).wf :=
  ite_wf (holdCatchUp_wf h) (ite_wf (endReception_wf (holdCatchUp_wf h)) (ite_wf (endReception_wf (holdCatchUp_wf h)) (ite_wf
    (endReception_wf (count_wf (trace_wf (setSlot_wf (holdCatchUp_wf h))))) (pendingCapture_wf (when_wf (setSlotState_wf (trace_wf
    (setSlot_wf (holdCatchUp_wf h)))) fun _ h => startRecording_wf h)))))

theorem endDecoded_wf {ch k : Nat} {soft : List Byte} : (endDecoded ch k soft s).wf := ite_wf (endReception_wf h) (endReception_wf h)

theorem payloadCrc_wf {ch : Fin 64} {slot : Fin 2} {soft : List Byte} : (payloadCrc ch slot soft s).wf :=
  ite_wf (endDecoded_wf (holdCatchUp_wf h)) (ite_wf (ite_wf (endDecoded_wf (holdCatchUp_wf h)) (setSlot_wf (holdCatchUp_wf h)))
    (holdCatchUp_wf h))

theorem powerStep_wf {ch : Fin 64} {slot : Fin 2} {power : BitVec 16} : (powerStep ch slot power s).wf :=
  ite_wf (when_wf (stepSeenUpdate_wf (setSlot_wf (holdCatchUp_wf h))) fun _ h => startRecording_wf h) (holdCatchUp_wf h)

theorem powerStepClear_wf {ch : Fin 64} {slot : Fin 2} {power : BitVec 16} : (powerStepClear ch slot power s).wf :=
  ite_wf (stepSeenUpdate_wf (setSlot_wf (holdCatchUp_wf h))) (holdCatchUp_wf h)

theorem enterRedecode_wf {ch k : Nat} : (enterRedecode ch k s).wf := by
  unfold enterRedecode
  dsimp only
  split
  · exact trace_wf (setSlotState_wf (setSlot_wf h))
  · exact setSlotState_wf h

theorem subtractStart_wf {ch : Fin 64} : (subtractStart ch s).wf :=
  ite_wf (enterRedecode_wf (holdCatchUp_wf h)) (when_wf (holdCatchUp_wf h) fun _ h => enterRedecode_wf h)

theorem redecodeEnd_wf {ch : Fin 64} {slot : Fin 2} {soft : List Byte} : (redecodeEnd ch slot soft s).wf :=
  ite_wf (holdCatchUp_wf h) (ite_wf (endDecoded_wf (count_wf (flagSlot_wf (holdCatchUp_wf h)))) (endDecoded_wf (holdCatchUp_wf h)))

theorem latchStats_wf {ch : Nat} : (latchStats ch s).wf := forAll_wf h fun _ _ h => wr_wf h
theorem clearStats_wf {ch : Nat} : (clearStats ch s).wf := frame_wf h
theorem statLatch_wf {ch : Fin 64} : (statLatch ch s).wf := latchStats_wf h
theorem statClear_wf {ch : Fin 64} : (statClear ch s).wf := clearStats_wf h

/-! ### Synth (Machine/Synth.lean) -/

theorem setSyn_wf {n : Nat} {v : Synth} : (setSyn n v s).wf := frame_wf h
theorem setSynState_wf {n v : Nat} : (setSynState n v s).wf := setB_wf (setF_wf h)
theorem setEntry_wf {n k : Nat} {e : CalEntry} : (setEntry n k e s).wf := setSyn_wf h
theorem judgeStale_wf {n : Nat} : (judgeStale n s).wf := forAll_wf h fun _ _ h => setEntry_wf h

theorem storeEntry_wf {n f : Nat} : (storeEntry n f s).wf := by
  unfold storeEntry
  split
  · exact h
  · exact drawFree_wf (setEntry_wf h)

theorem hop_wf {n f : Nat} : (hop n f s).wf :=
  ite_wf h (ite_wf (setSynState_wf (incW_wf (setSyn_wf (judgeStale_wf h)))) (setSynState_wf (incW_wf (setSyn_wf (judgeStale_wf h)))))

theorem fullCal_wf {n f : Nat} : (fullCal n f s).wf := setSynState_wf (incW_wf (setSyn_wf h))

theorem lockReached_wf {n : Nat} {wanted : Option Nat} : (lockReached n wanted s).wf := by
  refine ite_wf ?_ (ite_wf (setSynState_wf (wr_wf (ite_wf (storeEntry_wf h) ?_))) h)
  · split
    · exact hop_wf (setSynState_wf (setSyn_wf (storeEntry_wf h)))
    · exact setSynState_wf (setSyn_wf (storeEntry_wf h))
  · split
    · exact setEntry_wf h
    · exact h

theorem synTempSample_wf {sensor : Nat} : (synTempSample sensor s).wf := forAll_wf h fun _ _ h => wr_wf h
theorem queueWork_wf {n : Nat} {ks : List Nat} : (queueWork n ks s).wf := setSyn_wf h
theorem staleEval_wf : (staleEval s).wf := forAll_wf h fun _ _ h => judgeStale_wf h
theorem refreshStale_wf {n : Nat} : (refreshStale n s).wf := queueWork_wf h
theorem calEntry_wf {n : Nat} : (calEntry n s).wf := ite_wf h (queueWork_wf h)
theorem calAllValid_wf {n : Nat} : (calAllValid n s).wf := queueWork_wf h

theorem refreshBegin_wf {y : Nat} : (refreshBegin y s).wf := by
  unfold refreshBegin
  split
  · exact h
  · exact setSynState_wf (incW_wf (setSyn_wf h))

theorem invalidateAll_wf {n : Nat} : (invalidateAll n s).wf := setSyn_wf h

/-! ### RxFront (Machine/RxFront.lean) -/

theorem setPath_wf {p : Nat} {v : RxPath} : (setPath p v s).wf := frame_wf h
theorem bandSync_wf : (bandSync s).wf := forAll_wf h fun _ _ h => setB_wf h
theorem bandJudge_wf {b : Nat} : (bandJudge b s).wf := ite_wf (unless_wf (bandSync_wf (frame_wf h)) fun _ h => raiseEvt_wf h) h
theorem toneStop_wf {p : Nat} : (toneStop p s).wf := ite_wf (wr_wf (wr_wf (frame_wf h))) h

theorem setPathState_wf {p v : Nat} : (setPathState p v s).wf :=
  ite_wf (unless_wf (setF_wf (ite_wf (toneStop_wf h) h)) fun _ h => bandJudge_wf h) (ite_wf (when_wf (setF_wf (ite_wf (toneStop_wf h) h))
    fun _ h => bandJudge_wf h) (setF_wf (ite_wf (toneStop_wf h) h)))

theorem setRole_wf {v : Nat} : (setRole v s).wf := setF_wf h
theorem setServes_wf {v : Nat} : (setServes v s).wf := setF_wf h

theorem pathOut_wf {cause p : Nat} : (pathOut cause p s).wf :=
  ite_wf h (ite_wf (setPath_wf h) (setPathState_wf (flagPath_wf (setPath_wf h))))

theorem pathIn_wf {p : Nat} : (pathIn p s).wf := setPathState_wf (flagPath_wf (setPath_wf h))
theorem causeUnserved_wf {cause p : Nat} : (causeUnserved cause p s).wf := ite_wf (pathOut_wf h) (ite_wf (frame_wf h) h)

theorem sTake_wf {cause p : Nat} : (sTake cause p s).wf :=
  ite_wf (setServes_wf (setRole_wf (setF_wf (frame_wf h)))) (setServes_wf (setRole_wf (wr_wf (setF_wf (frame_wf h)))))

theorem sPreempted_wf : (sPreempted s).wf := ite_wf (setB_wf (wr_wf (frame_wf h))) (ite_wf (ite_wf (pathIn_wf h) h) (pathOut_wf h))

theorem presentCause_wf {cause p : Nat} : (presentCause cause p s).wf :=
  ite_wf (causeUnserved_wf h) (ite_wf (sTake_wf h) (ite_wf (sTake_wf (sPreempted_wf h)) (causeUnserved_wf (setB_wf h))))

theorem sFree_wf : (sFree s).wf := by
  unfold sFree
  dsimp only
  split
  · exact setServes_wf (setRole_wf h)
  · exact presentCause_wf (frame_wf (setServes_wf (setRole_wf h)))

theorem analogStep_wf {p : Nat} : (analogStep p s).wf :=
  onlyIf_wf (raiseSrc_wf (setB_wf (incW_wf (setPath_wf h)))) fun _ h => flagMoved_wf h

theorem gainStep_wf {p : Nat} {idx : Nat} {byp : Bool} : (gainStep p idx byp s).wf :=
  ite_wf (onlyIf_wf (wr_wf (setPath_wf h)) (fun _ h => flagMoved_wf h)) (analogStep_wf (wr_wf h))

theorem judgeSat_wf {p clips : Nat} : (judgeSat p clips s).wf :=
  ite_wf (setPath_wf (setB_wf (wr_wf h))) (ite_wf (when_wf (setPath_wf (setB_wf h)) fun _ h => pathIn_wf h) h)

theorem agcWindowEnd_wf {path : Fin 5} {peak : Int} {clips : Nat} : (agcWindowEnd path peak clips s).wf :=
  ite_wf h (ite_wf (unless_wf (ite_wf (wr_wf h) h) fun _ h => judgeSat_wf h) (ite_wf (unless_wf (unless_wf (ite_wf (wr_wf h) h) fun _ h =>
    judgeSat_wf h) fun _ h => gainStep_wf h) (ite_wf (unless_wf (unless_wf (ite_wf (wr_wf h) h) fun _ h => judgeSat_wf h) fun _ h =>
    gainStep_wf h) (unless_wf (ite_wf (wr_wf h) h) fun _ h => judgeSat_wf h))))

theorem dcReconverged_wf {path : Fin 4} {residual : Byte} : (dcReconverged path residual s).wf := ite_wf (incF_wf (setB_wf (setF_wf h))) h

theorem satLong_wf {path : Fin 4} : (satLong path s).wf := by
  unfold satLong
  dsimp only
  split
  · exact h
  · exact unless_wf (raiseEvt_wf (setB_wf (reachClk_wf h))) fun _ h => presentCause_wf h

theorem sAlignDone_wf : (sAlignDone s).wf := ite_wf (frame_wf (reachClk_wf h)) h
theorem reachSlot_wf : (reachSlot s).wf := reachNet_wf h

theorem pathSubst_wf : (pathSubst s).wf :=
  ite_wf (raiseEvt_wf (raiseSrc_wf (incW_wf (setRole_wf (setPathState_wf (flagPath_wf (reachSlot_wf h))))))) h

theorem pathReturn_wf : (pathReturn s).wf :=
  ite_wf (by split; exacts [h, sFree_wf (raiseEvt_wf (raiseSrc_wf (pathIn_wf (reachSlot_wf (reachClk_wf h)))))]) h

theorem pathBack_wf {p : Nat} : (pathBack p s).wf := ite_wf (pathIn_wf h) h

theorem healthCheck_wf {path : Fin 4} {fails : BitVec 5} : (healthCheck path fails s).wf :=
  ite_wf h (ite_wf (pathBack_wf (setPath_wf (setF_wf (incF_wf (wr_wf h))))) (ite_wf (presentCause_wf (raiseEvt_wf (setB_wf (incSat_wf
    (setPath_wf (incF_wf (wr_wf h))))))) (incSat_wf (setPath_wf (incF_wf (wr_wf h))))))

theorem calibrated_wf {p : Nat} : (calibrated p s).wf := unless_wf (drawFree_wf (setPath_wf h)) fun _ h => setB_wf h

theorem pathCalibrationDone_wf {path : Fin 5} : (pathCalibrationDone path s).wf :=
  ite_wf h (ite_wf (when_wf (calibrated_wf h) fun _ h => sFree_wf h) (ite_wf (frame_wf (calibrated_wf h)) (calibrated_wf h)))

theorem recalibrate_wf {sensor : Nat} : (recalibrate sensor s).wf :=
  when_wf (forAll_wf h (fun _ _ h => unless_wf (setB_wf h) fun _ h => presentCause_wf h)) fun _ h => setRole_wf h

theorem bandCfgPut_wf {v : Word} : (bandCfgPut v s).wf := ite_wf (wr_wf h) (setSynState_wf (setSyn_wf (wr_wf h)))

theorem rxpBandWrite_wf {addr value : Word} : (rxpBandWrite addr value s).wf :=
  ite_wf h (ite_wf (setB_wf h) (ite_wf (setB_wf h) (bandSync_wf (ite_wf (bandCfgPut_wf h) (wr_wf h)))))

theorem pathOff_wf {p : Nat} : (pathOff p s).wf := when_wf (setPathState_wf (flagPath_wf (setPath_wf h))) fun _ h => sFree_wf h

theorem rxpPathCfgWrite_wf {path : Fin 4} {value : Word} : (rxpPathCfgWrite path value s).wf :=
  ite_wf (setB_wf (wr_wf (ite_wf (pathOff_wf h) h))) (ite_wf (ite_wf (wr_wf h) (ite_wf (setPathState_wf (wr_wf h)) (setPathState_wf (when_wf
    (wr_wf h) fun _ h => hop_wf h)))) (when_wf (wr_wf h) fun _ h => pathOff_wf h))

theorem pathsHalt_wf {b : Nat} : (pathsHalt b s).wf := forAll_wf h fun _ _ h => ite_wf (setF_wf h) h

/-! ### Queue (Machine/Queue.lean) -/

theorem setOp_wf {n : Nat} {v : OpRun} : (setOp n v s).wf := frame_wf h
theorem setOpState_wf {n v : Nat} : (setOpState n v s).wf := setF_wf h
theorem opReach_wf {n t : Nat} : (opReach n t s).wf := ite_wf (reachAnch_wf h) (reachNet_wf h)
theorem opEvt_wf {n : Nat} {atStart : Bool} : (opEvt n atStart s).wf := ite_wf (raiseSrc_wf h) h
theorem opActivate_wf {n : Nat} : (opActivate n s).wf := ite_wf (opEvt_wf (setOpState_wf h)) h
theorem opApply_wf {n : Nat} : (opApply n s).wf := ite_wf h (applyRun_wf h (fun _ h => onlyIf_wf h (fun _ h => setOpState_wf h)))

theorem opComplete_wf {n result t step value : Nat} : (opComplete n result t step value s).wf :=
  opApply_wf (opEvt_wf (setOp_wf (wr_wf (wr_wf (wr_wf (wr_wf (setOpState_wf (setF_wf h))))))))

theorem opEnd_wf {n result value : Nat} : (opEnd n result value s).wf := opComplete_wf h

theorem startNow_wf {n : Nat} : (startNow n s).wf :=
  ite_wf (opEnd_wf (opActivate_wf h)) (ite_wf (opEnd_wf (opActivate_wf h)) (when_wf (opActivate_wf h) fun _ h => opEnd_wf h))

theorem opArmAt_wf {n : Nat} {trigger : Option Nat} : (opArmAt n trigger s).wf :=
  ite_wf h (ite_wf (setB_wf h) (ite_wf (setOpState_wf (setF_wf (setOp_wf h))) (ite_wf (ite_wf (opActivate_wf (setOp_wf (setOpState_wf
    (setF_wf (setOp_wf h))))) (startNow_wf (setB_wf (setOpState_wf (setF_wf (setOp_wf h)))))) (opEnd_wf (setOpState_wf (setF_wf (setOp_wf
    h)))))))

theorem opAbort_wf {n : Nat} : (opAbort n s).wf := opEnd_wf h
theorem opqStart_wf {op : Fin 128} : (opqStart op s).wf := ite_wf h (forAll_wf (opReach_wf h) (fun _ _ h => startNow_wf h))
theorem measureEnd_wf {op : Fin 128} {mean : BitVec 16} : (measureEnd op mean s).wf := ite_wf (opEnd_wf (opReach_wf h)) h
theorem windowJudge_wf {n : Nat} : (windowJudge n s).wf := ite_wf (opComplete_wf h) h
theorem rxWindowClose_wf {op : Fin 128} : (rxWindowClose op s).wf := ite_wf (windowJudge_wf (setOp_wf (opReach_wf h))) h
theorem windowMatch_wf {n : Nat} {r : RxRec} : (windowMatch n r s).wf := opComplete_wf h

theorem opOvertake_wf {t2 n : Nat} : (opOvertake t2 n s).wf :=
  ite_wf (opEnd_wf h) (ite_wf (opActivate_wf (setOp_wf h)) (startNow_wf (setOp_wf h)))

theorem opqOvertake_wf {t1 t2 : Nat} : (opqOvertake t1 t2 s).wf := forAll_wf h fun _ _ h => opOvertake_wf h
theorem shiftOps_wf {d : Int} : (shiftOps d s).wf := forAll_wf h fun _ _ h => ite_wf h (setOp_wf h)

theorem takeEntry_wf {n : Nat} {e : OpSpec} : (takeEntry n e s).wf :=
  opArmAt_wf (setOpState_wf (wr_wf (wr_wf (wr_wf (wr_wf (wr_wf (wr_wf (wr_wf (wr_wf h)))))))))

theorem releaseEntry_wf {n : Nat} : (releaseEntry n s).wf := ite_wf (setOpState_wf (wr_wf h)) (setOpState_wf (wr_wf h))

/-! ### TimeBase (Machine/TimeBase.lean) -/

theorem wrAll_wf {off : Nat} {ws : List Word} : (wrAll off ws s).wf := by
  induction ws generalizing off s with
  | nil => exact h
  | cons w ws ih => exact ih (wr_wf h)

theorem ntbTimeRead_wf : (ntbTimeRead s).wf := frame_wf (wrAll_wf h)
theorem setSource_wf {st src : Nat} : (setSource st src s).wf := ite_wf h (raiseEvt_wf (raiseSrc_wf (setB_wf (setF_wf (setF_wf h)))))
theorem beginHoldover_wf {e0 : Nat} {half : Bool} : (beginHoldover e0 half s).wf := frame_wf h
theorem setLamp_wf {n : Nat} {v : Lamp} : (setLamp n v s).wf := frame_wf h

theorem lampPulse_wf {n : Nat} {oneShot : Bool} : (lampPulse n oneShot s).wf :=
  ite_wf (onlyIf_wf (setB_wf (raiseSrc_wf (setLamp_wf (raiseSrc_wf (ite_wf (raiseSrc_wf h) h))))) (fun _ h => setB_wf h)) (setB_wf
    (setLamp_wf (raiseSrc_wf (ite_wf (raiseSrc_wf h) h))))

theorem lampSkipCount_wf {n k : Nat} : (lampSkipCount n k s).wf := incSat_wf h

theorem lampMissed_wf {n : Nat} : (lampMissed n s).wf :=
  ite_wf (lampSkipCount_wf (setB_wf (setLamp_wf h))) (lampPulse_wf (setB_wf (setLamp_wf h)))

theorem lampArm_wf {n inst : Nat} : (lampArm n inst s).wf :=
  ite_wf (setLamp_wf h) (ite_wf (setLamp_wf (setLamp_wf h)) (ite_wf (setLamp_wf (setLamp_wf h)) (lampMissed_wf (setLamp_wf (setLamp_wf
    h)))))

theorem lampApply_wf {n : Nat} : (lampApply n s).wf := ite_wf (applyRun_wf h (fun _ h => lampArm_wf h)) h

theorem lampOvertake_wf {t2 n : Nat} : (lampOvertake t2 n s).wf :=
  ite_wf (lampMissed_wf h) (ite_wf (lampSkipCount_wf (setB_wf (setLamp_wf h))) (lampPulse_wf (lampSkipCount_wf (setB_wf (setLamp_wf h)))))

theorem lampStart_wf {n : Fin 8} : (lampStart n s).wf :=
  ite_wf h (ite_wf (lampPulse_wf (setLamp_wf (reachNet_wf h))) (lampPulse_wf (setLamp_wf (reachNet_wf h))))

theorem lampEnd_wf {n : Fin 8} : (lampEnd n s).wf := by
  unfold lampEnd
  dsimp only
  split
  · exact h
  · exact onlyIf_wf (setB_wf (setLamp_wf (raiseSrc_wf (reachClk_wf h)))) fun _ h => setB_wf h

theorem lampTrigger_wf {n : Nat} : (lampTrigger n s).wf := lampPulse_wf h
theorem sendNetTime_wf : (sendNetTime s).wf := sendR_wf h
theorem overtake_wf {t1 t2 : Nat} : (overtake t1 t2 s).wf := opqOvertake_wf (forAll_wf (clocks_wf h) (fun _ _ h => lampOvertake_wf h))
theorem shiftSeen_wf {d : Int} : (shiftSeen d s).wf := frame_wf h

theorem stepTo_wf {t : Nat} {after : State → State} (hf : ∀ s, s.wf → (after s).wf) : (stepTo t after s).wf := by
  refine ite_wf (overtake_wf ?_) ?_ <;>
    exact shiftOps_wf (sendNetTime_wf (hf _ (raiseEvt_wf (raiseSrc_wf (setB_wf (incW_wf (shiftSeen_wf (frame_wf h))))))))

theorem beginSlew_wf {off : Int} : (beginSlew off s).wf := setB_wf (frame_wf h)

theorem correct_wf {off : Int} {after : State → State} (hf : ∀ s, s.wf → (after s).wf) : (correct off after s).wf :=
  ite_wf (hf _ (endSlew_wf h)) (ite_wf (hf _ (beginSlew_wf (endSlew_wf h))) (stepTo_wf (endSlew_wf h) hf))

theorem lockTo_wf {n : Nat} : (lockTo n s).wf := correct_wf (frame_wf h) fun _ h => setSource_wf h

theorem sourceQualifies_wf {n : Nat} : (sourceQualifies n s).wf :=
  ite_wf h (ite_wf (lockTo_wf h) (ite_wf (ite_wf (lockTo_wf h) (ite_wf h (frame_wf h))) h))

theorem sourceLost_wf : (sourceLost s).wf :=
  ite_wf h (ite_wf (lockTo_wf h) (ite_wf (lockTo_wf h) (raiseEvt_wf (setSource_wf (beginHoldover_wf (endSlew_wf h))))))

theorem judgeSources_wf : (judgeSources s).wf :=
  ite_wf (ite_wf (sourceQualifies_wf (sourceQualifies_wf (ite_wf (frame_wf h) h))) (sourceLost_wf (ite_wf (frame_wf h) h))) (ite_wf
    (lockTo_wf (ite_wf (frame_wf h) h)) (when_wf (ite_wf (frame_wf h) h) fun _ h => lockTo_wf h))

theorem servoOff_wf : (servoOff s).wf := frame_wf (setB_wf (endSlew_wf h))

theorem ntbCfgWrite_wf {held : Bool} {v : Word} : (ntbCfgWrite held v s).wf :=
  judgeSources_wf (onlyIf_wf (wr_wf h) (fun _ h => servoOff_wf h))

theorem servo_wf : (servo s).wf := ite_wf (drawFree_wf (frame_wf h)) h
theorem stepApplied_wf : (stepApplied s).wf := wr_wf (frame_wf h)
theorem stepApply_wf : (stepApply s).wf := applyRun_wf h fun _ h => stepApplied_wf h
theorem rateApply_wf : (rateApply s).wf := applyRun_wf h fun _ h => frame_wf h
theorem hostStepped_wf : (hostStepped s).wf := setSource_wf (beginHoldover_wf (endSlew_wf (frame_wf h)))
theorem ntbSet_wf : (ntbSet s).wf := ite_wf h (stepTo_wf (clocks_wf h) (fun _ h => hostStepped_wf h))
theorem ntbStep_wf : (ntbStep s).wf := ite_wf h (stepTo_wf (clocks_wf h) (fun _ h => hostStepped_wf h))
theorem atSecond_wf : (atSecond s).wf := frame_wf (rateApply_wf h)
theorem ntbSecond_wf : (ntbSecond s).wf := atSecond_wf (sendNetTime_wf (raiseSrc_wf (reachNet_wf h)))
theorem ppsSecArm_wf {hi : Word} : (ppsSecArm hi s).wf := setB_wf (frame_wf (wr_wf h))
theorem ppsLost_wf : (ppsLost s).wf := judgeSources_wf (setB_wf (frame_wf h))
theorem ppsAccept_wf {sec : Nat} {good : Nat} : (ppsAccept sec good s).wf := frame_wf h
theorem trackSource_wf {off : Int} : (trackSource off s).wf := servo_wf (correct_wf h (fun _ h => id_wf h))

theorem ppsTake_wf : (ppsTake s).wf := by
  unfold ppsTake
  split
  · exact h
  · split
    · exact ppsAccept_wf h
    · exact ite_wf (when_wf (ppsAccept_wf h) fun _ h => lockTo_wf h) (ite_wf (ite_wf (when_wf (ppsAccept_wf h) fun _ h => trackSource_wf h)
        (ite_wf (sourceQualifies_wf (frame_wf (ppsAccept_wf h))) (ppsAccept_wf h))) (when_wf (setB_wf (frame_wf h)) fun _ h => ppsLost_wf
        h))

theorem ppsEdge_wf {rising : Bool} : (ppsEdge rising s).wf := ite_wf (ppsTake_wf h) h

theorem ppsLossTimeout_wf : (ppsLossTimeout s).wf := by
  unfold ppsLossTimeout
  split
  · exact h
  · exact ppsLost_wf (reachNet_wf h)

theorem revertHoldExpiry_wf : (revertHoldExpiry s).wf := ite_wf (lockTo_wf (reachClk_wf h)) h
theorem holdoverAlarm_wf : (holdoverAlarm s).wf := ite_wf h (raiseEvt_wf (raiseSrc_wf (setB_wf (frame_wf (reachClk_wf h)))))

theorem capStore_wf {n t : Nat} : (capStore n t s).wf :=
  raiseSrc_wf (incF_wf (setB_wf (wr_wf (onlyIf_wf (frame_wf h) (fun _ h => setB_wf h)))))

theorem captureEdge_wf {cap : Fin 5} {rising : Bool} : (captureEdge cap rising s).wf := ite_wf (capStore_wf h) h
theorem captureRead_wf {cap : Fin 5} : (captureRead cap s).wf := setB_wf (wr_wf (wr_wf (wr_wf (frame_wf h))))

/-! ### Coex (Machine/Coex.lean) -/

theorem setTx_wf {p : Nat} {v : TxPath} : (setTx p v s).wf := frame_wf h
theorem setUse_wf {n : Nat} {u : OpUse} : (setUse n u s).wf := frame_wf h
theorem setCount_wf {key : List Byte} {v : Nat} : (setCount key v s).wf := frame_wf h
theorem putFrame_wf {n : Nat} {frame : List Byte} : (putFrame n frame s).wf := pktWrite_wf h

theorem beaconFill_wf {n t : Nat} : (beaconFill n t s).wf := by
  unfold beaconFill
  split
  · exact putFrame_wf h
  · split
    · exact putFrame_wf (setOp_wf h)
    · exact h

theorem bumpFcnt_wf {k : Nat} : (bumpFcnt k s).wf := setCount_wf h

theorem beaconRadiated_wf {n : Nat} : (beaconRadiated n s).wf := by
  unfold beaconRadiated
  dsimp only
  split
  · exact frame_wf h
  · exact setF_wf (by split; exacts [incF_wf (setCount_wf h), incF_wf h])
  · exact onlyIf_wf (by split; exacts [incF_wf (setCount_wf h), incF_wf h]) fun _ h => setF_wf h
  · exact h

theorem writeBeacon_wf {u : OpUse} {ch mode retry power pre start : Nat} : (writeBeacon u ch mode retry power pre start s).wf := by
  unfold writeBeacon
  split
  · exact h
  · exact setUse_wf (takeEntry_wf h)

theorem writeBeaconOn_wf {u : OpUse} {start ch : Nat} : (writeBeaconOn u start ch s).wf := writeBeacon_wf h

theorem beaconSchedule_wf : (beaconSchedule s).wf :=
  ite_wf (reachNet_wf h) (when_wf (writeBeaconOn_wf (reachNet_wf h)) fun _ h => forAll_wf h (fun _ _ h => writeBeaconOn_wf h))

theorem lighthouseSchedule_wf : (lighthouseSchedule s).wf := unless_wf (reachNet_wf h) fun _ h => forAll_wf h fun _ _ h => writeBeacon_wf h

theorem beaconBusy_wf : (beaconBusy s).wf :=
  ite_wf (setF_wf h) (ite_wf (raiseEvt_wf (setF_wf h)) (forAll_wf (setB_wf (setB_wf (raiseEvt_wf (setF_wf h)))) (fun _ _ h =>
    writeBeaconOn_wf h)))

theorem setReqLevel_wf {b : Bool} : (setReqLevel b s).wf := ite_wf h (raiseSrc_wf (setB_wf h))
theorem setGntLevel_wf {b : Bool} : (setGntLevel b s).wf := ite_wf h (raiseSrc_wf (setB_wf h))
theorem coexInputs_wf : (coexInputs s).wf := ite_wf (setReqLevel_wf (setB_wf (setGntLevel_wf h))) (setGntLevel_wf h)
theorem grantUsed_wf : (grantUsed s).wf := forAll_wf h fun _ _ h => ite_wf (setTx_wf h) h
theorem grantOut_wf : (grantOut s).wf := ite_wf h (incW_wf (setB_wf (frame_wf h)))
theorem grantBack_wf : (grantBack s).wf := setB_wf (frame_wf h)

theorem coexOutputs_wf : (coexOutputs s).wf :=
  ite_wf (setB_wf (setReqLevel_wf (setB_wf (onlyIf_wf (grantUsed_wf h) (fun _ h => incW_wf h))))) (ite_wf (grantOut_wf h) h)

theorem coexRelease_wf {delay : Nat} : (coexRelease delay s).wf := forAll_wf h fun _ _ h => setTx_wf (setOp_wf h)
theorem coexTimingWrite_wf {value : Word} : (coexTimingWrite value s).wf := ite_wf (setB_wf h) (ite_wf (setB_wf h) (wr_wf h))

/-! ### Transmit (Machine/Transmit.lean) -/

theorem protectStep_wf {r : Nat} {on : Bool} : (protectStep r on s).wf := analogStep_wf (setPath_wf h)
theorem noteDeaf_wf : (noteDeaf s).wf := forAll_wf h fun _ _ h => (by split; exacts [h, frame_wf h])

theorem shareBegin_wf {p ahead ramp : Nat} : (shareBegin p ahead ramp s).wf :=
  forAll_wf (setTx_wf (noteDeaf_wf h)) fun _ _ h => protectStep_wf h

theorem shareEnd_wf {p : Nat} : (shareEnd p s).wf := by
  have flagged : ∀ {xs : List Nat} {t : State}, t.wf →
      (forAll xs (fun ch => forAll [0, 1] (fun k s => if blankedDuring s ch k then flagSlot ch k 1 s else s)) t).wf :=
    fun h => forAll_wf h fun _ _ h => forAll_wf h fun _ _ h => ite_wf (flagSlot_wf h) h
  exact forAll_wf (ite_wf (setTx_wf h) (flagged (setTx_wf h))) fun _ _ h => ite_wf (protectStep_wf h) h

theorem setProbe_wf {p k : Nat} {b : Bool} : (setProbe p k b s).wf := setTx_wf h

theorem rampUpdate_wf {p n : Nat} : (rampUpdate p n s).wf :=
  ite_wf (wr_wf h) (ite_wf (setTx_wf (wr_wf h)) (ite_wf (setTx_wf (wr_wf h)) (when_wf (setTx_wf (wr_wf h)) fun _ h => setProbe_wf h)))

theorem txApply_wf {p : Nat} : (txApply p s).wf := ite_wf h (applyRun_wf h (fun _ h => setTx_wf h))
theorem limitFlag_wf {p n : Nat} : (limitFlag p n s).wf := setB_wf (setB_wf h)
theorem fixPower_wf {p n code : Nat} : (fixPower p n code s).wf := ite_wf (limitFlag_wf (setOp_wf h)) (setB_wf (setOp_wf h))

theorem radiate_wf {p n t : Nat} : (radiate p n t s).wf :=
  ite_wf (setOp_wf (onlyIf_wf (onlyIf_wf (opActivate_wf h) (fun _ h => setB_wf h)) (fun _ h => beaconRadiated_wf (beaconFill_wf h))))
    (frame_wf (setOp_wf (onlyIf_wf (onlyIf_wf (opActivate_wf h) (fun _ h => setB_wf h)) (fun _ h => beaconRadiated_wf (beaconFill_wf h)))))

theorem holdOp_wf {why n : Nat} : (holdOp why n s).wf := setOp_wf (onlyIf_wf (ite_wf (incW_wf (setB_wf h)) h) (fun _ h => setB_wf h))

theorem planBurst_wf {p n : Nat} : (planBurst p n s).wf :=
  ite_wf (forAll_wf (forAll_wf (setTx_wf h) (fun _ _ h => setOp_wf h)) (fun _ _ h => setOp_wf h)) (hop_wf (opActivate_wf (forAll_wf
    (forAll_wf (setTx_wf h) (fun _ _ h => setOp_wf h)) (fun _ _ h => setOp_wf h))))

theorem replan_wf {p : Nat} : (replan p s).wf := by
  unfold replan
  split
  · exact h
  · exact ite_wf h (ite_wf h (planBurst_wf h))

theorem txLeave_wf {n result : Nat} : (txLeave n result s).wf :=
  coexOutputs_wf (when_wf (when_wf (opEnd_wf (onlyIf_wf h (fun _ h => setProbe_wf h))) fun _ h => beaconBusy_wf h) fun _ h => incW_wf h)

theorem txEnd_wf {n result : Nat} : (txEnd n result s).wf := onlyIf_wf (txLeave_wf h) fun _ h => replan_wf h
theorem txLateEnd_wf {n : Nat} : (txLateEnd n s).wf := raiseEvt_wf (incW_wf (txEnd_wf h))

theorem burstEnd_wf {p : Nat} : (burstEnd p s).wf :=
  when_wf (coexOutputs_wf (replan_wf (forAll_wf (setTx_wf (shareEnd_wf (raiseSrc_wf (setF_wf h)))) (fun _ _ h => setOp_wf h)))) fun _ h =>
    grantOut_wf h

theorem finishCarrier_wf {p result n : Nat} : (finishCarrier p result n s).wf := opComplete_wf (rampUpdate_wf h)
theorem settleCarriers_wf {p : Nat} : (settleCarriers p s).wf := forAll_wf h fun _ _ h => finishCarrier_wf h
theorem rampsDown_wf {p : Nat} : (rampsDown p s).wf := setTx_wf h

theorem dropCarrier_wf {p result n : Nat} : (dropCarrier p result n s).wf :=
  when_wf (finishCarrier_wf (ite_wf (rampsDown_wf h) h)) fun _ h => burstEnd_wf h

theorem abortBurst_wf {p result : Nat} : (abortBurst p result s).wf :=
  ite_wf (burstEnd_wf (forAll_wf (rampsDown_wf (settleCarriers_wf h)) (fun _ _ h => finishCarrier_wf h))) h

theorem cutBurst_wf {p : Nat} : (cutBurst p s).wf :=
  ite_wf (burstEnd_wf (forAll_wf (settleCarriers_wf h) (fun _ _ h => opComplete_wf (onlyIf_wf h (fun _ h => setProbe_wf h))))) h

theorem lockDue_wf {op : Fin 128} : (lockDue op s).wf := by
  refine ite_wf h (ite_wf (txEnd_wf h) (ite_wf (txEnd_wf h) (ite_wf (txEnd_wf h) ?_)))
  split
  · exact txEnd_wf h
  · exact replan_wf (setOp_wf (onlyIf_wf h (fun _ h => setProbe_wf h)))

theorem busyAssess_wf {n : Nat} : (busyAssess n s).wf :=
  ite_wf (txEnd_wf (opActivate_wf (incW_wf h))) (coexOutputs_wf (replan_wf (drawFree_wf (setOp_wf (opActivate_wf (incW_wf h))))))

theorem lbtAssess_wf {op : Fin 128} {energy : BitVec 16} : (lbtAssess op energy s).wf :=
  ite_wf h (ite_wf (txEnd_wf (setEnergy_wf (reachNet_wf h))) (ite_wf (busyAssess_wf (setB_wf (incW_wf (setB_wf (setEnergy_wf (reachNet_wf
    h)))))) (ite_wf (busyAssess_wf (setEnergy_wf (reachNet_wf h))) (ite_wf (txEnd_wf (setEnergy_wf (reachNet_wf h))) (when_wf (opActivate_wf
    (setOp_wf (setEnergy_wf (reachNet_wf h)))) fun _ h => beaconFill_wf h)))))

theorem burstPower_wf {p n : Nat} : (burstPower p n s).wf :=
  forAll_wf (forAll_wf h (fun _ _ h => fixPower_wf h)) fun _ _ h => holdOp_wf (setOp_wf h)

theorem burstBegin_wf {p n t : Nat} : (burstBegin p n t s).wf :=
  coexOutputs_wf (radiate_wf (raiseSrc_wf (incW_wf (setB_wf (shareBegin_wf (burstPower_wf (reachNet_wf h)))))))

theorem driverEnable_wf {tx : Fin 2} : (driverEnable tx s).wf := by
  refine ite_wf h ?_
  split
  · exact h
  · refine ite_wf (txEnd_wf h) (ite_wf (ite_wf (holdOp_wf h) h) (ite_wf ?_ (ite_wf (txLateEnd_wf (ite_wf h (planBurst_wf h))) (burstBegin_wf
      (ite_wf h (planBurst_wf h))))))
    split
    · exact ite_wf h (planBurst_wf h)
    · exact holdOp_wf (reachNet_wf (ite_wf h (planBurst_wf h)))

theorem carrierStart_wf {op : Fin 128} : (carrierStart op s).wf := by
  refine ite_wf h (ite_wf (holdOp_wf (settleCarriers_wf (reachNet_wf h))) (ite_wf (ite_wf (txLateEnd_wf (settleCarriers_wf (reachNet_wf h)))
    (radiate_wf (settleCarriers_wf (reachNet_wf h)))) ?_))
  split
  · exact holdOp_wf (settleCarriers_wf (reachNet_wf h))
  · exact ite_wf (txLateEnd_wf (settleCarriers_wf (reachNet_wf h))) (radiate_wf (fixPower_wf (settleCarriers_wf (reachNet_wf h))))

theorem rampDownEnd_wf {tx : Fin 2} : (rampDownEnd tx s).wf :=
  ite_wf h (burstEnd_wf (forAll_wf h (fun _ _ h => finishCarrier_wf (reachClk_wf h))))

theorem txLate_wf {op : Fin 128} : (txLate op s).wf := by
  unfold txLate
  dsimp only
  split
  · exact h
  · exact ite_wf h (ite_wf (txEnd_wf (reachNet_wf h)) (txLateEnd_wf (reachNet_wf h)))

theorem maskEval_wf {op : Fin 128} {bins : List (Int × BitVec 16)} : (maskEval op bins s).wf := by
  refine ite_wf h ?_
  split
  · exact h
  · exact ite_wf h (when_wf (when_wf (setB_wf (ite_wf h (incW_wf (setB_wf h)))) fun _ h => wr_wf h) fun _ h => dropCarrier_wf h)

theorem txpEnWrite_wf {tx : Fin 2} {value : Word} : (txpEnWrite tx value s).wf :=
  ite_wf (when_wf (setB_wf h) fun _ h => setSynState_wf h) (setSynState_wf (setSyn_wf (setB_wf (forAll_wf (abortBurst_wf h) (fun _ _ h =>
    txLeave_wf h)))))

theorem bandLocked_wf {b : Nat} : (bandLocked b s).wf := forAll_wf h fun _ _ h => ite_wf (setPathState_wf h) h

theorem synLock_wf {n : Fin 4} : (synLock n s).wf :=
  ite_wf h (ite_wf (when_wf (lockReached_wf h) fun _ h => bandLocked_wf h) (ite_wf (lockReached_wf h) (ite_wf (hop_wf (forAll_wf
    (lockReached_wf h) (fun _ _ h => opActivate_wf h))) (when_wf (lockReached_wf h) fun _ h => driverEnable_wf h))))

theorem lockLost_wf {n : Fin 4} : (lockLost n s).wf :=
  ite_wf h (ite_wf (forAll_wf (fullCal_wf (pathsHalt_wf (abandonBand_wf (raiseSrc_wf (setB_wf (wr_wf h)))))) (fun _ _ h => ite_wf (setB_wf
    h) h)) (when_wf (cutBurst_wf (setSynState_wf (raiseSrc_wf (setB_wf (wr_wf h))))) fun _ h => hop_wf h))

theorem synCalTimeout_wf {n : Fin 4} : (synCalTimeout n s).wf := by
  refine ite_wf h (ite_wf (setSyn_wf (incW_wf (reachClk_wf h))) (ite_wf (bandJudge_wf (setSynState_wf (setSyn_wf (raiseEvt_wf (setB_wf
    ?_))))) (replan_wf (forAll_wf (setSynState_wf (setSyn_wf (raiseEvt_wf (setB_wf ?_)))) (fun _ _ h => ite_wf (txLeave_wf h) h)))))
  · split
    · exact setEntry_wf (reachClk_wf h)
    · exact reachClk_wf h
  · split
    · exact setEntry_wf (reachClk_wf h)
    · exact reachClk_wf h

theorem synRefreshStart_wf {n : Fin 4} : (synRefreshStart n s).wf := ite_wf h (refreshBegin_wf h)

theorem rasterWrite_wf {n : Fin 4} {isStep : Bool} {value : Word} : (rasterWrite n isStep value s).wf :=
  ite_wf (ite_wf h (ite_wf (setB_wf h) (wr_wf h))) (ite_wf (setB_wf h) (ite_wf (setB_wf h) (setSyn_wf (wr_wf h))))

theorem idleStandby_wf {tx : Fin 2} : (idleStandby tx s).wf := ite_wf h (setSynState_wf h)
theorem opqArm_wf {op : Fin 128} : (opqArm op s).wf := opArmAt_wf h
theorem opCancel_wf {n : Nat} : (opCancel n s).wf := ite_wf h (ite_wf (dropCarrier_wf h) (txEnd_wf h))
theorem opqCancel_wf {op : Fin 128} : (opqCancel op s).wf := opCancel_wf h

theorem hostResWrite_wf {value : Word} : (hostResWrite value s).wf :=
  ite_wf (forAll_wf (wr_wf h) (fun _ _ h => releaseEntry_wf h)) (forAll_wf (wr_wf h) (fun _ _ h => releaseEntry_wf (opCancel_wf h)))

theorem coexGntSample_wf {tx : Fin 2} : (coexGntSample tx s).wf := by
  unfold coexGntSample
  dsimp only
  split
  · exact h
  · exact ite_wf h (ite_wf (coexOutputs_wf (reachNet_wf h)) (ite_wf (setTx_wf (reachNet_wf (coexOutputs_wf (reachNet_wf h)))) (ite_wf
      (holdOp_wf (reachNet_wf (coexOutputs_wf (reachNet_wf h)))) (busyAssess_wf (reachNet_wf (coexOutputs_wf (reachNet_wf h)))))))

theorem coexGntEdge_wf {level : Bool} : (coexGntEdge level s).wf :=
  ite_wf (coexInputs_wf (frame_wf h)) (ite_wf (coexRelease_wf (onlyIf_wf (coexInputs_wf (frame_wf h)) (fun _ h => incW_wf h))) (ite_wf
    (ite_wf (abortBurst_wf (abortBurst_wf (wr_wf (settleCarriers_wf (settleCarriers_wf (setB_wf (setTx_wf (setTx_wf (coexInputs_wf (frame_wf
    h)))))))))) (setB_wf (setTx_wf (setTx_wf (coexInputs_wf (frame_wf h)))))) (setTx_wf (setTx_wf (coexInputs_wf (frame_wf h))))))

theorem holdOwn_wf : (holdOwn s).wf := forAll_wf h fun _ _ h => ite_wf h (forAll_wf h (fun _ _ h => holdOp_wf h))
theorem arbitrate_wf : (arbitrate s).wf := ite_wf (incW_wf h) (ite_wf (grantOut_wf h) (ite_wf (holdOwn_wf (grantOut_wf h)) (incW_wf h)))

theorem coexReqEdge_wf {level pri : Bool} : (coexReqEdge level pri s).wf :=
  ite_wf (coexInputs_wf (frame_wf h)) (ite_wf (arbitrate_wf (coexInputs_wf (frame_wf h))) (coexRelease_wf (grantBack_wf (coexInputs_wf
    (frame_wf h)))))

theorem ownBurstImminent_wf {tx : Fin 2} : (ownBurstImminent tx s).wf := by
  unfold ownBurstImminent
  split
  · exact h
  · exact ite_wf h (ite_wf (reachNet_wf h) (ite_wf (incW_wf (wr_wf (grantBack_wf (reachNet_wf h)))) (ite_wf (grantBack_wf (reachNet_wf h))
      (holdOwn_wf (reachNet_wf h)))))

theorem coexCfgWrite_wf {value : Word} : (coexCfgWrite value s).wf :=
  ite_wf (setB_wf h) (ite_wf (coexOutputs_wf (coexInputs_wf (ite_wf (wr_wf (grantBack_wf h)) (setB_wf (setReqLevel_wf (wr_wf (grantBack_wf
    h))))))) (ite_wf (when_wf (coexInputs_wf (ite_wf (wr_wf (grantBack_wf h)) (setB_wf (setReqLevel_wf (wr_wf (grantBack_wf h))))))
    fun _ h => arbitrate_wf h) (coexRelease_wf (coexInputs_wf (ite_wf (wr_wf (grantBack_wf h)) (setB_wf (setReqLevel_wf (wr_wf (grantBack_wf
    h)))))))))

/-! ### Links (Machine/Links.lean) -/

theorem setPort_wf {p : Nat} {v : MrPort} : (setPort p v s).wf := frame_wf h
theorem setPeer_wf {d : Nat} {v : MrPeer} : (setPeer d v s).wf := frame_wf h

theorem setLstate_wf {p v : Nat} : (setLstate p v s).wf :=
  when_wf (when_wf (setF_wf (setPort_wf h)) fun _ h => setF_wf h) fun _ h => raiseSrc_wf h

theorem topoSync_wf : (topoSync s).wf := setB_wf (setB_wf (wr_wf (wr_wf (setB_wf (setF_wf (setB_wf h))))))
theorem mooringJudge_wf : (mooringJudge s).wf := ite_wf h (ite_wf (sourceQualifies_wf (frame_wf h)) (judgeSources_wf (frame_wf h)))
theorem emit_wf {p cls seq : Nat} {m : MrMsg} : (emit p cls seq m s).wf := incW_wf (frame_wf h)
theorem lineStops_wf {p : Nat} : (lineStops p s).wf := frame_wf (wr_wf (wr_wf h))
theorem setCls_wf {p c : Nat} {v : MrClass} : (setCls p c v s).wf := setPort_wf h
theorem emitRange_wf {p c i j : Nat} : (emitRange p c i j s).wf := forAll_wf h fun _ _ h => emit_wf h
theorem pump_wf {p c : Nat} : (pump p c s).wf := emitRange_wf (setCls_wf h)

theorem queueFrame_wf {p c : Nat} {m : MrMsg} : (queueFrame p c m s).wf :=
  ite_wf (pump_wf (setCls_wf h)) (ite_wf (emit_wf (setPort_wf h)) (ite_wf (incW_wf h) (emit_wf (setPort_wf h))))

theorem broadcast_wf {typ : Nat} {payload : List Byte} : (broadcast typ payload s).wf :=
  forAll_wf (frame_wf h) fun _ _ h => ite_wf (queueFrame_wf h) h

theorem holdFrame_wf {c since : Nat} {m : MrMsg} : (holdFrame c since m s).wf := frame_wf h

theorem routeSince_wf {c since : Nat} {m : MrMsg} : (routeSince c since m s).wf := by
  unfold routeSince
  split
  · exact queueFrame_wf h
  · exact ite_wf (holdFrame_wf h) h

theorem routeFrame_wf {c : Nat} {m : MrMsg} : (routeFrame c m s).wf := routeSince_wf h
theorem sendMr_wf {c typ dst : Nat} {payload : List Byte} : (sendMr c typ dst payload s).wf := routeFrame_wf h
theorem releaseHeld_wf : (releaseHeld s).wf := forAll_wf (frame_wf h) fun _ _ h => routeSince_wf h
theorem reroute_wf {p : Nat} : (reroute p s).wf := forAll_wf (setPort_wf h) fun _ _ h => routeFrame_wf h

theorem askAnswer_wf {dev tag status : Nat} {payload : List Byte} : (askAnswer dev tag status payload s).wf := by
  unfold askAnswer
  split
  · exact h
  · exact ite_wf (completion_wf (frame_wf h)) (frame_wf h)

theorem completeFor_wf {p : Pend} {status : Nat} {payload : List Byte} : (completeFor p status payload s).wf :=
  ite_wf (ite_wf (askAnswer_wf h) (completion_wf h)) (sendMr_wf (frame_wf h))

theorem finishPend_wf {test : Pend → Bool} {status : Nat} {payload : List Byte} : (finishPend test status payload s).wf := by
  unfold finishPend
  split
  · exact h
  · exact completeFor_wf (frame_wf h)

theorem sendLinkEvent_wf {p ev peer : Nat} : (sendLinkEvent p ev peer s).wf := broadcast_wf h
theorem unblock_wf : (unblock s).wf := forAll_wf h fun _ _ h => ite_wf (sendLinkEvent_wf (incW_wf (setLstate_wf h))) h

theorem linkDown_wf {p next : Nat} : (linkDown p next s).wf :=
  ite_wf (setLstate_wf h) (mooringJudge_wf (topoSync_wf (releaseHeld_wf (reroute_wf (sendLinkEvent_wf (when_wf (when_wf (raiseEvt_wf
    (setB_wf (setB_wf (incW_wf (setPort_wf (lineStops_wf (setLstate_wf h))))))) fun _ h => unblock_wf h) fun _ h => setB_wf h))))))

theorem countUncorr_wf {p n : Nat} : (countUncorr p n s).wf := setPort_wf (wr_wf h)
theorem retrainAt_wf {p rate : Nat} : (retrainAt p rate s).wf := setPort_wf (linkDown_wf h)
theorem fallbackJudge_wf {p : Nat} : (fallbackJudge p s).wf := ite_wf (raiseEvt_wf (incF_wf (setB_wf (retrainAt_wf h)))) h
theorem fecCount_wf {f : MFrame} : (fecCount f s).wf := countUncorr_wf (wr_wf h)
theorem mrAcked_wf {p c ack : Nat} : (mrAcked p c ack s).wf := ite_wf h (pump_wf (setCls_wf h))
theorem mrAckOnly_wf {p c : Nat} : (mrAckOnly p c s).wf := emit_wf h
theorem noteSeen_wf {src bseq : Nat} : (noteSeen src bseq s).wf := frame_wf h

theorem forwardOn_wf {f : MFrame} : (forwardOn f s).wf :=
  ite_wf (ite_wf (queueFrame_wf h) h) (ite_wf (queueFrame_wf h) (ite_wf (holdFrame_wf h) (ite_wf (incW_wf h) h)))

theorem mrReceive_wf {f : MFrame} {handle : State → State} (hf : ∀ s, s.wf → (handle s).wf) : (mrReceive f handle s).wf := by
  have counted : ∀ {o}, (incW o (fecCount f s)).wf := incW_wf (fecCount_wf h)
  have acked : ∀ {o p c n}, (if ackedClass c then mrAcked p c n (incW o (fecCount f s)) else incW o (fecCount f s)).wf :=
    when_wf counted fun _ h => mrAcked_wf h
  have taken : ∀ {p c x} {b : Bool} {t : State}, t.wf → (if b then mrAckOnly p c (setCls p c x t) else t).wf :=
    fun h => ite_wf (mrAckOnly_wf (setCls_wf h)) h
  unfold mrReceive
  exact ite_wf h (ite_wf (fallbackJudge_wf counted) (ite_wf acked (ite_wf (mrAckOnly_wf acked)
    (ite_wf (ite_wf (taken acked) (hf _ (ite_wf (taken acked) (forwardOn_wf (noteSeen_wf (taken acked))))))
      (ite_wf (hf _ (taken acked)) (forwardOn_wf (taken acked)))))))

theorem mrRow_wf {cls typ : Nat} {f : MFrame} {handle : State → State} (hf : ∀ s, s.wf → (handle s).wf) :
    (mrRow cls typ f handle s).wf :=
  mrReceive_wf h fun _ h => ite_wf (hf _ h) h

theorem mrRetxTimeout_wf {port : Fin 2} {cls : Fin 5} : (mrRetxTimeout port cls s).wf :=
  ite_wf h (onlyIf_wf (emitRange_wf (wr_wf (setCls_wf (reachClk_wf h)))) (fun _ h => linkDown_wf h))

theorem acknowledgementOnlyFrame_wf {f : MFrame} : (acknowledgementOnlyFrame f s).wf := mrReceive_wf h fun _ h => id_wf h

/-! ### NodeModel (Machine/NodeModel.lean) -/

theorem setRun_wf {n : Nat} {r : NodeRun} : (setRun n r s).wf := frame_wf h
theorem commitCtx_wf {n : Nat} {c : Ctx} : (commitCtx n c s).wf := setCtx_wf h

theorem deliver_wf {addr uflags mtype key fcnt mseq origin : Nat} {record data : List Byte} : (deliver addr uflags mtype key fcnt mseq
    origin record data s).wf :=
  ite_wf (incW_wf (setB_wf h)) (ite_wf (drainUp_wf (frame_wf (frame_wf h))) (incW_wf (setB_wf h)))

/-! ### Nodes (Machine/Nodes.lean) -/

theorem finishTag_wf {opcode tag origin status : Nat} {payload : List Byte} : (finishTag opcode tag origin status payload s).wf :=
  finishPend_wf h

theorem takeTx_wf {use : OpUse} {ch mode pre power owner start : Nat} {desc : List Byte} : (takeTx use ch mode pre power owner start
    desc s).wf := by
  unfold takeTx
  split
  · exact setB_wf (incW_wf h)
  · exact takeEntry_wf (setUse_wf (pktWrite_wf h))

theorem takeWindow_wf {use : OpUse} {ch mode owner opens durUs : Nat} {t : State}
    (e : takeWindow use ch mode owner opens durUs s = some t) : t.wf := by
  obtain ⟨n, -, rfl⟩ := Option.map_eq_some_iff.mp e
  exact takeEntry_wf (setUse_wf h)

theorem counterUpdateOut_wf {n : Nat} : (counterUpdateOut n s).wf := forAll_wf h fun _ _ h => sendMr_wf h
theorem chainKeyMissing_wf : (chainKeyMissing s).wf := raiseEvt_wf h

theorem sendContext_wf {n role dest : Nat} : (sendContext n role dest s).wf := by
  unfold sendContext
  split
  · exact chainKeyMissing_wf h
  · exact sendMr_wf h

theorem carryConn_wf {n : Nat} : (carryConn n s).wf :=
  forAll_wf (unless_wf (counterUpdateOut_wf h) fun _ h => sendContext_wf h) fun _ _ h => sendContext_wf h

theorem reserveCheck_wf {n : Nat} : (reserveCheck n s).wf := ite_wf (counterUpdateOut_wf (setRun_wf h)) h
theorem dlSync_wf {n : Nat} : (dlSync n s).wf := commitCtx_wf h
theorem setHead_wf {n : Nat} {d : Downlink} : (setHead n d s).wf := ite_wf (setRun_wf h) (dlSync_wf (setRun_wf h))

theorem endHead_wf {n status : Nat} : (endHead n status s).wf := by
  unfold endHead
  dsimp only
  split
  · exact h
  · exact finishTag_wf (dlSync_wf (setRun_wf h))

theorem sealHead_wf {n : Nat} : (sealHead n s).wf := by
  unfold sealHead
  split
  · exact h
  · exact ite_wf h (ite_wf (ite_wf (finishTag_wf (setRun_wf h)) (endHead_wf h)) (reserveCheck_wf (setHead_wf (commitCtx_wf h))))

theorem sendHead_wf {n ch start : Nat} : (sendHead n ch start s).wf := by
  refine ite_wf h ?_
  dsimp only
  split
  · exact sealHead_wf h
  · exact takeTx_wf (setRun_wf (sealHead_wf h))

theorem exchange_wf {n : Nat} {r : RxRec} {ackreq : Bool} {aseq : Nat} {event : Bool} : (exchange n r ackreq aseq event s).wf :=
  when_wf (ite_wf (frame_wf h) h) fun _ h => sendHead_wf h

theorem immediateAck_wf : (immediateAck s).wf := by
  unfold immediateAck
  split
  · exact h
  · exact unless_wf (frame_wf h) fun _ h => takeTx_wf h

theorem nextDl_wf {n t : Nat} {more : Bool} : (nextDl n t more s).wf := ite_wf (sendHead_wf h) h

theorem ackMatched_wf {n : Nat} {r : RxRec} : (ackMatched n r s).wf :=
  forAll_wf (setRun_wf h) fun _ _ h => setUse_wf (ite_wf (windowMatch_wf h) h)

theorem dlAcked_wf {n : Nat} {r : RxRec} {t : Nat} : (dlAcked n r t s).wf := by
  unfold dlAcked
  dsimp only
  split
  · exact ackMatched_wf h
  · exact ite_wf (nextDl_wf (finishTag_wf (setRun_wf (ackMatched_wf h)))) (nextDl_wf (endHead_wf (ackMatched_wf h)))

theorem dlNoAck_wf {n : Nat} : (dlNoAck n s).wf := ite_wf h (by split; exacts [h, ite_wf (endHead_wf h) h])
theorem ackMissedBy_wf {n : Nat} {r : RxRec} : (ackMissedBy n r s).wf := ite_wf (dlNoAck_wf (ackMatched_wf h)) h

theorem dlSent_wf {n stamp step : Nat} : (dlSent n stamp step s).wf := by
  unfold dlSent
  split
  · exact h
  · dsimp only
    split
    · next e => exact takeWindow_wf (setRun_wf (setHead_wf h)) e
    · exact setB_wf (incW_wf (setRun_wf (setRun_wf (setHead_wf h))))

theorem dropDl_wf {n tag origin status : Nat} : (dropDl n tag origin status s).wf := by
  unfold dropDl
  dsimp only
  split
  · exact h
  · exact finishTag_wf (dlSync_wf (setRun_wf (ite_wf (forAll_wf h (fun _ _ h => opCancel_wf (setUse_wf h))) h)))

theorem downlinkLifetimeExpiry_wf {tag : BitVec 16} : (downlinkLifetimeExpiry tag s).wf := by
  unfold downlinkLifetimeExpiry
  split
  · exact h
  · exact dropDl_wf (reachClk_wf h)

theorem connInForce_wf {n : Nat} {x : ConnChange} : (connInForce n x s).wf := carryConn_wf (commitCtx_wf (setRun_wf h))

theorem advanceK_wf {n : Nat} : (advanceK n s).wf := by
  unfold advanceK
  dsimp only
  split
  · exact when_wf (setRun_wf (commitCtx_wf h)) fun _ h => connInForce_wf h
  · exact setRun_wf (commitCtx_wf h)

theorem skipPast_wf {n : Nat} : (skipPast n s).wf := ite_wf (commitCtx_wf h) h

theorem nodeEventSchedule_wf {ctx : BitVec 16} : (nodeEventSchedule ctx s).wf := by
  have window : ∀ {use ch mode owner opens dur} {t : State}, t.wf →
      ((takeWindow use ch mode owner opens dur t).getD t).wf := by
    intro use ch mode owner opens dur t ht
    cases e : takeWindow use ch mode owner opens dur t with
    | none => exact ht
    | some u => exact takeWindow_wf ht e
  unfold nodeEventSchedule
  refine ite_wf h ?_
  dsimp only
  split
  · exact ite_wf (sealHead_wf (reachAnch_wf (skipPast_wf h))) (reachAnch_wf (skipPast_wf h))
  · exact forAll_wf (setRun_wf (ite_wf (sealHead_wf (reachAnch_wf (skipPast_wf h))) (reachAnch_wf (skipPast_wf h))))
      fun _ _ h => window h

theorem opqFull_wf {ctx : BitVec 16} : (opqFull ctx s).wf := ite_wf h (setB_wf (incW_wf (setRun_wf (reachAnch_wf h))))

theorem windowMissed_wf {n : Nat} : (windowMissed n s).wf :=
  ite_wf (incW_wf (broadcast_wf (setRun_wf (advanceK_wf (commitCtx_wf h))))) (advanceK_wf (commitCtx_wf h))

theorem matchWindows_wf {n : Nat} {r : RxRec} : (matchWindows n r s).wf :=
  forAll_wf h fun _ _ h => ite_wf (setUse_wf h) (ite_wf (windowMatch_wf (opActivate_wf (setUse_wf h))) (opAbort_wf (setUse_wf h)))

theorem supervisionTimeout_wf {ctx : BitVec 16} : (supervisionTimeout ctx s).wf :=
  ite_wf h (raiseEvt_wf (commitCtx_wf (forAll_wf (setRun_wf (reachNet_wf h)) (fun _ _ h => opCancel_wf (setUse_wf h)))))

theorem heardNow_wf {n : Nat} : (heardNow n s).wf := when_wf (setCtx_wf h) fun _ h => raiseEvt_wf h
theorem touch_wf {n : Nat} {r : RxRec} : (touch n r s).wf := heardNow_wf (setRun_wf (setCtx_wf h))
theorem observe_wf {n j : Nat} {sObs : Int} {temp : Option Int} : (observe n j sObs temp s).wf := setRun_wf (setCtx_wf h)

theorem outOfWindow_wf {n : Nat} {r : RxRec} {sObs : Int} {temp : Option Int} : (outOfWindow n r sObs temp s).wf :=
  ite_wf (observe_wf (logWrite_wf (setCtx_wf h))) (ite_wf (forAll_wf (setRun_wf (setCtx_wf (setRun_wf (logWrite_wf (setCtx_wf h)))))
    (fun _ _ h => opCancel_wf (setUse_wf h))) (setCtx_wf (setRun_wf (logWrite_wf (setCtx_wf h)))))

theorem gridFrame_wf {n : Nat} {r : RxRec} {hit : Option Nat} {temp : Option Int} : (gridFrame n r hit temp s).wf := by
  unfold gridFrame
  split
  · exact observe_wf h
  · exact outOfWindow_wf h

theorem connSettle_wf {n ch k : Nat} : (connSettle n ch k s).wf := by
  unfold connSettle
  split
  · exact h
  · exact ite_wf (finishTag_wf (connInForce_wf h)) (finishTag_wf (setRun_wf h))

theorem commitFcnt_wf {n f : Nat} : (commitFcnt n f s).wf :=
  ite_wf h (when_wf (counterUpdateOut_wf (commitCtx_wf h)) fun _ h => raiseEvt_wf h)

theorem innerOut_wf {w : MicWait} {origin : Nat} {payload : List Byte} : (innerOut w origin payload s).wf := by
  unfold innerOut
  split
  · exact incW_wf h
  · exact ite_wf (incW_wf h) (ite_wf (incW_wf h) (by split; exacts [incW_wf h, ite_wf (incW_wf h) (frame_wf h)]))

theorem acceptFrame_wf {n : Nat} {w : MicWait} {f : MacFrame} {payload : List Byte} {late : Bool} : (acceptFrame n w f payload late s).wf := by
  unfold acceptFrame
  extract_lets r home hit grid oow k s1 s2 s3 event ack sent s4 s5 s6
  have h1 : s1.wf := touch_wf (commitFcnt_wf h)
  have h2 : s2.wf := ite_wf (connSettle_wf h1) h1
  have h3 : s3.wf := ite_wf (gridFrame_wf h2) h2
  have h4 : s4.wf := ite_wf (advanceK_wf (matchWindows_wf h3)) h3
  have h5 : s5.wf := ite_wf (innerOut_wf h4) (ite_wf (deliver_wf h4) h4)
  have h6 : s6.wf := ite_wf h5 (ite_wf (dlAcked_wf h5) (ackMissedBy_wf h5))
  exact ite_wf (exchange_wf h6) h6

theorem micNode_wf {n : Nat} {w : MicWait} {f : MacFrame} {payload : List Byte} : (micNode n w f payload s).wf := by
  unfold micNode
  split
  · exact acceptFrame_wf h
  · exact acceptFrame_wf h
  · exact when_wf (incW_wf h) fun _ h => exchange_wf h
  · exact incW_wf h

theorem micInner_wf {n : Nat} {w : MicWait} {g : MacFrame} {payload : List Byte} : (micInner n w g payload s).wf := by
  unfold micInner
  split
  · exact incW_wf h
  · exact incW_wf h
  · exact when_wf (heardNow_wf (commitFcnt_wf h)) fun _ h => deliver_wf h

theorem joinRespond_wf {w : JoinWait} {r : RxRec} {f : MacFrame} : (joinRespond w r f s).wf :=
  ite_wf h (takeTx_wf (frame_wf (setRun_wf (bumpFcnt_wf (commitCtx_wf h)))))

theorem joinReport_wf {eui dev : Nat} {margin : Int} : (joinReport eui dev margin s).wf := frame_wf h

theorem micJoin_wf {w : MicWait} {f : MacFrame} {payload : List Byte} : (micJoin w f payload s).wf := by
  unfold micJoin
  dsimp only
  split
  · exact joinRespond_wf (broadcast_wf (frame_wf (joinReport_wf h)))
  · exact broadcast_wf (frame_wf (joinReport_wf h))

theorem joinSeen_wf {f : MFrame} : (joinSeen f s).wf := mrRow_wf h fun _ h => joinReport_wf h

theorem joinElection_wf {eui : BitVec 64} : (joinElection eui s).wf := by
  unfold joinElection
  split
  · exact h
  · split
    · exact frame_wf (frame_wf (reachClk_wf h))
    · refine ite_wf (frame_wf (frame_wf (reachClk_wf h))) ?_
      split
      · exact frame_wf (frame_wf (reachClk_wf h))
      · exact deliver_wf (frame_wf (frame_wf (reachClk_wf h)))

theorem applyUpstream_wf {r : RxRec} {payload : List Byte} : (applyUpstream r payload s).wf :=
  ite_wf (setB_wf (shadowPut_wf (incF_wf (setF_wf (setF_wf (frame_wf h)))) (by decide))) (stepTo_wf (wr_wf (incF_wf (setF_wf (setF_wf
    (frame_wf h))))) (fun _ h => hostStepped_wf h))

theorem upstreamLighthouse_wf {r : RxRec} {payload : List Byte} : (upstreamLighthouse r payload s).wf := frame_wf h

theorem upstreamBeaconMissed_wf : (upstreamBeaconMissed s).wf :=
  ite_wf h (ite_wf (setF_wf (frame_wf (reachNet_wf h))) (raiseEvt_wf (setF_wf (setB_wf (setF_wf (frame_wf (reachNet_wf h)))))))

theorem relayCfgWrite_wf {value : Word} : (relayCfgWrite value s).wf :=
  ite_wf (setB_wf h) (ite_wf (ite_wf (setB_wf (servoOff_wf (wr_wf h))) (setF_wf (setF_wf (setB_wf (servoOff_wf (wr_wf h)))))) (setF_wf
    (setF_wf (wr_wf h))))

theorem slotCfgWrite_wf {value : Word} : (slotCfgWrite value s).wf := ite_wf (setB_wf h) (ite_wf (setB_wf h) (wr_wf (frame_wf h)))

theorem micOne_wf : (micOne s).wf := by
  unfold micOne
  dsimp only
  split
  · exact h
  · split
    · exact frame_wf h
    · split
      · exact countCompletion_wf (frame_wf h)
      · split
        · exact countCompletion_wf (frame_wf h)
        · split
          · exact micNode_wf (countCompletion_wf (frame_wf h))
          · exact micInner_wf (countCompletion_wf (frame_wf h))
          · exact micJoin_wf (countCompletion_wf (frame_wf h))
          · exact applyUpstream_wf (countCompletion_wf (frame_wf h))

theorem hear_wf {addr mode : Nat} {margin : Int} : (hear addr mode margin s).wf := frame_wf h

theorem keepForRescue_wf {r : RxRec} : (keepForRescue r s).wf := by
  unfold keepForRescue
  dsimp only
  split
  · exact unless_wf (forAll_wf h (fun _ _ h => setRun_wf h)) fun _ h => setRun_wf h
  · exact forAll_wf h fun _ _ h => setRun_wf h

theorem keepAlive_wf {n k : Nat} {r : RxRec} : (keepAlive n k r s).wf := by
  unfold keepAlive
  dsimp only
  exact ite_wf (exchange_wf (advanceK_wf (matchWindows_wf (gridFrame_wf (connSettle_wf (touch_wf h)))))) (gridFrame_wf (connSettle_wf
    (touch_wf h)))

theorem presence_wf {r : RxRec} : (presence r s).wf :=
  ite_wf (by split; exacts [dlAcked_wf (touch_wf h), incW_wf h]) (by split; exacts [keepAlive_wf h, incW_wf h])

theorem micPush_wf {r : RxRec} {kind : MicKind} {rescued : Option Nat} : (micPush r kind rescued s).wf := frame_wf h

theorem intakeMac_wf {r : RxRec} {rescued : Option Nat} : (intakeMac r rescued s).wf := by
  unfold intakeMac
  split
  · exact incW_wf h
  · refine ite_wf (incW_wf h) (ite_wf (incW_wf h) (ite_wf (ite_wf (incW_wf h) (micPush_wf h)) ?_))
    split
    · exact hear_wf (incW_wf h)
    · exact ite_wf (incW_wf h) (ite_wf (incW_wf h) (micPush_wf h))

theorem intakeForeign_wf {r : RxRec} : (intakeForeign r s).wf := by
  unfold intakeForeign
  split
  · exact incW_wf h
  · exact ite_wf (ite_wf (upstreamLighthouse_wf h) (ite_wf (micPush_wf h) (incW_wf h))) (incW_wf h)

theorem intakeOk_wf {r : RxRec} {rescued : Option Nat} : (intakeOk r rescued s).wf :=
  ite_wf (intakeForeign_wf h) (ite_wf (presence_wf h) (intakeMac_wf h))

theorem joinDone_wf {tag : Nat} : (joinDone tag s).wf := by
  unfold joinDone
  split
  · exact h
  · exact finishPend_wf (frame_wf h)

theorem useDone_wf {e : Nat} : (useDone e s).wf := by
  unfold useDone
  split
  · exact ite_wf (ite_wf (windowMissed_wf (setUse_wf h)) (advanceK_wf (setUse_wf h))) (setUse_wf h)
  · exact unless_wf (setUse_wf h) fun _ h => dlNoAck_wf h
  · exact when_wf (setUse_wf h) fun _ h => dlSent_wf h
  · exact ite_wf (joinDone_wf (setUse_wf h)) (frame_wf (setUse_wf h))
  · exact finishPend_wf (setUse_wf h)
  · exact setUse_wf h

theorem internalMissed_wf : (internalMissed s).wf :=
  forAll_wf (forAll_wf h (fun _ _ h => windowMissed_wf h)) fun _ _ h => dlNoAck_wf (setRun_wf h)

theorem settle_wf : (settle s).wf :=
  coexOutputs_wf (internalMissed_wf (forAll_wf (forAll_wf h (fun _ _ h => windowJudge_wf h)) (fun _ _ h => ite_wf (useDone_wf h) h)))

theorem opqNidWrite_wf {value : Word} : (opqNidWrite value s).wf :=
  ite_wf (setB_wf h) (ite_wf (wr_wf h) (settle_wf (forAll_wf (wr_wf h) (fun _ _ h => opCancel_wf h))))

theorem opqRelease_wf {op : Fin 128} : (opqRelease op s).wf := ite_wf (releaseEntry_wf (setUse_wf (settle_wf h))) (settle_wf h)
theorem hostMatch_wf {r : RxRec} : (hostMatch r s).wf := ite_wf h (forAll_wf h (fun _ _ h => windowMatch_wf h))

theorem recorded_wf {before : Nat} : (recorded before s).wf := by
  unfold recorded
  split
  · exact settle_wf h
  · exact ite_wf (settle_wf (presence_wf (frame_wf (hostMatch_wf h)))) (settle_wf (hostMatch_wf h))

theorem recordIntake_wf : (recordIntake s).wf := by
  unfold recordIntake
  split
  · exact h
  · exact settle_wf (when_wf (ite_wf (frame_wf (frame_wf h)) (keepForRescue_wf (frame_wf h))) fun _ h => intakeOk_wf h)

theorem micResult_wf : (micResult s).wf := settle_wf (micOne_wf h)

theorem nodeAddWaitExpiry_wf {tag : BitVec 16} : (nodeAddWaitExpiry tag s).wf := by
  unfold nodeAddWaitExpiry
  split
  · exact h
  · split
    · exact h
    · exact finishPend_wf (setCtx_wf (setRun_wf (unless_wf (frame_wf (reachClk_wf h)) fun _ h => sendMr_wf h)))

/-! ### Placement (Machine/Placement.lean) -/

theorem releaseCopy_wf {n dest : Nat} : (releaseCopy n dest s).wf := sendMr_wf h
theorem noReplica_wf {n : Nat} : (noReplica n s).wf := raiseEvt_wf (setB_wf (commitCtx_wf h))

theorem makeReplica_wf {n : Nat} {holders : List Nat} : (makeReplica n holders s).wf := by
  refine ite_wf (commitCtx_wf h) ?_
  split
  · exact noReplica_wf h
  · exact ite_wf (chainKeyMissing_wf (noReplica_wf h)) (sendContext_wf (setRun_wf (commitCtx_wf h)))

theorem makeMissing_wf : (makeMissing s).wf := ite_wf h (forAll_wf h (fun _ _ h => makeReplica_wf h))
theorem freeCtx_wf {n : Nat} : (freeCtx n s).wf := setCtx_wf (setRun_wf (forAll_wf h (fun _ _ h => opCancel_wf (setUse_wf h))))
theorem joinChoose_wf : (joinChoose s).wf := setF_wf h

theorem rebalance_wf {loads : List Nat} {src : Nat} : (rebalance loads src s).wf := by
  unfold rebalance
  split
  · exact h
  · exact raiseEvt_wf (onlyIf_wf (frame_wf (setF_wf h)) (fun _ h => setB_wf h))

theorem loadWindow_wf {loads : List Byte} : (loadWindow loads s).wf :=
  ite_wf (forAll_wf (frame_wf (reachClk_wf h)) (fun _ _ h => wr_wf (frame_wf h))) (forAll_wf (forAll_wf (frame_wf (reachClk_wf h))
    (fun _ _ h => wr_wf (frame_wf h))) (fun _ _ h => rebalance_wf h))

theorem moveOver_wf {n dest : Nat} : (moveOver n dest s).wf := onlyIf_wf (frame_wf h) fun _ h => setB_wf h

theorem contextMove_wf {ctx : BitVec 16} {dest : Fin 16} : (contextMove ctx dest s).wf :=
  ite_wf h (ite_wf (ite_wf (moveOver_wf h) h) (incW_wf (forAll_wf (setCtx_wf (moveOver_wf h)) (fun _ _ h => setF_wf h))))

theorem marginPeriod_wf : (marginPeriod s).wf :=
  broadcast_wf (frame_wf (forAll_wf (forAll_wf (frame_wf (reachClk_wf h)) (fun _ _ h => forAll_wf h (fun _ _ h => sendMr_wf h)))
    (fun _ _ h => setRun_wf h)))

theorem handDecide_wf {n : Nat} : (handDecide n s).wf := ite_wf (ite_wf (chainKeyMissing_wf h) (setRun_wf h)) h
theorem addGuest_wf {n d : Nat} : (addGuest n d s).wf := setRun_wf h

theorem marginReport_wf {f : MFrame} : (marginReport f s).wf := by
  refine mrRow_wf h fun _ h => forAll_wf h (fun _ _ h => ?_)
  split
  · exact h
  · exact ite_wf h (handDecide_wf (commitCtx_wf (ite_wf h (addGuest_wf h))))

theorem heardTable_wf {f : MFrame} : (heardTable f s).wf := by
  refine mrRow_wf h fun _ h => forAll_wf h (fun _ _ h => ?_)
  split
  · exact h
  · exact ite_wf h (ite_wf (chainKeyMissing_wf h) (sendContext_wf (addGuest_wf h)))

theorem sendDownlinks_wf {n dest : Nat} : (sendDownlinks n dest s).wf := forAll_wf h fun _ _ h => sendMr_wf h
theorem unpark_wf {n : Nat} : (unpark n s).wf := frame_wf h

theorem connHanded_wf {n : Nat} : (connHanded n s).wf := by
  unfold connHanded
  split
  · exact h
  · exact ite_wf (connInForce_wf h) (finishTag_wf (setRun_wf h))

theorem finalSend_wf {ctx : BitVec 16} : (finalSend ctx s).wf := by
  unfold finalSend
  dsimp only
  split
  · exact h
  · exact ite_wf h (sendDownlinks_wf (sendMr_wf (sendContext_wf (setRun_wf (commitCtx_wf (connHanded_wf h))))))

theorem finalReply_wf {typ addr gen dest : Nat} : (finalReply typ addr gen dest s).wf := sendMr_wf h
theorem tellHolders_wf {n : Nat} : (tellHolders n s).wf := forAll_wf h fun _ _ h => sendMr_wf h
theorem keepFinal_wf {addr k gen src : Nat} : (keepFinal addr k gen src s).wf := frame_wf h
theorem dropFinal_wf {addr : Nat} : (dropFinal addr s).wf := frame_wf h

theorem commitFinal_wf {n k gen src : Nat} : (commitFinal n k gen src s).wf :=
  tellHolders_wf (ite_wf (commitCtx_wf (finalReply_wf (setRun_wf (raiseEvt_wf (incW_wf (commitCtx_wf (dropFinal_wf h))))))) (makeReplica_wf
    (finalReply_wf (setRun_wf (raiseEvt_wf (incW_wf (commitCtx_wf (dropFinal_wf h))))))))

theorem finalFrame_wf {f : MFrame} : (finalFrame f s).wf := by
  refine mrRow_wf h fun _ h => ?_
  dsimp only
  split
  · exact keepFinal_wf h
  · exact ite_wf (finalReply_wf h) (ite_wf (keepFinal_wf h) (commitFinal_wf h))

theorem finalDue_wf {addr : Nat} : (finalDue addr s).wf := by
  unfold finalDue
  split
  · exact ite_wf (commitFinal_wf h) h
  · exact h

theorem movePends_wf {n dest : Nat} : (movePends n dest s).wf := frame_wf h

theorem finalAck_wf {f : MFrame} : (finalAck f s).wf := by
  refine mrRow_wf h fun _ h => ?_
  dsimp only
  split
  · exact h
  · split
    · exact h
    · exact ite_wf h (unpark_wf (ite_wf (setCtx_wf (setRun_wf (movePends_wf (setRun_wf (when_wf (incW_wf h) fun _ h => releaseCopy_wf h)))))
        (setCtx_wf (movePends_wf (setRun_wf (when_wf (incW_wf h) fun _ h => releaseCopy_wf h))))))

theorem finalAckTimeout_wf {ctx : BitVec 16} : (finalAckTimeout ctx s).wf := by
  unfold finalAckTimeout
  dsimp only
  split
  · exact h
  · exact ite_wf (sendMr_wf (reachClk_wf h)) h

theorem finalQuery_wf {f : MFrame} : (finalQuery f s).wf := mrRow_wf h fun _ h => finalReply_wf (dropFinal_wf h)

theorem finalNak_wf {f : MFrame} : (finalNak f s).wf :=
  mrRow_wf h fun _ h => (by split; exacts [h, (by split; exacts [h, ite_wf h (unpark_wf (commitCtx_wf (setRun_wf h)))])])

theorem yieldTo_wf {n dest : Nat} : (yieldTo n dest s).wf :=
  setCtx_wf (movePends_wf (setRun_wf (forAll_wf (sendDownlinks_wf h) (fun _ _ h => opCancel_wf (setUse_wf h)))))

theorem counterUpdate_wf {f : MFrame} : (counterUpdate f s).wf :=
  mrRow_wf h fun _ h => (by split; exacts [h, ite_wf (ite_wf (yieldTo_wf h) h) (setCtx_wf h)])

theorem replicaPromote_wf {dev : Fin 16} : (replicaPromote dev s).wf :=
  ite_wf h (ite_wf h (raiseEvt_wf (forAll_wf (reachClk_wf h) (fun _ _ h => tellHolders_wf (makeReplica_wf (setRun_wf (setCtx_wf h)))))))

theorem guestAgeExpiry_wf {ctx : BitVec 16} : (guestAgeExpiry ctx s).wf := ite_wf h (freeCtx_wf (reachNet_wf h))
theorem frdLookup_wf {value : Word} : (frdLookup value s).wf := wr_wf h

theorem storeCtx_wf {n role : Nat} {c : Ctx} {key : List Byte} : (storeCtx n role c key s).wf :=
  when_wf (setRun_wf (setCtx_wf (frame_wf h))) fun _ h => setRun_wf h

theorem refuseReplica_wf {c : Ctx} {dest : Nat} : (refuseReplica c dest s).wf := sendMr_wf (raiseEvt_wf (setB_wf h))

theorem takeRelease_wf {src addr : Nat} : (takeRelease src addr s).wf := by
  unfold takeRelease
  split
  · exact h
  · exact ite_wf (freeCtx_wf h) (ite_wf (commitCtx_wf h) h)

theorem placeCtx_wf {src role : Nat} {c : Ctx} {key : List Byte} : (placeCtx src role c key s).wf := by
  refine finalDue_wf ?_
  dsimp only
  split
  · exact ite_wf (ite_wf (yieldTo_wf h) h) (ite_wf (freeCtx_wf h) (ite_wf (setCtx_wf h) (storeCtx_wf h)))
  · split
    · exact storeCtx_wf (setRun_wf h)
    · exact ite_wf (refuseReplica_wf h) h

theorem downlinkFrame_wf {f : MFrame} : (downlinkFrame f s).wf :=
  mrRow_wf h fun _ h => (by split; exacts [h, dlSync_wf (setRun_wf (frame_wf h))])

theorem sendCopy_wf {addr k dest : Nat} {r : RxRec} : (sendCopy addr k dest r s).wf := incW_wf (forAll_wf h (fun _ _ h => sendMr_wf h))

theorem rescueWant_wf {f : MFrame} : (rescueWant f s).wf := by
  refine mrRow_wf h fun _ h => ?_
  dsimp only
  split
  · exact h
  · exact ite_wf h (forAll_wf h (fun _ _ h => sendCopy_wf h))

theorem takeCopy_wf {n dev : Nat} {r : RxRec} : (takeCopy n dev r s).wf := by
  unfold takeCopy
  dsimp only
  split
  · exact incW_wf h
  · exact ite_wf (incW_wf h) (ite_wf h (by split; exacts [setRun_wf h, intakeOk_wf (incW_wf (setRun_wf h))]))

theorem rescueCopy_wf {f : MFrame} : (rescueCopy f s).wf := by
  refine settle_wf (mrRow_wf h (fun _ h => ?_))
  split
  · exact h
  · split
    · exact ite_wf (incW_wf h) h
    · exact ite_wf (ite_wf (incW_wf h) h) (ite_wf (takeCopy_wf (setRun_wf h)) (setRun_wf h))

theorem rescueWaitExpiry_wf {addr : BitVec 24} : (rescueWaitExpiry addr s).wf := by
  unfold rescueWaitExpiry
  split
  · exact h
  · split
    · exact h
    · exact setRun_wf (reachClk_wf h)

theorem rescueHoldExpiry_wf {addr : BitVec 24} {k : Word} : (rescueHoldExpiry addr k s).wf := by
  unfold rescueHoldExpiry
  split
  · exact h
  · exact setRun_wf (forAll_wf h (fun _ _ h => reachAnch_wf h))

/-! ### Mooring (Machine/Mooring.lean) -/

theorem ringJudge_wf : (ringJudge s).wf :=
  ite_wf h (by split; exacts [h, ite_wf (setLstate_wf (setB_wf h)) (when_wf (setB_wf h) fun _ h => setLstate_wf h)])

theorem trainFails_wf {p phase : Nat} : (trainFails p phase s).wf := raiseEvt_wf (setPort_wf (setB_wf (setF_wf h)))
theorem linkPulseDetect_wf {port : Fin 2} : (linkPulseDetect port s).wf := ite_wf h (setLstate_wf (setPort_wf (incF_wf h)))

theorem settlePort_wf {p : Nat} : (settlePort p s).wf := by
  refine ite_wf (raiseEvt_wf (setB_wf (setLstate_wf h))) (ite_wf (raiseEvt_wf (setB_wf (setLstate_wf h))) (makeMissing_wf (mooringJudge_wf
    (topoSync_wf (releaseHeld_wf (sendLinkEvent_wf (raiseEvt_wf (ite_wf (setB_wf (setLstate_wf (when_wf (setPeer_wf (setB_wf h)) fun _ h =>
    setB_wf h))) (ite_wf ?_ (setLstate_wf (when_wf (setPeer_wf (setB_wf h)) fun _ h => setB_wf h)))))))))))
  split
  · exact setLstate_wf (when_wf (setPeer_wf (setB_wf h)) fun _ h => setB_wf h)
  · exact ite_wf (setLstate_wf (when_wf (setPeer_wf (setB_wf h)) fun _ h => setB_wf h)) (ite_wf (setLstate_wf (setLstate_wf (when_wf
      (setPeer_wf (setB_wf h)) fun _ h => setB_wf h))) (setLstate_wf (when_wf (setPeer_wf (setB_wf h)) fun _ h => setB_wf h)))

theorem trialEnd_wf {p : Nat} {snr : BitVec 16} : (trialEnd p snr s).wf :=
  ite_wf (trainFails_wf (setF_wf (reachClk_wf h))) (ite_wf (setLstate_wf (setF_wf (reachClk_wf h))) (ite_wf (setLstate_wf (setPort_wf
    (setF_wf (reachClk_wf h)))) (trainFails_wf (setF_wf (reachClk_wf h)))))

theorem trainPhaseEnd_wf {port : Fin 2} {info : TrainInfo} : (trainPhaseEnd port info s).wf :=
  ite_wf h (ite_wf (trainFails_wf h) (ite_wf (when_wf (setF_wf h) fun _ h => setLstate_wf h) (ite_wf (trialEnd_wf h) (ite_wf (ite_wf
    (trainFails_wf h) (setLstate_wf (setF_wf h))) (ite_wf (setLstate_wf (setPort_wf h)) (ite_wf (setLstate_wf (setPort_wf (wr_wf h)))
    (settlePort_wf h)))))))

theorem trainFail_wf {port : Fin 2} : (trainFail port s).wf := ite_wf (trainFails_wf (reachClk_wf h)) h
theorem trainRetryWait_wf {port : Fin 2} : (trainRetryWait port s).wf := ite_wf (setLstate_wf (setPort_wf (drawFree_wf (reachClk_wf h)))) h
theorem codewordLockLost_wf {port : Fin 2} : (codewordLockLost port s).wf := ite_wf (linkDown_wf (countUncorr_wf h)) h
theorem fallback_wf {port : Fin 2} : (fallback port s).wf := ite_wf (fallbackJudge_wf (countUncorr_wf h)) h
theorem rateUpHoldExpiry_wf {port : Fin 2} : (rateUpHoldExpiry port s).wf := ite_wf (retrainAt_wf (reachClk_wf h)) h

theorem portDisable_wf {p : Nat} {v : Word} : (portDisable p v s).wf :=
  ite_wf (setPort_wf (linkDown_wf (wr_wf h))) (when_wf (wr_wf h) fun _ h => setLstate_wf h)

theorem mrPortDisable_wf {port : Fin 2} {value : Word} : (mrPortDisable port value s).wf := guardTwinR_wf h fun _ _ _ h => portDisable_wf h
theorem loopApplied_wf {p : Nat} : (loopApplied p s).wf := ite_wf (ite_wf h (linkDown_wf h)) (ite_wf (setLstate_wf h) h)
theorem portApply_wf {p : Nat} : (portApply p s).wf := applyRun_wf h fun _ h => loopApplied_wf h
theorem helloDue_wf : (helloDue s).wf := frame_wf (by split; exacts [reachClk_wf h, h])
theorem helloSend_wf : (helloSend s).wf := broadcast_wf (helloDue_wf h)
theorem topoChanged_wf : (topoChanged s).wf := mooringJudge_wf (topoSync_wf (releaseHeld_wf (ringJudge_wf h)))

theorem hello_wf {f : MFrame} : (hello f s).wf :=
  mrRow_wf h fun _ h => ite_wf h (ite_wf (unless_wf (setPort_wf (wr_wf h)) fun _ h => settlePort_wf h) (ite_wf h (topoChanged_wf (when_wf
    (when_wf (setPeer_wf h) fun _ h => setB_wf h) fun _ h => setB_wf h))))

theorem helloMiss_wf {dev : Fin 16} : (helloMiss dev s).wf :=
  ite_wf h (mooringJudge_wf (topoSync_wf (forAll_wf (setPeer_wf (setB_wf (reachClk_wf h))) (fun _ _ h => ite_wf (linkDown_wf h) h))))

theorem linkEvent_wf {f : MFrame} : (linkEvent f s).wf :=
  mrRow_wf h fun _ h => mooringJudge_wf (topoSync_wf (releaseHeld_wf (ite_wf (ite_wf (unblock_wf (setB_wf (setPeer_wf h))) (setPeer_wf h))
    (when_wf (setPeer_wf h) fun _ h => setB_wf h))))

theorem unreachableDrop_wf {dev : Fin 16} : (unreachableDrop dev s).wf :=
  ite_wf h (by split; exacts [h, forAll_wf (frame_wf (reachClk_wf h)) (fun _ _ h => ite_wf (askAnswer_wf h) h)])

theorem mrChainCfgWrite_wf {value : Word} : (mrChainCfgWrite value s).wf :=
  ite_wf (setB_wf h) (topoSync_wf (wr_wf (setF_wf (frame_wf (wr_wf h)))))

theorem markDue_wf {p : Nat} : (markDue p s).wf := by
  unfold markDue
  split
  · exact reachClk_wf h
  · exact h

theorem tmarkSend_wf {port : Fin 2} : (tmarkSend port s).wf := ite_wf h (queueFrame_wf (setPort_wf (markDue_wf h)))
theorem exchangeBad_wf {p : Nat} : (exchangeBad p s).wf := ite_wf (mooringJudge_wf (setB_wf (setPort_wf h))) (setPort_wf h)

theorem exchangeDone_wf {p : Nat} {a b : Int} {acc : Nat} : (exchangeDone p a b acc s).wf :=
  ite_wf (exchangeBad_wf (incW_wf h)) (ite_wf (ite_wf (trackSource_wf (frame_wf (frame_wf (when_wf (setPort_wf (wr_wf (wr_wf h))) fun _ h =>
    setB_wf h)))) (mooringJudge_wf (frame_wf (when_wf (setPort_wf (wr_wf (wr_wf h))) fun _ h => setB_wf h)))) (when_wf (setPort_wf (wr_wf
    (wr_wf h))) fun _ h => setB_wf h))

theorem timeSync_wf {f : MFrame} {arrival : Nat} : (timeSync f arrival s).wf := by
  refine mrRow_wf h fun _ h => ite_wf h ?_
  dsimp only
  split
  · exact setPort_wf h
  · exact exchangeDone_wf (setPort_wf h)

theorem timeExchangeMissing_wf {port : Fin 2} : (timeExchangeMissing port s).wf := ite_wf (exchangeBad_wf h) h

/-! ### Rhizome (Machine/Rhizome.lean) -/

theorem chanApplied_wf {ch : Nat} : (chanApplied ch s).wf := setB_wf h
theorem chanApply_wf {ch : Nat} : (chanApply ch s).wf := ite_wf (applyRun_wf h (fun _ h => chanApplied_wf h)) h

theorem applyBoundary_wf {u : ApplyUnit} : (applyBoundary u s).wf := by
  unfold applyBoundary
  split
  · exact chanApply_wf h
  · exact txApply_wf h
  · exact settle_wf (opApply_wf h)
  · exact ite_wf (stepApply_wf (reachNet_wf h)) h
  · exact ite_wf (ntbSecond_wf h) h
  · exact lampApply_wf h
  · exact portApply_wf h

theorem applyHoldWrite_wf {u : ApplyUnit} {hold : Bool} : (applyHoldWrite u hold s).wf := setB_wf h
theorem applyDiscard_wf {u : ApplyUnit} : (applyDiscard u s).wf := applyDrop_wf h
theorem raiseAt_wf {src c : Nat} : (raiseAt src c s).wf := frame_wf h
theorem countFire_wf {ch : Nat} : (countFire ch s).wf := onlyIf_wf (incF_wf h) fun _ h => incSat_wf h
theorem evcFires_wf {ch c : Nat} : (evcFires ch c s).wf := when_wf (countFire_wf (frame_wf h)) fun _ h => raiseAt_wf h

theorem evcFire_wf {ch : Fin 96} : (evcFire ch s).wf := by
  unfold evcFire
  split
  · exact h
  · exact ite_wf (evcFires_wf (reachClk_wf (frame_wf h))) (incSat_wf (reachClk_wf (frame_wf h)))

theorem evcDue_wf {ch : Fin 96} : (evcDue ch s).wf := forAll_wf h fun _ _ h => evcFire_wf h
theorem tskSet_wf {base t : Nat} : (tskSet base t s).wf := setB_wf h
theorem opTrigger_wf {n : Nat} : (opTrigger n s).wf := opArmAt_wf h
theorem timestampLatch_wf {n : Nat} : (timestampLatch n s).wf := setB_wf (wr_wf (frame_wf (onlyIf_wf h (fun _ h => setB_wf h))))

theorem taskAct_wf {t : Nat} : (taskAct t s).wf :=
  ite_wf (opTrigger_wf h) (ite_wf (lampTrigger_wf h) (ite_wf (capStore_wf h) (ite_wf (abortBurst_wf h) (ite_wf (setB_wf h) (ite_wf (ite_wf
    (frame_wf h) h) (ite_wf (forAll_wf h (fun _ _ h => latchStats_wf h)) (ite_wf h (ite_wf (timestampLatch_wf h) (ite_wf (setB_wf h) (ite_wf
    (ite_wf h (setB_wf h)) (ite_wf (setB_wf (frame_wf h)) h)))))))))))

theorem laterSources_wf {before : Nat} : (laterSources before s).wf := frame_wf h

theorem taskDelivery_wf {t : Fin 192} : (taskDelivery t s).wf := by
  unfold taskDelivery
  split
  · exact h
  · exact ite_wf (tskSet_wf (when_wf (reachClk_wf (frame_wf h)) fun _ h => tskSet_wf h)) (settle_wf (laterSources_wf (taskAct_wf (when_wf
      (reachClk_wf (frame_wf h)) fun _ h => tskSet_wf h))))

theorem rhizomeNotify_wf {n : Fin 4} : (rhizomeNotify n s).wf := by
  unfold rhizomeNotify
  split
  · exact h
  · exact raiseEvtAt_wf (frame_wf h)

theorem evfSwtrig_wf {value : Word} : (evfSwtrig value s).wf := forAll_wf (clocks_wf h) fun _ _ h => raiseSrc_wf h
theorem evfSwgateWrite_wf {value : Word} : (evfSwgateWrite value s).wf := wr_wf h
theorem evcWrite_wf {ch o : Nat} {value : Word} : (evcWrite ch o value s).wf := wr_wf (evcDue_wf h)

theorem evfCountClr_wf {value : Word} : (evfCountClr value s).wf :=
  ite_wf (forAll_wf h (fun _ _ h => wr_wf (evcDue_wf h))) (ite_wf (wr_wf (evcDue_wf h)) h)

theorem evcSrcWrite_wf {ch : Nat} {value : Word} : (evcSrcWrite ch value s).wf :=
  ite_wf (frame_wf (wr_wf (evcDue_wf h))) (wr_wf (evcDue_wf h))

theorem timestampRead_wf {n : Fin 4} : (timestampRead n s).wf := setB_wf (wr_wf (wr_wf (wr_wf (frame_wf h))))

theorem suspect_wf {ch adv : Nat} : (suspect ch adv s).wf :=
  ite_wf (setB_wf (setB_wf (ite_wf h (logWrite_wf (setB_wf h))))) (ite_wf h (logWrite_wf (setB_wf h)))

theorem loopRead_wf {ch : Nat} : (loopRead ch s).wf := when_wf (frame_wf h) fun _ h => suspect_wf h

theorem loopWatch_wf : (loopWatch s).wf :=
  ite_wf h (forAll_wf (frame_wf (by split; exacts [reachClk_wf h, h])) (fun _ _ h => loopRead_wf h))

theorem windowRequest_wf {n : Nat} : (windowRequest n s).wf := ite_wf (coexOutputs_wf (opReach_wf h)) h

/-! ### Barrier (Machine/Barrier.lean) -/

theorem setEnd_wf {d : Die} {l : LinkEnd} : (setEnd d l s).wf := by
  unfold setEnd
  exact (by split <;> exact frame_wf h)

theorem pumpEnd_wf {d : Die} : (pumpEnd d s).wf := by
  unfold pumpEnd
  split
  · exact setEnd_wf h
  · exact hwr_wf (setEnd_wf h)

theorem eventsLost_wf : (eventsLost s).wf := ite_wf h (raiseEvt_wf (frame_wf h))

theorem drainEvents_wf : (drainEvents s).wf :=
  ite_wf (onlyIf_wf (forAll_wf (frame_wf h) (fun _ _ h => sendR_wf h)) (fun _ h => eventsLost_wf h)) h

theorem drainHeld_wf : (drainHeld s).wf := drainUp_wf (drainEvents_wf h)
theorem ackEnd_wf {d : Die} {ack : Nat} : (ackEnd d ack s).wf := ite_wf h (onlyIf_wf (pumpEnd_wf (setEnd_wf h)) (fun _ h => drainHeld_wf h))

theorem rejectMsg_wf {dst : Die} {cause : Nat} {m : BMsg} : (rejectMsg dst cause m s).wf := by
  unfold rejectMsg
  split
  · exact logWrite_wf h
  · exact irq_wf (hsetB_wf (hincW_wf (hwr_wf h)))

theorem endHeard_wf {d : Die} : (endHeard d s).wf := setEnd_wf h

theorem barrierTake_wf {dst : Die} {m : BMsg} {handle : State → State} (hf : ∀ s, s.wf → (handle s).wf) :
    (barrierTake dst m handle s).wf := by
  have heard : ∀ {d}, (endHeard d s).wf := endHeard_wf h
  have acked : ∀ {l}, (ackEnd dst m.ack.toNat (setEnd dst l (endHeard dst s))).wf := ackEnd_wf (setEnd_wf heard)
  unfold barrierTake
  exact ite_wf h (ite_wf (onlyIf_wf h fun _ h => hincW_wf h) (ite_wf (ite_wf (ackEnd_wf heard) h)
    (ite_wf heard (ite_wf (rejectMsg_wf acked) (hf _ (onlyIf_wf acked fun _ h => hincW_wf h))))))

theorem barrierRow_wf {typ : Nat} {dst : Die} {m : BMsg} {handle : State → State} (hf : ∀ s, s.wf → (handle s).wf) :
    (barrierRow typ dst m handle s).wf := ite_wf h (barrierTake_wf h hf)

theorem ackMsg_wf {dst : Die} {m : BMsg} : (ackMsg dst m s).wf := barrierRow_wf h fun _ h => id_wf h
theorem hostAnswer_wf {t : TagUse} {status : Nat} {payload : List Byte} : (hostAnswer t status payload s).wf := toHost_wf (frame_wf h)
theorem tagDown_wf {t : TagUse} : (tagDown t s).wf := ite_wf (tenderEvtMsg_wf (frame_wf h)) (hostAnswer_wf h)
theorem radioResetSeen_wf : (radioResetSeen s).wf := forAll_wf (irq_wf (hsetB_wf (frame_wf h))) fun _ _ h => tagDown_wf h
theorem takeResetsH_wf {n : Nat} : (takeResetsH n s).wf := when_wf (frame_wf h) fun _ h => radioResetSeen_wf h
theorem takeResetsR_wf {n : Nat} : (takeResetsR n s).wf := ite_wf (frame_wf (frame_wf h)) (frame_wf h)
theorem resumeEnd_wf {d : Die} {rxNext : Nat} : (resumeEnd d rxNext s).wf := pumpEnd_wf (onlyIf_wf (setEnd_wf h) (fun _ h => hwr_wf h))
theorem showPower_wf {n : Nat} : (showPower n s).wf := hsetF_wf h
theorem linkTrains_wf : (linkTrains s).wf := frame_wf h

theorem barrierTraining_wf {toHost toRadio : BitVec 4} : (barrierTraining toHost toRadio s).wf :=
  ite_wf (reachAge_wf h) (ite_wf (linkTrains_wf (hincW_wf (hsetF_wf (setF_wf (reachAge_wf h))))) (drainHeld_wf (ite_wf (sendH_wf (frame_wf
    (resumeEnd_wf (resumeEnd_wf (onlyIf_wf (irq_wf (showPower_wf (frame_wf (takeResetsR_wf (takeResetsH_wf (endHeard_wf (endHeard_wf
    (hsetF_wf (hsetF_wf (hsetF_wf (hsetB_wf (setF_wf (setF_wf (setF_wf (reachAge_wf h))))))))))))))) (fun _ h => irq_wf h))))))
    (resumeEnd_wf (resumeEnd_wf (onlyIf_wf (irq_wf (showPower_wf (frame_wf (takeResetsR_wf (takeResetsH_wf (endHeard_wf (endHeard_wf
    (hsetF_wf (hsetF_wf (hsetF_wf (hsetB_wf (setF_wf (setF_wf (setF_wf (reachAge_wf h))))))))))))))) (fun _ h => irq_wf h)))))))

theorem barrierDown_wf : (barrierDown s).wf :=
  ite_wf (irq_wf (showPower_wf (hincW_wf (hsetF_wf (when_wf (onlyIf_wf h (fun _ h => linkTrains_wf h)) fun _ h => setF_wf h))))) (when_wf
    (onlyIf_wf h (fun _ h => linkTrains_wf h)) fun _ h => setF_wf h)

theorem barrierRetry_wf : (barrierRetry s).wf :=
  ite_wf h (when_wf (when_wf (linkTrains_wf (reachAge_wf h)) fun _ h => setF_wf h) fun _ h => hsetF_wf h)

theorem barrierSilence_wf : (barrierSilence s).wf := ite_wf (barrierDown_wf (reachAge_wf h)) h

theorem barrierRetxTimeout_wf {die : Die} : (barrierRetxTimeout die s).wf :=
  ite_wf h (ite_wf (barrierDown_wf (reachAge_wf h)) (when_wf (setEnd_wf (reachAge_wf h)) fun _ h => hwr_wf h))

theorem noteLinkState_wf {dst : Die} {m : BMsg} : (noteLinkState dst m s).wf := ite_wf (setEnd_wf h) h
theorem wakeEnds_wf {t : TagUse} {status st : Nat} : (wakeEnds t status st s).wf := tenderEvtMsg_wf (frame_wf h)
theorem wakeReached_wf {st : Nat} : (wakeReached st s).wf := ite_wf h (forAll_wf (frame_wf h) (fun _ _ h => wakeEnds_wf h))

theorem linkState_wf {dst : Die} {m : BMsg} : (linkState dst m s).wf := by
  refine barrierRow_wf (noteLinkState_wf h) fun _ h => ?_
  split
  · exact wakeReached_wf (showPower_wf (takeResetsH_wf h))
  · exact drainHeld_wf (frame_wf (takeResetsR_wf h))

theorem endTag_wf {tag : Nat} : (endTag tag s).wf := frame_wf h
theorem eskelEvent_wf {m : BMsg} : (eskelEvent m s).wf := barrierRow_wf h fun _ h => toHost_wf (ite_wf (endTag_wf h) h)
theorem uplink_wf {m : BMsg} : (uplink m s).wf := barrierRow_wf h fun _ h => toHost_wf h
theorem mirrorEntry_wf {e : List Byte} : (mirrorEntry e s).wf := when_wf (frame_wf h) fun _ h => tenderEvt_wf h
theorem logEntry_wf {m : BMsg} : (logEntry m s).wf := barrierRow_wf h fun _ h => forAll_wf (toHost_wf h) (fun _ _ h => mirrorEntry_wf h)

/-! ### Eskel (Machine/Eskel.lean) -/

theorem sendAnswer_wf {c : Caller} {status : Nat} {payload : List Byte} : (sendAnswer c status payload s).wf := sendR_wf h

theorem reply_wf {c : Caller} {status : Nat} {payload : List Byte} : (reply c status payload s).wf :=
  ite_wf (sendAnswer_wf h) (completeFor_wf h)

theorem replyPending_wf {c : Caller} {obj : Nat} {info : List Byte} : (replyPending c obj info s).wf :=
  frame_wf (ite_wf (sendAnswer_wf h) h)

theorem replyLater_wf {c : Caller} {status : Nat} {payload : List Byte} : (replyLater c status payload s).wf :=
  finishPend_wf (replyPending_wf h)

theorem takeReq_wf {opcode : Nat} {q : Req} : (takeReq opcode q s).wf := by
  unfold takeReq
  split
  · exact frame_wf h
  · exact h

theorem forwardMsg_wf {origin dest : Nat} {msg : List Byte} : (forwardMsg origin dest msg s).wf := sendMr_wf h

theorem askDevices_wf {c : Caller} {node : Bool} {waits dests : List Nat} {msg : List Byte} : (askDevices c node waits dests msg s).wf :=
  forAll_wf (frame_wf (sendAnswer_wf h)) fun _ _ h => forwardMsg_wf h

theorem runCmd_wf {opcode : Nat} {q : Req} {body : Caller → State → State} (hf : ∀ c s, s.wf → (body c s).wf) :
    (runCmd opcode q body s).wf :=
  have h' := takeReq_wf h
  ite_wf (hf _ _ h') (ite_wf (ite_wf (hf _ _ (askDevices_wf h')) (reply_wf h')) (ite_wf (askDevices_wf h') (reply_wf h')))

theorem runNode_wf {opcode : Nat} {q : Req} {body : Nat → Caller → State → State} (hf : ∀ n c s, s.wf → (body n c s).wf) :
    (runNode opcode q body s).wf := by
  have h' := takeReq_wf (opcode := opcode) (q := q) h
  unfold runNode
  refine ite_wf (reply_wf h') ?_
  dsimp only
  split
  · exact ite_wf (hf _ _ _ h') (ite_wf (frame_wf h') (ite_wf (reply_wf h') (ite_wf (askDevices_wf h') (forwardMsg_wf h'))))
  · exact ite_wf (askDevices_wf h') (reply_wf h')

theorem fixed_wf {n : Nat} {q : Req} {c : Caller} {body : State → State} (hf : ∀ s, s.wf → (body s).wf) : (fixed n q c body s).wf :=
  ite_wf (hf s h) (reply_wf h)

theorem atLeast_wf {n m : Nat} {q : Req} {c : Caller} {body : State → State} (hf : ∀ s, s.wf → (body s).wf) :
    (atLeast n m q c body s).wf := ite_wf (hf s h) (reply_wf h)

theorem eskelReq_wf {m : BMsg} : (eskelReq m s).wf := barrierRow_wf h fun _ h => frame_wf h

theorem eskelForward_wf {f : MFrame} : (eskelForward f s).wf := by
  refine mrRow_wf h fun _ h => ?_
  dsimp only
  split
  · split
    · exact sendMr_wf h
    · exact h
  · exact frame_wf h

theorem mrEskelAnswer_wf {f : MFrame} : (mrEskelAnswer f s).wf :=
  mrRow_wf h fun _ h => ite_wf (askAnswer_wf h) (ite_wf (by split; exacts [askAnswer_wf h, h]) (finishPend_wf h))

theorem eskelAnswer_wf {m : BMsg} : (eskelAnswer m s).wf := barrierRow_wf h fun _ h => toHost_wf (ite_wf (frame_wf h) (endTag_wf h))

/-! ### Flash (Machine/Flash.lean) -/

theorem setFlWord_wf {w : Nat} {v : Option FlashWord} : (setFlWord w v s).wf := frame_wf h
theorem dropSector_wf {sec : Nat} : (dropSector sec s).wf := frame_wf h
theorem setFlBit_wf {i : Nat} {b : Bool} : (setFlBit i b s).wf := hsetB_wf h
theorem setFlAddr_wf {a : Nat} : (setFlAddr a s).wf := hwr_wf h
theorem setErrAddr_wf {a : Nat} : (setErrAddr a s).wf := hwr_wf h

theorem flWarn_wf {w errs : Nat} : (flWarn w errs s).wf :=
  ite_wf (setFlBit_wf (hwr_wf h)) (tenderEvt_wf (frame_wf (setFlBit_wf (hwr_wf h))))

theorem flashRead_wf {addr : BitVec 24} {errs : Fin 4} : (flashRead addr errs s).wf :=
  ite_wf (frame_wf h) (ite_wf (setErrAddr_wf (setFlBit_wf (frame_wf h))) (when_wf (ite_wf (setErrAddr_wf (setFlBit_wf (hincW_wf (hsetF_wf
    (frame_wf (ite_wf (drawFree_wf h) h)))))) (when_wf (hsetF_wf (frame_wf (ite_wf (drawFree_wf h) h))) fun _ h => hincW_wf h)) fun _ h =>
    flWarn_wf h))

theorem heldReadDone_wf : (heldReadDone s).wf := by
  unfold heldReadDone
  split
  · exact h
  · exact flashRead_wf (frame_wf h)

theorem flcCommand_wf {op twin : Word} {act : State → State} (hf : ∀ s, s.wf → (act s).wf) : (flcCommand op twin act s).wf :=
  guardTwinH_wf (guardValueH_wf h (by decide)) fun _ _ _ h => hf _ (hwr_wf h)

theorem programStart_wf {addr : BitVec 24} {data : BitVec 128} : (programStart addr data s).wf :=
  ite_wf (setFlBit_wf h) (ite_wf (setErrAddr_wf (setFlBit_wf h)) (ite_wf (setFlBit_wf h) (ite_wf (setErrAddr_wf (setFlBit_wf h))
    (setFlBit_wf (setFlWord_wf (drawFree_wf (frame_wf (forAll_wf (setFlAddr_wf h) (fun _ _ h => hwr_wf h)))))))))

theorem flashProgram_wf {addr : BitVec 24} {data : BitVec 128} {twin : Word} : (flashProgram addr data twin s).wf :=
  flcCommand_wf h fun _ h => programStart_wf h

theorem flashProgramDone_wf : (flashProgramDone s).wf :=
  ite_wf h (setFlBit_wf (frame_wf (by split; exacts [setFlWord_wf (reachAge_wf h), reachAge_wf h])))

theorem beginErase_wf : (beginErase s).wf := setFlBit_wf (setFlBit_wf (frame_wf h))

theorem eraseStart_wf {addr : BitVec 24} : (eraseStart addr s).wf :=
  ite_wf (setFlBit_wf h) (ite_wf (setErrAddr_wf (setFlBit_wf h)) (beginErase_wf (setFlAddr_wf (frame_wf h))))

theorem flashErase_wf {addr : BitVec 24} {twin : Word} : (flashErase addr twin s).wf := flcCommand_wf h fun _ h => eraseStart_wf h

theorem flashEraseDone_wf : (flashEraseDone s).wf :=
  ite_wf h (heldReadDone_wf (setFlBit_wf (setFlBit_wf (setFlBit_wf (frame_wf (dropSector_wf (reachAge_wf h)))))))

theorem blankStart_wf {addr : BitVec 24} : (blankStart addr s).wf := ite_wf (setFlBit_wf h) (setFlBit_wf (setFlAddr_wf (frame_wf h)))
theorem blankCheck_wf {addr : BitVec 24} {twin : Word} : (blankCheck addr twin s).wf := flcCommand_wf h fun _ h => blankStart_wf h

theorem blankCheckDone_wf {weak : List Nat} : (blankCheckDone weak s).wf := by
  refine ite_wf h ?_
  dsimp only
  split
  · exact frame_wf (setFlBit_wf (frame_wf (reachAge_wf h)))
  · exact ite_wf (setErrAddr_wf (setFlBit_wf (setFlBit_wf (frame_wf (reachAge_wf h))))) (ite_wf (beginErase_wf (frame_wf (setErrAddr_wf
      (setFlBit_wf (setFlBit_wf (frame_wf (reachAge_wf h))))))) (setFlBit_wf (frame_wf (setErrAddr_wf (setFlBit_wf (setFlBit_wf (frame_wf
      (reachAge_wf h))))))))

theorem eraseStops_wf : (eraseStops s).wf := heldReadDone_wf (setFlBit_wf (setFlBit_wf (setFlBit_wf (frame_wf h))))

theorem flashSuspend_wf {runUs : Nat} : (flashSuspend runUs s).wf :=
  ite_wf h (ite_wf (eraseStops_wf (reachAge_wf h)) (setFlBit_wf (reachAge_wf h)))

theorem suspendTakeEffect_wf : (suspendTakeEffect s).wf := ite_wf (eraseStops_wf (reachAge_wf h)) h
theorem flashResume_wf : (flashResume s).wf := ite_wf h (ite_wf (setFlBit_wf (setFlBit_wf (frame_wf h))) (setFlBit_wf h))

theorem flashCut_wf : (flashCut s).wf := by
  refine hwr_wf (frame_wf ?_)
  split
  · exact setFlWord_wf (ite_wf (forAll_wf h (fun _ _ h => drawFree_wf (setFlWord_wf h))) h)
  · exact ite_wf (forAll_wf h (fun _ _ h => drawFree_wf (setFlWord_wf h))) h

theorem flProg_wf {addr : Nat} {data : List Byte} : (flProg addr data s).wf := setFlWord_wf h

theorem flProgAll_wf {addr n : Nat} {bs : List Byte} : (flProgAll addr n bs s).wf := by
  induction n generalizing addr bs s with
  | zero => exact h
  | succ n ih => exact ih (flProg_wf h)

theorem journalPut_wf {r : List Byte} : (journalPut r s).wf := flProg_wf h

theorem journalSwitch_wf : (journalSwitch s).wf := by
  unfold journalSwitch
  dsimp only
  exact ite_wf (dropSector_wf h) h

theorem journalIntent_wf {sec : Nat} : (journalIntent sec s).wf := by
  unfold journalIntent
  dsimp only
  exact ite_wf (flProg_wf (journalSwitch_wf h)) (journalPut_wf h)

theorem journalDone_wf {sec : Nat} : (journalDone sec s).wf := journalPut_wf h
theorem flErase_wf {sec : Nat} : (flErase sec s).wf := journalDone_wf (dropSector_wf (journalIntent_wf h))

theorem journalRepair_wf : (journalRepair s).wf := by
  unfold journalRepair
  dsimp only
  split
  · exact dropSector_wf h
  · exact ite_wf (dropSector_wf h) (journalDone_wf (dropSector_wf (dropSector_wf h)))

theorem setBank_wf {b : Nat} {v : SetBank} : (setBank b v s).wf := frame_wf h
theorem corePut_wf {item : Nat} {data : List Byte} : (corePut item data s).wf := setBank_wf (frame_wf h)
theorem coreDrop_wf {item : Nat} : (coreDrop item s).wf := ite_wf h (corePut_wf h)

theorem formatBank_wf {b format seq : Nat} : (formatBank b format seq s).wf :=
  setBank_wf (frame_wf (flProg_wf (forAll_wf h (fun _ _ h => ite_wf h (flErase_wf h)))))

theorem settingsCompact_wf : (settingsCompact s).wf := setBank_wf (frame_wf (formatBank_wf h))

/-! ### Mailbox (Machine/Mailbox.lean) -/

theorem setWinState_wf {w v : Nat} : (setWinState w v s).wf := hsetF_wf h
theorem refuseWin_wf {bit w : Nat} : (refuseWin bit w s).wf := irq_wf (hsetF_wf (hsetB_wf h))
theorem doorbell_wf {value : Word} : (doorbell value s).wf := ite_wf (refuseWin_wf h) (setWinState_wf h)

theorem reqWindowWrite_wf {offset : Word} {size : AccSize} {value : Word} : (reqWindowWrite offset size value s).wf :=
  ite_wf (refuseWin_wf h) (reqMem_wf h (tabWriteBytes_wf _ _ _ _ (wf_iff.mp h).1.2.1))

theorem takeCounter_wf {c : Nat} : (takeCounter c s).wf := frame_wf (ite_wf (corePut_wf (frame_wf h)) h)
theorem refuseReq_wf {p : Posted} {status : Nat} : (refuseReq p status s).wf := toHost_wf h
theorem passOn_wf {p : Posted} : (passOn p s).wf := ite_wf (frame_wf (frame_wf h)) (sendH_wf (frame_wf h))

theorem tenderCopy_wf {win : Fin 16} : (tenderCopy win s).wf :=
  ite_wf h (ite_wf (refuseReq_wf (setWinState_wf h)) (ite_wf (refuseReq_wf (setWinState_wf h)) (ite_wf (refuseReq_wf (setWinState_wf h))
    (ite_wf (refuseReq_wf (when_wf (setWinState_wf h) fun _ h => takeCounter_wf h)) (passOn_wf (when_wf (setWinState_wf h) fun _ h =>
    takeCounter_wf h))))))

theorem bumpMseq_wf {r : Nat} : (bumpMseq r s).wf := frame_wf h
theorem readyIrq_wf {cls : Nat} {m : List Byte} : (readyIrq cls m s).wf := when_wf (irq_wf h) fun _ h => irq_wf h
theorem dropHold_wf {cls : Nat} : (dropHold cls s).wf := xoffUpdate_wf (frame_wf h)

theorem ringWrite_wf {cls : Nat} {m : List Byte} : (ringWrite cls m s).wf :=
  ite_wf h (readyIrq_wf (dropHold_wf (post_wf (hwr_wf (bumpMseq_wf (post_wf (ite_wf h (post_wf h))))))))

theorem putRsp_wf {w o : Nat} {bs : List Byte} : (putRsp w o bs s).wf :=
  rspMem_wf h (tabWriteBytes_wf _ _ _ _ (wf_iff.mp h).1.2.2.1)

theorem setEvq_wf {w n : Nat} : (setEvq w n s).wf := ite_wf (hsetF_wf h) (hsetF_wf h)
theorem spiHandOver_wf : (spiHandOver s).wf := hsetB_wf (frame_wf h)
theorem spiRest_wf : (spiRest s).wf := ite_wf h (when_wf (setEvq_wf (frame_wf (putRsp_wf h))) fun _ h => spiHandOver_wf h)

theorem spiEntry_wf {cls : Nat} {m : List Byte} : (spiEntry cls m s).wf :=
  ite_wf h (ite_wf (spiHandOver_wf h) (readyIrq_wf (spiRest_wf (dropHold_wf (when_wf (bumpMseq_wf (setEvq_wf (frame_wf (putRsp_wf h))))
    fun _ h => spiHandOver_wf h)))))

theorem responseWrite_wf {cls : Fin 4} : (responseWrite cls s).wf := by
  unfold responseWrite
  split
  · exact h
  · exact ite_wf (ringWrite_wf h) (ite_wf (ite_wf h (readyIrq_wf (dropHold_wf (hsetB_wf (putRsp_wf h))))) (spiEntry_wf h))

theorem spiWindowTimer_wf {second : Bool} : (spiWindowTimer second s).wf := ite_wf (spiHandOver_wf (reachAge_wf h)) h

theorem spiRelease_wf {value : Word} : (spiRelease value s).wf :=
  spiRest_wf (onlyIf_wf (onlyIf_wf (hwr_wf h) (fun _ h => setEvq_wf h)) (fun _ h => setEvq_wf h))

theorem ringInvalid_wf {r : Nat} : (ringInvalid r s).wf := hsetB_wf h
theorem ringHeadWrite_wf {ring : Fin 4} {value : Word} : (ringHeadWrite ring value s).wf := ite_wf (ringInvalid_wf h) (hwr_wf h)

theorem ringCfg_wf {r : Nat} {v : Word} : (ringCfg r v s).wf :=
  ite_wf (ringInvalid_wf h) (ite_wf (hwr_wf (hwr_wf (frame_wf (hwr_wf h)))) (hwr_wf h))

theorem ringCfgWrite_wf {offset : Word} {value : Word} : (ringCfgWrite offset value s).wf :=
  ite_wf h (ite_wf (ringCfg_wf h) (ite_wf (ringInvalid_wf h) (hwr_wf h)))

/-! ### TagMemory (Machine/TagMemory.lean) -/

theorem setTagCopy_wf {page c : Nat} {v : TagCopy} : (setTagCopy page c v s).wf := frame_wf h
theorem beginCopy_wf {page : Nat} : (beginCopy page s).wf := setTagCopy_wf h
theorem fieldBegin_wf {w : TagWrite} : (fieldBegin w s).wf := beginCopy_wf (frame_wf h)

theorem hostWritesCut_wf : (hostWritesCut s).wf := by
  unfold hostWritesCut
  dsimp only
  split
  · exact fieldBegin_wf (frame_wf h)
  · exact frame_wf h

theorem commitCopy_wf {page : Nat} {data : List Byte} : (commitCopy page data s).wf := setTagCopy_wf h
theorem loadTagRegs_wf : (loadTagRegs s).wf := forAll_wf (hwr_wf h) fun _ _ h => hwr_wf h
theorem tagShow_wf : (tagShow s).wf := hsetB_wf (hsetB_wf (hsetB_wf (hsetB_wf h)))

/-! ### Reset (Machine/Reset.lean) -/

theorem radioEmpty_wf {regs : Tab Word} : (radioEmpty regs s).wf := by
  obtain ⟨⟨-, hq, hr, -⟩, -, hg⟩ := wf_iff.mp h
  simp only [State.guardWf, Bool.and_eq_true] at hg
  exact wf_iff.mpr ⟨⟨rfl, hq, hr, rfl⟩, rfl, by simpa [State.guardWf, radioEmpty] using hg.2⟩

theorem powerRun_wf : (powerRun s).wf := wr_wf (setF_wf (frame_wf h))

theorem radioDieReset_wf {code sub : Nat} : (radioDieReset code sub s).wf :=
  wr_wf (setF_wf (when_wf (powerRun_wf (frame_wf (radioEmpty_wf h))) fun _ h => setF_wf h))

theorem radioIslandReset_wf {code : Nat} : (radioIslandReset code s).wf := wr_wf (frame_wf (radioEmpty_wf h))
theorem radioReset1_wf {code sub : Nat} : (radioReset1 code sub s).wf := ite_wf h (ite_wf (wr_wf (frame_wf h)) (radioDieReset_wf h))

theorem hostEmpty_wf {island : Bool} : (hostEmpty island s).wf :=
  tagShow_wf (loadTagRegs_wf (hostWritesCut_wf (frame_wf (s := { flashCut s with hguard := none }) (hguard_none_wf (flashCut_wf h)))))

theorem hostOn_wf : (hostOn s).wf := frame_wf (onlyIf_wf (onlyIf_wf h (fun _ h => irq_wf h)) (fun _ h => irq_wf h))
theorem hostDieReset_wf {code sub : Nat} : (hostDieReset code sub s).wf := hostOn_wf (hwr_wf (hostEmpty_wf h))
theorem hostIslandReset_wf {code : Nat} : (hostIslandReset code s).wf := hostOn_wf (hwr_wf (frame_wf (hostEmpty_wf h)))

theorem windowsEmpty_wf {t : Tender} : ({ s with tender := t, reqMem := [], rspMem := [] } : State).wf :=
  rspMem_wf (s := { s with tender := t, reqMem := [] }) (reqMem_wf (s := { s with tender := t }) (frame_wf h) rfl) rfl

theorem powerOn_wf {die : Die} : (powerOn die s).wf := by
  cases die with
  | radio => exact radioIslandReset_wf h
  | host => exact hostIslandReset_wf (windowsEmpty_wf h)

theorem pinReset_wf {die : Die} : (pinReset die s).wf := by
  unfold pinReset
  split
  · exact radioReset1_wf h
  · exact ite_wf h (hostDieReset_wf h)

theorem sysResetEffect_wf {o : Nat} {v : Word} : (sysResetEffect o v s).wf :=
  onlyIf_wf h fun _ h => radioReset1_wf (clocks_wf h)

theorem sysResetWrite_wf {value : Word} : (sysResetWrite value s).wf := guardTwinR_wf h fun _ _ _ h => sysResetEffect_wf h
theorem askRadioReset_wf : (askRadioReset s).wf := ite_wf (sendH_wf h) (frame_wf h)
theorem barrierReset_wf : (barrierReset s).wf := ite_wf h (radioDieReset_wf (clocks_wf h))
theorem resetBoth_wf {code : Nat} : (resetBoth code s).wf := hostDieReset_wf (onlyIf_wf h (fun _ h => barrierReset_wf h))

theorem hpwResetEffect_wf {o : Nat} {v : Word} : (hpwResetEffect o v s).wf :=
  ite_wf (resetBoth_wf h) (ite_wf (hostDieReset_wf h) (onlyIf_wf h fun _ h => askRadioReset_wf h))

theorem hpwResetHostDie_wf : (hpwResetHostDie s).wf := ite_wf (hpwResetEffect_wf (hguard_none_wf h)) h
theorem hpwResetRadioDie_wf : (hpwResetRadioDie s).wf := ite_wf (hpwResetEffect_wf (hguard_none_wf h)) h
theorem refClockFailure_wf : (refClockFailure s).wf := ite_wf (radioDieReset_wf h) h
theorem hostPllLockLoss_wf : (hostPllLockLoss s).wf := ite_wf (hostDieReset_wf h) h
theorem powerLoss_wf : (powerLoss s).wf := frame_wf (radioEmpty_wf h)
theorem lockstepMismatch_wf : (lockstepMismatch s).wf := ite_wf (radioDieReset_wf h) h
theorem eccError_wf {double : Bool} : (eccError double s).wf := ite_wf (lockstepMismatch_wf h) (ite_wf (setB_wf (incW_wf h)) h)
theorem radioReset'_wf {m : BMsg} : (radioReset' m s).wf := barrierRow_wf h fun _ h => barrierReset_wf h

theorem islandBrownout_wf {die : Die} : (islandBrownout die s).wf := by
  unfold islandBrownout
  split
  · exact ite_wf h (setF_wf (setB_wf (wr_wf (frame_wf (radioIslandReset_wf h)))))
  · exact ite_wf h (frame_wf (hostIslandReset_wf h))

/-! ### HostCmd (Machine/HostCmd.lean) -/

theorem dropHostReq_wf {opcode : Nat} {q : Req} : (dropHostReq opcode q s).wf := frame_wf h

theorem runHost_wf {opcode : Nat} {q : Req} {body : TagUse → State → State} (hf : ∀ t s, s.wf → (body t s).wf) :
    (runHost opcode q body s).wf := ite_wf (hf _ _ (dropHostReq_wf h)) (hostAnswer_wf (dropHostReq_wf h))

theorem hFixed_wf {n : Nat} {q : Req} {t : TagUse} {fieldsOk : Bool} {body : State → State} (hf : ∀ s, s.wf → (body s).wf) :
    (hFixed n q t fieldsOk body s).wf := ite_wf (hostAnswer_wf h) (ite_wf (hostAnswer_wf h) (hf s h))

theorem nopCmd_wf {q : Req} : (nopCmd q s).wf := runHost_wf h fun _ _ h => hFixed_wf h (fun _ h => hostAnswer_wf h)
theorem sysStatus_wf {q : Req} : (sysStatus q s).wf := runHost_wf h fun _ _ h => hFixed_wf h (fun _ h => hostAnswer_wf h)
theorem sysReset_wf {q : Req} : (sysReset q s).wf := runHost_wf h fun _ _ h => hFixed_wf h (fun _ h => hostAnswer_wf (frame_wf h))

theorem settingsSave_wf {q : Req} : (settingsSave q s).wf :=
  runHost_wf h fun _ _ h => hFixed_wf h (fun _ h => ite_wf (hostAnswer_wf h) (hostAnswer_wf (ite_wf (setBank_wf h) h)))

theorem settingsDefault_wf {q : Req} : (settingsDefault q s).wf :=
  runHost_wf h fun _ _ h => hFixed_wf h (fun _ h => hostAnswer_wf (frame_wf h))

theorem idGet_wf {q : Req} : (idGet q s).wf := runHost_wf h fun _ _ h => hFixed_wf h (fun _ h => hostAnswer_wf h)

theorem certRead_wf {q : Req} : (certRead q s).wf :=
  runHost_wf h fun _ _ h => hFixed_wf h (fun _ h => ite_wf (hostAnswer_wf h) (ite_wf (hostAnswer_wf h) (hostAnswer_wf h)))

theorem powerStatus_wf {q : Req} : (powerStatus q s).wf := runHost_wf h fun _ _ h => hFixed_wf h (fun _ h => hostAnswer_wf h)

theorem ockReplace_wf {q : Req} : (ockReplace q s).wf := by
  refine runHost_wf h fun _ _ h => hFixed_wf h (fun _ h => ?_)
  split
  · exact hostAnswer_wf h
  · exact ite_wf (hostAnswer_wf h) (hostAnswer_wf (frame_wf (corePut_wf (frame_wf h))))

theorem snapRead_wf {q : Req} : (snapRead q s).wf := runHost_wf h fun _ _ h => hFixed_wf h (fun _ h => (by split <;> exact hostAnswer_wf h))

/-! ### RadioCmd (Machine/RadioCmd.lean) -/

theorem planWrite_wf {e : List Byte} (hc : leAt e 0 1 < 64) : (planWrite e s).wf := by
  refine setB_wf (forAll_wf_mem h fun p hp _ h => shadowPut_wf h ?_)
  have ho : p.1 ∈ [4, 8, 0xC, 0x10, 0x18, 0x1C, 0x20] := List.mem_map_of_mem (f := Prod.fst) hp
  exact rwb_chBase hc (show ∀ o ∈ [4, 8, 0xC, 0x10, 0x18, 0x1C, 0x20], (chnDesc o).rwb ≠ 0 ∧ o < 0x400 by decide) ho

theorem planOff_wf {ch : Nat} (hc : ch < 64) : (planOff ch s).wf :=
  setB_wf (shadowPut_wf (dropShadows_wf h) (rwb_chBase hc (os := [4]) (by decide) (by decide)))

theorem planCalibrate_wf : (planCalibrate s).wf := forAll_wf h fun _ _ h => queueWork_wf h
theorem planSettle_wf : (planSettle s).wf := forAll_wf h fun _ _ h => ite_wf h (planCalibrate_wf (finishPend_wf h))

theorem planLoadRun_wf {c : Caller} {obj : Nat} {es : List (List Byte)} {offs : List Nat} (ho : ∀ ch ∈ offs, ch < 64) :
    (planLoadRun c obj es offs s).wf := by
  refine ite_wf_of (fun _ => reply_wf h) fun hz => ?_
  have listed : ∀ e ∈ es, leAt e 0 1 < 64 := by
    intro e he
    have := List.all_eq_true.mp (by simpa using hz) e he
    simp only [planZeros, Bool.and_eq_true, decide_eq_true_eq] at this
    omega
  split
  · exact reply_wf h
  · exact planSettle_wf (replyPending_wf (forAll_wf_mem (forAll_wf_mem h fun e he _ h => planWrite_wf h (listed e he))
      fun ch hch _ h => planOff_wf h (ho ch hch)))

theorem planLoad_wf {q : Req} : (planLoad q s).wf := by
  refine runCmd_wf h fun c s h => ite_wf (reply_wf h) (ite_wf (reply_wf h) (ite_wf (reply_wf h) (ite_wf (reply_wf h)
    (planLoadRun_wf h fun ch hch => ?_))))
  split at hch
  · exact List.mem_range.mp (List.mem_filter.mp hch).1
  · simp at hch

theorem planGet_wf {q : Req} : (planGet q s).wf := runCmd_wf h fun _ _ h => fixed_wf h (fun _ h => reply_wf h)

theorem chSet_wf {q : Req} : (chSet q s).wf :=
  runCmd_wf h fun _ _ h => fixed_wf h fun _ h => ite_wf (reply_wf h) (planLoadRun_wf h (by simp))

theorem chStats_wf {q : Req} : (chStats q s).wf :=
  runCmd_wf h fun _ _ h => fixed_wf h (fun _ h => ite_wf (reply_wf h) (reply_wf (onlyIf_wf (onlyIf_wf h (fun _ h => latchStats_wf h))
    (fun _ h => clearStats_wf h))))

theorem chTrace_wf {q : Req} : (chTrace q s).wf := runCmd_wf h fun _ _ h => fixed_wf h (fun _ h => ite_wf (reply_wf h) (reply_wf h))
theorem radioStatus_wf {q : Req} : (radioStatus q s).wf := runCmd_wf h fun _ _ h => fixed_wf h (fun _ h => reply_wf h)

theorem bandCfg_wf {q : Req} : (bandCfg q s).wf :=
  runCmd_wf h fun _ _ h => fixed_wf h (fun _ h => ite_wf (reply_wf h) (ite_wf (reply_wf h) (ite_wf (reply_wf h) (reply_wf (bandSync_wf
    (wr_wf (wr_wf (bandCfgPut_wf h))))))))

theorem rxpsCfgWrite_wf {v : Word} : (rxpsCfgWrite v s).wf :=
  ite_wf (setServes_wf (setRole_wf (sPreempted_wf (wr_wf h)))) (when_wf (wr_wf h) fun _ h => sFree_wf h)

theorem pathEnable_wf {q : Req} : (pathEnable q s).wf :=
  runCmd_wf h fun _ _ h => fixed_wf h (fun _ h => ite_wf (reply_wf h) (reply_wf (settle_wf (forAll_wf (rxpsCfgWrite_wf (forAll_wf h
    (fun _ _ h => rxpPathCfgWrite_wf h))) (fun _ _ h => txpEnWrite_wf h)))))

theorem radioRetune_wf {q : Req} : (radioRetune q s).wf :=
  runCmd_wf h fun _ _ h => fixed_wf h (fun _ h => ite_wf (reply_wf h) (ite_wf (reply_wf h) (replyPending_wf (frame_wf h))))

theorem retuneEnd_wf {b : Nat} : (retuneEnd b s).wf := by
  unfold retuneEnd
  split
  · exact h
  · exact ite_wf (finishPend_wf (frame_wf h)) (ite_wf (finishPend_wf h) h)

theorem bandRetune_wf {band : Fin 2} : (bandRetune band s).wf := by
  unfold bandRetune
  dsimp only
  split
  · exact h
  · exact retuneEnd_wf (ite_wf (frame_wf (forAll_wf (onlyIf_wf (wr_wf (abandonBand_wf (reachSlot_wf h))) (fun _ h => wr_wf h)) (fun _ _ h =>
      setB_wf h))) (hop_wf (pathsHalt_wf (frame_wf (forAll_wf (onlyIf_wf (wr_wf (abandonBand_wf (reachSlot_wf h))) (fun _ h => wr_wf h))
      (fun _ _ h => setB_wf h))))))

theorem survey_wf {q : Req} : (survey q s).wf :=
  runCmd_wf h fun _ _ h => fixed_wf h (fun _ h => ite_wf (reply_wf h) (ite_wf (reply_wf h) (ite_wf (reply_wf h) (ite_wf (reply_wf (onlyIf_wf
    h (fun _ h => setB_wf h))) (replyPending_wf (presentCause_wf (frame_wf (wr_wf (wr_wf (wr_wf h))))))))))

theorem surveyDone_wf {bins : List Byte} : (surveyDone bins s).wf :=
  ite_wf h (finishPend_wf (ite_wf (sFree_wf (wr_wf (frame_wf (ite_wf h (reachClk_wf h))))) (frame_wf (ite_wf h (reachClk_wf h)))))

theorem surveyRead_wf {q : Req} : (surveyRead q s).wf :=
  runCmd_wf h fun _ _ h => fixed_wf h (fun _ h => ite_wf (reply_wf h) (ite_wf (reply_wf h) (reply_wf h)))

theorem testSettle_wf : (testSettle s).wf :=
  forAll_wf h fun _ _ h => ite_wf (ite_wf h (finishPend_wf (frame_wf h))) (ite_wf h (finishPend_wf h))

theorem pathTest_wf {q : Req} : (pathTest q s).wf :=
  runCmd_wf h fun _ _ h => fixed_wf h (fun _ h => ite_wf (reply_wf h) (ite_wf (ite_wf (reply_wf h) (testSettle_wf (presentCause_wf
    (replyPending_wf (frame_wf h))))) (testSettle_wf (ite_wf (sFree_wf (replyPending_wf (frame_wf h))) (ite_wf (frame_wf (replyPending_wf
    (frame_wf h))) (replyPending_wf (frame_wf h)))))))

theorem pathCalDone_wf {path : Fin 5} : (pathCalDone path s).wf :=
  when_wf (ite_wf (setB_wf (pathCalibrationDone_wf h)) h) fun _ h => finishPend_wf h

/-! ### NodeCmd (Machine/NodeCmd.lean) -/

theorem sendRelease_wf {c : Ctx} {dest : Nat} : (sendRelease c dest s).wf := sendMr_wf h

theorem nodeAddHere_wf {q : Req} {c : Caller} : (nodeAddHere q c s).wf := by
  refine ite_wf (reply_wf h) (ite_wf (reply_wf h) (ite_wf (reply_wf h) (ite_wf (reply_wf h) ?_)))
  split
  · exact reply_wf (raiseEvt_wf (setB_wf h))
  · exact makeReplica_wf (frame_wf (replyPending_wf (setRun_wf (setCtx_wf (freeCtx_wf h)))))

theorem nodeAdd_wf {q : Req} : (nodeAdd q s).wf := by
  refine ite_wf (reply_wf (takeReq_wf h)) (ite_wf (reply_wf (takeReq_wf h)) ?_)
  split
  · exact reply_wf (takeReq_wf h)
  · exact ite_wf (nodeAddHere_wf (takeReq_wf h)) (ite_wf (askDevices_wf (takeReq_wf h)) (reply_wf (takeReq_wf h)))

theorem freeJoin_wf {w : JoinWait} {status : Nat} : (freeJoin w status s).wf :=
  finishPend_wf (freeCtx_wf (unless_wf (frame_wf (forAll_wf h (fun _ _ h => opCancel_wf (setUse_wf h)))) fun _ h => sendRelease_wf h))

theorem nodeRemove_wf {q : Req} : (nodeRemove q s).wf :=
  runNode_wf h fun _ _ _ h => fixed_wf h (fun _ h => ite_wf (reply_wf h) (ite_wf (reply_wf h) (finishPend_wf (freeCtx_wf (forAll_wf
    (forAll_wf (replyPending_wf h) (fun _ _ h => dropDl_wf h)) (fun _ _ h => sendRelease_wf h))))))

theorem nodeGet_wf {q : Req} : (nodeGet q s).wf := runNode_wf h fun _ _ _ h => fixed_wf h (fun _ h => ite_wf (reply_wf h) (reply_wf h))
theorem nodeList_wf {q : Req} : (nodeList q s).wf := runCmd_wf h fun _ _ h => fixed_wf h (fun _ h => ite_wf (reply_wf h) (reply_wf h))

theorem nodeConn_wf {q : Req} : (nodeConn q s).wf :=
  runNode_wf h fun _ _ _ h => atLeast_wf h (fun _ h => ite_wf (reply_wf h) (ite_wf (reply_wf h) (ite_wf (reply_wf h) (ite_wf (reply_wf h)
    (setRun_wf (replyPending_wf h))))))

theorem nodeSupervise_wf {q : Req} : (nodeSupervise q s).wf :=
  runNode_wf h fun _ _ _ h => fixed_wf h (fun _ h => ite_wf (reply_wf h) (reply_wf (carryConn_wf (commitCtx_wf h))))

theorem dlSend_wf {q : Req} : (dlSend q s).wf :=
  runNode_wf h fun _ _ _ h => ite_wf (reply_wf h) (ite_wf (reply_wf h) (ite_wf (reply_wf h) (ite_wf (reply_wf h) (dlSync_wf (setRun_wf
    (replyPending_wf h))))))

theorem dlQueue_wf {q : Req} : (dlQueue q s).wf := runNode_wf h fun _ _ _ h => fixed_wf h (fun _ h => ite_wf (reply_wf h) (reply_wf h))

theorem bcastEntry_wf {q : Req} {c : Caller} {e key fcnt : Nat} : (bcastEntry q c e key fcnt s).wf :=
  takeEntry_wf (setUse_wf (pktWrite_wf h))

theorem bcastSend_wf {q : Req} : (bcastSend q s).wf := by
  refine runCmd_wf h fun _ _ h => atLeast_wf h (fun _ h => ite_wf (reply_wf h) (ite_wf (reply_wf h) (ite_wf (reply_wf h) (ite_wf (reply_wf
    h) (ite_wf (reply_wf h) ?_)))))
  split
  · exact reply_wf h
  · exact settle_wf (bcastEntry_wf (bumpFcnt_wf (replyPending_wf h)))

theorem cancelPend_wf {p : Pend} : (cancelPend p s).wf := by
  refine ite_wf (dropDl_wf h) (ite_wf (finishPend_wf (forAll_wf h (fun _ _ h => opCancel_wf (setUse_wf h)))) (ite_wf ?_ (finishPend_wf
    (ite_wf (sFree_wf (frame_wf (wr_wf h))) h))))
  split
  · exact freeJoin_wf h
  · exact h

theorem cancelHere_wf {q : Req} {c : Caller} : (cancelHere q c s).wf := by
  unfold cancelHere
  dsimp only
  split
  · exact reply_wf (settle_wf h)
  · exact ite_wf (ite_wf (askDevices_wf (settle_wf h)) (forwardMsg_wf (settle_wf h))) (ite_wf (frame_wf (settle_wf h)) (ite_wf (reply_wf
      (settle_wf (cancelPend_wf (settle_wf h)))) (reply_wf (settle_wf h))))

theorem cancel_wf {q : Req} : (cancel q s).wf := by
  refine ite_wf (reply_wf (takeReq_wf h)) (ite_wf (reply_wf (takeReq_wf h)) ?_)
  split
  · exact when_wf (askDevices_wf (takeReq_wf h)) fun _ h => cancelHere_wf h
  · exact cancelHere_wf (takeReq_wf h)

/-! ### Power (Machine/Power.lean) -/

theorem pwrAnswer_wf {asker : Option Pend} {report : Bool} {status : Nat} : (pwrAnswer asker report status s).wf :=
  onlyIf_wf (by split; exacts [h, finishPend_wf h]) fun _ h => sendR_wf h

theorem dropUplinks_wf : (dropUplinks s).wf := onlyIf_wf (frame_wf h) fun _ h => setB_wf (wr_wf h)
theorem abortPends_wf {test : Pend → Bool} : (abortPends test s).wf := forAll_wf h fun _ _ h => finishPend_wf h

theorem quiesce_wf : (quiesce s).wf :=
  forAll_wf (forAll_wf (abortPends_wf (forAll_wf h (fun _ _ h => forAll_wf h (fun _ _ h => dropDl_wf h)))) (fun _ _ h => ite_wf h (ite_wf
    (opCancel_wf h) (releaseEntry_wf (setOp_wf (opCancel_wf (setUse_wf h))))))) fun _ _ h => setRun_wf h

theorem ponrCheck_wf : (ponrCheck s).wf := ite_wf (by split; exacts [ite_wf (setB_wf h) h, ite_wf (frame_wf h) h]) h

theorem pwrBegin_wf {target : Nat} {asker : Option Pend} {report : Bool} : (pwrBegin target asker report s).wf :=
  ite_wf (ponrCheck_wf (onlyIf_wf (quiesce_wf (setF_wf (setB_wf (frame_wf h)))) (fun _ h => dropUplinks_wf h))) (setB_wf (setF_wf (setB_wf
    (frame_wf h))))

theorem pwrFresh_wf {target : Nat} {asker : Option Pend} {report : Bool} : (pwrFresh target asker report s).wf :=
  ite_wf (pwrAnswer_wf h) (ite_wf (pwrAnswer_wf (setB_wf h)) (pwrBegin_wf h))

theorem pwrRequest_wf {target : Nat} {asker : Option Pend} {report : Bool} : (pwrRequest target asker report s).wf :=
  ite_wf (pwrFresh_wf (ponrCheck_wf h)) (ite_wf (setF_wf (frame_wf (ite_wf (setB_wf (pwrAnswer_wf (ponrCheck_wf h))) (ponrCheck_wf h))))
    (pwrFresh_wf (pwrAnswer_wf (setB_wf (setF_wf (frame_wf (ponrCheck_wf h)))))))

theorem pwrNext_wf : (pwrNext s).wf := by
  unfold pwrNext
  split
  · exact pwrFresh_wf (frame_wf h)
  · exact ite_wf (pwrFresh_wf (setF_wf (frame_wf h))) h

theorem setRails_wf {on : Nat} : (setRails on s).wf := setF_wf h
theorem islandLink_wf : (islandLink s).wf := setB_wf (hsetF_wf (setF_wf h))

/-- The radio die without its contents but for the image that its boot loaded. -/
theorem radioEmpty_image_wf {regs : Tab Word} {t : State} (ht : t.wf) : ({ radioEmpty regs s with image := t.image } : State).wf :=
  image_wf (radioEmpty_wf h) (wf_iff.mp ht).1.2.2.2

theorem enterHold_wf : (enterHold s).wf := by
  have held : ∀ {f xs}, (forAll xs makeChange (endSlew (abortPends f s))).wf :=
    forAll_wf (endSlew_wf (abortPends_wf h)) fun _ _ h => makeChange_wf h
  exact islandLink_wf (setRails_wf (wr_wf (setF_wf (frame_wf (s := { radioEmpty _ _ with image := _ }) (radioEmpty_image_wf held held)))))

theorem enterOff_wf : (enterOff s).wf := islandLink_wf (setRails_wf (frame_wf (radioEmpty_wf (abortPends_wf h))))

theorem radioStart_wf : (radioStart s).wf :=
  forAll_wf (forAll_wf (forAll_wf h (fun _ _ h => onlyIf_wf h (fun _ h => setSynState_wf h))) (fun _ _ h => ite_wf (rxpPathCfgWrite_wf
    (wr_wf h)) h)) fun _ _ h => ite_wf (txpEnWrite_wf h) h

theorem portsStart_wf : (portsStart s).wf := forAll_wf h fun _ _ h => ite_wf h (setLstate_wf h)
theorem bankLost_wf {b : Nat} : (bankLost b s).wf := raiseEvt_wf (frame_wf (forAll_wf h (fun _ _ h => freeCtx_wf h)))

theorem timeResume_wf {us : Nat} : (timeResume us s).wf :=
  ite_wf (raiseEvt_wf (setSource_wf (beginHoldover_wf (frame_wf h)))) (ite_wf (frame_wf (frame_wf h)) (frame_wf h))

theorem passMissed_wf {n : Nat} : (passMissed n s).wf := ite_wf h (ite_wf h (commitCtx_wf h))

theorem wakeHold_wf {badBanks : Word} {us : Nat} : (wakeHold badBanks us s).wf :=
  portsStart_wf (radioStart_wf (joinChoose_wf (forAll_wf (forAll_wf (forAll_wf (wr_wf (onlyIf_wf (frame_wf (wr_wf (setF_wf (hsetF_wf
    (timeResume_wf (setB_wf (setRails_wf h))))))) (fun _ h => setB_wf h))) (fun _ _ h => bankLost_wf h)) (fun _ _ h => ite_wf (lampArm_wf h)
    h)) (fun _ _ h => passMissed_wf h))))

theorem wakeLost_wf : (wakeLost s).wf := setB_wf (wr_wf (setF_wf (hsetF_wf (setB_wf (setRails_wf (frame_wf h))))))

theorem wakeOff_wf : (wakeOff s).wf := by
  unfold wakeOff
  dsimp only
  exact pwrAnswer_wf (setF_wf (hsetF_wf (setF_wf (setF_wf (setB_wf (setRails_wf (frame_wf (radioDieReset_wf (frame_wf h)))))))))

theorem giveFrond_wf {n f : Nat} : (giveFrond n f s).wf := ite_wf h (incW_wf (forAll_wf (setCtx_wf h) (fun _ _ h => setF_wf h)))
theorem pathSleep_wf {p : Nat} : (pathSleep p s).wf := ite_wf h (setPathState_wf (flagPath_wf (setPath_wf h)))
theorem txbLeave_wf {n : Nat} : (txbLeave n s).wf := ite_wf (setOp_wf (onlyIf_wf h (fun _ h => setProbe_wf h))) h
theorem synSleep_wf {n : Nat} : (synSleep n s).wf := ite_wf (setSyn_wf h) (setSynState_wf (setSyn_wf h))

theorem enterWatch_wf : (enterWatch s).wf :=
  setF_wf (setB_wf (frame_wf (setServes_wf (setRole_wf (onlyIf_wf (synSleep_wf (synSleep_wf (pathSleep_wf (pathSleep_wf (pathSleep_wf
    (onlyIf_wf (forAll_wf (settle_wf (abortBurst_wf (setB_wf (frame_wf (forAll_wf h (fun _ _ h => giveFrond_wf h)))))) (fun _ _ h =>
    txbLeave_wf h)) (fun _ h => abandonBand_wf h))))))) (fun _ h => sPreempted_wf h))))))

theorem leaveWatch_wf : (leaveWatch s).wf :=
  onlyIf_wf (radioStart_wf (forAll_wf (setF_wf (setB_wf h)) (fun _ _ h => giveFrond_wf h))) fun _ h => sFree_wf h

theorem reached_wf {badBanks : Word} {us : Nat} : (reached badBanks us s).wf := by
  unfold reached
  extract_lets st t p s1 s2 s3 p4 s4
  have h1 : s1.wf := setF_wf (setF_wf (frame_wf h))
  have h2 : s2.wf := ite_wf (reachAge_wf h1) h1
  have h3 : s3.wf := ite_wf (ite_wf (wakeLost_wf h2) (wakeHold_wf h2)) (ite_wf (enterWatch_wf h2) (ite_wf (leaveWatch_wf h2) h2))
  have h4 : s4.wf := ite_wf h3 (pwrAnswer_wf (frame_wf h3))
  exact ite_wf (wakeOff_wf h) (pwrNext_wf (ite_wf (enterHold_wf h4) (ite_wf (enterOff_wf h4) h4)))

theorem transitionDone_wf {badBanks : Word} {elapsedUs : Nat} : (transitionDone badBanks elapsedUs s).wf :=
  ite_wf h (when_wf (by split; exacts [ponrCheck_wf (clocks_wf (ponrCheck_wf h)), ponrCheck_wf h]) fun _ h => reached_wf h)

theorem uplinkDrainExpiry_wf : (uplinkDrainExpiry s).wf := ite_wf (ponrCheck_wf (dropUplinks_wf (reachAge_wf h))) h
theorem pwrCmdEffect_wf {off : Nat} {v : Word} : (pwrCmdEffect off v s).wf := onlyIf_wf (wr_wf h) fun _ h => pwrRequest_wf h
theorem pwrStateRequest_wf {value : Word} : (pwrStateRequest value s).wf := guardTwinR_wf h fun _ _ _ h => pwrCmdEffect_wf h
theorem holdTimerWake_wf : (holdTimerWake s).wf := ite_wf (pwrRequest_wf (reachAge_wf h)) h
theorem cap0Wake_wf : (cap0Wake s).wf := ite_wf (pwrRequest_wf h) h

theorem powerFault_wf {rail cause : Nat} {status : BitVec 16} : (powerFault rail cause status s).wf :=
  enterOff_wf (ite_wf (pwrAnswer_wf (pwrAnswer_wf (setF_wf (frame_wf (raiseEvt_wf (wr_wf (setB_wf (setB_wf h)))))))) (setF_wf (frame_wf
    (raiseEvt_wf (wr_wf (setB_wf (setB_wf h)))))))

theorem pmbusTimeout_wf {rail : Fin 5} {cause : Fin 6} {statusWord : BitVec 16} : (pmbusTimeout rail cause statusWord s).wf :=
  ite_wf h (unless_wf (onlyIf_wf h (fun _ h => setB_wf h)) fun _ h => powerFault_wf h)

theorem pmbAlert_wf {rail : Fin 5} {statusWord : BitVec 16} : (pmbAlert rail statusWord s).wf :=
  ite_wf h (ite_wf (powerFault_wf h) (logWrite_wf h))

theorem wakeStageLate_wf {rail : Fin 5} : (wakeStageLate rail s).wf := ite_wf (powerFault_wf h) h

theorem avsStep_wf {up belowMargin : Bool} : (avsStep up belowMargin s).wf :=
  ite_wf h (ite_wf (setF_wf h) (setF_wf (frame_wf (reachClk_wf h))))

theorem replicaRestoreTimeout_wf {ctx : BitVec 16} : (replicaRestoreTimeout ctx s).wf := by
  unfold replicaRestoreTimeout
  split
  · exact h
  · exact raiseEvt_wf (frame_wf (reachClk_wf h))

theorem hostPending_wf {t : TagUse} : (hostPending t s).wf := frame_wf (toHost_wf h)

theorem powerStateHost_wf {q : Req} {t : TagUse} : (powerStateHost q t s).wf :=
  ite_wf (hostAnswer_wf h) (ite_wf (hostAnswer_wf h) (ite_wf (hostAnswer_wf h) (sendH_wf (frame_wf (hostPending_wf h)))))

theorem powerState_wf {q : Req} : (powerState q s).wf :=
  ite_wf (powerStateHost_wf (dropHostReq_wf h)) (runCmd_wf h (fun _ _ h => fixed_wf h (fun _ h => ite_wf (reply_wf h) (pwrRequest_wf
    (replyPending_wf h)))))

theorem bootCtl_wf {step : Nat} {m : BMsg} {handle : State → State} (hf : ∀ s, s.wf → (handle s).wf) : (bootCtl step m handle s).wf :=
  ite_wf h (barrierRow_wf h hf)

theorem wake_wf {m : BMsg} : (wake m s).wf := bootCtl_wf h fun _ h => pwrRequest_wf h
theorem enterStandby_wf : (enterStandby s).wf := hsetF_wf (hsetF_wf (setF_wf (barrierDown_wf (frame_wf h))))

theorem hpwStandby_wf : (hpwStandby s).wf :=
  ite_wf h (onlyIf_wf (frame_wf (s := { s with hguard := none }) (hguard_none_wf h)) fun _ h => enterStandby_wf h)

theorem hostWake_wf {src : WakeSrc} : (hostWake src s).wf := ite_wf (hostOn_wf (irq_wf (linkTrains_wf (hsetF_wf (hsetF_wf h))))) h

/-! ### Keeper (Machine/Keeper.lean) -/

theorem tripJudge_wf {t : Int} : (tripJudge t s).wf :=
  ite_wf (forAll_wf (setB_wf (setB_wf h)) (fun _ _ h => abortBurst_wf h)) (ite_wf (setB_wf h) h)

theorem tempAlarm_wf {n : Nat} {temp : BitVec 16} : (tempAlarm n temp s).wf := raiseEvt_wf h

theorem radioTemp_wf {n : Nat} {temp : BitVec 16} : (radioTemp n temp s).wf := by
  unfold radioTemp
  dsimp only
  split
  · exact tempAlarm_wf (setB_wf (frame_wf (tripJudge_wf (ite_wf (frame_wf (wr_wf h)) (wr_wf h)))))
  · exact frame_wf (tripJudge_wf (ite_wf (frame_wf (wr_wf h)) (wr_wf h)))
  · exact when_wf (tripJudge_wf (ite_wf (frame_wf (wr_wf h)) (wr_wf h))) fun _ h => tempAlarm_wf h

theorem hostTemp_wf {n : Nat} {temp : BitVec 16} : (hostTemp n temp s).wf := by
  unfold hostTemp
  dsimp only
  split
  · exact tenderEvt_wf (frame_wf (frame_wf h))
  · exact frame_wf (frame_wf h)
  · exact frame_wf h

theorem sensorSample_wf {sensor : Fin 8} {temp : BitVec 16} : (sensorSample sensor temp s).wf :=
  ite_wf (ite_wf (recalibrate_wf (synTempSample_wf (radioTemp_wf h))) h) (ite_wf (hostTemp_wf h) h)

theorem radioRail_wf {r : Nat} {mv : BitVec 16} : (radioRail r mv s).wf :=
  ite_wf (wr_wf h) (by split; exacts [raiseEvt_wf (setB_wf (frame_wf (wr_wf h))), frame_wf (wr_wf h), wr_wf h])

theorem hostRail_wf {r : Nat} {mv : BitVec 16} : (hostRail r mv s).wf := by
  unfold hostRail
  dsimp only
  split
  · exact tenderEvt_wf (frame_wf (frame_wf h))
  · exact frame_wf (frame_wf h)
  · exact frame_wf h

theorem railSample_wf {rail : Fin 13} {mv : BitVec 16} : (railSample rail mv s).wf :=
  ite_wf (ite_wf (radioRail_wf h) h) (ite_wf (hostRail_wf h) h)

theorem watchdogWarn_wf : (watchdogWarn s).wf := ite_wf h (logWrite_wf (setB_wf (frame_wf (reachClk_wf h))))

theorem wdtJudge_wf {value : Word} {e : Nat} : (wdtJudge value e s).wf :=
  ite_wf (radioDieReset_wf h) (ite_wf (radioDieReset_wf h) (ite_wf (radioDieReset_wf h) (setB_wf (frame_wf h))))

theorem wdtKick_wf {value : Word} {tMs : Nat} : (wdtKick value tMs s).wf :=
  ite_wf h (wdtJudge_wf (reachClk_wf (onlyIf_wf h (fun _ h => watchdogWarn_wf h))))

theorem watchdogExpiry_wf : (watchdogExpiry s).wf := ite_wf h (radioDieReset_wf (reachClk_wf (watchdogWarn_wf h)))
theorem wdtCfgEffect_wf {o : Nat} {v : Word} : (wdtCfgEffect o v s).wf := ite_wf (setB_wf h) (wr_wf h)
theorem kprWdtCfg_wf {value : Word} : (kprWdtCfg value s).wf := guardTwinR_wf h fun _ _ _ h => wdtCfgEffect_wf h
theorem tenderWdogWarn_wf : (tenderWdogWarn s).wf := ite_wf (irq_wf h) h
theorem tenderWdtExpiry_wf : (tenderWdtExpiry s).wf := ite_wf (hostDieReset_wf h) h
theorem logRead_wf {q : Req} : (logRead q s).wf := runCmd_wf h fun _ _ h => fixed_wf h (fun _ h => ite_wf (reply_wf h) (reply_wf h))
theorem sensRead_wf {q : Req} : (sensRead q s).wf := runCmd_wf h fun _ _ h => fixed_wf h (fun _ h => reply_wf h)

theorem setLimits_wf {attached : Bool} {kind n : Nat} {w : Word} : (setLimits attached kind n w s).wf :=
  ite_wf (ite_wf (wr_wf h) (ite_wf (frame_wf h) h)) (ite_wf (wr_wf h) (ite_wf (frame_wf h) h))

theorem sensLimits_wf {q : Req} : (sensLimits q s).wf :=
  runCmd_wf h fun _ _ h => fixed_wf h (fun _ h => ite_wf (reply_wf h) (reply_wf (setLimits_wf h)))

/-! ### KeyCmd (Machine/KeyCmd.lean) -/

theorem keyPersist_wf {slot attr : Nat} {key : List Byte} : (keyPersist slot attr key s).wf := corePut_wf h

theorem keyLoad_wf {q : Req} : (keyLoad q s).wf := by
  refine ite_wf (hostAnswer_wf (dropHostReq_wf h)) (ite_wf (hostAnswer_wf (dropHostReq_wf h)) (ite_wf (hostAnswer_wf (dropHostReq_wf h))
    (ite_wf (hostAnswer_wf (dropHostReq_wf h)) ?_)))
  split
  · exact hostAnswer_wf (dropHostReq_wf h)
  · exact ite_wf (hostAnswer_wf (dropHostReq_wf h)) (ite_wf (hostAnswer_wf (dropHostReq_wf h)) (sendH_wf (when_wf (dropHostReq_wf h)
      fun _ h => keyPersist_wf h)))

theorem loadSlot_wf {slot attr : Nat} {key : List Byte} : (loadSlot slot attr key s).wf := ite_wf h (keyChange_wf h)
theorem loadCtx_wf {n : Nat} {key : List Byte} : (loadCtx n key s).wf := keyChange_wf h

theorem loadNode_wf {n : Nat} {key : List Byte} : (loadNode n key s).wf :=
  ite_wf (loadCtx_wf h) (forAll_wf (unless_wf (loadCtx_wf h) fun _ h => sendContext_wf h) (fun _ _ h => sendContext_wf h))

theorem sendKeyOnly_wf {kek : List Byte} {kt attr : Nat} {key : List Byte} {dest : Nat} : (sendKeyOnly kek kt attr key dest s).wf :=
  sendMr_wf h

theorem spreadKey_snd_wf {kt attr : Nat} {key : List Byte} {dests : List Nat} : (spreadKey kt attr key dests s).2.wf := by
  unfold spreadKey
  split
  · exact h
  · exact forAll_wf h fun _ _ h => sendKeyOnly_wf h

theorem keyEnd_wf {c : Caller} {remote : Bool} {status gen : Nat} : (keyEnd c remote status gen s).wf :=
  ite_wf (replyLater_wf h) (reply_wf h)

theorem keyToSlot_wf {c : Caller} {slot attr : Nat} {key : List Byte} : (keyToSlot c slot attr key s).wf :=
  keyEnd_wf (spreadKey_snd_wf (ite_wf (loadSlot_wf h) h))

theorem keyToNode_wf {c : Caller} {kt : Nat} {key : List Byte} : (keyToNode c kt key s).wf := by
  unfold keyToNode
  split
  · exact ite_wf (keyEnd_wf (loadNode_wf h)) (keyEnd_wf (spreadKey_snd_wf h))
  · exact ite_wf (keyEnd_wf h) (keyEnd_wf (spreadKey_snd_wf h))

theorem takeKey_wf {win kt attr : Nat} {key : List Byte} : (takeKey win kt attr key s).wf := by
  unfold takeKey
  split
  · exact ite_wf (loadSlot_wf h) h
  · exact ite_wf (keyToSlot_wf h) (ite_wf (keyToNode_wf h) (ite_wf (reply_wf h) (keyEnd_wf (loadNode_wf h))))

theorem keyLoadMessage_wf {m : BMsg} : (keyLoadMessage m s).wf := barrierRow_wf h fun _ h => takeKey_wf h

theorem keyInval_wf {q : Req} : (keyInval q s).wf :=
  runCmd_wf h fun _ _ h => fixed_wf h (fun _ h => ite_wf (reply_wf h) (reply_wf (forAll_wf (keyInvalidate_wf h) (fun _ _ h => coreDrop_wf
    h))))

theorem keyAttrCmd_wf {q : Req} : (keyAttrCmd q s).wf := runCmd_wf h fun _ _ h => fixed_wf h (fun _ h => ite_wf (reply_wf h) (reply_wf h))

theorem keyOnlyTaken_wf {kt attr : Nat} {key : List Byte} : (keyOnlyTaken kt attr key s).wf :=
  ite_wf (by split; exacts [ite_wf (loadNode_wf h) h, h]) (ite_wf h (loadSlot_wf (ite_wf (keyPersist_wf h) h)))

theorem contextFrame_wf {f : MFrame} : (contextFrame f s).wf := by
  refine mrRow_wf h fun _ h => ite_wf h (ite_wf (takeRelease_wf h) (ite_wf (placeCtx_wf h) ?_))
  split
  · exact raiseEvt_wf (countCompletion_wf h)
  · exact ite_wf (keyOnlyTaken_wf (countCompletion_wf h)) (placeCtx_wf (countCompletion_wf h))

/-! ### Rtc (Machine/Rtc.lean) -/

theorem setRtcBit_wf {i : Nat} {b : Bool} : (setRtcBit i b s).wf := hsetB_wf h
theorem rtcAdvance_wf : (rtcAdvance s).wf := when_wf (hwr_wf (hwr_wf h)) fun _ h => setRtcBit_wf h
theorem rtcSet_wf {t d : Word} : (rtcSet t d s).wf := hwr_wf (hwr_wf h)
theorem rtcAlarmIrq_wf : (rtcAlarmIrq s).wf := ite_wf (irq_wf h) (frame_wf h)

theorem rtcAlarm_wf {before : Option Nat} : (rtcAlarm before s).wf :=
  ite_wf (rtcAlarmIrq_wf (when_wf (hsetB_wf (hsetB_wf h)) fun _ h => hsetB_wf h)) h

theorem rtcTick_wf : (rtcTick s).wf := by
  refine ite_wf h (ite_wf (ite_wf (rtcAlarm_wf (rtcSet_wf (setRtcBit_wf (setRtcBit_wf ?_)))) (rtcAlarm_wf (rtcAdvance_wf (setRtcBit_wf
    (setRtcBit_wf (setRtcBit_wf ?_)))))) (rtcAlarm_wf (rtcAdvance_wf ?_)))
  · split
    · exact clocks_wf (frame_wf h)
    · exact h
  · split
    · exact clocks_wf (frame_wf h)
    · exact h
  · split
    · exact clocks_wf (frame_wf h)
    · exact h

theorem rtcDirty_wf : (rtcDirty s).wf := ite_wf h (setRtcBit_wf (frame_wf h))
theorem rtcShadow_wf {isDate : Bool} {v : Word} : (rtcShadow isDate v s).wf := ite_wf (frame_wf (rtcDirty_wf h)) (frame_wf (rtcDirty_wf h))

theorem rtcShadowWrite_wf {isDate : Bool} {value : Word} : (rtcShadowWrite isDate value s).wf :=
  ite_wf h (ite_wf (setRtcBit_wf h) (rtcShadow_wf h))

theorem rtcArmLoad_wf {divReset : Bool} : (rtcArmLoad divReset s).wf :=
  ite_wf h (setRtcBit_wf (ite_wf (frame_wf (ite_wf h (frame_wf h))) (ite_wf h (frame_wf h))))

theorem rtcLoad_wf {divReset : Bool} : (rtcLoad divReset s).wf := ite_wf h (ite_wf (setRtcBit_wf h) (rtcArmLoad_wf h))
theorem rtcDrop_wf : (rtcDrop s).wf := setRtcBit_wf (setRtcBit_wf h)
theorem rtcDiscard_wf : (rtcDiscard s).wf := ite_wf h (ite_wf (setRtcBit_wf h) (rtcDrop_wf h))

theorem rtcAlarmArm_wf {arm : Bool} : (rtcAlarmArm arm s).wf :=
  ite_wf h (ite_wf (hsetB_wf h) (ite_wf (hsetB_wf h) (setRtcBit_wf (hsetB_wf h))))

theorem rtcAlarmWrite_wf {off : Nat} {v : Word} : (rtcAlarmWrite off v s).wf := ite_wf (setRtcBit_wf h) (hwr_wf h)
theorem rtcTimeRead_wf {subsec : BitVec 15} : (rtcTimeRead subsec s).wf := ite_wf h (hwr_wf (frame_wf h))
theorem switchLogClear_wf : (switchLogClear s).wf := ite_wf (hwr_wf h) h
theorem crystalStop_wf : (crystalStop s).wf := setRtcBit_wf (frame_wf h)
theorem crystalRestart_wf : (crystalRestart s).wf := frame_wf h
theorem rtcPowerOn_wf : (rtcPowerOn s).wf := frame_wf h

theorem switchToVbat_wf : (switchToVbat s).wf := by
  have owed : (setRtcBit 10 true { s with rtc := { s.rtc with owedSwitch := true } }).wf := setRtcBit_wf (frame_wf h)
  exact ite_wf h (hsetF_wf (frame_wf (hostEmpty_wf (windowsEmpty_wf
    (ite_wf (hsetF_wf owed) (hsetB_wf (hwr_wf (hwr_wf (hsetF_wf owed)))))))))

theorem switchReturn_wf : (switchReturn s).wf := setRtcBit_wf h

theorem rtcSync_wf {q : Req} : (rtcSync q s).wf :=
  runHost_wf h fun _ _ h => hFixed_wf h (fun _ h => ite_wf (hostAnswer_wf h) (ite_wf (hostAnswer_wf h) (frame_wf (rtcDrop_wf h))))

theorem rtcTakeNet_wf {sec : Nat} : (rtcTakeNet sec s).wf := by
  unfold rtcTakeNet
  split
  · exact h
  · exact ite_wf (hostAnswer_wf (frame_wf h)) (hostAnswer_wf (rtcArmLoad_wf (rtcShadow_wf (rtcShadow_wf (frame_wf h)))))

theorem netTimeRow_wf {m : BMsg} : (netTimeRow m s).wf := barrierRow_wf h fun _ h => rtcTakeNet_wf (frame_wf h)

/-! ### Tag (Machine/Tag.lean) -/

theorem tagSend_wf {bs : List Byte} : (tagSend bs s).wf := frame_wf h
theorem tagTo_wf {st : Nat} : (tagTo st s).wf := tagShow_wf (frame_wf h)
theorem tagField_wf : (tagField s).wf := ite_wf h (irq_wf (hsetB_wf (frame_wf h)))

theorem sessionEnd_wf {st : Nat} : (sessionEnd st s).wf := by
  unfold sessionEnd
  dsimp only
  exact onlyIf_wf (tagTo_wf (frame_wf (ite_wf (drawFree_wf (onlyIf_wf (frame_wf h) (fun _ h => hincW_wf h))) h))) fun _ h => irq_wf
    (hsetB_wf h)

theorem hostStart_wf {w : TagWrite} : (hostStart w s).wf := beginCopy_wf (hsetB_wf (frame_wf h))

theorem hostWriteAsk_wf {w : TagWrite} : (hostWriteAsk w s).wf := by
  unfold hostWriteAsk
  split
  · exact ite_wf (hsetB_wf (frame_wf h)) (hostStart_wf h)
  · exact hostStart_wf h

theorem heldStart_wf : (heldStart s).wf := by
  unfold heldStart
  split
  · exact hostStart_wf h
  · exact h

theorem fieldStart_wf {w : TagWrite} : (fieldStart w s).wf := by
  unfold fieldStart
  split
  · exact ite_wf (fieldBegin_wf h) (ite_wf (fieldBegin_wf (frame_wf h)) (frame_wf h))
  · exact fieldBegin_wf h

theorem hcmdEnd_wf {status : Nat} : (hcmdEnd status s).wf := hsetB_wf (hincF_wf (hsetF_wf h))
theorem fieldOn_wf : (fieldOn s).wf := ite_wf h (tagField_wf (tagTo_wf (frame_wf h)))
theorem fieldLost_wf : (fieldLost s).wf := ite_wf h (heldStart_wf (drawFree_wf (frame_wf (ite_wf (sessionEnd_wf h) (tagTo_wf h)))))
theorem tagFallBack_wf : (tagFallBack s).wf := ite_wf (tagTo_wf h) h
theorem sendAtqa_wf {fromHalt : Bool} : (sendAtqa fromHalt s).wf := tagSend_wf (tagTo_wf (frame_wf h))
theorem reqa_wf : (reqa s).wf := ite_wf (ite_wf h (sendAtqa_wf h)) (tagFallBack_wf h)
theorem wupa_wf : (wupa s).wf := ite_wf (ite_wf h (sendAtqa_wf h)) (tagFallBack_wf h)

theorem anticollisionSelect_wf {uid : BitVec 56} : (anticollisionSelect uid s).wf :=
  ite_wf (tagSend_wf (tagSend_wf (tagTo_wf h))) (tagFallBack_wf h)

theorem hlta_wf : (hlta s).wf := ite_wf (tagTo_wf h) (tagFallBack_wf h)
theorem rats_wf : (rats s).wf := ite_wf (tagFallBack_wf h) (tagField_wf (tagSend_wf (tagTo_wf (frame_wf h))))
theorem sDeselect_wf : (sDeselect s).wf := ite_wf (sessionEnd_wf (tagSend_wf h)) (tagFallBack_wf h)
theorem tagOtherFrame_wf : (tagOtherFrame s).wf := tagFallBack_wf h
theorem tagPlain_wf {status : Nat} {bs : List Byte} : (tagPlain status bs s).wf := tagSend_wf (ite_wf (frame_wf h) h)

theorem tagAnswer_wf {status : Nat} {bs : List Byte} : (tagAnswer status bs s).wf :=
  ite_wf (tagPlain_wf h) (tagSend_wf (frame_wf (ite_wf (frame_wf h) h)))

theorem tagAuthFail_wf : (tagAuthFail s).wf := sessionEnd_wf (tagPlain_wf h)

theorem tagRun_wf {code n : Nat} {inf : List Byte} {body : State → State} (hf : ∀ s, s.wf → (body s).wf) :
    (tagRun code n inf body s).wf :=
  ite_wf (tagAnswer_wf (frame_wf h)) (ite_wf (tagAnswer_wf (frame_wf h)) (ite_wf h (ite_wf (tagAnswer_wf (frame_wf h)) (hf _ (frame_wf h)))))

theorem tagCmd_wf {code n : Nat} {inf : List Byte} {body : List Byte → State → State} (hf : ∀ p s, s.wf → (body p s).wf) :
    (tagCmd code n inf body s).wf := by
  unfold tagCmd
  refine ite_wf h (ite_wf (tagRun_wf h (hf _)) (ite_wf (tagAuthFail_wf h) ?_))
  dsimp only
  split
  · exact tagAuthFail_wf h
  · exact ite_wf h (tagRun_wf (frame_wf h) (hf _))

theorem getInfo_wf {inf : List Byte} : (getInfo inf s).wf := tagCmd_wf h fun _ _ h => ite_wf (tagAnswer_wf h) (tagAnswer_wf h)

theorem readPage_wf {inf : List Byte} : (readPage inf s).wf :=
  tagCmd_wf h fun _ _ h => ite_wf (tagAnswer_wf h) (ite_wf (tagAnswer_wf h) (tagAnswer_wf h))

theorem writePage_wf {inf : List Byte} : (writePage inf s).wf :=
  tagCmd_wf h fun _ _ h => ite_wf (tagAnswer_wf h) (ite_wf (tagAnswer_wf h) (ite_wf (tagAnswer_wf h) (fieldStart_wf h)))

theorem setConfig_wf {inf : List Byte} : (setConfig inf s).wf :=
  tagCmd_wf h fun _ _ h => ite_wf (tagAnswer_wf h) (ite_wf (tagAnswer_wf h) (fieldStart_wf h))

theorem authBegin_wf {inf : List Byte} : (authBegin inf s).wf :=
  ite_wf h (tagRun_wf h (fun _ h => ite_wf (tagPlain_wf h) (tagPlain_wf (drawFree_wf (frame_wf h)))))

theorem authFinish_wf {inf : List Byte} : (authFinish inf s).wf := by
  refine ite_wf h (tagRun_wf h (fun _ h => ite_wf (tagPlain_wf h) ?_))
  split
  · exact tagPlain_wf h
  · exact ite_wf (tagAuthFail_wf (onlyIf_wf h (fun _ h => hincW_wf h))) (tagShow_wf (frame_wf (tagPlain_wf h)))

theorem fieldWriteDone_wf {fails : Bool} {w : TagWrite} : (fieldWriteDone fails w s).wf := by
  unfold fieldWriteDone
  dsimp only
  split
  · exact when_wf (ite_wf (tagAnswer_wf (frame_wf h)) (ite_wf (tagAnswer_wf (onlyIf_wf (commitCopy_wf (frame_wf h)) (fun _ h => irq_wf
      (hincF_wf (hsetF_wf (hsetB_wf h)))))) (tagAnswer_wf (commitCopy_wf (frame_wf h))))) fun _ h => hostStart_wf h
  · exact ite_wf (tagAnswer_wf (frame_wf h)) (ite_wf (tagAnswer_wf (onlyIf_wf (commitCopy_wf (frame_wf h)) (fun _ h => irq_wf (hincF_wf
      (hsetF_wf (hsetB_wf h)))))) (tagAnswer_wf (commitCopy_wf (frame_wf h))))

theorem hostWriteDone_wf {fails : Bool} {w : TagWrite} : (hostWriteDone fails w s).wf := by
  unfold hostWriteDone
  dsimp only
  split
  · exact fieldStart_wf (frame_wf (ite_wf (hcmdEnd_wf (frame_wf h)) (hcmdEnd_wf (ite_wf (hsetB_wf (frame_wf (commitCopy_wf (frame_wf h))))
      (commitCopy_wf (frame_wf h))))))
  · exact ite_wf (hcmdEnd_wf (frame_wf h)) (hcmdEnd_wf (ite_wf (hsetB_wf (frame_wf (commitCopy_wf (frame_wf h)))) (commitCopy_wf (frame_wf
      h))))

theorem pageWriteDone_wf {page : Fin 65} {field fails : Bool} : (pageWriteDone page field fails s).wf := by
  unfold pageWriteDone
  split
  · exact h
  · exact ite_wf h (ite_wf (fieldWriteDone_wf (reachAge_wf h)) (hostWriteDone_wf (reachAge_wf h)))

theorem quietExpiry_wf : (quietExpiry s).wf := ite_wf h (tagShow_wf (frame_wf (reachAge_wf h)))
theorem tagRefused_wf : (tagRefused s).wf := hsetB_wf h

theorem tagmWrite_wf {offset : Word} {size : AccSize} {value : Word} : (tagmWrite offset size value s).wf :=
  ite_wf h (ite_wf (tagRefused_wf h) (frame_wf (ite_wf h (hsetF_wf (hsetB_wf (frame_wf h))))))

theorem hcmd_wf {body : State → State} (hf : ∀ s, s.wf → (body s).wf) : (hcmd body s).wf :=
  ite_wf h (ite_wf (tagRefused_wf h) (hf s h))

theorem tagCommit_wf : (tagCommit s).wf := hcmd_wf h fun _ h => ite_wf (hostWriteAsk_wf h) (hcmdEnd_wf h)
theorem tagDiscard_wf : (tagDiscard s).wf := ite_wf h (hsetB_wf (frame_wf h))
theorem quietClr_wf : (quietClr s).wf := ite_wf (tagShow_wf (frame_wf h)) h

theorem tagKeyLoad_wf : (tagKeyLoad s).wf := by
  refine hcmd_wf h fun _ h => ?_
  dsimp only
  split
  · exact hcmdEnd_wf (hsetB_wf h)
  · exact hostWriteAsk_wf h

theorem cfgStore_wf : (cfgStore s).wf := hcmd_wf h fun _ h => ite_wf (hcmdEnd_wf h) (hostWriteAsk_wf h)

theorem commitHoldTimeout_wf : (commitHoldTimeout s).wf := by
  unfold commitHoldTimeout
  split
  · exact h
  · exact hcmdEnd_wf (frame_wf (reachAge_wf h))

/-! ### Test (Machine/Test.lean) -/

theorem tapSelect_wf {die : Die} {n : Nat} : (tapSelect die n s).wf :=
  ite_wf h ((by split <;> exact frame_wf (onlyIf_wf h (fun _ h => drawFree_wf h))))

theorem bistStart_wf {block index : Nat} : (bistStart block index s).wf := wr_wf (frame_wf h)

theorem bistRun_wf {q : Req} : (bistRun q s).wf :=
  runCmd_wf h fun _ _ h => fixed_wf h (fun _ h => ite_wf (reply_wf h) (ite_wf (reply_wf h) (ite_wf (reply_wf h) (bistStart_wf
    (replyPending_wf h)))))

theorem markFailed_wf {obj : Nat} {fail : Bool} : (markFailed obj fail s).wf := frame_wf h
theorem unitLogged_wf : (unitLogged s).wf := logWrite_wf (drawFree_wf h)

theorem unitReturn_wf {block index : Nat} : (unitReturn block index s).wf :=
  unitLogged_wf (ite_wf (setB_wf h) (ite_wf (setB_wf h) (setB_wf (setB_wf h))))

theorem bankFails_wf {b : Nat} : (bankFails b s).wf := bankLost_wf (setB_wf h)
theorem bistCompletes_wf : (bistCompletes s).wf := finishPend_wf h
theorem bistSettle_wf : (bistSettle s).wf := ite_wf h (bistCompletes_wf h)

theorem bistDone_wf {fail : Bool} {detail : BitVec 24} : (bistDone fail detail s).wf :=
  ite_wf h (finishPend_wf (bistSettle_wf (when_wf (markFailed_wf (when_wf (setB_wf (wr_wf (ite_wf h (reachClk_wf h)))) fun _ h =>
    bankFails_wf h)) fun _ h => unitReturn_wf h)))

theorem frondLeaves_wf {f : Nat} : (frondLeaves f s).wf := unitLogged_wf (frame_wf (when_wf (setB_wf h) fun _ h => joinChoose_wf h))
theorem moveSlot_wf {n m : Nat} : (moveSlot n m s).wf := frame_wf (setCtx_wf (setRun_wf (setCtx_wf (setRun_wf h))))

theorem leaveBank_wf {n : Nat} : (leaveBank n s).wf := by
  refine ite_wf h (ite_wf (freeCtx_wf h) (ite_wf h ?_))
  split
  · exact moveSlot_wf (freeCtx_wf h)
  · exact ite_wf (freeCtx_wf h) (ite_wf h (setRun_wf h))

theorem bankLeaves_wf {b : Nat} : (bankLeaves b s).wf :=
  forAll_wf (forAll_wf (unitLogged_wf (setB_wf h)) (fun _ _ h => freeCtx_wf h)) fun _ _ h => leaveBank_wf h

theorem serviceSettle_wf : (serviceSettle s).wf := forAll_wf h fun _ _ h => ite_wf (finishPend_wf h) h

theorem unitService_wf {q : Req} : (unitService q s).wf :=
  runCmd_wf h fun _ _ h => fixed_wf h (fun _ h => ite_wf (reply_wf h) (ite_wf (reply_wf h) (ite_wf (ite_wf (replyLater_wf h) (ite_wf
    (reply_wf h) (ite_wf (reply_wf h) (ite_wf (replyLater_wf (unitLogged_wf (setB_wf h))) (serviceSettle_wf (ite_wf (bankLeaves_wf
    (replyPending_wf h)) (frondLeaves_wf (replyPending_wf h)))))))) (ite_wf (replyLater_wf h) (ite_wf (ite_wf (reply_wf h) (replyLater_wf
    (unitReturn_wf h))) (ite_wf (reply_wf h) (bistStart_wf (replyPending_wf h))))))))

theorem contextMoveRow_wf {ctx : BitVec 16} {dest : Fin 16} : (contextMoveRow ctx dest s).wf :=
  serviceSettle_wf (ite_wf (leaveBank_wf h) (contextMove_wf h))

theorem replicaRestoreRow_wf {ctx : BitVec 16} : (replicaRestoreRow ctx s).wf := bistSettle_wf (replicaRestoreTimeout_wf h)
theorem contextRow_wf {f : MFrame} : (contextRow f s).wf := bistSettle_wf (contextFrame_wf h)
theorem finalAckRow_wf {f : MFrame} : (finalAckRow f s).wf := serviceSettle_wf (finalAck_wf h)

theorem tone_wf {q : Req} : (tone q s).wf :=
  runCmd_wf h fun _ _ h => fixed_wf h (fun _ h => ite_wf (reply_wf h) (ite_wf (reply_wf h) (ite_wf (reply_wf (toneStop_wf h)) (reply_wf
    (frame_wf (wr_wf (wr_wf h)))))))

theorem toneEnds_wf : (toneEnds s).wf := by
  unfold toneEnds
  split
  · exact h
  · exact toneStop_wf (reachClk_wf h)

theorem mrLoop_wf {p v : Nat} (hp : p < 2) : (mrLoop p v s).wf :=
  portApply_wf (setB_wf (shadowPut_wf h (rwb_mrBase hp (by decide) (by decide))))

theorem loopback_wf {q : Req} : (loopback q s).wf :=
  runCmd_wf h fun _ _ h => fixed_wf h fun _ h => ite_wf_of (fun _ => reply_wf h) fun _ =>
    ite_wf (reply_wf (mrLoop_wf (mrLoop_wf (frame_wf h) (by decide)) (by decide)))
      (ite_wf (reply_wf (frame_wf h)) (reply_wf (mrLoop_wf h (by omega))))

theorem loopAbandon_wf {p : Nat} : (loopAbandon p s).wf :=
  forAll_wf h fun _ _ h => forAll_wf h (fun _ _ h => onlyIf_wf h (fun _ h => endReception_wf (flagSlot_wf h)))

theorem loopbackSwitch_wf : (loopbackSwitch s).wf := by
  unfold loopbackSwitch
  split
  · exact h
  · exact unless_wf (setF_wf (frame_wf (reachNet_wf h))) fun _ h => loopAbandon_wf h

/-! ### TimeCmd (Machine/TimeCmd.lean) -/

theorem timeGet_wf {q : Req} : (timeGet q s).wf := runCmd_wf h fun _ _ h => fixed_wf h (fun _ h => reply_wf (ntbTimeRead_wf h))

theorem stepCommand_wf {c : Caller} {regs : List (Nat × Nat)} (hr : ∀ p ∈ regs, (radioDesc p.1).rwb ≠ 0) :
    (stepCommand c regs s).wf := by
  have written : (setB 0x20040 0 false (forAll regs (fun p => shadowPut 0x20040 p.1 (BitVec.ofNat 32 p.2)) s)).wf :=
    setB_wf (forAll_wf_mem h fun p hp _ h => shadowPut_wf h (hr p hp))
  have applied : ∀ {n}, (stepApply (reachNet n _)).wf := stepApply_wf (reachNet_wf written)
  exact ite_wf (reply_wf applied) (reply_wf (ntbStep_wf (ntbSet_wf applied)))

theorem timeSet_wf {q : Req} : (timeSet q s).wf :=
  runCmd_wf h fun _ _ h => fixed_wf h fun _ h => stepCommand_wf h (by simp; decide)

theorem timeStep_wf {q : Req} : (timeStep q s).wf :=
  runCmd_wf h fun _ _ h => fixed_wf h fun _ h => stepCommand_wf h (by simp; decide)

theorem ppsArm_wf {q : Req} : (ppsArm q s).wf := runCmd_wf h fun _ _ h => fixed_wf h (fun _ h => reply_wf (ppsSecArm_wf (wr_wf h)))

theorem timeSrcCfg_wf {q : Req} : (timeSrcCfg q s).wf :=
  runCmd_wf h fun _ _ h => fixed_wf h (fun _ h => ite_wf (reply_wf h) (ite_wf (reply_wf h) (reply_wf (ite_wf (setB_wf (shadowPut_wf
    (ntbCfgWrite_wf (wr_wf (wr_wf h))) (by decide))) (ntbCfgWrite_wf (wr_wf (wr_wf h)))))))

theorem slotCfg_wf {q : Req} : (slotCfg q s).wf :=
  runCmd_wf h fun _ _ h => fixed_wf h (fun _ h => ite_wf (reply_wf h) (ite_wf (reply_wf h) (reply_wf (setF_wf (slotCfgWrite_wf h)))))

theorem regPut_wf {off : Nat} {v : Nat} : (regPut off v s).wf := wr_wf h

theorem beaconCfg_wf {q : Req} : (beaconCfg q s).wf :=
  runCmd_wf h fun _ _ h => ite_wf (reply_wf h) (ite_wf (reply_wf h) (ite_wf (reply_wf h) (reply_wf (opqNidWrite_wf (frame_wf (forAll_wf h
    (fun _ _ h => regPut_wf h)))))))

theorem relayCfg_wf {q : Req} : (relayCfg q s).wf :=
  runCmd_wf h fun _ _ h => fixed_wf h (fun _ h => ite_wf (reply_wf h) (reply_wf (regPut_wf (relayCfgWrite_wf h))))

theorem mrStatus_wf {q : Req} : (mrStatus q s).wf := runCmd_wf h fun _ _ h => fixed_wf h (fun _ h => reply_wf h)

theorem mrChainSet_wf {q : Req} : (mrChainSet q s).wf :=
  runCmd_wf h fun _ _ h => fixed_wf h (fun _ h => ite_wf (reply_wf h) (ite_wf (reply_wf h) (replyLater_wf (forAll_wf (corePut_wf
    (mrChainCfgWrite_wf (portDisable_wf (portDisable_wf h)))) (fun _ _ h => portDisable_wf h)))))

theorem mrPortCfg_wf {q : Req} : (mrPortCfg q s).wf := by
  refine runCmd_wf h fun c s h => fixed_wf h fun s h => ite_wf_of (fun _ => reply_wf h) fun hp => ?_
  have hp : fld q 0 1 < 2 := by omega
  exact reply_wf (portApply_wf (setB_wf (shadowPut_wf (shadowPut_wf h (rwb_mrBase hp (by decide) (by decide)))
    (rwb_mrBase hp (by decide) (by decide)))))

theorem mrPortEnable_wf {q : Req} : (mrPortEnable q s).wf :=
  runCmd_wf h fun _ _ h => fixed_wf h (fun _ h => ite_wf (reply_wf h) (reply_wf (portDisable_wf h)))

theorem evcSet_wf {q : Req} : (evcSet q s).wf :=
  runCmd_wf h fun _ _ h => fixed_wf h (fun _ h => ite_wf (reply_wf h) (reply_wf (evcSrcWrite_wf (evcWrite_wf (evcWrite_wf (setB_wf
    (evcDue_wf h)))))))

theorem evcGet_wf {q : Req} : (evcGet q s).wf := runCmd_wf h fun _ _ h => fixed_wf h (fun _ h => ite_wf (reply_wf h) (reply_wf h))
theorem evfStatus_wf {q : Req} : (evfStatus q s).wf := runCmd_wf h fun _ _ h => fixed_wf h (fun _ h => reply_wf h)

/-! ### Bus (Machine/Bus.lean) -/

theorem applyRegWrite_wf {u : ApplyUnit} {v : Word} : (applyRegWrite u v s).wf :=
  onlyIf_wf (applyHoldWrite_wf (onlyIf_wf h (fun _ h => setF_wf (setB_wf h)))) fun _ h => applyDiscard_wf h

theorem applySoon_wf {off : Nat} : (applySoon off s).wf := by
  unfold applySoon
  split
  · exact applyBoundary_wf h
  · exact applyBoundary_wf h
  · exact applyBoundary_wf h
  · exact applyBoundary_wf h
  · exact ite_wf (applyBoundary_wf h) h
  · exact h

omit h in
/-- A read of a measured register draws a free value and changes nothing else. -/
theorem measuredBits_snd {off : Nat} {s : State} {r : Word × State} (e : measuredBits off s = some r) : r.2 = drawFree s := by
  unfold measuredBits at e
  dsimp only at e
  split at e
  · rw [← Option.some.inj e]
  · split at e
    · rw [← Option.some.inj e]
    · exact (Option.some_ne_none _ e.symm).elim

theorem radioRead_snd_wf {off : Nat} : (radioRead off s).2.wf := by
  unfold radioRead
  dsimp only
  split
  · exact h
  · refine ite_snd_wf (ntbTimeRead_wf h) (ite_snd_wf (captureRead_wf h) (ite_snd_wf (wr_wf (wr_wf h))
      (ite_snd_wf (timestampRead_wf h) (ite_snd_wf (cphHresultRead_wf h) ?_))))
    split
    · exact frame_wf h
    · split
      · next e => rw [measuredBits_snd e]; exact drawFree_wf h
      · exact ite_wf (frame_wf h) h

theorem plainWrite_wf {off : Nat} {v : Word} : (plainWrite off v s).wf := wr_wf h

theorem guardEffectR_wf {off : Nat} {v : Word} : (guardEffectR off v s).wf :=
  ite_wf (sysResetEffect_wf h) (ite_wf (pwrCmdEffect_wf h) (ite_wf (keyInvalEffect_wf h) (ite_wf (portDisable_wf h) (ite_wf (portDisable_wf
    h) (ite_wf (wdtCfgEffect_wf h) h)))))

theorem avsCfgWrite_wf {v : Word} : (avsCfgWrite v s).wf :=
  ite_wf (setB_wf h) (ite_wf (frame_wf (wr_wf h)) (onlyIf_wf (wr_wf h) (fun _ h => setF_wf h)))

theorem synCommand_wf {n : Nat} {v : Word} : (synCommand n v s).wf :=
  onlyIf_wf (onlyIf_wf (onlyIf_wf (onlyIf_wf h (fun _ h => refreshStale_wf h)) (fun _ h => calEntry_wf h)) (fun _ h => calAllValid_wf h))
    fun _ h => invalidateAll_wf h

theorem opCommand_wf {n : Nat} {v : Word} : (opCommand n v s).wf := ite_wf (opCancel_wf h) (ite_wf (opArmAt_wf h) h)
theorem keyLoadReg_wf {v : Word} : (keyLoadReg v s).wf := keyChange_wf h

omit h in
/-- A state that may be there: where it is, it meets the invariant. -/
def OptionWf (o : Option State) : Prop := ∀ t, o = some t → t.wf

omit h in
theorem OptionWf.absent : OptionWf none := fun _ e => (Option.some_ne_none _ e.symm).elim

omit h in
/-- A write that one register takes, or what else takes it. -/
theorem OptionWf.write {c : Prop} [Decidable c] {a : State} {b : Option State} (ha : a.wf) (hb : OptionWf b) :
    OptionWf (if c then some a else b) := by
  split
  · exact fun _ e => Option.some.inj e ▸ ha
  · exact hb

theorem specialWrite_wf {off : Nat} {v : Word} : OptionWf (specialWrite off v s) := by
  unfold specialWrite
  dsimp only
  split
  · exact .write (avsCfgWrite_wf h) .absent
  · exact .write (ntbCfgWrite_wf h) (.write (ppsSecArm_wf h) .absent)
  · exact .write (rxpPathCfgWrite_wf h) (.write (rxpsCfgWrite_wf h) (.write (rxpBandWrite_wf h) .absent))
  · exact .write (rasterWrite_wf h) (.write (synCommand_wf h) (.write (coexCfgWrite_wf h)
      (.write (coexTimingWrite_wf h) .absent)))
  · exact .write (onlyIf_wf (onlyIf_wf h fun _ h => latchStats_wf h) fun _ h => clearStats_wf h) .absent
  · exact .write (txpEnWrite_wf h) .absent
  · exact .write (opCommand_wf h) (.write (hostResWrite_wf h) (.write (slotCfgWrite_wf h)
      (.write (relayCfgWrite_wf h) (.write (opqNidWrite_wf h) .absent))))
  · exact .write (evcSrcWrite_wf h) (.write (evcWrite_wf h) (.write (evfSwtrig_wf h)
      (.write (evfSwgateWrite_wf h) (.write (evfCountClr_wf h) .absent))))
  · exact .write (pktWrite_wf h) (.write (cphCfgWrite_wf h) (.write (keyLoadReg_wf h) (.write (cphHsubmit_wf h) .absent)))
  · exact .write (mrChainCfgWrite_wf h) .absent
  · exact .write (frdLookup_wf h) .absent
  · exact .write (wdtKick_wf h) .absent
  · exact .write h .absent
  · exact .absent

theorem radioWrite_wf {off : Nat} {v : Word} : (radioWrite off v s).wf := by
  have plain : ((specialWrite off v s).getD (plainWrite off v s)).wf := by
    cases e : specialWrite off v s with
    | none => exact plainWrite_wf h
    | some t => exact specialWrite_wf h t e
  unfold radioWrite
  split
  · exact guardTwinR_wf h fun _ _ _ h => guardEffectR_wf h
  · refine ite_wf_of (guardValueR_wf h) fun _ => ?_
    split
    · exact ite_wf (applyRegWrite_wf h) (ite_wf_of (shadowPut_wf h) fun _ => plain)
    · exact plain

theorem hostRead_snd_wf {off : Nat} : (hostRead off s).2.wf := by
  unfold hostRead
  dsimp only
  split
  · exact h
  · refine ite_snd_wf (rtcTimeRead_wf (drawFree_wf h)) ?_
    split
    · exact frame_wf h
    · exact ite_snd_wf h (ite_wf (frame_wf h) h)

theorem hostPlain_wf {off : Nat} {v : Word} : (hostPlain off v s).wf := hwr_wf h

theorem msxTableWrite_wf {off : Nat} {v : Word} : (msxTableWrite off v s).wf :=
  ite_wf (vectorPend_wf (hsetB_wf (hostPlain_wf h))) (hostPlain_wf h)

theorem rtcCtlWrite_wf {v : Word} : (rtcCtlWrite v s).wf := onlyIf_wf (onlyIf_wf h (fun _ h => rtcDiscard_wf h)) fun _ h => rtcLoad_wf h

theorem tagHcmd_wf {v : Word} : (tagHcmd v s).wf := by
  unfold tagHcmd
  dsimp only
  split
  · exact h
  · exact tagCommit_wf h
  · exact tagDiscard_wf h
  · exact quietClr_wf h
  · exact tagKeyLoad_wf h
  · exact cfgStore_wf h
  · exact tagRefused_wf h

theorem guardEffectH_wf {off : Nat} {v : Word} : (guardEffectH off v s).wf :=
  ite_wf (onlyIf_wf (hwr_wf h) (fun _ h => hpwStandby_wf h)) (hpwResetEffect_wf (hwr_wf h))

theorem hostWrite_wf {off : Nat} {v : Word} : (hostWrite off v s).wf := by
  unfold hostWrite
  split
  · exact guardTwinH_wf h fun _ _ _ h => guardEffectH_wf h
  · exact ite_wf_of (guardValueH_wf h) fun _ => ite_wf (doorbell_wf h) (ite_wf (spiRelease_wf h)
      (ite_wf (ite_wf (ringHeadWrite_wf h) (ite_wf (hostPlain_wf h) (ringCfgWrite_wf h)))
      (ite_wf (msxTableWrite_wf h) (ite_wf (rtcShadowWrite_wf h) (ite_wf (rtcShadowWrite_wf h) (ite_wf (rtcCtlWrite_wf h)
      (ite_wf (rtcAlarmWrite_wf h) (ite_wf (rtcAlarmArm_wf (hwr_wf h)) (ite_wf (onlyIf_wf h fun _ h => switchLogClear_wf h)
      (ite_wf (tagHcmd_wf h) (hostPlain_wf h)))))))))))

theorem shadowWrite_wf {addr value : Word} : (shadowWrite addr value s).wf := by
  unfold shadowWrite
  dsimp only
  split
  · exact ite_wf_of (shadowPut_wf h) fun _ => h
  · exact h

theorem guardedValueWrite_wf {die : Die} {addr value : Word} : (guardedValueWrite die addr value s).wf := by
  unfold guardedValueWrite
  split
  · exact ite_wf_of (guardValueR_wf h) fun _ => h
  · split
    · exact ite_wf_of (fun hd => guardValueH_wf h hd.1) fun _ => h
    · exact h

theorem guardTimeout_wf {die : Die} : (guardTimeout die s).wf := by
  unfold guardTimeout
  split
  · exact ite_wf h (guardLateR_wf (reachAge_wf h))
  · exact ite_wf h (guardLateH_wf (reachAge_wf h))

theorem hostReadAt_snd_wf {addr : Word} : (hostReadAt addr s).2.wf := by
  unfold hostReadAt
  dsimp only
  split
  · exact hostRead_snd_wf h
  all_goals exact h

theorem itemRead_snd_wf {x : Item} : (itemRead x s).2.wf := by
  unfold itemRead
  split
  · exact h
  · exact radioRead_snd_wf h

theorem itemWrite_wf {x : Item} {v : Word} : (itemWrite x v s).wf := applySoon_wf (radioWrite_wf h)
theorem pairLate_wf {before : Bool} : (pairLate before s).wf := onlyIf_wf h fun _ h => guardLateR_wf h

theorem itemEffect_snd_wf {crit last : Bool} {x : Item} : (itemEffect crit last x s).2.wf := by
  have read : (itemRead x s).2.wf := itemRead_snd_wf h
  exact ite_snd_wf h (ite_snd_wf (itemWrite_wf h) (ite_snd_wf read (ite_snd_wf (itemWrite_wf read)
    (ite_snd_wf read (ite_snd_wf read read)))))

theorem runItem_snd_wf {crit last : Bool} {x : Item} : (runItem crit last x s).2.wf := pairLate_wf (itemEffect_snd_wf h)
theorem regAnswer_wf {r : RegRun} {fail status : Nat} : (regAnswer r fail status s).wf := reply_wf h

theorem runItems_wf {fuel : Nat} {last : Bool} {r : RegRun} : (runItems fuel last r s).wf := by
  induction fuel generalizing last r s with
  | zero => exact regAnswer_wf h
  | succ fuel ih =>
    unfold runItems
    refine ite_wf (regAnswer_wf h) ?_
    dsimp only
    split
    · exact ih (runItem_snd_wf h)
    · exact regAnswer_wf (runItem_snd_wf h)
    · exact frame_wf (runItem_snd_wf h)
    · exact runItem_snd_wf h

theorem pollAgain_wf : (pollAgain s).wf := by
  unfold pollAgain
  split
  · exact h
  · dsimp only
    split
    · exact frame_wf (runItem_snd_wf h)
    · exact runItems_wf (frame_wf h)

theorem pollsOut_wf {fuel : Nat} : (pollsOut fuel s).wf := by
  induction fuel generalizing s with
  | zero => exact h
  | succ fuel ih =>
    unfold pollsOut
    split
    · exact h
    · exact ih (pollAgain_wf (reachClk_wf h))

theorem regAccessAs_wf {opcode most : Nat} {q : Req} : (regAccessAs opcode most q s).wf :=
  runCmd_wf h fun _ _ h => ite_wf (reply_wf h) (ite_wf (reply_wf h) (runItems_wf (guardLateR_wf (pollsOut_wf h))))

theorem regAccess_wf {q : Req} : (regAccess q s).wf := regAccessAs_wf h
theorem regAccessCrit_wf {q : Req} : (regAccessCrit q s).wf := regAccessAs_wf h

/-! ### Update (Machine/Update.lean) -/

theorem putRec_wf {slot typ chunk gen : Nat} : (putRec slot typ chunk gen s).wf := ite_wf h (flProg_wf h)
theorem dropSwitch_wf : (dropSwitch s).wf := ite_wf (frame_wf h) h
theorem openSession_wf {next : Nat} {key : List Byte} : (openSession next key s).wf := frame_wf h
theorem storeHeader_wf {slot : Nat} {hdr key : List Byte} : (storeHeader slot hdr key s).wf := flProgAll_wf (flErase_wf h)

theorem updBegin_wf {q : Req} : (updBegin q s).wf := by
  refine runHost_wf h fun _ _ h => ite_wf (hostAnswer_wf h) (ite_wf (hostAnswer_wf h) ?_)
  split
  · exact hostAnswer_wf h
  · exact ite_wf (hostAnswer_wf h) (ite_wf (hostAnswer_wf h) (hostAnswer_wf (openSession_wf (unless_wf (dropSwitch_wf h) fun _ h =>
      storeHeader_wf h))))

theorem bodyWord_wf {slot ofs : Nat} {d : List Byte} : (bodyWord slot ofs d s).wf := flProg_wf (ite_wf h (flErase_wf (frame_wf h)))

theorem bodyWrite_wf {slot n ofs : Nat} {d : List Byte} : (bodyWrite slot n ofs d s).wf := by
  induction n generalizing ofs d s with
  | zero => exact h
  | succ n ih => exact ih (bodyWord_wf h)

theorem checkChunks_snd_wf {b n : Nat} : (checkChunks b n s).2.wf := by
  induction n generalizing s with
  | zero => exact h
  | succ n ih =>
    unfold checkChunks
    dsimp only
    split
    · exact h
    · split
      · exact ih (putRec_wf h)
      · exact frame_wf h

theorem updWrite_wf {q : Req} : (updWrite q s).wf :=
  runHost_wf h fun _ _ h => ite_wf (hostAnswer_wf h) (ite_wf (hostAnswer_wf h) (ite_wf (hostAnswer_wf h) (ite_wf (hostAnswer_wf h) (ite_wf
    (hostAnswer_wf h) (ite_wf (hostAnswer_wf (checkChunks_snd_wf (frame_wf (bodyWrite_wf h)))) (hostAnswer_wf (checkChunks_snd_wf (frame_wf
    (bodyWrite_wf h)))))))))

theorem updCommit_wf {q : Req} : (updCommit q s).wf :=
  runHost_wf h fun _ _ h => hFixed_wf h (fun _ h => ite_wf (hostAnswer_wf h) (hostAnswer_wf (frame_wf h)))

theorem slotSwitch_wf : (slotSwitch s).wf := resetBoth_wf (putRec_wf h)
theorem updStatus_wf {q : Req} : (updStatus q s).wf := runHost_wf h fun _ _ h => hFixed_wf h (fun _ h => hostAnswer_wf h)

theorem updAbort_wf {q : Req} : (updAbort q s).wf :=
  runHost_wf h fun _ _ h => hFixed_wf h (fun _ h => ite_wf (hostAnswer_wf h) (hostAnswer_wf (frame_wf (putRec_wf (dropSwitch_wf h)))))

theorem confirmSlot_wf : (confirmSlot s).wf := ite_wf (frame_wf (putRec_wf (frame_wf h))) (putRec_wf (frame_wf h))
theorem trialConfirm_wf : (trialConfirm s).wf := ite_wf h (confirmSlot_wf (clocks_wf h))

theorem trialTimerExpiry_wf : (trialTimerExpiry s).wf :=
  ite_wf h (hostDieReset_wf (reachAge_wf (onlyIf_wf (frame_wf (clocks_wf h)) (fun _ h => barrierReset_wf h))))

/-! ### Boot (Machine/Boot.lean) -/

theorem chooseSettings_wf {fmt gen : Nat} : (chooseSettings fmt gen s).wf := by
  unfold chooseSettings
  dsimp only
  split
  · exact frame_wf h
  · exact (by split <;> exact frame_wf (formatBank_wf h))

theorem loadCounter_wf : (loadCounter s).wf := frame_wf h
theorem slotFellBack_wf {slot : Nat} : (slotFellBack slot s).wf := tenderEvt_wf (frame_wf h)

theorem startReports_wf : (startReports s).wf := by
  unfold startReports
  dsimp only
  split
  · exact tenderEvt_wf (frame_wf (ite_wf (tenderEvt_wf (frame_wf h)) h))
  · exact ite_wf (tenderEvt_wf (frame_wf h)) h

theorem startTender_wf {slot : Nat} : (startTender slot s).wf :=
  startReports_wf (loadCounter_wf (linkTrains_wf (hsetF_wf (hwr_wf (frame_wf (chooseSettings_wf h))))))

theorem startRecovery_wf : (startRecovery s).wf :=
  startReports_wf (loadCounter_wf (linkTrains_wf (hsetF_wf (hwr_wf (frame_wf (frame_wf h))))))

theorem fallBackFrom_wf {slot : Nat} : (fallBackFrom slot s).wf :=
  ite_wf (slotFellBack_wf (startTender_wf h)) (slotFellBack_wf (startRecovery_wf h))

theorem chunkFails_wf {slot : Nat} : (chunkFails slot s).wf := ite_wf (resetBoth_wf (putRec_wf (frame_wf h))) (fallBackFrom_wf h)
theorem bootSlot_wf {slot : Nat} : (bootSlot slot s).wf := ite_wf (startTender_wf h) (chunkFails_wf h)

theorem rejectTrying_snd_wf : (rejectTrying s).2.wf := by
  unfold rejectTrying
  dsimp only
  exact forAll_wf h fun _ _ h => putRec_wf h

theorem chooseSlot_wf : (chooseSlot s).wf := by
  unfold chooseSlot
  split
  · exact bootSlot_wf (putRec_wf (frame_wf h))
  · split
    · exact bootSlot_wf h
    · exact startRecovery_wf h

theorem romBoot_wf {straps : BitVec 4} : (romBoot straps s).wf :=
  ite_wf h (ite_wf (frame_wf (journalRepair_wf (hwr_wf (frame_wf h)))) (ite_wf (startRecovery_wf (journalRepair_wf (hwr_wf (frame_wf h))))
    (when_wf (chooseSlot_wf (rejectTrying_snd_wf (journalRepair_wf (hwr_wf (frame_wf h))))) fun _ h => forAll_wf h (fun _ _ h =>
    slotFellBack_wf h))))

theorem sendStage_wf {n result arg : Nat} : (sendStage n result arg s).wf := sendR_wf h
theorem stageReached_wf {n arg : Nat} : (stageReached n arg s).wf := sendStage_wf (setF_wf h)

theorem barrierTrainingRow_wf {toHost toRadio : BitVec 4} : (barrierTrainingRow toHost toRadio s).wf :=
  ite_wf h (ite_wf (ite_wf (hincW_wf (hsetF_wf (ite_wf h (setF_wf h)))) (ite_wf h (setF_wf h))) (ite_wf (barrierTraining_wf h) (ite_wf
    (ite_wf (frame_wf (barrierTraining_wf h)) (barrierTraining_wf h)) (ite_wf (stageReached_wf (ite_wf (frame_wf (barrierTraining_wf h))
    (barrierTraining_wf h))) (when_wf (ite_wf (frame_wf (barrierTraining_wf h)) (barrierTraining_wf h)) fun _ h => sendStage_wf h)))))

theorem imageChunk_wf {m : BMsg} : (imageChunk m s).wf :=
  barrierRow_wf h fun _ h => image_wf h (tabWriteBytes_wf _ _ _ _ (wf_iff.mp h).1.2.2.2)

theorem startKeeper_wf {m : BMsg} : (startKeeper m s).wf :=
  bootCtl_wf h fun _ h => ite_wf h (ite_wf (raiseEvt_wf (frame_wf (stageReached_wf (frame_wf (wr_wf (incSat_wf h)))))) (stageReached_wf
    (frame_wf (wr_wf (incSat_wf h)))))

theorem restoreConfig_wf : (restoreConfig s).wf := by
  unfold restoreConfig
  dsimp only
  split
  · refine unless_wf ?_ fun _ h => mrChainCfgWrite_wf h
    split
    · exact h
    · exact relayCfgWrite_wf (wr_wf (frame_wf (forAll_wf h (fun _ _ h => wr_wf h))))
  · split
    · exact h
    · exact relayCfgWrite_wf (wr_wf (frame_wf (forAll_wf h (fun _ _ h => wr_wf h))))

theorem loadFronds_wf {m : BMsg} {badBanks : Word} : (loadFronds m badBanks s).wf :=
  bootCtl_wf h fun _ h => ite_wf h (stageReached_wf (restoreConfig_wf (forAll_wf (stageReached_wf h) (fun _ _ h => unitLogged_wf (setB_wf
    h)))))

theorem radioCalibrate_wf {bad : BitVec 4} : (radioCalibrate bad s).wf :=
  forAll_wf (forAll_wf (forAll_wf h (fun _ _ h => ite_wf h (setB_wf (calibrated_wf h)))) (fun _ _ h => synLock_wf (synLock_wf h)))
    fun _ _ h => pathOut_wf h

theorem radioUp_wf {m : BMsg} {badPaths : BitVec 4} : (radioUp m badPaths s).wf :=
  bootCtl_wf h fun _ h => ite_wf h (pwrNext_wf (portsStart_wf (stageReached_wf (onlyIf_wf (joinChoose_wf (setF_wf (radioCalibrate_wf
    (radioStart_wf h)))) (fun _ h => sFree_wf h)))))

theorem streamImage_wf {target : Nat} {load : Nat} {data : List Byte} : (streamImage target load data s).wf :=
  forAll_wf h fun _ _ h => sendH_wf h

theorem sendBoot_wf {step : Nat} : (sendBoot step s).wf := sendH_wf h

theorem attemptFails_wf : (attemptFails s).wf :=
  ite_wf (forAll_wf (frame_wf (askRadioReset_wf (frame_wf h))) (fun _ _ h => wakeEnds_wf h)) (askRadioReset_wf (frame_wf h))

theorem sendSection_wf {target step : Nat} : (sendSection target step s).wf := by
  unfold sendSection
  split
  · exact chunkFails_wf h
  · exact sendBoot_wf (streamImage_wf h)

theorem sendKeys_wf : (sendKeys s).wf := forAll_wf h fun _ _ h => (by split; exacts [h, (by split; exacts [h, ite_wf h (sendH_wf h)])])
theorem radioIsReady_wf : (radioIsReady s).wf := irq_wf (frame_wf h)

theorem stageSeen_wf {n result : Nat} : (stageSeen n result s).wf :=
  ite_wf (frame_wf h) (ite_wf (askRadioReset_wf (frame_wf h)) (ite_wf (attemptFails_wf (frame_wf h)) (ite_wf (sendSection_wf (frame_wf
    (frame_wf h))) (ite_wf (sendSection_wf (frame_wf h)) (ite_wf (sendKeys_wf (frame_wf h)) (ite_wf (sendBoot_wf (frame_wf h)) (forAll_wf
    (radioIsReady_wf (frame_wf h)) (fun _ _ h => wakeEnds_wf h))))))))

theorem wakeOutcome_wf {result : Nat} : (wakeOutcome result s).wf := by
  unfold wakeOutcome
  dsimp only
  split
  · exact h
  · exact ite_wf (frame_wf (frame_wf h)) (wakeEnds_wf (frame_wf h))

theorem bootStatus_wf {m : BMsg} : (bootStatus m s).wf := barrierRow_wf h fun _ h => ite_wf (wakeOutcome_wf h) (stageSeen_wf h)
theorem waitImageTimeout_wf : (waitImageTimeout s).wf := ite_wf h (reachAge_wf h)
theorem bootAttemptTimeout_wf : (bootAttemptTimeout s).wf := ite_wf h (attemptFails_wf (clocks_wf h))

theorem performDue_wf : (performDue s).wf :=
  ite_wf (slotSwitch_wf (frame_wf h)) (ite_wf (hpwResetEffect_wf (frame_wf (frame_wf h))) (ite_wf (hpwResetEffect_wf (frame_wf (frame_wf
    h))) (hpwResetEffect_wf (frame_wf (frame_wf h)))))

theorem nearest_wf : (nearest s).wf := by
  unfold nearest
  split
  · exact ite_wf (performDue_wf (clocks_wf h)) (ponrCheck_wf (clocks_wf h))
  · exact ite_wf (performDue_wf (clocks_wf h)) (clocks_wf h)

theorem dueNow_wf : (dueNow s).wf := ite_wf (performDue_wf h) (by split; exacts [ite_wf (ponrCheck_wf h) h, h])
theorem idle_wf : (idle s).wf := ite_wf (enterStandby_wf h) (ite_wf (pollAgain_wf (dueNow_wf (clocks_wf h))) (nearest_wf h))

/-! ### The dispatcher and the step -/

omit h in
/-- A command that answers a next state answers one of the invariant. -/
def AnswersWf (r : Res) : Prop := ∀ t, r = .next t → t.wf

theorem AnswersWf.next : AnswersWf (.next s) := fun _ e => Host.Outcome.next.inj e ▸ h

omit h in
theorem AnswersWf.fault {r : Fault} : AnswersWf (.fault r) := fun _ e => nomatch e

omit h in
theorem AnswersWf.ite {c : Prop} [Decidable c] {a b : Res} (ha : AnswersWf a) (hb : AnswersWf b) : AnswersWf (if c then a else b) := by
  split
  · exact ha
  · exact hb

theorem execRegisterWrite_wf {die : Die} {addr : Word} {size : AccSize} {value : Word} :
    AnswersWf (execRegisterWrite die addr size value s) := by
  unfold execRegisterWrite
  split
  · exact .ite (.next h) (.ite .fault (.ite (.next (radioWrite_wf h)) (.next h)))
  · refine .ite .fault (.ite (.next h) ?_)
    split
    · exact .next (ite_wf (hostWrite_wf h) h)
    · exact .next (reqWindowWrite_wf h)
    · exact .next (rspMem_wf h (tabWriteBytes_wf _ _ _ _ (wf_iff.mp h).1.2.2.1))
    · exact .next (tagmWrite_wf h)

theorem execLowWordLatchRead_wf {die : Die} {addr : Word} {size : AccSize} : AnswersWf (execLowWordLatchRead die addr size s) := by
  have returned : ∀ {w : Word} {t : State}, t.wf → (returned (w, t)).wf := fun h => frame_wf h
  unfold execLowWordLatchRead
  split
  · exact .ite .fault (.ite (.next h) (.ite (.next (returned h)) (.next (returned (radioRead_snd_wf h)))))
  · exact .ite .fault (.ite (.next h) (.next (returned (hostReadAt_snd_wf h))))

theorem exec_wf (c : Instr) : AnswersWf (exec c s) := by
  cases c with
  | refClockFailure => exact .next (refClockFailure_wf h)
  | registerWrite => exact execRegisterWrite_wf h
  | shadowWrite => exact .next (shadowWrite_wf h)
  | applyHoldWrite => exact .next (applyHoldWrite_wf h)
  | applyDiscard => exact .next (applyDiscard_wf h)
  | applyBoundary => exact .next (planSettle_wf (applyBoundary_wf h))
  | guardedValueWrite => exact .next (guardedValueWrite_wf h)
  | guardTimeout => exact .next (guardTimeout_wf h)
  | lowWordLatchRead => exact execLowWordLatchRead_wf h
  | ntbTimeRead => exact .next (ntbTimeRead_wf h)
  | ntbSet => exact .next (settle_wf (ntbSet_wf h))
  | ntbStep => exact .next (settle_wf (ntbStep_wf h))
  | ntbSecond => exact .next (ntbSecond_wf h)
  | ppsSecArm => exact .next (ppsSecArm_wf h)
  | ppsEdge => exact .next (ppsEdge_wf h)
  | ppsLossTimeout => exact .next (ppsLossTimeout_wf h)
  | revertHoldExpiry => exact .next (revertHoldExpiry_wf h)
  | holdoverAlarm => exact .next (holdoverAlarm_wf h)
  | captureEdge => exact .next (captureEdge_wf h)
  | captureRead => exact .next (captureRead_wf h)
  | lampStart => exact .next (lampStart_wf h)
  | lampEnd => exact .next (lampEnd_wf h)
  | agcWindowEnd => exact .next (agcWindowEnd_wf h)
  | dcReconverged => exact .next (dcReconverged_wf h)
  | satLong => exact .next (testSettle_wf (satLong_wf h))
  | sAlignDone => exact .next (sAlignDone_wf h)
  | pathSubst => exact .next (pathSubst_wf h)
  | pathReturn => exact .next (testSettle_wf (pathReturn_wf h))
  | surveyDone => exact .next (surveyDone_wf h)
  | healthCheck => exact .next (testSettle_wf (healthCheck_wf h))
  | pathCalibrationDone => exact .next (testSettle_wf (pathCalDone_wf h))
  | bandRetune => exact .next (bandRetune_wf h)
  | rxpBandWrite => exact .next (rxpBandWrite_wf h)
  | rxpPathCfgWrite => exact .next (rxpPathCfgWrite_wf h)
  | synLock => exact .next (settle_wf (retuneEnd_wf (synLock_wf h)))
  | lockLost => exact .next (settle_wf (lockLost_wf h))
  | synCalTimeout => exact .next (settle_wf (retuneEnd_wf (synCalTimeout_wf h)))
  | staleEval => exact .next (staleEval_wf h)
  | synRefreshStart => exact .next (synRefreshStart_wf h)
  | rasterWrite => exact .next (rasterWrite_wf h)
  | refreshStale => exact .next (refreshStale_wf h)
  | calEntry => exact .next (calEntry_wf h)
  | calAllValid => exact .next (calAllValid_wf h)
  | invalidateAll => exact .next (invalidateAll_wf h)
  | idleStandby => exact .next (idleStandby_wf h)
  | lockDue => exact .next (settle_wf (lockDue_wf h))
  | driverEnable => exact .next (settle_wf (driverEnable_wf h))
  | rampDownEnd => exact .next (settle_wf (rampDownEnd_wf h))
  | txpEnWrite => exact .next (settle_wf (txpEnWrite_wf h))
  | txLate => exact .next (settle_wf (txLate_wf h))
  | carrierStart => exact .next (settle_wf (carrierStart_wf h))
  | coexGntSample => exact .next (settle_wf (coexGntSample_wf h))
  | coexGntEdge => exact .next (settle_wf (coexGntEdge_wf h))
  | coexReqEdge => exact .next (coexReqEdge_wf h)
  | coexCfgWrite => exact .next (coexCfgWrite_wf h)
  | coexTimingWrite => exact .next (coexTimingWrite_wf h)
  | syncMatch => exact .next (syncMatch_wf h)
  | headerCheck => exact .next (recorded_wf (headerCheck_wf h))
  | payloadCrc => exact .next (recorded_wf (payloadCrc_wf h))
  | powerStep => exact .next (powerStep_wf h)
  | powerStepClear => exact .next (powerStepClear_wf h)
  | subtractStart => exact .next (subtractStart_wf h)
  | redecodeEnd => exact .next (recorded_wf (redecodeEnd_wf h))
  | statLatch => exact .next (statLatch_wf h)
  | statClear => exact .next (statClear_wf h)
  | lbtAssess => exact .next (settle_wf (lbtAssess_wf h))
  | maskEval => exact .next (settle_wf (maskEval_wf h))
  | immediateAck => exact .next (settle_wf (immediateAck_wf h))
  | beaconSchedule => exact .next (beaconSchedule_wf h)
  | lighthouseSchedule => exact .next (lighthouseSchedule_wf h)
  | nodeEventSchedule => exact .next (settle_wf (nodeEventSchedule_wf h))
  | opqFull => exact .next (opqFull_wf h)
  | rxWindowClose => exact .next (settle_wf (rxWindowClose_wf h))
  | supervisionTimeout => exact .next (supervisionTimeout_wf h)
  | upstreamBeaconMissed => exact .next (upstreamBeaconMissed_wf h)
  | opqArm => exact .next (opqArm_wf h)
  | opqCancel => exact .next (settle_wf (opqCancel_wf h))
  | opqStart => exact .next (settle_wf (opqStart_wf (windowRequest_wf h)))
  | measureEnd => exact .next (measureEnd_wf h)
  | opqRelease => exact .next (opqRelease_wf h)
  | hostResWrite => exact .next (hostResWrite_wf h)
  | slotCfgWrite => exact .next (slotCfgWrite_wf h)
  | relayCfgWrite => exact .next (relayCfgWrite_wf h)
  | opqNidWrite => exact .next (opqNidWrite_wf h)
  | recordIntake => exact .next (recordIntake_wf h)
  | micResult => exact .next (micResult_wf h)
  | loadWindow => exact .next (loadWindow_wf h)
  | contextMove => exact .next (contextMoveRow_wf h)
  | marginPeriod => exact .next (marginPeriod_wf h)
  | marginReport => exact .next (marginReport_wf h)
  | finalSend => exact .next (finalSend_wf h)
  | finalFrame => exact .next (finalFrame_wf h)
  | finalAck => exact .next (finalAckRow_wf h)
  | finalAckTimeout => exact .next (finalAckTimeout_wf h)
  | finalQuery => exact .next (finalQuery_wf h)
  | finalNak => exact .next (finalNak_wf h)
  | counterUpdate => exact .next (counterUpdate_wf h)
  | replicaPromote => exact .next (replicaPromote_wf h)
  | heardTable => exact .next (heardTable_wf h)
  | joinSeen => exact .next (joinSeen_wf h)
  | joinElection => exact .next (joinElection_wf h)
  | rescueWant => exact .next (rescueWant_wf h)
  | rescueCopy => exact .next (rescueCopy_wf h)
  | rescueWaitExpiry => exact .next (rescueWaitExpiry_wf h)
  | rescueHoldExpiry => exact .next (rescueHoldExpiry_wf h)
  | guestAgeExpiry => exact .next (guestAgeExpiry_wf h)
  | frdLookup => exact .next (frdLookup_wf h)
  | contextFrame => exact .next (contextRow_wf h)
  | downlinkFrame => exact .next (downlinkFrame_wf h)
  | linkPulseDetect => exact .next (linkPulseDetect_wf h)
  | trainPhaseEnd => exact .next (trainPhaseEnd_wf h)
  | trainFail => exact .next (trainFail_wf h)
  | trainRetryWait => exact .next (trainRetryWait_wf h)
  | codewordLockLost => exact .next (codewordLockLost_wf h)
  | fallback => exact .next (fallback_wf h)
  | rateUpHoldExpiry => exact .next (rateUpHoldExpiry_wf h)
  | mrPortDisable => exact .next (mrPortDisable_wf h)
  | mrRetxTimeout => exact .next (mrRetxTimeout_wf h)
  | tmarkSend => exact .next (tmarkSend_wf h)
  | timeSync => exact .next (timeSync_wf h)
  | helloSend => exact .next (helloSend_wf h)
  | hello => exact .next (hello_wf h)
  | helloMiss => exact .next (helloMiss_wf h)
  | linkEvent => exact .next (linkEvent_wf h)
  | unreachableDrop => exact .next (unreachableDrop_wf h)
  | eskelForward => exact .next (eskelForward_wf h)
  | mrEskelAnswer => exact .next (mrEskelAnswer_wf h)
  | mrChainCfgWrite => exact .next (mrChainCfgWrite_wf h)
  | evcFire => exact .next (evcFire_wf h)
  | taskDelivery => exact .next (taskDelivery_wf h)
  | rhizomeNotify => exact .next (rhizomeNotify_wf h)
  | evfSwtrig => exact .next (evfSwtrig_wf h)
  | evfSwgateWrite => exact .next (evfSwgateWrite_wf h)
  | evfCountClr => exact .next (evfCountClr_wf h)
  | timestampRead => exact .next (timestampRead_wf h)
  | loopWatch => exact .next (loopWatch_wf h)
  | cphSubmit => exact .next (cphSubmit_wf h)
  | cphStart => exact .next (cphStart_wf h)
  | cphCoreDone => exact .next (cphCoreDone_wf h)
  | cphCompletion => exact .next (cphCompletion_wf h)
  | cphHsubmit => exact .next (cphHsubmit_wf h)
  | cphHresultRead => exact .next (cphHresultRead_wf h)
  | cphCfgWrite => exact .next (cphCfgWrite_wf h)
  | keySlotChange => exact .next (keySlotChange_wf h)
  | cphKeyInval => exact .next (cphKeyInval_wf h)
  | barrierTraining => exact .next (barrierTrainingRow_wf h)
  | barrierRetry => exact .next (barrierRetry_wf h)
  | barrierSilence => exact .next (barrierSilence_wf h)
  | barrierRetxTimeout => exact .next (barrierRetxTimeout_wf h)
  | ack => exact .next (ackMsg_wf h)
  | linkState => exact .next (linkState_wf h)
  | eskelReq => exact .next (eskelReq_wf h)
  | eskelAnswer => exact .next (eskelAnswer_wf h)
  | eskelEvent => exact .next (eskelEvent_wf h)
  | uplink => exact .next (uplink_wf h)
  | logEntry => exact .next (logEntry_wf h)
  | imageChunk => exact .next (imageChunk_wf h)
  | startKeeper => exact .next (startKeeper_wf h)
  | loadFronds => exact .next (loadFronds_wf h)
  | radioUp => exact .next (radioUp_wf h)
  | wake => exact .next (wake_wf h)
  | bootStatus => exact .next (bootStatus_wf h)
  | keyLoadMessage => exact .next (keyLoadMessage_wf h)
  | netTime => exact .next (netTimeRow_wf h)
  | radioReset => exact .next (radioReset'_wf h)
  | doorbell => exact .next (doorbell_wf h)
  | reqWindowWrite => exact .next (reqWindowWrite_wf h)
  | tenderCopy => exact .next (tenderCopy_wf h)
  | responseWrite => exact .next (responseWrite_wf h)
  | ringHeadWrite => exact .next (ringHeadWrite_wf h)
  | ringCfgWrite => exact .next (ringCfgWrite_wf h)
  | spiRelease => exact .next (spiRelease_wf h)
  | spiWindowTimer => exact .next (spiWindowTimer_wf h)
  | nop => exact .next (nopCmd_wf h)
  | sysStatus => exact .next (sysStatus_wf h)
  | sysReset => exact .next (sysReset_wf h)
  | cancel => exact .next (cancel_wf h)
  | settingsSave => exact .next (settingsSave_wf h)
  | settingsDefault => exact .next (settingsDefault_wf h)
  | idGet => exact .next (idGet_wf h)
  | certRead => exact .next (certRead_wf h)
  | planLoad => exact .next (planLoad_wf h)
  | planGet => exact .next (planGet_wf h)
  | chSet => exact .next (chSet_wf h)
  | chStats => exact .next (chStats_wf h)
  | chTrace => exact .next (chTrace_wf h)
  | radioStatus => exact .next (radioStatus_wf h)
  | bandCfg => exact .next (bandCfg_wf h)
  | pathEnable => exact .next (pathEnable_wf h)
  | radioRetune => exact .next (radioRetune_wf h)
  | survey => exact .next (survey_wf h)
  | surveyRead => exact .next (surveyRead_wf h)
  | nodeAdd => exact .next (nodeAdd_wf h)
  | nodeRemove => exact .next (nodeRemove_wf h)
  | nodeGet => exact .next (nodeGet_wf h)
  | nodeList => exact .next (nodeList_wf h)
  | nodeConn => exact .next (nodeConn_wf h)
  | nodeSupervise => exact .next (nodeSupervise_wf h)
  | dlSend => exact .next (dlSend_wf h)
  | dlQueue => exact .next (dlQueue_wf h)
  | bcastSend => exact .next (bcastSend_wf h)
  | timeGet => exact .next (timeGet_wf h)
  | timeSet => exact .next (timeSet_wf h)
  | timeStep => exact .next (timeStep_wf h)
  | ppsArm => exact .next (ppsArm_wf h)
  | timeSrcCfg => exact .next (timeSrcCfg_wf h)
  | slotCfg => exact .next (slotCfg_wf h)
  | beaconCfg => exact .next (beaconCfg_wf h)
  | relayCfg => exact .next (relayCfg_wf h)
  | rtcSync => exact .next (rtcSync_wf h)
  | mrStatus => exact .next (mrStatus_wf h)
  | mrChainSet => exact .next (mrChainSet_wf h)
  | mrPortCfg => exact .next (mrPortCfg_wf h)
  | mrPortEnable => exact .next (mrPortEnable_wf h)
  | evcSet => exact .next (evcSet_wf h)
  | evcGet => exact .next (evcGet_wf h)
  | evfStatus => exact .next (evfStatus_wf h)
  | powerState => exact .next (powerState_wf h)
  | powerStatus => exact .next (powerStatus_wf h)
  | keyLoad => exact .next (keyLoad_wf h)
  | keyInval => exact .next (keyInval_wf h)
  | keyAttr => exact .next (keyAttrCmd_wf h)
  | ockReplace => exact .next (ockReplace_wf h)
  | updBegin => exact .next (updBegin_wf h)
  | updWrite => exact .next (updWrite_wf h)
  | updCommit => exact .next (updCommit_wf h)
  | updStatus => exact .next (updStatus_wf h)
  | updAbort => exact .next (updAbort_wf h)
  | logRead => exact .next (logRead_wf h)
  | snapRead => exact .next (snapRead_wf h)
  | sensRead => exact .next (sensRead_wf h)
  | sensLimits => exact .next (sensLimits_wf h)
  | bistRun => exact .next (bistRun_wf h)
  | pathTest => exact .next (pathTest_wf h)
  | tone => exact .next (tone_wf h)
  | loopback => exact .next (loopback_wf h)
  | unitService => exact .next (unitService_wf h)
  | regAccess => exact .next (regAccess_wf h)
  | regAccessCrit => exact .next (regAccessCrit_wf h)
  | rtcTick => exact .next (rtcTick_wf h)
  | rtcShadowWrite => exact .next (rtcShadowWrite_wf h)
  | rtcLoad => exact .next (rtcLoad_wf h)
  | rtcDiscard => exact .next (rtcDiscard_wf h)
  | rtcAlarmArm => exact .next (rtcAlarmArm_wf h)
  | crystalStop => exact .next (crystalStop_wf h)
  | rtcPowerOn => exact .next (rtcPowerOn_wf h)
  | switchToVbat => exact .next (switchToVbat_wf h)
  | switchReturn => exact .next (switchReturn_wf h)
  | switchLogClear => exact .next (switchLogClear_wf h)
  | flashRead => exact .next (flashRead_wf h)
  | flashProgram => exact .next (flashProgram_wf h)
  | flashProgramDone => exact .next (flashProgramDone_wf h)
  | flashErase => exact .next (flashErase_wf h)
  | flashEraseDone => exact .next (flashEraseDone_wf h)
  | blankCheck => exact .next (blankCheck_wf h)
  | blankCheckDone => exact .next (blankCheckDone_wf h)
  | flashSuspend => exact .next (flashSuspend_wf h)
  | flashResume => exact .next (flashResume_wf h)
  | suspendTakeEffect => exact .next (suspendTakeEffect_wf h)
  | settingsCompact => exact .next (settingsCompact_wf h)
  | trialConfirm => exact .next (trialConfirm_wf h)
  | trialTimerExpiry => exact .next (trialTimerExpiry_wf h)
  | pmbusTimeout => exact .next (pmbusTimeout_wf h)
  | pmbAlert => exact .next (pmbAlert_wf h)
  | avsStep => exact .next (avsStep_wf h)
  | pwrStateRequest => exact .next (pwrStateRequest_wf h)
  | transitionDone => exact .next (transitionDone_wf h)
  | uplinkDrainExpiry => exact .next (uplinkDrainExpiry_wf h)
  | holdTimerWake => exact .next (holdTimerWake_wf h)
  | cap0Wake => exact .next (cap0Wake_wf h)
  | wakeStageLate => exact .next (wakeStageLate_wf h)
  | islandBrownout => exact .next (islandBrownout_wf h)
  | replicaRestoreTimeout => exact .next (replicaRestoreRow_wf h)
  | hpwStandby => exact .next (hpwStandby_wf h)
  | hostWake => exact .next (hostWake_wf h)
  | lockstepMismatch => exact .next (lockstepMismatch_wf h)
  | eccError => exact .next (eccError_wf h)
  | sensorSample => exact .next (sensorSample_wf h)
  | railSample => exact .next (railSample_wf h)
  | wdtKick => exact .next (wdtKick_wf h)
  | watchdogWarn => exact .next (watchdogWarn_wf h)
  | watchdogExpiry => exact .next (watchdogExpiry_wf h)
  | kprWdtCfg => exact .next (kprWdtCfg_wf h)
  | tenderWdogWarn => exact .next (tenderWdogWarn_wf h)
  | tenderWdtExpiry => exact .next (tenderWdtExpiry_wf h)
  | fieldOn => exact .next (fieldOn_wf h)
  | fieldLost => exact .next (fieldLost_wf h)
  | reqa => exact .next (reqa_wf h)
  | wupa => exact .next (wupa_wf h)
  | anticollisionSelect => exact .next (anticollisionSelect_wf h)
  | hlta => exact .next (hlta_wf h)
  | rats => exact .next (rats_wf h)
  | sDeselect => exact .next (sDeselect_wf h)
  | tagOtherFrame => exact .next (tagOtherFrame_wf h)
  | getInfo => exact .next (getInfo_wf h)
  | authBegin => exact .next (authBegin_wf h)
  | authFinish => exact .next (authFinish_wf h)
  | readPage => exact .next (readPage_wf h)
  | writePage => exact .next (writePage_wf h)
  | setConfig => exact .next (setConfig_wf h)
  | pageWriteDone => exact .next (pageWriteDone_wf h)
  | quietExpiry => exact .next (quietExpiry_wf h)
  | tagmWrite => exact .next (tagmWrite_wf h)
  | tagCommit => exact .next (tagCommit_wf h)
  | tagDiscard => exact .next (tagDiscard_wf h)
  | quietClr => exact .next (quietClr_wf h)
  | tagKeyLoad => exact .next (tagKeyLoad_wf h)
  | cfgStore => exact .next (cfgStore_wf h)
  | commitHoldTimeout => exact .next (commitHoldTimeout_wf h)
  | powerOn => exact .next (powerOn_wf h)
  | pinReset => exact .next (pinReset_wf h)
  | sysResetWrite => exact .next (sysResetWrite_wf h)
  | hpwResetHostDie => exact .next (hpwResetHostDie_wf h)
  | hpwResetRadioDie => exact .next (hpwResetRadioDie_wf h)
  | romBoot => exact .next (romBoot_wf h)
  | waitImageTimeout => exact .next (waitImageTimeout_wf h)
  | bootAttemptTimeout => exact .next (bootAttemptTimeout_wf h)
  | bistDone => exact .next (bistDone_wf h)
  | toneEnd => exact .next (toneEnds_wf h)
  | loopbackSwitch => exact .next (loopbackSwitch_wf h)
  | extest => exact .next (tapSelect_wf h)
  | bypass => exact .next (tapSelect_wf h)
  | idcode => exact .next (tapSelect_wf h)
  | samplePreload => exact .next (tapSelect_wf h)
  | tapReset => exact .next (tapSelect_wf h)
  | downlinkLifetimeExpiry => exact .next (downlinkLifetimeExpiry_wf h)
  | nodeAddWaitExpiry => exact .next (nodeAddWaitExpiry_wf h)
  | hostPllLockLoss => exact .next (hostPllLockLoss_wf h)
  | acknowledgementOnlyFrame => exact .next (acknowledgementOnlyFrame_wf h)
  | powerLoss => exact .next (powerLoss_wf h)
  | ownBurstImminent => exact .next (ownBurstImminent_wf h)
  | timeExchangeMissing => exact .next (timeExchangeMissing_wf h)
  | crystalRestart => exact .next (crystalRestart_wf h)
  | rtcTimeRead => exact .next (rtcTimeRead_wf h)

end

theorem step_wf {s t : State} (h : s.wf) (e : step s = .next t) : t.wf := by
  unfold step at e
  split at e
  · exact Host.Outcome.next.inj e ▸ idle_wf h
  · exact exec_wf (frame_wf h) _ _ e

/-- Settles O59: the queue's front command or idling, each of which keeps the invariant operation by operation. -/
theorem stepKeepsInvariant : Obligations.StepKeepsInvariant := fun _ _ h e => step_wf h e

end Sys2Proof.Machine
end

section
/-! SUPPORT. The refutation of O41: a state in which a slew term is in effect and no offset is left to remove. -/

namespace Sys2Proof.Machine

/-- The radio die out of reset, 10 ms after the last core-supply step, with a slew term in effect whose offset is already removed. -/
def slewWithoutOffset : State := { State.reset with ntb := { clk := 6553600, slew := 1 } }

theorem slewWithoutOffset_inRun : getF slewWithoutOffset 0x10000 1 0 = 0 ∧ getB slewWithoutOffset 0x10020 0 = true ∧
    slewWithoutOffset.power.dead = false := by decide +kernel

/-- A core-supply step due now lets no clock pass, and in that instant the slew without an offset ends (R46). -/
theorem avsStep_slewWithoutOffset : (avsStep true false slewWithoutOffset).ntb.slew = 0 := by decide +kernel

/-- Refutes O41, by its clause on AVS_STEP: of a step whose 10 ms have passed it says that the time base stays as it was, but where a slew
term with no offset left is in effect, reaching the step's instant ends the slew. The model's own operations begin no such slew (`correct`);
the obligation speaks of every state. -/
theorem not_powerFaultsAndHostStates : ¬ Obligations.PowerFaultsAndHostStates := by
  rintro ⟨-, -, -, -, avs, -⟩
  obtain ⟨run, on, alive⟩ := slewWithoutOffset_inRun
  obtain ⟨-, ⟨t, step, -, same⟩, -⟩ := (avs true false slewWithoutOffset).2 run on alive
  obtain rfl : avsStep true false slewWithoutOffset = t := Host.Outcome.next.inj step
  have kept : (0 : Int) = 1 := avsStep_slewWithoutOffset.symm.trans (congrArg TimeBase.slew (same (by decide +kernel)))
  exact absurd kept (by decide)

end Sys2Proof.Machine
end

section
/-! SUPPORT. The resets of the two dies (O42): what a cause register holds after a reset, what a register reads where a reset kept only
part of the table, and the state either reset leaves. -/

namespace Sys2Proof.Machine

/-! ### Tables of which a part is kept -/

theorem tabFind_filter {α : Type} (keep : Nat → Bool) (t : Tab α) (k : Nat) :
    tabFind (t.filter fun p => keep p.1) k = if keep k then tabFind t k else none := by
  induction t with
  | nil => simp [tabFind]
  | cons p t ih =>
    obtain ⟨a, v⟩ := p
    by_cases hk : a = k
    · subst hk
      by_cases ha : keep a <;> simp [ha, tabFind, ih]
    · by_cases ha : keep a <;> simp [ha, tabFind, ih, hk]

theorem tabGet_filter {α : Type} (d : Nat → α) (keep : Nat → Bool) (t : Tab α) (k : Nat) :
    tabGet d (t.filter fun p => keep p.1) k = if keep k then tabGet d t k else d k := by
  unfold tabGet
  rw [tabFind_filter]
  split <;> rfl

/-! ### The record of causes (R475) -/

/-- A cause register in its three parts: the count, the last cause, the causes seen. -/
theorem causeWord_parts (w : Word) (code sub : Nat) (hc : code ≤ 9) (hs : sub ≤ 3) :
    ∃ seen, seen < 2 ^ 16 ∧ seen.testBit (code - 1) = true ∧
      (causeWord w false false code sub).toNat = 2 ^ 16 * (2 ^ 8 * min 255 (fieldOf w 31 24 + 1) + (sub * 16 + code)) + seen := by
  have small : fieldOf w 8 0 ||| 2 ^ (code - 1) < 2 ^ 16 :=
    Nat.or_lt_two_pow ((Nat.mod_lt _ (by decide)).trans (by decide : 2 ^ (8 + 1 - 0) < 2 ^ 16))
      (Nat.pow_lt_pow_right (by decide) (by omega))
  refine ⟨_, small, by simp [Nat.testBit_or, Nat.testBit_two_pow_self], ?_⟩
  simp only [causeWord, Bool.false_eq_true, if_false, Bool.false_and, BitVec.toNat_ofNat]
  generalize fieldOf w 8 0 ||| 2 ^ (code - 1) = seen at *
  omega

theorem causeWord_last (w : Word) {code sub : Nat} (hc : code ≤ 9) (hs : sub ≤ 3) :
    fieldOf (causeWord w false false code sub) 19 16 = code := by
  obtain ⟨seen, hseen, -, e⟩ := causeWord_parts w code sub hc hs
  simp only [fieldOf, e, Nat.shiftRight_eq_div_pow]
  omega

theorem causeWord_count (w : Word) {code sub : Nat} (hc : code ≤ 9) (hs : sub ≤ 3) :
    fieldOf (causeWord w false false code sub) 31 24 = min 255 (fieldOf w 31 24 + 1) := by
  obtain ⟨seen, hseen, -, e⟩ := causeWord_parts w code sub hc hs
  rw [fieldOf, e, Nat.shiftRight_eq_div_pow]
  omega

theorem causeWord_seen (w : Word) {code sub : Nat} (hc : code ≤ 9) (hs : sub ≤ 3) :
    bitOf (causeWord w false false code sub) (code - 1) = true := by
  obtain ⟨seen, hseen, bit, e⟩ := causeWord_parts w code sub hc hs
  rw [bitOf, ← BitVec.testBit_toNat, e, Nat.testBit_two_pow_mul_add _ hseen, if_pos (by omega), bit]

/-- A reset in a clock of its own does not count as one in the clock of the last. -/
theorem sameClock_of_earlier {l : LinkEnd} {s : State} (h : resetEarlier l s = true) : sameClock l s = false := by
  unfold sameClock
  unfold resetEarlier at h
  cases hl : l.resetAt with
  | none => rfl
  | some a =>
    have : a < s.age := by simpa [hl] using h
    simp; omega

/-! ### The radio die -/

/-- The die after a reset that keeps its island, before the cause is recorded. -/
def radioRestarted (s : State) : State :=
  let e := radioEmpty (islandRegs s) s
  setF 8 3 0 0 (powerRun { e with linkR := { e.linkR with resets := e.linkR.resets + 1, resetAt := some e.age } })

/-- A reset that is not the rise of the supply keeps the attempts of register 8. -/
theorem radioDieReset_eq {code : Nat} (h : code ≠ causePowerOn) (sub : Nat) (s : State) : radioDieReset code sub s =
    wr 4 (causeWord (rd (radioRestarted s) 4) false (sameClock s.linkR s) code sub) (radioRestarted s) := by
  simp only [radioDieReset, if_neg h]
  rfl

theorem rd_islandRegs (s : State) (o : Nat) :
    tabGet radioReset (islandRegs s) o = if o = 4 ∨ o = 8 ∨ o / 0x10000 = 1 then rd s o else radioReset o := by
  have := tabGet_filter radioReset (fun k => k == 4 || k == 8 || k / 0x10000 == 1) s.reg o
  simpa [islandRegs, or_assoc, rd] using this

/-- The registers after a die reset: the island's stay but for PWR's state and rails and the attempts under way. -/
theorem rd_radioRestarted (s : State) (o : Nat) : rd (radioRestarted s) o =
    if o = 8 then withField (rd s 8) 3 0 0
    else if o = 0x100A0 then 0x1F
    else if o = 0x10000 then withField (rd s 0x10000) 14 0 0
    else if o = 4 ∨ o / 0x10000 = 1 then rd s o
    else radioReset o := by
  have island (l : LinkEnd) (p : Power) (k : Nat) :
      rd { radioEmpty (islandRegs s) s with linkR := l, power := p } k = if k = 4 ∨ k = 8 ∨ k / 0x10000 = 1 then rd s k else radioReset k :=
    rd_islandRegs s k
  simp only [radioRestarted, powerRun, setF, rd_wr, island]
  by_cases h8 : o = 8
  · simp [h8]
  · simp [h8]

theorem fieldOf_withField_low (w : Word) : fieldOf (withField w 14 0 0) 1 0 = 0 := by
  have h := fieldOf_withField w 14 0 0 (by decide)
  simp only [fieldOf, Nat.shiftRight_zero] at *
  omega

/-- Once its cause is recorded, a restarted die is as R45, R474 and R475 say. -/
theorem radioRestarted_wasReset {cause : Nat} {w : Word} (s : State) (last : fieldOf w 19 16 = cause) (seen : bitOf w (cause - 1) = true)
    (count : fieldOf w 31 24 = min 255 (fieldOf (rd s 4) 31 24 + 1)) : radioWasReset cause s (wr 4 w (radioRestarted s)) := by
  have kept {o : Nat} (ho : o ≠ 4) : rd (wr 4 w (radioRestarted s)) o = rd (radioRestarted s) o := rd_wr_other _ _ ho
  have record : rd (wr 4 w (radioRestarted s)) 4 = w := rd_wr_same _ _ _
  refine ⟨?run, rfl, rfl, rfl, rfl, rfl, rfl, rfl, rfl, ?last, ?seen, ?count, ?none, ?tries, ?other, rfl, rfl, rfl, rfl, rfl, rfl, rfl, rfl⟩
  case run => simp [radioPower, getF, kept, rd_radioRestarted, fieldOf_withField_low]
  case last => rw [record, last]
  case seen => rw [record, seen]
  case count => rw [record, count]
  case none => simp [getF, kept, rd_radioRestarted, fieldOf_withField]
  case tries => simp [getF, kept, rd_radioRestarted, fieldOf_withField_other]
  case other =>
    intro o h4 h8 hi
    rw [kept h4, rd_radioRestarted, if_neg h8, if_neg (by omega), if_neg (by omega), if_neg (by simp [h4, hi])]

/-- A reset of the die in a clock of its own. -/
theorem radioDieReset_wasReset {code : Nat} (h : code ≠ causePowerOn) (hc : code ≤ 9) {s : State} (once : resetEarlier s.linkR s = true) :
    radioWasReset code s (radioDieReset code 0 s) := by
  have before : rd (radioRestarted s) 4 = rd s 4 := by simp [rd_radioRestarted]
  rw [radioDieReset_eq h, sameClock_of_earlier once, before]
  exact radioRestarted_wasReset s (causeWord_last _ hc (by decide)) (causeWord_seen _ hc (by decide)) (causeWord_count _ hc (by decide))

/-- A reset of a state that differs from `s` in what passing clocks change is a reset of `s`. -/
theorem radioWasReset.after {cause : Nat} {s u t : State} (h : radioWasReset cause u t)
    (same : { u with age := s.age, ntb := s.ntb, reg := s.reg, regWas := s.regWas, hregWas := s.hregWas } = s)
    (record : rd u 4 = rd s 4) (attempts : rd u 8 = rd s 8) : radioWasReset cause s t := by
  unfold radioWasReset getF at *
  rw [record, attempts] at h
  rw [← same]
  exact h

theorem age_le_clocks (n : Nat) (s : State) : s.age ≤ (clocks n s).age := by
  unfold clocks plainClocks endSlew
  simp only
  repeat' split
  all_goals simp only [setB, wr]; omega

theorem radioReset1_running {s : State} (alive : s.power.dead = false) (on : radioPower s < 2) (code sub : Nat) :
    radioReset1 code sub s = radioDieReset code sub s := by
  unfold radioReset1
  rw [if_neg (by simp [alive]), if_neg (by omega)]

/-- A reset after the clocks between a write and its effect. -/
theorem radioDieReset_clocks {code : Nat} (h : code ≠ causePowerOn) (hc : code ≤ 9) (n : Nat) {s : State} (alive : s.power.dead = false)
    (on : radioPower s < 2) (once : resetEarlier s.linkR s = true) : radioWasReset code s (radioReset1 code 0 (clocks n s)) := by
  have same := clocks_only n s
  have power : (clocks n s).power = s.power := by have := congrArg State.power same; exact this
  have link : (clocks n s).linkR = s.linkR := by have := congrArg State.linkR same; exact this
  have state : radioPower (clocks n s) = radioPower s := by rw [radioPower, getF, rd_clocks n s (by decide)]; rfl
  have still : resetEarlier (clocks n s).linkR (clocks n s) = true := by
    rw [link]
    have := age_le_clocks n s
    cases hr : s.linkR.resetAt <;> simp [resetEarlier, hr] at once ⊢
    omega
  rw [radioReset1_running (by rw [power, alive]) (by omega)]
  exact (radioDieReset_wasReset h hc still).after same (rd_clocks n s (by decide)) (rd_clocks n s (by decide))

theorem rd_radioIslandReset (code : Nat) (s : State) (o : Nat) :
    rd (radioIslandReset code s) o = if o = 4 then causeWord 0 true false code 0 else radioReset o := rd_wr ..

theorem wr_only (o : Nat) (w : Word) (s : State) : { wr o w s with reg := s.reg } = s := rfl

/-- What the resets of a running radio die leave, by cause (R15, R440, R441, R474). -/
theorem radioResets_running {s : State} (alive : s.power.dead = false) (on : radioPower s < 2) (once : resetEarlier s.linkR s = true) :
    Completes .refClockFailure s (radioWasReset 8 s) ∧ Completes .lockstepMismatch s (radioWasReset 7 s) ∧
      Completes (.eccError true) s (radioWasReset 7 s) ∧ Completes (.pinReset .radio) s (radioWasReset 3 s) := by
  have runs : coreRuns s = true := by
    show (!s.power.dead && decide (radioPower s < 2)) = true
    simp [alive, on]
  have lockstep : radioWasReset 7 s (lockstepMismatch s) := by
    rw [lockstepMismatch, if_pos runs]
    exact radioDieReset_wasReset (by decide) (by decide) once
  refine ⟨⟨_, rfl, ?_⟩, ⟨_, rfl, lockstep⟩, ⟨_, rfl, lockstep⟩, ⟨_, rfl, ?_⟩⟩
  · rw [refClockFailure, if_pos runs]
    exact radioDieReset_wasReset (by decide) (by decide) once
  · show radioWasReset 3 s (radioReset1 causePin 0 s)
    rw [radioReset1_running alive on]
    exact radioDieReset_wasReset (by decide) (by decide) once

/-- The accepted value of SYS_RESET resets the die; one without bit 0 only ends the pair (R485). -/
theorem sysResetWrite_accepted {s : State} (alive : s.power.dead = false) (on : radioPower s < 2) (once : resetEarlier s.linkR s = true)
    {w : Word} (held : s.guard = some (0x40, ~~~w)) (inTime : guardInTimeR s = true) :
    (bitOf (~~~w) 0 = true → radioWasReset 5 s (sysResetWrite w s)) ∧
      (bitOf (~~~w) 0 = false → sysResetWrite w s = { s with guard := none }) := by
  have accepted : sysResetWrite w s = sysResetEffect 0x40 (~~~w) { s with guard := none } := by
    have := guardTwinR_match 0x40 (~~~w) sysResetEffect s held inTime
    rwa [BitVec.not_not] at this
  rw [accepted]
  refine ⟨fun bit => ?_, fun bit => by rw [sysResetEffect, bit]; rfl⟩
  rw [sysResetEffect, bit]
  exact radioDieReset_clocks (code := 5) (s := { s with guard := none }) (by decide) (by decide) (clocksOfNs 1000) alive on once

/-- In OFF a reset at the ball is only recorded (log entry 86). -/
theorem pinReset_off {s : State} (alive : s.power.dead = false) (off : radioPower s = 3) (once : resetEarlier s.linkR s = true) :
    onlyRegs [4] { s with linkR := { s.linkR with resetAt := some s.age } } (pinReset .radio s) ∧
      fieldOf (rd (pinReset .radio s) 4) 19 16 = 3 ∧ bitOf (rd (pinReset .radio s) 4) 2 = true := by
  have recorded : pinReset .radio s =
      wr 4 (causeWord (rd s 4) false false causePin 0) { s with linkR := { s.linkR with resetAt := some s.age } } := by
    show radioReset1 causePin 0 s = _
    rw [radioReset1, if_neg (by simp [alive]), if_pos off, sameClock_of_earlier once]
  rw [recorded, rd_wr_same]
  exact ⟨⟨wr_only .., fun o ho => rd_wr_other _ _ (by simpa using ho)⟩, causeWord_last _ (by decide) (by decide),
    causeWord_seen _ (code := 3) (by decide) (by decide)⟩

/-- A single error counts and shows itself (R441). -/
theorem eccError_single {s : State} (runs : coreRuns s = true) : onlyRegs [0xC0004, 0xC0008] s (eccError false s) ∧
    getB (eccError false s) 0xC0004 8 = true ∧ rd (eccError false s) 0xC0008 = rd s 0xC0008 + 1 := by
  have counted : eccError false s = setB 0xC0004 8 true (incW 0xC0008 s) := by simp [eccError, runs]
  rw [counted]
  refine ⟨⟨rfl, fun o ho => ?_⟩, by simp [getB, setB], by simp [setB, incW, rd_wr]⟩
  have ⟨h4, h8⟩ : o ≠ 0xC0004 ∧ o ≠ 0xC0008 := by simpa using ho
  rw [rd_setB_other _ _ _ h4, incW, rd_wr_other _ _ h8]

/-! ### The host die -/

/-- The host die without its contents, before what was owed to it is given. -/
def HostEmptied (s t : State) : Prop :=
  t.tender.tags = [] ∧ t.tender.hold0 = [] ∧ t.tender.reqs = [] ∧ t.hguard = none ∧ t.boot.mode = 0 ∧
    t.linkH.resets = s.linkH.resets + 1 ∧ t.reqMem = s.reqMem ∧ t.rspMem = s.rspMem ∧
    t.tender.snapshot = s.tender.snapshot ∧ t.tender.posted = s.tender.posted ∧ t.boot.slot = s.boot.slot ∧ t.reg = s.reg ∧ t.keeper = s.keeper ∧ t.settings = s.settings

theorem HostEmptied.hwr {s t : State} (h : HostEmptied s t) (o : Nat) (v : Word) : HostEmptied s (hwr o v t) := h

theorem HostEmptied.untried {s t : State} (h : HostEmptied s t) : HostEmptied s { t with boot := { t.boot with trial := false } } := h

theorem HostEmptied.hostWritesCut {s t : State} (h : HostEmptied s t) : HostEmptied s (hostWritesCut t) := by
  unfold Machine.hostWritesCut
  simp only
  split
  · exact h
  · exact h

theorem HostEmptied.loadTagRegs {s t : State} (h : HostEmptied s t) : HostEmptied s (loadTagRegs t) :=
  ((((h.hwr _ _).hwr _ _).hwr _ _).hwr _ _).hwr _ _

theorem HostEmptied.tagShow {s t : State} (h : HostEmptied s t) : HostEmptied s (tagShow t) :=
  (((h.hwr _ _).hwr _ _).hwr _ _).hwr _ _

theorem flashEraseCut_eq (sec : Nat) (xs : List Nat) (s : State) : ∃ f n,
    forAll xs (fun i u => drawFree (setFlWord (sec + i) (some { data := [0], cut := some u.free }) u)) s = { s with flash := f, free := n } := by
  induction xs generalizing s with
  | nil => exact ⟨_, _, rfl⟩
  | cons i xs ih => exact ih (drawFree (setFlWord (sec + i) (some { data := [0], cut := some s.free }) s))

/-- What is cut short in the flash touches the flash, its free values and its status register only. -/
theorem flashCut_eq (s : State) : ∃ f n r, flashCut s = { s with flash := f, free := n, hreg := r } := by
  obtain ⟨f, n, e⟩ := flashEraseCut_eq (s.flash.sector * 512) (notBlank s s.flash.sector) s
  unfold flashCut
  simp only
  rw [e]
  split
  · split <;> exact ⟨_, _, _, rfl⟩
  · split <;> exact ⟨_, _, _, rfl⟩

theorem hostEmpty_emptied (island : Bool) (s : State) : HostEmptied s (hostEmpty island s) := by
  obtain ⟨f, n, r, e⟩ := flashCut_eq s
  unfold hostEmpty
  simp only
  rw [e]
  refine .tagShow (.loadTagRegs (.hostWritesCut ?_))
  exact ⟨rfl, rfl, rfl, rfl, rfl, rfl, rfl, rfl, rfl, rfl, rfl, rfl, rfl, rfl⟩

/-- The registers of the tag lie in the block 6. -/
theorem hrd_tagShow_loadTagRegs (s : State) {o : Nat} (h : o / 0x1000 ≠ 6) : hrd (tagShow (loadTagRegs s)) o = hrd s o := by
  have other {k : Nat} (hk : k / 0x1000 = 6) : o ≠ k := fun e => h (e ▸ hk)
  simp [tagShow, loadTagRegs, forAll, hsetB, hrd_hwr, other]

theorem hrd_hostWritesCut (s : State) (o : Nat) : hrd (hostWritesCut s) o = hrd s o := by
  unfold hostWritesCut
  simp only
  split <;> rfl

theorem hrd_hostEmpty (island : Bool) (s : State) {o : Nat} (h : o / 0x1000 ≠ 6) : hrd (hostEmpty island s) o =
    if o / 0x1000 = 5 ∨ island = false ∧ (o = 0x1008 ∨ o = 0x1004) then hrd s o else hostReset o := by
  unfold hostEmpty
  simp only
  rw [hrd_tagShow_loadTagRegs _ h, hrd_hostWritesCut]
  have kept := tabGet_filter hostReset (fun k => k / 0x1000 == 5 || (!island && (k == 0x1008 || k == 0x1004))) s.hreg o
  simpa [hrd] using kept

/-- An interrupt source that no vector is mapped to only sets its bit. -/
theorem irq_unmapped {n : Nat} {s : State} (h : srcMap s n = 0) : irq n s = hsetB (0x4D00 + n / 32 * 4) (n % 32) true s := by
  simp [irq, h]

/-- One of the RTC's two sources, given where no vector is mapped to it. -/
theorem onlyIf_irq_unmapped (b : Bool) {n : Nat} {s : State} (hn : n / 4 = 3) (map : hrd s 0x4C0C = 0) :
    ∃ r, onlyIf b (irq n) s = { s with hreg := r } ∧ ∀ o, o ≠ 0x4D00 → tabGet hostReset r o = hrd s o := by
  cases b with
  | false => exact ⟨_, rfl, fun _ _ => rfl⟩
  | true =>
    have unmapped : srcMap s n = 0 := by simp [srcMap, hn, map]
    have word : 0x4D00 + n / 32 * 4 = 0x4D00 := by omega
    exact ⟨_, irq_unmapped unmapped, fun o ho => hrd_hsetB_other _ _ _ (word.symm ▸ ho)⟩

/-- What is owed to the host die's next ON, where neither source has a vector, touches the host registers and the RTC's debts. -/
theorem hostOn_unmapped {s : State} (map : hrd s 0x4C0C = 0) : ∃ r,
    hostOn s = { s with hreg := r, rtc := { s.rtc with owedAlarm := false, owedSwitch := false } } ∧
    ∀ o, o ≠ 0x4D00 → tabGet hostReset r o = hrd s o := by
  obtain ⟨r, alarm, hr⟩ := onlyIf_irq_unmapped s.rtc.owedAlarm (n := 13) (by decide) map
  obtain ⟨r', switch, hr'⟩ := onlyIf_irq_unmapped s.rtc.owedSwitch (n := 14) (s := { s with hreg := r }) (by decide)
    ((hr _ (by decide)).trans map)
  refine ⟨r', ?_, fun o ho => (hr' o ho).trans (hr o ho)⟩
  unfold hostOn
  simp only
  rw [alarm, switch]

/-- A host die emptied and started again with the record `w`: its parts and its registers. -/
theorem HostEmptied.restarted {s t : State} (h : HostEmptied s t) (map : hrd t 0x4C0C = 0) (w : Word) :
    HostEmptied s (hostOn (Machine.hwr 0x1008 w t)) ∧ hrd (hostOn (Machine.hwr 0x1008 w t)) 0x1008 = w ∧
      ∀ o, o ≠ 0x1008 → o ≠ 0x4D00 → hrd (hostOn (Machine.hwr 0x1008 w t)) o = hrd t o := by
  obtain ⟨r, e, hr⟩ := hostOn_unmapped (s := Machine.hwr 0x1008 w t) ((hrd_hwr_other _ _ (by decide)).trans map)
  rw [e]
  exact ⟨h, (hr _ (by decide)).trans (hrd_hwr_same ..), fun o h8 hi => (hr o hi).trans (hrd_hwr_other _ _ h8)⟩

theorem hostReset_power : fieldOf (hostReset 0x1000) 1 0 = 0 := by decide

/-- A reset of the host die in a clock of its own leaves what R454, R474 and R475 say. -/
theorem hostDieReset_wasReset {code sub : Nat} (hc : code ≤ 9) (hs : sub ≤ 3) {s : State} (once : resetEarlier s.linkH s = true) :
    hostWasReset code s (hostDieReset code sub s) := by
  have before : hrd (hostEmpty false s) 0x1008 = hrd s 0x1008 := by simp [hrd_hostEmpty]
  unfold hostDieReset
  simp only
  rw [sameClock_of_earlier once, before]
  obtain ⟨parts, record, others⟩ := (hostEmpty_emptied false s).restarted (by simp [hrd_hostEmpty]; decide)
    (causeWord (hrd s 0x1008) false false code sub)
  obtain ⟨tags, hold, reqs, guard, mode, resets, req, rsp, snapshot, posted, slot, reg, keeper, settings⟩ := parts
  refine ⟨?power, tags, hold, reqs, guard, mode, resets, ?last, ?seen, ?count, ?kept, req, snapshot, posted, slot, reg, keeper, settings⟩
  case power => rw [hostPower, hgetF, others _ (by decide) (by decide), hrd_hostEmpty _ _ (by decide)]; exact hostReset_power
  case last => rw [record, causeWord_last _ hc hs]
  case seen => rw [record, causeWord_seen _ hc hs]
  case count => rw [record, causeWord_count _ hc hs]
  case kept =>
    rintro o (ho | rfl)
    · rw [others o (by omega) (by omega), hrd_hostEmpty _ _ (by omega), if_pos (.inl ho)]
    · rw [others _ (by decide) (by decide), hrd_hostEmpty _ _ (by decide)]
      rfl

theorem hrd_boot (s : State) (b : Boot) (o : Nat) : hrd { s with boot := b } o = hrd s o := rfl

/-- A reset of the host die with its island. -/
theorem hostIslandReset_restarted (code : Nat) (s : State) : HostEmptied s (hostIslandReset code s) ∧
    hrd (hostIslandReset code s) 0x1008 = causeWord 0 true false code 0 ∧ ∀ o, o ≠ 0x1008 → o ≠ 0x4D00 → o / 0x1000 ≠ 6 →
      hrd (hostIslandReset code s) o = if o / 0x1000 = 5 then hrd s o else hostReset o := by
  obtain ⟨parts, record, others⟩ := (hostEmpty_emptied true s).untried.restarted
    (by rw [hrd_boot, hrd_hostEmpty true s (by decide), if_neg (by decide)]; decide) (causeWord 0 true false code 0)
  refine ⟨parts, record, fun o h8 hi h6 => (others o h8 hi).trans ?_⟩
  rw [hrd_boot, hrd_hostEmpty true s h6]
  simp

/-- The supply of the host die rises (R454, R474). -/
theorem powerOn_host (s : State) : hostPower (powerOn .host s) = 0 ∧ fieldOf (hrd (powerOn .host s) 0x1008) 31 0 = 0x00010001 ∧
    (powerOn .host s).reqMem = [] ∧ (powerOn .host s).rspMem = [] ∧ (powerOn .host s).tender.snapshot = none ∧
    hrd (powerOn .host s) 0x1004 = hostReset 0x1004 ∧ (∀ o, o / 0x1000 = 5 → hrd (powerOn .host s) o = hrd s o) ∧
    (powerOn .host s).reg = s.reg := by
  unfold powerOn
  obtain ⟨⟨-, -, -, -, -, -, req, rsp, snapshot, -, -, reg, -⟩, record, others⟩ := hostIslandReset_restarted causePowerOn
    { s with tender := { s.tender with snapshot := none }, reqMem := [], rspMem := [] }
  refine ⟨?power, ?record, req, rsp, snapshot, others _ (by decide) (by decide) (by decide), fun o ho => ?kept, reg⟩
  case power => rw [hostPower, hgetF, others _ (by decide) (by decide) (by decide)]; exact hostReset_power
  case record => rw [record]; decide
  case kept => rw [others o (by omega) (by omega) (by omega), if_pos ho]; rfl

/-- The request for a reset of the radio die, while the link is not UP and while it is (R313). -/
theorem hpwResetRadioDie_asks {s : State} (runs : hostRuns s = true) : hpwResetRadioDie s = askRadioReset { s with hguard := none } := by
  rw [hpwResetRadioDie, if_pos runs]
  rfl

theorem pump_q (l : LinkEnd) (up : Bool) : (l.pump up).q = l.q := by
  cases up <;> rfl

/-- Settles O42: each command is a reset of the die or of the island (R474) after what its own row adds. -/
theorem dieResets : Obligations.DieResets := by
  refine ⟨fun s alive on once => radioResets_running alive on once, ?sysReset, ?off, ?single, ?radioOn, ?host, ?hostOn, ?held, ?sent,
    ?stopped⟩
  case sysReset =>
    intro s on alive once
    refine ⟨fun w held inTime bit => ⟨_, rfl, (sysResetWrite_accepted alive on once held inTime).1 bit⟩, fun w held inTime bit => ?_⟩
    exact congrArg Host.Outcome.next ((sysResetWrite_accepted alive on once held inTime).2 bit)
  case off => exact fun s off alive once => ⟨_, rfl, pinReset_off alive off once⟩
  case single => exact fun s runs => ⟨_, rfl, eccError_single runs⟩
  case radioOn =>
    have regs := rd_radioIslandReset causePowerOn
    refine fun s => ⟨_, rfl, ?_, rfl, rfl, rfl, rfl, ?_, fun o ho => (regs s o).trans (if_neg ho), rfl, rfl, rfl, rfl⟩
    · exact (congrArg (fieldOf · 1 0) (regs s 0x10000)).trans (by decide)
    · exact (regs s 4).trans (by decide)
  case host =>
    intro s runs once
    refine ⟨⟨_, rfl, ?_⟩, ⟨_, rfl, ?_⟩, ⟨_, rfl, ?_⟩, ⟨_, rfl, ?_⟩⟩
    · rw [hostPllLockLoss, if_pos runs]
      exact hostDieReset_wasReset (by decide) (by decide) once
    · rw [tenderWdtExpiry, if_pos runs]
      exact hostDieReset_wasReset (by decide) (by decide) once
    · rw [hpwResetHostDie, if_pos runs]
      exact hostDieReset_wasReset (s := { s with hguard := none }) (by decide) (by decide) once
    · have on : hostPower s ≠ 2 := by
        simp only [hostRuns, beq_iff_eq] at runs
        omega
      show hostWasReset 3 s (if hostPower s = 2 then s else hostDieReset causePin 0 s)
      rw [if_neg on]
      exact hostDieReset_wasReset (by decide) (by decide) once
  case hostOn => exact fun s => ⟨_, rfl, powerOn_host s⟩
  case held =>
    intro s runs down
    refine ⟨_, rfl, ?_⟩
    have asked : hpwResetRadioDie s = { s with hguard := none, tender := { s.tender with resetHeld := true } } := by
      rw [hpwResetRadioDie_asks runs, askRadioReset, if_neg]
      exact ne_true_of_eq_false down
    rw [asked]
    exact ⟨rfl, rfl, rfl, rfl, rfl⟩
  case sent =>
    intro s runs up
    refine ⟨_, rfl, ?_⟩
    have asked : hpwResetRadioDie s = sendH 0xC (leBytes 4 1) { s with hguard := none } := by
      rw [hpwResetRadioDie_asks runs, askRadioReset, if_pos]
      exact up
    rw [asked]
    exact ⟨pump_q _ _, rfl, rfl⟩
  case stopped =>
    intro s stopped
    have next {u : State} : (.next (if hostRuns s then u else s) : Res) = .next s := congrArg Host.Outcome.next (if_neg (by simp [stopped]))
    exact ⟨next, next, next, next⟩

end Sys2Proof.Machine
end

section
/-! SUPPORT. The refutation of O25: a segment of a rescue copy arrives while the window for another node's acknowledgement has passed and
is not yet judged. -/

namespace Sys2Proof.Machine

/-- A segment of RESCUE_COPY that is not the last, from device 1, for the node of address 5 (R264). -/
def rescueSegment : MFrame :=
  { port := 0, cls := 3, typ := 0x30, dst := 0, src := 1, len := 8, chainId := 0, seq := 0, ack := 0,
    payload := [5, 0, 0, 0, 0, 0, 0, 0], crc := 703578417 }

/-- This device's port 0 is UP and 1 ms of time has passed. Node 0, of address 5, has a rescue under way. Node 1 has sent its downlink
for the last time, and the window for its acknowledgement, which had no entry (R226), has closed. -/
def ackWindowPassed : State :=
  { State.reset with
    reg := [(0xA0010, 8)]
    ntb := { anch := 1000000 * nsUnit }
    ctx := [(0, { addr := 5, role := 1 }), (1, { addr := 6, role := 1, dlPend := 1, dlTries := 16 })]
    nodes := { runs := [
      (0, { rescue := some { k := 0 } }),
      (1, { dls := [{ tag := 7, target := 0x1E, origin := 16, flags := 0, expires := none, data := [], tries := 16 }],
            ackWin := some { k := 0, opens := 1000, dur := 1000, internal := true } })] } }

theorem rescueSegment_arrives : arrivesHere 3 0x30 rescueSegment ackWindowPassed = true := by decide +kernel

/-- Settling after the segment judges the window that has passed: the downlink of node 1 ends unacknowledged (R202), so it has none left. -/
theorem rescueCopy_ackWindowPassed : (getCtx (rescueCopy rescueSegment ackWindowPassed) 1).dlPend = 0 := by decide +kernel

/-- Refutes O25, by its clause on a segment of RESCUE_COPY that is not the last: it says that no context changes, and of the nodes' windows
it excludes those of events only. A node's passed acknowledgement window is judged in the settling after the command (R202, R226), and
that ends the node's downlink, which its context shows. -/
theorem not_joinsDownlinksRescue : ¬ Obligations.JoinsDownlinksRescue := by
  rintro ⟨-, -, -, -, -, -, -, -, -, -, segment, -⟩
  obtain ⟨t, step, same, -⟩ := segment rescueSegment 0 { k := 0 } ackWindowPassed rescueSegment_arrives rfl (by decide +kernel) rfl rfl
    (by decide +kernel) (by decide +kernel) (by decide +kernel) (by decide +kernel)
  obtain rfl : rescueCopy rescueSegment ackWindowPassed = t := Host.Outcome.next.inj step
  have kept : 0 = 1 := rescueCopy_ackWindowPassed.symm.trans (congrArg (fun c => (tabGet (fun _ => {}) c 1).dlPend) same)
  exact absurd kept (by decide)

end Sys2Proof.Machine
end

section
/-! SUPPORT. Single register accesses (O3, O6, O8): the context window, writes under the access codes on both dies, and guarded pairs. -/

namespace Sys2Proof.Machine

/-! ### The context window (R40) -/

@[simp] theorem leBytes_length (n v : Nat) : (leBytes n v).length = n := by
  induction n generalizing v with
  | zero => rfl
  | succ n ih => simp [leBytes, ih]

/-- What stands behind the bytes asked for does not matter. -/
theorem leAt_append_left (a b : List Byte) {o n : Nat} (h : o + n ≤ a.length) : leAt (a ++ b) o n = leAt a o n := by
  unfold leAt
  rw [List.drop_append_of_le_length (by omega), List.take_append_of_le_length (by simp; omega)]

theorem leAt_append_right (a b : List Byte) {o n : Nat} (h : a.length ≤ o) : leAt (a ++ b) o n = leAt b (o - a.length) n := by
  unfold leAt
  rw [List.drop_append, List.drop_eq_nil_of_le h, List.nil_append]

theorem leAt_leBytes_zero (m o n : Nat) : leAt (leBytes m 0) o n = 0 := by
  have bytes : ∀ m, leBytes m 0 = List.replicate m 0 := by
    intro m
    induction m with
    | zero => rfl
    | succ m ih => rw [leBytes, ih, List.replicate_succ]; rfl
  have zeros : ∀ m, leNat (List.replicate m 0) = 0 := by
    intro m
    induction m with
    | zero => rfl
    | succ m ih => rw [List.replicate_succ, leNat, ih]; rfl
  rw [leAt, bytes, List.drop_replicate, List.take_replicate, zeros]

/-- Bytes 0x44 to 0x53 of a context, its key, read as 0 (R232, R40). -/
theorem ctxBytes_key_zero (c : Ctx) {k : Nat} (lo : 0x44 ≤ k) (hi : k < 0x54) : leAt (ctxBytes c) k 1 = 0 := by
  unfold ctxBytes
  simp (disch := (simp; omega)) only [leAt_append_left]
  rw [leAt_append_right _ _ (by simp; omega), leAt_leBytes_zero]

theorem not_inRadioBlocks_of_inStoreWindow {addr : Word} (h : inStoreWindow addr = true) : inRadioBlocks addr = false := by
  simp only [inStoreWindow, inRadioBlocks, Bool.and_eq_true, decide_eq_true_eq, Bool.and_eq_false_iff, decide_eq_false_iff_not] at h ⊢
  omega

theorem not_inStoreWindow_of_inRadioBlocks {addr : Word} (h : inRadioBlocks addr = true) : inStoreWindow addr = false := by
  simp only [inStoreWindow, inRadioBlocks, Bool.and_eq_true, decide_eq_true_eq, Bool.and_eq_false_iff, decide_eq_false_iff_not] at h ⊢
  omega

/-- A write to the window, of any size, is discarded. -/
theorem registerWrite_inStoreWindow {addr : Word} (h : inStoreWindow addr = true) (v : Word) (size : AccSize) (s : State) :
    exec (.registerWrite .radio addr size v) s = .next s := by
  simp [exec, execRegisterWrite, h]

/-- Settles O8: the window's address arithmetic, and the place of the key in the 128 bytes of a context. -/
theorem contextWindowReadOnly : Obligations.ContextWindowReadOnly := by
  refine ⟨fun n k s hn hk => ?_, fun c k lo hi => ctxBytes_key_zero c lo hi, fun x crit s hw ha hop => ?_,
    fun addr v size s h => registerWrite_inStoreWindow h v size s⟩
  · have toNat : (BitVec.ofNat 32 (0x50000000 + 0x80 * n + 4 * k)).toNat = 0x50000000 + 0x80 * n + 4 * k := by
      rw [BitVec.toNat_ofNat, Nat.mod_eq_of_lt (by omega)]
    have window : inStoreWindow (BitVec.ofNat 32 (0x50000000 + 0x80 * n + 4 * k)) = true := by
      simp only [inStoreWindow, toNat, Bool.and_eq_true, decide_eq_true_eq]
      omega
    have context : (0x80 * n + 4 * k) / 0x80 = n := by omega
    have word : (0x80 * n + 4 * k) % 0x80 / 4 * 4 = 4 * k := by omega
    have offset : 0x50000000 + 0x80 * n + 4 * k - 0x50000000 = 0x80 * n + 4 * k := by omega
    simp only [exec, execLowWordLatchRead, window, returned, storeWord, toNat, offset, context, word]
    rfl
  · rcases hop with hop | hop <;> simp [itemPolicy, hw, ha, hop]

end Sys2Proof.Machine
end

section
/-! SUPPORT. Writes of whole words under the access codes on both dies, and the accesses that are discarded or fault (O3). -/

namespace Sys2Proof.Machine

/-! ### The access codes (R23-R25) -/

theorem testBit_ofNat_word (n : Nat) {i : Nat} (h : i < 32) : (BitVec.ofNat 32 n).getLsbD i = n.testBit i := by
  rw [BitVec.getLsbD_ofNat]
  simp [h]

/-- What each bit holds after a write: rw and wo bits the value, a w1c bit without the flags cleared, all others what they held. -/
theorem bitOf_codesWrite (d : Desc) (was old v : Word) {i : Nat} (h : i < 32) :
    bitOf (codesWrite d was old v) i =
      if (d.rw ||| d.wo).testBit i then bitOf v i
      else if d.w1c.testBit i then bitOf old i && !(bitOf v i && bitOf was i)
      else bitOf old i := by
  simp only [codesWrite, bitOf, BitVec.getLsbD_or, BitVec.getLsbD_and, BitVec.getLsbD_not, testBit_ofNat_word _ h, h, decide_true, Bool.true_and]
  cases (d.rw ||| d.wo).testBit i
  · cases d.w1c.testBit i <;> simp
  · simp

theorem onlyRegs_wr (off : Nat) (v : Word) (s : State) : onlyRegs [off] s (wr off v s) :=
  ⟨rfl, fun _ ho => rd_wr_other s v (by simpa using ho)⟩

theorem onlyHregs_hwr (off : Nat) (v : Word) (s : State) : onlyHregs [off] s (hwr off v s) :=
  ⟨rfl, fun _ ho => hrd_hwr_other s v (by simpa using ho)⟩

/-- A plain write of the radio die changes its register alone, bit by bit under the codes. -/
theorem plainWrite_codes (off : Nat) (v : Word) (s : State) :
    onlyRegs [off] s (plainWrite off v s) ∧ ∀ i, i < 32 → bitOf (rd (plainWrite off v s) off) i =
      if ((radioDesc off).rw ||| (radioDesc off).wo).testBit i then bitOf v i
      else if (radioDesc off).w1c.testBit i then bitOf (rd s off) i && !(bitOf v i && bitOf (rdWas s off) i)
      else bitOf (rd s off) i := by
  refine ⟨onlyRegs_wr off _ s, fun i hi => ?_⟩
  rw [plainWrite, rd_wr_same, bitOf_codesWrite _ _ _ _ hi]

theorem hostPlain_codes (off : Nat) (v : Word) (s : State) :
    onlyHregs [off] s (hostPlain off v s) ∧ ∀ i, i < 32 → bitOf (hrd (hostPlain off v s) off) i =
      if ((hostDesc off).rw ||| (hostDesc off).wo).testBit i then bitOf v i
      else if (hostDesc off).w1c.testBit i then bitOf (hrd s off) i && !(bitOf v i && bitOf (hrdWas s off) i)
      else bitOf (hrd s off) i := by
  refine ⟨onlyHregs_hwr off _ s, fun i hi => ?_⟩
  rw [hostPlain, hrd_hwr_same, bitOf_codesWrite _ _ _ _ hi]

/-- A register without a twin, a guard, a unit and a row of its own takes a write by its codes. -/
theorem radioWrite_plain {off : Nat} {v : Word} {s : State} (twin : twinOf off = none) (rwg : (radioDesc off).rwg = 0)
    (unit : unitAt off = none) (special : specialWrite off v s = none) : radioWrite off v s = plainWrite off v s := by
  simp [radioWrite, twin, rwg, unit, special]

/-- The host-die offsets whose write has an effect of its own (O3). -/
theorem hostWrite_plain {off : Nat} {v : Word} {s : State} (twin : hostTwinOf off = none) (rwg : (hostDesc off).rwg = 0)
    (special : off ∉ [0x3000, 0x3014, 0x5000, 0x5004, 0x500C, 0x5014, 0x5018, 0x501C, 0x5028, 0x6008])
    (ring : off < 0x3040 ∨ 0x30C0 ≤ off) (msix : off < 0x4000 ∨ 0x4200 ≤ off) : hostWrite off v s = hostPlain off v s := by
  simp only [List.mem_cons, List.not_mem_nil, or_false, not_or] at special
  obtain ⟨h1, h2, h3, h4, h5, h6, h7, h8, h9, h10⟩ := special
  have ring : ¬ (0x3040 ≤ off ∧ off < 0x30C0) := by omega
  have msix : ¬ (0x4000 ≤ off ∧ off < 0x4200) := by omega
  simp only [hostWrite, twin, rwg, ring, msix, h1, h2, h3, h4, h5, h6, h7, h8, h9, h10, ne_eq, not_true_eq_false, or_self, if_false]

/-! ### The command -/

theorem registerWrite_radio {addr v : Word} (blocks : inRadioBlocks addr = true) (s : State) :
    exec (.registerWrite .radio addr .b4 v) s = .next (radioWrite (canonRadio addr) v s) := by
  simp [exec, execRegisterWrite, blocks, not_inStoreWindow_of_inRadioBlocks blocks]

/-- A host access below 0x8_0000 lies in the register space of either interface (R41). -/
theorem registerWrite_host {addr v : Word} {off : Nat} {size : AccSize} {s : State} (lo : addr.toNat < 0x80000) (runs : hostRuns s = true)
    (target : hostTarget addr = .register off) :
    exec (.registerWrite .host addr size v) s = .next (if size = .b4 then hostWrite off v s else s) := by
  have inside : ¬ (if spiMode s then 0x80000 else 0x400000) ≤ addr.toNat := by split <;> omega
  simp only [exec, execRegisterWrite, inside, runs, target, Bool.not_true, Bool.false_eq_true, if_false]

/-- Settles O3: a write without an effect of its own acts by the codes bit for bit; narrow writes, the window and foreign addresses follow
from the command's own checks. -/
theorem registerWriteAccessCodes : Obligations.RegisterWriteAccessCodes := by
  refine ⟨fun addr v s _ blocks twin rwg unit special => ?_, fun addr v size s blocks narrow => ?_,
    fun addr v size s window => registerWrite_inStoreWindow window v size s, fun addr v size s window blocks => ?_,
    fun addr v size off s lo runs target narrow => ?_, fun v s runs => ?_,
    fun addr v off s lo runs target twin rwg special ring msix => ?_, fun addr v size s outside => ?_⟩
  · exact ⟨_, (registerWrite_radio blocks s).trans (by rw [radioWrite_plain twin rwg unit special]), plainWrite_codes _ v s⟩
  · simp [exec, execRegisterWrite, blocks, narrow]
  · simp [exec, execRegisterWrite, window, blocks]
  · rw [registerWrite_host lo runs target, if_neg narrow]
  · have target : hostTarget 0x1C = .register 0x1C := by decide
    have whole : ∀ i, i < 32 → ((hostDesc 0x1C).rw ||| (hostDesc 0x1C).wo).testBit i = true := fun i hi => by
      rw [show (hostDesc 0x1C).rw ||| (hostDesc 0x1C).wo = 2 ^ 32 - 1 from rfl, Nat.testBit_two_pow_sub_one]
      simpa using hi
    obtain ⟨only, bit⟩ := hostPlain_codes 0x1C v s
    refine ⟨_, (registerWrite_host (by decide) runs target).trans
      (by rw [if_pos rfl, hostWrite_plain rfl rfl (by decide) (by decide) (by decide)]), only, BitVec.eq_of_getLsbD_eq fun i hi => ?_⟩
    exact (bit i hi).trans (if_pos (whole i hi))
  · exact ⟨_, (registerWrite_host lo runs target).trans (by rw [if_pos rfl, hostWrite_plain twin rwg special ring msix]),
      hostPlain_codes off v s⟩
  · have outside : (if spiMode s then 0x80000 else 0x400000) ≤ addr.toNat := by split <;> omega
    simp only [exec, execRegisterWrite, outside, if_true]

end Sys2Proof.Machine
end

section
/-! SUPPORT. The apply procedure of R30 (O4): what a shadow write, a passing apply and a rejected one do to registers and shadows. -/

namespace Sys2Proof.Machine

/-! ### Shadows -/

theorem tabFind_of_rising {α : Type} {t : Tab α} {lo k : Nat} (h : tabRising lo t = true) (hk : k < lo) : tabFind t k = none := by
  induction t generalizing lo with
  | nil => rfl
  | cons p t ih =>
    obtain ⟨a, v⟩ := p
    simp only [tabRising, Bool.and_eq_true, decide_eq_true_eq] at h
    rw [tabFind, if_neg (by omega), ih h.2 (by omega)]

/-- A key that a table lists stands in one of its pairs. -/
theorem mem_of_tabFind {α : Type} {t : Tab α} {k : Nat} {v : α} (h : tabFind t k = some v) : (k, v) ∈ t := by
  induction t with
  | nil => cases h
  | cons p t ih =>
    obtain ⟨a, w⟩ := p
    by_cases ha : a = k
    · simp only [tabFind, ha, if_true, Option.some.injEq] at h
      simp [ha, h]
    · rw [tabFind, if_neg ha] at h
      exact List.mem_cons_of_mem _ (ih h)

/-- The shadow that a register has been given, if any. -/
theorem shadow_get_eq (s : State) (o : Nat) : tabGet (fun _ => none) s.shadow o = (tabFind s.shadow o).join := by
  rw [tabGet]
  cases tabFind s.shadow o <;> rfl

theorem rdShadow_of_unshadowed {s : State} {o : Nat} (h : shadowed s o = false) : rdShadow s o = rd s o := by
  rw [shadowed, Option.isSome_eq_false_iff, Option.isNone_iff_eq_none] at h
  rw [rdShadow, h]
  rfl

/-- In the canonical form a register without rwb bits has no shadow (R27). -/
theorem unshadowed_of_rwb_zero {s : State} {o : Nat} (wf : s.shadowWf = true) (h : (radioDesc o).rwb = 0) : shadowed s o = false := by
  rw [shadowed, shadow_get_eq]
  cases found : tabFind s.shadow o with
  | none => rfl
  | some v =>
    simp only [State.shadowWf, Bool.and_eq_true, List.all_eq_true] at wf
    simpa [h] using wf.2 _ (mem_of_tabFind found)

/-- Whether an offset lies in the range of a unit. -/
def inRange (lo hi o : Nat) : Bool := decide (lo ≤ o) && decide (o < hi)

theorem shadow_get_dropShadows (lo hi : Nat) (s : State) (o : Nat) :
    tabGet (fun _ => none) (dropShadows lo hi s).shadow o = if inRange lo hi o then none else tabGet (fun _ => none) s.shadow o := by
  rw [shadow_get_eq, shadow_get_eq, dropShadows, tabFind_filter (fun k => !(decide (lo ≤ k) && decide (k < hi)))]
  change ((if (!inRange lo hi o) = true then tabFind s.shadow o else none).join) = _
  cases inRange lo hi o <;> rfl

theorem shadowed_dropShadows (lo hi : Nat) (s : State) (o : Nat) :
    shadowed (dropShadows lo hi s) o = (shadowed s o && !inRange lo hi o) := by
  rw [shadowed, shadow_get_dropShadows, shadowed]
  cases inRange lo hi o <;> simp

/-- Written shadows of a range, of a canonical table, copied to their registers: each register takes its own. -/
theorem rd_forAll_wr (t : Tab (Option Word)) (lo hi o : Nat) :
    ∀ (k : Nat) (s : State), tabRising k t = true →
      rd (forAll (t.filterMap fun p => if lo ≤ p.1 ∧ p.1 < hi then p.2.map fun v => (p.1, v) else none) (fun p => wr p.1 p.2) s) o =
        if inRange lo hi o then (tabFind t o).join.getD (rd s o) else rd s o := by
  induction t with
  | nil => intro k s _; simp [forAll, tabFind]
  | cons p t ih =>
    obtain ⟨a, v⟩ := p
    intro k s rising
    simp only [tabRising, Bool.and_eq_true, decide_eq_true_eq] at rising
    have later := fun s => ih (a + 1) s rising.2
    have once : tabFind t a = none := tabFind_of_rising rising.2 (Nat.lt_succ_self a)
    by_cases here : lo ≤ a ∧ a < hi
    · cases v with
      | none =>
        rw [List.filterMap_cons_none (by simp), later, tabFind]
        by_cases ha : a = o
        · subst ha; simp [once]
        · rw [if_neg ha]
      | some w =>
        rw [List.filterMap_cons_some (b := (a, w)) (by simp [here]), forAll, List.foldl_cons, ← forAll, later, tabFind]
        by_cases ha : a = o
        · subst ha; simp [once, inRange, here]
        · rw [if_neg ha, rd_wr_other _ _ (Ne.symm ha)]
    · rw [List.filterMap_cons_none (by simp [here]), later, tabFind]
      by_cases ha : a = o
      · subst ha
        have out : inRange lo hi a = false := by simpa [inRange] using fun h => by omega
        simp [out]
      · rw [if_neg ha]

theorem forAll_wr_only (ps : List (Nat × Word)) (s : State) : { forAll ps (fun p => wr p.1 p.2) s with reg := s.reg } = s := by
  induction ps generalizing s with
  | nil => rfl
  | cons p ps ih => exact congrArg (fun t : State => { t with reg := s.reg }) (ih (wr p.1 p.2 s))

theorem rd_copyShadows (lo hi : Nat) {s : State} (wf : s.shadowWf = true) (o : Nat) :
    rd (copyShadows lo hi s) o = if inRange lo hi o then rdShadow s o else rd s o := by
  simp only [State.shadowWf, tabWf, Bool.and_eq_true] at wf
  exact (rd_forAll_wr s.shadow lo hi o 0 s wf.1.1).trans (by rw [rdShadow, shadow_get_eq])

theorem shadowed_copyShadows (lo hi : Nat) (s : State) (o : Nat) :
    shadowed (copyShadows lo hi s) o = (shadowed s o && !inRange lo hi o) := by
  rw [copyShadows, shadowed_dropShadows]
  have same := congrArg State.shadow (forAll_wr_only (shadowsIn s lo hi) s)
  rw [shadowed, shadowed, show (forAll (shadowsIn s lo hi) (fun p => wr p.1 p.2) s).shadow = s.shadow from same]

/-! ### The apply register (R29) -/

/-- A passing apply, up to what its unit adds (R30). -/
def applied (a lo hi src : Nat) (s : State) : State := raiseSrc src (setB a 8 false (incF a 31 16 1 (copyShadows lo hi s)))

/-- A rejected apply (R30, R32). -/
def rejected (a lo hi src blk code : Nat) (s : State) : State :=
  raiseEvt blk 0x121 (leBytes 4 (0x40000000 + a) ++ leBytes 1 code)
    (raiseSrc (src + 16) (setB a 8 false (setF a 15 12 code (setB a 9 true (dropShadows lo hi s)))))

section
variable {a lo hi src blk : Nat} {check : State → Nat} {after : State → State} {s : State}

theorem applyRun_passes (due : applyPending s a = true) (held : applyHeld s a = false) (ok : check s = 0) :
    applyRun a lo hi src blk check after s = after (applied a lo hi src s) := by
  simp [applyRun, due, held, ok, applied]

theorem applyRun_fails (due : applyPending s a = true) (held : applyHeld s a = false) (bad : check s ≠ 0) :
    applyRun a lo hi src blk check after s = rejected a lo hi src blk (check s) s := by
  simp [applyRun, due, held, bad, rejected]

theorem applyRun_idle (h : (applyPending s a && !applyHeld s a) = false) : applyRun a lo hi src blk check after s = s := by
  simp [applyRun, h]

theorem rd_applied_other (wf : s.shadowWf = true) {o : Nat} (h : o ≠ a) :
    rd (applied a lo hi src s) o = if inRange lo hi o then rdShadow s o else rd s o := by
  rw [applied, rd_raiseSrc, rd_setB_other _ _ _ h, incF, rd_setF_other _ _ _ _ h, rd_copyShadows _ _ wf]

/-- The apply register after a passing apply: one more in APPLY_COUNT, nothing pending. -/
theorem rd_applied_same (wf : s.shadowWf = true) (rwb : (radioDesc a).rwb = 0) :
    rd (applied a lo hi src s) a = withBit (withField (rd s a) 31 16 (getF s a 31 16 + 1)) 8 false := by
  have kept : rd (copyShadows lo hi s) a = rd s a := by
    rw [rd_copyShadows _ _ wf, rdShadow_of_unshadowed (unshadowed_of_rwb_zero wf rwb), ite_self]
  rw [applied, rd_raiseSrc, rd_setB_same, incF, rd_setF_same, getF, kept, getF]

theorem getF_applied (wf : s.shadowWf = true) (rwb : (radioDesc a).rwb = 0) :
    getF (applied a lo hi src s) a 31 16 = (getF s a 31 16 + 1) % 65536 := by
  rw [getF, rd_applied_same wf rwb, fieldOf_withBit_other _ _ (by omega) (by omega), fieldOf_withField _ _ _ _ (by omega)]
  rfl

theorem applyPending_applied (wf : s.shadowWf = true) (rwb : (radioDesc a).rwb = 0) : applyPending (applied a lo hi src s) a = false := by
  rw [applyPending, getB, rd_applied_same wf rwb, bitOf_withBit_same _ _ _ (by omega)]

theorem applyHeld_applied (wf : s.shadowWf = true) (rwb : (radioDesc a).rwb = 0) : applyHeld (applied a lo hi src s) a = applyHeld s a := by
  rw [applyHeld, getB, rd_applied_same wf rwb, bitOf_withBit_other _ _ (by omega) (by omega), bitOf_withField_other _ _ (by omega) (by omega)]
  rfl

theorem shadowed_applied (o : Nat) : shadowed (applied a lo hi src s) o = (shadowed s o && !inRange lo hi o) := by
  rw [applied, ← shadowed_copyShadows, shadowed, raiseSrc_shadow]
  rfl

variable {code : Nat}

theorem rd_rejected_other {o : Nat} (h : o ≠ a) (index : o ≠ 0xC0020) (oldest : o ≠ 0xC0024) :
    rd (rejected a lo hi src blk code s) o = rd s o := by
  rw [rejected, rd_raiseEvt _ _ _ _ index oldest, rd_raiseSrc, rd_setB_other _ _ _ h, rd_setF_other _ _ _ _ h, rd_setB_other _ _ _ h]
  rfl

/-- The apply register after a rejected apply: its code, APPLY_REJECT, nothing pending. -/
theorem rd_rejected_same (index : a ≠ 0xC0020) (oldest : a ≠ 0xC0024) :
    rd (rejected a lo hi src blk code s) a = withBit (withField (withBit (rd s a) 9 true) 15 12 code) 8 false := by
  rw [rejected, rd_raiseEvt _ _ _ _ index oldest, rd_raiseSrc, rd_setB_same, rd_setF_same, rd_setB_same]
  rfl

theorem shadowed_rejected (o : Nat) : shadowed (rejected a lo hi src blk code s) o = (shadowed s o && !inRange lo hi o) := by
  rw [← shadowed_dropShadows, rejected, shadowed, raiseEvt_shadow, raiseSrc_shadow]
  rfl

end

theorem inRange_iff {lo hi o : Nat} : inRange lo hi o = true ↔ lo ≤ o ∧ o < hi := by simp [inRange]

/-- Settles O4: the shadow write, and the three branches of the procedure at a boundary. -/
theorem bufferedApplyProcedure : Obligations.BufferedApplyProcedure := by
  refine ⟨fun addr v u s unit rwb => ?_, fun a lo hi src blk check after s wf rwb due held ok => ?_,
    fun a lo hi src blk check after s due held bad index oldest => ?_, fun a lo hi src blk check after s idle => applyRun_idle idle⟩
  · refine ⟨shadowPut (unitRange u).1 (canonRadio addr) v s, ?_, ?_, fun o ho => rd_setB_other _ _ _ ho, ?_, fun o ho => ?_, rfl⟩
    · simp [exec, execShadowWrite, shadowWrite, unit, rwb]
    · rw [shadowPut, getB, rd_setB_same, bitOf_withBit_same _ _ _ (by omega)]
    · rw [shadowPut, setB, wr_shadow, tabGet_set_same]
    · rw [shadowPut, setB, wr_shadow, tabGet_set_other _ _ _ ho]
  · refine ⟨applied a lo hi src s, applyRun_passes due held ok, fun o ho => ?_, getF_applied wf rwb, applyPending_applied wf rwb,
      (applyHeld_applied wf rwb).trans held, shadowed_applied⟩
    rw [rd_applied_other wf ho]
    simp only [inRange_iff]
  · rw [applyRun_fails due held bad]
    have word := rd_rejected_same (a := a) (lo := lo) (hi := hi) (src := src) (blk := blk) (code := check s) (s := s) index oldest
    refine ⟨fun o ho => rd_rejected_other ho, ?_, ?_, ?_, ?_, fun o ho ho' => ?_⟩
    · rw [getF, word, fieldOf_withBit_other _ _ (by omega) (by omega), fieldOf_withField _ _ _ _ (by omega)]
      rfl
    · rw [getB, word, bitOf_withBit_other _ _ (by omega) (by omega), bitOf_withField_other _ _ (by omega) (by omega),
        bitOf_withBit_same _ _ _ (by omega)]
    · rw [applyPending, getB, word, bitOf_withBit_same _ _ _ (by omega)]
    · rw [getF, word, fieldOf_withBit_other _ _ (by omega) (by omega), fieldOf_withField_other _ _ (by omega) (by omega),
        fieldOf_withBit_other _ _ (by omega) (by omega)]
      rfl
    · rw [shadowed_rejected, inRange_iff.mpr ⟨ho, ho'⟩]
      simp

end Sys2Proof.Machine
end

section
/-! SUPPORT. Guarded pairs on both dies (O6): what the recording of a guard fault leaves, and the rows that end in one. -/

namespace Sys2Proof.Machine

/-! ### The trouble log (R450-R452) -/

theorem sendEvent_log (m : List Byte) (s : State) :
    (sendEvent m s).keeper.log = s.keeper.log ∧ (sendEvent m s).keeper.logNext = s.keeper.logNext := by
  unfold sendEvent
  split
  · exact ⟨rfl, rfl⟩
  · split <;> exact ⟨rfl, rfl⟩

theorem logWrite_logged (source code : Nat) (args : List Byte) (s : State) : logged source code args s (logWrite source code args s) := by
  unfold logWrite
  simp only
  split <;> exact ⟨rfl, rfl⟩

/-- An event of the radio die is one more entry of its trouble log. -/
theorem raiseEvt_logged (source code : Nat) (args : List Byte) (s : State) : logged source code args s (raiseEvt source code args s) := by
  unfold raiseEvt raiseEvtAt
  simp only
  generalize hm : eventMsg code 30 0 0 s.keeper.evSeq s.ntb.net (stepByte s) (devOf s) args = m
  generalize hu : ({ s with keeper := { s.keeper with evSeq := (s.keeper.evSeq + 1) % 2 ^ 32 } } : State) = u
  have kept : u.keeper.log = s.keeper.log ∧ u.keeper.logNext = s.keeper.logNext ∧ u.ntb = s.ntb ∧ u.reg = s.reg := by
    rw [← hu]; exact ⟨rfl, rfl, rfl, rfl⟩
  obtain ⟨log, next, ntb, reg⟩ := kept
  obtain ⟨log', next'⟩ := sendEvent_log m u
  have ntb' : (sendEvent m u).ntb = u.ntb := by have := congrArg State.ntb (sendEvent_only m u); exact this
  have step : stepByte (sendEvent m u) = stepByte s := by rw [stepByte, rd, sendEvent_reg, reg, stepByte, rd]
  have entry := logWrite_logged source code args (sendEvent m u)
  rwa [logged, log', next', log, next, ntb', ntb, step] at entry

/-! ### The radio die (R33-R36) -/

/-- The status register before the fault's event: the fault counted, and the cause recorded where it is the first. -/
def faultWord (cause : Nat) (w : Word) : Word :=
  let c := withField w 15 8 (min (fieldOf w 15 8 + 1) 255)
  if bitOf w 0 then c else withField (withBit c 0 true) 3 1 cause

theorem faultWord_fault (cause : Nat) (w : Word) : bitOf (faultWord cause w) 0 = true := by
  unfold faultWord
  cases h : bitOf w 0
  · simp only [Bool.false_eq_true, if_false]
    rw [bitOf_withField_other _ _ (by omega) (by omega), bitOf_withBit_same _ _ _ (by omega)]
  · simp only [if_true]
    rw [bitOf_withField_other _ _ (by omega) (by omega), h]

theorem faultWord_count (cause : Nat) (w : Word) : fieldOf (faultWord cause w) 15 8 = min (fieldOf w 15 8 + 1) 255 := by
  have counted : fieldOf (withField w 15 8 (min (fieldOf w 15 8 + 1) 255)) 15 8 = min (fieldOf w 15 8 + 1) 255 := by
    rw [fieldOf_withField _ _ _ _ (by omega)]
    exact Nat.mod_eq_of_lt (by omega)
  unfold faultWord
  cases bitOf w 0
  · simp only [Bool.false_eq_true, if_false]
    rw [fieldOf_withField_other _ _ (by omega) (by omega), fieldOf_withBit_other _ _ (by omega) (by omega), counted]
  · exact counted

theorem faultWord_first {cause : Nat} {w : Word} (small : cause < 8) (h : bitOf w 0 = false) : fieldOf (faultWord cause w) 3 1 = cause := by
  simp only [faultWord, h, Bool.false_eq_true, if_false]
  rw [fieldOf_withField _ _ _ _ (by omega)]
  exact Nat.mod_eq_of_lt small

theorem faultWord_later {cause : Nat} {w : Word} (h : bitOf w 0 = true) : fieldOf (faultWord cause w) 3 1 = fieldOf w 3 1 := by
  simp only [faultWord, h, if_true]
  exact fieldOf_withField_other _ _ (by omega) (by omega)

/-- A guard fault in the registers of R36, before its source and its event. -/
def faultNotedR (cause off : Nat) (s : State) : State :=
  if !getB s 0x20 0 then wr 0x24 (BitVec.ofNat 32 off) (setF 0x20 3 1 cause (setB 0x20 0 true (incSat 0x20 15 8 1 s)))
  else incSat 0x20 15 8 1 s

theorem guardFaultR_eq (cause off : Nat) (s : State) :
    guardFaultR cause off s = raiseEvt 0 0x120 (leBytes 4 off ++ leBytes 1 cause) (raiseSrc 228 (faultNotedR cause off s)) := rfl

theorem faultNotedR_only (cause off : Nat) (s : State) : ∃ r, faultNotedR cause off s = { s with reg := r } := by
  unfold faultNotedR
  split <;> exact ⟨_, rfl⟩

theorem rd_faultNotedR (cause off : Nat) (s : State) (o : Nat) :
    rd (faultNotedR cause off s) o =
      if o = 0x20 then faultWord cause (rd s 0x20)
      else if o = 0x24 ∧ getB s 0x20 0 = false then BitVec.ofNat 32 off
      else rd s o := by
  unfold faultNotedR
  cases first : getB s 0x20 0
  · have bit : bitOf (rd s 0x20) 0 = false := first
    simp only [Bool.not_false, if_true, rd_wr, setF, setB, incSat, and_true]
    by_cases h : o = 0x20
    · subst h
      simp [faultWord, bit, getF]
    · simp [h]
  · have bit : bitOf (rd s 0x20) 0 = true := first
    simp only [Bool.not_true, Bool.false_eq_true, if_false, rd_wr, setF, incSat]
    by_cases h : o = 0x20
    · subst h
      simp [faultWord, bit, getF]
    · simp [h]

theorem rd_guardFaultR (cause off : Nat) (s : State) {o : Nat} (index : o ≠ 0xC0020) (oldest : o ≠ 0xC0024) :
    rd (guardFaultR cause off s) o = rd (faultNotedR cause off s) o := by
  rw [guardFaultR_eq, rd_raiseEvt _ _ _ _ index oldest, rd_raiseSrc]

theorem guardFaultR_logged (cause off : Nat) (s : State) :
    logged 0 0x120 (leBytes 4 off ++ leBytes 1 cause) s (guardFaultR cause off s) := by
  have entry := raiseEvt_logged 0 0x120 (leBytes 4 off ++ leBytes 1 cause) (raiseSrc 228 (faultNotedR cause off s))
  have step : stepByte (raiseSrc 228 (faultNotedR cause off s)) = stepByte s := by
    rw [stepByte, rd_raiseSrc, rd_faultNotedR]
    rfl
  have keeper : (raiseSrc 228 (faultNotedR cause off s)).keeper = s.keeper := by
    obtain ⟨r, eq⟩ := faultNotedR_only cause off s
    have := congrArg State.keeper (raiseSrc_only 228 (faultNotedR cause off s))
    rw [eq] at this ⊢
    exact this
  have ntb : (raiseSrc 228 (faultNotedR cause off s)).ntb = s.ntb := by
    obtain ⟨r, eq⟩ := faultNotedR_only cause off s
    rw [raiseSrc_ntb, eq]
  rwa [logged, keeper, ntb, step] at entry

/-- A guard fault in a state in which no value waits any more is recorded. -/
theorem guardFaultR_recorded {cause : Nat} (off : Nat) {s : State} (small : cause < 8) (none : s.guard = none) :
    guardRecorded cause off s (guardFaultR cause off s) := by
  have word : rd (guardFaultR cause off s) 0x20 = faultWord cause (rd s 0x20) := by
    rw [rd_guardFaultR _ _ _ (by omega) (by omega), rd_faultNotedR, if_pos rfl]
  have addr : rd (guardFaultR cause off s) 0x24 = if getB s 0x20 0 = false then BitVec.ofNat 32 off else rd s 0x24 := by
    rw [rd_guardFaultR _ _ _ (by omega) (by omega), rd_faultNotedR]
    simp
  refine ⟨(guardFaultR_guard cause off s).trans none, ?_, ?_, fun first => ⟨?_, ?_⟩, fun later => ⟨?_, ?_⟩, guardFaultR_logged cause off s,
    fun o h20 h24 index oldest => ?_⟩
  · rw [getB, word, faultWord_fault]
  · rw [getF, word, faultWord_count, getF]
  · rw [getF, word, faultWord_first small first]
  · rw [addr, if_pos first]
  · rw [getF, word, faultWord_later later, getF]
  · rw [addr, later]; rfl
  · rw [rd_guardFaultR _ _ _ index oldest, rd_faultNotedR, if_neg h20, if_neg fun h => h24 h.1]

theorem guardLateR_none {s : State} (h : s.guard = none) : guardLateR s = s := by simp [guardLateR, h]

theorem guardLateR_some {s : State} {p : Nat × Word} (h : s.guard = some p) : guardLateR s = guardFaultR 2 p.1 { s with guard := none } := by
  simp [guardLateR, h]

/-- A write to a twin with nothing pending is out of order. -/
theorem guardTwinR_none {own : Nat} {w : Word} {effect : Nat → Word → State → State} {s : State} (h : s.guard = none) :
    guardTwinR own w effect s = guardFaultR 3 own s := by
  simp [guardTwinR, guardLateR_none h, h]

/-- A write to a twin in time that is another register's or not the exact complement is a mismatch. -/
theorem guardTwinR_mismatch {own off : Nat} {v w : Word} {effect : Nat → Word → State → State} {s : State} (h : s.guard = some (off, v))
    (t : guardInTimeR s = true) (differs : ¬ (off = own ∧ w = ~~~v)) :
    guardTwinR own w effect s = guardFaultR 1 off { s with guard := none } := by
  simp [guardTwinR, h, t, differs]

theorem guardValueR_none {off : Nat} {v : Word} {s : State} (h : s.guard = none) :
    guardValueR off v s = { s with guard := some (off, v), guardAge := s.age } := by
  simp [guardValueR, guardLateR_none h, h]

theorem guardValueR_overlap {off : Nat} {v : Word} {s : State} {p : Nat × Word} (h : s.guard = some p) (t : guardInTimeR s = true) :
    guardValueR off v s = guardFaultR 4 off { s with guard := none } := by
  simp [guardValueR, h, t]

theorem guardFaultR_age (cause off : Nat) (s : State) : (guardFaultR cause off s).age = s.age := by
  obtain ⟨r, noted⟩ := faultNotedR_only cause off s
  obtain ⟨l, k, r', told⟩ := raiseEvt_eq 0 0x120 (leBytes 4 off ++ leBytes 1 cause) (raiseSrc 228 (faultNotedR cause off s))
  have source := congrArg State.age (raiseSrc_only 228 (faultNotedR cause off s))
  rw [noted] at source
  rw [guardFaultR_eq, told, noted]
  exact source

theorem guardValueR_late {off : Nat} {v : Word} {s : State} {p : Nat × Word} (h : s.guard = some p) (t : guardInTimeR s = false) :
    guardValueR off v s = { guardFaultR 2 p.1 { s with guard := none } with guard := some (off, v), guardAge := s.age } := by
  have age := guardFaultR_age 2 p.1 { s with guard := none }
  have empty := guardFaultR_guard 2 p.1 { s with guard := none }
  simp [guardValueR, t, guardLateR_some h, empty, age]

/-! ### The host die (R36, R322) -/

theorem irq_hguard (n : Nat) (s : State) : (irq n s).hguard = s.hguard := by
  have := congrArg State.hguard (irq_only n s); exact this

/-- An interrupt source sets its own bit, and at most a pending vector beside it. -/
theorem hrd_irq (n : Nat) (s : State) {o : Nat} (vectors : o ≠ 0x4800) :
    hrd (irq n s) o = hrd (hsetB (0x4D00 + n / 32 * 4) (n % 32) true s) o := by
  unfold irq vectorPend
  simp only
  split
  · split
    · exact hrd_hsetB_other _ _ _ vectors
    · rfl
  · rfl

/-- A guard fault in the registers of R36, before its interrupt. -/
def faultNotedH (cause off : Nat) (s : State) : State :=
  let counted := hsetF 0x1050 15 8 (min (hgetF s 0x1050 15 8 + 1) 255) s
  if !hgetB s 0x1050 0 then hwr 0x1054 (BitVec.ofNat 32 (off % 0x8000)) (hsetF 0x1050 3 1 cause (hsetB 0x1050 0 true counted)) else counted

theorem guardFaultH_eq (cause off : Nat) (s : State) : guardFaultH cause off s = irq 10 (faultNotedH cause off s) := rfl

theorem hwr_only {s t : State} (off : Nat) (v : Word) (h : ∃ r, t = { s with hreg := r }) : ∃ r, hwr off v t = { s with hreg := r } := by
  obtain ⟨r, rfl⟩ := h
  exact ⟨_, rfl⟩

theorem faultNotedH_only (cause off : Nat) (s : State) : ∃ r, faultNotedH cause off s = { s with hreg := r } := by
  have counted := hwr_only 0x1050 (withField (hrd s 0x1050) 15 8 (min (hgetF s 0x1050 15 8 + 1) 255)) (s := s) (t := s) ⟨s.hreg, rfl⟩
  unfold faultNotedH
  simp only
  split
  · exact hwr_only _ _ (hwr_only _ _ (hwr_only _ _ counted))
  · exact counted

theorem hrd_faultNotedH (cause off : Nat) (s : State) (o : Nat) :
    hrd (faultNotedH cause off s) o =
      if o = 0x1050 then faultWord cause (hrd s 0x1050)
      else if o = 0x1054 ∧ hgetB s 0x1050 0 = false then BitVec.ofNat 32 (off % 0x8000)
      else hrd s o := by
  unfold faultNotedH
  cases first : hgetB s 0x1050 0
  · have bit : bitOf (hrd s 0x1050) 0 = false := first
    simp only [Bool.not_false, if_true, hrd_hwr, hsetF, hsetB, and_true]
    by_cases h : o = 0x1050
    · subst h
      simp [faultWord, bit, hgetF]
    · simp [h]
  · have bit : bitOf (hrd s 0x1050) 0 = true := first
    simp only [Bool.not_true, Bool.false_eq_true, if_false, hrd_hwr, hsetF]
    by_cases h : o = 0x1050
    · subst h
      simp [faultWord, bit, hgetF]
    · simp [h]

theorem hrd_guardFaultH (cause off : Nat) (s : State) {o : Nat} (vectors : o ≠ 0x4800) (sources : o ≠ 0x4D00) :
    hrd (guardFaultH cause off s) o = hrd (faultNotedH cause off s) o := by
  rw [guardFaultH_eq, hrd_irq _ _ vectors, hrd_hsetB_other _ _ _ sources]

theorem guardFaultH_hguard (cause off : Nat) (s : State) : (guardFaultH cause off s).hguard = s.hguard := by
  obtain ⟨r, noted⟩ := faultNotedH_only cause off s
  rw [guardFaultH_eq, irq_hguard, noted]

theorem guardFaultH_age (cause off : Nat) (s : State) : (guardFaultH cause off s).age = s.age := by
  obtain ⟨r, noted⟩ := faultNotedH_only cause off s
  rw [guardFaultH_eq, noted]
  have := congrArg State.age (irq_only 10 { s with hreg := r })
  exact this

theorem guardFaultH_recorded {cause : Nat} (off : Nat) {s : State} (small : cause < 8) (none : s.hguard = none) :
    hostGuardRecorded cause (off % 0x8000) s (guardFaultH cause off s) := by
  have word : hrd (guardFaultH cause off s) 0x1050 = faultWord cause (hrd s 0x1050) := by
    rw [hrd_guardFaultH _ _ _ (by omega) (by omega), hrd_faultNotedH, if_pos rfl]
  have addr : hrd (guardFaultH cause off s) 0x1054 = if hgetB s 0x1050 0 = false then BitVec.ofNat 32 (off % 0x8000) else hrd s 0x1054 := by
    rw [hrd_guardFaultH _ _ _ (by omega) (by omega), hrd_faultNotedH]
    simp
  refine ⟨(guardFaultH_hguard cause off s).trans none, ?_, ?_, fun first => ⟨?_, ?_⟩, fun later => ⟨?_, ?_⟩, ?_, fun o h50 h54 h48 h4D => ?_⟩
  · rw [hgetB, word, faultWord_fault]
  · rw [hgetF, word, faultWord_count, hgetF]
  · rw [hgetF, word, faultWord_first small first]
  · rw [addr, if_pos first]
  · rw [hgetF, word, faultWord_later later, hgetF]
  · rw [addr, later]; rfl
  · rw [hgetB, guardFaultH_eq, hrd_irq _ _ (by omega), hrd_hsetB_same, bitOf_withBit_same _ _ _ (by omega)]
  · rw [hrd_guardFaultH _ _ _ h48 h4D, hrd_faultNotedH, if_neg h50, if_neg fun h => h54 h.1]

theorem guardLateH_none {s : State} (h : s.hguard = none) : guardLateH s = s := by simp [guardLateH, h]

theorem guardLateH_some {s : State} {p : Nat × Word} (h : s.hguard = some p) :
    guardLateH s = guardFaultH 2 p.1 { s with hguard := none } := by
  simp [guardLateH, h]

theorem guardValueH_none {off : Nat} {v : Word} {s : State} (h : s.hguard = none) :
    guardValueH off v s = { s with hguard := some (off, v), hguardAge := s.age } := by
  simp [guardValueH, guardLateH_none h, h]

theorem guardValueH_overlap {off : Nat} {v : Word} {s : State} {p : Nat × Word} (h : s.hguard = some p) (t : guardInTimeH s = true) :
    guardValueH off v s = guardFaultH 4 off { s with hguard := none } := by
  simp [guardValueH, h, t]

theorem guardValueH_late {off : Nat} {v : Word} {s : State} {p : Nat × Word} (h : s.hguard = some p) (t : guardInTimeH s = false) :
    guardValueH off v s = { guardFaultH 2 p.1 { s with hguard := none } with hguard := some (off, v), hguardAge := s.age } := by
  have age := guardFaultH_age 2 p.1 { s with hguard := none }
  have empty := guardFaultH_hguard 2 p.1 { s with hguard := none }
  simp [guardValueH, t, guardLateH_some h, empty, age]

/-! ### The rows -/

theorem reachAge_guard (a : Nat) (s : State) : (reachAge a s).guard = s.guard := by
  have := congrArg State.guard (clocks_only (a - s.age) s); exact this

theorem reachAge_hguard (a : Nat) (s : State) : (reachAge a s).hguard = s.hguard := by
  have := congrArg State.hguard (clocks_only (a - s.age) s); exact this

/-- The five rows that write a twin of the radio die, each with the register it guards (O6). -/
theorem twinRow_eq {c : Instr} {own : Nat} {w : Word}
    (row : (c = .sysResetWrite w ∧ own = 0x40) ∨ (c = .pwrStateRequest w ∧ own = 0x10040) ∨ (c = .cphKeyInval w ∧ own = 0x90040) ∨
      (∃ p : Fin 2, c = .mrPortDisable p w ∧ own = 0xA0040 + 0x8000 * p.val) ∨ (c = .kprWdtCfg w ∧ own = 0xC0040)) :
    ∃ effect, ∀ s, exec c s = .next (guardTwinR own w effect s) := by
  rcases row with ⟨rfl, rfl⟩ | ⟨rfl, rfl⟩ | ⟨rfl, rfl⟩ | ⟨p, rfl, rfl⟩ | ⟨rfl, rfl⟩
  · exact ⟨sysResetEffect, fun s => rfl⟩
  · exact ⟨pwrCmdEffect, fun s => rfl⟩
  · exact ⟨keyInvalEffect, fun s => rfl⟩
  · refine ⟨fun _ v => portDisable p.val v, fun s => ?_⟩
    have own : mrBase p.val + 0x40 = 0xA0040 + 0x8000 * p.val := by rw [mrBase]; omega
    rw [← own]
    rfl
  · exact ⟨wdtCfgEffect, fun s => rfl⟩

/-- Settles O6: each row ends in a value that waits or in a recorded fault. -/
theorem guardedPairs : Obligations.GuardedPairs := by
  refine ⟨fun addr v s rwg => ?_, fun addr v s rwg => ?_, fun addr v off s target rwg hlt => ?_, fun s => ⟨fun h => ?_, fun off v h => ?_⟩,
    fun s => ⟨fun h => ?_, fun off v h => ?_⟩, fun c own w s row => ?_⟩
  · have row : exec (.guardedValueWrite .radio addr v) s = .next (guardValueR (canonRadio addr) v s) := by
      simp [exec, execGuardedValueWrite, guardedValueWrite, rwg]
    refine ⟨fun h => ?_, fun p h t => ?_, fun p h t => ?_⟩
    · rw [row, guardValueR_none h]
    · exact ⟨_, row.trans (congrArg _ (guardValueR_overlap h t)), guardFaultR_recorded _ (by omega) rfl⟩
    · refine ⟨_, row.trans (congrArg _ (guardValueR_late h t)), rfl, rfl, ?_⟩
      have recorded := guardFaultR_recorded (cause := 2) p.1 (s := { s with guard := none }) (by omega) rfl
      exact ⟨rfl, recorded.2⟩
  · simp [exec, execGuardedValueWrite, guardedValueWrite, rwg]
  · have row : exec (.guardedValueWrite .host addr v) s = .next (guardValueH off v s) := by
      simp [exec, execGuardedValueWrite, guardedValueWrite, target, rwg, hlt]
    have short : off % 0x8000 = off := Nat.mod_eq_of_lt hlt
    refine ⟨fun h => ?_, fun p h t => ?_, fun p h t => ?_⟩
    · rw [row, guardValueH_none h]
    · refine ⟨_, row.trans (congrArg _ (guardValueH_overlap h t)), ?_⟩
      have recorded := guardFaultH_recorded (cause := 4) off (s := { s with hguard := none }) (by omega) rfl
      rwa [short] at recorded
    · refine ⟨_, row.trans (congrArg _ (guardValueH_late h t)), rfl, rfl, ?_⟩
      have recorded := guardFaultH_recorded (cause := 2) p.1 (s := { s with hguard := none }) (by omega) rfl
      exact ⟨rfl, recorded.2⟩
  · simp [exec, execGuardTimeout, guardTimeout, h]
  · have row : exec (.guardTimeout .radio) s = .next (guardLateR (reachAge (s.guardAge + 513) s)) := by
      simp [exec, execGuardTimeout, guardTimeout, h, guardSpanR]
    have waits := (reachAge_guard (s.guardAge + 513) s).trans h
    exact ⟨_, row.trans (congrArg _ (guardLateR_some waits)), guardFaultR_recorded off (by omega) rfl⟩
  · simp [exec, execGuardTimeout, guardTimeout, h]
  · have row : exec (.guardTimeout .host) s = .next (guardLateH (reachAge (s.hguardAge + 839) s)) := by
      simp [exec, execGuardTimeout, guardTimeout, h, guardSpanH]
    have waits := (reachAge_hguard (s.hguardAge + 839) s).trans h
    exact ⟨_, row.trans (congrArg _ (guardLateH_some waits)), guardFaultH_recorded off (by omega) rfl⟩
  · obtain ⟨effect, exec_eq⟩ := twinRow_eq row
    refine ⟨fun h => ?_, fun off v h t differs => ?_⟩
    · exact ⟨_, (exec_eq s).trans (congrArg _ (guardTwinR_none h)), guardFaultR_recorded own (by omega) h⟩
    · exact ⟨_, (exec_eq s).trans (congrArg _ (guardTwinR_mismatch h t differs)), guardFaultR_recorded off (by omega) rfl⟩

end Sys2Proof.Machine
end

section
/-! SUPPORT. The cipher queue (O31): what the passing of time, the status registers and each row leave of it. -/

namespace Sys2Proof.Machine

/-! ### Time (R14, R46) -/

@[simp] theorem clocks_cipher (n : Nat) (s : State) : (clocks n s).cipher = s.cipher := by
  have := congrArg State.cipher (clocks_only n s); exact this
@[simp] theorem clocks_pkt (n : Nat) (s : State) : (clocks n s).pkt = s.pkt := by
  have := congrArg State.pkt (clocks_only n s); exact this
@[simp] theorem clocks_ctx (n : Nat) (s : State) : (clocks n s).ctx = s.ctx := by
  have := congrArg State.ctx (clocks_only n s); exact this
@[simp] theorem clocks_power (n : Nat) (s : State) : (clocks n s).power = s.power := by
  have := congrArg State.power (clocks_only n s); exact this

theorem coreRuns_congr {s t : State} (power : t.power = s.power) (mode : rd t 0x10000 = rd s 0x10000) : coreRuns t = coreRuns s := by
  rw [coreRuns, getF, power, mode, coreRuns, getF]

theorem plainClocks_power (n : Nat) (s : State) : (plainClocks n s).power = s.power := by
  unfold plainClocks
  simp only
  repeat' split
  all_goals rfl

theorem clk_plainClocks {s : State} (n : Nat) (run : coreRuns s = true) : (plainClocks n s).ntb.clk = s.ntb.clk + n := by
  have run' : coreRuns (if n = 0 then s else { s with regWas := s.reg, hregWas := s.hreg }) = true := by split <;> exact run
  simp only [plainClocks, run', if_true]
  split <;> rfl

/-- While the core clock runs, clocks count, through the end of a slew too. -/
theorem clk_clocks {s : State} (n : Nat) (run : coreRuns s = true) : (clocks n s).ntb.clk = s.ntb.clk + n := by
  unfold clocks
  split
  · exact clk_plainClocks n run
  · split
    · exact clk_plainClocks (s := { s with ntb := { s.ntb with slewLeft := s.ntb.slewLeft - n * 100000 * slewRate s } }) n run
    · rename_i within
      have run' : coreRuns (endSlew (plainClocks (slewClocks s) s)) = true := by
        refine (coreRuns_congr (s := s) ?_ ?_).trans run
        · have alone : (endSlew (plainClocks (slewClocks s) s)).power = (plainClocks (slewClocks s) s).power := rfl
          exact alone.trans (plainClocks_power _ s)
        · rw [rd_endSlew _ (by omega), rd, plainClocks_reg, rd]
      rw [clk_plainClocks _ run', show (endSlew (plainClocks (slewClocks s) s)).ntb.clk = (plainClocks (slewClocks s) s).ntb.clk from rfl,
        clk_plainClocks _ run]
      omega

theorem le_clk_reachClk {s : State} (c : Nat) (run : coreRuns s = true) : c ≤ (reachClk c s).ntb.clk := by
  rw [reachClk, clk_clocks _ run]
  omega

/-! ### The status registers (R305) -/

/-- The queue's registers follow it, and nothing else changes. -/
theorem rd_cphSync (s : State) {o : Nat} (status : o ≠ 0x90004) (host : o ≠ 0x900D4) : rd (cphSync s) o = rd s o := by
  simp [cphSync, setF, setB, rd_wr, status, host]

/-- CPH_STATUS follows the queue. -/
theorem rd_cphSync_status (s : State) : ∃ busy, rd (cphSync s) 0x90004 =
    withField (withField (withBit (rd s 0x90004) 26 (!s.cipher.results.isEmpty)) 22 16 s.cipher.reqs.length) 7 0 busy :=
  ⟨_, by simp only [cphSync, setF, setB, rd_wr]; rfl⟩

theorem cphSync_queued (s : State) : getF (cphSync s) 0x90004 22 16 = s.cipher.reqs.length % 128 := by
  obtain ⟨busy, word⟩ := rd_cphSync_status s
  rw [getF, word, fieldOf_withField_other _ _ (by omega) (by omega), fieldOf_withField _ _ _ _ (by omega)]
  rfl

theorem cphSync_ready (s : State) : getB (cphSync s) 0x90004 26 = !s.cipher.results.isEmpty := by
  obtain ⟨busy, word⟩ := rd_cphSync_status s
  rw [getB, word, bitOf_withField_other _ _ (by omega) (by omega), bitOf_withField_other _ _ (by omega) (by omega),
    bitOf_withBit_same _ _ _ (by omega)]

theorem raiseSrc_cipher (n : Nat) (s : State) : (raiseSrc n s).cipher = s.cipher := by
  have := congrArg State.cipher (raiseSrc_only n s); exact this

theorem raiseEvt_cipher (source code : Nat) (args : List Byte) (s : State) : (raiseEvt source code args s).cipher = s.cipher := by
  obtain ⟨l, k, r, h⟩ := raiseEvt_eq source code args s
  rw [h]

theorem raiseEvt_pkt (source code : Nat) (args : List Byte) (s : State) : (raiseEvt source code args s).pkt = s.pkt := by
  obtain ⟨l, k, r, h⟩ := raiseEvt_eq source code args s
  rw [h]

/-! ### Starts (R291, R295, R298) -/

/-- The first of a list that is `k`, found by the value it gives. -/
theorem findSome?_of_mem {β : Type} {f : Nat → Option β} {k : Nat} {b : β} (here : f k = some b) (other : ∀ i, i ≠ k → f i = none) :
    ∀ {l : List Nat}, k ∈ l → l.findSome? f = some b := by
  intro l
  induction l with
  | nil => intro h; cases h
  | cons a l ih =>
    intro h
    by_cases ha : a = k
    · rw [ha, List.findSome?_cons_of_isSome (by rw [here]; rfl), here]
    · rw [List.findSome?_cons, other a ha]
      exact ih ((List.mem_cons.mp h).resolve_left (Ne.symm ha))

/-- A lone request that waits is the round robin's choice, wherever its turn stands. -/
theorem chooseSub_single {s : State} {r : CphReq} (one : s.cipher.reqs = [r]) (idle : r.core = none) (open' : r.result = none)
    (sub : r.sub < 18) (free : s.cipher.changes = []) : chooseSub s = some (r.sub, 0) := by
  have oldest : ∀ k, oldestOf s k = if r.sub = k then some 0 else none := by
    intro k
    by_cases h : r.sub = k <;> simp [oldestOf, one, idle, open', List.findIdx?_cons, h]
  have round : r.sub ∈ (List.range 18).map (fun i => (s.cipher.turn + i) % 18) :=
    List.mem_map.mpr ⟨(r.sub + 18 - s.cipher.turn % 18) % 18, List.mem_range.mpr (by omega), by omega⟩
  refine findSome?_of_mem ?_ (fun i hi => ?_) round
  · simp [oldest, keyWaits, free]
  · rw [oldest, if_neg (Ne.symm hi)]

theorem chooseSub_empty {s : State} (empty : s.cipher.reqs = []) : chooseSub s = none := by
  simp [chooseSub, oldestOf, empty]

theorem preStart_congr {s t : State} (slots : t.cipher.slots = s.cipher.slots) (ctx : t.ctx = s.ctx) (sub : Nat) (d : List Byte) :
    preStart t sub d = preStart s sub d ∧ keyOf t (dKey d) = keyOf s (dKey d) := by
  have key : ∀ code, keyOf t code = keyOf s code := fun code => by
    unfold keyOf getKey getCtx
    rw [slots, ctx]
  have usage : ∀ code mode, usageOk t sub code mode = usageOk s sub code mode := fun code mode => by
    unfold usageOk getKey getCtx
    rw [slots, ctx]
  refine ⟨?_, key _⟩
  unfold preStart
  rw [key, usage]

/-- CPH_START of a lone request (R295). -/
theorem cphStart_single (c : Fin 8) {s : State} {r : CphReq} (free : coreFree s c.val = true) (one : s.cipher.reqs = [r])
    (idle : r.core = none) (open' : r.result = none) (sub : r.sub < 18) (changes : s.cipher.changes = []) :
    (cphStart c s).pkt = s.pkt ∧ (coreRuns s = true → r.clk + 4 ≤ (cphStart c s).ntb.clk) ∧ (cphStart c s).cipher.reqs =
      [if preStart s r.sub r.desc = 0 then
        { r with core := some c.val, key := (keyOf s (dKey r.desc)).getD [], clk := (cphStart c s).ntb.clk }
       else { r with result := some (preStart s r.sub r.desc), clk := (cphStart c s).ntb.clk }] := by
  generalize hu : reachClk (r.clk + 4) { s with cipher := { s.cipher with turn := (r.sub + 1) % 18 } } = u
  have cipher : u.cipher = { s.cipher with turn := (r.sub + 1) % 18 } := by rw [← hu, reachClk, clocks_cipher]
  have pkt : u.pkt = s.pkt := by rw [← hu, reachClk, clocks_pkt]
  have ctx : u.ctx = s.ctx := by rw [← hu, reachClk, clocks_ctx]
  have clk : coreRuns s = true → r.clk + 4 ≤ u.ntb.clk := fun run => by
    rw [← hu]
    exact le_clk_reachClk (s := { s with cipher := { s.cipher with turn := (r.sub + 1) % 18 } }) _ run
  obtain ⟨check, key⟩ := preStart_congr (s := s) (t := u) (by rw [cipher]) ctx r.sub r.desc
  have request : s.cipher.reqs.getD 0 { sub := 0, desc := [] } = r := by rw [one]; rfl
  have run : cphStart c s = if preStart s r.sub r.desc ≠ 0 then setReq 0 { r with result := some (preStart s r.sub r.desc), clk := u.ntb.clk } u
      else setReq 0 { r with core := some c.val, key := (keyOf s (dKey r.desc)).getD [], clk := u.ntb.clk } u := by
    simp only [cphStart, free, Bool.not_true, Bool.false_eq_true, if_false, chooseSub_single one idle open' sub changes, request, hu, check,
      key]
  have set : ∀ x : CphReq, (setReq 0 x u).cipher.reqs = [x] := fun x => by
    rw [setReq, cphSync]
    simp [cipher, one]
  rw [run]
  by_cases ok : preStart s r.sub r.desc = 0
  · rw [if_neg (by simpa using ok), if_pos ok]
    exact ⟨pkt, clk, set _⟩
  · rw [if_pos ok, if_neg ok]
    exact ⟨pkt, clk, set _⟩

/-! ### Results (R292, R295, R302) -/

theorem pktRead_congr {s t : State} (pkt : t.pkt = s.pkt) (a n : Nat) : pktRead t a n = pktRead s a n := by rw [pktRead, pkt, pktRead]

/-- The instant at which a request's core is done (R290). -/
def coreDoneAt (r : CphReq) (s : State) : State := reachClk (r.clk + cipherClocks r.desc r.key) s

/-- What a running request writes. -/
def cipherOut (r : CphReq) (s : State) : Option (List Byte × List Byte) :=
  cipherRun r.key r.desc (pktRead s (dAad r.desc) (dAadLen r.desc)) (pktRead s (dSrc r.desc) (dLen r.desc))
    (pktRead s (dTag r.desc) (dTagLen r.desc))

section
variable {c : Fin 8} {s : State} {r : CphReq} {rs : List CphReq} (first : s.cipher.reqs = r :: rs) (runs : r.core = some c.val)
include first runs

theorem running_first : s.cipher.reqs.findIdx? (fun r => r.core == some c.val) = some 0 ∧
    s.cipher.reqs.getD 0 { sub := 0, desc := [] } = r := by
  refine ⟨?_, by rw [first]; rfl⟩
  rw [first, List.findIdx?_cons, runs, BEq.rfl, if_pos rfl]

/-- CPH_CORE_DONE with a failed duplicate-round check, on the core of the queue's first request. -/
theorem cphCoreDone_fault : cphCoreDone c true s = raiseEvt 9 0x150 (leBytes 1 c.val) (setB 0x90004 (8 + c.val) true
    (setReq 0 { r with core := none, result := some 7, clk := (coreDoneAt r s).ntb.clk } (coreDoneAt r s))) := by
  obtain ⟨found, request⟩ := running_first first runs
  simp only [cphCoreDone, found, request, if_true, coreDoneAt]

theorem cphCoreDone_auth (out : cipherOut r s = none) : cphCoreDone c false s =
    setReq 0 { r with core := none, result := some 1, clk := (coreDoneAt r s).ntb.clk } (coreDoneAt r s) := by
  obtain ⟨found, request⟩ := running_first first runs
  rw [cipherOut] at out
  simp only [cphCoreDone, found, request, pktRead_congr (clocks_pkt _ s), reachClk, out, coreDoneAt, Bool.false_eq_true, if_false]

theorem cphCoreDone_written {p : List Byte × List Byte} (out : cipherOut r s = some p) : cphCoreDone c false s =
    setReq 0 { r with core := none, result := some 0, clk := (coreDoneAt r s).ntb.clk }
      (pktWrite (dTag r.desc) p.2 (pktWrite (dDst r.desc) p.1 (coreDoneAt r s))) := by
  obtain ⟨found, request⟩ := running_first first runs
  rw [cipherOut] at out
  simp only [cphCoreDone, found, request, pktRead_congr (clocks_pkt _ s), reachClk, out, coreDoneAt, Bool.false_eq_true, if_false]

end

theorem setReq_zero {s : State} {r : CphReq} {rs : List CphReq} (first : s.cipher.reqs = r :: rs) (x : CphReq) :
    (setReq 0 x s).cipher.reqs = x :: rs := by
  rw [setReq, cphSync]
  simp [first]

theorem coreDoneAt_cipher (r : CphReq) (s : State) : (coreDoneAt r s).cipher = s.cipher := clocks_cipher _ s
theorem coreDoneAt_pkt (r : CphReq) (s : State) : (coreDoneAt r s).pkt = s.pkt := clocks_pkt _ s

theorem raiseEvt_ntb (source code : Nat) (args : List Byte) (s : State) : (raiseEvt source code args s).ntb = s.ntb := by
  obtain ⟨l, k, r, h⟩ := raiseEvt_eq source code args s
  rw [h]

theorem setReq_ntb (i : Nat) (x : CphReq) (s : State) : (setReq i x s).ntb = s.ntb := rfl
theorem setReq_pkt (i : Nat) (x : CphReq) (s : State) : (setReq i x s).pkt = s.pkt := rfl

theorem getB_setB_same (off i : Nat) (b : Bool) (s : State) (h : i < 32) : getB (setB off i b s) off i = b := by
  rw [getB, rd_setB_same, bitOf_withBit_same _ _ _ h]

/-- A core found faulty on the queue's first request: the request is aborted and nothing is written. -/
theorem cphCoreDone_aborts {c : Fin 8} {s : State} {r : CphReq} {rs : List CphReq} (first : s.cipher.reqs = r :: rs)
    (runs : r.core = some c.val) : (cphCoreDone c true s).ntb = (coreDoneAt r s).ntb ∧
      (cphCoreDone c true s).cipher.reqs = { r with core := none, result := some 7, clk := (coreDoneAt r s).ntb.clk } :: rs ∧
      getB (cphCoreDone c true s) 0x90004 (8 + c.val) = true ∧ (cphCoreDone c true s).pkt = s.pkt := by
  rw [cphCoreDone_fault first runs]
  refine ⟨?_, ?_, ?_, ?_⟩
  · rw [raiseEvt_ntb, setB_ntb, setReq_ntb]
  · rw [raiseEvt_cipher, setB_cipher, setReq_zero ((congrArg Cipher.reqs (coreDoneAt_cipher r s)).trans first)]
  · rw [getB, rd_raiseEvt _ _ _ _ (by omega) (by omega)]
    exact getB_setB_same _ _ _ _ (by omega)
  · rw [raiseEvt_pkt, setB_pkt, setReq_pkt, coreDoneAt_pkt]

/-- A request whose check fails ends with AUTH_FAIL and writes nothing. -/
theorem cphCoreDone_refuses {c : Fin 8} {s : State} {r : CphReq} {rs : List CphReq} (first : s.cipher.reqs = r :: rs)
    (runs : r.core = some c.val) (out : cipherOut r s = none) : (cphCoreDone c false s).ntb = (coreDoneAt r s).ntb ∧
      (cphCoreDone c false s).cipher.reqs = { r with core := none, result := some 1, clk := (coreDoneAt r s).ntb.clk } :: rs ∧
      (cphCoreDone c false s).pkt = s.pkt := by
  rw [cphCoreDone_auth first runs out]
  refine ⟨setReq_ntb _ _ _, ?_, ?_⟩
  · rw [setReq_zero ((congrArg Cipher.reqs (coreDoneAt_cipher r s)).trans first)]
  · rw [setReq_pkt, coreDoneAt_pkt]

theorem pktWrite_cipher (a : Nat) (bs : List Byte) (s : State) : (pktWrite a bs s).cipher = s.cipher := rfl
theorem pktWrite_ntb (a : Nat) (bs : List Byte) (s : State) : (pktWrite a bs s).ntb = s.ntb := rfl
theorem pktWrite_pkt (a : Nat) (bs : List Byte) (s : State) : (pktWrite a bs s).pkt = tabWriteBytes zeroByte s.pkt a bs := rfl

/-- A request whose result is good ends with status 0, the result at its destination and tag. -/
theorem cphCoreDone_writes {c : Fin 8} {s : State} {r : CphReq} {rs : List CphReq} (first : s.cipher.reqs = r :: rs)
    (runs : r.core = some c.val) {p : List Byte × List Byte} (out : cipherOut r s = some p) :
    (cphCoreDone c false s).ntb = (coreDoneAt r s).ntb ∧
      (cphCoreDone c false s).cipher.reqs = { r with core := none, result := some 0, clk := (coreDoneAt r s).ntb.clk } :: rs ∧
      (cphCoreDone c false s).pkt = tabWriteBytes zeroByte (tabWriteBytes zeroByte s.pkt (dDst r.desc) p.1) (dTag r.desc) p.2 := by
  rw [cphCoreDone_written first runs out]
  refine ⟨?_, ?_, ?_⟩
  · rw [setReq_ntb, pktWrite_ntb, pktWrite_ntb]
  · rw [setReq_zero (rs := rs) (r := r) (by rw [pktWrite_cipher, pktWrite_cipher, coreDoneAt_cipher, first])]
  · rw [setReq_pkt, pktWrite_pkt, pktWrite_pkt, coreDoneAt_pkt]

/-! ### Completions (R292, R301, R302) -/

theorem rd_countCompletion (status : Nat) (s : State) : rd (countCompletion status s) 0x90008 = rd s 0x90008 + 1 := by
  unfold countCompletion
  simp only
  repeat' split
  all_goals simp [incW, rd_wr]

theorem wr_reg_only {s t : State} (off : Nat) (v : Word) (h : ∃ r, t = { s with reg := r }) : ∃ r, wr off v t = { s with reg := r } := by
  obtain ⟨r, rfl⟩ := h
  exact ⟨_, rfl⟩

theorem countCompletion_only (status : Nat) (s : State) : ∃ r, countCompletion status s = { s with reg := r } := by
  have counted := wr_reg_only 0x90008 (rd s 0x90008 + 1) (s := s) (t := s) ⟨s.reg, rfl⟩
  unfold countCompletion
  simp only
  split
  · exact counted
  · split <;> exact wr_reg_only _ _ counted

theorem countCompletion_status (status : Nat) (s : State) : rd (countCompletion status s) 0x90004 = rd s 0x90004 := by
  unfold countCompletion
  simp only
  repeat' split
  all_goals simp [incW, rd_wr]

/-! ### Keys (R298) -/

theorem getKey_setKey_same (k : Nat) (v : KeySlot) (s : State) : getKey (setKey k v s) k = v := by simp [getKey, setKey]

theorem getKey_setKey_other {k j : Nat} (v : KeySlot) (s : State) (h : j ≠ k) : getKey (setKey k v s) j = getKey s j := by
  simp [getKey, setKey, tabGet_set_other _ _ _ h]

/-- Invalidations of key slots while no request runs and no change waits: each empties its slot and no other. -/
theorem forAll_keyChange (ks : List Nat) :
    ∀ s : State, s.cipher.reqs = [] → s.cipher.changes = [] → (∀ k ∈ ks, k < 256) →
      (forAll ks (fun k => keyChange { code := k, slot := {} }) s).guard = s.guard ∧
      ∀ k, getKey (forAll ks (fun k => keyChange { code := k, slot := {} }) s) k = if k ∈ ks then { gen := (getKey s k).gen } else getKey s k := by
  induction ks with
  | nil => intro s _ _ _; exact ⟨rfl, fun k => rfl⟩
  | cons a ks ih =>
    intro s reqs changes small
    have now : keyChange { code := a, slot := {} } s = setKey a { gen := (getKey s a).gen } s := by
      simp [keyChange, keyHeld, keyWaits, reqs, changes, makeChange, small a (List.mem_cons_self ..)]
    obtain ⟨guard, key⟩ := ih (setKey a { gen := (getKey s a).gen } s) reqs changes fun k hk => small k (List.mem_cons_of_mem _ hk)
    rw [forAll, List.foldl_cons, ← forAll, now]
    refine ⟨guard, fun k => ?_⟩
    rw [key]
    by_cases hk : k = a
    · subst hk
      simp [getKey_setKey_same]
    · simp [getKey_setKey_other _ _ hk, hk]

theorem enqueue_empty {s : State} (sub : Nat) (d : List Byte) (empty : s.cipher.reqs = []) :
    (enqueue sub d s).cipher.reqs = [{ sub := sub, desc := padTo 48 d, clk := (enqueue sub d s).ntb.clk }] := by
  rw [enqueue, cphSync]
  simp [empty]

/-- The state once the request of `u` has left the queue: the result in the FIFO, or a request to submit again. -/
def completed (u st : Nat) (r : CphReq) (s : State) : State :=
  let s := reachClk (r.clk + 4) s
  let s := { s with cipher := { s.cipher with reqs := [] } }
  let s := if u = 17 then incF 0x900D4 31 16 1 { s with cipher := { s.cipher with results := s.cipher.results ++ [(st, dRtag r.desc)] } } else s
  if st = 7 ∧ u ≠ 17 then { s with cipher := { s.cipher with waiting := s.cipher.waiting ++ [(u, r.desc)] } } else s

/-- The completion counted and signalled, before the waiting requests are admitted. -/
def counted (st : Nat) (s : State) : State :=
  { raiseSrc 229 (countCompletion st (cphSync s)) with cipher := { s.cipher with waiting := [] } }

theorem cphCompletion_row {u : Fin 18} {r : CphReq} {st : Nat} {s : State} (one : s.cipher.reqs = [r]) (sub : r.sub = u.val)
    (done : r.result = some st) (room : s.cipher.results.length < 4) :
    cphCompletion u s = admitAll (completed u.val st r s).cipher.waiting (counted st (completed u.val st r s)) := by
  have found : s.cipher.reqs.findIdx? (fun r => r.sub == u.val) = some 0 := by simp [one, List.findIdx?_cons, sub]
  have request : s.cipher.reqs.getD 0 { sub := 0, desc := [] } = r := by rw [one]; rfl
  have full : ¬ (u.val = 17 ∧ 4 ≤ s.cipher.results.length) := by omega
  have erased : (reachClk (r.clk + 4) s).cipher.reqs.eraseIdx 0 = [] := by rw [reachClk, clocks_cipher, one]; rfl
  simp only [cphCompletion, found, request, done, full, if_false, erased]
  rfl

theorem completed_reqs (u st : Nat) (r : CphReq) (s : State) : (completed u st r s).cipher.reqs = [] := by
  unfold completed
  simp only
  split <;> split <;> rfl

theorem completed_results (st : Nat) (r : CphReq) (s : State) :
    (completed 17 st r s).cipher.results = s.cipher.results ++ [(st, dRtag r.desc)] := by
  simp [completed, reachClk, incF, setF]

theorem completed_waiting (u st : Nat) (r : CphReq) {s : State} (empty : s.cipher.waiting = []) :
    (completed u st r s).cipher.waiting = if st = 7 ∧ u ≠ 17 then [(u, r.desc)] else [] := by
  unfold completed
  simp only
  split <;> split <;> simp [reachClk, incF, setF, empty]

theorem rd_with_cipher (c : Cipher) (s : State) (o : Nat) : rd { s with cipher := c } o = rd s o := rfl

theorem rd_completed (u st : Nat) (r : CphReq) (s : State) : rd (completed u st r s) 0x90008 = rd s 0x90008 := by
  have reached : rd (reachClk (r.clk + 4) s) 0x90008 = rd s 0x90008 := rd_clocks _ _ (by omega)
  have fifo : ∀ c : Cipher, rd (incF 0x900D4 31 16 1 { reachClk (r.clk + 4) s with cipher := c }) 0x90008 = rd s 0x90008 := fun c =>
    (rd_setF_other _ _ _ _ (by omega)).trans reached
  unfold completed
  simp only
  split <;> split
  · rw [rd_with_cipher]
    exact fifo _
  · rw [rd_with_cipher]
    exact reached
  · exact fifo _
  · exact reached

theorem counted_cipher (st : Nat) (s : State) : (counted st s).cipher = { s.cipher with waiting := [] } := rfl

theorem rd_counted (st : Nat) (s : State) : rd (counted st s) 0x90008 = rd s 0x90008 + 1 := by
  have sync : rd (cphSync s) 0x90008 = rd s 0x90008 := rd_cphSync s (by omega) (by omega)
  have raised : rd (raiseSrc 229 (countCompletion st (cphSync s))) 0x90008 = rd s 0x90008 + 1 := by rw [rd_raiseSrc, rd_countCompletion, sync]
  exact raised

theorem counted_ready (st : Nat) (s : State) : getB (counted st s) 0x90004 26 = !s.cipher.results.isEmpty := by
  have raised : rd (raiseSrc 229 (countCompletion st (cphSync s))) 0x90004 = rd (cphSync s) 0x90004 := by
    rw [rd_raiseSrc, countCompletion_status]
  exact (congrArg (bitOf · 26) raised).trans (cphSync_ready s)

/-- CPH_COMPLETION of a sole finished request (R292): the request leaves, the host's into its FIFO, an aborted one of another submitter
into the queue again. -/
theorem cphCompletion_single {u : Fin 18} {r : CphReq} {st : Nat} {s : State} (one : s.cipher.reqs = [r]) (sub : r.sub = u.val)
    (empty : s.cipher.waiting = []) (done : r.result = some st) (room : s.cipher.results.length < 4) :
    rd (cphCompletion u s) 0x90008 = rd s 0x90008 + 1 ∧
      (u.val = 17 → (cphCompletion u s).cipher.reqs = [] ∧ (cphCompletion u s).cipher.results = s.cipher.results ++ [(st, dRtag r.desc)] ∧
        getB (cphCompletion u s) 0x90004 26 = true) ∧
      (u.val ≠ 17 → st = 7 → (cphCompletion u s).cipher.reqs = [{ sub := u.val, desc := padTo 48 r.desc, clk := (cphCompletion u s).ntb.clk }]) ∧
      (u.val ≠ 17 → st ≠ 7 → (cphCompletion u s).cipher.reqs = []) := by
  have row := cphCompletion_row one sub done room
  have count : rd (counted st (completed u.val st r s)) 0x90008 = rd s 0x90008 + 1 := by rw [rd_counted, rd_completed]
  have left : (counted st (completed u.val st r s)).cipher.reqs = [] := completed_reqs _ _ _ _
  rw [completed_waiting _ _ _ empty] at row
  by_cases again : st = 7 ∧ u.val ≠ 17
  · have free : hasRoom (counted st (completed u.val st r s)) u.val = true := by simp [hasRoom, heldBy, left]
    rw [if_pos again, admitAll, if_pos free, admitAll] at row
    rw [row]
    refine ⟨?_, fun host => absurd host again.2, fun _ _ => enqueue_empty _ _ left, fun _ other => absurd again.1 other⟩
    exact (rd_cphSync _ (by omega) (by omega)).trans count
  · rw [if_neg again, admitAll] at row
    rw [row]
    refine ⟨count, fun host => ?_, fun other aborted => absurd ⟨aborted, other⟩ again, fun _ _ => left⟩
    have results : (completed u.val st r s).cipher.results = s.cipher.results ++ [(st, dRtag r.desc)] := by rw [host, completed_results]
    exact ⟨left, results, by rw [counted_ready, results]; simp⟩

/-- The twin of CPH_KEY_INVAL with no request and no change waiting (R298): the slots named are emptied, and no other. -/
theorem cphKeyInval_match {v : Word} {s : State} (guard : s.guard = some (0x90040, v)) (time : guardInTimeR s = true)
    (changes : s.cipher.changes = []) (reqs : s.cipher.reqs = []) : (cphKeyInval (~~~v) s).guard = none ∧
      ∀ k, getKey (cphKeyInval (~~~v) s) k =
        if k ∈ invalSlots (fieldOf v 7 0) (bitOf v 8) then { gen := (getKey s k).gen } else getKey s k := by
  have small : ∀ k ∈ invalSlots (fieldOf v 7 0) (bitOf v 8), k < 256 := by
    intro k hk
    unfold invalSlots at hk
    split at hk
    · simp at hk
      omega
    · rw [List.mem_singleton.mp hk]
      exact Nat.mod_lt _ (by decide)
  rw [cphKeyInval, guardTwinR_match _ _ _ _ guard time, keyInvalEffect, keyInvalidate]
  exact forAll_keyChange _ (wr 0x90040 (v &&& 0x1FF) { s with guard := none }) reqs changes small

/-- Settles O31: row by row, from what each leaves of the queue, its status and the keys. -/
theorem cipherQueue : Obligations.CipherQueue := by
  refine ⟨fun u d s empty => ⟨fun room => ?_, fun full => ?_⟩, fun c s h => ?_, fun c r s free one idle open' sub changes => ?_,
    fun c f s none => ?_, fun c r rs s first runs => ⟨⟨fun run => ?_, ?_⟩, fun out => ?_, fun p out => ?_⟩,
    fun u r s one sub empty => ⟨fun open' => ?_, fun st done room => ?_⟩, fun v s => ⟨fun off => ?_, fun on full => ?_, fun on room space => ?_⟩,
    fun s => ?_, fun v s => ?_, fun x s => ⟨fun none => ?_, fun found small => ?_⟩, fun v s guard time changes reqs => ?_⟩
  · have row : cphSubmit u d s = enqueue u.val d s := by simp [cphSubmit, room, empty]
    refine ⟨_, congrArg Host.Outcome.next row, rfl, empty, ?_⟩
    rw [enqueue, cphSync_queued]
    simp
  · simp [exec, execCphSubmit, cphSubmit, full, empty]
  · rcases h with h | h
    · simp [exec, execCphStart, cphStart, h]
    · simp [exec, execCphStart, cphStart, chooseSub_empty h]
  · exact ⟨_, rfl, cphStart_single c free one idle open' sub changes⟩
  · have absent : s.cipher.reqs.findIdx? (fun r => r.core == some c.val) = Option.none := by
      rw [List.findIdx?_eq_none_iff]
      simpa using none
    simp [exec, execCphCoreDone, cphCoreDone, absent]
  · obtain ⟨ntb, -, -, -⟩ := cphCoreDone_aborts first runs
    refine ⟨_, rfl, ?_⟩
    show _ ≤ (cphCoreDone c true s).ntb.clk
    rw [ntb]
    exact le_clk_reachClk _ run
  · obtain ⟨ntb, aborted, faulty, kept⟩ := cphCoreDone_aborts first runs
    exact ⟨_, rfl, by rw [aborted, ntb], faulty, kept⟩
  · obtain ⟨ntb, refused, kept⟩ := cphCoreDone_refuses first runs out
    exact ⟨_, rfl, by rw [refused, ntb], kept⟩
  · obtain ⟨ntb, finished, written⟩ := cphCoreDone_writes first runs out
    exact ⟨_, rfl, by rw [finished, ntb], written⟩
  · have found : s.cipher.reqs.findIdx? (fun r => r.sub == u.val) = some 0 := by simp [one, List.findIdx?_cons, sub]
    have request : s.cipher.reqs.getD 0 { sub := 0, desc := [] } = r := by rw [one]; rfl
    simp only [exec, execCphCompletion, cphCompletion, found, request, open']
  · exact ⟨_, rfl, cphCompletion_single one sub empty done room⟩
  · simp [exec, execCphHsubmit, cphHsubmit, off]
  · have row : cphHsubmit v s = setB 0x90004 25 true s := by simp [cphHsubmit, on, full]
    exact ⟨_, congrArg Host.Outcome.next row, onlyRegs_wr _ _ s, rd_setB_same s _ _ _⟩
  · have row : cphHsubmit v s = enqueue 17 (hostDesc12 s) s := by simp [cphHsubmit, on]; omega
    exact ⟨_, congrArg Host.Outcome.next row, rfl⟩
  · refine ⟨_, rfl, rfl, rfl, fun none => ?_, fun p head => ?_⟩
    · show cphHresult s = _
      rw [cphHresult, none]
    · show cphHresult s = _
      obtain ⟨ps, results⟩ := List.head?_eq_some_iff.mp head
      rw [cphHresult, results]
  · refine ⟨_, rfl, ?_⟩
    unfold cphCfgWrite
    split
    · exact ⟨onlyRegs_wr _ _ s, rd_wr_same _ _ _⟩
    · exact ⟨onlyRegs_wr _ _ s, rd_setB_same s _ _ _⟩
  · simp [exec, execKeySlotChange, keySlotChange, none]
  · have row : keySlotChange s = makeChange x { s with cipher := { s.cipher with changes := s.cipher.changes.erase x } } := by
      simp [keySlotChange, found]
    refine ⟨_, congrArg Host.Outcome.next row, ?_⟩
    rw [makeChange, if_pos small]
    exact ⟨rfl, fun k hk => getKey_setKey_other _ _ hk, getKey_setKey_same _ _ _⟩
  · obtain ⟨cleared, keys⟩ := cphKeyInval_match guard time changes reqs
    refine ⟨_, rfl, cleared, fun k hk => ?_⟩
    rw [keys]
    refine if_congr ?_ rfl rfl
    have listed : k ∈ (List.range 255).map (· + 1) ↔ k ≠ 0 := by
      refine ⟨fun h => ?_, fun h => List.mem_map.mpr ⟨k - 1, List.mem_range.mpr (by omega), by omega⟩⟩
      obtain ⟨j, -, rfl⟩ := List.mem_map.mp h
      omega
    cases all : bitOf v 8
    · simp [invalSlots, eq_comm]
    · rw [invalSlots, if_pos rfl, listed]
      simp

end Sys2Proof.Machine
end

section
/-! SUPPORT. What a Mooring link that goes down leaves as it was, in every register, shadow and waiting value beside the links' own
(R260, R268, R272): used for the port states (O28), the port apply (O5) and the disable pair of a register-access message (O58). -/

namespace Sys2Proof.Machine

/-- A register that neither the time base, the operation queue, the trouble log, the topology nor the frames of a link write. -/
def Calm (o : Nat) : Prop :=
  o / 0x10000 ≠ 2 ∧ o / 0x10000 ≠ 7 ∧ o / 0x10000 ≠ 12 ∧ (o < 0xA00C4 ∨ 0xA00D4 < o) ∧ o % 0x8000 ≠ 0x10 ∧ o % 0x8000 ≠ 0x14 ∧
    o % 0x8000 ≠ 0x38 ∧ o % 0x8000 ≠ 0x44

/-- A register of those others, and neither the state nor the training register of port `p`. -/
def Busy (p o : Nat) : Prop := ¬ Calm o ∧ o ≠ mrBase p + 0x10 ∧ o ≠ mrBase p + 0x14

theorem busy_block {p o : Nat} (hp : p < 2) (h : o / 0x10000 = 2 ∨ o / 0x10000 = 7 ∨ o / 0x10000 = 12) : Busy p o := by
  unfold Busy Calm mrBase
  omega

theorem busy_line (p q : Nat) : Busy p (mrBase q + 0x38) ∧ Busy p (mrBase q + 0x44) := by
  unfold Busy Calm mrBase
  omega

theorem busy_other {p q : Nat} (h : q ≠ p) : Busy p (mrBase q + 0x10) ∧ Busy p (mrBase q + 0x14) := by
  unfold Busy Calm mrBase
  omega

theorem busy_topology {p o : Nat} (low : 0xA00C4 ≤ o) (high : o ≤ 0xA00D4) : Busy p o := by
  unfold Busy Calm mrBase
  omega

/-- A port without its queues of frames. -/
def portCore (x : MrPort) : MrPort := { x with cls := [], seq0 := 0, seq3 := 0 }

/-- `t` is as `s` in all that the going down of other links, the frames on their way, the topology and the choice of the time source leave
alone. -/
structure LinkKept (p : Nat) (s t : State) : Prop where
  index : p < 2
  guard : t.guard = s.guard
  pend : t.keeper.pend = s.keeper.pend
  run : t.keeper.run = s.keeper.run
  asked : t.chain.asked = s.chain.asked
  resets : t.linkR.resets = s.linkR.resets
  regs : ∀ o, Calm o → rd t o = rd s o
  shadows : ∀ o, o / 0x10000 ≠ 7 → tabGet (fun _ => none) t.shadow o = tabGet (fun _ => none) s.shadow o
  state : ∀ i, i < 32 → i ≠ 7 → bitOf (rd t (mrBase p + 0x10)) i = bitOf (rd s (mrBase p + 0x10)) i
  train : rd t (mrBase p + 0x14) = rd s (mrBase p + 0x14)
  port : portCore (getPort t p) = portCore (getPort s p)

namespace LinkKept

theorem refl {p : Nat} (hp : p < 2) (s : State) : LinkKept p s s :=
  ⟨hp, rfl, rfl, rfl, rfl, rfl, fun _ _ => rfl, fun _ _ => rfl, fun _ _ _ => rfl, rfl, rfl⟩

section
variable {p : Nat} {s t : State} (h : LinkKept p s t)
include h

/-- A change of anything else. -/
theorem frame {pending : List Instr} {free guardAge hguardAge age : Nat} {lastRead : Word} {live hreg regWas hregWas : Tab Word}
    {latch hlatch : Tab (Option Word)} {ntb : TimeBase} {lamps : Tab Lamp} {caps stamps : Tab (Nat × Nat)} {evf : Fabric}
    {paths : Tab RxPath} {pathS : PathS} {slots : Tab Slot} {agc : Tab (BitVec 16)} {energyAt : Tab Nat} {intake : List RxRec}
    {syns : Tab Synth} {txs : Tab TxPath} {ops : Tab OpRun} {coexIn : CoexIn} {uses : Tab OpUse} {mac : Mac} {air : List AirFrame}
    {cipher : Cipher} {ctx : Tab Ctx} {nodes : NodeSpace} {linkH : LinkEnd} {tender : Tender} {pkt reqMem rspMem image : Tab Byte}
    {flash : Flash} {settings : Settings} {boot : Boot} {power : Power} {rtc : Rtc} {tag : Tag} {taps : Taps}
    {hguard : Option (Nat × Word)} : LinkKept p s (⟨pending, free, lastRead,
    t.reg, t.shadow, latch, t.guard, ntb, lamps, caps, stamps, evf, paths, pathS, slots, live, agc, energyAt, intake, syns, txs, ops, coexIn,
    uses, mac, pkt, air, cipher, ctx, nodes, t.chain, t.linkR, t.keeper, hreg, hlatch, regWas, hregWas, hguard, guardAge, hguardAge, reqMem,
    rspMem, linkH, tender, flash, settings, boot, age, image, power, rtc, tag, taps⟩ : State) :=
  ⟨h.index, h.guard, h.pend, h.run, h.asked, h.resets, h.regs, h.shadows, h.state, h.train, h.port⟩

theorem wr {off : Nat} {v : Word} (busy : Busy p off) : LinkKept p s (wr off v t) := by
  obtain ⟨other, notState, notTrain⟩ := busy
  refine ⟨h.index, h.guard, h.pend, h.run, h.asked, h.resets, fun o calm => ?_, h.shadows, fun i hi bit => ?_, ?_, h.port⟩
  · rw [rd_wr_other _ _ (fun e => other (by rwa [← e])), h.regs o calm]
  · rw [rd_wr_other _ _ (Ne.symm notState), h.state i hi bit]
  · rw [rd_wr_other _ _ (Ne.symm notTrain), h.train]

theorem setF {off hi lo v : Nat} (busy : Busy p off) : LinkKept p s (setF off hi lo v t) := h.wr busy
theorem setB {off i : Nat} {b : Bool} (busy : Busy p off) : LinkKept p s (setB off i b t) := h.wr busy
theorem incW {off : Nat} (busy : Busy p off) : LinkKept p s (incW off t) := h.wr busy

/-- Bit 7 of a port's state register is the topology's (R275). -/
theorem setUpstream {q : Nat} {b : Bool} : LinkKept p s (Machine.setB (mrBase q + 0x10) 7 b t) := by
  by_cases same : q = p
  · subst same
    refine ⟨h.index, h.guard, h.pend, h.run, h.asked, h.resets, fun o calm => ?_, h.shadows, fun i hi bit => ?_, ?_, h.port⟩
    · rw [rd_setB_other _ _ _ (fun e => by unfold Calm mrBase at *; omega), h.regs o calm]
    · rw [rd_setB_same, bitOf_withBit_other _ _ hi bit, h.state i hi bit]
    · rw [rd_setB_other _ _ _ (by omega), h.train]
  · exact h.setB (busy_other same).1

omit h in
theorem ite {c : Prop} [Decidable c] {a b : State} (ha : LinkKept p s a) (hb : LinkKept p s b) : LinkKept p s (if c then a else b) := by
  split
  · exact ha
  · exact hb

omit h in
theorem when {c : Prop} [Decidable c] {f : State → State} {x : State} (hx : LinkKept p s x) (hf : ∀ t, LinkKept p s t → LinkKept p s (f t)) :
    LinkKept p s (if c then f x else x) := ite (hf x hx) hx

theorem onlyIf {c : Bool} {f : State → State} (hf : ∀ t, LinkKept p s t → LinkKept p s (f t)) : LinkKept p s (onlyIf c f t) :=
  ite (hf t h) h

theorem forAll_mem {α : Type} {xs : List α} {f : α → State → State} (hf : ∀ x ∈ xs, ∀ t, LinkKept p s t → LinkKept p s (f x t)) :
    LinkKept p s (forAll xs f t) := by
  induction xs generalizing t with
  | nil => exact h
  | cons x xs ih => exact ih (hf x (List.mem_cons_self ..) t h) fun y hy => hf y (List.mem_cons_of_mem _ hy)

theorem forAll {α : Type} {xs : List α} {f : α → State → State} (hf : ∀ x t, LinkKept p s t → LinkKept p s (f x t)) :
    LinkKept p s (forAll xs f t) := h.forAll_mem fun x _ => hf x

theorem dropShadows {lo hi : Nat} (unit : ∀ o, lo ≤ o → o < hi → o / 0x10000 = 7) : LinkKept p s (dropShadows lo hi t) := by
  refine ⟨h.index, h.guard, h.pend, h.run, h.asked, h.resets, h.regs, fun o other => ?_, h.state, h.train, h.port⟩
  have out : inRange lo hi o = false := by
    rw [← Bool.not_eq_true, inRange_iff]
    exact fun inside => other (unit o inside.1 inside.2)
  rw [shadow_get_dropShadows, out, if_neg (by decide), h.shadows o other]

/-! ### Sources, messages, events and time -/

theorem raiseSrc {n : Nat} : LinkKept p s (raiseSrc n t) := ite h h.frame

theorem linkEnd {l : LinkEnd} (resets : l.resets = t.linkR.resets) : LinkKept p s { t with linkR := l } :=
  ⟨h.index, h.guard, h.pend, h.run, h.asked, resets.trans h.resets, h.regs, h.shadows, h.state, h.train, h.port⟩

theorem keeper {reqs : List (Nat × List Byte)} {evSeq upSeq evLost logNext startClk kickClk bistClk avsClk : Nat}
    {evHold upHold log : List (List Byte)} {wdtOn warned : Bool} {wdtCfg : Word} {alarms failed : List Nat} {loopNext toneEnd : Option Nat} :
    LinkKept p s { t with keeper := ⟨reqs, t.keeper.pend, t.keeper.run, evSeq, upSeq, evHold, evLost, upHold, log, logNext, startClk, wdtOn,
      kickClk, warned, wdtCfg, alarms, bistClk, failed, avsClk, loopNext, toneEnd⟩ } :=
  ⟨h.index, h.guard, h.pend, h.run, h.asked, h.resets, h.regs, h.shadows, h.state, h.train, h.port⟩

theorem sendR {typ : Nat} {b : List Byte} : LinkKept p s (sendR typ b t) := h.linkEnd (by unfold LinkEnd.pump; split <;> rfl)
theorem sendEvent {m : List Byte} : LinkKept p s (sendEvent m t) := ite h.sendR (ite h.keeper h.keeper)

theorem logWrite {source code : Nat} {args : List Byte} : LinkKept p s (logWrite source code args t) := by
  have written : ∀ u, LinkKept p s u → ∀ v w, LinkKept p s (Machine.wr 0xC0024 w (Machine.wr 0xC0020 v u)) := fun u hu v w =>
    (hu.wr (busy_block h.index (by omega))).wr (busy_block h.index (by omega))
  unfold Machine.logWrite
  simp only
  split
  · exact written _ h.keeper _ _
  · exact sendR (written _ h.keeper _ _)

theorem raiseEvt {source code : Nat} {args : List Byte} : LinkKept p s (raiseEvt source code args t) :=
  logWrite (sendEvent h.keeper)

theorem endSlew : LinkKept p s (endSlew t) := setB (frame h) (busy_block h.index (by omega))

theorem plainClocks {n : Nat} : LinkKept p s (plainClocks n t) := ite (frame (ite h h.frame)) (frame (ite h h.frame))

theorem clocks {n : Nat} : LinkKept p s (clocks n t) :=
  ite h.plainClocks (ite (plainClocks (frame h)) (plainClocks (endSlew h.plainClocks)))

/-! ### The operation queue and the Lamps, which a step of the time overtakes (R66, R67) -/

theorem copyShadows {lo hi : Nat} (unit : ∀ o, lo ≤ o → o < hi → o / 0x10000 = 7) : LinkKept p s (copyShadows lo hi t) := by
  have copied : LinkKept p s (Machine.forAll (shadowsIn t lo hi) (fun x => Machine.wr x.1 x.2) t) := by
    refine h.forAll_mem fun x hx u hu => hu.wr (busy_block h.index (Or.inr (Or.inl ?_)))
    obtain ⟨y, -, hy⟩ := List.mem_filterMap.mp hx
    split at hy
    · obtain ⟨v, -, rfl⟩ := Option.map_eq_some_iff.mp hy
      exact unit _ ‹_ ∧ _›.1 ‹_ ∧ _›.2
    · cases hy
  exact copied.dropShadows unit

theorem applyRun {a lo hi src blk : Nat} {check : State → Nat} {after : State → State} (own : a / 0x10000 = 7)
    (unit : ∀ o, lo ≤ o → o < hi → o / 0x10000 = 7) (hf : ∀ t, LinkKept p s t → LinkKept p s (after t)) :
    LinkKept p s (applyRun a lo hi src blk check after t) := by
  have busy : Busy p a := busy_block h.index (by omega)
  exact ite (ite (hf _ (raiseSrc (setB (setF (h.copyShadows unit) busy) busy)))
    (raiseEvt (raiseSrc (setB (setF (setB (h.dropShadows unit) busy) busy) busy)))) h

omit h in
theorem busy_op (hp : p < 2) {n d : Nat} (hn : n < 128) (hd : d ≤ 0x40) : Busy p (opBase n + d) :=
  busy_block hp (by unfold opBase; omega)

theorem setOpState {n v : Nat} (hn : n < 128) : LinkKept p s (setOpState n v t) := h.setF (busy_op h.index hn (by omega))
theorem setOp {n : Nat} {v : OpRun} : LinkKept p s (setOp n v t) := h.frame
theorem opEvt {n : Nat} {atStart : Bool} : LinkKept p s (opEvt n atStart t) := ite h.raiseSrc h
theorem opActivate {n : Nat} (hn : n < 128) : LinkKept p s (opActivate n t) := ite (opEvt (h.setOpState hn)) h

theorem opApply {n : Nat} (hn : n < 128) : LinkKept p s (opApply n t) :=
  ite h (h.applyRun (by unfold opBase; omega) (fun o _ _ => by unfold opBase at *; omega) fun _ h => h.onlyIf fun _ h => h.setOpState hn)

theorem opComplete {n result at' step value : Nat} (hn : n < 128) : LinkKept p s (opComplete n result at' step value t) := by
  have op : ∀ d, d ≤ 0x40 → Busy p (opBase n + d) := fun d => busy_op h.index hn
  exact opApply (opEvt (setOp (wr (wr (wr (wr (setOpState (h.setF (op _ (by omega))) hn) (op _ (by omega))) (op _ (by omega)))
    (op _ (by omega))) (op _ (by omega))))) hn

theorem opEnd {n result value : Nat} (hn : n < 128) : LinkKept p s (opEnd n result value t) := h.opComplete hn

theorem startNow {n : Nat} (hn : n < 128) : LinkKept p s (startNow n t) :=
  ite ((h.opActivate hn).opEnd hn) (ite ((h.opActivate hn).opEnd hn) (when (h.opActivate hn) fun _ h => h.opEnd hn))

theorem opqOvertake {t1 t2 : Nat} : LinkKept p s (opqOvertake t1 t2 t) := by
  refine h.forAll_mem fun n listed u hu => ?_
  have hn : n < 128 := List.mem_range.mp (List.mem_filter.mp (List.mem_mergeSort.mp listed)).1
  exact ite (hu.opEnd hn) (ite (hu.setOp.opActivate hn) (hu.setOp.startNow hn))

theorem shiftOps {d : Int} : LinkKept p s (shiftOps d t) := h.forAll fun _ _ h => ite h h.setOp

omit h in
theorem busy_lamp (hp : p < 2) {n d : Nat} (hn : n < 8) (hd : d ≤ 0x40) : Busy p (lampBase n + d) :=
  busy_block hp (by unfold lampBase; omega)

theorem setLamp {n : Nat} {v : Lamp} : LinkKept p s (setLamp n v t) := h.frame

theorem lampPulse {n : Nat} {oneShot : Bool} (hn : n < 8) : LinkKept p s (lampPulse n oneShot t) := by
  have status : Busy p (lampBase n + 0x20) := busy_lamp h.index hn (by omega)
  exact ite (onlyIf (setB (raiseSrc (setLamp (raiseSrc (ite h.raiseSrc h)))) status) fun _ h => h.setB status)
    (setB (setLamp (raiseSrc (ite h.raiseSrc h))) status)

theorem lampSkipCount {n k : Nat} (hn : n < 8) : LinkKept p s (lampSkipCount n k t) := h.setF (busy_lamp h.index hn (by omega))

theorem lampMissed {n : Nat} (hn : n < 8) : LinkKept p s (lampMissed n t) := by
  have status : Busy p (lampBase n + 0x20) := busy_lamp h.index hn (by omega)
  exact ite ((h.setLamp.setB status).lampSkipCount hn) ((h.setLamp.setB status).lampPulse hn)

theorem lampOvertake {t2 n : Nat} (hn : n < 8) : LinkKept p s (lampOvertake t2 n t) := by
  have status : Busy p (lampBase n + 0x20) := busy_lamp h.index hn (by omega)
  exact ite (h.lampMissed hn) (ite ((h.setLamp.setB status).lampSkipCount hn) (((h.setLamp.setB status).lampSkipCount hn).lampPulse hn))

theorem overtake {t1 t2 : Nat} : LinkKept p s (overtake t1 t2 t) := by
  refine opqOvertake (h.clocks.forAll_mem fun n listed u hu => hu.lampOvertake ?_)
  exact List.mem_range.mp (List.mem_filter.mp listed).1

/-! ### The choice of the time source (R46, R47, R56) -/

omit h in
theorem busy_ntb (hp : p < 2) (d : Nat) (hd : d < 0x10000) : Busy p (0x20000 + d) := busy_block hp (by omega)

theorem setSource {st src : Nat} : LinkKept p s (setSource st src t) := by
  have status : Busy p 0x20024 := busy_ntb h.index 0x24 (by omega)
  exact ite h (raiseEvt (raiseSrc (((h.setF status).setF status).setB status)))

theorem stepTo {n : Nat} {after : State → State} (hf : ∀ t, LinkKept p s t → LinkKept p s (after t)) :
    LinkKept p s (stepTo n after t) := by
  have stepped : LinkKept p s (Machine.setB 0x20024 8 true (Machine.incW 0x20028 (shiftSeen ((n : Int) - t.ntb.net)
      { t with ntb := { t.ntb with net := n } }))) :=
    setB (incW (frame (frame h)) (busy_ntb h.index 0x28 (by omega))) (busy_ntb h.index 0x24 (by omega))
  exact ite (overtake (shiftOps (sendR (hf _ (raiseEvt (raiseSrc stepped)))))) (shiftOps (sendR (hf _ (raiseEvt (raiseSrc stepped)))))

theorem correct {off : Int} {after : State → State} (hf : ∀ t, LinkKept p s t → LinkKept p s (after t)) :
    LinkKept p s (correct off after t) :=
  ite (hf _ h.endSlew) (ite (hf _ (setB (frame h.endSlew) (busy_ntb h.index 0x24 (by omega)))) (h.endSlew.stepTo hf))

theorem lockTo {n : Nat} : LinkKept p s (lockTo n t) := correct (frame h) fun _ h => h.setSource

theorem sourceQualifies {n : Nat} : LinkKept p s (sourceQualifies n t) :=
  ite h (ite h.lockTo (ite (ite h.lockTo (ite h h.frame)) h))

theorem sourceLost : LinkKept p s (sourceLost t) :=
  ite h (ite h.lockTo (ite h.lockTo (raiseEvt (setSource (frame h.endSlew)))))

theorem judgeSources : LinkKept p s (judgeSources t) := by
  have judged : LinkKept p s (if t.ntb.candidate ≠ 0 ∧ !sourceOk t t.ntb.candidate then { t with ntb := { t.ntb with candidate := 0 } } else t) :=
    ite h.frame h
  exact ite (ite judged.sourceQualifies.sourceQualifies judged.sourceLost) (ite judged.lockTo (when judged fun _ h => h.lockTo))

/-! ### Frames on their way (R262, R263, R272) -/

/-- A change of the chain that keeps port `p` up to its queues. -/
theorem chain {c : Chain} (asked : c.asked = t.chain.asked)
    (port : portCore (tabGet (fun _ => {}) c.ports p) = portCore (getPort t p)) : LinkKept p s { t with chain := c } :=
  ⟨h.index, h.guard, h.pend, h.run, asked.trans h.asked, h.resets, h.regs, h.shadows, h.state, h.train, port.trans h.port⟩

theorem frames {peers : Tab MrPeer} {bseq : Nat} {seen : List (Nat × Nat)} {held : List MrHeld} {out : List MrOut} {helloClk : Option Nat}
    {fwd : List (Nat × Nat × Nat × Option (List Byte))} :
    LinkKept p s { t with chain := ⟨t.chain.ports, peers, bseq, seen, held, out, helloClk, fwd, t.chain.asked⟩ } := h.chain rfl rfl

theorem setPort {q : Nat} {x : MrPort} (same : q = p → portCore x = portCore (getPort t p)) : LinkKept p s (setPort q x t) := by
  refine h.chain rfl ?_
  by_cases here : q = p
  · subst here
    rw [tabGet_set_same, same rfl]
  · rw [tabGet_set_other _ _ _ (Ne.symm here)]
    rfl

theorem setCls {q c : Nat} {v : MrClass} : LinkKept p s (setCls q c v t) := h.setPort fun here => here ▸ rfl
theorem emit {q c n : Nat} {m : MrMsg} : LinkKept p s (emit q c n m t) := incW (frames h) (busy_line p q).2
theorem pump {q c : Nat} : LinkKept p s (pump q c t) := forAll h.setCls fun _ _ h => h.emit

theorem queueFrame {q c : Nat} {m : MrMsg} : LinkKept p s (queueFrame q c m t) :=
  ite h.setCls.pump (ite (emit (h.setPort fun here => here ▸ rfl)) (ite (h.incW (busy_line p q).1) (emit (h.setPort fun here => here ▸ rfl))))

theorem broadcast {typ : Nat} {b : List Byte} : LinkKept p s (broadcast typ b t) :=
  forAll (frames h) fun _ _ h => ite h.queueFrame h

theorem routeSince {c since : Nat} {m : MrMsg} : LinkKept p s (routeSince c since m t) := by
  unfold Machine.routeSince
  split
  · exact h.queueFrame
  · exact ite (frames h) h

theorem releaseHeld : LinkKept p s (releaseHeld t) := forAll (frames h) fun _ _ h => h.routeSince
theorem reroute {q : Nat} : LinkKept p s (reroute q t) := forAll (h.setPort fun here => here ▸ rfl) fun _ _ h => h.routeSince

/-! ### The topology and the other port (R268, R270, R272) -/

theorem topoSync : LinkKept p s (topoSync t) :=
  setUpstream (setUpstream (((((h.setB (busy_topology (by omega) (by omega))).setF (busy_topology (by omega) (by omega))).setB
    (busy_topology (by omega) (by omega))).wr (busy_topology (by omega) (by omega))).wr (busy_topology (by omega) (by omega))))

theorem mooringJudge : LinkKept p s (mooringJudge t) := ite h (ite (sourceQualifies (frame h)) (judgeSources (frame h)))

theorem setLstate {q v : Nat} (other : q ≠ p) : LinkKept p s (setLstate q v t) :=
  when (when ((h.setPort fun here => absurd here other).setF (busy_other other).1) fun _ h => h.setF (busy_other other).2)
    fun _ h => h.raiseSrc

/-- LSTATE lies in the bits kept. -/
theorem lstate_eq : lstate t p = lstate s p := by
  refine Nat.eq_of_testBit_eq fun i => ?_
  rw [lstate, lstate, getF, getF, testBit_fieldOf, testBit_fieldOf]
  by_cases hi : i < 4
  · simpa [hi, bitOf] using h.state i (by omega) (by omega)
  · simp [show ¬ i < 3 + 1 - 0 by omega]

theorem unblock (open' : lstate s p ≠ 9) : LinkKept p s (unblock t) :=
  h.forAll fun q u hu => by
    split
    · have other : q ≠ p := fun here => open' (by rw [← hu.lstate_eq, ← here]; assumption)
      exact ((hu.setLstate other).incW (busy_topology (by omega) (by omega))).broadcast
    · exact hu

end
end LinkKept

end Sys2Proof.Machine
end

section
/-! SUPPORT. What each operation on a Mooring port leaves in the port and its registers (R257-R263, R272, R275). -/

namespace Sys2Proof.Machine

/-! ### Ports and their state register -/

theorem getPort_setPort_same (p : Nat) (x : MrPort) (s : State) : getPort (setPort p x s) p = x := tabGet_set_same _ _ _ _

theorem getPort_setPort_other {p q : Nat} (x : MrPort) (s : State) (h : q ≠ p) : getPort (setPort p x s) q = getPort s q :=
  tabGet_set_other _ _ _ h

theorem setPort_only (p : Nat) (x : MrPort) (s : State) : { setPort p x s with chain := s.chain } = s := rfl
theorem rd_setPort (p : Nat) (x : MrPort) (s : State) (o : Nat) : rd (setPort p x s) o = rd s o := rfl
theorem getPort_wr (off : Nat) (v : Word) (s : State) (p : Nat) : getPort (wr off v s) p = getPort s p := rfl
theorem getPort_setF (off hi lo v : Nat) (s : State) (p : Nat) : getPort (setF off hi lo v s) p = getPort s p := rfl
theorem getPort_setB (off i : Nat) (b : Bool) (s : State) (p : Nat) : getPort (setB off i b s) p = getPort s p := rfl

theorem getPort_raiseEvt (source code : Nat) (args : List Byte) (s : State) (p : Nat) :
    getPort (raiseEvt source code args s) p = getPort s p := by
  obtain ⟨l, k, r, h⟩ := raiseEvt_eq source code args s
  rw [h]
  rfl

theorem chain_clocks (n : Nat) (s : State) : (clocks n s).chain = s.chain := by
  have := congrArg State.chain (clocks_only n s); exact this

theorem getPort_reachClk (c : Nat) (s : State) (p : Nat) : getPort (reachClk c s) p = getPort s p := by
  rw [getPort, reachClk, chain_clocks, getPort]

theorem chain_raiseSrc (n : Nat) (s : State) : (raiseSrc n s).chain = s.chain := by
  have := congrArg State.chain (raiseSrc_only n s); exact this

theorem rd_reachClk (c : Nat) (s : State) {o : Nat} (h : o ≠ 0x20024) : rd (reachClk c s) o = rd s o := rd_clocks _ _ h

/-- No register of a port is the time base's status. -/
theorem mrBase_ne_ntb (p d : Nat) : mrBase p + d ≠ 0x20024 := by unfold mrBase; omega

theorem getF_eq_of_rd {s t : State} {o : Nat} (h : rd t o = rd s o) (hi lo : Nat) : getF t o hi lo = getF s o hi lo := by
  rw [getF, h, getF]

theorem getB_eq_of_rd {s t : State} {o : Nat} (h : rd t o = rd s o) (i : Nat) : getB t o i = getB s o i := by
  rw [getB, h, getB]

theorem getF_setF_same (off hi lo v : Nat) (s : State) (h : hi < 32) : getF (setF off hi lo v s) off hi lo = v % 2 ^ (hi + 1 - lo) := by
  rw [getF, rd_setF_same, fieldOf_withField _ _ _ _ h]

theorem getF_setF_apart (off : Nat) {hi lo hi' lo' : Nat} (v : Nat) (s : State) (h : hi' < 32) (apart : hi' < lo ∨ hi < lo') :
    getF (setF off hi lo v s) off hi' lo' = getF s off hi' lo' := by
  rw [getF, rd_setF_same, fieldOf_withField_other _ _ h apart, getF]

theorem getF_setB_apart (off : Nat) {i hi lo : Nat} (b : Bool) (s : State) (h : hi < 32) (apart : hi < i ∨ i < lo) :
    getF (setB off i b s) off hi lo = getF s off hi lo := by
  rw [getF, rd_setB_same, fieldOf_withBit_other _ _ h apart, getF]

theorem getB_setF_apart (off : Nat) {hi lo i : Nat} (v : Nat) (s : State) (h : i < 32) (apart : i < lo ∨ hi < i) :
    getB (setF off hi lo v s) off i = getB s off i := by
  rw [getB, rd_setF_same, bitOf_withField_other _ _ h apart, getB]

theorem getB_setB_apart (off : Nat) {i j : Nat} (b : Bool) (s : State) (h : j < 32) (apart : j ≠ i) :
    getB (setB off i b s) off j = getB s off j := by
  rw [getB, rd_setB_same, bitOf_withBit_other _ _ h apart, getB]

/-! ### Entering a state (R259, R276) -/

section
variable (p v : Nat) (s : State)

/-- The port as it enters a state. -/
def entering : MrPort :=
  { getPort s p with phaseClk := s.ntb.clk, upClk := if v = 8 ∧ lstate s p ≠ 8 then s.ntb.clk else (getPort s p).upClk }

/-- Beside registers and a Rhizome source, entering a state changes the port's own instants. -/
theorem setLstate_eq : ∃ r e, setLstate p v s = { setPort p (entering p v s) s with reg := r, evf := e } := by
  have raised : ∀ (c : Prop) [Decidable c] (u : State), ∃ e, (if c then raiseSrc (222 + p) u else u) = { u with evf := e } := fun c _ u => by
    split
    · refine ⟨(raiseSrc (222 + p) u).evf, ?_⟩
      unfold raiseSrc
      simp only
      split <;> rfl
    · exact ⟨_, rfl⟩
  have shown : ∃ r, (if 1 ≤ v ∧ v ≤ 7 then setF (mrBase p + 0x14) 3 0 v (setF (mrBase p + 0x10) 3 0 v (setPort p (entering p v s) s))
      else setF (mrBase p + 0x10) 3 0 v (setPort p (entering p v s) s)) = { setPort p (entering p v s) s with reg := r } := by
    split <;> exact ⟨_, rfl⟩
  obtain ⟨r, hr⟩ := shown
  obtain ⟨e, he⟩ := raised ((lstate s p = 8) ≠ (v = 8)) { setPort p (entering p v s) s with reg := r }
  refine ⟨r, e, Eq.trans ?_ he⟩
  rw [← hr]
  rfl

theorem getPort_setLstate : getPort (setLstate p v s) p = entering p v s := by
  obtain ⟨r, e, h⟩ := setLstate_eq p v s
  rw [h]
  exact getPort_setPort_same p _ s

theorem rd_setLstate (o : Nat) : rd (setLstate p v s) o =
    if o = mrBase p + 0x10 then withField (rd s o) 3 0 v
    else if o = mrBase p + 0x14 ∧ 1 ≤ v ∧ v ≤ 7 then withField (rd s o) 3 0 v else rd s o := by
  have apart : mrBase p + 0x14 ≠ mrBase p + 0x10 := by omega
  have raised : ∀ (c : Prop) [Decidable c] (u : State), rd (if c then raiseSrc (222 + p) u else u) o = rd u o := fun c _ u => by
    split
    · rw [rd_raiseSrc]
    · rfl
  unfold setLstate
  simp only
  rw [raised]
  split
  · by_cases status : o = mrBase p + 0x10
    · subst status
      rw [rd_setF_other _ _ _ _ (Ne.symm apart), rd_setF_same, if_pos rfl, rd_setPort]
    · by_cases train : o = mrBase p + 0x14
      · subst train
        rw [rd_setF_same, rd_setF_other _ _ _ _ apart, rd_setPort, if_neg apart, if_pos ⟨rfl, ‹_›⟩]
      · rw [rd_setF_other _ _ _ _ train, rd_setF_other _ _ _ _ status, rd_setPort, if_neg status, if_neg fun h => train h.1]
  · by_cases status : o = mrBase p + 0x10
    · subst status
      rw [rd_setF_same, if_pos rfl, rd_setPort]
    · rw [rd_setF_other _ _ _ _ status, rd_setPort, if_neg status, if_neg fun h => ‹¬ _› h.2]

variable {p v} in
theorem rd_setLstate_other {o : Nat} (status : o ≠ mrBase p + 0x10) (train : o ≠ mrBase p + 0x14) :
    rd (setLstate p v s) o = rd s o := by
  rw [rd_setLstate, if_neg status, if_neg fun h => train h.1]

variable {v} in
theorem lstate_setLstate (h : v < 16) : lstate (setLstate p v s) p = v := by
  rw [lstate, getF, rd_setLstate, if_pos rfl, fieldOf_withField _ _ _ _ (by omega)]
  exact Nat.mod_eq_of_lt h

variable {p v} in
/-- Entering a state leaves the upper fields of MRx_STATUS and MRx_TRAIN. -/
theorem getF_setLstate {o hi lo : Nat} (high : 4 ≤ lo) (h : hi < 32) : getF (setLstate p v s) o hi lo = getF s o hi lo := by
  rw [getF, rd_setLstate, getF]
  split
  · exact fieldOf_withField_other _ _ h (by omega)
  · split
    · exact fieldOf_withField_other _ _ h (by omega)
    · rfl

variable {p v} in
theorem getB_setLstate {o i : Nat} (high : 4 ≤ i) (h : i < 32) : getB (setLstate p v s) o i = getB s o i := by
  rw [getB, rd_setLstate, getB]
  split
  · exact bitOf_withField_other _ _ h (by omega)
  · split
    · exact bitOf_withField_other _ _ h (by omega)
    · rfl

end

/-! ### A link that goes down (R260, R272) -/

/-- What the going down of a link leaves of everything beside the port's own registers and the counter of losses. -/
structure LinkLeft (p : Nat) (s t : State) : Prop where
  guard : t.guard = s.guard
  pend : t.keeper.pend = s.keeper.pend
  run : t.keeper.run = s.keeper.run
  asked : t.chain.asked = s.chain.asked
  resets : t.linkR.resets = s.linkR.resets
  regs : ∀ o, Calm o → o ≠ mrBase p + 0x3C → rd t o = rd s o
  shadows : ∀ o, o / 0x10000 ≠ 7 → tabGet (fun _ => none) t.shadow o = tabGet (fun _ => none) s.shadow o

theorem setLstate_left (p v : Nat) (s : State) : LinkLeft p s (setLstate p v s) := by
  have regs : ∀ o, Calm o → rd (setLstate p v s) o = rd s o := fun o calm =>
    rd_setLstate_other s (fun e => by unfold Calm mrBase at *; omega) (fun e => by unfold Calm mrBase at *; omega)
  obtain ⟨r, e, h⟩ := setLstate_eq p v s
  rw [h] at regs ⊢
  exact ⟨rfl, rfl, rfl, rfl, rfl, fun o calm _ => regs o calm, fun _ _ => rfl⟩

/-- The state in which the loss of a link in service is reported (R260): it has left its state, its line is silent, its time transfer has
begun again and the loss is counted. -/
def linkFell (p next : Nat) (s : State) : State :=
  let s := lineStops p (setLstate p next s)
  let s := setPort p { getPort s p with marks := [], peerMark := none, delays := [], good := 0, bad := 0, uncorr := [], markClk := none } s
  setB (mrBase p + 0x10) 8 false (setB (mrBase p + 0x10) 9 true (incW (mrBase p + 0x3C) s))

theorem rd_lineStops (p : Nat) (s : State) {o : Nat} (sent : o ≠ mrBase p + 0x44) (lost : o ≠ mrBase p + 0x38) :
    rd (lineStops p s) o = rd s o := (rd_wr_other _ _ sent).trans (rd_wr_other _ _ lost)

section
variable (p next : Nat) (s : State)

theorem rd_linkFell_status : rd (linkFell p next s) (mrBase p + 0x10) =
    withBit (withBit (withField (rd s (mrBase p + 0x10)) 3 0 next) 9 true) 8 false := by
  rw [linkFell, rd_setB_same, rd_setB_same, incW, rd_wr_other _ _ (by omega), rd_setPort, rd_lineStops _ _ (by omega) (by omega), rd_setLstate,
    if_pos rfl]

theorem rd_linkFell_losses : rd (linkFell p next s) (mrBase p + 0x3C) = rd s (mrBase p + 0x3C) + 1 := by
  rw [linkFell, rd_setB_other _ _ _ (by omega), rd_setB_other _ _ _ (by omega), incW, rd_wr_same, rd_setPort,
    rd_lineStops _ _ (by omega) (by omega), rd_setLstate_other _ (by omega) (by omega)]

theorem rd_linkFell_other {o : Nat} (status : o ≠ mrBase p + 0x10) (losses : o ≠ mrBase p + 0x3C) (sent : o ≠ mrBase p + 0x44)
    (lost : o ≠ mrBase p + 0x38) : rd (linkFell p next s) o = rd (setLstate p next s) o := by
  rw [linkFell, rd_setB_other _ _ _ status, rd_setB_other _ _ _ status, incW, rd_wr_other _ _ losses, rd_setPort, rd_lineStops _ _ sent lost]

theorem getPort_linkFell : (getPort (linkFell p next s) p).marks = [] ∧ (getPort (linkFell p next s) p).delays = [] := by
  rw [linkFell, getPort_setB, getPort_setB, incW, getPort_wr, getPort_setPort_same]
  exact ⟨rfl, rfl⟩

theorem lstate_linkFell {next : Nat} (h : next < 16) : lstate (linkFell p next s) p = next := by
  rw [lstate, getF, rd_linkFell_status, fieldOf_withBit_other _ _ (by omega) (by omega), fieldOf_withBit_other _ _ (by omega) (by omega),
    fieldOf_withField _ _ _ _ (by omega)]
  exact Nat.mod_eq_of_lt h

end

namespace LinkLeft

theorem wr {p off : Nat} {v : Word} {s t : State} (h : LinkLeft p s t) (own : ¬ Calm off ∨ off = mrBase p + 0x3C) :
    LinkLeft p s (Machine.wr off v t) := by
  refine ⟨h.guard, h.pend, h.run, h.asked, h.resets, fun o calm losses => ?_, h.shadows⟩
  rw [rd_wr_other _ _ (fun e => own.elim (fun other => other (by rwa [← e])) fun here => losses (e.trans here)), h.regs o calm losses]

theorem frames {p : Nat} {s t : State} (h : LinkLeft p s t) {ports : Tab MrPort} {out : List MrOut} :
    LinkLeft p s { t with chain := { t.chain with ports := ports, out := out } } :=
  ⟨h.guard, h.pend, h.run, h.asked, h.resets, h.regs, h.shadows⟩

theorem linkFell (p next : Nat) (s : State) : LinkLeft p s (linkFell p next s) := by
  have status : ¬ Calm (mrBase p + 0x10) := by unfold Calm mrBase; omega
  have lost : ¬ Calm (mrBase p + 0x38) := by unfold Calm mrBase; omega
  have sent : ¬ Calm (mrBase p + 0x44) := by unfold Calm mrBase; omega
  have silent : LinkLeft p s (lineStops p (setLstate p next s)) := frames (((setLstate_left p next s).wr (.inl lost)).wr (.inl sent))
  exact ((silent.frames.wr (.inr rfl)).wr (.inl status)).wr (.inl status)

theorem then_kept {p : Nat} {s t u : State} (h : LinkLeft p s t) (k : LinkKept p t u) : LinkLeft p s u :=
  ⟨k.guard.trans h.guard, k.pend.trans h.pend, k.run.trans h.run, k.asked.trans h.asked, k.resets.trans h.resets,
    fun o calm losses => (k.regs o calm).trans (h.regs o calm losses), fun o other => (k.shadows o other).trans (h.shadows o other)⟩

end LinkLeft

theorem linkDown_idle {p next : Nat} {s : State} (h : lstate s p ≠ 8 ∧ lstate s p ≠ 9) : linkDown p next s = setLstate p next s := by
  unfold linkDown
  simp only [if_pos h]

/-- After a link in service has fallen, the events, the other port, the frames and the time source follow. -/
theorem linkDown_kept {p next : Nat} {s : State} (hp : p < 2) (h : lstate s p = 8 ∨ lstate s p = 9) (small : next < 16) (open' : next ≠ 9) :
    LinkKept p (linkFell p next s) (linkDown p next s) := by
  have served : ¬ (lstate s p ≠ 8 ∧ lstate s p ≠ 9) := by omega
  have fell := (LinkKept.refl hp (linkFell p next s)).raiseEvt (source := 10 + p) (code := 0x141) (args := leBytes 1 p)
  have notBlocked : lstate (linkFell p next s) p ≠ 9 := by rwa [lstate_linkFell p s small]
  unfold linkDown
  simp only [if_neg served]
  exact .mooringJudge (.topoSync (.releaseHeld (.reroute (.broadcast (.when (.when fell fun _ h => h.unblock notBlocked)
    fun _ h => h.setB (busy_topology (by omega) (by omega)))))))

theorem linkDown_left {p next : Nat} {s : State} (hp : p < 2) (small : next < 16) (open' : next ≠ 9) : LinkLeft p s (linkDown p next s) := by
  by_cases served : lstate s p = 8 ∨ lstate s p = 9
  · exact (LinkLeft.linkFell p next s).then_kept (linkDown_kept hp served small open')
  · rw [linkDown_idle (by omega)]
    exact setLstate_left p next s

theorem lstate_linkDown {p next : Nat} {s : State} (hp : p < 2) (small : next < 16) (open' : next ≠ 9) :
    lstate (linkDown p next s) p = next := by
  by_cases served : lstate s p = 8 ∨ lstate s p = 9
  · rw [(linkDown_kept hp served small open').lstate_eq, lstate_linkFell p s small]
  · rw [linkDown_idle (by omega), lstate_setLstate p s small]

/-- The attempts and fallbacks counted in MRx_TRAIN survive the loss of the link. -/
theorem getF_linkDown_train {p next : Nat} {s : State} (hp : p < 2) (small : next < 16) (open' : next ≠ 9) {hi lo : Nat} (high : 4 ≤ lo)
    (h : hi < 32) : getF (linkDown p next s) (mrBase p + 0x14) hi lo = getF s (mrBase p + 0x14) hi lo := by
  by_cases served : lstate s p = 8 ∨ lstate s p = 9
  · rw [getF, (linkDown_kept hp served small open').train, rd_linkFell_other _ _ _ (by omega) (by omega) (by omega) (by omega)]
    exact getF_setLstate s high h
  · rw [linkDown_idle (by omega), getF_setLstate s high h]

/-- LINK_DOWN is set and counted, and the time transfer of the port begins again (R260, R268). -/
theorem linkDown_reports {p next : Nat} {s : State} (hp : p < 2) (h : lstate s p = 8 ∨ lstate s p = 9) (small : next < 16) (open' : next ≠ 9) :
    getB (linkDown p next s) (mrBase p + 0x10) 9 = true ∧ getB (linkDown p next s) (mrBase p + 0x10) 8 = false ∧
      rd (linkDown p next s) (mrBase p + 0x3C) = rd s (mrBase p + 0x3C) + 1 ∧
      (getPort (linkDown p next s) p).marks = [] ∧ (getPort (linkDown p next s) p).delays = [] := by
  have kept := linkDown_kept hp h small open'
  obtain ⟨marks, delays⟩ := getPort_linkFell p next s
  refine ⟨?_, ?_, ?_, ?_, ?_⟩
  · rw [getB, kept.state 9 (by omega) (by omega), rd_linkFell_status, bitOf_withBit_other _ _ (by omega) (by omega),
      bitOf_withBit_same _ _ _ (by omega)]
  · rw [getB, kept.state 8 (by omega) (by omega), rd_linkFell_status, bitOf_withBit_same _ _ _ (by omega)]
  · rw [kept.regs _ (by unfold Calm mrBase; omega), rd_linkFell_losses]
  · exact (congrArg MrPort.marks kept.port).trans marks
  · exact (congrArg MrPort.delays kept.port).trans delays

end Sys2Proof.Machine
end

section
/-! SUPPORT. The states of a Mooring port (O28): training, loss, fallback, disable and retransmission, row by row. -/

namespace Sys2Proof.Machine

/-! ### Training (R259) -/

theorem getB_setB_kept {off i j : Nat} {s : State} (h : j < 32) (set : getB s off j = true) : getB (setB off i true s) off j = true := by
  rw [getB, rd_setB_same, bitOf_withBit _ _ h]
  split
  · rfl
  · exact set

theorem getF_raiseEvt (source code : Nat) (args : List Byte) (s : State) {o : Nat} (hi lo : Nat) (index : o ≠ 0xC0020) (oldest : o ≠ 0xC0024) :
    getF (raiseEvt source code args s) o hi lo = getF s o hi lo := getF_eq_of_rd (rd_raiseEvt _ _ _ _ index oldest) _ _

/-- No register of a port is one of the trouble log's. -/
theorem mrBase_ne_log {p d : Nat} (hp : p < 2) (hd : d < 0x8000) : mrBase p + d ≠ 0xC0020 ∧ mrBase p + d ≠ 0xC0024 := by unfold mrBase; omega

/-- A failed attempt shows TRAIN_FAIL and its phase, and waits. -/
theorem trainFails_shown {p phase : Nat} (hp : p < 2) (small : phase < 16) (s : State) :
    getB (trainFails p phase s) (mrBase p + 0x10) 11 = true ∧ getF (trainFails p phase s) (mrBase p + 0x14) 7 4 = phase ∧
      (getPort (trainFails p phase s) p).waiting = true := by
  obtain ⟨index, oldest⟩ := mrBase_ne_log hp (d := 0x10) (by omega)
  obtain ⟨index', oldest'⟩ := mrBase_ne_log hp (d := 0x14) (by omega)
  refine ⟨?_, ?_, ?_⟩
  · rw [trainFails, getB_eq_of_rd (rd_raiseEvt _ _ _ _ index oldest), getB, rd_setPort, rd_setB_same, bitOf_withBit_same _ _ _ (by omega)]
  · rw [trainFails, getF_raiseEvt _ _ _ _ _ _ index' oldest', getF, rd_setPort, rd_setB_other _ _ _ (by omega), rd_setF_same,
      fieldOf_withField _ _ _ _ (by omega)]
    exact Nat.mod_eq_of_lt small
  · rw [trainFails, getPort_raiseEvt, getPort_setPort_same]

theorem linkPulseDetect_detects {p : Fin 2} {s : State} (detect : lstate s p.val = 1) (free : (getPort s p.val).waiting = false) :
    lstate (linkPulseDetect p s) p.val = 2 ∧ (getPort (linkPulseDetect p s) p.val).trial = getF s (mrBase p.val + 4) 1 0 ∧
      getF (linkPulseDetect p s) (mrBase p.val + 0x14) 15 8 = (getF s (mrBase p.val + 0x14) 15 8 + 1) % 256 := by
  have row : linkPulseDetect p s = setLstate p.val 2 (setPort p.val { getPort s p.val with
      trial := rateMaxOf s p.val, t0 := s.ntb.clk, retrain := false, cfg := rd s (mrBase p.val + 4) } (incF (mrBase p.val + 0x14) 15 8 1 s)) := by simp [linkPulseDetect, detect, free]
  refine ⟨?_, ?_, ?_⟩
  · rw [row, lstate_setLstate _ _ (by omega)]
  · rw [row, getPort_setLstate, entering, getPort_setPort_same]
    rfl
  · rw [row, getF_setLstate _ (by omega) (by omega)]
    exact getF_setF_same _ _ _ _ s (by omega)

theorem clk_clocks_zero (s : State) : (clocks 0 s).ntb.clk = s.ntb.clk := by
  have none : ∀ u : State, (plainClocks 0 u).ntb.clk = u.ntb.clk := fun u => by
    unfold plainClocks
    simp only
    repeat' split
    all_goals rfl
  unfold clocks
  split
  · exact none s
  · split
    · exact none { s with ntb := { s.ntb with slewLeft := s.ntb.slewLeft - 0 * 100000 * slewRate s } }
    · have now : slewClocks s = 0 := by omega
      rw [now, none, show (endSlew (plainClocks 0 s)).ntb.clk = (plainClocks 0 s).ntb.clk from rfl, none]

/-- A core clock already reached. -/
theorem clk_reachClk_past {c : Nat} {s : State} (h : c ≤ s.ntb.clk) : (reachClk c s).ntb.clk = s.ntb.clk := by
  rw [reachClk, show c - s.ntb.clk = 0 by omega, clk_clocks_zero]

theorem phaseLimit_congr {p : Nat} {s t : State} (h : getPort t p = getPort s p) (phase : Nat) : phaseLimit t p phase = phaseLimit s p phase := by
  unfold phaseLimit
  rw [h]

/-- A trial whose 10 ms are over. -/
def trialOver (p : Nat) (snr : BitVec 16) (s : State) : State :=
  setF (mrBase p + 0x18) 15 0 snr.toNat (reachClk ((getPort s p).phaseClk + clocksOfNs 10000000) s)

theorem getPort_trialOver (p : Nat) (snr : BitVec 16) (s : State) (q : Nat) : getPort (trialOver p snr s) q = getPort s q := by
  rw [trialOver, getPort_setF, getPort_reachClk]

theorem getF_trialOver (p : Nat) (snr : BitVec 16) (s : State) : getF (trialOver p snr s) (mrBase p + 0x18) 15 0 = snr.toNat := by
  rw [trialOver, getF_setF_same _ _ _ _ _ (by omega)]
  exact Nat.mod_eq_of_lt snr.isLt

/-- A trial that the SNR does not pass: at the next lower rate, or failed. -/
def trialMissed (p : Nat) (snr : BitVec 16) (s : State) : State :=
  if fieldOf (getPort s p).cfg 3 2 < (getPort s p).trial then
    setLstate p 3 (setPort p { getPort s p with trial := (getPort s p).trial - 1 } (trialOver p snr s))
  else trainFails p 3 (trialOver p snr s)

theorem trialMissed_shown {p : Nat} (hp : p < 2) (snr : BitVec 16) (s : State) :
    getF (trialMissed p snr s) (mrBase p + 0x18) 15 0 = snr.toNat ∧
      (fieldOf (getPort s p).cfg 3 2 < (getPort s p).trial →
        lstate (trialMissed p snr s) p = 3 ∧ (getPort (trialMissed p snr s) p).trial = (getPort s p).trial - 1) ∧
      ((getPort s p).trial ≤ fieldOf (getPort s p).cfg 3 2 → getB (trialMissed p snr s) (mrBase p + 0x10) 11 = true ∧
        getF (trialMissed p snr s) (mrBase p + 0x14) 7 4 = 3 ∧ (getPort (trialMissed p snr s) p).waiting = true) := by
  have seen := getF_trialOver p snr s
  unfold trialMissed
  split
  · refine ⟨?_, fun _ => ⟨lstate_setLstate _ _ (by omega), ?_⟩, fun h => by omega⟩
    · rw [getF_eq_of_rd (rd_setLstate_other _ (by omega) (by omega))]
      exact seen
    · rw [getPort_setLstate, entering, getPort_setPort_same]
  · refine ⟨?_, fun h => by omega, fun _ => trainFails_shown hp (by omega) _⟩
    obtain ⟨index, oldest⟩ := mrBase_ne_log hp (d := 0x18) (by omega)
    rw [trainFails, getF_raiseEvt _ _ _ _ _ _ index oldest, getF_eq_of_rd (rd_setPort _ _ _ _),
      getF_eq_of_rd (rd_setB_other _ _ _ (by omega)), getF_eq_of_rd (rd_setF_other _ _ _ _ (by omega)), seen]

/-- The word of MRx_PEER that IDENT leaves. -/
theorem identWord_fields (i : TrainInfo) :
    let w := BitVec.ofNat 32 (i.peerDev.val + 16 * i.peerPrio.val + 65536 * i.peerChain.toNat)
    fieldOf w 3 0 = i.peerDev.val ∧ fieldOf w 7 4 = i.peerPrio.val ∧ fieldOf w 31 16 = i.peerChain.toNat := by
  have dev := i.peerDev.isLt
  have prio := i.peerPrio.isLt
  have chain := i.peerChain.isLt
  simp only [fieldOf, BitVec.toNat_ofNat, Nat.shiftRight_eq_div_pow]
  omega

theorem trialEnd_row {p : Nat} (snr : BitVec 16) {s : State} (inTime : s.ntb.clk ≤ phaseLimit s p 3)
    (past : (getPort s p).phaseClk + clocksOfNs 10000000 ≤ s.ntb.clk) : trialEnd p snr s =
      if (170 + fieldOf (getPort s p).cfg 15 8 : Int) ≤ snr.toInt then setLstate p 4 (trialOver p snr s)
      else if fieldOf (getPort s p).cfg 3 2 < (getPort s p).trial then
        setLstate p 3 (setPort p { getPort s p with trial := (getPort s p).trial - 1 } (trialOver p snr s))
      else trainFails p 3 (trialOver p snr s) := by
  have port := getPort_trialOver p snr s p
  have clk : (trialOver p snr s).ntb.clk = s.ntb.clk := clk_reachClk_past past
  have limit : phaseLimit (trialOver p snr s) p 3 = phaseLimit s p 3 := phaseLimit_congr port 3
  have need : (trainNeed (trialOver p snr s) p : Int) = 170 + fieldOf (getPort s p).cfg 15 8 := by
    rw [trainNeed, port]
    exact Int.natCast_add _ _
  have least : trainMin (trialOver p snr s) p = fieldOf (getPort s p).cfg 3 2 := by rw [trainMin, port]
  have row : trialEnd p snr s = if phaseLimit (trialOver p snr s) p 3 < (trialOver p snr s).ntb.clk then trainFails p 3 (trialOver p snr s)
      else if (trainNeed (trialOver p snr s) p : Int) ≤ snr.toInt then setLstate p 4 (trialOver p snr s)
      else if trainMin (trialOver p snr s) p < (getPort (trialOver p snr s) p).trial then
        setLstate p 3 (setPort p { getPort (trialOver p snr s) p with trial := (getPort (trialOver p snr s) p).trial - 1 } (trialOver p snr s))
      else trainFails p 3 (trialOver p snr s) := by
    unfold trialEnd trialOver
    rfl
  rw [row, if_neg (by omega), need, least, port]

section
variable {p : Fin 2} (i : TrainInfo) {s : State} (free : (getPort s p.val).waiting = false)
include free

theorem trainPhaseEnd_overrun (late : phaseLimit s p.val (lstate s p.val) < s.ntb.clk) (low : 2 ≤ lstate s p.val) (high : lstate s p.val ≤ 7) :
    trainPhaseEnd p i s = trainFails p.val (lstate s p.val) s := by
  unfold trainPhaseEnd
  simp only
  rw [if_neg (by simpa [free] using ⟨low, high⟩), if_pos late]

variable (inTime : s.ntb.clk ≤ phaseLimit s p.val (lstate s p.val))
include inTime

/-- TRAIN_PHASE_END before the phase's limit, by phase. -/
theorem trainPhaseEnd_inTime (low : 2 ≤ lstate s p.val) (high : lstate s p.val ≤ 7) : trainPhaseEnd p i s =
    if lstate s p.val = 2 then
      (if 400 ≤ i.erle.toNat then setLstate p.val 3 (setF (mrBase p.val + 0x18) 31 16 i.erle.toNat s) else setF (mrBase p.val + 0x18) 31 16 i.erle.toNat s)
    else if lstate s p.val = 3 then trialEnd p.val i.snr s
    else if lstate s p.val = 4 then
      (if min (getPort s p.val).trial i.rate.val < fieldOf (getPort s p.val).cfg 3 2 then trainFails p.val 3 s
       else setLstate p.val 5 (setF (mrBase p.val + 0x10) 5 4 (min (getPort s p.val).trial i.rate.val) s))
    else if lstate s p.val = 5 then
      setLstate p.val 6 (setPort p.val { getPort s p.val with
        cls := [], seq0 := 0, seq3 := 0, mseq := 0, marks := [], peerMark := none, delays := [], good := 0, bad := 0, markClk := none } s)
    else if lstate s p.val = 6 then
      setLstate p.val 7 (setPort p.val { getPort s p.val with peerEui := i.peerEui.toNat }
        (wr (mrBase p.val + 0x1C) (BitVec.ofNat 32 (i.peerDev.val + 16 * i.peerPrio.val + 65536 * i.peerChain.toNat)) s))
    else settlePort p.val s := by
  unfold trainPhaseEnd
  simp only
  rw [if_neg (by simpa [free] using ⟨low, high⟩), if_neg (by omega)]
  rfl

theorem trainPhaseEnd_echo (phase : lstate s p.val = 2) : lstate (trainPhaseEnd p i s) p.val = (if 400 ≤ i.erle.toNat then 3 else 2) ∧
    getF (trainPhaseEnd p i s) (mrBase p.val + 0x18) 31 16 = i.erle.toNat := by
  have stored : getF (setF (mrBase p.val + 0x18) 31 16 i.erle.toNat s) (mrBase p.val + 0x18) 31 16 = i.erle.toNat := by
    rw [getF_setF_same _ _ _ _ _ (by omega)]
    exact Nat.mod_eq_of_lt i.erle.isLt
  rw [trainPhaseEnd_inTime i free inTime (by omega) (by omega), if_pos phase]
  split
  · exact ⟨lstate_setLstate _ _ (by omega), (getF_setLstate _ (by omega) (by omega)).trans stored⟩
  · exact ⟨(getF_eq_of_rd (rd_setF_other _ _ _ _ (by omega)) _ _).trans phase, stored⟩

theorem trainPhaseEnd_rate_fails (phase : lstate s p.val = 4) (below : min (getPort s p.val).trial i.rate.val < fieldOf (getPort s p.val).cfg 3 2) :
    trainPhaseEnd p i s = trainFails p.val 3 s := by
  rw [trainPhaseEnd_inTime i free inTime (by omega) (by omega), if_neg (by omega), if_neg (by omega), if_pos phase, if_pos below]

theorem trainPhaseEnd_rate (phase : lstate s p.val = 4) (above : fieldOf (getPort s p.val).cfg 3 2 ≤ min (getPort s p.val).trial i.rate.val)
    (trial : (getPort s p.val).trial < 4) : lstate (trainPhaseEnd p i s) p.val = 5 ∧
      rateOfPort (trainPhaseEnd p i s) p.val = min (getPort s p.val).trial i.rate.val := by
  rw [trainPhaseEnd_inTime i free inTime (by omega) (by omega), if_neg (by omega), if_neg (by omega), if_pos phase, if_neg (by omega)]
  refine ⟨lstate_setLstate _ _ (by omega), (getF_setLstate _ (by omega) (by omega)).trans ?_⟩
  rw [getF_setF_same _ _ _ _ _ (by omega)]
  exact Nat.mod_eq_of_lt (by omega)

theorem trainPhaseEnd_lock (phase : lstate s p.val = 5) : lstate (trainPhaseEnd p i s) p.val = 6 ∧ (getPort (trainPhaseEnd p i s) p.val).cls = [] := by
  rw [trainPhaseEnd_inTime i free inTime (by omega) (by omega), if_neg (by omega), if_neg (by omega), if_neg (by omega), if_pos phase]
  refine ⟨lstate_setLstate _ _ (by omega), ?_⟩
  rw [getPort_setLstate, entering, getPort_setPort_same]

theorem trainPhaseEnd_ident (phase : lstate s p.val = 6) : lstate (trainPhaseEnd p i s) p.val = 7 ∧
    (getPort (trainPhaseEnd p i s) p.val).peerEui = i.peerEui.toNat ∧
    rd (trainPhaseEnd p i s) (mrBase p.val + 0x1C) = BitVec.ofNat 32 (i.peerDev.val + 16 * i.peerPrio.val + 65536 * i.peerChain.toNat) := by
  rw [trainPhaseEnd_inTime i free inTime (by omega) (by omega), if_neg (by omega), if_neg (by omega), if_neg (by omega), if_neg (by omega),
    if_pos phase]
  refine ⟨lstate_setLstate _ _ (by omega), ?_, ?_⟩
  · rw [getPort_setLstate, entering, getPort_setPort_same]
  · rw [rd_setLstate_other _ (by omega) (by omega), rd_setPort, rd_wr_same]

theorem trainPhaseEnd_foreign (phase : lstate s p.val = 7) (foreign : getF s (mrBase p.val + 0x1C) 31 16 ≠ getF s 0xA00C0 31 16) :
    lstate (trainPhaseEnd p i s) p.val = 10 ∧ getB (trainPhaseEnd p i s) 0xA00C4 18 = true := by
  have row : settlePort p.val s = raiseEvt (10 + p.val) 0x144 (leBytes 1 p.val ++ leBytes 1 0 ++ leBytes 2
      (getF (setB 0xA00C4 18 true (setLstate p.val 10 s)) (mrBase p.val + 0x1C) 31 16)) (setB 0xA00C4 18 true (setLstate p.val 10 s)) := by
    unfold settlePort
    exact if_pos foreign
  have status : mrBase p.val + 0x10 ≠ 0xA00C4 := by unfold mrBase; omega
  obtain ⟨index, oldest⟩ := mrBase_ne_log (p := p.val) p.isLt (d := 0x10) (by omega)
  rw [trainPhaseEnd_inTime i free inTime (by omega) (by omega), if_neg (by omega), if_neg (by omega), if_neg (by omega), if_neg (by omega),
    if_neg (by omega), row]
  refine ⟨?_, ?_⟩
  · rw [lstate, getF_raiseEvt _ _ _ _ _ _ index oldest, getF_eq_of_rd (rd_setB_other _ _ _ status)]
    exact lstate_setLstate _ _ (by omega)
  · rw [getB_eq_of_rd (rd_raiseEvt _ _ _ _ (by omega) (by omega)), getB_setB_same _ _ _ _ (by omega)]

end

theorem trainPhaseEnd_idle {p : Fin 2} (i : TrainInfo) {s : State} (h : lstate s p.val < 2 ∨ 7 < lstate s p.val ∨ (getPort s p.val).waiting = true) :
    trainPhaseEnd p i s = s := by
  unfold trainPhaseEnd
  simp only
  rw [if_pos]
  tauto

theorem trainFail_fails {p : Fin 2} {s : State} (low : 2 ≤ lstate s p.val) (high : lstate s p.val ≤ 7) (free : (getPort s p.val).waiting = false) :
    trainFail p s = trainFails p.val (lstate s p.val) (reachClk (phaseLimit s p.val (lstate s p.val)) s) := by
  unfold trainFail
  simp only
  rw [if_pos ⟨low, high, by rw [free]; rfl⟩]

theorem trainFail_idle {p : Fin 2} {s : State} (h : lstate s p.val < 2 ∨ 7 < lstate s p.val ∨ (getPort s p.val).waiting = true) :
    trainFail p s = s := by
  unfold trainFail
  simp only
  rw [if_neg]
  rintro ⟨low, high, free⟩
  simp only [Bool.not_eq_true'] at free
  simp only [free, Bool.false_eq_true, or_false] at h
  omega

theorem trainRetryWait_ends {p : Fin 2} {s : State} (waits : (getPort s p.val).waiting = true) :
    lstate (trainRetryWait p s) p.val = 1 ∧ (getPort (trainRetryWait p s) p.val).waiting = false := by
  unfold trainRetryWait
  simp only
  rw [if_pos waits]
  refine ⟨lstate_setLstate _ _ (by omega), ?_⟩
  rw [getPort_setLstate, entering, getPort_setPort_same]

end Sys2Proof.Machine
end

section
/-! SUPPORT. The states of a Mooring port in service (O28): loss, fallback, a higher rate, disable and retransmission, and the whole
statement. -/

namespace Sys2Proof.Machine

/-! ### Uncorrectable codewords (R260) -/

theorem rd_countUncorr (p n : Nat) (s : State) {o : Nat} (h : o ≠ mrBase p + 0x2C) : rd (countUncorr p n s) o = rd s o := rd_wr_other s _ h

theorem lstate_countUncorr (p n : Nat) (s : State) : lstate (countUncorr p n s) p = lstate s p :=
  getF_eq_of_rd (rd_countUncorr p n s (by omega)) _ _

/-- Codewords counted now lie in the last second. -/
theorem uncorrSecond_countUncorr (p n : Nat) (s : State) : uncorrSecond (countUncorr p n s) p = uncorrSecond s p + n := by
  have counted : (getPort (countUncorr p n s) p).uncorr = if n = 0 then (getPort s p).uncorr
      else (getPort s p).uncorr.filter (fun e => decide (s.ntb.clk < e.1 + clocksOfNs 1000000000)) ++ [(s.ntb.clk, n)] := by
    rw [countUncorr, getPort_setPort_same]
  have second : 0 < clocksOfNs 1000000000 := by decide
  rw [uncorrSecond, counted, show (countUncorr p n s).ntb.clk = s.ntb.clk from rfl, uncorrSecond]
  generalize clocksOfNs 1000000000 = second' at *
  split
  · simp [*]
  · simp [List.filter_append, List.filter_filter, second]

theorem lstate_setPort (p q : Nat) (x : MrPort) (s : State) : lstate (setPort q x s) p = lstate s p := rfl

theorem retrainAt_retrains {p rate : Nat} {s : State} (hp : p < 2) :
    lstate (retrainAt p rate s) p = 3 ∧ (getPort (retrainAt p rate s) p).trial = rate := by
  refine ⟨?_, ?_⟩
  · rw [retrainAt, lstate_setPort, lstate_linkDown hp (by omega) (by omega)]
  · rw [retrainAt, getPort_setPort_same]

/-- A port in service that falls back (R260). -/
theorem fallbackJudge_falls {p : Nat} {s : State} (hp : p < 2) (served : lstate s p = 8 ∨ lstate s p = 9) (enabled : getB s (mrBase p + 4) 4 = true)
    (lower : rateMinOf s p < rateOfPort s p) (many : getF s (mrBase p + 4) 23 16 < uncorrSecond s p) :
    lstate (fallbackJudge p s) p = 3 ∧ (getPort (fallbackJudge p s) p).trial = rateOfPort s p - 1 ∧
      getB (fallbackJudge p s) (mrBase p + 0x10) 10 = true ∧
      getF (fallbackJudge p s) (mrBase p + 0x14) 23 16 = (getF s (mrBase p + 0x14) 23 16 + 1) % 256 := by
  obtain ⟨index, oldest⟩ := mrBase_ne_log hp (d := 0x10) (by omega)
  obtain ⟨index', oldest'⟩ := mrBase_ne_log hp (d := 0x14) (by omega)
  obtain ⟨state, trial⟩ := retrainAt_retrains (rate := rateOfPort s p - 1) (s := s) hp
  have train : getF (retrainAt p (rateOfPort s p - 1) s) (mrBase p + 0x14) 23 16 = getF s (mrBase p + 0x14) 23 16 :=
    getF_linkDown_train (s := s) hp (next := 3) (by omega) (by omega) (by omega) (by omega)
  have row : fallbackJudge p s = raiseEvt (10 + p) 0x142 (leBytes 1 p ++ leBytes 1 (rateOfPort s p - 1))
      (incF (mrBase p + 0x14) 23 16 1 (setB (mrBase p + 0x10) 10 true (retrainAt p (rateOfPort s p - 1) s))) := by
    unfold fallbackJudge
    exact if_pos ⟨served, enabled, lower, many⟩
  rw [row]
  refine ⟨?_, ?_, ?_, ?_⟩
  · rw [lstate, getF_raiseEvt _ _ _ _ _ _ index oldest, incF, getF_eq_of_rd (rd_setF_other _ _ _ _ (by omega)), getF_setB_apart _ _ _ (by omega) (by omega)]
    exact state
  · rw [getPort_raiseEvt, incF, getPort_setF, getPort_setB, trial]
  · rw [getB_eq_of_rd (rd_raiseEvt _ _ _ _ index oldest), incF, getB_eq_of_rd (rd_setF_other _ _ _ _ (by omega)), getB_setB_same _ _ _ _ (by omega)]
  · rw [getF_raiseEvt _ _ _ _ _ _ index' oldest', incF, getF_setF_same _ _ _ _ _ (by omega), getF_eq_of_rd (rd_setB_other _ _ _ (by omega)), train]
    rfl

theorem fallbackJudge_stays {p : Nat} {s : State} (h : getB s (mrBase p + 4) 4 = false ∨ rateOfPort s p ≤ rateMinOf s p) : fallbackJudge p s = s := by
  unfold fallbackJudge
  refine if_neg ?_
  rintro ⟨-, enabled, lower, -⟩
  rcases h with h | h
  · rw [h] at enabled
    cases enabled
  · omega

/-- The codewords that FALLBACK finds uncorrectable. -/
def tooMany (p : Nat) (s : State) : State := countUncorr p (getF s (mrBase p + 4) 23 16 + 1 - uncorrSecond s p) s

theorem fallback_row {p : Fin 2} {s : State} (served : lstate s p.val = 8 ∨ lstate s p.val = 9) :
    fallback p s = fallbackJudge p.val (tooMany p.val s) := by
  unfold fallback
  exact if_pos served

theorem rd_tooMany (p : Nat) (s : State) {o : Nat} (h : o ≠ mrBase p + 0x2C) : rd (tooMany p s) o = rd s o := rd_countUncorr p _ s h

theorem fallback_falls {p : Fin 2} {s : State} (served : lstate s p.val = 8 ∨ lstate s p.val = 9) (enabled : getB s (mrBase p.val + 4) 4 = true)
    (lower : getF s (mrBase p.val + 4) 3 2 < rateOfPort s p.val) :
    lstate (fallback p s) p.val = 3 ∧ (getPort (fallback p s) p.val).trial = rateOfPort s p.val - 1 ∧
      getB (fallback p s) (mrBase p.val + 0x10) 10 = true ∧
      getF (fallback p s) (mrBase p.val + 0x14) 23 16 = (getF s (mrBase p.val + 0x14) 23 16 + 1) % 256 := by
  have cfg : rd (tooMany p.val s) (mrBase p.val + 4) = rd s (mrBase p.val + 4) := rd_tooMany _ _ (by omega)
  have status : rd (tooMany p.val s) (mrBase p.val + 0x10) = rd s (mrBase p.val + 0x10) := rd_tooMany _ _ (by omega)
  have train : rd (tooMany p.val s) (mrBase p.val + 0x14) = rd s (mrBase p.val + 0x14) := rd_tooMany _ _ (by omega)
  have rate : rateOfPort (tooMany p.val s) p.val = rateOfPort s p.val := getF_eq_of_rd status _ _
  have judged := fallbackJudge_falls (s := tooMany p.val s) p.isLt (by rwa [tooMany, lstate_countUncorr]) (by rwa [getB_eq_of_rd cfg])
    (by rw [rate, rateMinOf, getF_eq_of_rd cfg]; exact lower)
    (by rw [getF_eq_of_rd cfg, tooMany, uncorrSecond_countUncorr]; omega)
  rw [fallback_row served, ← rate, ← getF_eq_of_rd train]
  exact judged

theorem fallback_stays {p : Fin 2} {s : State} (served : lstate s p.val = 8 ∨ lstate s p.val = 9)
    (h : getB s (mrBase p.val + 4) 4 = false ∨ rateOfPort s p.val ≤ getF s (mrBase p.val + 4) 3 2) : fallback p s = tooMany p.val s := by
  have cfg : rd (tooMany p.val s) (mrBase p.val + 4) = rd s (mrBase p.val + 4) := rd_tooMany _ _ (by omega)
  have rate : rateOfPort (tooMany p.val s) p.val = rateOfPort s p.val := getF_eq_of_rd (rd_tooMany _ _ (by omega)) _ _
  rw [fallback_row served]
  exact fallbackJudge_stays (by rwa [getB_eq_of_rd cfg, rate, rateMinOf, getF_eq_of_rd cfg])

theorem rateUpHoldExpiry_rises {p : Fin 2} {s : State} (up : lstate s p.val = 8) (below : rateOfPort s p.val < getF s (mrBase p.val + 4) 1 0)
    (hold : getF s (mrBase p.val + 4) 31 24 ≠ 0)
    (snr : (200 + getF s (mrBase p.val + 4) 15 8 : Int) ≤ signedOf 16 (getF s (mrBase p.val + 0x18) 15 0))
    (free : upstream s ≠ some p.val ∨ getB s 0xA00C4 5 = true) :
    lstate (rateUpHoldExpiry p s) p.val = 3 ∧ (getPort (rateUpHoldExpiry p s) p.val).trial = getF s (mrBase p.val + 4) 1 0 := by
  unfold rateUpHoldExpiry
  simp only
  rw [if_pos ⟨up, below, hold, snr, free⟩]
  exact retrainAt_retrains p.isLt

theorem rateUpHoldExpiry_idle {p : Fin 2} {s : State}
    (h : lstate s p.val ≠ 8 ∨ getF s (mrBase p.val + 4) 1 0 ≤ rateOfPort s p.val ∨ getF s (mrBase p.val + 4) 31 24 = 0) : rateUpHoldExpiry p s = s := by
  unfold rateUpHoldExpiry
  simp only
  refine if_neg ?_
  rintro ⟨up, below, hold, -⟩
  have below' : rateOfPort s p.val < getF s (mrBase p.val + 4) 1 0 := below
  omega

/-! ### PORT_DISABLE (R260) -/

theorem and_one (v : Word) : v &&& 1 = if bitOf v 0 then 1 else 0 := by
  have low : (v &&& 1).toNat = v.toNat % 2 := Nat.and_one_is_mod _
  have bit : bitOf v 0 = decide (v.toNat % 2 = 1) := Nat.testBit_zero _
  refine BitVec.eq_of_toNat_eq (low.trans ?_)
  rw [bit]
  rcases Nat.mod_two_eq_zero_or_one v.toNat with h | h <;> simp [h]

theorem portDisable_disables {p : Nat} {v : Word} {s : State} (hp : p < 2) (on : bitOf v 0 = true) :
    lstate (portDisable p v s) p = 0 ∧ rd (portDisable p v s) (mrBase p + 0x40) = 1 ∧ LinkLeft p (wr (mrBase p + 0x40) (v &&& 1) s) (portDisable p v s) := by
  have one : v &&& 1 = 1 := by rw [and_one, if_pos on]
  have row : portDisable p v s = setPort p { getPort (wr (mrBase p + 0x40) (v &&& 1) s) p with waiting := false }
      (linkDown p 0 (wr (mrBase p + 0x40) (v &&& 1) s)) := by
    unfold portDisable
    exact if_pos on
  have left := linkDown_left (p := p) (next := 0) (s := wr (mrBase p + 0x40) (v &&& 1) s) hp (by omega) (by omega)
  rw [row]
  refine ⟨?_, ?_, left.frames⟩
  · rw [lstate_setPort, lstate_linkDown hp (by omega) (by omega)]
  · rw [rd_setPort, left.regs _ (by unfold Calm mrBase; omega) (by omega), rd_wr_same, one]

theorem portDisable_enables {p : Nat} {v : Word} {s : State} (off : bitOf v 0 = false) (disabled : lstate s p = 0) :
    portDisable p v s = setLstate p 1 (wr (mrBase p + 0x40) 0 s) := by
  have zero : v &&& 1 = 0 := by rw [and_one, off, if_neg (by decide)]
  have still : lstate (wr (mrBase p + 0x40) 0 s) p = 0 := (getF_eq_of_rd (rd_wr_other _ _ (by omega)) _ _).trans disabled
  unfold portDisable
  rw [zero, off]
  exact if_pos still

/-! ### Retransmission (R263) -/

theorem length_lineOrder (s : State) (t : Nat) (xs : List MrOut) : (lineOrder s t xs).length = xs.length := by
  induction xs generalizing t with
  | nil => rfl
  | cons x xs ih => rw [lineOrder, List.length_cons, ih, List.length_cons]

/-- A frame handed to a line adds one to those on the lines. -/
theorem length_emit (p c n : Nat) (m : MrMsg) (s : State) : (emit p c n m s).chain.out.length = s.chain.out.length + 1 := by
  have waits := List.length_eq_length_filter_add (l := s.chain.out) (outWaits s p)
  have classes := List.length_eq_length_filter_add (l := s.chain.out.filter (outWaits s p)) (fun y => decide (y.cls ≤ c))
  have later : (fun y : MrOut => decide (c < y.cls)) = fun y => !decide (y.cls ≤ c) := by
    funext y
    rw [← decide_not, decide_eq_decide]
    omega
  simp only [emit, incW, wr_chain, List.length_append, length_lineOrder, List.length_singleton, later]
  omega

theorem ports_emit (p c n : Nat) (m : MrMsg) (s : State) : (emit p c n m s).chain.ports = s.chain.ports := rfl

theorem rd_emit (p c n : Nat) (m : MrMsg) (s : State) {o : Nat} (h : o ≠ mrBase p + 0x44) : rd (emit p c n m s) o = rd s o := rd_wr_other _ _ h

/-- The frames of a class put on the line again: each counts, and the port and the other registers stay. -/
theorem emitRange_sends (p c n : Nat) (s : State) : (emitRange p c 0 n s).chain.out.length = s.chain.out.length + n ∧
    (emitRange p c 0 n s).chain.ports = s.chain.ports ∧ ∀ o, o ≠ mrBase p + 0x44 → rd (emitRange p c 0 n s) o = rd s o := by
  have each : ∀ ks : List Nat, ∀ u : State,
      let t := forAll ks (fun k s => emit p c ((getCls s p c).base + k) ((getCls s p c).q.getD k ⟨0, 0, 0, []⟩) s) u
      t.chain.out.length = u.chain.out.length + ks.length ∧ t.chain.ports = u.chain.ports ∧ ∀ o, o ≠ mrBase p + 0x44 → rd t o = rd u o := by
    intro ks
    induction ks with
    | nil => exact fun u => ⟨rfl, rfl, fun _ _ => rfl⟩
    | cons k ks ih =>
      intro u
      obtain ⟨out, ports, regs⟩ := ih (emit p c ((getCls u p c).base + k) ((getCls u p c).q.getD k ⟨0, 0, 0, []⟩) u)
      refine ⟨out.trans ?_, ports, fun o h => (regs o h).trans (rd_emit _ _ _ _ _ h)⟩
      rw [length_emit, List.length_cons]
      omega
  have all := each ((List.range n).drop 0) s
  rw [List.drop_zero, List.length_range] at all
  exact all

/-- The state of a port whose class is sent again, before its frames are (R263). -/
def retrying (p c : Nat) (s : State) : State :=
  let x := getCls s p c
  let s := reachClk (x.since + clocksOfNs 200000) s
  let s := setCls p c { x with tries := x.tries + 1, since := s.ntb.clk } s
  wr (mrBase p + 0x34) (rd s (mrBase p + 0x34) + BitVec.ofNat 32 x.sent) s

theorem mrRetxTimeout_row {p : Fin 2} {c : Fin 5} {s : State} (sent : (getCls s p.val c.val).sent ≠ 0) (acked : ackedClass c.val = true) :
    mrRetxTimeout p c s = onlyIf (decide (15 ≤ (getCls s p.val c.val).tries)) (linkDown p.val 1)
      (emitRange p.val c.val 0 (getCls s p.val c.val).sent (retrying p.val c.val s)) := by
  unfold mrRetxTimeout retrying
  simp only
  rw [if_neg (by simp [sent, acked])]

theorem getCls_retrying (p c : Nat) (s : State) : ∃ since, getCls (retrying p c s) p c = { getCls s p c with tries := (getCls s p c).tries + 1, since := since } :=
  ⟨_, by simp only [retrying, getCls, getPort_wr, setCls, getPort_setPort_same, tabGet_set_same]; rfl⟩

theorem rd_retrying (p c : Nat) (s : State) :
    rd (retrying p c s) (mrBase p + 0x34) = rd s (mrBase p + 0x34) + BitVec.ofNat 32 (getCls s p c).sent := by
  have reached : rd (reachClk ((getCls s p c).since + clocksOfNs 200000) s) (mrBase p + 0x34) = rd s (mrBase p + 0x34) :=
    rd_reachClk _ _ (mrBase_ne_ntb p 0x34)
  rw [← reached]
  exact rd_wr_same _ _ _

theorem out_retrying (p c : Nat) (s : State) : (retrying p c s).chain.out = s.chain.out := by
  show (reachClk ((getCls s p c).since + clocksOfNs 200000) s).chain.out = _
  rw [reachClk, chain_clocks]

theorem getCls_congr {s t : State} (h : t.chain.ports = s.chain.ports) (p c : Nat) : getCls t p c = getCls s p c := by
  unfold getCls getPort
  rw [h]

theorem ackedClass_iff (c : Fin 5) : ackedClass c.val = true ↔ c = 1 ∨ c = 2 ∨ c = 4 := by
  revert c
  decide

theorem mrRetxTimeout_idle {p : Fin 2} {c : Fin 5} {s : State} (h : (getCls s p.val c.val).sent = 0 ∨ c = 0 ∨ c = 3) : mrRetxTimeout p c s = s := by
  unfold mrRetxTimeout
  simp only
  refine if_pos ?_
  rcases h with h | rfl | rfl
  · exact .inl h
  · exact .inr rfl
  · exact .inr rfl

theorem trainPhaseEnd_trial {p : Fin 2} (i : TrainInfo) {s : State} (free : (getPort s p.val).waiting = false)
    (inTime : s.ntb.clk ≤ phaseLimit s p.val (lstate s p.val)) (phase : lstate s p.val = 3)
    (past : (getPort s p.val).phaseClk + clocksOfNs 10000000 ≤ s.ntb.clk) : trainPhaseEnd p i s =
      if (170 + fieldOf (getPort s p.val).cfg 15 8 : Int) ≤ i.snr.toInt then setLstate p.val 4 (trialOver p.val i.snr s)
      else trialMissed p.val i.snr s := by
  rw [trainPhaseEnd_inTime i free inTime (by omega) (by omega), if_neg (by omega), if_pos phase, trialEnd_row i.snr (by rwa [← phase]) past]
  rfl

theorem linkPulseDetect_idle {p : Fin 2} {s : State} (h : lstate s p.val ≠ 1 ∨ (getPort s p.val).waiting = true) : linkPulseDetect p s = s := by
  unfold linkPulseDetect
  exact if_pos h

theorem trainRetryWait_idle {p : Fin 2} {s : State} (free : (getPort s p.val).waiting = false) : trainRetryWait p s = s := by
  unfold trainRetryWait
  simp only [free]
  rfl

theorem codewordLockLost_row {p : Fin 2} {s : State} (low : 8 ≤ lstate s p.val) (high : lstate s p.val ≤ 11) :
    codewordLockLost p s = linkDown p.val 1 (countUncorr p.val 8 s) := by
  unfold codewordLockLost
  exact if_pos ⟨low, high⟩

theorem codewordLockLost_reports {p : Fin 2} {s : State} (low : 8 ≤ lstate s p.val) (high : lstate s p.val ≤ 9) :
    let t := linkDown p.val 1 (countUncorr p.val 8 s)
    getB t (mrBase p.val + 0x10) 9 = true ∧ getB t (mrBase p.val + 0x10) 8 = false ∧
      rd t (mrBase p.val + 0x3C) = rd s (mrBase p.val + 0x3C) + 1 ∧ (getPort t p.val).marks = [] ∧ (getPort t p.val).delays = [] := by
  have state := lstate_countUncorr p.val 8 s
  rw [← rd_countUncorr p.val 8 s (o := mrBase p.val + 0x3C) (by omega)]
  exact linkDown_reports p.isLt (by omega) (by omega) (by omega)

theorem codewordLockLost_idle {p : Fin 2} {s : State} (h : lstate s p.val < 8 ∨ 11 < lstate s p.val) : codewordLockLost p s = s := by
  unfold codewordLockLost
  exact if_neg (by omega)

theorem fallback_idle {p : Fin 2} {s : State} (up : lstate s p.val ≠ 8) (blocked : lstate s p.val ≠ 9) : fallback p s = s := by
  unfold fallback
  exact if_neg (by omega)

/-- Settles O28: row by row, with the loss of a link taken through what it leaves of its port. -/
theorem mooringPortStates : Obligations.MooringPortStates := by
  refine ⟨fun p s => ⟨fun detect free => ?_, fun h => ?_⟩, fun p i s free inTime => ⟨fun phase => ?_, fun phase past => ⟨fun good => ?_, fun poor => ?_⟩,
    fun phase above trial => ?_, fun phase => ?_, fun phase => ?_, fun phase below => ?_, fun phase foreign => ?_⟩,
    fun p i s free late low high => ?_, fun p i s h => ?_, fun p s => ⟨fun low high free => ?_, fun h => ?_, fun waits => ?_, fun free => ?_⟩,
    fun p s => ⟨fun low high => ?_, fun h => ?_⟩, fun p s => ⟨fun served enabled lower => ?_, fun up blocked => ?_, fun served h => ?_⟩,
    fun p s => ⟨fun up below hold snr open' => ?_, fun h => ?_⟩, fun p v s guard time => ⟨fun on => ?_, fun off disabled => ?_⟩,
    fun p c s => ⟨fun h => ?_, fun sent cls few => ?_, fun sent cls many => ?_⟩⟩
  · exact ⟨_, rfl, linkPulseDetect_detects detect free⟩
  · exact congrArg Host.Outcome.next (linkPulseDetect_idle h)
  · exact ⟨_, rfl, trainPhaseEnd_echo i free inTime phase⟩
  · refine ⟨_, congrArg Host.Outcome.next (trainPhaseEnd_trial i free inTime phase past), ?_⟩
    rw [if_pos good]
    exact ⟨lstate_setLstate _ _ (by omega), (getF_eq_of_rd (rd_setLstate_other _ (by omega) (by omega)) _ _).trans (getF_trialOver _ _ _)⟩
  · refine ⟨_, congrArg Host.Outcome.next (trainPhaseEnd_trial i free inTime phase past), ?_⟩
    rw [if_neg (by omega)]
    exact trialMissed_shown p.isLt i.snr s
  · exact ⟨_, rfl, trainPhaseEnd_rate i free inTime phase above trial⟩
  · exact ⟨_, rfl, trainPhaseEnd_lock i free inTime phase⟩
  · obtain ⟨state, eui, peer⟩ := trainPhaseEnd_ident i free inTime phase
    obtain ⟨dev, prio, chain⟩ := identWord_fields i
    exact ⟨_, rfl, state, eui, (congrArg (fieldOf · 3 0) peer).trans dev, (congrArg (fieldOf · 7 4) peer).trans prio,
      (congrArg (fieldOf · 31 16) peer).trans chain⟩
  · refine ⟨_, congrArg Host.Outcome.next (trainPhaseEnd_rate_fails i free inTime phase below), trainFails_shown p.isLt (by omega) s⟩
  · exact ⟨_, rfl, trainPhaseEnd_foreign i free inTime phase foreign⟩
  · exact ⟨_, congrArg Host.Outcome.next (trainPhaseEnd_overrun i free late low high), trainFails_shown p.isLt (by omega) s⟩
  · exact congrArg Host.Outcome.next (trainPhaseEnd_idle i h)
  · exact ⟨_, congrArg Host.Outcome.next (trainFail_fails low high free), trainFails_shown p.isLt (by omega) _⟩
  · exact congrArg Host.Outcome.next (trainFail_idle h)
  · exact ⟨_, rfl, trainRetryWait_ends waits⟩
  · exact congrArg Host.Outcome.next (trainRetryWait_idle free)
  · exact ⟨_, congrArg Host.Outcome.next (codewordLockLost_row low high), lstate_linkDown p.isLt (by omega) (by omega), codewordLockLost_reports low⟩
  · exact congrArg Host.Outcome.next (codewordLockLost_idle h)
  · exact ⟨_, rfl, fallback_falls served enabled lower⟩
  · exact congrArg Host.Outcome.next (fallback_idle up blocked)
  · exact ⟨_, congrArg Host.Outcome.next (fallback_stays served h), lstate_countUncorr _ _ s, fun o other => rd_tooMany _ s other⟩
  · exact ⟨_, rfl, rateUpHoldExpiry_rises up below hold snr open'⟩
  · exact congrArg Host.Outcome.next (rateUpHoldExpiry_idle h)
  · obtain ⟨state, shown, left⟩ := portDisable_disables (v := v) (s := { s with guard := none }) p.isLt on
    exact ⟨_, congrArg Host.Outcome.next (guardTwinR_match _ _ _ _ guard time), state, shown, left.guard⟩
  · refine ⟨_, congrArg Host.Outcome.next ((guardTwinR_match _ _ _ _ guard time).trans (portDisable_enables off disabled)), ?_, ?_, ?_⟩
    · exact lstate_setLstate _ _ (by omega)
    · rw [rd_setLstate_other _ (by omega) (by omega), rd_wr_same]
    · exact (setLstate_left _ _ _).guard
  · exact congrArg Host.Outcome.next (mrRetxTimeout_idle h)
  · have row := mrRetxTimeout_row sent ((ackedClass_iff c).mpr cls)
    rw [onlyIf, decide_eq_false (by omega), if_neg (by decide)] at row
    obtain ⟨out, ports, regs⟩ := emitRange_sends p.val c.val (getCls s p.val c.val).sent (retrying p.val c.val s)
    obtain ⟨since, counted⟩ := getCls_retrying p.val c.val s
    have same := (getCls_congr ports _ _).trans counted
    refine ⟨_, congrArg Host.Outcome.next row, ?_, ?_, ?_, ?_⟩
    · exact (congrArg MrClass.tries same).trans rfl
    · exact (congrArg MrClass.q same).trans rfl
    · exact (regs _ (by omega)).trans (rd_retrying _ _ s)
    · exact out.trans (by rw [out_retrying])
  · have row := mrRetxTimeout_row sent ((ackedClass_iff c).mpr cls)
    rw [onlyIf, decide_eq_true many, if_pos rfl] at row
    exact ⟨_, congrArg Host.Outcome.next row, lstate_linkDown p.isLt (by omega) (by omega)⟩

end Sys2Proof.Machine
end

section
/-! SUPPORT. Requests that the Keeper serves for this device's own host (R332-R334), and reads of registers by its messages (R23): what they
leave of the machine. -/

namespace Sys2Proof.Machine

/-! ### Requests (R332, R334) -/

/-- The machine with other requests waiting. -/
def withReqs (rq : List (Nat × List Byte)) (s : State) : State := { s with keeper := { s.keeper with reqs := rq } }

theorem takeReq_eq (op : Nat) (q : Req) (s : State) : takeReq op q s = withReqs (takeReq op q s).keeper.reqs s := by
  unfold takeReq withReqs
  split <;> rfl

/-- A request for this device is run here. -/
theorem runCmd_keeper {op : Nat} {q : Req} {s : State} (h : forKeeper op q s = true) (body : Caller → State → State) :
    runCmd op q body s = body (callerOf s op q) (takeReq op q s) := by
  simp only [forKeeper, Bool.and_eq_true, Bool.or_eq_true, beq_iff_eq] at h
  obtain ⟨⟨-, -⟩, target⟩ := h
  have dev : devOf (takeReq op q s) = devOf s := by rw [takeReq_eq]; rfl
  have here : (callerOf s op q).origin ≠ 16 ∨ (callerOf s op q).target = 0x1E ∨ (callerOf s op q).target = devOf (takeReq op q s) := by
    rw [dev]
    exact .inr target
  unfold runCmd
  exact if_pos here

/-- The caller of a request for this device is answered at once wherever the shares and the device are the same. -/
theorem direct_callerOf {op : Nat} {q : Req} {s t : State} (h : forKeeper op q s = true) (asked : t.chain.asked = s.chain.asked)
    (dev : rd t 0xA00C0 = rd s 0xA00C0) : direct t (callerOf s op q) = true := by
  simp only [forKeeper, Bool.and_eq_true] at h
  obtain ⟨⟨origin, share⟩, -⟩ := h
  have same : devOf t = devOf s := getF_eq_of_rd dev 3 0
  have shares : ownShare t q.tag.toNat = ownShare s q.tag.toNat := by rw [ownShare, ownShare, asked, same]
  rw [direct, origin, Bool.true_and, show (callerOf s op q).tag = q.tag.toNat from rfl, shares, share]

theorem reply_keeper {op : Nat} {q : Req} {s t : State} (h : forKeeper op q s = true) (asked : t.chain.asked = s.chain.asked)
    (dev : rd t 0xA00C0 = rd s 0xA00C0) (status : Nat) (b : List Byte) : reply (callerOf s op q) status b t =
      sendR 3 (answerOf op q status b s).2 t := by
  rw [reply, if_pos (direct_callerOf h asked dev)]
  rfl

theorem sendR_q (typ : Nat) (b : List Byte) (s : State) : (sendR typ b s).linkR.q = s.linkR.q ++ [(typ, b)] := pump_q _ _

/-- A request answered at once, and nothing else. -/
theorem reply_takeReq {op : Nat} {q : Req} {s : State} (h : forKeeper op q s = true) (status : Nat) (b : List Byte) :
    keeperOnlyAnswered op q status b s (reply (callerOf s op q) status b (takeReq op q s)) := by
  have taken := takeReq_eq op q s
  have answer := reply_keeper (t := takeReq op q s) h (by rw [taken]; rfl) (by rw [taken]; rfl) status b
  have pend : (takeReq op q s).keeper.pend = s.keeper.pend := by rw [taken]; rfl
  have queue : (takeReq op q s).linkR.q = s.linkR.q := by rw [taken]; rfl
  have rest : { takeReq op q s with linkR := s.linkR, keeper := s.keeper } = s := by rw [taken]; rfl
  rw [answer]
  exact ⟨⟨by rw [sendR_q, queue]; rfl, rfl, pend⟩, rest, rfl⟩

/-! ### Reads (R23, R26) -/

theorem liveReg_withReqs (off : Nat) (rq : List (Nat × List Byte)) (s : State) : liveReg off (withReqs rq s) = liveReg off s := rfl

/-- A read does not look at the requests that wait. -/
theorem radioRead_withReqs (off : Nat) (rq : List (Nat × List Byte)) (s : State) :
    radioRead off (withReqs rq s) = ((radioRead off s).1, withReqs rq (radioRead off s).2) := by
  have measured : measuredBits off (withReqs rq s) = (measuredBits off s).map fun r => (r.1, withReqs rq r.2) := by
    unfold measuredBits
    simp only
    repeat' split
    all_goals rfl
  have latch : (withReqs rq s).latch = s.latch := rfl
  unfold radioRead
  simp only [measured, latch]
  cases twinOf off with
  | some r => rfl
  | none =>
    cases tabGet (fun _ => none) s.latch off with
    | some v =>
      simp only
      repeat' split
      all_goals rfl
    | none =>
      cases measuredBits off s with
      | none =>
        simp only [Option.map_none]
        repeat' split
        all_goals rfl
      | some r =>
        simp only [Option.map_some]
        repeat' split
        all_goals rfl

theorem measuredBits_state {off : Nat} {s : State} {r : Word × State} (h : measuredBits off s = some r) : r.2 = drawFree s := by
  unfold measuredBits at h
  simp only at h
  split at h
  · cases h
    rfl
  · split at h
    · cases h
      rfl
    · cases h

theorem wrAll_only (ws : List Word) : ∀ (off : Nat) (s : State), { wrAll off ws s with reg := s.reg } = s := by
  induction ws with
  | nil => exact fun _ _ => rfl
  | cons w ws ih => exact fun off s => congrArg (fun t : State => { t with reg := s.reg }) (ih (off + 4) (wr off w s))

/-- What a read may change: words latched or popped, the registers that hold them and the free values drawn. -/
theorem radioRead_only (off : Nat) (s : State) :
    { (radioRead off s).2 with free := s.free, lastRead := s.lastRead, reg := s.reg, latch := s.latch, cipher := s.cipher } = s := by
  unfold radioRead
  simp only
  cases twinOf off with
  | some r => rfl
  | none =>
    simp only
    split
    · have time := wrAll_only (timeWords s.ntb.net ++ timeWords s.ntb.anch) 0x20000 s
      exact congrArg (fun t : State => { t with free := s.free, lastRead := s.lastRead, latch := s.latch, cipher := s.cipher }) time
    · split
      · rfl
      · split
        · rfl
        · split
          · rfl
          · split
            · rfl
            · split
              · rfl
              · split
                · rename_i r measured
                  rw [measuredBits_state measured]
                  rfl
                · split <;> rfl

theorem radioRead_linkR (off : Nat) (s : State) : (radioRead off s).2.linkR = s.linkR := by
  have := congrArg State.linkR (radioRead_only off s); exact this

theorem radioRead_chain (off : Nat) (s : State) : (radioRead off s).2.chain = s.chain := by
  have := congrArg State.chain (radioRead_only off s); exact this

theorem radioRead_keeper (off : Nat) (s : State) : (radioRead off s).2.keeper = s.keeper := by
  have := congrArg State.keeper (radioRead_only off s); exact this

theorem radioRead_ntb (off : Nat) (s : State) : (radioRead off s).2.ntb = s.ntb := by
  have := congrArg State.ntb (radioRead_only off s); exact this

theorem rd_captureRead (n : Fin 5) (s : State) {o : Nat} (h : o / 0x10000 = 10) : rd (captureRead n s) o = rd s o := by
  have n' := n.isLt
  unfold captureRead capBase
  rw [rd_setB_other _ _ _ (by omega), rd_wr_other _ _ (by omega), rd_wr_other _ _ (by omega), rd_wr_other _ _ (by omega)]
  rfl

theorem rd_timestampRead (n : Fin 4) (s : State) {o : Nat} (h : o / 0x10000 = 10) : rd (timestampRead n s) o = rd s o := by
  have n' := n.isLt
  unfold timestampRead
  simp only
  rw [rd_setB_other _ _ _ (by omega), rd_wr_other _ _ (by omega), rd_wr_other _ _ (by omega), rd_wr_other _ _ (by omega)]
  rfl

/-- No read changes a register of Mooring. -/
theorem rd_radioRead (off : Nat) (s : State) {o : Nat} (h : o / 0x10000 = 10) : rd (radioRead off s).2 o = rd s o := by
  unfold radioRead
  simp only
  cases twinOf off with
  | some r => rfl
  | none =>
    simp only
    split
    · have time : rd (wrAll 0x20000 (timeWords s.ntb.net ++ timeWords s.ntb.anch) s) o = rd s o := by
        simp only [timeWords, List.cons_append, List.nil_append, wrAll]
        repeat rw [rd_wr_other _ _ (by omega)]
      exact time
    · split
      · exact rd_captureRead _ s h
      · split
        · rw [rd_wr_other _ _ (by omega), rd_wr_other _ _ (by omega)]
        · split
          · exact rd_timestampRead _ s h
          · split
            · exact rd_cphSync { s with lastRead := cphHresult s, cipher := { s.cipher with results := s.cipher.results.drop 1 } } (by omega) (by omega)
            · split
              · rfl
              · split
                · rename_i r measured
                  rw [measuredBits_state measured]
                  rfl
                · split <;> rfl

end Sys2Proof.Machine
end

section
/-! SUPPORT. Register access by message (O58): one item, the items of a message, and the guarded pair (R343-R346). -/

namespace Sys2Proof.Machine

/-! ### The policy (R346) -/

section
variable {crit : Bool} {x : Item} {s : State}

theorem itemPolicy_address (h : x.addr.toNat % 4 ≠ 0 ∨ (inRadioBlocks x.addr = false ∧ inStoreWindow x.addr = false)) :
    itemPolicy crit x s = sBadAddress := by
  unfold itemPolicy
  exact if_pos (by simpa using h)

theorem itemPolicy_window (aligned : x.addr.toNat % 4 = 0) (window : inStoreWindow x.addr = true) (writes : x.op = 2 ∨ x.op = 3) :
    itemPolicy crit x s = sReadOnly := by
  unfold itemPolicy
  have write : (x.op == 2 || x.op == 3) = true := by simpa using writes
  simp [aligned, window, write]

variable (aligned : x.addr.toNat % 4 = 0) (blocks : inRadioBlocks x.addr = true)
include aligned blocks

/-- The checks of a register of R39, in their order. -/
theorem itemPolicy_radio : itemPolicy crit x s =
    if !(x.op == 2 || x.op == 3) then sOk
    else if (0x90060 ≤ canonRadio x.addr ∧ canonRadio x.addr ≤ 0x9007C) ∨ canonRadio x.addr = 0x90080 then sPolicy
    else if decide (0x70000 ≤ canonRadio x.addr) && decide (canonRadio x.addr < 0x72000) && opOwner s ((canonRadio x.addr - 0x70000) / 0x40) != 17 then sPolicy
    else if ((radioDesc (canonRadio x.addr)).rwg != 0 || (twinOf (canonRadio x.addr)).isSome) && (x.op == 3 || !crit) then sPolicy
    else sOk := by
  unfold itemPolicy
  have window := not_inStoreWindow_of_inRadioBlocks blocks
  simp only [aligned, blocks, window]
  rfl

theorem itemPolicy_reads (reads : x.op = 1 ∨ x.op = 4) : itemPolicy crit x s = sOk := by
  rw [itemPolicy_radio aligned blocks]
  rcases reads with reads | reads <;> simp [reads]

section
variable (writes : x.op = 2 ∨ x.op = 3)
include writes

theorem itemPolicy_keys (key : (0x90060 ≤ canonRadio x.addr ∧ canonRadio x.addr ≤ 0x9007C) ∨ canonRadio x.addr = 0x90080) :
    itemPolicy crit x s = sPolicy := by
  have write : (x.op == 2 || x.op == 3) = true := by simpa using writes
  rw [itemPolicy_radio aligned blocks, write, if_neg (by decide), if_pos key]

theorem itemPolicy_entry (low : 0x70000 ≤ canonRadio x.addr) (high : canonRadio x.addr < 0x72000)
    (owner : opOwner s ((canonRadio x.addr - 0x70000) / 0x40) ≠ 17) : itemPolicy crit x s = sPolicy := by
  have write : (x.op == 2 || x.op == 3) = true := by simpa using writes
  rw [itemPolicy_radio aligned blocks, write, if_neg (by decide), if_neg (by omega), if_pos (by simp [low, high, owner])]

theorem itemPolicy_guarded (guarded : 0 < (radioDesc (canonRadio x.addr)).rwg ∨ (twinOf (canonRadio x.addr)).isSome = true)
    (refused : x.op = 3 ∨ crit = false) : itemPolicy crit x s = sPolicy := by
  have write : (x.op == 2 || x.op == 3) = true := by simpa using writes
  have guard : ((radioDesc (canonRadio x.addr)).rwg != 0 || (twinOf (canonRadio x.addr)).isSome) = true := by
    simp only [Bool.or_eq_true, bne_iff_ne]
    exact guarded.imp (by omega) id
  have refuse : (x.op == 3 || !crit) = true := by simpa using refused
  rw [itemPolicy_radio aligned blocks, write, if_neg (by decide)]
  split
  · rfl
  · split
    · rfl
    · rw [guard, refuse, if_pos (by decide)]

theorem itemPolicy_free (keys : ¬ ((0x90060 ≤ canonRadio x.addr ∧ canonRadio x.addr ≤ 0x9007C) ∨ canonRadio x.addr = 0x90080))
    (entries : ¬ (0x70000 ≤ canonRadio x.addr ∧ canonRadio x.addr < 0x72000))
    (open' : ((radioDesc (canonRadio x.addr)).rwg = 0 ∧ twinOf (canonRadio x.addr) = none) ∨ (x.op = 2 ∧ crit = true)) :
    itemPolicy crit x s = sOk := by
  have write : (x.op == 2 || x.op == 3) = true := by simpa using writes
  rw [itemPolicy_radio aligned blocks, write, if_neg (by decide), if_neg keys, if_neg (by simp; omega), if_neg]
  rcases open' with ⟨rwg, twin⟩ | ⟨write, crit⟩
  · simp [rwg, twin]
  · simp [write, crit]

end
end

/-! ### One item (R343-R345) -/

theorem runItem_unpaired {crit last : Bool} {x : Item} {s : State} (h : s.guard = none) : runItem crit last x s = itemEffect crit last x s := by
  simp only [runItem, h, pairLate, Option.isSome_none, Bool.false_and, onlyIf]
  rfl

section
variable {crit last : Bool} {x : Item} {s : State}

theorem itemEffect_refused {st : Nat} (h : itemPolicy crit x s = st) (refused : st ≠ 0) : itemEffect crit last x s = (.failed st, s) := by
  subst h
  unfold itemEffect
  exact if_pos refused

variable (ok : itemPolicy crit x s = sOk)
include ok

theorem itemEffect_read (h : x.op = 1) : itemEffect crit last x s = (.done (itemRead x s).1, (itemRead x s).2) := by
  unfold itemEffect
  simp [ok, h]

theorem itemEffect_write (h : x.op = 2) (alive : (itemWrite x x.value s).linkR.resets = s.linkR.resets) :
    itemEffect crit last x s = (.done 0, itemWrite x x.value s) := by
  unfold itemEffect
  simp [ok, h, alive]

theorem itemEffect_modify (h : x.op = 3) : itemEffect crit last x s =
    (.done (itemRead x s).1, itemWrite x (((itemRead x s).1 &&& ~~~x.mask) ||| (x.value &&& x.mask)) (itemRead x s).2) := by
  unfold itemEffect
  simp [ok, h]

theorem itemEffect_poll (h : x.op = 4) : itemEffect crit last x s =
    (if (itemRead x s).1 &&& x.mask = x.value &&& x.mask then .done (itemRead x s).1 else if last then .failed sPollTimeout else .waits,
      (itemRead x s).2) := by
  unfold itemEffect
  simp only
  rw [if_neg (by simp [ok]), if_neg (by omega), if_neg (by omega), if_neg (by omega)]
  split
  · rfl
  · split <;> rfl

end

theorem leNat_lt (b : List Byte) : leNat b < 256 ^ b.length := by
  induction b with
  | nil => exact Nat.one_pos
  | cons a b ih =>
    have byte := a.isLt
    rw [leNat, List.length_cons, pow_succ]
    omega

theorem leAt_two_lt (b : List Byte) (o : Nat) : leAt b o 2 < 65536 :=
  (leNat_lt _).trans_le (Nat.pow_le_pow_right (by omega) (List.length_take_le ..))

/-! ### The items of a message (R343-R345) -/

/-- A message of register access as it begins. -/
def firstRun (op : Nat) (q : Req) (s : State) : RegRun :=
  { win := (callerOf s op q).win, tag := (callerOf s op q).tag, opcode := (callerOf s op q).opcode, target := (callerOf s op q).target,
    counter := (callerOf s op q).counter, origin := (callerOf s op q).origin, items := q.payload, done := 0, values := [], limit := 0 }

theorem runItems_ends {fuel : Nat} {last : Bool} {r : RegRun} {s : State} (h : r.items.length ≤ 16 * r.done) :
    runItems fuel last r s = regAnswer r 0xFFFF sOk s := by
  cases fuel with
  | zero => rfl
  | succ fuel =>
    unfold runItems
    exact if_pos h

section
variable {fuel : Nat} {last : Bool} {r : RegRun} {s t : State} (more : 16 * r.done < r.items.length)
include more

theorem runItems_done {v : Word}
    (item : runItem (r.opcode == 0x9001) (last || (itemAt r.items r.done).limit == 0) (itemAt r.items r.done) s = (.done v, t)) :
    runItems (fuel + 1) last r s = runItems fuel false { r with done := r.done + 1, values := r.values ++ leBytes 4 v.toNat } t := by
  rw [runItems, if_neg (by omega)]
  simp only [item]

theorem runItems_failed {st : Nat}
    (item : runItem (r.opcode == 0x9001) (last || (itemAt r.items r.done).limit == 0) (itemAt r.items r.done) s = (.failed st, t)) :
    runItems (fuel + 1) last r s = regAnswer r r.done st t := by
  rw [runItems, if_neg (by omega)]
  simp only [item]

theorem runItems_waits
    (item : runItem (r.opcode == 0x9001) (last || (itemAt r.items r.done).limit == 0) (itemAt r.items r.done) s = (.waits, t)) :
    runItems (fuel + 1) last r s =
      { t with keeper := { t.keeper with run := some { r with limit := t.ntb.clk + clocksOfNs (1000 * (itemAt r.items r.done).limit) } } } := by
  rw [runItems, if_neg (by omega)]
  simp only [item]

end

theorem pollsOut_none {fuel : Nat} {s : State} (h : s.keeper.run = none) : pollsOut fuel s = s := by
  cases fuel with
  | zero => rfl
  | succ fuel => simp [pollsOut, h]

theorem takeReq_guard {op : Nat} {q : Req} {s : State} (h : s.guard = none) : (takeReq op q s).guard = none := by
  rw [takeReq_eq]
  exact h

/-- The first item of a message that finds no value pending. -/
theorem firstItem {op : Nat} {q : Req} {s : State} {e : ItemEnd × State} (guard : s.guard = none)
    (item : itemEffect (op == 0x9001) ((itemAt q.payload 0).limit == 0) (itemAt q.payload 0) (takeReq op q s) = e) :
    runItem ((firstRun op q s).opcode == 0x9001) (false || (itemAt (firstRun op q s).items (firstRun op q s).done).limit == 0)
      (itemAt (firstRun op q s).items (firstRun op q s).done) (takeReq op q s) = e :=
  (runItem_unpaired (takeReq_guard guard)).trans item

/-- A read by an item leaves everything but what it reads, and does not see the requests that wait. -/
theorem itemRead_takeReq {op : Nat} {q : Req} {x : Item} {s : State} (blocks : inRadioBlocks x.addr = true) :
    itemRead x (takeReq op q s) = ((itemRead x s).1, withReqs (takeReq op q s).keeper.reqs (itemRead x s).2) ∧
      (itemRead x s).2.linkR = s.linkR ∧ (itemRead x s).2.chain = s.chain ∧ (itemRead x s).2.keeper = s.keeper ∧
      (itemRead x s).2.ntb = s.ntb ∧ rd (itemRead x s).2 0xA00C0 = rd s 0xA00C0 := by
  have window := not_inStoreWindow_of_inRadioBlocks blocks
  have read : ∀ u, itemRead x u = radioRead (canonRadio x.addr) u := fun u => by rw [itemRead, window]; rfl
  rw [takeReq_eq, read, read, radioRead_withReqs]
  exact ⟨rfl, radioRead_linkR _ _, radioRead_chain _ _, radioRead_keeper _ _, radioRead_ntb _ _, rd_radioRead _ _ (by decide)⟩

section
variable {op most : Nat} {q : Req} {s : State} (keeper : forKeeper op q s = true)
include keeper

theorem regAccessAs_length (h : q.payload.length % 16 ≠ 0 ∨ q.payload.length < 16 ∨ most < q.payload.length) :
    keeperOnlyAnswered op q 4 [] s (regAccessAs op most q s) := by
  rw [regAccessAs, runCmd_keeper keeper]
  simp only [if_pos h]
  exact reply_takeReq keeper 4 []

theorem regAccessAs_malformed (room : 16 ≤ most) (one : q.payload.length = 16) (bad : itemBad (itemAt q.payload 0) = true) :
    keeperOnlyAnswered op q 12 [] s (regAccessAs op most q s) := by
  rw [regAccessAs, runCmd_keeper keeper]
  simp only [one]
  rw [if_neg (by omega), if_pos (.inl (by simp [bad]))]
  exact reply_takeReq keeper 12 []

/-- A well-formed message with nothing waiting runs its items. -/
theorem regAccessAs_runs (guard : s.guard = none) (run : s.keeper.run = none) (room : q.payload.length ≤ most) {n : Nat}
    (size : q.payload.length = 16 * (n + 1)) (few : n < 15) (good : ∀ i ≤ n, itemBad (itemAt q.payload i) = false) :
    regAccessAs op most q s = runItems (n + 2) false (firstRun op q s) (takeReq op q s) := by
  have count : q.payload.length / 16 = n + 1 := by omega
  have noneBad : ((List.range (n + 1)).map (itemAt q.payload)).any itemBad = false := by
    simp only [List.any_eq_false, List.mem_map, List.mem_range]
    rintro x ⟨i, hi, rfl⟩
    rw [good i (by omega)]
    decide
  have waits : (((List.range (n + 1)).map (itemAt q.payload)).map Item.limit).sum ≤ 1000000 := by
    have bound := List.sum_le_card_nsmul (((List.range (n + 1)).map (itemAt q.payload)).map Item.limit) 65535 (by
      simp only [List.mem_map]
      rintro l ⟨x, ⟨i, -, rfl⟩, rfl⟩
      exact Nat.le_of_lt_succ (leAt_two_lt _ _))
    simp only [List.length_map, List.length_range, smul_eq_mul] at bound
    omega
  have quietRun : (takeReq op q s).keeper.run = none := by rw [takeReq_eq]; exact run
  have quietGuard : (takeReq op q s).guard = none := by rw [takeReq_eq]; exact guard
  rw [regAccessAs, runCmd_keeper keeper]
  simp only [count]
  rw [if_neg (by omega), if_neg (by rw [noneBad]; simpa using waits), pollsOut_none quietRun, guardLateR_none quietGuard]
  unfold itemsIn firstRun
  rw [count]

/-- The answer of a message that has run (R345). -/
theorem regAnswer_sends {r : RegRun} {t : State} (caller : runCaller r = callerOf s op q) (asked : t.chain.asked = s.chain.asked)
    (dev : rd t 0xA00C0 = rd s 0xA00C0) (fail status : Nat) :
    (regAnswer r fail status t).linkR.q = t.linkR.q ++ [answerOf op q status (leBytes 2 r.done ++ leBytes 2 fail ++ r.values) s] ∧
      regAnswer r fail status t = sendR 3 (answerOf op q status (leBytes 2 r.done ++ leBytes 2 fail ++ r.values) s).2 t := by
  have sent : regAnswer r fail status t = sendR 3 (answerOf op q status (leBytes 2 r.done ++ leBytes 2 fail ++ r.values) s).2 t := by
    rw [regAnswer, caller, reply_keeper keeper asked dev]
  refine ⟨?_, sent⟩
  rw [sent, sendR_q]
  rfl

section
variable (guard : s.guard = none) (run : s.keeper.run = none) (room : 16 ≤ most) (one : q.payload.length = 16)
  (good : itemBad (itemAt q.payload 0) = false)
include guard run room one good

theorem regAccessAs_single : regAccessAs op most q s = runItems 2 false (firstRun op q s) (takeReq op q s) :=
  regAccessAs_runs keeper guard run (by omega) (n := 0) (by omega) (by omega) fun i hi => by rwa [Nat.le_zero.mp hi]

/-- A single item that fails: the message is answered, and nothing else happens. -/
theorem regAccessAs_refused {st : Nat} (policy : itemPolicy (op == 0x9001) (itemAt q.payload 0) (takeReq op q s) = st) (refused : st ≠ 0) :
    keeperOnlyAnswered op q st (leBytes 2 0 ++ leBytes 2 0) s (regAccessAs op most q s) := by
  rw [regAccessAs_single keeper guard run room one good]
  rw [runItems_failed (r := firstRun op q s) (by simp [firstRun, one]) (firstItem guard
    (itemEffect_refused policy refused))]
  exact reply_takeReq keeper st _

/-- A single item that is done: its value is answered. -/
theorem regAccessAs_answers {v : Word} {u : State}
    (item : itemEffect (op == 0x9001) ((itemAt q.payload 0).limit == 0) (itemAt q.payload 0) (takeReq op q s) = (.done v, u))
    (asked : u.chain.asked = s.chain.asked) (dev : rd u 0xA00C0 = rd s 0xA00C0) :
    regAccessAs op most q s = sendR 3 (answerOf op q 0 (leBytes 2 1 ++ leBytes 2 0xFFFF ++ leBytes 4 v.toNat) s).2 u := by
  rw [regAccessAs_single keeper guard run room one good,
    runItems_done (r := firstRun op q s) (by simp [firstRun, one]) (firstItem guard item),
    runItems_ends (by simp [firstRun, one])]
  exact (regAnswer_sends keeper rfl asked dev _ _).2

section
variable (aligned : (itemAt q.payload 0).addr.toNat % 4 = 0) (blocks : inRadioBlocks (itemAt q.payload 0).addr = true)
include aligned blocks

/-- READ (R343, R345). -/
theorem regAccessAs_reads (reads : (itemAt q.payload 0).op = 1) :
    let x := itemAt q.payload 0
    let t := regAccessAs op most q s
    t.linkR.q = s.linkR.q ++ [answerOf op q 0 (leBytes 2 1 ++ leBytes 2 0xFFFF ++ leBytes 4 (itemRead x s).1.toNat) s] ∧
      t.reg = (itemRead x s).2.reg := by
  obtain ⟨read, linkR, chain, -, -, dev⟩ := itemRead_takeReq (op := op) (q := q) (s := s) blocks
  have item := itemEffect_read (crit := op == 0x9001) (last := ((itemAt q.payload 0).limit == 0)) (s := takeReq op q s)
    (itemPolicy_reads aligned blocks (.inl reads)) reads
  rw [read] at item
  have answer := regAccessAs_answers keeper guard run room one good item (congrArg Chain.asked chain) dev
  simp only
  rw [answer, sendR_q]
  exact ⟨congrArg (· ++ _) (congrArg LinkEnd.q linkR), rfl⟩

/-- POLL (R343, R345): a word that matches is answered; one that does not fails without a limit and waits with one. -/
theorem regAccessAs_polls (polls : (itemAt q.payload 0).op = 4) :
    let x := itemAt q.payload 0
    let t := regAccessAs op most q s
    ((itemRead x s).1 &&& x.mask = x.value &&& x.mask →
      t.linkR.q = s.linkR.q ++ [answerOf op q 0 (leBytes 2 1 ++ leBytes 2 0xFFFF ++ leBytes 4 (itemRead x s).1.toNat) s] ∧
        t.reg = (itemRead x s).2.reg ∧ t.keeper.run = none) ∧
      ((itemRead x s).1 &&& x.mask ≠ x.value &&& x.mask →
        (x.limit = 0 → t.linkR.q = s.linkR.q ++ [answerOf op q 18 (leBytes 2 0 ++ leBytes 2 0) s] ∧ t.keeper.run = none) ∧
        (x.limit ≠ 0 → t.linkR.q = s.linkR.q ∧
          t.keeper.run.map (fun r => (r.tag, r.done, r.values, r.limit)) = some (q.tag.toNat, 0, [], s.ntb.clk + clocksOfNs (1000 * x.limit)))) := by
  obtain ⟨read, linkR, chain, kept, ntb, dev⟩ := itemRead_takeReq (op := op) (q := q) (s := s) blocks
  have more : 16 * (firstRun op q s).done < (firstRun op q s).items.length := by simp [firstRun, one]
  have item := itemEffect_poll (crit := op == 0x9001) (last := ((itemAt q.payload 0).limit == 0)) (s := takeReq op q s)
    (itemPolicy_reads aligned blocks (.inr polls)) polls
  have still : (withReqs (takeReq op q s).keeper.reqs (itemRead (itemAt q.payload 0) s).2).keeper.run = none := by
    show (itemRead (itemAt q.payload 0) s).2.keeper.run = none
    rw [kept, run]
  rw [read] at item
  refine ⟨fun hit => ?_, fun miss => ⟨fun zero => ?_, fun limit => ?_⟩⟩
  · rw [if_pos hit] at item
    have answer := regAccessAs_answers keeper guard run room one good item (congrArg Chain.asked chain) dev
    rw [answer, sendR_q]
    exact ⟨congrArg (· ++ _) (congrArg LinkEnd.q linkR), rfl, still⟩
  · rw [if_neg miss, if_pos (by rw [zero]; rfl)] at item
    have sent := (regAnswer_sends (r := firstRun op q s) (t := withReqs (takeReq op q s).keeper.reqs (itemRead (itemAt q.payload 0) s).2) keeper rfl
      (congrArg Chain.asked chain) dev 0 18).2
    rw [regAccessAs_single keeper guard run room one good, runItems_failed more (firstItem guard item)]
    refine (congrArg (fun t : State => t.linkR.q = _ ∧ t.keeper.run = none) sent).mpr ?_
    rw [sendR_q]
    exact ⟨congrArg (· ++ _) (congrArg LinkEnd.q linkR), still⟩
  · rw [if_neg miss, if_neg (by simpa using limit)] at item
    rw [regAccessAs_single keeper guard run room one good, runItems_waits more (firstItem guard item)]
    refine ⟨congrArg LinkEnd.q linkR, ?_⟩
    show some (q.tag.toNat, 0, [], (itemRead (itemAt q.payload 0) s).2.ntb.clk + clocksOfNs (1000 * (itemAt q.payload 0).limit)) = _
    rw [ntb]

end

end

end

/-! ### Plain registers (R344) -/

/-- Whether a register has more to a write than its access codes does not hang on the state. -/
theorem specialWrite_isNone (off : Nat) (v : Word) (s t : State) : (specialWrite off v s).isNone = (specialWrite off v t).isNone := by
  unfold specialWrite
  split <;> simp only [apply_ite Option.isNone, Option.isNone_some, Option.isNone_none]

/-- What REG_ACCESS finds a register of plain bits (O58). -/
structure PlainRegister (off : Nat) (v : Word) (s : State) : Prop where
  twin : twinOf off = none
  rwg : (radioDesc off).rwg = 0
  unit : unitAt off = none
  wo : (radioDesc off).wo = 0
  w1c : (radioDesc off).w1c = 0
  special : (specialWrite off v s).isNone = true
  keys : ¬ (0x90060 ≤ off ∧ off ≤ 0x90080)
  entries : ¬ (0x70000 ≤ off ∧ off < 0x72000)

theorem plainWrite_masked {off : Nat} {v : Word} {s : State} (wo : (radioDesc off).wo = 0) (w1c : (radioDesc off).w1c = 0) :
    rd (plainWrite off v s) off &&& BitVec.ofNat 32 (radioDesc off).rw = v &&& BitVec.ofNat 32 (radioDesc off).rw := by
  obtain ⟨-, bits⟩ := plainWrite_codes off v s
  refine BitVec.eq_of_getLsbD_eq fun i hi => ?_
  have bit := bits i hi
  rw [wo, w1c, Nat.or_zero, Nat.zero_testBit] at bit
  simp only [bitOf] at bit
  rw [BitVec.getLsbD_and, BitVec.getLsbD_and, bit, testBit_ofNat_word _ hi]
  cases (radioDesc off).rw.testBit i <;> simp

theorem itemWrite_plain {x : Item} {v : Word} {s t : State} (plain : PlainRegister (canonRadio x.addr) v s) :
    itemWrite x v t = plainWrite (canonRadio x.addr) v t := by
  have special : specialWrite (canonRadio x.addr) v t = none := by
    rw [← Option.isNone_iff_eq_none, ← specialWrite_isNone _ _ s t, plain.special]
  rw [itemWrite, radioWrite_plain plain.twin plain.rwg plain.unit special, applySoon, plain.unit]

/-- A register of plain bits is not the one that names the device. -/
theorem PlainRegister.ne_dev {off : Nat} {v : Word} {s : State} (plain : PlainRegister off v s) : 0xA00C0 ≠ off := by
  rintro rfl
  have special := plain.special
  cases special

/-- What a plain write by a message leaves: its register holds the bits written, and no other register changes. -/
theorem plainWrite_takeReq {op : Nat} {q : Req} {s : State} {v : Word} (plain : PlainRegister (canonRadio (itemAt q.payload 0).addr) v s) :
    let t := plainWrite (canonRadio (itemAt q.payload 0).addr) v (takeReq op q s)
    t.linkR.q = s.linkR.q ∧ t.guard = s.guard ∧ t.chain.asked = s.chain.asked ∧
      rd t (canonRadio (itemAt q.payload 0).addr) &&& BitVec.ofNat 32 (radioDesc (canonRadio (itemAt q.payload 0).addr)).rw =
        v &&& BitVec.ofNat 32 (radioDesc (canonRadio (itemAt q.payload 0).addr)).rw ∧
      ∀ a, a ≠ canonRadio (itemAt q.payload 0).addr → rd t a = rd s a := by
  rw [takeReq_eq]
  exact ⟨rfl, rfl, rfl, plainWrite_masked plain.wo plain.w1c, fun a ha => rd_wr_other (withReqs _ s) _ ha⟩

section
variable {op most : Nat} {q : Req} {s : State} (aligned : (itemAt q.payload 0).addr.toNat % 4 = 0)
  (blocks : inRadioBlocks (itemAt q.payload 0).addr = true)
include aligned blocks

/-- A WRITE to a register of plain bits, whatever else waits. -/
theorem itemEffect_writePlain {crit last : Bool} {t : State} (write : (itemAt q.payload 0).op = 2)
    (plain : PlainRegister (canonRadio (itemAt q.payload 0).addr) (itemAt q.payload 0).value s) :
    itemEffect crit last (itemAt q.payload 0) t =
      (.done 0, plainWrite (canonRadio (itemAt q.payload 0).addr) (itemAt q.payload 0).value t) := by
  have ok : itemPolicy crit (itemAt q.payload 0) t = sOk :=
    itemPolicy_free aligned blocks (.inl write) (fun h => plain.keys (by omega)) plain.entries (.inl ⟨plain.rwg, plain.twin⟩)
  rw [itemEffect_write ok write (by rw [itemWrite_plain plain]; rfl), itemWrite_plain plain]

theorem itemEffect_modifyPlain {crit last : Bool} {t : State} {w : Word} (modify : (itemAt q.payload 0).op = 3)
    (read : itemRead (itemAt q.payload 0) t = (w, t))
    (plain : PlainRegister (canonRadio (itemAt q.payload 0).addr)
      ((w &&& ~~~(itemAt q.payload 0).mask) ||| ((itemAt q.payload 0).value &&& (itemAt q.payload 0).mask)) s) :
    itemEffect crit last (itemAt q.payload 0) t = (.done w, plainWrite (canonRadio (itemAt q.payload 0).addr)
      ((w &&& ~~~(itemAt q.payload 0).mask) ||| ((itemAt q.payload 0).value &&& (itemAt q.payload 0).mask)) t) := by
  have ok : itemPolicy crit (itemAt q.payload 0) t = sOk :=
    itemPolicy_free aligned blocks (.inr modify) (fun h => plain.keys (by omega)) plain.entries (.inl ⟨plain.rwg, plain.twin⟩)
  rw [itemEffect_modify ok modify, read]
  simp only
  rw [itemWrite_plain plain]

variable (keeper : forKeeper op q s = true) (guard : s.guard = none) (run : s.keeper.run = none)
  (good : itemBad (itemAt q.payload 0) = false)
include keeper guard run good

theorem regAccessAs_writes (room : 16 ≤ most) (one : q.payload.length = 16) (write : (itemAt q.payload 0).op = 2)
    (plain : PlainRegister (canonRadio (itemAt q.payload 0).addr) (itemAt q.payload 0).value s) :
    let off := canonRadio (itemAt q.payload 0).addr
    let m := BitVec.ofNat 32 (radioDesc off).rw
    let t := regAccessAs op most q s
    t.linkR.q = s.linkR.q ++ [answerOf op q 0 (leBytes 2 1 ++ leBytes 2 0xFFFF ++ leBytes 4 0) s] ∧
      rd t off &&& m = (itemAt q.payload 0).value &&& m ∧ ∀ a, a ≠ off → rd t a = rd s a := by
  obtain ⟨queue, -, asked, bits, others⟩ := plainWrite_takeReq (op := op) (q := q) plain
  have answer := regAccessAs_answers keeper guard run room one good (itemEffect_writePlain aligned blocks write plain) asked
    (others _ plain.ne_dev)
  simp only
  rw [answer, sendR_q, queue]
  exact ⟨rfl, bits, others⟩

theorem regAccessAs_modifies (room : 16 ≤ most) (one : q.payload.length = 16) (modify : (itemAt q.payload 0).op = 3) {w : Word}
    (still : itemRead (itemAt q.payload 0) s = (w, s))
    (plain : PlainRegister (canonRadio (itemAt q.payload 0).addr)
      ((w &&& ~~~(itemAt q.payload 0).mask) ||| ((itemAt q.payload 0).value &&& (itemAt q.payload 0).mask)) s) :
    let off := canonRadio (itemAt q.payload 0).addr
    let m := BitVec.ofNat 32 (radioDesc off).rw
    let t := regAccessAs op most q s
    t.linkR.q = s.linkR.q ++ [answerOf op q 0 (leBytes 2 1 ++ leBytes 2 0xFFFF ++ leBytes 4 w.toNat) s] ∧
      rd t off &&& m = ((w &&& ~~~(itemAt q.payload 0).mask) ||| ((itemAt q.payload 0).value &&& (itemAt q.payload 0).mask)) &&& m ∧
      ∀ a, a ≠ off → rd t a = rd s a := by
  obtain ⟨queue, -, asked, bits, others⟩ := plainWrite_takeReq (op := op) (q := q) plain
  have read := (itemRead_takeReq (op := op) (q := q) (s := s) blocks).1
  rw [still] at read
  have read' : itemRead (itemAt q.payload 0) (takeReq op q s) = (w, takeReq op q s) := by
    rw [read, ← takeReq_eq]
  have answer := regAccessAs_answers keeper guard run room one good (itemEffect_modifyPlain aligned blocks modify read' plain) asked
    (others _ plain.ne_dev)
  simp only
  rw [answer, sendR_q, queue]
  exact ⟨rfl, bits, others⟩

/-- A second item that fails leaves the first done and is named (R345). -/
theorem regAccessAs_second_fails (room : 32 ≤ most) (two : q.payload.length = 32) (write : (itemAt q.payload 0).op = 2)
    (plain : PlainRegister (canonRadio (itemAt q.payload 0).addr) (itemAt q.payload 0).value s)
    (good' : itemBad (itemAt q.payload 1) = false) (crooked : (itemAt q.payload 1).addr.toNat % 4 ≠ 0) :
    let off := canonRadio (itemAt q.payload 0).addr
    let m := BitVec.ofNat 32 (radioDesc off).rw
    let t := regAccessAs op most q s
    t.linkR.q = s.linkR.q ++ [answerOf op q 6 (leBytes 2 1 ++ leBytes 2 1 ++ leBytes 4 0) s] ∧
      rd t off &&& m = (itemAt q.payload 0).value &&& m ∧ ∀ a, a ≠ off → rd t a = rd s a := by
  obtain ⟨queue, noGuard, asked, bits, others⟩ := plainWrite_takeReq (op := op) (q := q) plain
  have refused : runItem (op == 0x9001) (false || (itemAt q.payload 1).limit == 0) (itemAt q.payload 1)
      (plainWrite (canonRadio (itemAt q.payload 0).addr) (itemAt q.payload 0).value (takeReq op q s)) = (.failed 6, _) :=
    (runItem_unpaired (noGuard.trans guard)).trans (itemEffect_refused (itemPolicy_address (.inl crooked)) (by decide))
  have first := firstItem (op := op) guard (itemEffect_writePlain aligned blocks write plain)
  have run' : regAccessAs op most q s = regAnswer { firstRun op q s with done := 1, values := leBytes 4 0 } 1 6
      (plainWrite (canonRadio (itemAt q.payload 0).addr) (itemAt q.payload 0).value (takeReq op q s)) := by
    rw [regAccessAs_runs keeper guard run (by omega) (n := 1) (by omega) (by omega) fun i hi => by
      rcases Nat.le_one_iff_eq_zero_or_eq_one.mp hi with rfl | rfl <;> assumption]
    rw [runItems_done (r := firstRun op q s) (by simp [firstRun, two]) first]
    exact runItems_failed (r := { firstRun op q s with done := 1, values := leBytes 4 0 }) (by simp [firstRun, two]) refused
  have sent := (regAnswer_sends (r := { firstRun op q s with done := 1, values := leBytes 4 0 }) keeper rfl asked (others _ plain.ne_dev) 1 6).2
  simp only
  rw [run', sent, sendR_q, queue]
  exact ⟨rfl, bits, others⟩

end

/-! ### The guarded pair (R33, R346) -/

/-- The two addresses of a port's disable register and of its twin. -/
theorem disable_addresses (p : Fin 2) :
    canonRadio (BitVec.ofNat 32 (0x40000000 + mrBase p.val + 0x40)) = mrBase p.val + 0x40 ∧
      canonRadio (BitVec.ofNat 32 (0x40000000 + mrBase p.val + 0x840)) = mrBase p.val + 0x840 ∧
      (BitVec.ofNat 32 (0x40000000 + mrBase p.val + 0x40)).toNat % 4 = 0 ∧ (BitVec.ofNat 32 (0x40000000 + mrBase p.val + 0x840)).toNat % 4 = 0 ∧
      inRadioBlocks (BitVec.ofNat 32 (0x40000000 + mrBase p.val + 0x40)) = true ∧
      inRadioBlocks (BitVec.ofNat 32 (0x40000000 + mrBase p.val + 0x840)) = true := by
  revert p
  decide

theorem disable_registers (p : Fin 2) : twinOf (mrBase p.val + 0x40) = none ∧ (radioDesc (mrBase p.val + 0x40)).rwg ≠ 0 ∧
    unitAt (mrBase p.val + 0x40) = none ∧ twinOf (mrBase p.val + 0x840) = some (mrBase p.val + 0x40) ∧ unitAt (mrBase p.val + 0x840) = none := by
  revert p
  decide

/-- The value pending after the first item of the pair. -/
def pairPending (off : Nat) (v : Word) (s : State) : State := { s with guard := some (off, v), guardAge := s.age }

theorem itemWrite_value {p : Fin 2} {x : Item} {v : Word} {s : State} (addr : canonRadio x.addr = mrBase p.val + 0x40) (guard : s.guard = none) :
    itemWrite x v s = pairPending (mrBase p.val + 0x40) v s := by
  obtain ⟨twin, rwg, unit, -, -⟩ := disable_registers p
  rw [itemWrite, addr, radioWrite, twin]
  simp only
  rw [if_pos rwg, guardValueR_none guard, applySoon, unit]
  rfl

theorem itemWrite_twin {p : Fin 2} {x : Item} {v : Word} {s : State} (addr : canonRadio x.addr = mrBase p.val + 0x840) :
    itemWrite x v s = guardTwinR (mrBase p.val + 0x40) v guardEffectR s := by
  obtain ⟨-, -, -, twin, unit⟩ := disable_registers p
  rw [itemWrite, addr, radioWrite, twin, applySoon, unit]

theorem guardEffectR_disable (p : Fin 2) (v : Word) (s : State) : guardEffectR (mrBase p.val + 0x40) v s = portDisable p.val v s := by
  have index := p.isLt
  unfold guardEffectR mrBase
  rw [if_neg (by omega), if_neg (by omega), if_neg (by omega)]
  by_cases east : p.val = 0
  · rw [if_pos (by omega), east]
  · rw [if_neg (by omega), if_pos (by omega), show p.val = 1 by omega]

theorem sendR_guard (typ : Nat) (b : List Byte) (s : State) : (sendR typ b s).guard = s.guard := rfl

/-- A guard fault leaves the resets of the die and the requests sent to other devices. -/
theorem guardFaultR_keeps (cause off : Nat) (s : State) : (guardFaultR cause off s).linkR.resets = s.linkR.resets ∧
    (guardFaultR cause off s).chain.asked = s.chain.asked := by
  have kept := (LinkKept.refl (p := 0) (by omega) (raiseSrc 228 (faultNotedR cause off s))).raiseEvt (source := 0) (code := 0x120)
    (args := leBytes 4 off ++ leBytes 1 cause)
  obtain ⟨r, noted⟩ := faultNotedR_only cause off s
  have linkR : (raiseSrc 228 (faultNotedR cause off s)).linkR = s.linkR := by
    have := congrArg State.linkR (raiseSrc_only 228 (faultNotedR cause off s))
    rw [noted] at this ⊢
    exact this
  have chain : (raiseSrc 228 (faultNotedR cause off s)).chain = s.chain := by
    rw [chain_raiseSrc, noted]
  rw [guardFaultR_eq]
  exact ⟨kept.resets.trans (congrArg LinkEnd.resets linkR), kept.asked.trans (congrArg Chain.asked chain)⟩

section
variable {q : Req} {p : Fin 2} {s : State} (keeper : forKeeper 0x9001 q s = true) (guard : s.guard = none) (run : s.keeper.run = none)
  (two : q.payload.length = 32) (good : itemBad (itemAt q.payload 0) = false) (good' : itemBad (itemAt q.payload 1) = false)
  (write : (itemAt q.payload 0).op = 2) (write' : (itemAt q.payload 1).op = 2)
  (addr : (itemAt q.payload 0).addr = BitVec.ofNat 32 (0x40000000 + mrBase p.val + 0x40))
  (addr' : (itemAt q.payload 1).addr = BitVec.ofNat 32 (0x40000000 + mrBase p.val + 0x840)) (value : (itemAt q.payload 0).value = 1)
include keeper guard run two good good' write write' addr addr' value

/-- The two items of the pair, wherever the second one ends. -/
theorem pair_runs {u : State}
    (ends : guardTwinR (mrBase p.val + 0x40) (itemAt q.payload 1).value guardEffectR
      (pairPending (mrBase p.val + 0x40) 1 (takeReq 0x9001 q s)) = u)
    (none : u.guard = none) (resets : u.linkR.resets = s.linkR.resets) (asked : u.chain.asked = s.chain.asked)
    (dev : rd u 0xA00C0 = rd s 0xA00C0) :
    regAccessAs 0x9001 4064 q s = sendR 3 (answerOf 0x9001 q 0 (leBytes 2 2 ++ leBytes 2 0xFFFF ++ leBytes 8 0) s).2 u := by
  obtain ⟨canon, canon', aligned, aligned', blocks, blocks'⟩ := disable_addresses p
  rw [← addr] at canon aligned blocks
  rw [← addr'] at canon' aligned' blocks'
  have outside : ¬ ((0x90060 ≤ mrBase p.val + 0x40 ∧ mrBase p.val + 0x40 ≤ 0x9007C) ∨ mrBase p.val + 0x40 = 0x90080) ∧
      ¬ (0x70000 ≤ mrBase p.val + 0x40 ∧ mrBase p.val + 0x40 < 0x72000) := by unfold mrBase; omega
  have outside' : ¬ ((0x90060 ≤ mrBase p.val + 0x840 ∧ mrBase p.val + 0x840 ≤ 0x9007C) ∨ mrBase p.val + 0x840 = 0x90080) ∧
      ¬ (0x70000 ≤ mrBase p.val + 0x840 ∧ mrBase p.val + 0x840 < 0x72000) := by unfold mrBase; omega
  have taken := takeReq_guard (op := 0x9001) (q := q) guard
  have stored := itemWrite_value (v := (itemAt q.payload 0).value) canon taken
  have ok : itemPolicy true (itemAt q.payload 0) (takeReq 0x9001 q s) = sOk :=
    itemPolicy_free aligned blocks (.inl write) (by rw [canon]; exact outside.1) (by rw [canon]; exact outside.2) (.inr ⟨write, rfl⟩)
  have first := firstItem (op := 0x9001) guard (itemEffect_write ok write (by rw [stored]; rfl))
  rw [stored, value] at first
  have acted : itemWrite (itemAt q.payload 1) (itemAt q.payload 1).value (pairPending (mrBase p.val + 0x40) 1 (takeReq 0x9001 q s)) = u :=
    (itemWrite_twin canon').trans ends
  have ok' : itemPolicy true (itemAt q.payload 1) (pairPending (mrBase p.val + 0x40) 1 (takeReq 0x9001 q s)) = sOk :=
    itemPolicy_free aligned' blocks' (.inl write') (by rw [canon']; exact outside'.1) (by rw [canon']; exact outside'.2) (.inr ⟨write', rfl⟩)
  have before : (pairPending (mrBase p.val + 0x40) 1 (takeReq 0x9001 q s)).linkR.resets = s.linkR.resets := by rw [takeReq_eq]; rfl
  have effect := itemEffect_write (last := false || (itemAt q.payload 1).limit == 0) ok' write' (by rw [acted, resets, before])
  have second : runItem true (false || (itemAt q.payload 1).limit == 0) (itemAt q.payload 1)
      (pairPending (mrBase p.val + 0x40) 1 (takeReq 0x9001 q s)) = (.done 0, u) := by
    rw [runItem, effect, acted, pairLate, none]
    rfl
  have run' : regAccessAs 0x9001 4064 q s = regAnswer { firstRun 0x9001 q s with done := 2, values := leBytes 8 0 } 0xFFFF sOk u := by
    rw [regAccessAs_runs keeper guard run (by omega) (n := 1) (by omega) (by omega) fun i hi => by
      rcases Nat.le_one_iff_eq_zero_or_eq_one.mp hi with rfl | rfl <;> assumption]
    rw [runItems_done (r := firstRun 0x9001 q s) (by simp [firstRun, two]) first]
    refine (runItems_done (r := { firstRun 0x9001 q s with done := 1, values := leBytes 4 0 }) (by simp [firstRun, two]) second).trans ?_
    exact runItems_ends (by simp [firstRun, two])
  rw [run']
  exact (regAnswer_sends (r := { firstRun 0x9001 q s with done := 2, values := leBytes 8 0 }) keeper rfl asked dev 0xFFFF 0).2

theorem pair_completes (complement : (itemAt q.payload 1).value = ~~~(itemAt q.payload 0).value) :
    let t := regAccessAs 0x9001 4064 q s
    t.linkR.q.getLast? = some (answerOf 0x9001 q 0 (leBytes 2 2 ++ leBytes 2 0xFFFF ++ leBytes 8 0) s) ∧
      rd t (mrBase p.val + 0x40) = 1 ∧ t.guard = none ∧ getB t 0x20 0 = getB s 0x20 0 := by
  have inTime : guardInTimeR (pairPending (mrBase p.val + 0x40) 1 (takeReq 0x9001 q s)) = true := by
    rw [guardInTimeR, decide_eq_true_eq]
    exact Nat.le_add_right _ _
  have acts : guardTwinR (mrBase p.val + 0x40) (itemAt q.payload 1).value guardEffectR
      (pairPending (mrBase p.val + 0x40) 1 (takeReq 0x9001 q s)) =
        portDisable p.val 1 { pairPending (mrBase p.val + 0x40) 1 (takeReq 0x9001 q s) with guard := none } := by
    rw [complement, value, guardTwinR_match _ _ _ _ rfl inTime, guardEffectR_disable]
  obtain ⟨-, shown, left⟩ := portDisable_disables (p := p.val) (v := 1)
    (s := { pairPending (mrBase p.val + 0x40) 1 (takeReq 0x9001 q s) with guard := none }) p.isLt (by decide)
  have calm : ∀ o, Calm o → o ≠ mrBase p.val + 0x3C → o ≠ mrBase p.val + 0x40 → rd (portDisable p.val 1
      { pairPending (mrBase p.val + 0x40) 1 (takeReq 0x9001 q s) with guard := none }) o = rd s o := fun o ho losses own => by
    rw [left.regs o ho losses, rd_wr_other _ _ own, takeReq_eq]
    rfl
  have answer := pair_runs keeper guard run two good good' write write' addr addr' value acts left.guard
    (left.resets.trans (by rw [takeReq_eq]; rfl)) (left.asked.trans (by rw [takeReq_eq]; rfl))
    (calm _ (by unfold Calm; omega) (by unfold mrBase; omega) (by unfold mrBase; omega))
  simp only
  rw [answer, sendR_q, List.getLast?_concat, rd_sendR, sendR_guard, getB_eq_of_rd (rd_sendR _ _ _ _)]
  exact ⟨rfl, shown, left.guard, getB_eq_of_rd (calm _ (by unfold Calm; omega) (by unfold mrBase; omega) (by unfold mrBase; omega)) _⟩

theorem pair_mismatches (differs : (itemAt q.payload 1).value ≠ ~~~(itemAt q.payload 0).value) :
    let t := regAccessAs 0x9001 4064 q s
    t.linkR.q.getLast? = some (answerOf 0x9001 q 0 (leBytes 2 2 ++ leBytes 2 0xFFFF ++ leBytes 8 0) s) ∧
      t.guard = none ∧ getB t 0x20 0 = true ∧ getF t 0x20 15 8 = min 255 (getF s 0x20 15 8 + 1) ∧
      rd t (mrBase p.val + 0x40) = rd s (mrBase p.val + 0x40) := by
  have inTime : guardInTimeR (pairPending (mrBase p.val + 0x40) 1 (takeReq 0x9001 q s)) = true := by
    rw [guardInTimeR, decide_eq_true_eq]
    exact Nat.le_add_right _ _
  have faults : guardTwinR (mrBase p.val + 0x40) (itemAt q.payload 1).value guardEffectR
      (pairPending (mrBase p.val + 0x40) 1 (takeReq 0x9001 q s)) =
        guardFaultR 1 (mrBase p.val + 0x40) { pairPending (mrBase p.val + 0x40) 1 (takeReq 0x9001 q s) with guard := none } :=
    guardTwinR_mismatch rfl inTime fun h => differs (by rw [h.2, value])
  obtain ⟨idle, fault, count, -, -, -, others⟩ := guardFaultR_recorded (cause := 1) (mrBase p.val + 0x40)
    (s := { pairPending (mrBase p.val + 0x40) 1 (takeReq 0x9001 q s) with guard := none }) (by omega) rfl
  obtain ⟨resets, asked⟩ := guardFaultR_keeps 1 (mrBase p.val + 0x40) { pairPending (mrBase p.val + 0x40) 1 (takeReq 0x9001 q s) with guard := none }
  have regs : ∀ o, rd { pairPending (mrBase p.val + 0x40) 1 (takeReq 0x9001 q s) with guard := none } o = rd s o := fun o => by
    rw [takeReq_eq]
    rfl
  have answer := pair_runs keeper guard run two good good' write write' addr addr' value faults idle
    (resets.trans (by rw [takeReq_eq]; rfl)) (asked.trans (by rw [takeReq_eq]; rfl))
    ((others _ (by omega) (by omega) (by omega) (by omega)).trans (regs _))
  simp only
  rw [answer, sendR_q, List.getLast?_concat, rd_sendR, sendR_guard, getB_eq_of_rd (rd_sendR _ _ _ _), getF_eq_of_rd (rd_sendR _ _ _ _)]
  refine ⟨rfl, idle, fault, ?_, ?_⟩
  · rw [Nat.min_comm, ← getF_eq_of_rd (regs 0x20)]
    exact count
  · exact (others _ (by unfold mrBase; omega) (by unfold mrBase; omega) (mrBase_ne_log p.isLt (by omega)).1 (mrBase_ne_log p.isLt (by omega)).2).trans (regs _)

end

end Sys2Proof.Machine
end

section
/-! SUPPORT. Register access by message: the whole statement (O58), from what single items, plain registers and the guarded pair do. -/

namespace Sys2Proof.Machine

theorem opOwner_takeReq (op : Nat) (q : Req) (s : State) (n : Nat) : opOwner (takeReq op q s) n = opOwner s n := by
  rw [takeReq_eq]
  rfl

/-- The test for a register of plain bits, taken apart. -/
theorem plainRegister_of {off : Nat} {v w : Word} {s : State} (h : (twinOf off == none && (radioDesc off).rwg == 0 && unitAt off == none &&
    (radioDesc off).wo == 0 && (radioDesc off).w1c == 0 && (specialWrite off v s).isNone && (specialWrite off w s).isNone &&
    !(decide (0x90060 ≤ off) && decide (off ≤ 0x90080)) && !(decide (0x70000 ≤ off) && decide (off < 0x72000))) = true) :
    PlainRegister off v s ∧ PlainRegister off w s := by
  simp only [Bool.and_eq_true, beq_iff_eq, Bool.not_eq_true', Bool.and_eq_false_iff, decide_eq_false_iff_not] at h
  obtain ⟨⟨⟨⟨⟨⟨⟨⟨twin, rwg⟩, unit⟩, wo⟩, w1c⟩, special⟩, special'⟩, keys⟩, entries⟩ := h
  exact ⟨⟨twin, rwg, unit, wo, w1c, special, by omega, by omega⟩, ⟨twin, rwg, unit, wo, w1c, special', by omega, by omega⟩⟩

theorem there_iff {x : Item} : (inRadioBlocks x.addr && decide (x.addr.toNat % 4 = 0)) = true ↔ inRadioBlocks x.addr = true ∧ x.addr.toNat % 4 = 0 := by
  simp

section
variable {op most : Nat} {q : Req} {s : State} (keeper : forKeeper op q s = true) (guard : s.guard = none) (run : s.keeper.run = none)
  (room : 16 ≤ most) (one : q.payload.length = 16) (good : itemBad (itemAt q.payload 0) = false)
include keeper guard run room one good

/-- The refusals that both forms of register access share (R346). -/
theorem access_refusals :
    let x := itemAt q.payload 0
    let off := canonRadio x.addr
    let there := inRadioBlocks x.addr && decide (x.addr.toNat % 4 = 0)
    let fails := fun (st : Nat) => keeperOnlyAnswered op q st (leBytes 2 0 ++ leBytes 2 0) s (regAccessAs op most q s)
    (x.addr.toNat % 4 ≠ 0 ∨ (inRadioBlocks x.addr = false ∧ inStoreWindow x.addr = false) → fails 6) ∧
    (x.addr.toNat % 4 = 0 → inStoreWindow x.addr = true → x.op = 2 ∨ x.op = 3 → fails 16) ∧
    (there = true → (x.op = 2 ∨ x.op = 3) → (0x90060 ≤ off ∧ off ≤ 0x9007C) ∨ off = 0x90080 → fails 17) ∧
    (there = true → (x.op = 2 ∨ x.op = 3) → 0x70000 ≤ off → off < 0x72000 → opOwner s ((off - 0x70000) / 0x40) ≠ 17 → fails 17) ∧
    (there = true → (x.op = 2 ∨ x.op = 3) → 0 < (radioDesc off).rwg ∨ (twinOf off).isSome = true → x.op = 3 ∨ (op == 0x9001) = false → fails 17) := by
  refine ⟨fun address => ?_, fun aligned window writes => ?_, fun there writes key => ?_, fun there writes low high owner => ?_,
    fun there writes guarded refused => ?_⟩
  · exact regAccessAs_refused keeper guard run room one good (itemPolicy_address address) (by decide)
  · exact regAccessAs_refused keeper guard run room one good (itemPolicy_window aligned window writes) (by decide)
  · obtain ⟨blocks, aligned⟩ := there_iff.mp there
    exact regAccessAs_refused keeper guard run room one good (itemPolicy_keys aligned blocks writes key) (by decide)
  · obtain ⟨blocks, aligned⟩ := there_iff.mp there
    exact regAccessAs_refused keeper guard run room one good
      (itemPolicy_entry aligned blocks writes low high (by rwa [opOwner_takeReq])) (by decide)
  · obtain ⟨blocks, aligned⟩ := there_iff.mp there
    exact regAccessAs_refused keeper guard run room one good (itemPolicy_guarded aligned blocks writes guarded refused) (by decide)

end

section
variable {op most : Nat} {q : Req} {s : State} (keeper : forKeeper op q s = true) (guard : s.guard = none) (run : s.keeper.run = none)
  (good : itemBad (itemAt q.payload 0) = false) (aligned : (itemAt q.payload 0).addr.toNat % 4 = 0)
  (blocks : inRadioBlocks (itemAt q.payload 0).addr = true)
include keeper guard run good aligned blocks

/-- What READ and POLL answer in both forms of register access. -/
theorem access_answers (room : 16 ≤ most) (one : q.payload.length = 16) :
    let x := itemAt q.payload 0
    let t := regAccessAs op most q s
    let answered := fun (v : Word) (t : State) => t.linkR.q = s.linkR.q ++ [answerOf op q 0 (leBytes 2 1 ++ leBytes 2 0xFFFF ++ leBytes 4 v.toNat) s]
    let hit := (itemRead x s).1 &&& x.mask == x.value &&& x.mask
    (x.op = 1 → answered (itemRead x s).1 t ∧ t.reg = (itemRead x s).2.reg) ∧
    (x.op = 4 → hit = true → answered (itemRead x s).1 t ∧ t.reg = (itemRead x s).2.reg ∧ t.keeper.run = none) ∧
    (x.op = 4 → hit = false → x.limit = 0 → t.linkR.q = s.linkR.q ++ [answerOf op q 18 (leBytes 2 0 ++ leBytes 2 0) s] ∧ t.keeper.run = none) ∧
    (x.op = 4 → hit = false → x.limit ≠ 0 → t.linkR.q = s.linkR.q ∧
      t.keeper.run.map (fun r => (r.tag, r.done, r.values, r.limit)) = some (q.tag.toNat, 0, [], s.ntb.clk + clocksOfNs (1000 * x.limit))) := by
  have polls := regAccessAs_polls keeper guard run room one good aligned blocks
  exact ⟨regAccessAs_reads keeper guard run room one good aligned blocks, fun poll hit => (polls poll).1 (beq_iff_eq.mp hit),
    fun poll miss => ((polls poll).2 (beq_eq_false_iff_ne.mp miss)).1, fun poll miss => ((polls poll).2 (beq_eq_false_iff_ne.mp miss)).2⟩

/-- What WRITE, MODIFY and a failing second item do at a register of plain bits, in both forms of register access. -/
theorem access_plain (room : 32 ≤ most) :
    let x := itemAt q.payload 0
    let off := canonRadio x.addr
    let m := BitVec.ofNat 32 (radioDesc off).rw
    let w := ((itemRead x s).1 &&& ~~~x.mask) ||| (x.value &&& x.mask)
    let t := regAccessAs op most q s
    PlainRegister off x.value s → PlainRegister off w s →
    (x.op = 2 → q.payload.length = 16 → t.linkR.q = s.linkR.q ++ [answerOf op q 0 (leBytes 2 1 ++ leBytes 2 0xFFFF ++ leBytes 4 0) s] ∧
      rd t off &&& m = x.value &&& m ∧ ∀ a, a ≠ off → rd t a = rd s a) ∧
    (x.op = 3 → q.payload.length = 16 → (itemRead x s).2 = s →
      t.linkR.q = s.linkR.q ++ [answerOf op q 0 (leBytes 2 1 ++ leBytes 2 0xFFFF ++ leBytes 4 (itemRead x s).1.toNat) s] ∧
      rd t off &&& m = w &&& m ∧ ∀ a, a ≠ off → rd t a = rd s a) ∧
    (x.op = 2 → q.payload.length = 32 → itemBad (itemAt q.payload 1) = false → (itemAt q.payload 1).limit = 0 →
      (itemAt q.payload 1).addr.toNat % 4 ≠ 0 → t.linkR.q = s.linkR.q ++ [answerOf op q 6 (leBytes 2 1 ++ leBytes 2 1 ++ leBytes 4 0) s] ∧
      rd t off &&& m = x.value &&& m ∧ ∀ a, a ≠ off → rd t a = rd s a) := by
  intro x off m w t plain plain'
  refine ⟨fun write one => ?_, fun modify one still => ?_, fun write two good' _ crooked => ?_⟩
  · exact regAccessAs_writes aligned blocks keeper guard run good (by omega) one write plain
  · exact regAccessAs_modifies aligned blocks keeper guard run good (by omega) one modify (Prod.ext rfl still) plain'
  · exact regAccessAs_second_fails aligned blocks keeper guard run good room two write plain good' crooked

end

/-- Settles O58: each message is the run of its items, one lemma for each item's end. -/
theorem registerAccess : Obligations.RegisterAccess := by
  refine ⟨fun q s keeper => ⟨fun h => ?_, fun one bad => ?_⟩, fun q s keeper guard run one good => ?_, fun q s keeper guard run one good => ?_,
    fun q s keeper guard run good => ?_, fun q s keeper => ⟨fun h => ?_, fun one bad => ?_⟩, fun q s keeper guard run one good => ?_,
    fun q s keeper guard run one good => ?_, fun q s keeper guard run good => ?_, fun q p s keeper guard run two => ?_⟩
  · exact ⟨_, rfl, regAccessAs_length keeper h⟩
  · exact ⟨_, rfl, regAccessAs_malformed keeper (by omega) one bad⟩
  · obtain ⟨address, window, keys, entries, guarded⟩ := access_refusals (most := 4080) keeper guard run (by omega) one good
    refine ⟨fun h => ⟨_, rfl, address h⟩, fun aligned w writes => ⟨_, rfl, window aligned w writes⟩, fun there writes k => ⟨_, rfl, keys there writes k⟩,
      fun there writes low high owner => ⟨_, rfl, entries there writes low high owner⟩, fun there h => ⟨_, rfl, ?_⟩⟩
    rcases h with ⟨modify, g⟩ | ⟨write, g⟩
    · exact guarded there (.inr modify) g (.inl modify)
    · exact guarded there (.inl write) g (.inr rfl)
  · intro x answered hit aligned blocks
    obtain ⟨reads, matched, expired, waits⟩ := access_answers (most := 4080) keeper guard run good aligned blocks (by omega) one
    exact ⟨fun h => ⟨_, rfl, reads h⟩, fun h hit => ⟨_, rfl, matched h hit⟩, fun h miss limit => ⟨_, rfl, expired h miss limit⟩,
      fun h miss limit => ⟨_, rfl, waits h miss limit⟩⟩
  · intro x off plain m aligned blocks h
    obtain ⟨now, modified⟩ := plainRegister_of h
    obtain ⟨writes, modifies, second⟩ := access_plain (most := 4080) keeper guard run good aligned blocks (by omega) now modified
    exact ⟨fun h one => ⟨_, rfl, writes h one⟩, fun h one still => ⟨_, rfl, modifies h one still⟩,
      fun h two good' limit crooked => ⟨_, rfl, second h two good' limit crooked⟩⟩
  · exact ⟨_, rfl, regAccessAs_length keeper h⟩
  · exact ⟨_, rfl, regAccessAs_malformed keeper (by omega) one bad⟩
  · obtain ⟨address, window, keys, entries, guarded⟩ := access_refusals (most := 4064) keeper guard run (by omega) one good
    refine ⟨fun h => ⟨_, rfl, address h⟩, fun aligned w writes => ⟨_, rfl, window aligned w writes⟩, fun there writes k => ⟨_, rfl, keys there writes k⟩,
      fun there writes low high owner => ⟨_, rfl, entries there writes low high owner⟩, fun there h => ⟨_, rfl, guarded there (.inr h.1) h.2 (.inl h.1)⟩⟩
  · intro x answered hit aligned blocks
    obtain ⟨reads, matched, expired, waits⟩ := access_answers (most := 4064) keeper guard run good aligned blocks (by omega) one
    exact ⟨fun h => ⟨_, rfl, reads h⟩, fun h hit => ⟨_, rfl, matched h hit⟩, fun h miss limit => ⟨_, rfl, expired h miss limit⟩,
      fun h miss limit => ⟨_, rfl, waits h miss limit⟩⟩
  · intro x off plain m aligned blocks h
    obtain ⟨now, modified⟩ := plainRegister_of h
    obtain ⟨writes, modifies, second⟩ := access_plain (most := 4064) keeper guard run good aligned blocks (by omega) now modified
    exact ⟨fun h one => ⟨_, rfl, writes h one⟩, fun h one still => ⟨_, rfl, modifies h one still⟩,
      fun h two good' limit crooked => ⟨_, rfl, second h two good' limit crooked⟩⟩
  · intro x y good good' write write' addr addr' value
    exact ⟨fun complement => ⟨_, rfl, pair_completes keeper guard run two good good' write write' addr addr' value complement⟩,
      fun differs => ⟨_, rfl, pair_mismatches keeper guard run two good good' write write' addr addr' value differs⟩⟩

end Sys2Proof.Machine
end

section
/-! SUPPORT. What the following-up of done entries leaves (R202, R212, R222-R226, R362): with no command that answered PENDING, none comes to
wait; and where no entry runs, the entries' registers and the shadows stay. Used for the entry's boundary (O5). -/

namespace Sys2Proof.Machine

/-- Whether an offset lies outside the registers of the operation entries. -/
def Outside (o : Nat) : Prop := o < 0x70000 ∨ 0x72000 ≤ o

/-- No command waits, and `t` is as `s` in the entries, their registers and the shadows. -/
structure NodeKept (s t : State) : Prop where
  idle : t.keeper.pend = []
  ops : t.ops = s.ops
  shadow : t.shadow = s.shadow
  regs : ∀ o, ¬ Outside o → rd t o = rd s o

theorem raiseEvt_pend (source code : Nat) (args : List Byte) (s : State) : (raiseEvt source code args s).keeper.pend = s.keeper.pend :=
  (LinkKept.refl (p := 0) (by decide) s).raiseEvt.pend

theorem raiseEvt_ops (source code : Nat) (args : List Byte) (s : State) : (raiseEvt source code args s).ops = s.ops := by
  obtain ⟨l, k, r, h⟩ := raiseEvt_eq source code args s
  rw [h]

theorem outside_mooring (p : Nat) {d : Nat} : Outside (mrBase p + d) := by unfold Outside mrBase; omega

namespace NodeKept

theorem refl {s : State} (idle : s.keeper.pend = []) : NodeKept s s := ⟨idle, rfl, rfl, fun _ _ => rfl⟩

section
variable {s t : State} (h : NodeKept s t)
include h

/-- A change of anything else. -/
theorem frame {pending : List Instr} {free guardAge hguardAge age : Nat} {lastRead : Word} {live hreg regWas hregWas : Tab Word}
    {latch hlatch : Tab (Option Word)} {guard : Option (Nat × Word)} {ntb : TimeBase} {lamps : Tab Lamp} {caps stamps : Tab (Nat × Nat)}
    {evf : Fabric} {paths : Tab RxPath} {pathS : PathS} {slots : Tab Slot} {agc : Tab (BitVec 16)} {energyAt : Tab Nat} {intake : List RxRec}
    {syns : Tab Synth} {txs : Tab TxPath} {coexIn : CoexIn} {uses : Tab OpUse} {mac : Mac} {air : List AirFrame} {cipher : Cipher}
    {ctx : Tab Ctx} {nodes : NodeSpace} {chain : Chain} {linkR linkH : LinkEnd} {tender : Tender} {pkt reqMem rspMem image : Tab Byte}
    {flash : Flash} {settings : Settings} {boot : Boot} {power : Power} {rtc : Rtc} {tag : Tag} {taps : Taps}
    {hguard : Option (Nat × Word)} : NodeKept s (⟨pending, free, lastRead,
    t.reg, t.shadow, latch, guard, ntb, lamps, caps, stamps, evf, paths, pathS, slots, live, agc, energyAt, intake, syns, txs, t.ops, coexIn,
    uses, mac, pkt, air, cipher, ctx, nodes, chain, linkR, t.keeper, hreg, hlatch, regWas, hregWas, hguard, guardAge, hguardAge, reqMem,
    rspMem, linkH, tender, flash, settings, boot, age, image, power, rtc, tag, taps⟩ : State) :=
  ⟨h.idle, h.ops, h.shadow, h.regs⟩

theorem wr {off : Nat} {v : Word} (out : Outside off) : NodeKept s (wr off v t) :=
  ⟨h.idle, h.ops, h.shadow, fun o inside => (rd_wr_other _ _ (fun e : o = off => inside (e ▸ out))).trans (h.regs o inside)⟩

theorem setB {off i : Nat} {b : Bool} (out : Outside off) : NodeKept s (setB off i b t) := h.wr out
theorem incW {off : Nat} (out : Outside off) : NodeKept s (incW off t) := h.wr out

omit h in
theorem ite {c : Prop} [Decidable c] {a b : State} (ha : NodeKept s a) (hb : NodeKept s b) : NodeKept s (if c then a else b) := by
  split
  · exact ha
  · exact hb

omit h in
theorem when {c : Prop} [Decidable c] {f : State → State} {x : State} (hx : NodeKept s x) (hf : ∀ t, NodeKept s t → NodeKept s (f t)) :
    NodeKept s (if c then f x else x) := ite (hf x hx) hx

theorem forAll {α : Type} {xs : List α} {f : α → State → State} (hf : ∀ x t, NodeKept s t → NodeKept s (f x t)) :
    NodeKept s (forAll xs f t) := by
  induction xs generalizing t with
  | nil => exact h
  | cons x xs ih => exact ih (hf x t h)

/-! ### Sources, events and frames -/

theorem raiseSrc {n : Nat} : NodeKept s (raiseSrc n t) := ite h h.frame

theorem raiseEvt {source code : Nat} {args : List Byte} : NodeKept s (raiseEvt source code args t) :=
  ⟨(raiseEvt_pend ..).trans h.idle, (raiseEvt_ops ..).trans h.ops, (raiseEvt_shadow ..).trans h.shadow, fun o inside =>
    (rd_raiseEvt _ _ _ _ (by unfold Outside at inside; omega) (by unfold Outside at inside; omega)).trans (h.regs o inside)⟩

theorem setCls {q c : Nat} {v : MrClass} : NodeKept s (setCls q c v t) := h.frame
theorem emit {q c n : Nat} {m : MrMsg} : NodeKept s (emit q c n m t) := incW (frame h) (outside_mooring q)
theorem pump {q c : Nat} : NodeKept s (pump q c t) := forAll h.setCls fun _ _ h => h.emit

theorem queueFrame {q c : Nat} {m : MrMsg} : NodeKept s (queueFrame q c m t) :=
  ite h.setCls.pump (ite (emit h.frame) (ite (h.incW (outside_mooring q)) (emit h.frame)))

theorem broadcast {typ : Nat} {b : List Byte} : NodeKept s (broadcast typ b t) := forAll (frame h) fun _ _ h => ite h.queueFrame h

theorem sendMr {c typ dst : Nat} {b : List Byte} : NodeKept s (sendMr c typ dst b t) := by
  unfold Machine.sendMr routeFrame routeSince
  split
  · exact h.queueFrame
  · exact ite (frame h) h

/-! ### Nodes and their downlinks (R202, R212, R243, R248, R363) -/

theorem setRun {n : Nat} {r : NodeRun} : NodeKept s (setRun n r t) := h.frame
theorem commitCtx {n : Nat} {c : Ctx} : NodeKept s (commitCtx n c t) := h.frame
theorem setUse {n : Nat} {u : OpUse} : NodeKept s (setUse n u t) := h.frame

/-- No command waits that could complete. -/
theorem finishPend {test : Pend → Bool} {status : Nat} {b : List Byte} : NodeKept s (finishPend test status b t) := by
  have none' : t.keeper.pend.find? test = none := by rw [h.idle]; rfl
  unfold Machine.finishPend
  rw [none']
  exact h

theorem sendContext {n role dest : Nat} : NodeKept s (sendContext n role dest t) := by
  unfold Machine.sendContext
  split
  · exact h.raiseEvt
  · exact h.sendMr

theorem carryConn {n : Nat} : NodeKept s (carryConn n t) := by
  have told : NodeKept s (counterUpdateOut n t) := h.forAll fun _ _ h => h.sendMr
  exact forAll (ite told told.sendContext) fun _ _ h => h.sendContext

theorem advanceK {n : Nat} : NodeKept s (advanceK n t) := by
  have next := h.commitCtx (n := n) (c := { getCtx t n with k := ((getCtx t n).k + 1) % 2 ^ 32 })
  unfold Machine.advanceK
  simp only
  split
  · exact ite (carryConn (commitCtx (setRun next.setRun))) next.setRun
  · exact next.setRun

theorem windowMissed {n : Nat} : NodeKept s (windowMissed n t) :=
  ite (incW (broadcast (setRun (advanceK h.commitCtx))) (by unfold Outside; omega)) (advanceK h.commitCtx)

theorem dlSync {n : Nat} : NodeKept s (dlSync n t) := h.commitCtx

theorem setHead {n : Nat} {d : Downlink} : NodeKept s (setHead n d t) := ite h.setRun (dlSync h.setRun)

theorem endHead {n status : Nat} : NodeKept s (endHead n status t) := by
  unfold Machine.endHead
  simp only
  split
  · exact h
  · exact finishPend (dlSync h.setRun)

theorem dlNoAck {n : Nat} : NodeKept s (dlNoAck n t) := by
  unfold Machine.dlNoAck
  split
  · exact h
  · split
    · exact h
    · exact ite h.endHead h

theorem joinDone {tag : Nat} : NodeKept s (joinDone tag t) := by
  unfold Machine.joinDone
  split
  · exact h
  · exact finishPend (frame h)

theorem internalMissed : NodeKept s (internalMissed t) :=
  forAll (forAll h fun _ _ h => h.windowMissed) fun _ _ h => dlNoAck (setRun h)

/-! ### The coexistence wires (R109-R111) -/

theorem setReqLevel {b : Bool} : NodeKept s (setReqLevel b t) := ite h (raiseSrc (h.setB (by unfold Outside; omega)))

theorem coexOutputs : NodeKept s (coexOutputs t) := by
  have wire : Outside 0x48008 := by unfold Outside; omega
  have count : Outside 0x4800C := by unfold Outside; omega
  have used : NodeKept s (grantUsed t) := h.forAll fun _ _ h => ite (frame h) h
  exact ite ((setReqLevel ((ite (used.incW count) used : NodeKept s (onlyIf _ _ _)).setB wire)).setB wire)
    (when h fun _ h => ite h (incW (setB (frame h) wire) count))

/-- A done entry followed up, unless it is a downlink that was sent (R195, R212, R224, R362). -/
theorem useDone {e : Nat} (unsent : ∀ n, getUse t e = .downlink n → (getOp t e).sent = false) : NodeKept s (useDone e t) := by
  unfold Machine.useDone
  simp only
  split
  case h_1 n k use => exact ite (ite (windowMissed h.setUse) (advanceK h.setUse)) h.setUse
  case h_2 n use => exact ite h.setUse (dlNoAck h.setUse)
  case h_3 n use =>
    rw [unsent n use]
    exact h.setUse
  case h_4 tag use => exact ite (joinDone h.setUse) (frame h.setUse)
  case h_5 tag status fcnt use => exact finishPend h.setUse
  case h_6 => exact h.setUse

end
end NodeKept

/-- With no entry running, the follow-up of done entries leaves the entries and the shadows. -/
theorem settle_kept {s : State} (idle : s.keeper.pend = []) (ops : s.ops = []) : NodeKept s (settle s) := by
  unfold settle
  simp only [ops]
  refine .coexOutputs (.internalMissed (.forAll (.refl idle) fun p t h => .ite (h.useDone fun n _ => ?_) h))
  rw [getOp, h.ops, ops]
  rfl

/-! ### No command comes to wait -/

theorem raiseSrc_keeper (n : Nat) (s : State) : (raiseSrc n s).keeper = s.keeper := by
  have := congrArg State.keeper (raiseSrc_only n s); exact this

theorem copyShadows_keeper (lo hi : Nat) (s : State) : (copyShadows lo hi s).keeper = s.keeper := by
  have := congrArg State.keeper (forAll_wr_only (shadowsIn s lo hi) s); exact this

theorem applied_pend (a lo hi src : Nat) (s : State) : (applied a lo hi src s).keeper.pend = s.keeper.pend := by
  rw [applied, raiseSrc_keeper]
  exact congrArg Keeper.pend (copyShadows_keeper lo hi s)

theorem rejected_pend (a lo hi src blk code : Nat) (s : State) : (rejected a lo hi src blk code s).keeper.pend = s.keeper.pend := by
  rw [rejected, raiseEvt_pend, raiseSrc_keeper]
  rfl

/-- A unit's boundary makes no command wait where what the unit adds makes none. -/
theorem applyRun_pend {a lo hi src blk : Nat} {check : State → Nat} {after : State → State}
    (adds : ∀ t, (after t).keeper.pend = t.keeper.pend) (s : State) : (applyRun a lo hi src blk check after s).keeper.pend = s.keeper.pend := by
  by_cases due : (applyPending s a && !applyHeld s a) = true
  · simp only [Bool.and_eq_true, Bool.not_eq_true'] at due
    by_cases ok : check s = 0
    · rw [applyRun_passes due.1 due.2 ok, adds, applied_pend]
    · rw [applyRun_fails due.1 due.2 ok, rejected_pend]
  · rw [applyRun_idle (by simpa using due)]

section
variable (n : Nat) (s : State)

theorem opEvt_pend (atStart : Bool) : (opEvt n atStart s).keeper.pend = s.keeper.pend := by
  unfold opEvt
  simp only
  split
  · rw [raiseSrc_keeper]
  · rfl

theorem opActivate_pend : (opActivate n s).keeper.pend = s.keeper.pend := by
  unfold opActivate
  split
  · rw [opEvt_pend]
    rfl
  · rfl

theorem opApply_pend : (opApply n s).keeper.pend = s.keeper.pend := by
  unfold opApply
  split
  · rfl
  · exact applyRun_pend (fun t => by unfold onlyIf; split <;> rfl) s

theorem opComplete_pend (result t step value : Nat) : (opComplete n result t step value s).keeper.pend = s.keeper.pend := by
  rw [opComplete, opApply_pend, opEvt_pend]
  rfl

theorem startNow_pend : (startNow n s).keeper.pend = s.keeper.pend := by
  unfold startNow opEnd
  simp only
  split
  · rw [opComplete_pend, opActivate_pend]
  · split
    · rw [opComplete_pend, opActivate_pend]
    · split
      · rw [opComplete_pend, opActivate_pend]
      · rw [opActivate_pend]

theorem opArmAt_pend (trigger : Option Nat) : (opArmAt n trigger s).keeper.pend = s.keeper.pend := by
  unfold opArmAt opEnd
  simp only
  split
  · rfl
  · split
    · rfl
    · split
      · rfl
      · split
        · split
          · rw [opActivate_pend]
            rfl
          · rw [startNow_pend]
            rfl
        · rw [opComplete_pend]
          rfl

theorem takeEntry_pend (e : OpSpec) : (takeEntry n e s).keeper.pend = s.keeper.pend := by
  rw [takeEntry, opArmAt_pend]
  rfl

theorem windowJudge_pend : (windowJudge n s).keeper.pend = s.keeper.pend := by
  unfold windowJudge
  simp only
  split
  · rw [opComplete_pend]
  · rfl

end

theorem takeWindow_pend {use : OpUse} {ch mode owner opens durUs : Nat} {s t : State} (h : takeWindow use ch mode owner opens durUs s = some t) :
    t.keeper.pend = s.keeper.pend := by
  obtain ⟨e, -, rfl⟩ := Option.map_eq_some_iff.mp h
  rw [takeEntry_pend]
  rfl

theorem dlSent_idle {n stamp step : Nat} {s : State} (idle : s.keeper.pend = []) : (dlSent n stamp step s).keeper.pend = [] := by
  have started : ∀ d, NodeKept s (setHead n d s) := fun d => (NodeKept.refl idle).setHead
  unfold dlSent
  split
  · exact idle
  · simp only
    split
    next t taken => exact (takeWindow_pend taken).trans (started _).setRun.idle
    · exact ((((started _).setRun.setRun).incW (by unfold Outside; omega)).setB (by unfold Outside; omega)).idle

theorem useDone_idle {e : Nat} {s : State} (idle : s.keeper.pend = []) : (useDone e s).keeper.pend = [] := by
  by_cases sent : ∃ n, getUse s e = .downlink n ∧ (getOp s e).sent = true
  · obtain ⟨n, use, sent⟩ := sent
    unfold useDone
    simp only [use, sent, if_true]
    exact dlSent_idle idle
  · exact ((NodeKept.refl idle).useDone fun n use => by simpa using fun yes => sent ⟨n, use, yes⟩).idle

theorem forAll_idle {α : Type} {f : α → State → State} (hf : ∀ x t, t.keeper.pend = [] → (f x t).keeper.pend = []) :
    ∀ (xs : List α) {s : State}, s.keeper.pend = [] → (forAll xs f s).keeper.pend = []
  | [], _, idle => idle
  | x :: xs, s, idle => forAll_idle hf xs (hf x s idle)

/-- The follow-up of done entries makes no command wait. -/
theorem settle_idle {s : State} (idle : s.keeper.pend = []) : (settle s).keeper.pend = [] := by
  have judged := forAll_idle (fun p t h => (windowJudge_pend p.1 t).trans h) (s.ops.filter fun p => p.2.closed) idle
  have followed := forAll_idle (f := fun p s => if opState s p.1 = 4 then useDone p.1 s else s)
    (fun p t h => by
      split
      · exact useDone_idle h
      · exact h) (forAll (s.ops.filter fun p => p.2.closed) (fun p => windowJudge p.1) s).uses judged
  exact (NodeKept.refl followed).internalMissed.coexOutputs.idle

end Sys2Proof.Machine
end

section
/-! SUPPORT. The boundaries of the apply units (R27, R29, R31): what each unit adds to the procedure of R30, and the whole statement (O5). -/

namespace Sys2Proof.Machine

/-! ### A boundary with no plan command waiting -/

theorem planSettle_of_idle {s : State} (idle : s.keeper.pend = []) : planSettle s = s := by
  unfold planSettle
  rw [idle]
  rfl

theorem exec_applyBoundary {u : ApplyUnit} {s : State} (idle : (applyBoundary u s).keeper.pend = []) :
    exec (.applyBoundary u) s = .next (applyBoundary u s) := congrArg Host.Outcome.next (planSettle_of_idle idle)

/-! ### The registers of the units (R29) -/

/-- No apply register is shadowed itself. -/
theorem rwb_applyRegister (u : ApplyUnit) : (radioDesc (unitRange u).1).rwb = 0 := by
  cases u with
  | chan n => revert n; decide
  | tx n => revert n; decide
  | op n => revert n; decide
  | lamp n => revert n; decide
  | port n => revert n; decide
  | step => decide
  | rate => decide

theorem rwb_lampStatus (n : Fin 8) : (radioDesc (lampBase n.val + 0x20)).rwb = 0 ∧ (radioDesc (lampBase n.val + 0x30)).rwb = 0 := by
  revert n
  decide

theorem rwb_channelStatus (n : Fin 64) : (radioDesc (chBase n.val + 0x24)).rwb = 0 := by
  revert n
  decide

theorem rwb_entryStatus (n : Fin 128) : (radioDesc (opBase n.val + 0x28)).rwb = 0 := by
  revert n
  decide

theorem port_shadowed (p : Fin 2) (d : Fin 0x40) : (radioDesc (mrBase p.val + d.val)).rwb ≠ 0 → d.val < 0x10 := by
  revert p d
  decide

/-- The shadowed registers of a port are none that a link's loss writes. -/
theorem calm_of_port {p : Fin 2} {o : Nat} (rwb : (radioDesc o).rwb ≠ 0) (lo : mrBase p.val ≤ o) (hi : o < mrBase p.val + 0x40) :
    Calm o ∧ o ≠ mrBase p.val + 0x3C := by
  have few := port_shadowed p ⟨o - mrBase p.val, by omega⟩ (by rwa [show mrBase p.val + (o - mrBase p.val) = o by omega])
  have hp := p.isLt
  simp only at few
  unfold Calm mrBase at *
  omega

/-! ### A boundary whose checks pass -/

/-- The shadow of a range has become active and nothing is pending: what a passing boundary leaves in `t` (R30). -/
def Ran (a lo hi : Nat) (s t : State) : Prop :=
  applyPending t a = false ∧ getF t a 31 16 = (getF s a 31 16 + 1) % 65536 ∧
    ∀ o, (radioDesc o).rwb ≠ 0 → lo ≤ o → o < hi →
      rd t o &&& BitVec.ofNat 32 (radioDesc o).rwb = rdShadow s o &&& BitVec.ofNat 32 (radioDesc o).rwb ∧ shadowed t o = false

section
variable {a lo hi src : Nat} {s t : State} (wf : s.shadowWf = true) (rwb : (radioDesc a).rwb = 0)
include wf rwb

/-- What follows a passing apply may write what is not shadowed. -/
theorem ran_of_kept (own : rd t a = rd (applied a lo hi src s) a)
    (active : ∀ o, (radioDesc o).rwb ≠ 0 → lo ≤ o → o < hi → rd t o = rd (applied a lo hi src s) o)
    (shadows : ∀ o, lo ≤ o → o < hi → tabGet (fun _ => none) t.shadow o = tabGet (fun _ => none) (applied a lo hi src s).shadow o) :
    Ran a lo hi s t := by
  refine ⟨(getB_eq_of_rd own 8).trans (applyPending_applied wf rwb), (getF_eq_of_rd own 31 16).trans (getF_applied wf rwb),
    fun o bits low high => ⟨?_, ?_⟩⟩
  · rw [active o bits low high, rd_applied_other wf (fun e : o = a => bits (e ▸ rwb)), inRange_iff.mpr ⟨low, high⟩, if_pos rfl]
  · rw [shadowed, shadows o low high, ← shadowed, shadowed_applied, inRange_iff.mpr ⟨low, high⟩]
    exact Bool.and_false _

end

/-! ### Lamps (R65) -/

/-- `t` is as `s` in all that arming Lamp `n` leaves: the commands that wait, the shadows, and every register but the Lamp's status and
SKIP_COUNT. -/
structure LampKept (n : Nat) (s t : State) : Prop where
  pend : t.keeper.pend = s.keeper.pend
  shadow : t.shadow = s.shadow
  regs : ∀ o, o ≠ lampBase n + 0x20 → o ≠ lampBase n + 0x30 → rd t o = rd s o

namespace LampKept

theorem refl (n : Nat) (s : State) : LampKept n s s := ⟨rfl, rfl, fun _ _ _ => rfl⟩

section
variable {n : Nat} {s t : State} (h : LampKept n s t)
include h

theorem setLamp {m : Nat} {v : Lamp} : LampKept n s (setLamp m v t) := ⟨h.pend, h.shadow, h.regs⟩

theorem raiseSrc {m : Nat} : LampKept n s (raiseSrc m t) :=
  ⟨(congrArg Keeper.pend (raiseSrc_keeper m t)).trans h.pend, (raiseSrc_shadow m t).trans h.shadow,
    fun o status skips => (rd_raiseSrc m t o).trans (h.regs o status skips)⟩

theorem setStatus {i : Nat} {b : Bool} : LampKept n s (setB (lampBase n + 0x20) i b t) :=
  ⟨h.pend, h.shadow, fun o status skips => (rd_setB_other _ _ _ status).trans (h.regs o status skips)⟩

theorem lampSkipCount {k : Nat} : LampKept n s (lampSkipCount n k t) :=
  ⟨h.pend, h.shadow, fun o status skips => (rd_setF_other _ _ _ _ skips).trans (h.regs o status skips)⟩

omit h in
theorem ite {c : Prop} [Decidable c] {a b : State} (ha : LampKept n s a) (hb : LampKept n s b) : LampKept n s (if c then a else b) := by
  split
  · exact ha
  · exact hb

theorem lampPulse {oneShot : Bool} : LampKept n s (lampPulse n oneShot t) := by
  have ended : LampKept n s (Machine.raiseSrc (16 + n)
      (if (getLamp t n).pulseEnd.isSome && (getLamp t n).cut then Machine.raiseSrc (24 + n) t else t)) := raiseSrc (ite h.raiseSrc h)
  exact ite (ite (setStatus (setStatus (raiseSrc ended.setLamp))) (setStatus (raiseSrc ended.setLamp))) (setStatus ended.setLamp)

theorem lampMissed : LampKept n s (lampMissed n t) := ite (lampSkipCount h.setLamp.setStatus) (lampPulse h.setLamp.setStatus)

theorem lampArm {inst : Nat} : LampKept n s (lampArm n inst t) :=
  ite h.setLamp (ite h.setLamp.setLamp (ite h.setLamp.setLamp (lampMissed h.setLamp.setLamp)))

end
end LampKept

theorem lampArm_kept (n inst : Nat) (s : State) : LampKept n s (lampArm n inst s) := (LampKept.refl n s).lampArm

/-! ### Each unit's boundary -/

theorem lampApply_eq {n : Nat} {s : State} (once : lampPeriodic s n = false) (free : (getLamp s n).pulseEnd = none) :
    lampApply n s = applyRun (lampBase n) (lampBase n) (lampBase n + 0x40) (178 + n) 2 (lampCheck n) (lampArm n (nowNs s)) s := by
  simp [lampApply, lampBoundary, once, free]

theorem loopApplied_left {p : Nat} (hp : p < 2) (s : State) : LinkLeft p s (loopApplied p s) := by
  have same : LinkLeft p s s := ⟨rfl, rfl, rfl, rfl, rfl, fun _ _ _ => rfl, fun _ _ => rfl⟩
  unfold loopApplied
  split
  · split
    · exact same
    · exact linkDown_left hp (by omega) (by omega)
  · split
    · exact setLstate_left p 1 s
    · exact same

theorem reachNet_keeper (instant : Nat) (s : State) : (reachNet instant s).keeper = s.keeper := by
  have kept : ∀ n t, (clocks n t).keeper = t.keeper := fun n t => by
    have := congrArg State.keeper (clocks_only n t); exact this
  unfold reachNet
  split
  · exact kept _ _
  · exact (kept _ _).trans (kept _ _)

/-- The state at the next second, before what takes effect there (R281, R309). -/
def secondReached (s : State) : State := sendNetTime (raiseSrc 5 (reachNet (nextSecond s) s))

theorem sendNetTime_keeper (s : State) : (sendNetTime s).keeper = s.keeper := rfl
theorem sendNetTime_reg (s : State) : (sendNetTime s).reg = s.reg := rfl
theorem sendNetTime_shadow (s : State) : (sendNetTime s).shadow = s.shadow := rfl
theorem sendNetTime_ntb (s : State) : (sendNetTime s).ntb = s.ntb := rfl

theorem secondReached_pend (s : State) : (secondReached s).keeper.pend = s.keeper.pend := by
  rw [secondReached, sendNetTime_keeper, raiseSrc_keeper, reachNet_keeper]

theorem ntbSecond_pend (s : State) : (ntbSecond s).keeper.pend = s.keeper.pend :=
  (applyRun_pend (after := fun s => { s with ntb := { s.ntb with freq := getS s 0x20064 } }) (fun _ => rfl) _).trans (secondReached_pend s)

/-- A transmit path's ramp lengths are learnt anew under an applied configuration (R157). -/
def txApplied (p : Nat) (s : State) : State := setTx p { getTx s p with rampLen := [], passes := [], probes := [] } s

theorem txApply_eq {p : Nat} {s : State} (quiet : inBurst s p = false) :
    txApply p s = applyRun (txBase p) (txBase p) (txBase p + 0x4000) (186 + p) 6 (txCheck p) (txApplied p) s := by
  unfold txApply
  rw [quiet]
  rfl

/-- No boundary makes a command wait. -/
theorem applyBoundary_idle (u : ApplyUnit) {s : State} (idle : s.keeper.pend = []) : (applyBoundary u s).keeper.pend = [] := by
  cases u with
  | chan n =>
    unfold applyBoundary chanApply
    simp only
    split
    · exact (applyRun_pend (after := chanApplied n.val) (fun _ => rfl) s).trans idle
    · exact idle
  | tx n =>
    unfold applyBoundary txApply
    simp only
    split
    · exact idle
    · exact (applyRun_pend (after := txApplied n.val) (fun _ => rfl) s).trans idle
  | op n => exact settle_idle ((opApply_pend n.val s).trans idle)
  | step =>
    unfold applyBoundary
    simp only
    split
    · exact ((applyRun_pend (after := stepApplied) (fun _ => rfl) _).trans (congrArg Keeper.pend (reachNet_keeper _ s))).trans idle
    · exact idle
  | rate =>
    unfold applyBoundary
    simp only
    split
    · exact (ntbSecond_pend s).trans idle
    · exact idle
  | lamp n =>
    unfold applyBoundary lampApply
    simp only
    split
    · exact (applyRun_pend (fun t => (lampArm_kept _ _ t).pend) s).trans idle
    · exact idle
  | port n => exact (applyRun_pend (fun t => (loopApplied_left n.isLt t).pend) s).trans idle

/-- A boundary with no plan command waiting is the unit's own. -/
theorem exec_applyBoundary_of_idle (u : ApplyUnit) {s : State} (idle : s.keeper.pend = []) :
    exec (.applyBoundary u) s = .next (applyBoundary u s) := exec_applyBoundary (applyBoundary_idle u idle)

section
variable {s : State} (idle : s.keeper.pend = [])
include idle

/-- With nothing pending, or with APPLY_HOLD, no boundary but an entry's does anything. -/
theorem applyBoundary_nothing {u : ApplyUnit} (noEntry : ∀ n, u ≠ .op n)
    (nothing : (applyPending s (unitRange u).1 && !applyHeld s (unitRange u).1) = false) : exec (.applyBoundary u) s = .next s := by
  rw [exec_applyBoundary_of_idle u idle]
  congr 1
  cases u with
  | chan n =>
    change chanApply n.val s = s
    simp only [chanApply]
    rw [applyRun_idle (a := chBase n.val) nothing, ite_self]
  | tx n =>
    change txApply n.val s = s
    simp only [txApply]
    rw [applyRun_idle (a := txBase n.val) nothing, ite_self]
  | op n => exact absurd rfl (noEntry n)
  | step => exact if_neg (by rw [show (applyPending s 0x20040 && !applyHeld s 0x20040) = false from nothing]; decide)
  | rate => exact if_neg (by rw [show (applyPending s 0x20060 && !applyHeld s 0x20060) = false from nothing]; decide)
  | lamp n =>
    change lampApply n.val s = s
    simp only [lampApply]
    rw [applyRun_idle (a := lampBase n.val) nothing, ite_self]
  | port n => exact applyRun_idle nothing

end

/-! ### The time base at a boundary (R46, R52, R53) -/

section
variable {s : State} (still : s.ntb.slew = 0)
include still

theorem reachNet_of_still (instant : Nat) : reachNet instant s = plainClocks (clocksToNet instant s) s := by
  have flat : slewRate s = 0 := by rw [slewRate, rateOf, still, Int.add_zero, Int.sub_self]
  rw [reachNet, if_pos (.inl flat), clocks, if_pos (.inl flat)]

theorem reachNet_reg (instant : Nat) : (reachNet instant s).reg = s.reg := by
  rw [reachNet_of_still still, plainClocks_reg]

end

theorem reachNet_shadow (instant : Nat) (s : State) : (reachNet instant s).shadow = s.shadow := by
  have kept : ∀ n t, (clocks n t).shadow = t.shadow := fun n t => by
    have := congrArg State.shadow (clocks_only n t); exact this
  unfold reachNet
  split
  · exact kept _ _
  · exact (kept _ _).trans (kept _ _)

theorem netInc_pos (s : State) : 0 < netInc s := by
  have low : -rateMax ≤ rateOf s := by
    unfold rateOf clampInt rateMax
    split
    · omega
    · split <;> omega
  unfold netInc
  unfold rateMax at low
  omega

theorem net_plainClocks {s : State} (n : Nat) (run : coreRuns s = true) : (plainClocks n s).ntb.net = s.ntb.net + n * netInc s := by
  have run' : coreRuns (if n = 0 then s else { s with regWas := s.reg, hregWas := s.hreg }) = true := by split <;> exact run
  simp only [plainClocks, run', if_true]
  split <;> rfl

/-- With the clock running and no slew, network time reaches an instant. -/
theorem le_net_reachNet {s : State} (still : s.ntb.slew = 0) (run : coreRuns s = true) (instant : Nat) :
    instant ≤ (reachNet instant s).ntb.net := by
  have pos := netInc_pos s
  have := Nat.lt_div_mul_add (a := instant - s.ntb.net + netInc s - 1) pos
  rw [reachNet_of_still still, net_plainClocks _ run, clocksToNet, ceilDiv]
  omega

/-- What a boundary reads of a state that differs in its time alone. -/
theorem rdShadow_congr {s t : State} (reg : t.reg = s.reg) (shadow : t.shadow = s.shadow) (o : Nat) : rdShadow t o = rdShadow s o := by
  rw [rdShadow, rd, reg, shadow, rdShadow, rd]

theorem applied_ntb (a lo hi src : Nat) (s : State) : (applied a lo hi src s).ntb = s.ntb := by
  have copied : (copyShadows lo hi s).ntb = s.ntb := by
    have := congrArg State.ntb (forAll_wr_only (shadowsIn s lo hi) s); exact this
  rw [applied, raiseSrc_ntb]
  exact copied

/-- Beside the rate unit, a second takes effect in the Fronds' timing alone (R192, R194). -/
theorem ntbSecond_eq (s : State) : ∃ m, ntbSecond s = { rateApply (secondReached s) with mac := m } := ⟨_, rfl⟩

theorem rd_ntbSecond (s : State) (o : Nat) : rd (ntbSecond s) o = rd (rateApply (secondReached s)) o := by
  obtain ⟨m, h⟩ := ntbSecond_eq s
  rw [h]
  rfl

theorem ntbSecond_ntb (s : State) : (ntbSecond s).ntb = (rateApply (secondReached s)).ntb := by
  obtain ⟨m, h⟩ := ntbSecond_eq s
  rw [h]

theorem rateApply_passes {s : State} (due : applyPending s 0x20060 = true) (held : applyHeld s 0x20060 = false) (ok : rateCheck s = 0) :
    ∃ u, u = applied 0x20060 0x20064 0x20068 177 s ∧ rateApply s = { u with ntb := { u.ntb with freq := getS u 0x20064 } } :=
  ⟨_, rfl, applyRun_passes due held ok⟩

/-- The rate unit's boundary: its rate is the frequency from the next second on (R53). -/
theorem ntbSecond_applies {s : State} (wf : s.shadowWf = true) (due : applyPending s 0x20060 = true) (held : applyHeld s 0x20060 = false)
    (off : servoOn s = false) (low : -rateMax ≤ (rdShadow s 0x20064).toInt) (high : (rdShadow s 0x20064).toInt ≤ rateMax)
    (still : s.ntb.slew = 0) (run : coreRuns s = true) :
    rd (ntbSecond s) 0x20064 = rdShadow s 0x20064 ∧ (ntbSecond s).ntb.freq = (rdShadow s 0x20064).toInt ∧
      nextSecond s ≤ (ntbSecond s).ntb.net ∧ applyPending (ntbSecond s) 0x20060 = false := by
  have reg : (secondReached s).reg = s.reg := by
    rw [secondReached, sendNetTime_reg, raiseSrc_reg, reachNet_reg still]
  have shadow : (secondReached s).shadow = s.shadow := by
    rw [secondReached, sendNetTime_shadow, raiseSrc_shadow, reachNet_shadow]
  have net : (secondReached s).ntb = (reachNet (nextSecond s) s).ntb := by
    rw [secondReached, sendNetTime_ntb, raiseSrc_ntb]
  have same : ∀ o, rd (secondReached s) o = rd s o := fun o => by rw [rd, reg, rd]
  have wf' : (secondReached s).shadowWf = true := by rw [State.shadowWf, shadow]; exact wf
  have rate := rdShadow_congr reg shadow 0x20064
  have passes : rateCheck (secondReached s) = 0 := by
    have off' : servoOn (secondReached s) = false := (getB_eq_of_rd (same _) 0).trans off
    rw [rateCheck, off', rate, if_neg (by decide), if_neg (by omega)]
  obtain ⟨u, hu, ran⟩ := rateApply_passes (s := secondReached s) ((getB_eq_of_rd (same _) 8).trans due)
    ((getB_eq_of_rd (same _) 0).trans held) passes
  have active : rd u 0x20064 = rdShadow s 0x20064 := by
    rw [hu, rd_applied_other wf' (by decide), if_pos (by decide), rate]
  have regs : ∀ o, rd (ntbSecond s) o = rd u o := fun o => by
    rw [rd_ntbSecond, ran]
    rfl
  have time : nextSecond s ≤ u.ntb.net := by
    rw [hu, applied_ntb, net]
    exact le_net_reachNet still run _
  rw [ntbSecond_ntb, ran]
  refine ⟨(regs _).trans active, congrArg BitVec.toInt active, time, ?_⟩
  rw [applyPending, getB_eq_of_rd (regs 0x20060), hu]
  exact applyPending_applied wf' (rwb_applyRegister .rate)

/-- The step unit's boundary: the SET is ready for the next clock (R47, R49, R52). -/
theorem stepApply_sets {s : State} (wf : s.shadowWf = true) (due : applyPending s 0x20040 = true) (held : applyHeld s 0x20040 = false)
    (set' : fieldOf (rdShadow s 0x20044) 1 0 = 1) (nanos : fieldOf (rdShadow s 0x20050) 29 0 < 1000000000) (free : ntbState s ≠ 1)
    (host : getB s 0x20020 14 = true) :
    applyPending (stepApply s) 0x20040 = false ∧ (stepApply s).ntb.stepReady = 1 ∧ rd (stepApply s) 0x20044 = 0 ∧
      rd (stepApply s) 0x20048 = rdShadow s 0x20048 ∧ rd (stepApply s) 0x2004C = rdShadow s 0x2004C ∧
      getF (stepApply s) 0x20050 29 0 = fieldOf (rdShadow s 0x20050) 29 0 := by
  have passes : stepCheck s = 0 := by
    simp [stepCheck, set', free, host, Nat.not_le.mpr nanos]
  have ran : stepApply s = stepApplied (applied 0x20040 0x20044 0x20060 176 s) := applyRun_passes due held passes
  have active : ∀ o, 0x20044 ≤ o → o < 0x20060 → rd (applied 0x20040 0x20044 0x20060 176 s) o = rdShadow s o := fun o low high => by
    rw [rd_applied_other wf (by omega), inRange_iff.mpr ⟨low, high⟩, if_pos rfl]
  have shown : ∀ o, o ≠ 0x20044 → rd (stepApplied (applied 0x20040 0x20044 0x20060 176 s)) o = rd (applied 0x20040 0x20044 0x20060 176 s) o :=
    fun o other => rd_wr_other _ _ other
  have kept : ∀ o, 0x20044 < o → o < 0x20060 → rd (stepApplied (applied 0x20040 0x20044 0x20060 176 s)) o = rdShadow s o := fun o low high =>
    (shown o (by omega)).trans (active o (by omega) high)
  rw [ran]
  refine ⟨?_, ?_, rd_wr_same _ _ _, kept _ (by omega) (by omega), kept _ (by omega) (by omega), ?_⟩
  · exact (getB_eq_of_rd (shown _ (by omega)) 8).trans (applyPending_applied wf (rwb_applyRegister .step))
  · change getF (applied 0x20040 0x20044 0x20060 176 s) 0x20044 1 0 = 1
    rw [getF, active _ (by omega) (by omega), set']
  · rw [getF, kept _ (by omega) (by omega)]

/-! ### The shadow of each unit becomes active -/

/-- A done entry is IDLE again under its new configuration (R224). -/
def entryApplied (n : Nat) (s : State) : State := onlyIf (opState s n == 4) (setOpState n 1) s

theorem entryApplied_leaves (n : Nat) (s : State) : (entryApplied n s).keeper.pend = s.keeper.pend ∧ (entryApplied n s).shadow = s.shadow ∧
    (entryApplied n s).ops = s.ops ∧ ∀ o, o ≠ opBase n + 0x28 → rd (entryApplied n s) o = rd s o := by
  unfold entryApplied onlyIf
  split
  · exact ⟨rfl, rfl, rfl, fun o other => rd_setF_other _ _ _ _ other⟩
  · exact ⟨rfl, rfl, rfl, fun _ _ => rfl⟩

theorem opApply_passes {n : Nat} {s : State} (due : applyPending s (opBase n) = true) (held : applyHeld s (opBase n) = false)
    (waits : opState s n = 0 ∨ opState s n = 1) (ok : opCheck n s = 0) :
    ∃ u, u = entryApplied n (applied (opBase n) (opBase n) (opBase n + 0x40) 191 s) ∧ opApply n s = u :=
  ⟨_, rfl, (if_neg (by omega)).trans (applyRun_passes due held ok)⟩

theorem applied_ops (a lo hi src : Nat) (s : State) : (applied a lo hi src s).ops = s.ops := by
  have fires : ∀ n t, (raiseSrc n t).ops = t.ops := fun n t => by
    have := congrArg State.ops (raiseSrc_only n t); exact this
  have copied : (copyShadows lo hi s).ops = s.ops := by
    have := congrArg State.ops (forAll_wr_only (shadowsIn s lo hi) s); exact this
  rw [applied, fires]
  exact copied

section
variable {s : State} (wf : s.shadowWf = true)
include wf

theorem chanApply_ran {n : Fin 64} (due : applyPending s (chBase n.val) = true) (held : applyHeld s (chBase n.val) = false)
    (first : slotState s n.val 0 = 0) (second : slotState s n.val 1 = 0) (ok : chanCheck n.val s = 0) :
    Ran (chBase n.val) (chBase n.val) (chBase n.val + 0x400) s (chanApply n.val s) := by
  have boundary : chanBoundary s n.val = true := by rw [chanBoundary, first, second]; rfl
  rw [chanApply, if_pos boundary, applyRun_passes due held ok]
  exact ran_of_kept wf (rwb_applyRegister (.chan n)) (rd_setB_other _ _ _ (by omega))
    (fun o bits _ _ => rd_setB_other _ _ _ (fun e => bits (e ▸ rwb_channelStatus n))) fun _ _ _ => rfl

theorem txApply_ran {n : Fin 2} (due : applyPending s (txBase n.val) = true) (held : applyHeld s (txBase n.val) = false)
    (quiet : inBurst s n.val = false) (ok : txCheck n.val s = 0) :
    Ran (txBase n.val) (txBase n.val) (txBase n.val + 0x4000) s (txApply n.val s) := by
  rw [txApply_eq quiet, applyRun_passes due held ok]
  exact ran_of_kept (src := 186 + n.val) wf (rwb_applyRegister (.tx n)) rfl (fun _ _ _ _ => rfl) fun _ _ _ => rfl

theorem lampApply_ran {n : Fin 8} (due : applyPending s (lampBase n.val) = true) (held : applyHeld s (lampBase n.val) = false)
    (once : lampPeriodic s n.val = false) (free : (getLamp s n.val).pulseEnd = none) (ok : lampCheck n.val s = 0) :
    Ran (lampBase n.val) (lampBase n.val) (lampBase n.val + 0x40) s (lampApply n.val s) := by
  rw [lampApply_eq once free, applyRun_passes due held ok]
  obtain ⟨-, shadow, regs⟩ := lampArm_kept n.val (nowNs s) (applied (lampBase n.val) (lampBase n.val) (lampBase n.val + 0x40) (178 + n.val) s)
  obtain ⟨status, skips⟩ := rwb_lampStatus n
  exact ran_of_kept wf (rwb_applyRegister (.lamp n)) (regs _ (by omega) (by omega))
    (fun o bits _ _ => regs o (fun e => bits (e ▸ status)) (fun e => bits (e ▸ skips))) fun _ _ _ => by rw [shadow]

theorem portApply_ran {n : Fin 2} (due : applyPending s (mrBase n.val) = true) (held : applyHeld s (mrBase n.val) = false)
    (ok : portCheck n.val s = 0) : Ran (mrBase n.val) (mrBase n.val) (mrBase n.val + 0x40) s (portApply n.val s) := by
  have left := loopApplied_left n.isLt (applied (mrBase n.val) (mrBase n.val) (mrBase n.val + 0x40) (188 + n.val) s)
  have hn := n.isLt
  rw [portApply, applyRun_passes due held ok]
  exact ran_of_kept wf (rwb_applyRegister (.port n)) (left.regs _ (by unfold Calm mrBase; omega) (by omega))
    (fun o bits low high => left.regs o (calm_of_port bits low high).1 (calm_of_port bits low high).2)
    fun o low high => left.shadows o (by unfold mrBase at low high; omega)

/-- An entry's boundary, up to the settling that follows, where no entry runs. -/
theorem opApply_ran {n : Fin 128} (idle : s.keeper.pend = []) (due : applyPending s (opBase n.val) = true)
    (held : applyHeld s (opBase n.val) = false) (waits : opState s n.val = 0 ∨ opState s n.val = 1) (ops : s.ops = [])
    (ok : opCheck n.val s = 0) : Ran (opBase n.val) (opBase n.val) (opBase n.val + 0x40) s (settle (opApply n.val s)) := by
  have hn := n.isLt
  obtain ⟨u, hu, applies⟩ := opApply_passes due held waits ok
  obtain ⟨pend, shadow, runs, regs⟩ := entryApplied_leaves n.val (applied (opBase n.val) (opBase n.val) (opBase n.val + 0x40) 191 s)
  rw [← hu] at pend shadow runs regs
  rw [applied_pend, idle] at pend
  rw [applied_ops, ops] at runs
  have kept := settle_kept pend runs
  rw [applies]
  refine ran_of_kept (src := 191) wf (rwb_applyRegister (.op n)) ?_ (fun o bits low high => ?_) fun _ _ _ => by rw [kept.shadow, shadow]
  · rw [kept.regs _ (by unfold Outside opBase; omega), regs _ (by omega)]
  · rw [kept.regs _ (by unfold Outside opBase at *; omega), regs _ (fun e : o = _ => bits (e ▸ rwb_entryStatus n))]

end

/-- Settles O5: the two apply-register rows, and each unit's boundary through the procedure of R30. -/
theorem applyRegisterAndBoundaries : Obligations.ApplyRegisterAndBoundaries := by
  refine ⟨fun u hold s => ?_, fun u s => ?_, fun n s idle => ?_, fun n s idle => ?_, fun n s idle once free => ?_, fun n s idle live => ?_,
    fun u s idle wf due held => ?_, fun s wf idle due held off low high still run => ?_,
    fun s wf idle due held run still set' nanos free host => ?_, fun u s idle noEntry nothing => applyBoundary_nothing idle noEntry nothing⟩
  · refine ⟨_, rfl, ⟨rfl, fun o other => rd_setB_other _ _ _ (by simpa using other)⟩, rd_setB_same _ _ _ _⟩
  · exact ⟨_, rfl, rfl, fun o other => rd_setB_other _ _ _ other, rd_setB_same _ _ _ _, shadowed_dropShadows _ _ s⟩
  · rw [exec_applyBoundary_of_idle _ idle]
    congr 1
    by_cases boundary : slotState s n.val 0 = 0 ∧ slotState s n.val 1 = 0
    · rw [if_pos boundary]
      exact if_pos (by rw [chanBoundary, boundary.1, boundary.2]; rfl)
    · rw [if_neg boundary]
      exact if_neg (by simpa [chanBoundary] using boundary)
  · rw [exec_applyBoundary_of_idle _ idle]
    congr 1
    by_cases quiet : inBurst s n.val = false
    · rw [if_pos quiet]
      exact txApply_eq quiet
    · rw [if_neg quiet]
      exact if_pos (by simpa using quiet)
  · rw [exec_applyBoundary_of_idle _ idle]
    exact congrArg Host.Outcome.next (lampApply_eq once free)
  · rw [exec_applyBoundary_of_idle _ idle]
    exact congrArg (fun t => Host.Outcome.next (settle t)) (if_pos live)
  · refine ⟨?_, ?_, ?_, ?_, ?_⟩
    · rintro n rfl first second ok
      exact ⟨_, exec_applyBoundary_of_idle _ idle, chanApply_ran wf due held first second ok⟩
    · rintro n rfl quiet ok
      exact ⟨_, exec_applyBoundary_of_idle _ idle, txApply_ran wf due held quiet ok⟩
    · rintro n rfl once free ok
      exact ⟨_, exec_applyBoundary_of_idle _ idle, lampApply_ran wf due held once free ok⟩
    · rintro n rfl ok
      exact ⟨_, exec_applyBoundary_of_idle _ idle, portApply_ran wf due held ok⟩
    · rintro n rfl waits _ ops ok
      exact ⟨_, exec_applyBoundary_of_idle _ idle, opApply_ran wf idle due held waits ops ok⟩
  · have boundary : applyBoundary .rate s = ntbSecond s := if_pos (by rw [due, held]; rfl)
    refine ⟨_, exec_applyBoundary_of_idle _ idle, ?_⟩
    rw [boundary]
    exact ntbSecond_applies wf due held off low high still run
  · have boundary : applyBoundary .step s = stepApply (reachNet ((nowNs s + 1) * nsUnit) s) := if_pos (by rw [due, held]; rfl)
    have reg := reachNet_reg still ((nowNs s + 1) * nsUnit)
    have same : ∀ o, rd (reachNet ((nowNs s + 1) * nsUnit) s) o = rd s o := fun o => by rw [rd, reg, rd]
    have shadow := reachNet_shadow ((nowNs s + 1) * nsUnit) s
    have asked := rdShadow_congr reg shadow
    refine ⟨_, exec_applyBoundary_of_idle _ idle, ?_⟩
    rw [boundary]
    have sets := stepApply_sets (s := reachNet ((nowNs s + 1) * nsUnit) s) (by rw [State.shadowWf, shadow]; exact wf)
      ((getB_eq_of_rd (same _) 8).trans due) ((getB_eq_of_rd (same _) 0).trans held) (by rwa [asked]) (by rwa [asked])
      (by rwa [ntbState, getF_eq_of_rd (same _)]) (by rwa [getB_eq_of_rd (same _)])
    simpa only [asked] using sets

end Sys2Proof.Machine
end

section
/-! SUPPORT. The refutation of O9: an arbiter whose answer to the other radio's request is still outstanding. -/

namespace Sys2Proof.Machine

/-- The coexistence interface is on and this device is its arbiter; the other radio requests, and nothing of this device's own is imminent
or in progress (R111). The request has not been granted yet. -/
def requestUngranted : State := { State.reset with reg := [(0x48000, 3), (0x48008, 1)] }

theorem requestUngranted_quiet : quiet requestUngranted = true := by decide +kernel

theorem requestUngranted_noGrant : getB requestUngranted 0x48008 3 = false := by decide +kernel

/-- Settling grants the request (R111). -/
theorem settle_requestUngranted : getB (settle requestUngranted) 0x48008 3 = true := by decide +kernel

/-- Refutes O9, by its clause that NTB_SET without an applied SET changes nothing in a quiet state: the settling after the command gives the
grant-out that an arbiter owes (R111), and a quiet state excludes the requests of this device for air but not those of the other radio. -/
theorem not_networkTimeReadsAndSteps : ¬ Obligations.NetworkTimeReadsAndSteps := by
  rintro ⟨-, -, -, noApply, -⟩
  have unchanged := (noApply requestUngranted requestUngranted_quiet).1 (by decide)
  have same : settle (ntbSet requestUngranted) = requestUngranted := Host.Outcome.next.inj unchanged
  have idle : ntbSet requestUngranted = requestUngranted := if_pos (by decide)
  have granted := settle_requestUngranted
  rw [idle] at same
  rw [same, requestUngranted_noGrant] at granted
  exact absurd granted (by decide)

end Sys2Proof.Machine
end

section
/-! SUPPORT. The refutation of O10: a holdover whose bound is unknown. -/

namespace Sys2Proof.Machine

/-- HOLDOVER after a lock to MOORING whose accuracy was unknown, so that E0 is unknown (R268); NTB_HOLD_ALARM holds its reset value. -/
def boundUnknown : State := { State.reset with reg := [(0x20024, 2)], ntb := { e0 := 0xFFFFFFFF } }

theorem boundUnknown_holdover : getF boundUnknown 0x20024 1 0 = 2 ∧ rd boundUnknown 0x20030 ≠ 0 := by decide +kernel

/-- An unknown bound never reaches the alarm's limit (R56, R57). -/
theorem holdoverAlarm_boundUnknown : (holdoverAlarm boundUnknown).ntb.alarmed = false := by decide +kernel

/-- Refutes O10, by its clause on HOLDOVER_ALARM: it says that the alarm is raised in every holdover with a limit other than 0, and leaves
out that the bound must be known (R57, R268) for it to reach the limit. -/
theorem not_sourcesAndHoldover : ¬ Obligations.SourcesAndHoldover := by
  rintro ⟨-, -, -, -, -, -, -, -, -, alarm, -⟩
  obtain ⟨holdover, limit⟩ := boundUnknown_holdover
  obtain ⟨t, step, -, raised⟩ := alarm boundUnknown holdover rfl limit
  obtain rfl : holdoverAlarm boundUnknown = t := Host.Outcome.next.inj step
  rw [holdoverAlarm_boundUnknown] at raised
  exact absurd raised (by decide)

end Sys2Proof.Machine
end

section
/-! SUPPORT. The refutation of O56: a channel of the Rhizome is configured in the clock in which an event has reached it. -/

namespace Sys2Proof.Machine

/-- Channel 9 of the Rhizome carries source 5, whose event has reached it in the present clock and is not yet counted (R278, R279). -/
def eventReached : State := { State.reset with reg := [(0x80090, 0x80000005)], evf := { arrivals := [(9, 0)] } }

/-- EVC_SET of channel 9 with all three registers 0, for the attached device. -/
def clearChannel : Req := { win := 2, target := 0x1E, tag := 77, counter := 5, payload := 9 :: List.replicate 15 0 }

theorem clearChannel_forKeeper : forKeeper 0x0901 clearChannel eventReached = true := by decide +kernel

theorem eventReached_fires : rd eventReached 0x8009C = 0 := by decide +kernel

/-- The event acts under the configuration in force as it reached the channel, and FIRES counts it (R279, R289). -/
theorem evcSet_eventReached : rd (evcSet clearChannel eventReached) 0x8009C = 1 := by decide +kernel

/-- Refutes O56, by its clause on EVC_SET of a channel below 96: it says that no register but the three of the configuration changes, but an
event that has reached the channel is counted in EVCn_COUNT before the configuration changes (R279). -/
theorem not_timeAndLinkCommands : ¬ Obligations.TimeAndLinkCommands := by
  rintro ⟨-, -, -, -, -, -, -, -, -, -, -, evc⟩
  obtain ⟨t, step, -, -, -, -, others⟩ := (evc clearChannel eventReached clearChannel_forKeeper rfl (by decide)).2 (by decide)
  obtain rfl : evcSet clearChannel eventReached = t := Host.Outcome.next.inj step
  have same := others 0x8009C (by decide)
  rw [evcSet_eventReached, eventReached_fires] at same
  exact absurd same (by decide)

end Sys2Proof.Machine
end

section
/-! SUPPORT. Captures and the pulses of a Lamp (O11): what a stored time, a read, the edges of a pulse and the passing of time leave. -/

namespace Sys2Proof.Machine

/-! ### Captures (R59, R60) -/

/-- The state after a source, as the state before it with another fabric. -/
theorem raiseSrc_evf (n : Nat) (s : State) : raiseSrc n s = { s with evf := (raiseSrc n s).evf } := by
  unfold raiseSrc
  simp only
  split <;> rfl

theorem raiseSrc_caps (n : Nat) (s : State) : (raiseSrc n s).caps = s.caps := by rw [raiseSrc_evf]

/-- A state with the registers, the captures and the fabric of another. -/
def exceptCaptures (s t : State) : State := { t with reg := s.reg, caps := s.caps, evf := s.evf }

theorem exceptCaptures_wr (off : Nat) (v : Word) (s t : State) : exceptCaptures s (wr off v t) = exceptCaptures s t := rfl

theorem exceptCaptures_raiseSrc (n : Nat) (s t : State) : exceptCaptures s (raiseSrc n t) = exceptCaptures s t := by
  rw [raiseSrc_evf]
  rfl

/-- A unit's status word as a new edge leaves it: OVERRUN over an unread time, VALID, and EDGE_COUNT one on. -/
def edgeStatus (w : Word) : Word :=
  let v := withBit (if bitOf w 0 then withBit w 1 true else w) 0 true
  withField v 31 16 (fieldOf v 31 16 + 1)

theorem edgeStatus_valid (w : Word) : bitOf (edgeStatus w) 0 = true := by
  rw [edgeStatus, bitOf_withField_other _ _ (by omega) (by omega), bitOf_withBit_same _ _ _ (by omega)]

theorem edgeStatus_overrun (w : Word) : bitOf (edgeStatus w) 1 = (bitOf w 1 || bitOf w 0) := by
  rw [edgeStatus, bitOf_withField_other _ _ (by omega) (by omega), bitOf_withBit_other _ _ (by omega) (by omega)]
  cases unread : bitOf w 0 <;> simp

theorem edgeStatus_count (w : Word) : fieldOf (edgeStatus w) 31 16 = (fieldOf w 31 16 + 1) % 65536 := by
  have overrun : fieldOf (if bitOf w 0 then withBit w 1 true else w) 31 16 = fieldOf w 31 16 := by
    split
    · exact fieldOf_withBit_other _ _ (by omega) (by omega)
    · rfl
  rw [edgeStatus, fieldOf_withField _ _ _ _ (by omega), fieldOf_withBit_other _ _ (by omega) (by omega), overrun]
  rfl

section
variable (n t : Nat) (s : State)

theorem capStore_stamp : tabGet (fun _ => (0, 0)) (capStore n t s).caps n = (t, stepByte s) := by
  have stored : (capStore n t s).caps = tabSet (fun _ => (0, 0)) s.caps n (t, stepByte s) := by
    simp only [capStore, onlyIf, raiseSrc_caps, incF_caps, setB_caps, wr_caps]
    split <;> rfl
  rw [stored, tabGet_set_same]

theorem rd_capStore_status : rd (capStore n t s) (capBase n + 0x14) = edgeStatus (rd s (capBase n + 0x14)) := by
  have stamped : ∀ c o, rd { s with caps := c } o = rd s o := fun _ _ => rfl
  unfold capStore edgeStatus onlyIf getB
  cases unread : bitOf (rd s (capBase n + 0x14)) 0 <;> simp [incF, getF, rd_wr_other, stamped, unread]

theorem rd_capStore_seconds : rd (capStore n t s) (capBase n + 4) = BitVec.ofNat 32 (secOf t) := by
  have apart : capBase n + 4 ≠ capBase n + 0x14 := by omega
  simp only [capStore, rd_raiseSrc, incF, rd_setF_other _ _ _ _ apart, rd_setB_other _ _ _ apart, rd_wr_same]

theorem rd_capStore_other {o : Nat} (status : o ≠ capBase n + 0x14) (seconds : o ≠ capBase n + 4) : rd (capStore n t s) o = rd s o := by
  simp only [capStore, rd_raiseSrc, incF, rd_setF_other _ _ _ _ status, rd_setB_other _ _ _ status, rd_wr_other _ _ seconds, onlyIf]
  split
  · exact rd_setB_other _ _ _ status
  · rfl

theorem capStore_only : exceptCaptures s (capStore n t s) = s := by
  simp only [capStore, onlyIf, exceptCaptures_raiseSrc, incF, setF, setB, exceptCaptures_wr, apply_ite (exceptCaptures s), ite_self]
  rfl

end

/-- An edge that the unit does not take changes nothing. -/
theorem captureEdge_untaken {n : Fin 5} {rising : Bool} {s : State}
    (no : ¬ (getB s (capBase n.val) 0 = true ∧ getB s (capBase n.val) 1 = !rising)) : captureEdge n rising s = s :=
  if_neg (by simpa using no)

theorem captureEdge_taken {n : Fin 5} {rising : Bool} {s : State}
    (yes : getB s (capBase n.val) 0 = true ∧ getB s (capBase n.val) 1 = !rising) :
    captureEdge n rising s = capStore n.val (s.ntb.net - Config.syncDelay) s :=
  if_pos (by simpa using yes)

theorem captureRead_leaves (n : Fin 5) (s : State) :
    let t := captureRead n s
    t.lastRead = rd s (capBase n.val + 4) ∧ getB t (capBase n.val + 0x14) 0 = false ∧
      rd t (capBase n.val + 0xC) = stampNs (tabGet (fun _ => (0, 0)) s.caps n.val).1 (tabGet (fun _ => (0, 0)) s.caps n.val).2 ∧
      rd t (capBase n.val + 0x10) = BitVec.ofNat 32 (fracOf (tabGet (fun _ => (0, 0)) s.caps n.val).1) ∧
      (∀ o, o < capBase n.val + 8 ∨ capBase n.val + 0x14 < o → rd t o = rd s o) ∧ { t with reg := s.reg, lastRead := s.lastRead } = s := by
  refine ⟨rfl, ?_, ?_, ?_, fun o out => ?_, rfl⟩
  · rw [captureRead, getB, rd_setB_same, bitOf_withBit_same _ _ _ (by omega)]
  · rw [captureRead, rd_setB_other _ _ _ (by omega), rd_wr_other _ _ (by omega), rd_wr_same]
  · rw [captureRead, rd_setB_other _ _ _ (by omega), rd_wr_same]
  · rw [captureRead, rd_setB_other _ _ _ (by omega), rd_wr_other _ _ (by omega), rd_wr_other _ _ (by omega), rd_wr_other _ _ (by omega)]
    rfl

/-! ### Time (R46) -/

/-- Core clocks leave the Lamps as they are, and so does the way to an instant. -/
theorem clocks_lamps (n : Nat) (s : State) : (clocks n s).lamps = s.lamps := by
  have := congrArg State.lamps (clocks_only n s); exact this

theorem coreRuns_clocks (n : Nat) (s : State) : coreRuns (clocks n s) = coreRuns s :=
  coreRuns_congr (clocks_power n s) (rd_clocks n s (by omega))

theorem reachNet_lamps (instant : Nat) (s : State) : (reachNet instant s).lamps = s.lamps := by
  unfold reachNet
  split
  · exact clocks_lamps _ _
  · exact (clocks_lamps _ _).trans (clocks_lamps _ _)

theorem rd_reachNet (instant : Nat) (s : State) {o : Nat} (h : o ≠ 0x20024) : rd (reachNet instant s) o = rd s o := by
  unfold reachNet
  split
  · exact rd_clocks _ _ h
  · exact (rd_clocks _ _ h).trans (rd_clocks _ _ h)

/-- Until a slew in effect has removed its offset, network time advances evenly. -/
theorem net_clocks_before {s : State} {n : Nat} (run : coreRuns s = true) (before : slewRate s = 0 ∨ n < slewClocks s) :
    (clocks n s).ntb.net = s.ntb.net + n * netInc s := by
  unfold clocks
  split
  · exact net_plainClocks n run
  · rename_i slews
    rw [if_pos (before.resolve_left fun still => slews (.inl still))]
    exact net_plainClocks (s := { s with ntb := { s.ntb with slewLeft := s.ntb.slewLeft - n * 100000 * slewRate s } }) n run

theorem slew_plainClocks (n : Nat) (s : State) : (plainClocks n s).ntb.slew = s.ntb.slew := by
  by_cases none' : n = 0 <;> simp only [plainClocks, none', if_true, if_false] <;> split <;> rfl

/-- The clock in which the offset is removed ends the slew (R46). -/
theorem slew_clocks_slewClocks {s : State} (run : coreRuns s = true) (slews : slewRate s ≠ 0) :
    (clocks (slewClocks s) s).ntb.slew = 0 := by
  have ended : clocks (slewClocks s) s = plainClocks 0 (endSlew (plainClocks (slewClocks s) s)) := by
    rw [clocks, if_neg (by simp [slews, run]), if_neg (Nat.lt_irrefl _), Nat.sub_self]
  rw [ended, slew_plainClocks]
  rfl

theorem le_add_clocksToNet (instant : Nat) (s : State) : instant ≤ s.ntb.net + clocksToNet instant s * netInc s := by
  have pos := netInc_pos s
  have := Nat.lt_div_mul_add (a := instant - s.ntb.net + netInc s - 1) pos
  rw [clocksToNet, ceilDiv]
  omega

/-- With the clock running, network time reaches an instant, through the end of a slew too. -/
theorem le_net_reachNet_of_runs {s : State} (run : coreRuns s = true) (instant : Nat) : instant ≤ (reachNet instant s).ntb.net := by
  have evenly := le_add_clocksToNet instant s
  unfold reachNet
  by_cases before : slewRate s = 0 ∨ clocksToNet instant s < slewClocks s
  · rw [if_pos (before.imp_right .inr), net_clocks_before run before]
    exact evenly
  · obtain ⟨slews, reaches⟩ := not_or.mp before
    have run' := (coreRuns_clocks (slewClocks s) s).trans run
    have still : slewRate (clocks (slewClocks s) s) = 0 := by
      rw [slewRate, rateOf, slew_clocks_slewClocks run slews, Int.add_zero, Int.sub_self]
    rw [if_neg (by simp [slews, run, reaches])]
    simp only
    rw [net_clocks_before run' (.inl still)]
    exact le_add_clocksToNet instant _

/-! ### The edges of a pulse (R63-R65) -/

@[simp] theorem getLamp_setLamp (n : Nat) (v : Lamp) (s : State) : getLamp (setLamp n v s) n = v := tabGet_set_same _ _ _ _

/-- What the Lamp holds once a pulse of its WIDTH begins now (R63, R64). -/
def pulsing (n : Nat) (oneShot : Bool) (s : State) : Lamp :=
  { getLamp s n with pulseEnd := some (s.ntb.clk + clocksOfNs (rd s (lampBase n + 0x14)).toNat), pol := getB s (lampBase n + 4) 1,
                     oneShot := oneShot, cut := false }

/-- What it holds once a start without a width is over, at once. -/
def pulseOver (n : Nat) (s : State) : Lamp := { getLamp s n with pulseEnd := none, cut := false, oneShot := false }

/-- A start's sources leave all but the fabric. -/
theorem lampPulse_sources (n : Nat) (s : State) :
    ∃ e, raiseSrc (16 + n) (if (getLamp s n).pulseEnd.isSome && (getLamp s n).cut then raiseSrc (24 + n) s else s) = { s with evf := e } := by
  split
  · rw [raiseSrc_evf, raiseSrc_evf (24 + n)]
    exact ⟨_, rfl⟩
  · exact ⟨_, raiseSrc_evf _ _⟩

/-- The pulse of a start with a width (R63, R64). -/
theorem lampPulse_wide {n : Nat} (oneShot : Bool) {s : State} (width : rd s (lampBase n + 0x14) ≠ 0) :
    ∃ e, lampPulse n oneShot s = setB (lampBase n + 0x20) 0 true (setLamp n (pulsing n oneShot s) { s with evf := e }) := by
  obtain ⟨e, sources⟩ := lampPulse_sources n s
  refine ⟨e, ?_⟩
  unfold lampPulse
  simp only [sources]
  exact if_neg fun none' => width (BitVec.eq_of_toNat_eq none')

/-- A start without a width: no pulse, and a one-shot is done (R64). -/
theorem lampPulse_zero {n : Nat} (oneShot : Bool) {s : State} (width : rd s (lampBase n + 0x14) = 0) :
    ∃ e, lampPulse n oneShot s = onlyIf oneShot (setB (lampBase n + 0x20) 1 true)
      (setB (lampBase n + 0x20) 0 false (setLamp n (pulseOver n s) { s with evf := e })) := by
  obtain ⟨e, sources⟩ := lampPulse_sources n s
  refine ⟨(raiseSrc (24 + n) (setLamp n (pulseOver n s) { s with evf := e })).evf, ?_⟩
  unfold lampPulse
  simp only [sources]
  exact (if_pos (congrArg BitVec.toNat width)).trans (congrArg (fun u => onlyIf oneShot _ (setB _ 0 false u)) (raiseSrc_evf _ _))

/-- DONE of a one-shot changes that bit of the Lamp's status and nothing else that a pulse shows. -/
theorem onlyIf_done (n : Nat) (oneShot : Bool) (s : State) :
    let t := onlyIf oneShot (setB (lampBase n + 0x20) 1 true) s
    t.ntb = s.ntb ∧ t.lamps = s.lamps ∧ getB t (lampBase n + 0x20) 0 = getB s (lampBase n + 0x20) 0 ∧
      getB t (lampBase n + 0x20) 1 = (getB s (lampBase n + 0x20) 1 || oneShot) ∧ ∀ o, o ≠ lampBase n + 0x20 → rd t o = rd s o := by
  cases oneShot
  · exact ⟨rfl, rfl, rfl, (Bool.or_false _).symm, fun _ _ => rfl⟩
  · refine ⟨rfl, rfl, ?_, ?_, fun o other => rd_setB_other _ _ _ other⟩
    · rw [onlyIf, if_pos rfl, getB, rd_setB_same, bitOf_withBit_other _ _ (by omega) (by omega), getB]
    · rw [onlyIf, if_pos rfl, getB, rd_setB_same, bitOf_withBit_same _ _ _ (by omega), Bool.or_true]

/-! ### LAMP_START (R63, R64) -/

theorem lampBase_ne_ntb (n d : Nat) : lampBase n + d ≠ 0x20024 := by unfold lampBase; omega

section
variable {n : Nat} {s t : State} (same : ∀ d, rd t (lampBase n + d) = rd s (lampBase n + d))
include same

theorem lampPeriod_congr : lampPeriod t n = lampPeriod s n := by rw [lampPeriod, getF, same, same, lampPeriod, getF]

theorem lampPeriodic_congr : lampPeriodic t n = lampPeriodic s n := by
  rw [lampPeriodic, lampOn, getB, same, lampPeriod_congr same, lampPeriodic, lampOn, getB]

end

/-- The Lamp as a scheduled start in core clock `clk` leaves it, before its pulse: a periodic one waits for its next start. -/
def startTaken (n clk : Nat) (s : State) : Lamp :=
  if lampPeriodic s n then { getLamp s n with next := (getLamp s n).next + lampPeriod s n, startClk := clk + 1 }
  else { getLamp s n with armed := false }

/-- The block at a Lamp's scheduled start, before its pulse. -/
def startReached (n : Nat) (s : State) : State :=
  let u := reachNet ((getLamp s n).next * nsUnit) s
  setLamp n (startTaken n u.ntb.clk s) u

theorem rd_startReached (n d : Nat) (s : State) : rd (startReached n s) (lampBase n + d) = rd s (lampBase n + d) :=
  rd_reachNet _ _ (lampBase_ne_ntb n d)

theorem lampStart_armed {n : Fin 8} {s : State} (armed : (getLamp s n.val).armed = true) :
    lampStart n s = lampPulse n.val (!lampPeriodic s n.val) (startReached n.val s) := by
  have base : ∀ d, rd (reachNet ((getLamp s n.val).next * nsUnit) s) (lampBase n.val + d) = rd s (lampBase n.val + d) := fun d =>
    rd_reachNet _ _ (lampBase_ne_ntb n d)
  have lamp : getLamp (reachNet ((getLamp s n.val).next * nsUnit) s) n.val = getLamp s n.val := by rw [getLamp, reachNet_lamps, getLamp]
  rw [lampStart, startReached, startTaken]
  simp only [armed, Bool.not_true, Bool.false_eq_true, if_false, lamp, lampPeriodic_congr base, lampPeriod_congr base]
  cases lampPeriodic s n.val <;> rfl

/-- A periodic Lamp waits for its next start, one PERIOD on; a one-shot is disarmed (R63). -/
theorem startTaken_waits {n : Nat} (clk : Nat) {s : State} (armed : (getLamp s n).armed = true) :
    (lampPeriodic s n = true → (startTaken n clk s).armed = true ∧ (startTaken n clk s).next = (getLamp s n).next + lampPeriod s n) ∧
      (lampPeriodic s n = false → (startTaken n clk s).armed = false) := by
  unfold startTaken
  refine ⟨fun periodic => ?_, fun once => ?_⟩
  · rw [if_pos periodic]
    exact ⟨armed, rfl⟩
  · rw [if_neg (by simp [once])]

theorem le_net_startReached {n : Nat} {s : State} (run : coreRuns s = true) : (getLamp s n).next * nsUnit ≤ (startReached n s).ntb.net :=
  le_net_reachNet_of_runs run _

theorem getLamp_startReached (n : Nat) (s : State) :
    getLamp (startReached n s) n = startTaken n (startReached n s).ntb.clk s := getLamp_setLamp ..

/-- The ball shows the pulse in progress, and the idle level without one (R62). -/
theorem lampLevel_pulsing {n : Nat} {s : State} (pulse : (getLamp s n).pulseEnd.isSome = true) : lampLevel s n = !(getLamp s n).pol :=
  if_pos pulse

theorem lampLevel_idle {n : Nat} {s : State} (none' : (getLamp s n).pulseEnd = none) : lampLevel s n = getB s (lampBase n + 4) 1 :=
  if_neg (by rw [none']; decide)

/-- A start with a WIDTH: the pulse runs for that long. -/
theorem lampStart_wide {n : Fin 8} {s : State} (armed : (getLamp s n.val).armed = true) (width : rd s (lampBase n.val + 0x14) ≠ 0) :
    let t := lampStart n s
    let u := startReached n.val s
    t.ntb = u.ntb ∧ getLamp t n.val = pulsing n.val (!lampPeriodic s n.val) u ∧ getB t (lampBase n.val + 0x20) 0 = true := by
  obtain ⟨e, pulse⟩ := lampPulse_wide (n := n.val) (!lampPeriodic s n.val) (s := startReached n.val s) (by rwa [rd_startReached])
  simp only [lampStart_armed armed, pulse]
  refine ⟨rfl, getLamp_setLamp .., ?_⟩
  rw [getB, rd_setB_same, bitOf_withBit_same _ _ _ (by omega)]

/-- A start without one: no pulse, and a one-shot is done. -/
theorem lampStart_zero {n : Fin 8} {s : State} (armed : (getLamp s n.val).armed = true) (width : rd s (lampBase n.val + 0x14) = 0) :
    let t := lampStart n s
    let u := startReached n.val s
    t.ntb = u.ntb ∧ getLamp t n.val = pulseOver n.val u ∧ getB t (lampBase n.val + 0x20) 0 = false ∧
      (lampPeriodic s n.val = false → getB t (lampBase n.val + 0x20) 1 = true) := by
  obtain ⟨e, pulse⟩ := lampPulse_zero (n := n.val) (!lampPeriodic s n.val) (s := startReached n.val s) (by rwa [rd_startReached])
  simp only [lampStart_armed armed, pulse]
  obtain ⟨ntb, lamps, active, done, -⟩ := onlyIf_done n.val (!lampPeriodic s n.val)
    (setB (lampBase n.val + 0x20) 0 false (setLamp n.val (pulseOver n.val (startReached n.val s)) { startReached n.val s with evf := e }))
  refine ⟨ntb, ?_, ?_, fun once => ?_⟩
  · rw [getLamp, lamps]
    exact getLamp_setLamp ..
  · rw [active, getB, rd_setB_same, bitOf_withBit_same _ _ _ (by omega)]
  · rw [done, once, Bool.not_false, Bool.or_true]

/-- The pulse's level is that of its polarity as it began. -/
theorem lampLevel_lampStart {n : Fin 8} {s : State} (armed : (getLamp s n.val).armed = true) (width : rd s (lampBase n.val + 0x14) ≠ 0) :
    lampLevel (lampStart n s) n.val = !getB s (lampBase n.val + 4) 1 := by
  obtain ⟨-, lamp, -⟩ := lampStart_wide armed width
  rw [lampLevel_pulsing (by rw [lamp]; rfl), lamp]
  exact congrArg (!bitOf · 1) (rd_startReached ..)

/-! ### LAMP_END (R64) -/

/-- The block at the end of a Lamp's pulse in core clock `c`, before DONE of a one-shot. -/
def pulseEnded (n c : Nat) (s : State) : State :=
  setB (lampBase n + 0x20) 0 false (setLamp n (pulseOver n s) (raiseSrc (24 + n) (reachClk c s)))

theorem lampEnd_of_pulse {n : Fin 8} {c : Nat} {s : State} (pulse : (getLamp s n.val).pulseEnd = some c) :
    lampEnd n s = onlyIf (getLamp s n.val).oneShot (setB (lampBase n.val + 0x20) 1 true) (pulseEnded n.val c s) := by
  unfold lampEnd
  simp only [pulse]
  rfl

theorem rd_pulseEnded {n c : Nat} {s : State} {o : Nat} (status : o ≠ lampBase n + 0x20) (ntb : o ≠ 0x20024) :
    rd (pulseEnded n c s) o = rd s o := by
  rw [pulseEnded, rd_setB_other _ _ _ status]
  exact (rd_raiseSrc _ _ _).trans (rd_reachClk _ _ ntb)

theorem rd_pulseEnded_status (n c : Nat) (s : State) :
    rd (pulseEnded n c s) (lampBase n + 0x20) = withBit (rd s (lampBase n + 0x20)) 0 false := by
  rw [pulseEnded, rd_setB_same]
  exact congrArg (withBit · 0 false) ((rd_raiseSrc _ _ _).trans (rd_reachClk _ _ (lampBase_ne_ntb _ _)))

theorem getLamp_pulseEnded (n c : Nat) (s : State) : getLamp (pulseEnded n c s) n = pulseOver n s := getLamp_setLamp ..

/-- What the end of a pulse leaves (R64, R65). -/
theorem lampEnd_leaves {n : Fin 8} {c : Nat} {s : State} (pulse : (getLamp s n.val).pulseEnd = some c) :
    let t := lampEnd n s
    (getLamp t n.val).pulseEnd = none ∧ getB t (lampBase n.val + 0x20) 0 = false ∧
      getB t (lampBase n.val + 0x20) 1 = (getB s (lampBase n.val + 0x20) 1 || (getLamp s n.val).oneShot) ∧
      ∀ o, o ≠ lampBase n.val + 0x20 → o ≠ 0x20024 → rd t o = rd s o := by
  simp only [lampEnd_of_pulse pulse]
  obtain ⟨-, lamps, active, done, rest⟩ := onlyIf_done n.val (getLamp s n.val).oneShot (pulseEnded n.val c s)
  refine ⟨?_, ?_, ?_, fun o status ntb => (rest o status).trans (rd_pulseEnded status ntb)⟩
  · rw [getLamp, lamps]
    exact congrArg Lamp.pulseEnd (getLamp_pulseEnded ..)
  · rw [active, getB, rd_pulseEnded_status, bitOf_withBit_same _ _ _ (by omega)]
  · rw [done, getB, rd_pulseEnded_status, bitOf_withBit_other _ _ (by omega) (by omega), getB]

/-- Settles O11: the captures register by register, and a pulse from its start to its end. -/
theorem capturesAndLamps : Obligations.CapturesAndLamps := by
  refine ⟨fun n rising s => ⟨fun yes => ?_, fun no => congrArg _ (captureEdge_untaken no)⟩, fun n s => ⟨_, rfl, captureRead_leaves n s⟩,
    fun n s armed run => ?_, fun n s idle => ?_, fun n c s pulse => ?_, fun n s none' => ?_⟩
  · refine ⟨_, congrArg Host.Outcome.next (captureEdge_taken yes), capStore_stamp .., rd_capStore_seconds .., ?_, ?_, ?_,
      fun o seconds status => rd_capStore_other _ _ _ status seconds, capStore_only ..⟩
    · rw [getB, rd_capStore_status, edgeStatus_valid]
    · rw [getB, rd_capStore_status, edgeStatus_overrun, getB, getB]
    · rw [getF, rd_capStore_status, edgeStatus_count, getF]
  · refine ⟨_, rfl, ?_⟩
    obtain ⟨again, disarmed⟩ := startTaken_waits (startReached n.val s).ntb.clk armed
    have taken := getLamp_startReached n.val s
    by_cases width : rd s (lampBase n.val + 0x14) = 0
    · obtain ⟨ntb, lamp, active, done⟩ := lampStart_zero armed width
      rw [ntb, lamp, pulseOver, taken]
      exact ⟨le_net_startReached run, again, disarmed, fun wide => absurd width wide, fun _ => ⟨rfl, active, done⟩⟩
    · obtain ⟨ntb, lamp, active⟩ := lampStart_wide armed width
      rw [ntb, lamp, pulsing, taken, rd_startReached]
      exact ⟨le_net_startReached run, again, disarmed, fun _ => ⟨rfl, active, lampLevel_lampStart armed width⟩, fun none' => absurd none' width⟩
  · exact congrArg _ (if_pos (by rw [idle]; rfl))
  · obtain ⟨ended, active, done, rest⟩ := lampEnd_leaves pulse
    refine ⟨_, rfl, ended, active, done, ?_, rest⟩
    rw [lampLevel_idle ended, getB_eq_of_rd (rest _ (by omega) (lampBase_ne_ntb _ _))]
  · refine congrArg _ (?_ : lampEnd n s = s)
    unfold lampEnd
    simp only [none']

end Sys2Proof.Machine
end

section
/-! SUPPORT. The refutation of O13: a band retuned by less than a tuning step of its synthesiser. -/

namespace Sys2Proof.Machine

/-- SYN0 is locked to band 0 at 868 MHz, and RADIO_RETUNE has asked for 1 Hz more: a frequency whose nearest tuning step is the one in use
(R93). -/
def retuneByOneHz : State :=
  { State.reset with
    reg := [(0x38004, 868000000), (0x40004, 12), (0x40008, 868000000)]
    syns := [(0, { target := 868000000 })]
    pathS := { retune := [(0, some 868000001)] } }

theorem retuneByOneHz_locked : lockedTo retuneByOneHz 0 868000001 = true := by decide +kernel

theorem retuneByOneHz_freq : (rd retuneByOneHz (synBase 0 + 8)).toNat = 868000000 := by decide +kernel

/-- The synthesiser stays locked: there is nowhere to move (R93, R98). -/
theorem bandRetune_retuneByOneHz : synState (bandRetune 0 retuneByOneHz) 0 = 4 := by decide +kernel

/-- Refutes O13, by its clause on BAND_RETUNE: where the synthesiser is locked already it wants SYNn_FREQ equal to the new frequency, but
SYNn_FREQ shows the tuning step in use (R93, R95), which several frequencies share. -/
theorem not_pathSubstitutionAndBands : ¬ Obligations.PathSubstitutionAndBands := by
  rintro ⟨-, -, -, -, -, retune, -⟩
  obtain ⟨t, step, -, -, state⟩ := retune 0 868000001 retuneByOneHz rfl (by decide)
  obtain rfl : bandRetune 0 retuneByOneHz = t := Host.Outcome.next.inj step
  rw [show synState (bandRetune 0 retuneByOneHz) (0 : Fin 2).val = 4 from bandRetune_retuneByOneHz,
    show (rd retuneByOneHz (synBase (0 : Fin 2).val + 8)).toNat = 868000000 from retuneByOneHz_freq] at state
  exact absurd state (by decide)

end Sys2Proof.Machine
end

section
/-! SUPPORT. The refutation of O55: a command waits under the very entry that UNIT_SERVICE enters. -/

namespace Sys2Proof.Machine

/-- UNIT_SERVICE: core 2 of the cipher engine leaves service, for the attached device. -/
def coreLeaves : Req := { win := 2, target := 0x1E, tag := 77, counter := 5, payload := [1, 2, 1, 0] }

/-- Two commands wait (R334): one under tag 77 that holds bank 0 (object 0), and a PATH_TEST of path A. -/
def tagWaits : State :=
  { State.reset with
    keeper := { State.reset.keeper with
      pend := [{ tag := 77, opcode := 0x8F05, target := 0x1E, origin := 16, obj := 0, info := [] },
        { tag := 9, opcode := 0x0F02, target := 0x1E, origin := 16, obj := 0, info := [1] }] } }

theorem coreLeaves_forKeeper : forKeeper 0x8F05 coreLeaves tagWaits = true := by decide +kernel

theorem tagWaits_cores : unitHeld tagWaits 2 2 = false ∧ coreIn tagWaits 2 = true ∧
    (List.range 8).any (fun x => x != 2 && coreIn tagWaits x) = true := by decide +kernel

/-- The command that waited first is the one that ends. -/
theorem unitService_tagWaits :
    ((unitService coreLeaves tagWaits).keeper.pend).map Pend.opcode = [0x0F02, 0x8F05] := by decide +kernel

/-- Refutes O55, by its clause on a cipher core that leaves service: it says that the commands that wait are as before, in every state. The
command enters itself, with object 0, and the first entry equal to its own leaves the list (R334); where another command waits under an equal
entry, that one leaves and the order changes. UNIT_SERVICE leaves no such entry behind itself, but the statement does not exclude one. -/
theorem not_testAndServiceCommands : ¬ Obligations.TestAndServiceCommands := by
  rintro ⟨-, -, -, -, service, -⟩
  obtain ⟨unheld, inService, others⟩ := tagWaits_cores
  obtain ⟨t, step, -, -, pend⟩ := (service coreLeaves tagWaits coreLeaves_forKeeper rfl (by decide) (by decide)).2.2
    (by decide) (by decide) (by decide) unheld inService others
  obtain rfl : unitService coreLeaves tagWaits = t := Host.Outcome.next.inj step
  have order := unitService_tagWaits
  rw [pend] at order
  exact absurd order (by decide)

end Sys2Proof.Machine
end

section
/-! SUPPORT. What the operations of the receive front end leave of its registers, of the time and of the commands that wait (R74-R91). -/

namespace Sys2Proof.Machine

/-- Whether an offset lies in the pages of the receive front end (R91, R92). -/
def FrontPage (o : Nat) : Prop := o / 0x10000 = 3

/-- `t` is as `s` in the commands that wait, in the time, in the gain steps of the paths and, of the front end's registers, in every bit
that `may` does not name. -/
structure FrontKept (may : Nat → Nat → Prop) (s t : State) : Prop where
  pend : t.keeper.pend = s.keeper.pend
  ntb : t.ntb = s.ntb
  steps : ∀ p, (getPath t p).lastStep = (getPath s p).lastStep
  bits : ∀ o i, FrontPage o → i < 32 → ¬ may o i → getB t o i = getB s o i

/-- The bits of a path's STATE. -/
def StateOf (p o i : Nat) : Prop := o = rxBase p + 4 ∧ i < 3

theorem frontPage_path {p d : Nat} (hp : p < 5) (hd : d < 0x1000) : FrontPage (rxBase p + d) := by
  unfold FrontPage rxBase
  omega

theorem getPath_setPath (p q : Nat) (v : RxPath) (s : State) : getPath (setPath p v s) q = if q = p then v else getPath s q := by
  unfold getPath setPath
  by_cases same : q = p
  · rw [if_pos same, same, tabGet_set_same]
  · rw [if_neg same, tabGet_set_other _ _ _ same]

theorem raiseEvt_paths (source code : Nat) (args : List Byte) (s : State) : (raiseEvt source code args s).paths = s.paths := by
  obtain ⟨l, k, r, h⟩ := raiseEvt_eq source code args s
  rw [h]

namespace FrontKept

theorem refl (may : Nat → Nat → Prop) (s : State) : FrontKept may s s := ⟨rfl, rfl, fun _ => rfl, fun _ _ _ _ _ => rfl⟩

section
variable {may : Nat → Nat → Prop} {s t : State} (h : FrontKept may s t)
include h

theorem rd_eq {o : Nat} (page : FrontPage o) (none' : ∀ i, ¬ may o i) : rd t o = rd s o :=
  BitVec.eq_of_getLsbD_eq fun i hi => h.bits o i page hi (none' i)

/-- A register of another unit, or one that `may` names. -/
theorem wr {off : Nat} {v : Word} (ok : FrontPage off → ∀ i, may off i) : FrontKept may s (wr off v t) := by
  refine ⟨h.pend, h.ntb, h.steps, fun o i page hi no => ?_⟩
  have other : o ≠ off := fun same => no (same ▸ ok (same ▸ page) i)
  rw [getB_eq_of_rd (rd_wr_other _ _ other), h.bits o i page hi no]

theorem setF {off hi lo v : Nat} (ok : ∀ i, lo ≤ i → i ≤ hi → may off i) : FrontKept may s (setF off hi lo v t) := by
  refine ⟨h.pend, h.ntb, h.steps, fun o i page small no => ?_⟩
  rw [← h.bits o i page small no]
  by_cases same : o = off
  · subst same
    rw [getB, rd_setF_same, bitOf_withField _ _ _ _ _ small, if_neg (fun inside => no (ok i inside.1 (by omega))), getB]
  · exact getB_eq_of_rd (rd_setF_other _ _ _ _ same) i

theorem setB {off i : Nat} {b : Bool} (ok : FrontPage off → may off i) : FrontKept may s (setB off i b t) := by
  refine ⟨h.pend, h.ntb, h.steps, fun o j page small no => ?_⟩
  rw [← h.bits o j page small no]
  by_cases same : o = off
  · subst same
    exact getB_setB_apart _ _ _ small fun bit => no (bit ▸ ok page)
  · exact getB_eq_of_rd (rd_setB_other _ _ _ same) j

theorem setPath {p : Nat} {v : RxPath} (same : v.lastStep = (getPath t p).lastStep) : FrontKept may s (setPath p v t) := by
  refine ⟨h.pend, h.ntb, fun q => ?_, h.bits⟩
  rw [getPath_setPath, ← h.steps q]
  split
  · rename_i here
    rw [here, same]
  · rfl

theorem pathS {x : PathS} : FrontKept may s { t with pathS := x } := ⟨h.pend, h.ntb, h.steps, h.bits⟩

theorem raiseEvt {source code : Nat} {args : List Byte} : FrontKept may s (raiseEvt source code args t) := by
  refine ⟨(raiseEvt_pend ..).trans h.pend, (raiseEvt_ntb ..).trans h.ntb, fun p => ?_, fun o i page hi no => ?_⟩
  · rw [← h.steps p, getPath, raiseEvt_paths, getPath]
  · unfold FrontPage at page
    rw [getB_eq_of_rd (rd_raiseEvt _ _ _ _ (by omega) (by omega)), h.bits o i page hi no]

omit h in
theorem ite {c : Prop} [Decidable c] {a b : State} (ha : FrontKept may s a) (hb : FrontKept may s b) :
    FrontKept may s (if c then a else b) := by
  split
  · exact ha
  · exact hb

theorem forAll {α : Type} {xs : List α} {f : α → State → State} (hf : ∀ x t, FrontKept may s t → FrontKept may s (f x t)) :
    FrontKept may s (forAll xs f t) := by
  induction xs generalizing t with
  | nil => exact h
  | cons x xs ih => exact ih (hf x t h)

/-! ### Receptions, bands and tones (R84, R85, R491) -/

theorem flagSlot {ch k bit : Nat} : FrontKept may s (flagSlot ch k bit t) := ⟨h.pend, h.ntb, h.steps, h.bits⟩

theorem flagWhere {live : State → Nat → Nat → Bool} {p bit : Nat} : FrontKept may s (flagWhere live p bit t) :=
  h.forAll fun _ _ h => ite (h.forAll fun _ _ h => ite h.flagSlot h) h

theorem flagPath {p bit : Nat} : FrontKept may s (flagPath p bit t) := h.flagWhere
theorem flagMoved {p : Nat} : FrontKept may s (flagMoved p t) := ite h.flagWhere h

theorem bandSync : FrontKept may s (bandSync t) :=
  h.forAll fun _ _ h => h.setB fun page => absurd page (by unfold FrontPage chBase; omega)

theorem bandJudge {b : Nat} : FrontKept may s (bandJudge b t) := ite (ite h.pathS.bandSync h.pathS.bandSync.raiseEvt) h

theorem toneStop {p : Nat} : FrontKept may s (toneStop p t) := by
  have silent : FrontKept may s { t with keeper := { t.keeper with toneEnd := none } } := ⟨h.pend, h.ntb, h.steps, h.bits⟩
  have outside : ¬ FrontPage 0xE0008 ∧ ¬ FrontPage 0xE000C := by
    unfold FrontPage
    decide
  exact ite ((silent.wr fun page => absurd page outside.1).wr fun page => absurd page outside.2) h

/-! ### The state of a path (R80, R82) -/

section
variable {p : Nat} (state : ∀ i, i < 3 → may (rxBase p + 4) i)
include state

theorem setPathState {v : Nat} : FrontKept may s (setPathState p v t) := by
  have written : FrontKept may s (Machine.setF (rxBase p + 4) 2 0 v (if v = 2 then Machine.toneStop p t else t)) :=
    (ite h.toneStop h).setF fun i _ hi => state i (by omega)
  exact ite (ite written written.bandJudge) (ite (ite written.bandJudge written) written)

theorem pathOut {cause : Nat} : FrontKept may s (pathOut cause p t) := by
  have noted := h.setPath (p := p)
    (v := { getPath t p with outCause := some (min cause ((getPath t p).outCause.getD cause)) }) rfl
  exact ite h (ite noted (noted.flagPath.setPathState state))

theorem pathIn : FrontKept may s (pathIn p t) := by
  have noted := h.setPath (p := p) (v := { getPath t p with outCause := none }) rfl
  exact noted.flagPath.setPathState state

end

/-! ### Causes of path S (R80, R81) -/

section
variable (states : ∀ p i, i < 3 → may (rxBase p + 4) i) (status : ∀ i, may 0x34004 i) (ddc : ∀ i, may 0x34010 i)
include states

theorem causeUnserved {cause p : Nat} : FrontKept may s (causeUnserved cause p t) := ite (h.pathOut (states p)) (ite h.pathS h)

include status ddc

omit states in
theorem sTake {cause p : Nat} : FrontKept may s (sTake cause p t) := by
  have noted : FrontKept may s (Machine.setF 0x34004 9 8 cause
      { t with pathS := { t.pathS with since := t.ntb.clk, aligned := false, testEnded := false } }) :=
    h.pathS.setF fun i _ _ => status i
  exact ite ((noted.setF fun i _ _ => status i).setF fun i _ _ => status i)
    (((noted.wr fun _ => ddc).setF fun i _ _ => status i).setF fun i _ _ => status i)

theorem sPreempted : FrontKept may s (sPreempted t) :=
  ite ((h.pathS.wr fun _ => ddc).setB fun _ => status 16) (ite (ite (h.pathIn (states _)) h) (h.pathOut (states _)))

theorem presentCause {cause p : Nat} : FrontKept may s (presentCause cause p t) :=
  ite (h.causeUnserved states) (ite (h.sTake status ddc) (ite ((h.sPreempted states status ddc).sTake status ddc)
    ((h.setB fun _ => status 17).causeUnserved states)))

end

/-! ### Saturation (R78) -/

theorem judgeSat {p clips : Nat} (status : ∀ i, may (rxBase p + 4) i) (longest : ∀ i, may (rxBase p + 0x28) i) :
    FrontKept may s (judgeSat p clips t) := by
  have ended := (h.setB (b := false) fun _ => status 4).setPath (p := p)
    (v := { getPath t p with satSince := none, unsatSince := some t.ntb.clk }) rfl
  exact ite (((h.wr fun _ => longest).setB fun _ => status 4).setPath rfl) (ite (ite (ended.pathIn fun i _ => status i) ended) h)

end
end FrontKept

end Sys2Proof.Machine
end

section
/-! SUPPORT. The headroom AGC (R70, R74-R79): a window's end, the ladder without an external LNA, and a gain step. -/

namespace Sys2Proof.Machine

theorem fieldOf_lt (w : Word) (hi lo : Nat) : fieldOf w hi lo < 2 ^ (hi + 1 - lo) := Nat.mod_lt _ (Nat.two_pow_pos _)

/-! ### The ladder (R70, R75) -/

/-- The limits of a path's gain index, held to 84 (R70, R79). -/
def idxLow (s : State) (p : Nat) : Nat := min 84 (getF s (rxBase p + 0x10) 6 0)
def idxHigh (s : State) (p : Nat) : Nat := max (idxLow s p) (min 84 (getF s (rxBase p + 0x10) 14 8))

/-- Where a reduction or a rise takes the index without an external LNA (R75). -/
def ladderEnd (s : State) (p idx : Nat) (delta : Int) : Nat :=
  (if delta < 0 then max (idxLow s p : Int) (idx + delta) else min (idxHigh s p : Int) (idx + delta)).toNat

theorem ladder_plain {s : State} {p : Nat} (noLna : getB s (rxBase p) 1 = false) (hp : p < 4) (idx : Nat) (byp : Bool) (delta : Int) :
    ladder s p idx byp delta = (ladderEnd s p idx delta, byp) := by
  unfold ladder ladderEnd
  simp only [noLna, Bool.and_false, Bool.false_eq_true, false_and, and_false, if_false, if_neg (show p ≠ 4 by omega)]
  by_cases down : delta < 0 <;> simp only [down, if_true, if_false] <;> rfl

theorem ladderEnd_small {s : State} {p idx : Nat} (small : idx < 128) (delta : Int) : ladderEnd s p idx delta < 128 := by
  have low : idxLow s p ≤ 84 := Nat.min_le_left ..
  have high : idxHigh s p ≤ 84 := max_le low (Nat.min_le_left ..)
  unfold ladderEnd
  split <;> omega

/-! ### A gain step (R74, R76) -/

/-- A change of the gain where the ladder leads to another step. -/
def gainMoved (p : Nat) (delta : Int) (s : State) : State :=
  let idx := getF s (rxBase p + 8) 6 0
  let byp := getB s (rxBase p + 8) 8
  let r := ladder s p idx byp delta
  if r = (idx, byp) then s else gainStep p r.1 r.2 s

/-- The gain register and the count of gain steps after a step. -/
theorem gainStep_leaves {p : Nat} (hp : p < 4) (idx : Nat) (byp : Bool) (s : State) :
    rd (gainStep p idx byp s) (rxBase p + 8) = BitVec.ofNat 32 (idx + if byp then 256 else 0) ∧
      rd (gainStep p idx byp s) (rxBase p + 0x20) = rd s (rxBase p + 0x20) + 1 := by
  have flagged : ∀ t, FrontKept (fun _ _ => False) t (onlyIf (pathState t p == 2) (flagMoved p) t) := fun t =>
    .ite (FrontKept.refl _ t).flagMoved (.refl _ t)
  have gain : FrontPage (rxBase p + 8) := frontPage_path (by omega) (by omega)
  have steps : FrontPage (rxBase p + 0x20) := frontPage_path (by omega) (by omega)
  unfold gainStep analogStep
  rw [if_neg (by omega)]
  simp only
  rw [(flagged _).rd_eq gain fun _ => id, (flagged _).rd_eq steps fun _ => id, rd_raiseSrc, rd_raiseSrc,
    rd_setB_other _ _ _ (by omega), rd_setB_other _ _ _ (by omega), incW, rd_wr_other _ _ (by omega), rd_wr_same]
  have lastStep : ∀ v t o, rd (setPath p v t) o = rd t o := fun _ _ _ => rfl
  rw [lastStep, lastStep, rd_wr_same, rd_wr_other _ _ (by omega)]
  exact ⟨rfl, rfl⟩

theorem idxWord_small {n : Nat} (small : n < 128) : fieldOf (BitVec.ofNat 32 n) 6 0 = n ∧ bitOf (BitVec.ofNat 32 n) 8 = false := by
  constructor
  · simp only [fieldOf, BitVec.toNat_ofNat]
    omega
  · rw [bitOf, BitVec.getLsbD_ofNat, Nat.testBit_lt_two_pow (by omega), Bool.and_false]

/-- What a change of the gain leaves with no external LNA on the path. -/
theorem gainMoved_leaves {p : Nat} (hp : p < 4) {s : State} (noLna : getB s (rxBase p) 1 = false) (inUse : getB s (rxBase p + 8) 8 = false)
    (delta : Int) :
    let t := gainMoved p delta s
    getF t (rxBase p + 8) 6 0 = ladderEnd s p (getF s (rxBase p + 8) 6 0) delta ∧
      (getF t (rxBase p + 8) 6 0 ≠ getF s (rxBase p + 8) 6 0 → rd t (rxBase p + 0x20) = rd s (rxBase p + 0x20) + 1) ∧
      getB t (rxBase p + 8) 8 = false := by
  unfold gainMoved
  simp only [ladder_plain noLna hp, inUse, Prod.mk.injEq, and_true]
  split
  · rename_i still
    exact ⟨still.symm, fun moved => absurd rfl moved, inUse⟩
  · obtain ⟨gain, steps⟩ := gainStep_leaves hp (ladderEnd s p (getF s (rxBase p + 8) 6 0) delta) false s
    obtain ⟨field, bit⟩ := idxWord_small (ladderEnd_small (s := s) (p := p) (fieldOf_lt (rd s (rxBase p + 8)) 6 0) delta)
    refine ⟨?_, fun _ => steps, ?_⟩
    · rw [getF, gain]
      exact field
    · rw [getB, gain]
      exact bit

/-! ### A window's end (R75, R78) -/

/-- The path once the clips and the saturation of the window are judged. -/
def windowJudged (p clips : Nat) (s : State) : State :=
  judgeSat p clips
    (if 0 < clips then wr (rxBase p + 0x24) (BitVec.ofNat 32 (min ((rd s (rxBase p + 0x24)).toNat + 1) 0xFFFFFFFF)) s else s)

theorem windowJudged_kept (p clips : Nat) (s : State) :
    FrontKept (fun o _ => o = rxBase p + 4 ∨ o = rxBase p + 0x24 ∨ o = rxBase p + 0x28) s (windowJudged p clips s) :=
  .judgeSat (.ite ((FrontKept.refl _ s).wr fun _ _ => .inr (.inl rfl)) (.refl _ s)) (fun _ => .inl rfl) fun _ => .inr (.inr rfl)

theorem rd_windowJudged {p : Nat} (hp : p < 4) (clips : Nat) (s : State) {d : Nat} (near : d < 0x1000) (apart : d ≠ 4 ∧ d ≠ 0x24 ∧ d ≠ 0x28) :
    rd (windowJudged p clips s) (rxBase p + d) = rd s (rxBase p + d) :=
  (windowJudged_kept p clips s).rd_eq (frontPage_path (by omega) near) fun _ => by omega

/-- The reduction that a peak asks for, limited by DOWN_STEP (R75). -/
def reduction (cfg : Word) (peak : Int) : Int :=
  let need := (peak + 100 * (fieldOf cfg 7 0 : Int) + 300 + 99) / 100
  if fieldOf cfg 23 20 = 0 then need else min need (fieldOf cfg 23 20 : Int)

theorem reduction_pos {cfg : Word} {peak : Int} (loud : -(100 * (fieldOf cfg 7 0 : Int)) < peak) : 0 < reduction cfg peak := by
  unfold reduction
  dsimp only
  split <;> omega

/-- AGC_WINDOW_END on an enabled path of A to D without gain hold: the window is judged and the gain moved by what its peak asks for. -/
theorem agcWindowEnd_eq {p : Fin 4} {peak : Int} {clips : Nat} {s : State} (on : getB s (rxBase p.val) 0 = true)
    (free : getB s (rxBase p.val) 4 = false) : agcWindowEnd (Fin.castLE (by decide) p) peak clips s =
      let cfg := rd s (rxBase p.val + 0xC)
      let u := windowJudged p.val clips s
      if -(100 * (fieldOf cfg 7 0 : Int)) < peak then gainMoved p.val (-reduction cfg peak) u
      else if peak < -(100 * (fieldOf cfg 15 8 : Int)) ∧ fieldOf cfg 31 24 * 65536 ≤ s.ntb.clk - (getPath s p.val).lastStep then
        gainMoved p.val (fieldOf cfg 19 16) u
      else u := by
  have own : p.val ≠ 4 := by omega
  have kept := windowJudged_kept p.val clips s
  have cfg := rd_windowJudged p.isLt clips s (d := 0xC) (by omega) (by omega)
  have unheld : getB (windowJudged p.val clips s) (rxBase p.val) 4 = false :=
    (getB_eq_of_rd (rd_windowJudged p.isLt clips s (d := 0) (by omega) (by omega)) 4).trans free
  have path : (p.val != 4) = true := bne_iff_ne.mpr own
  unfold agcWindowEnd
  simp only [Fin.val_castLE, on, path, own, Bool.not_true, Bool.true_and, decide_eq_true_eq, if_false, Bool.false_eq_true]
  rw [← windowJudged, unheld, cfg, kept.ntb, kept.steps]
  rfl

/-- The limits of the ladder are those the window found. -/
theorem ladderEnd_windowJudged {p : Nat} (hp : p < 4) (clips : Nat) (s : State) (idx : Nat) (delta : Int) :
    ladderEnd (windowJudged p clips s) p idx delta = ladderEnd s p idx delta := by
  have limits := rd_windowJudged hp clips s (d := 0x10) (by omega) (by omega)
  rw [ladderEnd, idxHigh, idxLow, getF_eq_of_rd limits, getF_eq_of_rd limits, ← idxLow, ← idxHigh, ← ladderEnd]

/-- A change of the gain after the window is judged, as seen from before the window. -/
theorem gainMoved_windowJudged {p : Nat} (hp : p < 4) (clips : Nat) {s : State} (noLna : getB s (rxBase p) 1 = false)
    (inUse : getB s (rxBase p + 8) 8 = false) (delta : Int) :
    let t := gainMoved p delta (windowJudged p clips s)
    getF t (rxBase p + 8) 6 0 = ladderEnd s p (getF s (rxBase p + 8) 6 0) delta ∧
      (getF t (rxBase p + 8) 6 0 ≠ getF s (rxBase p + 8) 6 0 → rd t (rxBase p + 0x20) = rd s (rxBase p + 0x20) + 1) ∧
      getB t (rxBase p + 8) 8 = false := by
  have cfg := rd_windowJudged hp clips s (d := 0) (by omega) (by omega)
  have gain := rd_windowJudged hp clips s (d := 8) (by omega) (by omega)
  have steps := rd_windowJudged hp clips s (d := 0x20) (by omega) (by omega)
  have moved := gainMoved_leaves hp ((getB_eq_of_rd cfg 1).trans noLna) ((getB_eq_of_rd gain 8).trans inUse) delta
  rwa [getF_eq_of_rd gain, steps, ladderEnd_windowJudged hp] at moved

/-- A window that peaks above -HI_THR takes the index down by the reduction, as far as the lower limit (R75). -/
theorem agcWindowEnd_loud {p : Fin 4} {peak : Int} (clips : Nat) {s : State} (on : getB s (rxBase p.val) 0 = true)
    (noLna : getB s (rxBase p.val) 1 = false) (free : getB s (rxBase p.val) 4 = false) (inUse : getB s (rxBase p.val + 8) 8 = false)
    (loud : -(100 * (fieldOf (rd s (rxBase p.val + 0xC)) 7 0 : Int)) < peak) :
    let t := agcWindowEnd (Fin.castLE (by decide) p) peak clips s
    (getF t (rxBase p.val + 8) 6 0 : Int) =
        max (idxLow s p.val : Int) (getF s (rxBase p.val + 8) 6 0 - reduction (rd s (rxBase p.val + 0xC)) peak) ∧
      (getF t (rxBase p.val + 8) 6 0 ≠ getF s (rxBase p.val + 8) 6 0 → rd t (rxBase p.val + 0x20) = rd s (rxBase p.val + 0x20) + 1) ∧
      getB t (rxBase p.val + 8) 8 = false := by
  obtain ⟨gain, steps, bypass⟩ := gainMoved_windowJudged p.isLt clips noLna inUse (-reduction (rd s (rxBase p.val + 0xC)) peak)
  have down := reduction_pos loud
  simp only [agcWindowEnd_eq on free, if_pos loud]
  refine ⟨?_, steps, bypass⟩
  rw [gain, ladderEnd, if_pos (by omega), Int.toNat_of_nonneg (by omega), Int.sub_eq_add_neg]

/-- A window that peaks below -LO_THR once UP_HOLD is over takes the index up by UP_STEP, as far as the upper limit (R75). -/
theorem agcWindowEnd_soft {p : Fin 4} {peak : Int} (clips : Nat) {s : State} (on : getB s (rxBase p.val) 0 = true)
    (noLna : getB s (rxBase p.val) 1 = false) (free : getB s (rxBase p.val) 4 = false) (inUse : getB s (rxBase p.val + 8) 8 = false)
    (calm : peak ≤ -(100 * (fieldOf (rd s (rxBase p.val + 0xC)) 7 0 : Int)))
    (soft : peak < -(100 * (fieldOf (rd s (rxBase p.val + 0xC)) 15 8 : Int)))
    (held : fieldOf (rd s (rxBase p.val + 0xC)) 31 24 * 65536 ≤ s.ntb.clk - (getPath s p.val).lastStep) :
    getF (agcWindowEnd (Fin.castLE (by decide) p) peak clips s) (rxBase p.val + 8) 6 0 =
      min (idxHigh s p.val) (getF s (rxBase p.val + 8) 6 0 + fieldOf (rd s (rxBase p.val + 0xC)) 19 16) := by
  obtain ⟨gain, -, -⟩ := gainMoved_windowJudged p.isLt clips noLna inUse (fieldOf (rd s (rxBase p.val + 0xC)) 19 16)
  simp only [agcWindowEnd_eq on free, if_neg (not_lt.mpr calm), if_pos (And.intro soft held)]
  rw [gain, ladderEnd, if_neg (by omega)]
  omega

end Sys2Proof.Machine
end

section
/-! SUPPORT. Long saturation, health checks and calibration of a path (R74, R78, R80, R86, R87), and the whole statement (O12). -/

namespace Sys2Proof.Machine

/-! ### With no command waiting (R334) -/

theorem finishPend_idle {s : State} (idle : s.keeper.pend = []) (test : Pend → Bool) (status : Nat) (b : List Byte) :
    finishPend test status b s = s := by
  unfold finishPend
  rw [idle]
  rfl

theorem testSettle_idle {s : State} (idle : s.keeper.pend = []) : testSettle s = s := by
  unfold testSettle
  rw [idle]
  rfl

/-! ### Re-convergence (R74) -/

theorem dcReconverged_leaves (p : Fin 4) (r : Byte) {s : State} (running : getB s (rxBase p.val + 0x14) 8 = true) :
    let t := dcReconverged p r s
    onlyRegs [rxBase p.val + 0x14] s t ∧ getB t (rxBase p.val + 0x14) 8 = false ∧ getF t (rxBase p.val + 0x14) 7 0 = r.toNat ∧
      getF t (rxBase p.val + 0x14) 31 16 = (getF s (rxBase p.val + 0x14) 31 16 + 1) % 65536 := by
  unfold dcReconverged incF
  simp only [running, if_true]
  refine ⟨⟨rfl, fun o out => ?_⟩, ?_, ?_, ?_⟩
  · have other : o ≠ rxBase p.val + 0x14 := fun same => out (same ▸ List.mem_singleton_self _)
    rw [rd_setF_other _ _ _ _ other, rd_setB_other _ _ _ other, rd_setF_other _ _ _ _ other]
  · rw [getB_setF_apart _ _ _ (by omega) (by omega), getB_setB_same _ _ _ _ (by omega)]
  · rw [getF_setF_apart _ _ _ (by omega) (by omega), getF_setB_apart _ _ _ (by omega) (by omega), getF_setF_same _ _ _ _ _ (by omega)]
    exact Nat.mod_eq_of_lt r.isLt
  · rw [getF_setF_same _ _ _ _ _ (by omega), getF_setB_apart _ _ _ (by omega) (by omega), getF_setF_apart _ _ _ (by omega) (by omega)]
    rfl

/-! ### Long saturation (R78, R80, R81) -/

/-- The machine once a saturation since clock `c` is reported as long, before its cause is presented. -/
def satReported (p c : Nat) (s : State) : State :=
  raiseEvt 3 0x110 (leBytes 1 p) (setB (rxBase p + 4) 9 true (reachClk (c + getF s 0x34018 15 0 * clkMs) s))

theorem rd_satReported {p c o : Nat} {s : State} (page : FrontPage o) (other : o ≠ rxBase p + 4) : rd (satReported p c s) o = rd s o := by
  unfold FrontPage at page
  rw [satReported, rd_raiseEvt _ _ _ _ (by omega) (by omega), rd_setB_other _ _ _ other, rd_reachClk _ _ (by omega)]

theorem satReported_long {p : Nat} (hp : p < 4) (c : Nat) (s : State) : getB (satReported p c s) (rxBase p + 4) 9 = true := by
  have page := frontPage_path (p := p) (d := 4) (by omega) (by omega)
  unfold FrontPage at page
  rw [satReported, getB_eq_of_rd (rd_raiseEvt _ _ _ _ (by omega) (by omega)), getB_setB_same _ _ _ _ (by omega)]

theorem satReported_pend (p c : Nat) (s : State) : (satReported p c s).keeper.pend = s.keeper.pend := by
  have kept := congrArg State.keeper (clocks_only (c + getF s 0x34018 15 0 * clkMs - s.ntb.clk) s)
  rw [satReported, raiseEvt_pend, setB_keeper, reachClk]
  exact congrArg Keeper.pend kept

theorem satLong_eq {p : Fin 4} {c : Nat} {s : State} (since : (getPath s p.val).satSince = some c) :
    satLong p s = if getF s 0x34018 15 0 = 0 then satReported p.val c s else presentCause 1 p.val (satReported p.val c s) := by
  have limit : rd (satReported p.val c s) 0x34018 = rd s 0x34018 := rd_satReported (by unfold FrontPage; decide) (by unfold rxBase; omega)
  have presented : satLong p s = if getF (satReported p.val c s) 0x34018 15 0 = 0 then satReported p.val c s
      else presentCause 1 p.val (satReported p.val c s) := by
    unfold satLong
    simp only [since]
    rfl
  rw [presented, getF_eq_of_rd limit]

/-- Path S takes a cause of a path: what it serves, for which cause, and that it aligns. -/
theorem sTake_leaves {cause p : Nat} (hc : cause < 3) (hp : p < 8) (s : State) :
    let t := sTake cause p s
    getF t 0x34004 2 0 = 1 ∧ getF t 0x34004 6 4 = p ∧ getF t 0x34004 9 8 = cause := by
  unfold sTake setServes setRole
  rw [if_neg (by omega)]
  refine ⟨?_, ?_, ?_⟩
  · rw [getF_setF_apart _ _ _ (by omega) (by omega), getF_setF_same _ _ _ _ _ (by omega)]
    rfl
  · rw [getF_setF_same _ _ _ _ _ (by omega)]
    exact Nat.mod_eq_of_lt hp
  · rw [getF_setF_apart _ _ _ (by omega) (by omega), getF_setF_apart _ _ _ (by omega) (by omega),
      getF_eq_of_rd (rd_wr_other _ _ (by omega)), getF_setF_same _ _ _ _ _ (by omega)]
    exact Nat.mod_eq_of_lt (by omega)

theorem presentCause_disabled {cause p : Nat} {s : State} (off : getB s 0x34000 0 = false) :
    presentCause cause p s = causeUnserved cause p s := if_pos (by simp [off])

theorem presentCause_free {cause p : Nat} {s : State} (on : getB s 0x34000 0 = true) (allowed : getB s 0x34000 (4 + cause) = true)
    (free : sRole s = 0) : presentCause cause p s = sTake cause p s := by
  unfold presentCause
  rw [if_neg (by simp [on, allowed, free]), if_pos free]

/-- Which bits of the front end's registers a cause presented to path S may change: the states of the paths and two registers of path S. -/
def CauseMay (o i : Nat) : Prop := (o % 0x1000 = 4 ∧ i < 3) ∨ o = 0x34004 ∨ o = 0x34010

theorem presentCause_kept (cause p : Nat) (s : State) : FrontKept CauseMay s (presentCause cause p s) :=
  (FrontKept.refl _ s).presentCause (fun q i hi => .inl ⟨by unfold rxBase; omega, hi⟩) (fun _ => .inr (.inl rfl)) fun _ => .inr (.inr rfl)

theorem pathOut_kept (cause p : Nat) (s : State) : FrontKept (StateOf p) s (pathOut cause p s) :=
  (FrontKept.refl _ s).pathOut fun _ hi => ⟨rfl, hi⟩

theorem getB_path_presentCause {p : Nat} (hp : p < 4) {i : Nat} (high : 3 ≤ i) (hi : i < 32) (cause q : Nat) (s : State) :
    getB (presentCause cause q s) (rxBase p + 4) i = getB s (rxBase p + 4) i :=
  (presentCause_kept cause q s).bits _ _ (frontPage_path (by omega) (by omega)) hi fun may => by
    unfold CauseMay rxBase at may
    omega

theorem rd_path_presentCause {p d : Nat} (hp : p < 4) (hd : d < 0x1000) (other : d ≠ 4) (cause q : Nat) (s : State) :
    rd (presentCause cause q s) (rxBase p + d) = rd s (rxBase p + d) :=
  (presentCause_kept cause q s).rd_eq (frontPage_path (by omega) hd) fun _ may => by
    unfold CauseMay rxBase at may
    omega

/-- SAT_LONG that starts no substitution: path S is as it was. -/
theorem satLong_unserved {p : Fin 4} {c : Nat} {s : State} (since : (getPath s p.val).satSince = some c)
    (unserved : getF s 0x34018 15 0 = 0 ∨ getB s 0x34000 0 = false) :
    let t := satLong p s
    t.keeper.pend = s.keeper.pend ∧ getB t (rxBase p.val + 4) 9 = true ∧ getF t 0x34004 9 0 = getF s 0x34004 9 0 := by
  have long := satReported_long p.isLt c s
  have status : rd (satReported p.val c s) 0x34004 = rd s 0x34004 := rd_satReported (by unfold FrontPage; decide) (by unfold rxBase; omega)
  have enable : rd (satReported p.val c s) 0x34000 = rd s 0x34000 := rd_satReported (by unfold FrontPage; decide) (by unfold rxBase; omega)
  rw [satLong_eq since]
  by_cases none' : getF s 0x34018 15 0 = 0
  · rw [if_pos none']
    exact ⟨satReported_pend .., long, getF_eq_of_rd status _ _⟩
  · have off := (getB_eq_of_rd enable 0).trans (unserved.resolve_left none')
    have kept := pathOut_kept 1 p.val (satReported p.val c s)
    rw [if_neg none', presentCause_disabled off, causeUnserved, if_pos (.inr rfl)]
    refine ⟨kept.pend.trans (satReported_pend ..), ?_, ?_⟩
    · exact (kept.bits _ _ (frontPage_path (by omega) (by omega)) (by omega) fun may => absurd may.2 (by omega)).trans long
    · exact getF_eq_of_rd ((kept.rd_eq (by unfold FrontPage; decide) fun _ may => by
        have := may.1
        unfold rxBase at this
        omega).trans status) _ _

/-- SAT_LONG with path S free and allowed: it starts to align for the path. -/
theorem satLong_served {p : Fin 4} {c : Nat} {s : State} (since : (getPath s p.val).satSince = some c) (limit : getF s 0x34018 15 0 ≠ 0)
    (on : getB s 0x34000 0 = true) (allowed : getB s 0x34000 5 = true) (free : getF s 0x34004 2 0 = 0) :
    let t := satLong p s
    t.keeper.pend = s.keeper.pend ∧ getB t (rxBase p.val + 4) 9 = true ∧ getF t 0x34004 2 0 = 1 ∧ getF t 0x34004 6 4 = p.val ∧
      getF t 0x34004 9 8 = 1 := by
  have status : rd (satReported p.val c s) 0x34004 = rd s 0x34004 := rd_satReported (by unfold FrontPage; decide) (by unfold rxBase; omega)
  have enable : rd (satReported p.val c s) 0x34000 = rd s 0x34000 := rd_satReported (by unfold FrontPage; decide) (by unfold rxBase; omega)
  rw [satLong_eq since, if_neg limit]
  refine ⟨(presentCause_kept ..).pend.trans (satReported_pend ..), ?_, ?_⟩
  · exact (getB_path_presentCause p.isLt (by omega) (by omega) ..).trans (satReported_long p.isLt c s)
  · rw [presentCause_free ((getB_eq_of_rd enable 0).trans on) ((getB_eq_of_rd enable 5).trans allowed) ((getF_eq_of_rd status 2 0).trans free)]
    exact sTake_leaves (by omega) (by omega) _

/-! ### Health checks (R86) -/

/-- RXPn_HEALTH once a check is counted and its failures are ORed in. -/
def checkCounted (w : Word) (f : BitVec 5) : Word :=
  let v := w ||| BitVec.ofNat 32 f.toNat
  withField v 31 16 (fieldOf v 31 16 + 1)

/-- A check's failures lie in bits 4 to 0. -/
theorem fieldOf_orFails (w : Word) (f : BitVec 5) {hi lo : Nat} (high : 5 ≤ lo) :
    fieldOf (w ||| BitVec.ofNat 32 f.toNat) hi lo = fieldOf w hi lo := by
  refine Nat.eq_of_testBit_eq fun k => ?_
  have none' : f.toNat.testBit (lo + k) = false :=
    Nat.testBit_lt_two_pow (Nat.lt_of_lt_of_le f.isLt (Nat.pow_le_pow_right (by omega) (by omega)))
  rw [testBit_fieldOf, testBit_fieldOf, bitOf, BitVec.getLsbD_or, BitVec.getLsbD_ofNat, none', Bool.and_false, Bool.or_false, bitOf]

theorem fieldOf_orFails_low (w : Word) (f : BitVec 5) :
    fieldOf (w ||| BitVec.ofNat 32 f.toNat) 4 0 = fieldOf w 4 0 ||| f.toNat := by
  refine Nat.eq_of_testBit_eq fun k => ?_
  rw [testBit_fieldOf, Nat.testBit_or, testBit_fieldOf, bitOf, BitVec.getLsbD_or, BitVec.getLsbD_ofNat, bitOf, Nat.zero_add]
  by_cases low : k < 5
  · simp [low, show k < 32 by omega]
  · have none' : f.toNat.testBit k = false :=
      Nat.testBit_lt_two_pow (Nat.lt_of_lt_of_le f.isLt (Nat.pow_le_pow_right (by omega) (by omega)))
    simp [low, none']

theorem checkCounted_fields (w : Word) (f : BitVec 5) :
    fieldOf (checkCounted w f) 31 16 = (fieldOf w 31 16 + 1) % 65536 ∧ fieldOf (checkCounted w f) 4 0 = fieldOf w 4 0 ||| f.toNat ∧
      fieldOf (checkCounted w f) 15 8 = fieldOf w 15 8 := by
  unfold checkCounted
  refine ⟨?_, ?_, ?_⟩
  · rw [fieldOf_withField _ _ _ _ (by omega), fieldOf_orFails _ _ (by omega)]
    rfl
  · rw [fieldOf_withField_other _ _ (by omega) (by omega), fieldOf_orFails_low]
  · rw [fieldOf_withField_other _ _ (by omega) (by omega), fieldOf_orFails _ _ (by omega)]

/-- RXPn_HEALTH after a check: counted, its failures ORed in, and FAIL_RUN 0 after a clean one, else one on up to 255. -/
def healthWord (w : Word) (f : BitVec 5) : Word :=
  withField (checkCounted w f) 15 8 (if f = 0 then 0 else min (fieldOf w 15 8 + 1) 255)

theorem healthWord_fields (w : Word) (f : BitVec 5) :
    fieldOf (healthWord w f) 31 16 = (fieldOf w 31 16 + 1) % 65536 ∧ fieldOf (healthWord w f) 4 0 = fieldOf w 4 0 ||| f.toNat ∧
      fieldOf (healthWord w f) 15 8 = if f = 0 then 0 else min (fieldOf w 15 8 + 1) 255 := by
  obtain ⟨checks, fails, -⟩ := checkCounted_fields w f
  unfold healthWord
  refine ⟨?_, ?_, ?_⟩
  · rw [fieldOf_withField_other _ _ (by omega) (by omega), checks]
  · rw [fieldOf_withField_other _ _ (by omega) (by omega), fails]
  · rw [fieldOf_withField _ _ _ _ (by omega)]
    refine Nat.mod_eq_of_lt ?_
    split <;> omega

theorem pathState_eq (s : State) (p : Nat) : pathState s p = getF s (rxBase p + 4) 2 0 := by
  rw [pathState, rxBase, show 0x30004 + p * 0x1000 = 0x30000 + p * 0x1000 + 4 by omega]

/-- The machine once a path's check is counted, before FAIL_RUN follows. -/
def checkTaken (p : Nat) (f : BitVec 5) (s : State) : State :=
  incF (rxBase p + 0x18) 31 16 1 (wr (rxBase p + 0x18) (rd s (rxBase p + 0x18) ||| BitVec.ofNat 32 f.toNat) s)

theorem rd_checkTaken (p : Nat) (f : BitVec 5) (s : State) :
    rd (checkTaken p f s) (rxBase p + 0x18) = checkCounted (rd s (rxBase p + 0x18)) f := by
  rw [checkTaken, incF, rd_setF_same, getF, rd_wr_same, checkCounted]

theorem rd_checkTaken_other {p o : Nat} (f : BitVec 5) (s : State) (other : o ≠ rxBase p + 0x18) : rd (checkTaken p f s) o = rd s o := by
  rw [checkTaken, incF, rd_setF_other _ _ _ _ other, rd_wr_other _ _ other]

/-- The machine once FAIL_RUN follows a failed check. -/
def failCounted (p : Nat) (f : BitVec 5) (s : State) : State :=
  incSat (rxBase p + 0x18) 15 8 1 (setPath p { getPath (checkTaken p f s) p with cleanSince := none } (checkTaken p f s))

theorem rd_failCounted {f : BitVec 5} (failed : f ≠ 0) (p : Nat) (s : State) :
    rd (failCounted p f s) (rxBase p + 0x18) = healthWord (rd s (rxBase p + 0x18)) f := by
  obtain ⟨-, -, run⟩ := checkCounted_fields (rd s (rxBase p + 0x18)) f
  have taken : ∀ v, rd (setPath p v (checkTaken p f s)) (rxBase p + 0x18) = checkCounted (rd s (rxBase p + 0x18)) f := fun _ =>
    rd_checkTaken p f s
  rw [failCounted, incSat, rd_setF_same, getF, taken, run, healthWord, if_neg failed]
  rfl

theorem rd_failCounted_other {p o : Nat} (f : BitVec 5) (s : State) (other : o ≠ rxBase p + 0x18) : rd (failCounted p f s) o = rd s o :=
  (rd_setF_other _ _ _ _ other).trans (rd_checkTaken_other f s other)

/-- The machine once a clean check has ended FAIL_RUN. -/
def cleanCounted (p : Nat) (s : State) : State :=
  let u := checkTaken p 0 s
  setPath p { getPath u p with cleanSince := some ((getPath u p).cleanSince.getD u.ntb.clk) } (setF (rxBase p + 0x18) 15 8 0 u)

theorem rd_cleanCounted (p : Nat) (s : State) :
    rd (cleanCounted p s) (rxBase p + 0x18) = healthWord (rd s (rxBase p + 0x18)) 0 := by
  rw [healthWord, if_pos rfl, ← rd_checkTaken]
  exact rd_setF_same (checkTaken p 0 s) (rxBase p + 0x18) 15 8 0

theorem rd_cleanCounted_other {p o : Nat} (s : State) (other : o ≠ rxBase p + 0x18) : rd (cleanCounted p s) o = rd s o :=
  (rd_setF_other _ _ _ _ other).trans (rd_checkTaken_other 0 s other)

theorem pathBack_of_service {p : Nat} {s : State} (inService : pathState s p = 2) : pathBack p s = s :=
  if_neg fun out => absurd (inService.symm.trans out.1) (by decide)

section
variable {p : Fin 4} {f : BitVec 5} {s : State} (inService : pathState s p.val = 2) (period : getF s (rxBase p.val + 0x1C) 7 0 ≠ 0)
include inService period

/-- A clean check of a path in service. -/
theorem healthCheck_clean : healthCheck p 0 s = cleanCounted p.val s := by
  have checked : healthCheck p 0 s = pathBack p.val (cleanCounted p.val s) := by
    unfold healthCheck
    simp only
    rw [if_neg (by simp [inService, period])]
    rfl
  have still : pathState (cleanCounted p.val s) p.val = 2 := by
    rw [← inService, pathState_eq, pathState_eq]
    exact getF_eq_of_rd (rd_cleanCounted_other _ (by omega)) _ _
  rw [checked, pathBack_of_service still]

/-- A failed check of a path in service. -/
theorem healthCheck_failed (failed : f ≠ 0) : healthCheck p f s =
    let u := failCounted p.val f s
    let limit := getF s (rxBase p.val + 0x1C) 19 16
    if limit ≠ 0 ∧ min (getF s (rxBase p.val + 0x18) 15 8 + 1) 255 = limit then
      presentCause 0 p.val (raiseEvt 3 0x114 (leBytes 1 p.val ++ leBytes 1 f.toNat) (setB (rxBase p.val + 4) 8 true u))
    else u := by
  have run : getF (failCounted p.val f s) (rxBase p.val + 0x18) 15 8 = min (getF s (rxBase p.val + 0x18) 15 8 + 1) 255 := by
    rw [getF, rd_failCounted failed, (healthWord_fields _ _).2.2, if_neg failed, getF]
  have limit : getF (failCounted p.val f s) (rxBase p.val + 0x1C) 19 16 = getF s (rxBase p.val + 0x1C) 19 16 :=
    getF_eq_of_rd (rd_failCounted_other _ _ (by omega)) _ _
  rw [← run, ← limit]
  unfold healthCheck
  simp only
  rw [if_neg (by simp [inService, period]), if_neg failed]
  rfl

/-- What a check of a path in service leaves. -/
theorem healthCheck_leaves :
    let t := healthCheck p f s
    t.keeper.pend = s.keeper.pend ∧ rd t (rxBase p.val + 0x18) = healthWord (rd s (rxBase p.val + 0x18)) f ∧
      (f ≠ 0 → getF s (rxBase p.val + 0x1C) 19 16 ≠ 0 → getF s (rxBase p.val + 0x18) 15 8 + 1 = getF s (rxBase p.val + 0x1C) 19 16 →
        getB t (rxBase p.val + 4) 8 = true) ∧
      (getF s (rxBase p.val + 0x1C) 19 16 = 0 → getB t (rxBase p.val + 4) 8 = getB s (rxBase p.val + 4) 8) := by
  by_cases clean : f = 0
  · subst clean
    rw [healthCheck_clean inService period]
    exact ⟨rfl, rd_cleanCounted .., fun failed => absurd rfl failed, fun _ => getB_eq_of_rd (rd_cleanCounted_other _ (by omega)) _⟩
  · have page : FrontPage (rxBase p.val + 4) ∧ FrontPage (rxBase p.val + 0x18) :=
      ⟨frontPage_path (by omega) (by omega), frontPage_path (by omega) (by omega)⟩
    unfold FrontPage at page
    rw [healthCheck_failed inService period clean]
    simp only
    split
    · rename_i reached
      refine ⟨?_, ?_, fun _ _ _ => ?_, fun none' => absurd none' reached.1⟩
      · rw [(presentCause_kept ..).pend, raiseEvt_pend]
        rfl
      · rw [rd_path_presentCause p.isLt (by omega) (by omega), rd_raiseEvt _ _ _ _ (by omega) (by omega), rd_setB_other _ _ _ (by omega),
          rd_failCounted clean]
      · rw [getB_path_presentCause p.isLt (by omega) (by omega), getB_eq_of_rd (rd_raiseEvt _ _ _ _ (by omega) (by omega)),
          getB_setB_same _ _ _ _ (by omega)]
    · rename_i below
      refine ⟨rfl, rd_failCounted clean .., fun _ limit reached => ?_, fun _ => getB_eq_of_rd (rd_failCounted_other _ _ (by omega)) _⟩
      have four := fieldOf_lt (rd s (rxBase p.val + 0x1C)) 19 16
      rw [← getF] at four
      exact absurd ⟨limit, by omega⟩ below

end

/-! ### Calibration (R87, R493) -/

theorem calibrated_leaves {p : Nat} (hp : p < 4) (s : State) :
    let t := calibrated p s
    getB t (rxBase p + 4) 10 = false ∧ (getPath t p).calTemp = sensorTemp s (pathSensor p) ∧ pathState t p = pathState s p := by
  unfold calibrated
  simp only [if_neg (show p ≠ 4 by omega)]
  refine ⟨getB_setB_same _ _ _ _ (by omega), ?_, ?_⟩
  · show (getPath (setPath p _ s) p).calTemp = _
    rw [getPath_setPath, if_pos rfl]
  · rw [pathState_eq, getF_setB_apart _ _ _ (by omega) (by omega), pathState_eq]
    rfl

/-- PATH_CALIBRATION_DONE with no command waiting, of a unit that may be calibrated: the group delay counts as measured too. -/
theorem pathCalDone_measured {p : Fin 5} {s : State} (may : calibrates s p.val = true) (idle : (pathCalibrationDone p s).keeper.pend = []) :
    pathCalDone p s = setB 0xE0004 p.val true (pathCalibrationDone p s) := by
  unfold pathCalDone
  simp only [may, if_true]
  rw [finishPend_idle (by rwa [setB_keeper]), ite_self]

/-- The calibration of a path that S covers for a TEST ends the test unless PATH_TEST holds it. -/
theorem pathCalibrationDone_path {p : Fin 5} {s : State} (own : p.val ≠ 4) (may : calibrates s p.val = true) :
    ∃ x, pathCalibrationDone p s = { calibrated p.val s with pathS := x } ∧
      (sCause s = 2 → sServes s = p.val → s.pathS.test.contains p.val = false → x.testEnded = true) := by
  have status : rd (calibrated p.val s) 0x34004 = rd s 0x34004 := by
    unfold calibrated
    rw [if_neg own, rd_setB_other _ _ _ (by unfold rxBase; omega)]
    rfl
  have pathS : (calibrated p.val s).pathS = s.pathS := by
    unfold calibrated
    rw [if_neg own]
    rfl
  unfold pathCalibrationDone
  simp only [may, own, Bool.not_true, Bool.false_eq_true, if_false, sCause, sServes, getF_eq_of_rd status, pathS]
  split
  · exact ⟨_, rfl, fun _ _ _ => rfl⟩
  · rename_i goesOn
    exact ⟨(calibrated p.val s).pathS, rfl, fun cause serves test => absurd ⟨cause, serves, by rw [test]; rfl⟩ goesOn⟩

theorem calibrated_pend (p : Nat) (s : State) : (calibrated p s).keeper.pend = s.keeper.pend := by
  unfold calibrated
  split <;> rfl

theorem calibrates_path {p : Nat} (hp : p < 4) (s : State) : calibrates s p = (pathState s p != 2) := if_neg (by omega)

/-- What the calibration of a path out of service leaves. -/
theorem pathCalDone_leaves {p : Fin 4} {s : State} (idle : s.keeper.pend = []) (out : pathState s p.val ≠ 2) :
    let t := pathCalDone (Fin.castLE (by decide) p) s
    t.keeper.pend = [] ∧ getB t (rxBase p.val + 4) 10 = false ∧ (getPath t p.val).calTemp = sensorTemp s (pathSensor p.val) ∧
      getB t 0xE0004 p.val = true ∧ pathState t p.val = pathState s p.val ∧
      (sCause s = 2 → sServes s = p.val → s.pathS.test.contains p.val = false → t.pathS.testEnded = true) := by
  have may : calibrates s p.val = true := by rw [calibrates_path p.isLt, bne_iff_ne]; exact out
  obtain ⟨x, done, test⟩ := pathCalibrationDone_path (p := Fin.castLE (by decide) p) (s := s) (Nat.ne_of_lt p.isLt) may
  have waits : (pathCalibrationDone (Fin.castLE (by decide) p) s).keeper.pend = [] := by
    rw [done]
    exact (calibrated_pend _ _).trans idle
  have page := frontPage_path (p := p.val) (d := 4) (by omega) (by omega)
  unfold FrontPage at page
  obtain ⟨stale, temp, state⟩ := calibrated_leaves p.isLt s
  rw [pathCalDone_measured may waits, done]
  refine ⟨(calibrated_pend _ _).trans idle, ?_, temp, getB_setB_same _ _ _ _ (by omega), ?_, test⟩
  · exact (getB_eq_of_rd (rd_setB_other _ _ _ (by omega)) _).trans stale
  · rw [← state, pathState_eq, pathState_eq]
    exact getF_eq_of_rd (rd_setB_other _ _ _ (by omega)) _ _

/-- A path in service is not calibrated. -/
theorem pathCalDone_inService {p : Fin 4} {s : State} (idle : s.keeper.pend = []) (inService : pathState s p.val = 2) :
    pathCalDone (Fin.castLE (by decide) p) s = s := by
  have no : calibrates s p.val = false := by rw [calibrates_path p.isLt, inService]; rfl
  unfold pathCalDone
  simp only [Fin.val_castLE, no, Bool.false_eq_true, if_false]
  rw [finishPend_idle idle, ite_self]

theorem sFree_idle {s : State} (none' : s.pathS.waiting = []) : sFree s = setServes 7 (setRole 0 s) := by
  unfold sFree
  simp only [setServes, setRole, setF_pathS, none']

/-- Path S has calibrated itself and no cause waits: it is free. -/
theorem pathCalDone_pathS {s : State} (idle : s.keeper.pend = []) (none' : s.pathS.waiting = []) (calibrating : getF s 0x34004 2 0 = 4) :
    let t := pathCalDone 4 s
    t.keeper.pend = [] ∧ getF t 0x34004 2 0 = 0 ∧ sServes t = 7 ∧ getB t 0xE0004 4 = true := by
  have role : sRole s = 4 := calibrating
  have may : calibrates s 4 = true := by rw [calibrates, if_pos rfl, role]; rfl
  have done : pathCalibrationDone 4 s = setServes 7 (setRole 0 (calibrated 4 s)) := by
    rw [← sFree_idle (s := calibrated 4 s) none']
    unfold pathCalibrationDone
    exact (if_neg (by rw [show calibrates s (4 : Fin 5).val = true from may]; decide)).trans ((if_pos rfl).trans (if_pos role))
  have waits : (pathCalibrationDone 4 s).keeper.pend = [] := by rw [done]; exact idle
  rw [pathCalDone_measured may waits, done]
  refine ⟨idle, ?_, ?_, getB_setB_same _ _ _ _ (by omega)⟩
  · rw [getF_eq_of_rd (rd_setB_other _ _ _ (by omega)), setServes, getF_setF_apart _ _ _ (by omega) (by omega), setRole,
      getF_setF_same _ _ _ _ _ (by omega)]
    rfl
  · rw [sServes, getF_eq_of_rd (rd_setB_other _ _ _ (by omega)), setServes, getF_setF_same _ _ _ _ _ (by omega)]
    rfl

/-- Settles O12: each row from what its operations leave; with no command waiting PATH_TEST has nothing to settle. -/
theorem agcAndHealthChecks : Obligations.AgcAndHealthChecks := by
  refine ⟨?_, ?_, ?_, ?_, ?_, ?_, ?_, ?_, ?_⟩
  · intro p peak clips s on noLna free inUse loud
    obtain ⟨index, left⟩ := agcWindowEnd_loud clips on noLna free inUse loud
    refine ⟨_, rfl, ?_, left⟩
    rw [index, idxLow, Nat.cast_min]
    rfl
  · intro p peak clips s on noLna free inUse calm soft held
    exact ⟨_, rfl, agcWindowEnd_soft clips on noLna free inUse calm soft held⟩
  · exact fun p peak clips s off => congrArg _ (if_pos (by rw [off]; rfl))
  · exact fun p r s => ⟨fun running => ⟨_, rfl, dcReconverged_leaves p r running⟩, fun still => congrArg _ (if_neg (by rw [still]; decide))⟩
  · intro p s idle saturated unserved
    obtain ⟨c, since⟩ := Option.ne_none_iff_exists'.mp saturated
    obtain ⟨pend, left⟩ := satLong_unserved since unserved
    exact ⟨_, congrArg Host.Outcome.next (testSettle_idle (pend.trans idle)), left⟩
  · intro p c s idle since limit on allowed free
    obtain ⟨pend, left⟩ := satLong_served since limit on allowed free
    exact ⟨_, congrArg Host.Outcome.next (testSettle_idle (pend.trans idle)), left⟩
  · intro p f s idle inService period
    obtain ⟨pend, word, failed, unlimited⟩ := healthCheck_leaves (f := f) inService period
    obtain ⟨checks, fails, run⟩ := healthWord_fields (rd s (rxBase p.val + 0x18)) f
    refine ⟨_, congrArg Host.Outcome.next (testSettle_idle (pend.trans idle)), ?_, ?_, ?_, failed, unlimited⟩
    · rw [getF, word, checks, getF]
    · rw [getF, word, fails, getF]
    · rw [getF, word, run, getF]
  · refine fun p s idle => ⟨fun out => ?_, fun inService => ?_⟩
    · obtain ⟨pend, left⟩ := pathCalDone_leaves idle out
      exact ⟨_, congrArg Host.Outcome.next (testSettle_idle pend), left⟩
    · exact congrArg Host.Outcome.next ((congrArg testSettle (pathCalDone_inService idle inService)).trans (testSettle_idle idle))
  · intro s idle none' calibrating
    obtain ⟨pend, left⟩ := pathCalDone_pathS idle none' calibrating
    exact ⟨_, congrArg Host.Outcome.next (testSettle_idle pend), left⟩

end Sys2Proof.Machine
end

section
/-! SUPPORT. The calibration tables of the synthesisers (O15): entries judged afresh, queued for a refresh, emptied, and the raster writes
(R96-R100, R114, R115). -/

namespace Sys2Proof.Machine

/-! ### Synthesisers and their entries -/

@[simp] theorem getSyn_setSyn_same (n : Nat) (v : Synth) (s : State) : getSyn (setSyn n v s) n = v := tabGet_set_same _ _ _ _

theorem getSyn_setSyn_other {m n : Nat} (v : Synth) (s : State) (h : m ≠ n) : getSyn (setSyn n v s) m = getSyn s m :=
  tabGet_set_other _ _ _ h

theorem getEntry_setEntry_same (n k : Nat) (e : CalEntry) (s : State) : getEntry (setEntry n k e s) n k = e := by
  simp only [getEntry, setEntry, getSyn_setSyn_same, tabGet_set_same]

theorem getEntry_setEntry_other {m n j k : Nat} (e : CalEntry) (s : State) (h : ¬(m = n ∧ j = k)) :
    getEntry (setEntry n k e s) m j = getEntry s m j := by
  by_cases synth : m = n
  · subst synth
    simp only [getEntry, setEntry, getSyn_setSyn_same]
    exact tabGet_set_other _ _ _ fun key => h ⟨rfl, key⟩
  · simp only [getEntry, setEntry, getSyn_setSyn_other _ _ synth]

/-- An entry that no key of the table names holds nothing. -/
theorem getEntry_unlisted {s : State} {n k : Nat} (h : k ∉ (getSyn s n).table.map (fun p => p.1)) : getEntry s n k = {} := by
  have notFound : ∀ t : Tab CalEntry, k ∉ t.map (fun p => p.1) → tabFind t k = none := by
    intro t
    induction t with
    | nil => exact fun _ => rfl
    | cons p t ih =>
      intro unlisted
      obtain ⟨head, tail⟩ := not_or.mp (mt List.mem_cons.mpr unlisted)
      exact (if_neg (Ne.symm head)).trans (ih tail)
  rw [getEntry, tabGet, notFound _ h, Option.getD_none]

/-! ### Staleness (R97) -/

/-- An entry with STALE judged at the present temperature. -/
def judged (s : State) (n k : Nat) : CalEntry := { getEntry s n k with stale := staleNow s n (getEntry s n k) }

/-- An entry of the table replaced by what it is judged to be. -/
def judgeEntry (n k : Nat) (s : State) : State := setEntry n k (judged s n k) s

theorem judgeStale_eq (n : Nat) (s : State) : judgeStale n s = forAll ((getSyn s n).table.map (fun p => p.1)) (judgeEntry n) s := rfl

/-- STALE of an entry does not depend on its flag: an entry judged is judged the same again. -/
theorem judged_eq_of_entry {s t : State} {n k : Nat} (registers : t.reg = s.reg)
    (entry : getEntry t n k = judged s n k ∨ getEntry t n k = getEntry s n k) : judged t n k = judged s n k := by
  have sensor : ∀ e, staleNow t n e = staleNow s n e := fun e => by
    simp only [staleNow, sensorTemp, getF, rd, registers]
    rfl
  rcases entry with judgedOnce | same
  · rw [judged, sensor, judgedOnce]; rfl
  · rw [judged, sensor, same]; rfl

/-- `t` differs from `s` in the records of the synthesisers at most. -/
def SynsOnly (s t : State) : Prop := { t with syns := s.syns } = s

theorem SynsOnly.trans {s t u : State} (first : SynsOnly s t) (second : SynsOnly t u) : SynsOnly s u := by
  have late : { u with syns := s.syns } = { t with syns := s.syns } := congrArg (fun x : State => { x with syns := s.syns }) second
  exact late.trans first

theorem SynsOnly.reg {s t : State} (only : SynsOnly s t) : t.reg = s.reg := by
  have same : ({ t with syns := s.syns } : State).reg = s.reg := congrArg State.reg only
  exact same

theorem forAll_synsOnly {α : Type} {f : α → State → State} (one : ∀ x s, SynsOnly s (f x s)) (xs : List α) (s : State) :
    SynsOnly s (forAll xs f s) := by
  induction xs generalizing s with
  | nil => rfl
  | cons x xs ih => exact (one x s).trans (ih (f x s))

theorem judgeStale_only (n : Nat) (s : State) : SynsOnly s (judgeStale n s) :=
  forAll_synsOnly (f := judgeEntry n) (fun _ _ => rfl) _ s

theorem staleEval_only (s : State) : SynsOnly s (staleEval s) := forAll_synsOnly judgeStale_only _ s

theorem getEntry_judgeEntry (s : State) (m n j k : Nat) :
    getEntry (judgeEntry n k s) m j = if m = n ∧ j = k then judged s m j else getEntry s m j := by
  split
  next here =>
    obtain ⟨rfl, rfl⟩ := here
    exact getEntry_setEntry_same m j _ s
  next elsewhere => exact getEntry_setEntry_other _ s elsewhere

theorem judged_judgeEntry (s : State) (m n j k : Nat) : judged (judgeEntry n k s) m j = judged s m j := by
  refine judged_eq_of_entry rfl ?_
  rw [getEntry_judgeEntry]
  split
  · exact .inl rfl
  · exact .inr rfl

theorem getEntry_forAll_judgeEntry (ks : List Nat) (s : State) (m n j : Nat) :
    getEntry (forAll ks (judgeEntry n) s) m j = if m = n ∧ j ∈ ks then judged s m j else getEntry s m j := by
  induction ks generalizing s with
  | nil => simp only [List.not_mem_nil, and_false, if_false]; rfl
  | cons k ks ih =>
    refine (ih (judgeEntry n k s)).trans ?_
    rw [judged_judgeEntry, getEntry_judgeEntry]
    by_cases synth : m = n <;> by_cases head : j = k <;> by_cases tail : j ∈ ks <;> simp [synth, head, tail]

/-- Every entry of the synthesiser is judged, listed or not: one that holds nothing is not stale. -/
theorem getEntry_judgeStale (s : State) (m n j : Nat) :
    getEntry (judgeStale n s) m j = if m = n then judged s m j else getEntry s m j := by
  rw [judgeStale_eq, getEntry_forAll_judgeEntry]
  by_cases synth : m = n
  · subst synth
    by_cases listed : j ∈ (getSyn s m).table.map (fun p => p.1)
    · rw [if_pos ⟨rfl, listed⟩, if_pos rfl]
    · rw [if_neg (fun h => listed h.2), if_pos rfl, judged, getEntry_unlisted listed]
      rfl
  · rw [if_neg (fun h => synth h.1), if_neg synth]

theorem judged_judgeStale (s : State) (m n j : Nat) : judged (judgeStale n s) m j = judged s m j := by
  refine judged_eq_of_entry (judgeStale_only n s).reg ?_
  rw [getEntry_judgeStale]
  split
  · exact .inl rfl
  · exact .inr rfl

theorem getEntry_forAll_judgeStale (ns : List Nat) (s : State) (m j : Nat) :
    getEntry (forAll ns judgeStale s) m j = if m ∈ ns then judged s m j else getEntry s m j := by
  induction ns generalizing s with
  | nil => exact (if_neg List.not_mem_nil).symm
  | cons n ns ih =>
    refine (ih (judgeStale n s)).trans ?_
    rw [judged_judgeStale, getEntry_judgeStale]
    by_cases head : m = n <;> by_cases tail : m ∈ ns <;> simp [head, tail]

theorem getEntry_staleEval (s : State) {n : Nat} (k : Nat) (h : n < 4) : getEntry (staleEval s) n k = judged s n k :=
  (getEntry_forAll_judgeStale _ s n k).trans (if_pos (List.mem_range (n := 4) |>.mpr h))

/-! ### Work for idle gaps (R99, R114) -/

/-- Queueing changes nothing but the work of its synthesiser. -/
theorem queueWork_leaves (n : Nat) (ks : List Nat) (s : State) :
    { queueWork n ks s with syns := s.syns } = s ∧ (∀ m, m ≠ n → getSyn (queueWork n ks s) m = getSyn s m) ∧
      getSyn (queueWork n ks s) n =
        { getSyn s n with work := (getSyn s n).work ++ ks.filter (fun k => !(getSyn s n).work.contains k) } :=
  ⟨rfl, fun _ other => getSyn_setSyn_other _ s other, getSyn_setSyn_same _ _ s⟩

theorem calEntry_tx {n : Nat} (s : State) (tx : 2 ≤ n) : calEntry n s = queueWork n [getF s (synBase n + 0x18) 8 0] s := by
  have noRx : ¬ n < 2 := by omega
  simp only [calEntry, noRx, if_false, decide_false, Bool.false_and, Bool.false_eq_true]

theorem calEntry_rx {n : Nat} (s : State) (rx : n < 2) :
    calEntry n s = if (getEntry s n (getF s (synBase n + 0x18) 2 0)).valid then queueWork n [getF s (synBase n + 0x18) 2 0] s else s := by
  simp only [calEntry, rx, if_true, decide_true, Bool.true_and]
  cases (getEntry s n (getF s (synBase n + 0x18) 2 0)).valid <;> rfl

/-- An emptied table holds no valid entry. -/
theorem getEntry_emptied (n k : Nat) (s : State) : (getEntry (invalidateAll n s) n k).valid = false := by
  rw [getEntry, invalidateAll, getSyn_setSyn_same]
  rfl

/-! ### RASTER_WRITE (R100, R114, R115) -/

theorem rasterWrite_rxBase {n : Fin 4} (v : Word) (s : State) (rx : n.val < 2) : rasterWrite n false v s = s := by
  simp only [rasterWrite, if_pos rx]
  rfl

theorem rasterWrite_rxStep {n : Fin 4} (v : Word) (s : State) (rx : n.val < 2) :
    rasterWrite n true v s =
      if v.toNat < 25000 ∨ 2000000 < v.toNat then setB (synBase n.val + 4) 12 true s else wr (synBase n.val + 0x14) v s := by
  simp only [rasterWrite, if_pos rx]
  rfl

theorem rasterWrite_txBurst {n : Fin 4} (b : Bool) (v : Word) {s : State} (tx : 2 ≤ n.val) (burst : inBurst s (n.val - 2) = true) :
    rasterWrite n b v s = setB (synBase n.val + 4) 11 true s := by
  simp only [rasterWrite, if_neg (Nat.not_lt.mpr tx), burst, Bool.true_or, if_true]

/-- With its path idle a transmit synthesiser takes a base, or a step within bounds, and its table is emptied. -/
theorem rasterWrite_txIdle {n : Fin 4} (b : Bool) (v : Word) {s : State} (tx : 2 ≤ n.val) (noBurst : inBurst s (n.val - 2) = false)
    (noneDue : dueOn s (n.val - 2) = []) :
    rasterWrite n b v s =
      if b = true ∧ (v.toNat < 25000 ∨ 2000000 < v.toNat) then setB (synBase n.val + 4) 12 true s
      else invalidateAll n.val (wr (synBase n.val + (if b then 0x14 else 0x10)) v s) := by
  simp only [rasterWrite, if_neg (Nat.not_lt.mpr tx), noBurst, noneDue, List.isEmpty_nil, Bool.not_true, Bool.or_self, Bool.false_eq_true,
    if_false, Bool.and_eq_true, Bool.or_eq_true, decide_eq_true_eq]
  rfl

/-- Settles O15: STALE_EVAL judges entry by entry, the commands queue work for their synthesiser alone, and RASTER_WRITE branch by branch. -/
theorem calibrationTables : Obligations.CalibrationTables := by
  refine ⟨?_, ?_, ?_, ?_, ?_, ?_, ?_, ?_, ?_, ?_, ?_⟩
  · refine fun s => ⟨staleEval s, rfl, (staleEval_only s).reg, staleEval_only s, fun n k hn => ?_⟩
    rw [getEntry_staleEval s k hn]
    exact ⟨rfl, rfl, rfl, rfl, rfl⟩
  · exact fun n s => ⟨_, rfl, queueWork_leaves n.val _ s⟩
  · exact fun n s => ⟨_, rfl, queueWork_leaves n.val _ s⟩
  · exact fun n s tx => ⟨_, congrArg Host.Outcome.next (calEntry_tx s tx), queueWork_leaves n.val _ s⟩
  · exact fun n s rx valid => ⟨_, congrArg Host.Outcome.next ((calEntry_rx s rx).trans (if_pos valid)), queueWork_leaves n.val _ s⟩
  · exact fun n s rx invalid => congrArg Host.Outcome.next ((calEntry_rx s rx).trans (if_neg (by rw [invalid]; decide)))
  · exact fun n s => ⟨_, rfl, rfl, fun k => getEntry_emptied n.val k s, fun _ other => getSyn_setSyn_other _ s other⟩
  · exact fun n v s rx => congrArg Host.Outcome.next (rasterWrite_rxBase v s rx)
  · refine fun n v s rx => ⟨_, congrArg Host.Outcome.next (rasterWrite_rxStep v s rx), ?_⟩
    split
    · exact ⟨onlyRegs_wr _ _ s, rd_setB_same s _ _ _⟩
    · exact ⟨onlyRegs_wr _ _ s, rd_wr_same s _ _⟩
  · exact fun n b v s tx burst => ⟨_, congrArg Host.Outcome.next (rasterWrite_txBurst b v tx burst), onlyRegs_wr _ _ s, rd_setB_same s _ _ _⟩
  · refine fun n b v s tx noBurst noneDue => ⟨_, congrArg Host.Outcome.next (rasterWrite_txIdle b v tx noBurst noneDue), ?_⟩
    split
    · exact ⟨onlyRegs_wr _ _ s, rd_setB_same s _ _ _⟩
    · exact ⟨rd_wr_same s _ _, fun k => getEntry_emptied n.val k _, fun _ other => rd_wr_other s v other⟩

end Sys2Proof.Machine
end

section
/-! SUPPORT. The refutations of O14, O16, O17 and O18: each has a clause by which its row changes nothing in a quiet state. A quiet state
(`quiet`) excludes this device's own requests for air, but not an arbiter that owes the other radio a grant, which the settling after every
one of these rows gives (R111). The state is that of the refutation of O9. -/

namespace Sys2Proof.Machine

/-- A row that has nothing to do, and then settles, does not leave the arbiter that owes a grant as it was. -/
theorem exec_ne_of_settles {c : Instr} {t : State} (row : exec c requestUngranted = .next (settle t)) (nothing : t = requestUngranted) :
    exec c requestUngranted ≠ .next requestUngranted := by
  intro still
  have same : settle t = requestUngranted := Host.Outcome.next.inj (row.symm.trans still)
  have granted := settle_requestUngranted
  rw [← nothing, same, requestUngranted_noGrant] at granted
  exact Bool.false_ne_true granted

/-! ### Rows with nothing to do -/

theorem synLock_of_not_acquiring {n : Fin 4} {s : State} (h : acquiring s n.val = false) : synLock n s = s :=
  if_pos (by rw [h]; rfl)

theorem retuneEnd_idle (b : Nat) {s : State} (idle : s.keeper.pend = []) : retuneEnd b s = s := by
  unfold retuneEnd
  rw [idle]
  rfl

theorem rampDownEnd_of_noBurst {p : Fin 2} {s : State} (h : inBurst s p.val = false) : rampDownEnd p s = s :=
  if_pos (by rw [h]; rfl)

theorem txLate_of_not_held {n : Fin 128} {s : State} (h : (getOp s n.val).held = 0) : txLate n s = s := by
  unfold txLate
  simp only
  split
  · rfl
  · exact if_pos (by rw [h]; simp only [beq_self_eq_true, Bool.or_true, Bool.true_or])

theorem coexGntSample_of_not_requester {p : Fin 2} {s : State} (h : requester s = false) : coexGntSample p s = s := by
  unfold coexGntSample
  simp only
  split
  · rfl
  · exact if_pos (.inl (by rw [h]; rfl))

/-! ### The refutations -/

theorem requestUngranted_synState : synState requestUngranted 0 = 0 := by decide +kernel

theorem requestUngranted_noBurst : inBurst requestUngranted 0 = false := by decide +kernel

theorem requestUngranted_noRequester : requester requestUngranted = false := by decide +kernel

/-- Refutes O14, by its clause on SYN_LOCK of a synthesiser that neither settles nor calibrates: SYN0 is asleep, and the settling gives the
grant that the arbiter owes (R111). -/
theorem not_synthesiserStates : ¬ Obligations.SynthesiserStates := by
  rintro ⟨-, notAcquiring, -⟩
  have asleep : synState requestUngranted (0 : Fin 4).val = 0 := requestUngranted_synState
  have still : retuneEnd 0 (synLock 0 requestUngranted) = requestUngranted := by
    rw [synLock_of_not_acquiring (by rw [acquiring, asleep]; rfl)]
    exact retuneEnd_idle 0 rfl
  exact exec_ne_of_settles (c := .synLock 0) rfl still
    (notAcquiring 0 requestUngranted requestUngranted_quiet rfl (by rw [asleep]; decide) (by rw [asleep]; decide))

/-- Refutes O16, by its clause on RAMP_DOWN_END of a path that has no burst: the settling gives the grant that the arbiter owes (R111). -/
theorem not_transmitBursts : ¬ Obligations.TransmitBursts := by
  rintro ⟨-, -, -, -, -, -, noBurst, -⟩
  exact exec_ne_of_settles (c := .rampDownEnd 0) rfl (rampDownEnd_of_noBurst requestUngranted_noBurst)
    (noBurst 0 requestUngranted requestUngranted_quiet requestUngranted_noBurst)

/-- Refutes O17, by its clause on TX_LATE of an operation that is not held: the settling gives the grant that the arbiter owes (R111). -/
theorem not_transmitOutcomes : ¬ Obligations.TransmitOutcomes := by
  rintro ⟨-, notHeld, -⟩
  exact exec_ne_of_settles (c := .txLate 0) rfl (txLate_of_not_held rfl) (notHeld 0 requestUngranted requestUngranted_quiet rfl)

/-- Refutes O18, by its clause on COEX_GNT_SAMPLE of a device that does not request: the settling gives the grant that the arbiter owes
(R111). -/
theorem not_coexistenceWires : ¬ Obligations.CoexistenceWires := by
  rintro ⟨-, -, -, noRequester, -⟩
  exact exec_ne_of_settles (c := .coexGntSample 0) rfl (coexGntSample_of_not_requester requestUngranted_noRequester)
    (noRequester 0 requestUngranted requestUngranted_quiet)

end Sys2Proof.Machine
end

section
/-! SUPPORT. Receptions (R126-R141): what each operation on a channel leaves of the states of the decoder slots, of the slots themselves and of
the live counters. -/

namespace Sys2Proof.Machine

/-! ### The registers of a channel -/

section
variable {ch event slot mode rxseq : Nat} {noSeq : Bool} (s : State)

/-- The trace ring lies at 0x100 to 0x183 of a channel (R143). -/
theorem rd_trace {o : Nat} (out : o < chBase ch + 0x100 ∨ chBase ch + 0x184 ≤ o) : rd (trace ch event slot mode rxseq noSeq s) o = rd s o := by
  have inRing : getF s (chBase ch + 0x180) 3 0 < 16 := fieldOf_lt ..
  unfold trace incF
  simp only
  rw [rd_setF_other _ _ _ _ (by omega), rd_setF_other _ _ _ _ (by omega), rd_wr_other _ _ (by omega), rd_wr_other _ _ (by omega)]

@[simp] theorem trace_slots : (trace ch event slot mode rxseq noSeq s).slots = s.slots := rfl
@[simp] theorem trace_live : (trace ch event slot mode rxseq noSeq s).live = s.live := rfl

end

@[simp] theorem raiseSrc_slots (n : Nat) (s : State) : (raiseSrc n s).slots = s.slots := by
  have := congrArg State.slots (raiseSrc_only n s); exact this

@[simp] theorem raiseSrc_live (n : Nat) (s : State) : (raiseSrc n s).live = s.live := by
  have := congrArg State.live (raiseSrc_only n s); exact this

/-! ### The states of the slots (R127) -/

section
variable {c ch j k : Nat} {s t : State}

theorem slotState_eq_of_rd (h : rd t (chBase c + 0x24) = rd s (chBase c + 0x24)) : slotState t c j = slotState s c j := getF_eq_of_rd h _ _

theorem slotState_wr {d : Nat} (v : Word) (hd : d < 0x400) (other : d ≠ 0x24) : slotState (wr (chBase ch + d) v s) c j = slotState s c j :=
  slotState_eq_of_rd (rd_wr_other _ _ (by unfold chBase; omega))

theorem slotState_setF {d : Nat} (hi lo v : Nat) (hd : d < 0x400) (other : d ≠ 0x24) :
    slotState (setF (chBase ch + d) hi lo v s) c j = slotState s c j := slotState_wr _ hd other

@[simp] theorem slotState_trace {event slot mode rxseq : Nat} {noSeq : Bool} :
    slotState (trace ch event slot mode rxseq noSeq s) c j = slotState s c j :=
  slotState_eq_of_rd (rd_trace _ (by unfold chBase; omega))

@[simp] theorem slotState_count : slotState (count ch k s) c j = slotState s c j := rfl
@[simp] theorem slotState_setSlot {v : Slot} : slotState (setSlot ch k v s) c j = slotState s c j := rfl
@[simp] theorem slotState_flagSlot {bit : Nat} : slotState (flagSlot ch k bit s) c j = slotState s c j := rfl
@[simp] theorem slotState_raiseSrc {n : Nat} : slotState (raiseSrc n s) c j = slotState s c j := slotState_eq_of_rd (rd_raiseSrc ..)

/-- The bits of a channel's status above the two state codes. -/
theorem slotState_setB {i : Nat} {b : Bool} (hj : j < 2) (above : 8 ≤ i) : slotState (setB (chBase ch + 0x24) i b s) c j = slotState s c j := by
  by_cases same : c = ch
  · subst same
    exact getF_setB_apart _ _ _ (by omega) (by omega)
  · exact slotState_eq_of_rd (rd_setB_other _ _ _ (chBase_apart' same))
where chBase_apart' {c ch : Nat} (other : c ≠ ch) : chBase c + 0x24 ≠ chBase ch + 0x24 := by unfold chBase; omega

@[simp] theorem slotState_stepSeenUpdate (hj : j < 2) : slotState (stepSeenUpdate ch s) c j = slotState s c j := slotState_setB hj (by omega)

theorem slotState_setSlotState_same {v : Nat} (hk : k < 2) (hv : v < 8) : slotState (setSlotState ch k v s) ch k = v := by
  rw [slotState, setSlotState, getF_setF_same _ _ _ _ _ (by omega), show 4 * k + 2 + 1 - 4 * k = 3 by omega]
  exact Nat.mod_eq_of_lt hv

theorem slotState_setSlotState_other {v : Nat} (hj : j < 2) (other : c ≠ ch ∨ j ≠ k) :
    slotState (setSlotState ch k v s) c j = slotState s c j := by
  by_cases same : c = ch
  · subst same
    exact getF_setF_apart _ _ _ (by omega) (by omega)
  · exact slotState_eq_of_rd (rd_setF_other _ _ _ _ (by unfold chBase; omega))

end

/-! ### The slots and the live counters (R139, R141) -/

section
variable {c ch j k : Nat} {s : State}

theorem getSlot_setSlot_same {v : Slot} : getSlot (setSlot ch k v s) ch k = v := tabGet_set_same _ _ _ _

theorem getSlot_setSlot_other {v : Slot} (hj : j < 2) (hk : k < 2) (other : c ≠ ch ∨ j ≠ k) : getSlot (setSlot ch k v s) c j = getSlot s c j :=
  tabGet_set_other _ _ _ (by omega)

@[simp] theorem getSlot_trace {event slot mode rxseq : Nat} {noSeq : Bool} :
    getSlot (trace ch event slot mode rxseq noSeq s) c j = getSlot s c j := rfl

@[simp] theorem getSlot_count : getSlot (count ch k s) c j = getSlot s c j := rfl
@[simp] theorem getSlot_setSlotState {v : Nat} : getSlot (setSlotState ch k v s) c j = getSlot s c j := rfl

theorem liveCount_count_same : liveCount (count ch k s) ch k = liveCount s ch k + 1 := tabGet_set_same _ _ _ _

theorem liveCount_count_other (hj : j < 16) (hk : k < 16) (other : c ≠ ch ∨ j ≠ k) : liveCount (count ch k s) c j = liveCount s c j :=
  tabGet_set_other _ _ _ (by omega)

@[simp] theorem setSlot_live {v : Slot} : (setSlot ch k v s).live = s.live := rfl
@[simp] theorem setSlotState_live {v : Nat} : (setSlotState ch k v s).live = s.live := rfl
@[simp] theorem stepSeenUpdate_live : (stepSeenUpdate ch s).live = s.live := rfl

theorem liveCount_count (hj : j < 16) (hk : k < 16) :
    liveCount (count ch k s) c j = if c = ch ∧ j = k then liveCount s c j + 1 else liveCount s c j := by
  split
  next same =>
    obtain ⟨rfl, rfl⟩ := same
    exact liveCount_count_same
  next other => exact liveCount_count_other hj hk (by omega)

theorem count_live_congr {s t : State} (h : t.live = s.live) : (count ch k t).live = (count ch k s).live := by simp only [count, h]

theorem liveCount_eq_of_live {s t : State} (h : t.live = s.live) : liveCount t c j = liveCount s c j := by rw [liveCount, h, liveCount]

@[simp] theorem liveCount_raiseSrc {n : Nat} : liveCount (raiseSrc n s) c j = liveCount s c j := liveCount_eq_of_live (raiseSrc_live ..)

@[simp] theorem liveCount_trace {event slot mode rxseq : Nat} {noSeq : Bool} :
    liveCount (trace ch event slot mode rxseq noSeq s) c j = liveCount s c j := rfl

@[simp] theorem liveCount_setSlot {v : Slot} : liveCount (setSlot ch k v s) c j = liveCount s c j := rfl
@[simp] theorem liveCount_flagSlot {bit : Nat} : liveCount (flagSlot ch k bit s) c j = liveCount s c j := rfl
@[simp] theorem liveCount_setSlotState {v : Nat} : liveCount (setSlotState ch k v s) c j = liveCount s c j := rfl
@[simp] theorem liveCount_setB {off i : Nat} {b : Bool} : liveCount (setB off i b s) c j = liveCount s c j := rfl
@[simp] theorem liveCount_stepSeenUpdate : liveCount (stepSeenUpdate ch s) c j = liveCount s c j := rfl

end

/-! ### The AGC value seen (R124) -/

section
variable (ch : Nat) (found : List Match) (s : State) (c j : Nat)

@[simp] theorem rd_agcSeen (o : Nat) : rd (agcSeen ch found s) o = rd s o := by cases found <;> rfl
@[simp] theorem agcSeen_slots : (agcSeen ch found s).slots = s.slots := by cases found <;> rfl
@[simp] theorem agcSeen_live : (agcSeen ch found s).live = s.live := by cases found <;> rfl

@[simp] theorem slotState_agcSeen : slotState (agcSeen ch found s) c j = slotState s c j := slotState_eq_of_rd (rd_agcSeen ..)
@[simp] theorem getSlot_agcSeen : getSlot (agcSeen ch found s) c j = getSlot s c j := by rw [getSlot, agcSeen_slots, getSlot]
@[simp] theorem liveCount_agcSeen : liveCount (agcSeen ch found s) c j = liveCount s c j := liveCount_eq_of_live (agcSeen_live ..)
theorem agcSeen_agc (m : Match) : tabGet (fun _ => 0) (agcSeen ch (m :: found) s).agc ch = m.agc := tabGet_set_same _ _ _ _

@[simp] theorem getF_agcSeen (o hi lo : Nat) : getF (agcSeen ch found s) o hi lo = getF s o hi lo := getF_eq_of_rd (rd_agcSeen ..) _ _

end

/-! ### Recordings (R135) -/

theorem holdCatchUp_of_noneDue {s : State} (h : blockDue s = none) : holdCatchUp s = s := by
  unfold holdCatchUp growHolds
  rw [h]

/-! ### A reception ends (R138, R141) -/

/-- The counter of an outcome (R141): OK, CRC_FAIL, ABANDONED, FALSE_SYNC, HDR_INVALID. -/
def outcomeCounter (outcome : Nat) : Nat := [1, 2, 5, 3, 4].getD outcome 5

section
variable {c ch j k outcome crc : Nat} {payload soft : List Byte} {s : State}

/-- The states of the slots as the end of a reception reads them. -/
theorem slotState_endReception_same (hk : k < 2) : slotState (endReception ch k outcome payload crc soft s) ch k = 0 := by
  unfold endReception
  simp only
  rw [slotState_stepSeenUpdate hk, slotState_setSlotState_same hk (by omega)]

theorem slotState_endReception_other (hj : j < 2) (other : c ≠ ch ∨ j ≠ k) :
    slotState (endReception ch k outcome payload crc soft s) c j = slotState s c j := by
  have kept : ∀ {p : Prop} [Decidable p] (a b : State), slotState a c j = slotState s c j → slotState b c j = slotState s c j →
      slotState (if p then a else b) c j = slotState s c j := fun a b ha hb => by split <;> assumption
  have counted : ∀ n e x n', slotState (raiseSrc n (trace ch e k x n' false (count ch (outcomeCounter outcome) s))) c j = slotState s c j := by
    intros; simp
  unfold endReception
  simp only
  rw [slotState_stepSeenUpdate hj, slotState_setSlotState_other hj other, slotState_setSlot]
  exact kept _ _ (kept _ _ (counted ..) (counted ..)) (kept _ _ (counted ..) (counted ..))

theorem endReception_live : (endReception ch k outcome payload crc soft s).live = (count ch (outcomeCounter outcome) s).live := by
  unfold endReception
  simp only [stepSeenUpdate_live, setSlotState_live, setSlot_live, apply_ite State.live, raiseSrc_live, trace_live, ite_self]
  rfl

/-- An abandoned reception draws free values and ends ABANDONED (R138). -/
theorem slotState_abandonSlot_same (hk : k < 2) : slotState (abandonSlot ch k s) ch k = 0 := slotState_endReception_same hk

theorem slotState_abandonSlot_other (hj : j < 2) (other : c ≠ ch ∨ j ≠ k) : slotState (abandonSlot ch k s) c j = slotState s c j :=
  slotState_endReception_other hj other

theorem liveCount_abandonSlot : liveCount (abandonSlot ch k s) c j = liveCount (count ch 5 s) c j := liveCount_eq_of_live endReception_live

end

/-! ### A match commits (R127, R139, R140) -/

/-- The slot of a match that commits (R127, R139). -/
def committed (ch : Nat) (m : Match) (flags related : Nat) (pend : Bool) (s : State) : Slot :=
  { rxseq := getF s (chBase ch + 0x30) 15 0, mode := m.mode.val, stamp := s.ntb.net - stampDelay s ch (matchPaths s ch m), step := stepByte s,
    anch := s.ntb.anch - stampDelay s ch (matchPaths s ch m), rssi := m.rssi, snr := m.snr, foff := m.foff, clk := s.ntb.clk,
    agc := tabGet (fun _ => 0) s.agc ch, flags := BitVec.ofNat 32 (flags + commitFlags s ch m), related := related, pendCapture := pend }

section
variable {c ch j k flags related event : Nat} {m : Match} {pend : Bool} {s : State}

/-- The registers and the slot of a commit (R127, R139, R144). -/
def commitWrites (ch k : Nat) (m : Match) (flags related : Nat) (pend : Bool) (s : State) : State :=
  wr (chBase ch + 0x2C) (BitVec.ofNat 32 m.rssi.toNat) (setF (chBase ch + 0x30) 15 0 (getF s (chBase ch + 0x30) 15 0 + 1)
    (setSlotState ch k 1 (setSlot ch k (committed ch m flags related pend s) s)))

theorem commitWrites_live (ch k : Nat) (m : Match) (flags related : Nat) (pend : Bool) (s : State) :
    (commitWrites ch k m flags related pend s).live = s.live := rfl

/-- A commit, operation by operation. -/
theorem commitSlot_eq : commitSlot ch k m flags related pend event s =
    raiseSrc (48 + ch) (trace ch event k m.mode.val (getF s (chBase ch + 0x30) 15 0) false
      (onlyIf (k == 1) (count ch 10) (count ch 0 (commitWrites ch k m flags related pend s)))) := rfl

@[simp] theorem onlyIf_count_slots {b : Bool} : (onlyIf b (count ch k) s).slots = s.slots := by cases b <;> rfl
@[simp] theorem rd_onlyIf_count {b : Bool} {o : Nat} : rd (onlyIf b (count ch k) s) o = rd s o := by cases b <;> rfl

theorem rd_commitSlot {o : Nat} (out : o < chBase ch + 0x100 ∨ chBase ch + 0x184 ≤ o) : rd (commitSlot ch k m flags related pend event s) o =
    rd (wr (chBase ch + 0x2C) (BitVec.ofNat 32 m.rssi.toNat) (setF (chBase ch + 0x30) 15 0 (getF s (chBase ch + 0x30) 15 0 + 1)
      (setSlotState ch k 1 s))) o := by
  rw [commitSlot_eq, rd_raiseSrc, rd_trace _ out, rd_onlyIf_count]
  rfl

theorem slotState_commitSlot : slotState (commitSlot ch k m flags related pend event s) c j = slotState (setSlotState ch k 1 s) c j := by
  refine (slotState_eq_of_rd (rd_commitSlot (by unfold chBase; omega))).trans ?_
  rw [slotState_wr _ (by omega) (by omega), slotState_setF _ _ _ (by omega) (by omega)]

theorem slotState_commitSlot_same (hk : k < 2) : slotState (commitSlot ch k m flags related pend event s) ch k = 1 :=
  slotState_commitSlot.trans (slotState_setSlotState_same hk (by omega))

theorem slotState_commitSlot_other (hj : j < 2) (other : c ≠ ch ∨ j ≠ k) :
    slotState (commitSlot ch k m flags related pend event s) c j = slotState s c j :=
  slotState_commitSlot.trans (slotState_setSlotState_other hj other)

/-- RSSI_LAST and the next RXSEQ (R139, R144). -/
theorem rd_commitSlot_rssi :
    rd (commitSlot ch k m flags related pend event s) (chBase ch + 0x2C) = BitVec.ofNat 32 m.rssi.toNat := by
  rw [rd_commitSlot (by omega), rd_wr_same]

theorem getF_commitSlot_rxseq : getF (commitSlot ch k m flags related pend event s) (chBase ch + 0x30) 15 0 =
    (getF s (chBase ch + 0x30) 15 0 + 1) % 65536 := by
  rw [getF_eq_of_rd (rd_commitSlot (by omega)), getF_eq_of_rd (rd_wr_other _ _ (by omega)), getF_setF_same _ _ _ _ _ (by omega)]
  rfl

theorem liveCount_commitSlot : liveCount (commitSlot ch k m flags related pend event s) c j =
    if k = 1 then liveCount (count ch 10 (count ch 0 s)) c j else liveCount (count ch 0 s) c j := by
  have detect := count_live_congr (ch := ch) (k := 0) (commitWrites_live ch k m flags related pend s)
  rw [commitSlot_eq, liveCount_raiseSrc, liveCount_trace]
  by_cases second : k = 1
  · rw [if_pos second, beq_iff_eq.mpr second, onlyIf, if_pos rfl]
    exact liveCount_eq_of_live (count_live_congr detect)
  · rw [if_neg second, beq_eq_false_iff_ne.mpr second, onlyIf, if_neg Bool.false_ne_true]
    exact liveCount_eq_of_live detect

theorem liveCount_commitSlot_detect : liveCount (commitSlot ch k m flags related pend event s) ch 0 = liveCount s ch 0 + 1 := by
  rw [liveCount_commitSlot, liveCount_count_other (by omega) (by omega) (by omega), ite_self, liveCount_count_same]

/-- A commit into the second slot also counts DETECT2 (R141). -/
theorem liveCount_commitSlot_detect2 : liveCount (commitSlot ch 1 m flags related pend event s) ch 10 = liveCount s ch 10 + 1 := by
  rw [liveCount_commitSlot, if_pos rfl, liveCount_count_same, liveCount_count_other (by omega) (by omega) (by omega)]

theorem liveCount_commitSlot_other (hj : j < 16) (detect : c ≠ ch ∨ j ≠ 0) (second : c ≠ ch ∨ k = 0 ∨ j ≠ 10) :
    liveCount (commitSlot ch k m flags related pend event s) c j = liveCount s c j := by
  rw [liveCount_commitSlot, liveCount_count_other hj (by omega) detect]
  split
  · rw [liveCount_count_other hj (by omega) (by omega), liveCount_count_other hj (by omega) detect]
  · rfl

theorem commitSlot_slots : (commitSlot ch k m flags related pend event s).slots = (setSlot ch k (committed ch m flags related pend s) s).slots := by
  rw [commitSlot_eq, raiseSrc_slots, trace_slots, onlyIf_count_slots]
  rfl

theorem getSlot_commitSlot : getSlot (commitSlot ch k m flags related pend event s) c j =
    getSlot (setSlot ch k (committed ch m flags related pend s) s) c j := by
  rw [getSlot, commitSlot_slots, getSlot]

theorem getSlot_commitSlot_same : getSlot (commitSlot ch k m flags related pend event s) ch k = committed ch m flags related pend s :=
  getSlot_commitSlot.trans getSlot_setSlot_same

theorem getSlot_commitSlot_other (hj : j < 2) (hk : k < 2) (other : c ≠ ch ∨ j ≠ k) :
    getSlot (commitSlot ch k m flags related pend event s) c j = getSlot s c j :=
  getSlot_commitSlot.trans (getSlot_setSlot_other hj hk other)

end

/-! ### A reception is held (R133) -/

section
variable {c ch j k : Nat} {s : State}

theorem slotState_holdSlot_same (hk : k < 2) : slotState (holdSlot ch k s) ch k = 3 :=
  slotState_trace.trans (slotState_setSlotState_same hk (by omega))

theorem slotState_holdSlot_other (hj : j < 2) (other : c ≠ ch ∨ j ≠ k) : slotState (holdSlot ch k s) c j = slotState s c j :=
  slotState_trace.trans (slotState_setSlotState_other hj other)

theorem getSlot_holdSlot : getSlot (holdSlot ch k s) c j = getSlot (flagSlot ch k 6 s) c j :=
  getSlot_trace.trans getSlot_setSlotState

theorem liveCount_holdSlot : liveCount (holdSlot ch k s) c j = liveCount s c j :=
  liveCount_trace.trans (liveCount_setSlotState.trans liveCount_flagSlot)

end

/-! ### The flags of a commit (R140) -/

/-- A set of paths as PATHS shows it. -/
def pathBits (ps : List Nat) : Nat := (ps.map (2 ^ ·)).sum

theorem pathBits_of_sublist {ps : List Nat} (sub : ps.Sublist [0, 1, 2, 3]) :
    pathBits ps < 16 ∧ ∀ p, p < 4 → (pathBits ps).testBit p = decide (p ∈ ps) := by
  have all : ∀ ps ∈ [0, 1, 2, 3].sublists, pathBits ps < 16 ∧ ∀ p, p < 4 → (pathBits ps).testBit p = decide (p ∈ ps) := by decide
  exact all ps (List.mem_sublists.mpr sub)

section
variable {ch flags : Nat} {m : Match} {s : State}

theorem matchPaths_sublist : (matchPaths s ch m).Sublist [0, 1, 2, 3] := by
  have band : ∀ b, (bandPaths s b).Sublist [0, 1, 2, 3] := fun b => by
    unfold bandPaths
    repeat' split
    all_goals decide
  exact List.filter_sublist.trans (List.filter_sublist.trans (band _))

/-- AGC_MOVED, BLANKED, S_IN_PATH, PATHS and SYNC_ERR share no bit. -/
theorem commitFlags_eq : ∃ moved blank, moved < 2 ∧ blank < 2 ∧ commitFlags s ch m = moved + 2 * blank +
    2 ^ 10 * ((matchPaths s ch m).any fun p => pathState s p == 3).toNat + 2 ^ 16 * pathBits (matchPaths s ch m) + 2 ^ 24 * (syncErrs s ch m % 8) := by
  have weigh : ∀ (b : Bool) (n : Nat), (if b then n else 0) = n * b.toNat := fun b n => by cases b <;> simp
  refine ⟨(movedInSync s ch m.mode.val).toNat, ((bandPaths s (chBand s ch)).any (blanked s)).toNat, Bool.toNat_lt _, Bool.toNat_lt _, ?_⟩
  rw [commitFlags, weigh, weigh, weigh, Nat.one_mul]
  rfl

/-- CAPTURED_OVER, OVERLAPPED and SHADOW are bits that a commit's other flags leave free. -/
theorem bitOf_commitFlags {i : Nat} (own : i = 4 ∨ i = 5 ∨ i = 8) : bitOf (BitVec.ofNat 32 (2 ^ i + commitFlags s ch m)) i = true := by
  obtain ⟨moved, blank, hm, hb, eq⟩ := commitFlags_eq (ch := ch) (m := m) (s := s)
  have stands := Bool.toNat_lt ((matchPaths s ch m).any fun p => pathState s p == 3)
  rw [bitOf, BitVec.getLsbD_ofNat, eq, Nat.testBit_eq_decide_div_mod_eq]
  rcases own with rfl | rfl | rfl <;> simp only [Bool.and_eq_true, decide_eq_true_eq] <;> omega

/-- The flags of a match that commits with neither CAPTURED_OVER nor OVERLAPPED nor SHADOW (R140). -/
theorem plainFlags : fieldOf (BitVec.ofNat 32 (commitFlags s ch m)) 8 2 = 0 ∧
    bitOf (BitVec.ofNat 32 (commitFlags s ch m)) 10 = (matchPaths s ch m).any (fun p => pathState s p == 3) ∧
    (∀ p, p < 4 → bitOf (BitVec.ofNat 32 (commitFlags s ch m)) (16 + p) = decide (p ∈ matchPaths s ch m)) ∧
    fieldOf (BitVec.ofNat 32 (commitFlags s ch m)) 26 24 = syncErrs s ch m % 8 := by
  obtain ⟨moved, blank, hm, hb, eq⟩ := commitFlags_eq (ch := ch) (m := m) (s := s)
  obtain ⟨small, named⟩ := pathBits_of_sublist (matchPaths_sublist (ch := ch) (m := m) (s := s))
  generalize (matchPaths s ch m).any (fun p => pathState s p == 3) = stands at eq ⊢
  have hs := Bool.toNat_lt stands
  have word : (BitVec.ofNat 32 (commitFlags s ch m)).toNat = commitFlags s ch m := by
    rw [BitVec.toNat_ofNat]
    exact Nat.mod_eq_of_lt (by omega)
  have bit : ∀ i, bitOf (BitVec.ofNat 32 (commitFlags s ch m)) i = (commitFlags s ch m).testBit i := fun i => by
    rw [bitOf, BitVec.getLsbD, word]
  refine ⟨?_, ?_, fun p hp => ?_, ?_⟩
  · rw [fieldOf, word, Nat.shiftRight_eq_div_pow]
    omega
  · rw [bit, Nat.testBit_eq_decide_div_mod_eq, eq]
    cases stands <;> simp only [Bool.toNat, cond, decide_eq_true_eq, decide_eq_false_iff_not] <;> omega
  · rw [bit, ← named p hp, Nat.testBit_eq_decide_div_mod_eq, Nat.testBit_eq_decide_div_mod_eq, decide_eq_decide, eq]
    interval_cases p <;> omega
  · rw [fieldOf, word, Nat.shiftRight_eq_div_pow]
    omega

end

end Sys2Proof.Machine
end

section
/-! SUPPORT. Sync matches (R124-R134): what becomes of a match that is taken, by the states of the two slots, and the whole statement (O20). -/

namespace Sys2Proof.Machine

/-! ### A match against the other slot (R127, R131, R132) -/

section
variable {ch k : Nat} {m : Match} {s : State}

theorem placeMatch_of_idle (other : slotState s ch (1 - k) = 0) : placeMatch ch k m s = commitSlot ch k m 0 0 false 1 s := if_pos other

theorem placeMatch_of_header (other : slotState s ch (1 - k) = 1) :
    placeMatch ch k m s = commitSlot ch k m (2 ^ 8) 0 (getSlot s ch (1 - k)).stepSeen 1 s := by
  simp [placeMatch, other]

/-- The reception that a match overlaps or captures, with OVERLAPPED and the RXSEQ of the match (R130, R140). -/
def overlapped (ch j : Nat) (s : State) : State :=
  setSlot ch j { getSlot s ch j with flags := (getSlot s ch j).flags ||| 0x20, related := getF s (chBase ch + 0x30) 15 0 } s

theorem placeMatch_of_payload (other : slotState s ch (1 - k) = 2) (noStep : (getSlot s ch (1 - k)).stepSeen = false) :
    placeMatch ch k m s = count ch 14 (commitSlot ch k m (2 ^ 5) (getSlot s ch (1 - k)).rxseq false 6 (overlapped ch (1 - k) s)) := by
  simp [placeMatch, overlapped, other, noStep]

/-- A match captures a payload over which a step is recorded: under KEEP_FIRST it is refused (R131). -/
theorem placeMatch_keepFirst (other : slotState s ch (1 - k) = 2) (step : (getSlot s ch (1 - k)).stepSeen = true)
    (policy : getF s (chBase ch + 0x10) 1 0 = 0) :
    placeMatch ch k m s = trace ch 13 k m.mode.val 0 true (count ch 8 (count ch 7 s)) := by
  simp [placeMatch, other, step, policy]

/-- Under SWITCH the earlier reception is abandoned. -/
theorem placeMatch_switch (other : slotState s ch (1 - k) = 2) (step : (getSlot s ch (1 - k)).stepSeen = true)
    (policy : getF s (chBase ch + 0x10) 1 0 = 1) : placeMatch ch k m s =
      commitSlot ch k m (2 ^ 4) (getSlot s ch (1 - k)).rxseq false 5 (abandonSlot ch (1 - k) (overlapped ch (1 - k) (count ch 7 s))) := by
  simp [placeMatch, overlapped, other, step, policy]
  rfl

/-- Under BOTH it is held where its recording runs (R133). -/
theorem placeMatch_both (other : slotState s ch (1 - k) = 2) (step : (getSlot s ch (1 - k)).stepSeen = true)
    (policy : 2 ≤ getF s (chBase ch + 0x10) 1 0) : placeMatch ch k m s =
      onlyIf (decide ((getSlot s ch (1 - k)).blocks ≠ 0)) (holdSlot ch (1 - k))
        (commitSlot ch k m (2 ^ 4) (getSlot s ch (1 - k)).rxseq false 5 (overlapped ch (1 - k) (count ch 7 s))) := by
  have hp : getF s (chBase ch + 0x10) 1 0 ≠ 0 ∧ getF s (chBase ch + 0x10) 1 0 ≠ 1 := by omega
  simp [placeMatch, overlapped, onlyIf, other, step, hp]
  rfl

end

/-! ### A match that is taken (R124-R126) -/

section
variable {ch : Fin 64} {m : Match} {s : State}

theorem syncMatch_of_taken (due : blockDue s = none) (taken : passing s ch.val [m] = [m]) : syncMatch ch [m] s =
    if applyPending s (chBase ch.val) && !applyHeld s (chBase ch.val) then
      trace ch.val 14 0 m.mode.val 0 true (count ch.val 11 (agcSeen ch.val [m] s))
    else if slotState s ch.val 0 = 0 then placeMatch ch.val 0 m (agcSeen ch.val [m] s)
    else if slotState s ch.val 1 = 0 then placeMatch ch.val 1 m (agcSeen ch.val [m] s)
    else trace ch.val 12 0 m.mode.val 0 true (count ch.val 6 (agcSeen ch.val [m] s)) := by
  have same : passing (agcSeen ch.val [m] s) ch.val [m] = [m] := taken
  unfold syncMatch
  simp only [holdCatchUp_of_noneDue due, same]
  rfl

theorem syncMatch_second (due : blockDue s = none) (taken : passing s ch.val [m] = [m]) (noApply : applyPending s (chBase ch.val) = false)
    (first : slotState s ch.val 0 ≠ 0) (second : slotState s ch.val 1 = 0) :
    syncMatch ch [m] s = placeMatch ch.val 1 m (agcSeen ch.val [m] s) := by
  rw [syncMatch_of_taken due taken, noApply, if_neg (by simp), if_neg first, if_pos second]

theorem syncMatch_of_none {found : List Match} (due : blockDue s = none) (none' : passing s ch.val found = []) :
    syncMatch ch found s = agcSeen ch.val found s := by
  have same : passing (agcSeen ch.val found s) ch.val found = [] := by cases found <;> exact none'
  unfold syncMatch
  simp only [holdCatchUp_of_noneDue due, same]
  rfl

/-- The conditions of R125 make a match pass where no reception of the channel is in progress (R126). -/
theorem passing_of_conditions (on : getB s (chBase ch.val + 4) 0 = true) (up : getB s (chBase ch.val + 0x24) 8 = false)
    (run : inWatch s = false) (hears : bandHears s (chBand s ch.val) = true) (mode : m.mode.val ∈ chModes s ch.val) (preamble : 16 ≤ m.preamble)
    (paths : matchPaths s ch.val m ≠ []) (sync : syncErrs s ch.val m ≤ getF s (chBase ch.val + 0x1C) 2 0)
    (offset : offsetOk s ch.val m.mode.val m.foff = true) (first : slotState s ch.val 0 = 0) (second : slotState s ch.val 1 = 0) :
    passing s ch.val [m] = [m] := by
  simp [passing, sameFrame, on, up, run, hears, mode, preamble, paths, sync, offset, first, second]

/-! ### What becomes of it -/

/-- A refused match is counted and traced, and no slot changes. -/
theorem refused {k event : Nat} (hk : k < 16) :
    let t := trace ch.val event 0 m.mode.val 0 true (count ch.val k (agcSeen ch.val [m] s))
    t.slots = s.slots ∧ liveCount t ch.val k = liveCount s ch.val k + 1 ∧
      (∀ j, j < 16 → j ≠ k → liveCount t ch.val j = liveCount s ch.val j) ∧ rd t (chBase ch.val + 0x24) = rd s (chBase ch.val + 0x24) := by
  have counted : ∀ j, liveCount (trace ch.val event 0 m.mode.val 0 true (count ch.val k (agcSeen ch.val [m] s))) ch.val j =
      liveCount (count ch.val k (agcSeen ch.val [m] s)) ch.val j := fun _ => liveCount_trace
  refine ⟨(trace_slots _).trans (agcSeen_slots ..), ?_, fun j hj other => ?_, (rd_trace _ (by omega)).trans (rd_agcSeen ..)⟩
  · rw [counted, liveCount_count_same, liveCount_agcSeen]
  · rw [counted, liveCount_count_other hj hk (.inr other), liveCount_agcSeen]

/-- With both slots free a match commits as the primary. -/
theorem syncMatch_primary (due : blockDue s = none) (taken : passing s ch.val [m] = [m]) (noApply : applyPending s (chBase ch.val) = false)
    (first : slotState s ch.val 0 = 0) (second : slotState s ch.val 1 = 0) :
    syncMatch ch [m] s = commitSlot ch.val 0 m 0 0 false 1 (agcSeen ch.val [m] s) := by
  rw [syncMatch_of_taken due taken, noApply, if_neg (by simp), if_pos first]
  exact placeMatch_of_idle second

end

section
variable {ch : Nat} {m : Match} {s : State}

/-- A primary commit, as the statement of O20 describes it. -/
theorem primaryCommit (second : slotState s ch 1 = 0) (sync : syncErrs s ch m ≤ getF s (chBase ch + 0x1C) 2 0) :
    let t := commitSlot ch 0 m 0 0 false 1 (agcSeen ch [m] s)
    slotState t ch 0 = 1 ∧ slotState t ch 1 = 0 ∧ getF t (chBase ch + 0x30) 15 0 = (getF s (chBase ch + 0x30) 15 0 + 1) % 65536 ∧
      rd t (chBase ch + 0x2C) = BitVec.ofNat 32 m.rssi.toNat ∧
      liveCount t ch 0 = liveCount s ch 0 + 1 ∧ (∀ k, 0 < k → k < 16 → liveCount t ch k = liveCount s ch k) ∧
      (getSlot t ch 0).rxseq = getF s (chBase ch + 0x30) 15 0 ∧ (getSlot t ch 0).mode = m.mode.val ∧
      (getSlot t ch 0).stamp = s.ntb.net - stampDelay s ch (matchPaths s ch m) ∧ (getSlot t ch 0).rssi = m.rssi ∧
      (getSlot t ch 0).snr = m.snr ∧ (getSlot t ch 0).foff = m.foff ∧ (getSlot t ch 0).agc = m.agc ∧
      fieldOf (getSlot t ch 0).flags 8 2 = 0 ∧
      bitOf (getSlot t ch 0).flags 10 = (matchPaths s ch m).any (fun p => pathState s p == 3) ∧
      (∀ p, p < 4 → bitOf (getSlot t ch 0).flags (16 + p) = decide (p ∈ matchPaths s ch m)) ∧
      fieldOf (getSlot t ch 0).flags 26 24 = syncErrs s ch m := by
  have few : syncErrs s ch m % 8 = syncErrs s ch m := Nat.mod_eq_of_lt (sync.trans_lt (fieldOf_lt ..))
  have flags : (committed ch m 0 0 false (agcSeen ch [m] s)).flags = BitVec.ofNat 32 (commitFlags s ch m) := by
    simp only [committed, Nat.zero_add]
    rfl
  obtain ⟨noCode, stands, named, errs⟩ := plainFlags (ch := ch) (m := m) (s := s)
  simp only [getSlot_commitSlot_same, flags]
  refine ⟨slotState_commitSlot_same (by omega), ?_, ?_, rd_commitSlot_rssi, ?_, fun k pos hk => ?_, ?_, rfl, rfl, rfl, rfl, rfl,
    ?_, noCode, stands, named, errs.trans few⟩
  · rw [slotState_commitSlot_other (by omega) (by omega), slotState_agcSeen, second]
  · rw [getF_commitSlot_rxseq, getF_agcSeen]
  · rw [liveCount_commitSlot_detect, liveCount_agcSeen]
  · rw [liveCount_commitSlot_other hk (by omega) (by omega), liveCount_agcSeen]
  · rw [committed, getF_agcSeen]
  · exact agcSeen_agc ..

/-- A shadow commit (R127, R132). -/
theorem shadowCommit (first : slotState s ch 0 = 1) {pend : Bool} :
    let t := commitSlot ch 1 m (2 ^ 8) 0 pend 1 s
    slotState t ch 0 = 1 ∧ slotState t ch 1 = 1 ∧ bitOf (getSlot t ch 1).flags 8 = true ∧ (getSlot t ch 1).pendCapture = pend ∧
      liveCount t ch 0 = liveCount s ch 0 + 1 ∧ liveCount t ch 10 = liveCount s ch 10 + 1 := by
  simp only [getSlot_commitSlot_same]
  refine ⟨?_, slotState_commitSlot_same (by omega), bitOf_commitFlags (by omega), rfl, liveCount_commitSlot_detect, liveCount_commitSlot_detect2⟩
  rw [slotState_commitSlot_other (by omega) (by omega), first]

/-- An overlap commit (R130): each of the two receptions names the other. -/
theorem overlapCommit (first : slotState s ch 0 = 2) :
    let t := count ch 14 (commitSlot ch 1 m (2 ^ 5) (getSlot s ch 0).rxseq false 6 (overlapped ch 0 s))
    slotState t ch 0 = 2 ∧ slotState t ch 1 = 1 ∧ bitOf (getSlot t ch 0).flags 5 = true ∧ bitOf (getSlot t ch 1).flags 5 = true ∧
      (getSlot t ch 0).related = (getSlot t ch 1).rxseq ∧ (getSlot t ch 1).related = (getSlot s ch 0).rxseq ∧
      liveCount t ch 14 = liveCount s ch 14 + 1 := by
  simp only [getSlot_count, slotState_count, getSlot_commitSlot_same, liveCount_count_same]
  rw [getSlot_commitSlot_other (by omega) (by omega) (by omega), overlapped, getSlot_setSlot_same]
  refine ⟨?_, slotState_commitSlot_same (by omega), by simp [bitOf], bitOf_commitFlags (by omega), rfl, rfl, ?_⟩
  · rw [slotState_commitSlot_other (by omega) (by omega), slotState_setSlot, first]
  · rw [liveCount_commitSlot_other (by omega) (by omega) (by omega), liveCount_setSlot]

/-- A capture under KEEP_FIRST is counted as CAPTURE and CAPTURE_IGNORED, and nothing commits. -/
theorem captureKeepFirst :
    let t := trace ch 13 1 m.mode.val 0 true (count ch 8 (count ch 7 s))
    t.slots = s.slots ∧ liveCount t ch 7 = liveCount s ch 7 + 1 ∧ liveCount t ch 8 = liveCount s ch 8 + 1 ∧ liveCount t ch 0 = liveCount s ch 0 := by
  simp only [trace_slots, liveCount_trace, liveCount_count_same]
  refine ⟨rfl, ?_, ?_, ?_⟩
  · rw [liveCount_count_other (by omega) (by omega) (by omega), liveCount_count_same]
  · rw [liveCount_count_other (by omega) (by omega) (by omega)]
  · rw [liveCount_count_other (by omega) (by omega) (by omega), liveCount_count_other (by omega) (by omega) (by omega)]

/-- A capture under SWITCH: the earlier reception ends ABANDONED. -/
theorem captureSwitch {related : Nat} :
    let t := commitSlot ch 1 m (2 ^ 4) related false 5 (abandonSlot ch 0 (overlapped ch 0 (count ch 7 s)))
    liveCount t ch 7 = liveCount s ch 7 + 1 ∧ slotState t ch 0 = 0 ∧ slotState t ch 1 = 1 ∧ bitOf (getSlot t ch 1).flags 4 = true ∧
      liveCount t ch 5 = liveCount s ch 5 + 1 ∧ (getSlot t ch 1).related = related := by
  simp only [getSlot_commitSlot_same]
  refine ⟨?_, ?_, slotState_commitSlot_same (by omega), bitOf_commitFlags (by omega), ?_, rfl⟩
  · rw [liveCount_commitSlot_other (by omega) (by omega) (by omega), liveCount_abandonSlot,
      liveCount_count_other (by omega) (by omega) (by omega), overlapped, liveCount_setSlot, liveCount_count_same]
  · rw [slotState_commitSlot_other (by omega) (by omega), slotState_abandonSlot_same (by omega)]
  · rw [liveCount_commitSlot_other (by omega) (by omega) (by omega), liveCount_abandonSlot, liveCount_count_same, overlapped,
      liveCount_setSlot, liveCount_count_other (by omega) (by omega) (by omega)]

/-- A capture under BOTH; with its recording the earlier reception is held. -/
theorem captureBoth {related : Nat} :
    let t := commitSlot ch 1 m (2 ^ 4) related false 5 (overlapped ch 0 (count ch 7 s))
    liveCount t ch 7 = liveCount s ch 7 + 1 ∧ slotState (holdSlot ch 0 t) ch 0 = 3 ∧ slotState (holdSlot ch 0 t) ch 1 = 1 ∧
      bitOf (getSlot (holdSlot ch 0 t) ch 1).flags 4 = true ∧ bitOf (getSlot (holdSlot ch 0 t) ch 0).flags 5 = true ∧
      bitOf (getSlot (holdSlot ch 0 t) ch 0).flags 6 = true := by
  intro t
  have captor : getSlot t ch 1 = committed ch m (2 ^ 4) related false (overlapped ch 0 (count ch 7 s)) := getSlot_commitSlot_same
  have marked : (getSlot t ch 0).flags = (getSlot s ch 0).flags ||| 0x20 := by
    rw [getSlot_commitSlot_other (by omega) (by omega) (by omega), overlapped, getSlot_setSlot_same, getSlot_count]
  refine ⟨?_, slotState_holdSlot_same (by omega), ?_, ?_, ?_, ?_⟩
  · rw [liveCount_commitSlot_other (by omega) (by omega) (by omega), overlapped, liveCount_setSlot, liveCount_count_same]
  · rw [slotState_holdSlot_other (by omega) (by omega), slotState_commitSlot_same (by omega)]
  · rw [getSlot_holdSlot, flagSlot, getSlot_setSlot_other (by omega) (by omega) (by omega), captor]
    exact bitOf_commitFlags (by omega)
  · rw [getSlot_holdSlot, flagSlot, getSlot_setSlot_same, marked]
    simp [bitOf]
  · rw [getSlot_holdSlot, flagSlot, getSlot_setSlot_same]
    simp [bitOf]

/-- A match over a payload with a step recorded, under each policy (R131). -/
theorem captured (first : slotState s ch 0 = 2) (step : (getSlot s ch 0).stepSeen = true) :
    let t := placeMatch ch 1 m (agcSeen ch [m] s)
    liveCount t ch 7 = liveCount s ch 7 + 1 ∧
      (getF s (chBase ch + 0x10) 1 0 = 0 → t.slots = s.slots ∧ liveCount t ch 8 = liveCount s ch 8 + 1 ∧ liveCount t ch 0 = liveCount s ch 0) ∧
      (getF s (chBase ch + 0x10) 1 0 = 1 → slotState t ch 0 = 0 ∧ slotState t ch 1 = 1 ∧
        bitOf (getSlot t ch 1).flags 4 = true ∧ liveCount t ch 5 = liveCount s ch 5 + 1 ∧ (getSlot t ch 1).related = (getSlot s ch 0).rxseq) ∧
      (getF s (chBase ch + 0x10) 1 0 = 2 → (getSlot s ch 0).blocks ≠ 0 → slotState t ch 0 = 3 ∧ slotState t ch 1 = 1 ∧
        bitOf (getSlot t ch 1).flags 4 = true ∧ bitOf (getSlot t ch 0).flags 5 = true ∧ bitOf (getSlot t ch 0).flags 6 = true) := by
  have second : slotState (agcSeen ch [m] s) ch (1 - 1) = 2 := first
  have recorded : (getSlot (agcSeen ch [m] s) ch (1 - 1)).stepSeen = true := step
  obtain keep | switch | both : getF s (chBase ch + 0x10) 1 0 = 0 ∨ getF s (chBase ch + 0x10) 1 0 = 1 ∨ 2 ≤ getF s (chBase ch + 0x10) 1 0 := by omega
  · rw [placeMatch_keepFirst second recorded (by rwa [getF_agcSeen])]
    obtain ⟨slots, captures, ignored, detects⟩ := captureKeepFirst (ch := ch) (m := m) (s := agcSeen ch [m] s)
    rw [liveCount_agcSeen] at captures ignored detects
    rw [agcSeen_slots] at slots
    exact ⟨captures, fun _ => ⟨slots, ignored, detects⟩, fun h => by omega, fun h => by omega⟩
  · rw [placeMatch_switch second recorded (by rwa [getF_agcSeen])]
    obtain ⟨captures, free, taken, flag, abandoned, names⟩ := captureSwitch (ch := ch) (m := m) (s := agcSeen ch [m] s)
      (related := (getSlot (agcSeen ch [m] s) ch (1 - 1)).rxseq)
    rw [liveCount_agcSeen] at captures abandoned
    exact ⟨captures, fun h => by omega, fun _ => ⟨free, taken, flag, abandoned, names⟩, fun h => by omega⟩
  · rw [placeMatch_both second recorded (by rwa [getF_agcSeen])]
    obtain ⟨captures, held⟩ := captureBoth (ch := ch) (m := m) (s := agcSeen ch [m] s)
      (related := (getSlot (agcSeen ch [m] s) ch (1 - 1)).rxseq)
    rw [liveCount_agcSeen] at captures
    by_cases blocks : (getSlot s ch 0).blocks ≠ 0
    · rw [show decide ((getSlot (agcSeen ch [m] s) ch (1 - 1)).blocks ≠ 0) = true from decide_eq_true blocks, onlyIf, if_pos rfl]
      exact ⟨liveCount_holdSlot.trans captures, fun h => by omega, fun h => by omega, fun _ _ => held⟩
    · rw [show decide ((getSlot (agcSeen ch [m] s) ch (1 - 1)).blocks ≠ 0) = false from decide_eq_false blocks, onlyIf, if_neg (by simp)]
      exact ⟨captures, fun h => by omega, fun h => by omega, fun _ h => absurd h blocks⟩

end

/-! ### The statement -/

/-- Settles O20: each clause is what `placeMatch` does in one state of the other slot, or a refusal. -/
theorem channelMatches : Obligations.ChannelMatches := by
  refine ⟨fun ch m s due taken pending free => ⟨_, rfl, ?_⟩, fun ch m s due taken noApply first second => ⟨_, rfl, ?_⟩,
    fun ch m s due on up run hears mode preamble paths sync offset noApply first second => ⟨_, rfl, ?_⟩,
    fun ch m s due taken noApply first second => ⟨_, rfl, ?_⟩, fun ch m s due taken noApply first second noStep => ⟨_, rfl, ?_⟩,
    fun ch m s due taken noApply first second step => ⟨_, rfl, ?_⟩, fun ch s due => ?_, fun ch m ms s due none' => ⟨_, rfl, ?_⟩⟩
  · rw [syncMatch_of_taken due taken, pending, free]
    exact refused (by omega)
  · rw [syncMatch_of_taken due taken, noApply, if_neg (by simp), if_neg first, if_neg second]
    exact refused (by omega)
  · have taken := passing_of_conditions on up run hears mode preamble paths sync offset first second
    rw [syncMatch_primary due taken noApply first second]
    exact primaryCommit second sync
  · rw [syncMatch_second due taken noApply (by omega) second, placeMatch_of_header first]
    simpa using shadowCommit (m := m) (s := agcSeen ch.val [m] s) first
  · rw [syncMatch_second due taken noApply (by omega) second, placeMatch_of_payload first noStep]
    simpa using overlapCommit (m := m) (s := agcSeen ch.val [m] s) first
  · rw [syncMatch_second due taken noApply (by omega) second]
    exact captured first step
  · exact congrArg Host.Outcome.next (syncMatch_of_none due (by simp [passing]))
  · rw [syncMatch_of_none due none']
    exact ⟨agcSeen_agc .., rfl⟩

end Sys2Proof.Machine
end

section
/-! SUPPORT. What follows a record (R177, R202, R203, R212, R222-R226, R334): the matching of windows, presence frames and the settling leave
the registers and the live counters of every channel as they were. -/

namespace Sys2Proof.Machine

/-- Whether an offset lies outside the registers of the channels. -/
def OffChannels (o : Nat) : Prop := o < 0x50000 ∨ 0x60000 ≤ o

/-- `t` is as `s` in the registers and the live counters of the channels. -/
structure ChannelsKept (s t : State) : Prop where
  live : t.live = s.live
  regs : ∀ o, ¬ OffChannels o → rd t o = rd s o

namespace ChannelsKept

theorem refl (s : State) : ChannelsKept s s := ⟨rfl, fun _ _ => rfl⟩

section
variable {s t : State} (h : ChannelsKept s t)
include h

/-- A change of anything else. -/
theorem frame {u : State} (live : u.live = t.live := by rfl) (reg : u.reg = t.reg := by rfl) : ChannelsKept s u :=
  ⟨live.trans h.live, fun o inside => (by rw [rd, reg, rd] : rd u o = rd t o).trans (h.regs o inside)⟩

theorem wr {off : Nat} {v : Word} (off' : OffChannels off) : ChannelsKept s (wr off v t) :=
  ⟨h.live, fun o inside => (rd_wr_other _ _ (fun e : o = off => inside (e ▸ off'))).trans (h.regs o inside)⟩

theorem setF {off hi lo v : Nat} (off' : OffChannels off) : ChannelsKept s (setF off hi lo v t) := h.wr off'
theorem setB {off i : Nat} {b : Bool} (off' : OffChannels off) : ChannelsKept s (setB off i b t) := h.wr off'
theorem incW {off : Nat} (off' : OffChannels off) : ChannelsKept s (incW off t) := h.wr off'

omit h in
theorem ite {c : Prop} [Decidable c] {a b : State} (ha : ChannelsKept s a) (hb : ChannelsKept s b) : ChannelsKept s (if c then a else b) := by
  split
  · exact ha
  · exact hb

omit h in
theorem when {c : Prop} [Decidable c] {f : State → State} {x : State} (hx : ChannelsKept s x)
    (hf : ∀ t, ChannelsKept s t → ChannelsKept s (f t)) : ChannelsKept s (if c then f x else x) := ite (hf x hx) hx

theorem onlyIf {c : Bool} {f : State → State} (hf : ∀ t, ChannelsKept s t → ChannelsKept s (f t)) : ChannelsKept s (onlyIf c f t) :=
  ite (hf t h) h

theorem forAll_mem {α : Type} {xs : List α} {f : α → State → State} (hf : ∀ x ∈ xs, ∀ t, ChannelsKept s t → ChannelsKept s (f x t)) :
    ChannelsKept s (forAll xs f t) := by
  induction xs generalizing t with
  | nil => exact h
  | cons x xs ih => exact ih (hf x (List.mem_cons_self ..) t h) fun y hy => hf y (List.mem_cons_of_mem _ hy)

theorem forAll {α : Type} {xs : List α} {f : α → State → State} (hf : ∀ x t, ChannelsKept s t → ChannelsKept s (f x t)) :
    ChannelsKept s (forAll xs f t) := h.forAll_mem fun x _ => hf x

/-! ### Sources, messages, events and frames -/

theorem raiseSrc {n : Nat} : ChannelsKept s (raiseSrc n t) := ite h h.frame
theorem sendR {typ : Nat} {b : List Byte} : ChannelsKept s (sendR typ b t) := h.frame
theorem sendEvent {m : List Byte} : ChannelsKept s (sendEvent m t) := ite h.sendR (ite h.frame h.frame)

theorem logWrite {source code : Nat} {args : List Byte} : ChannelsKept s (logWrite source code args t) := by
  have shown : ∀ u, ChannelsKept s u → ∀ v w, ChannelsKept s (Machine.wr 0xC0024 w (Machine.wr 0xC0020 v u)) := fun u hu v w =>
    (hu.wr (by unfold OffChannels; omega)).wr (by unfold OffChannels; omega)
  unfold Machine.logWrite
  simp only
  split
  · exact shown _ h.frame _ _
  · exact sendR (shown _ h.frame _ _)

theorem raiseEvt {source code : Nat} {args : List Byte} : ChannelsKept s (raiseEvt source code args t) := logWrite (sendEvent h.frame)

theorem completion {tag target opcode status : Nat} {b : List Byte} : ChannelsKept s (completion tag target opcode status b t) :=
  logWrite (sendEvent h.frame)

theorem setCls {q c : Nat} {v : MrClass} : ChannelsKept s (setCls q c v t) := h.frame

omit h in
theorem off_mooring (p d : Nat) : OffChannels (mrBase p + d) := by unfold OffChannels mrBase; omega

theorem emit {q c n : Nat} {m : MrMsg} : ChannelsKept s (emit q c n m t) := incW h.frame (off_mooring ..)
theorem pump {q c : Nat} : ChannelsKept s (pump q c t) := forAll h.setCls fun _ _ h => h.emit

theorem queueFrame {q c : Nat} {m : MrMsg} : ChannelsKept s (queueFrame q c m t) :=
  ite h.setCls.pump (ite (emit h.frame) (ite (h.incW (off_mooring ..)) (emit h.frame)))

theorem broadcast {typ : Nat} {b : List Byte} : ChannelsKept s (broadcast typ b t) := forAll h.frame fun _ _ h => ite h.queueFrame h

theorem sendMr {c typ dst : Nat} {b : List Byte} : ChannelsKept s (sendMr c typ dst b t) := by
  unfold Machine.sendMr routeFrame routeSince
  split
  · exact h.queueFrame
  · exact ite h.frame h

/-! ### Commands that complete (R334) -/

theorem askAnswer {dev tag status : Nat} {b : List Byte} : ChannelsKept s (askAnswer dev tag status b t) := by
  unfold Machine.askAnswer
  split
  · exact h
  · exact ite (completion h.frame) h.frame

theorem completeFor {p : Pend} {status : Nat} {b : List Byte} : ChannelsKept s (completeFor p status b t) :=
  ite (ite h.askAnswer h.completion) (sendMr h.frame)

theorem finishPend {test : Pend → Bool} {status : Nat} {b : List Byte} : ChannelsKept s (finishPend test status b t) := by
  unfold Machine.finishPend
  split
  · exact h
  · exact completeFor h.frame

theorem finishTag {opcode tag origin status : Nat} {b : List Byte} : ChannelsKept s (finishTag opcode tag origin status b t) := h.finishPend

/-! ### The entries of the operation queue (R222-R226) -/

omit h in
theorem off_op (n d : Nat) : OffChannels (opBase n + d) := by unfold OffChannels opBase; omega

theorem setOp {n : Nat} {v : OpRun} : ChannelsKept s (setOp n v t) := h.frame
theorem setOpState {n v : Nat} : ChannelsKept s (setOpState n v t) := h.setF (off_op ..)
theorem opEvt {n : Nat} {atStart : Bool} : ChannelsKept s (opEvt n atStart t) := ite h.raiseSrc h
theorem opActivate {n : Nat} : ChannelsKept s (opActivate n t) := ite h.setOpState.opEvt h
theorem dropShadows {lo hi : Nat} : ChannelsKept s (dropShadows lo hi t) := h.frame

theorem copyShadows {lo hi : Nat} (unit : ∀ o, lo ≤ o → o < hi → OffChannels o) : ChannelsKept s (copyShadows lo hi t) := by
  refine dropShadows (h.forAll_mem fun x hx u hu => hu.wr ?_)
  obtain ⟨y, -, hy⟩ := List.mem_filterMap.mp hx
  split at hy
  · obtain ⟨v, -, rfl⟩ := Option.map_eq_some_iff.mp hy
    exact unit _ ‹_ ∧ _›.1 ‹_ ∧ _›.2
  · cases hy

theorem applyRun {a lo hi src blk : Nat} {check : State → Nat} {after : State → State} (own : OffChannels a)
    (unit : ∀ o, lo ≤ o → o < hi → OffChannels o) (hf : ∀ t, ChannelsKept s t → ChannelsKept s (after t)) :
    ChannelsKept s (applyRun a lo hi src blk check after t) :=
  ite (ite (hf _ (raiseSrc (setB (setF (h.copyShadows unit) own) own)))
    (raiseEvt (raiseSrc (setB (setF (setB h.dropShadows own) own) own)))) h

theorem opApply {n : Nat} : ChannelsKept s (opApply n t) :=
  ite h (h.applyRun (off_op n 0) (fun o _ _ => by unfold OffChannels; unfold opBase at *; omega) fun _ h => h.onlyIf fun _ h => h.setOpState)

theorem opComplete {n result at' step value : Nat} : ChannelsKept s (opComplete n result at' step value t) :=
  opApply (opEvt (setOp (wr (wr (wr (wr (setOpState (h.setF (off_op ..))) (off_op ..)) (off_op ..)) (off_op ..)) (off_op ..))))

theorem opEnd {n result value : Nat} : ChannelsKept s (opEnd n result value t) := h.opComplete

theorem startNow {n : Nat} : ChannelsKept s (startNow n t) :=
  ite h.opActivate.opEnd (ite h.opActivate.opEnd (when h.opActivate fun _ h => h.opEnd))

theorem opArmAt {n : Nat} {trigger : Option Nat} : ChannelsKept s (opArmAt n trigger t) := by
  have armed : ChannelsKept s (Machine.setOpState n 2 (Machine.setF (opBase n + 0x28) 19 8 0 (Machine.setOp n { trigger := trigger } t))) :=
    setOpState (h.setOp.setF (off_op ..))
  exact ite h (ite (h.setB (off_op ..)) (ite armed (ite (ite armed.setOp.opActivate (startNow (armed.setB (off_op ..)))) armed.opEnd)))

theorem takeEntry {n : Nat} {e : OpSpec} : ChannelsKept s (takeEntry n e t) := by
  have off : ∀ d, OffChannels (opBase n + d) := off_op n
  exact opArmAt (setOpState ((((((((h.wr (off _)).wr (off _)).wr (off _)).wr (off _)).wr (off _)).wr (off _)).wr (off _)).wr (off _)))

theorem setUse {n : Nat} {u : OpUse} : ChannelsKept s (setUse n u t) := h.frame

theorem poolUsedUp : ChannelsKept s (Machine.setB 0x78004 16 true (Machine.incW 0x78008 t)) :=
  (h.incW (by unfold OffChannels; omega)).setB (by unfold OffChannels; omega)

theorem takeTx {use : OpUse} {ch mode pre power owner start : Nat} {desc : List Byte} :
    ChannelsKept s (takeTx use ch mode pre power owner start desc t) := by
  unfold Machine.takeTx
  split
  · exact h.poolUsedUp
  · exact takeEntry h.frame

theorem takeWindow {use : OpUse} {ch mode owner opens durUs : Nat} {u : State} (taken : takeWindow use ch mode owner opens durUs t = some u) :
    ChannelsKept s u := by
  obtain ⟨e, -, rfl⟩ := Option.map_eq_some_iff.mp taken
  exact h.setUse.takeEntry

theorem windowMatch {n : Nat} {r : RxRec} : ChannelsKept s (windowMatch n r t) := h.opComplete
theorem windowJudge {n : Nat} : ChannelsKept s (windowJudge n t) := ite h.opComplete h

theorem hostMatch {r : RxRec} : ChannelsKept s (hostMatch r t) := ite h (h.forAll fun _ _ h => h.windowMatch)

/-! ### Nodes and their events (R203, R212, R243, R248, R363) -/

theorem setRun {n : Nat} {r : NodeRun} : ChannelsKept s (setRun n r t) := h.frame
theorem setCtx {n : Nat} {c : Ctx} : ChannelsKept s (setCtx n c t) := h.frame
theorem commitCtx {n : Nat} {c : Ctx} : ChannelsKept s (commitCtx n c t) := h.frame

theorem counterUpdateOut {n : Nat} : ChannelsKept s (counterUpdateOut n t) := h.forAll fun _ _ h => h.sendMr

theorem sendContext {n role dest : Nat} : ChannelsKept s (sendContext n role dest t) := by
  unfold Machine.sendContext
  split
  · exact h.raiseEvt
  · exact h.sendMr

theorem carryConn {n : Nat} : ChannelsKept s (carryConn n t) :=
  forAll (ite h.counterUpdateOut h.counterUpdateOut.sendContext) fun _ _ h => h.sendContext

theorem connInForce {n : Nat} {x : ConnChange} : ChannelsKept s (connInForce n x t) := carryConn (commitCtx h.setRun)

theorem advanceK {n : Nat} : ChannelsKept s (advanceK n t) := by
  have next := h.commitCtx (n := n) (c := { getCtx t n with k := ((getCtx t n).k + 1) % 2 ^ 32 })
  unfold Machine.advanceK
  simp only
  split
  · exact ite next.setRun.connInForce next.setRun
  · exact next.setRun

theorem windowMissed {n : Nat} : ChannelsKept s (windowMissed n t) :=
  ite (incW (broadcast (setRun (advanceK h.commitCtx))) (by unfold OffChannels; omega)) (advanceK h.commitCtx)

theorem matchWindows {n : Nat} {r : RxRec} : ChannelsKept s (matchWindows n r t) :=
  h.forAll fun _ _ h => ite h.setUse (ite h.setUse.opActivate.windowMatch h.setUse.opEnd)

theorem heardNow {n : Nat} : ChannelsKept s (heardNow n t) := ite h.setCtx.raiseEvt h.setCtx
theorem touch {n : Nat} {r : RxRec} : ChannelsKept s (touch n r t) := heardNow h.setCtx.setRun
theorem observe {n j : Nat} {sObs : Int} {temp : Option Int} : ChannelsKept s (observe n j sObs temp t) := h.setCtx.setRun

theorem connSettle {n ch k : Nat} : ChannelsKept s (connSettle n ch k t) := by
  unfold Machine.connSettle
  split
  · exact h
  · exact ite h.connInForce.finishTag h.setRun.finishTag

/-! ### Downlinks (R19, R177, R201, R202) -/

theorem dlSync {n : Nat} : ChannelsKept s (dlSync n t) := h.commitCtx
theorem setHead {n : Nat} {d : Downlink} : ChannelsKept s (setHead n d t) := ite h.setRun h.setRun.dlSync
theorem reserveCheck {n : Nat} : ChannelsKept s (reserveCheck n t) := ite h.setRun.counterUpdateOut h

theorem endHead {n status : Nat} : ChannelsKept s (endHead n status t) := by
  unfold Machine.endHead
  simp only
  split
  · exact h
  · exact h.setRun.dlSync.finishTag

theorem sealHead {n : Nat} : ChannelsKept s (sealHead n t) := by
  have sealed : ∀ c d, ChannelsKept s (Machine.reserveCheck n (Machine.setHead n d (Machine.commitCtx n c t))) := fun _ _ =>
    h.commitCtx.setHead.reserveCheck
  unfold Machine.sealHead
  simp only
  split
  · exact h
  · exact ite h (ite (ite h.setRun.finishTag h.endHead) (sealed _ _))

theorem sendHead {n ch start : Nat} : ChannelsKept s (sendHead n ch start t) := by
  unfold Machine.sendHead
  split
  · exact h
  · simp only
    split
    · exact h.sealHead
    · exact h.sealHead.setRun.takeTx

theorem exchange {n aseq : Nat} {r : RxRec} {ackreq event : Bool} : ChannelsKept s (exchange n r ackreq aseq event t) := by
  have due : ∀ a : AckDue, ChannelsKept s (if ackreq then { t with nodes := { t.nodes with acks := t.nodes.acks ++ [a] } } else t) :=
    fun _ => ite h.frame h
  exact when (due _) fun _ h => h.sendHead

theorem nextDl {n at' : Nat} {more : Bool} : ChannelsKept s (nextDl n at' more t) := when h fun _ h => h.sendHead

theorem ackMatched {n : Nat} {r : RxRec} : ChannelsKept s (ackMatched n r t) :=
  h.setRun.forAll fun _ _ h => setUse (ite h.windowMatch h)

theorem dlAcked {n at' : Nat} {r : RxRec} : ChannelsKept s (dlAcked n r at' t) := by
  unfold Machine.dlAcked
  simp only
  split
  · exact h.ackMatched
  · exact ite h.ackMatched.setRun.finishTag.nextDl h.ackMatched.endHead.nextDl

theorem dlNoAck {n : Nat} : ChannelsKept s (dlNoAck n t) := by
  unfold Machine.dlNoAck
  split
  · exact h
  · split
    · exact h
    · exact ite h.endHead h

theorem dlSent {n stamp step : Nat} : ChannelsKept s (dlSent n stamp step t) := by
  unfold Machine.dlSent
  split
  · exact h
  · simp only
    split
    next u taken => exact takeWindow (setRun h.setHead) taken
    · exact poolUsedUp (setRun (setRun h.setHead))

/-! ### Presence frames (R177, R203) -/

/-- A frame in the window of an event is an observation of its slot (R205). -/
theorem gridFrame {n k : Nat} {r : RxRec} {temp : Option Int} : ChannelsKept s (gridFrame n r (some k) temp t) := by
  unfold Machine.gridFrame
  simp only
  exact h.observe

theorem keepAlive {n k : Nat} {r : RxRec} : ChannelsKept s (keepAlive n k r t) := by
  have settled := (h.touch (n := n) (r := r)).connSettle (n := n) (ch := r.ch) (k := k)
  have observed := settled.gridFrame (n := n) (k := k) (r := r) (temp := none)
  unfold Machine.keepAlive
  simp only
  split
  · exact observed.matchWindows.advanceK.exchange
  · exact observed

theorem presence {r : RxRec} : ChannelsKept s (presence r t) := by
  have lost : ChannelsKept s (Machine.incW 0xB005C t) := h.incW (by unfold OffChannels; omega)
  unfold Machine.presence
  split
  · split
    · exact h.touch.dlAcked
    · exact lost
  · split
    · exact h.keepAlive
    · exact lost

/-! ### The settling (R109-R111, R195, R212, R222-R226) -/

theorem joinDone {tag : Nat} : ChannelsKept s (joinDone tag t) := by
  unfold Machine.joinDone
  split
  · exact h
  · exact finishPend h.frame

theorem useDone {e : Nat} : ChannelsKept s (useDone e t) := by
  unfold Machine.useDone
  simp only
  split
  · exact ite (ite h.setUse.windowMissed h.setUse.advanceK) h.setUse
  · exact ite h.setUse h.setUse.dlNoAck
  · exact ite h.setUse.dlSent h.setUse
  · exact ite h.setUse.joinDone h.frame
  · exact h.setUse.finishPend
  · exact h.setUse

theorem internalMissed : ChannelsKept s (internalMissed t) :=
  forAll (h.forAll fun _ _ h => h.windowMissed) fun _ _ h => h.setRun.dlNoAck

theorem setReqLevel {b : Bool} : ChannelsKept s (setReqLevel b t) := ite h (raiseSrc (h.setB (by unfold OffChannels; omega)))

theorem coexOutputs : ChannelsKept s (coexOutputs t) := by
  have wire : OffChannels 0x48008 := by unfold OffChannels; omega
  have count : OffChannels 0x4800C := by unfold OffChannels; omega
  have used : ChannelsKept s (grantUsed t) := h.forAll fun _ _ h => ite h.frame h
  exact ite (setB (setReqLevel (setB (used.onlyIf fun _ h => h.incW count) wire)) wire) (when h fun _ h => ite h (incW (setB h.frame wire) count))

theorem settle : ChannelsKept s (settle t) :=
  coexOutputs (internalMissed (forAll (h.forAll fun _ _ h => h.windowJudge) fun _ _ h => ite h.useDone h))

theorem recorded {before : Nat} : ChannelsKept s (recorded before t) := by
  unfold Machine.recorded
  split
  · exact h.settle
  · simp only
    exact ite (settle (presence h.hostMatch.frame)) h.hostMatch.settle

end
end ChannelsKept

end Sys2Proof.Machine
end

section
/-! SUPPORT. The balance of the counters of a channel (R141, O22): a commit counts DETECT and takes a slot, an outcome is counted and frees one,
and nothing else changes either side. -/

namespace Sys2Proof.Machine

/-- `t` is as `s` in DETECT and the outcome counters of every channel and in the states of all slots. -/
structure ReceptionsKept (s t : State) : Prop where
  live : ∀ c j, j < 6 → liveCount t c j = liveCount s c j
  states : ∀ c j, j < 2 → slotState t c j = slotState s c j

namespace ReceptionsKept

theorem refl (s : State) : ReceptionsKept s s := ⟨fun _ _ _ => rfl, fun _ _ _ => rfl⟩

section
variable {s t : State} (h : ReceptionsKept s t) {ch k : Nat}
include h

theorem trans {u : State} (next : ReceptionsKept t u) : ReceptionsKept s u :=
  ⟨fun c j hj => (next.live c j hj).trans (h.live c j hj), fun c j hj => (next.states c j hj).trans (h.states c j hj)⟩

/-- A slot in use is in use after it. -/
theorem busy (hk : k < 2) (used : slotState s ch k ≠ 0) : slotState t ch k ≠ 0 := by rwa [h.states ch k hk]

theorem trace {event slot mode rxseq : Nat} {noSeq : Bool} : ReceptionsKept s (trace ch event slot mode rxseq noSeq t) :=
  h.trans ⟨fun _ _ _ => liveCount_trace, fun _ _ _ => slotState_trace⟩

theorem setSlot {v : Slot} : ReceptionsKept s (setSlot ch k v t) := h.trans ⟨fun _ _ _ => liveCount_setSlot, fun _ _ _ => slotState_setSlot⟩
theorem flagSlot {bit : Nat} : ReceptionsKept s (flagSlot ch k bit t) := h.setSlot

/-- A counter beyond the outcomes. -/
theorem count (hk : k < 16) (beyond : 6 ≤ k) : ReceptionsKept s (count ch k t) :=
  h.trans ⟨fun c j hj => liveCount_count_other (by omega) hk (by omega), fun _ _ _ => slotState_count⟩

theorem setB {i : Nat} {b : Bool} (above : 8 ≤ i) : ReceptionsKept s (setB (chBase ch + 0x24) i b t) :=
  h.trans ⟨fun _ _ _ => liveCount_setB, fun _ _ hj => slotState_setB hj above⟩

theorem stepSeenUpdate : ReceptionsKept s (stepSeenUpdate ch t) := h.setB (by omega)

theorem agcSeen {found : List Match} : ReceptionsKept s (agcSeen ch found t) :=
  h.trans ⟨fun _ _ _ => liveCount_agcSeen .., fun _ _ _ => slotState_agcSeen ..⟩

omit h in
theorem ite {c : Prop} [Decidable c] {a b : State} (ha : ReceptionsKept s a) (hb : ReceptionsKept s b) : ReceptionsKept s (if c then a else b) := by
  split
  · exact ha
  · exact hb

/-! ### Recordings (R135) -/

theorem holdFails : ReceptionsKept s (holdFails ch k t) := (((h.setSlot.flagSlot).setB (by omega)).count (by omega) (by omega)).trace
theorem takeBlock : ReceptionsKept s (takeBlock ch k t) := ite h.setSlot h.holdFails

theorem growHolds {fuel : Nat} : ReceptionsKept s (growHolds fuel t) := by
  induction fuel generalizing t with
  | zero => exact h
  | succ fuel ih =>
    unfold Machine.growHolds
    split
    · exact h
    · exact ih h.takeBlock

theorem holdCatchUp : ReceptionsKept s (holdCatchUp t) := h.growHolds
theorem startRecording : ReceptionsKept s (startRecording ch k t) := h.setSlot.takeBlock.holdCatchUp

theorem maybeRecording {records : Prop} [Decidable records] : ReceptionsKept s (if records then Machine.startRecording ch k t else t) :=
  ite h.startRecording h

end
end ReceptionsKept

/-! ### What changes the balance on both sides -/

/-- The outcomes counted of a channel (R141). -/
def outcomeCount (s : State) (c : Nat) : Word := liveCount s c 1 + liveCount s c 2 + liveCount s c 3 + liveCount s c 4 + liveCount s c 5

theorem detectBalanced_iff {s : State} {c : Nat} :
    detectBalanced s c ↔ liveCount s c 0 = outcomeCount s c + BitVec.ofNat 32 (inProgress s c) := Iff.rfl

theorem outcomeCounter_range {outcome : Nat} (h : outcome < 5) : 1 ≤ outcomeCounter outcome ∧ outcomeCounter outcome ≤ 5 := by
  interval_cases outcome <;> decide

theorem outcomeCount_count {c k : Nat} {s : State} (low : 1 ≤ k) (high : k ≤ 5) : outcomeCount (count c k s) c = outcomeCount s c + 1 := by
  simp only [outcomeCount, liveCount_count (c := c) (ch := c) (s := s) (k := k) _ (show k < 16 by omega), Nat.reduceLT, true_and]
  interval_cases k <;> simp <;> ring

section
variable {c ch k : Nat} {s t : State} (balanced : detectBalanced s c)
include balanced

theorem detectBalanced_of_same (live : ∀ j, j < 6 → liveCount t c j = liveCount s c j)
    (states : ∀ j, j < 2 → (slotState t c j = 0 ↔ slotState s c j = 0)) : detectBalanced t c := by
  simp only [detectBalanced, inProgress, live 0 (by omega), live 1 (by omega), live 2 (by omega), live 3 (by omega), live 4 (by omega),
    live 5 (by omega), states 0 (by omega), states 1 (by omega)]
  exact balanced

theorem detectBalanced_of_kept (kept : ReceptionsKept s t) : detectBalanced t c :=
  detectBalanced_of_same balanced (kept.live c) fun j hj => by rw [kept.states c j hj]

/-- A slot in use stays in use. -/
theorem detectBalanced_setSlotState {v : Nat} (hk : k < 2) (busy : slotState s ch k ≠ 0) (hv : v < 8) (use : v ≠ 0) :
    detectBalanced (setSlotState ch k v s) c := by
  refine detectBalanced_of_same balanced (fun j _ => liveCount_setSlotState) fun j hj => ?_
  by_cases same : c = ch ∧ j = k
  · obtain ⟨rfl, rfl⟩ := same
    rw [slotState_setSlotState_same hk hv]
    exact iff_of_false use busy
  · rw [slotState_setSlotState_other hj (by omega)]

end

section
variable {ch k : Nat} {s t : State}

/-- One slot of a channel taken, and no other changed. -/
theorem inProgress_taken (hk : k < 2) (free : slotState s ch k = 0) (taken : slotState t ch k ≠ 0)
    (others : ∀ j, j < 2 → j ≠ k → slotState t ch j = slotState s ch j) : inProgress t ch = inProgress s ch + 1 := by
  obtain rfl | rfl : k = 0 ∨ k = 1 := by omega
  · simp [inProgress, free, taken, others 1 (by omega) (by omega), Nat.add_comm]
  · simp [inProgress, free, taken, others 0 (by omega) (by omega)]

end

section
variable {c ch k : Nat} {s : State} (balanced : detectBalanced s c) (hk : k < 2)
include balanced hk

/-- An outcome is counted and its slot freed. -/
theorem detectBalanced_endReception {outcome crc : Nat} {payload soft : List Byte} (ho : outcome < 5) (busy : slotState s ch k ≠ 0) :
    detectBalanced (endReception ch k outcome payload crc soft s) c := by
  have live : ∀ j, liveCount (endReception ch k outcome payload crc soft s) c j = liveCount (count ch (outcomeCounter outcome) s) c j :=
    fun _ => liveCount_eq_of_live endReception_live
  obtain ⟨low, high⟩ := outcomeCounter_range ho
  by_cases same : c = ch
  · subst same
    have ended := inProgress_taken (s := endReception c k outcome payload crc soft s) (t := s) hk (slotState_endReception_same hk) busy
      fun j hj other => (slotState_endReception_other hj (.inr other)).symm
    have counted : outcomeCount (endReception c k outcome payload crc soft s) c = outcomeCount s c + 1 := by
      simp only [outcomeCount, live]
      exact outcomeCount_count low high
    have detects : liveCount (endReception c k outcome payload crc soft s) c 0 = liveCount s c 0 := by
      rw [live, liveCount_count_other (by omega) (by omega) (by omega)]
    rw [detectBalanced_iff, ended, BitVec.ofNat_add] at balanced
    rw [detectBalanced_iff, counted, detects, balanced]
    exact (add_assoc ..).symm.trans (add_right_comm ..)
  · refine detectBalanced_of_same balanced (fun j hj => ?_) fun j hj => ?_
    · rw [live, liveCount_count_other (by omega) (by omega) (.inl same)]
    · rw [slotState_endReception_other hj (.inl same)]

theorem detectBalanced_abandonSlot (busy : slotState s ch k ≠ 0) : detectBalanced (abandonSlot ch k s) c := by
  have drawn : ∀ f, detectBalanced { s with free := f } c := fun _ => balanced
  unfold abandonSlot
  exact detectBalanced_endReception (drawn _) hk (by omega) busy

/-- DETECT is counted and a slot taken. -/
theorem detectBalanced_commitSlot {m : Match} {flags related event : Nat} {pend : Bool} (free : slotState s ch k = 0) :
    detectBalanced (commitSlot ch k m flags related pend event s) c := by
  by_cases same : c = ch
  · subst same
    have taken := inProgress_taken (t := commitSlot c k m flags related pend event s) hk free (by rw [slotState_commitSlot_same hk]; decide)
      fun j hj other => slotState_commitSlot_other hj (.inr other)
    have counted : outcomeCount (commitSlot c k m flags related pend event s) c = outcomeCount s c := by
      have kept : ∀ j, 1 ≤ j → j < 6 → liveCount (commitSlot c k m flags related pend event s) c j = liveCount s c j := fun j low high =>
        liveCount_commitSlot_other (by omega) (by omega) (by omega)
      simp only [outcomeCount, kept 1 (by omega) (by omega), kept 2 (by omega) (by omega), kept 3 (by omega) (by omega),
        kept 4 (by omega) (by omega), kept 5 (by omega) (by omega)]
    rw [detectBalanced_iff] at balanced
    rw [detectBalanced_iff, taken, counted, liveCount_commitSlot_detect, balanced, BitVec.ofNat_add, BitVec.add_assoc]
    rfl
  · refine detectBalanced_of_same balanced (fun j hj => ?_) fun j hj => ?_
    · rw [liveCount_commitSlot_other (by omega) (.inl same) (.inl same)]
    · rw [slotState_commitSlot_other hj (.inl same)]

theorem detectBalanced_holdSlot (busy : slotState s ch k ≠ 0) : detectBalanced (holdSlot ch k s) c :=
  detectBalanced_of_kept (detectBalanced_setSlotState (detectBalanced_of_kept balanced (ReceptionsKept.refl s).flagSlot) hk busy
    (by omega) (by omega)) (ReceptionsKept.refl _).trace

end

/-! ### The rows of receptions (R126) -/

section
variable {c ch k : Nat} {m : Match} {s t : State} (balanced : detectBalanced s c) (hk : k < 2)
include balanced hk

/-- A reception is captured (R131): it is abandoned or held, and the match commits. -/
theorem detectBalanced_capture {ends holds : Prop} [Decidable ends] [Decidable holds] {flags related event : Nat} (free : slotState s ch k = 0)
    (used : slotState s ch (1 - k) ≠ 0) (apart : holds → ¬ ends) :
    detectBalanced (if holds then holdSlot ch (1 - k) (commitSlot ch k m flags related false event (if ends then abandonSlot ch (1 - k) s else s))
      else commitSlot ch k m flags related false event (if ends then abandonSlot ch (1 - k) s else s)) c := by
  have hj : 1 - k < 2 := by omega
  by_cases ended : ends
  · rw [if_neg fun held => apart held ended, if_pos ended]
    refine detectBalanced_commitSlot (detectBalanced_abandonSlot balanced hj used) hk ?_
    rw [slotState_abandonSlot_other hk (by omega), free]
  · have committed := detectBalanced_commitSlot (m := m) (flags := flags) (related := related) (event := event) (pend := false) balanced hk free
    rw [if_neg ended]
    split
    · refine detectBalanced_holdSlot committed hj ?_
      rwa [slotState_commitSlot_other hj (by omega)]
    · exact committed

theorem detectBalanced_placeMatch (free : slotState s ch k = 0) : detectBalanced (placeMatch ch k m s) c := by
  have start := ReceptionsKept.refl s
  have plain : ∀ flags pend, detectBalanced (commitSlot ch k m flags 0 pend 1 s) c := fun _ _ => detectBalanced_commitSlot balanced hk free
  unfold placeMatch
  simp only
  split
  · exact plain ..
  next used =>
    split
    · exact plain ..
    · split
      · split
        · exact detectBalanced_of_kept balanced ((start.count (by omega) (by omega)).count (by omega) (by omega)).trace
        · have marked : ∀ v, ReceptionsKept s (setSlot ch (1 - k) v (count ch 7 s)) := fun _ => (start.count (by omega) (by omega)).setSlot
          refine detectBalanced_capture (detectBalanced_of_kept balanced (marked _)) hk ?_ ((marked _).busy (by omega) used) (by omega)
          rw [(marked _).states ch k hk, free]
      · split
        · refine detectBalanced_of_kept (detectBalanced_commitSlot (detectBalanced_of_kept balanced start.setSlot) hk ?_)
            ((ReceptionsKept.refl _).count (by omega) (by omega))
          rw [slotState_setSlot, free]
        · exact plain ..

/-- A reception is recorded and held, where it can be (R133). -/
theorem detectBalanced_holdRecorded {records holds : Prop} [Decidable records] [Decidable holds] (used : slotState s ch k ≠ 0) :
    detectBalanced (if holds then holdSlot ch k (if records then startRecording ch k s else s)
      else if records then startRecording ch k s else s) c := by
  have recorded := (ReceptionsKept.refl s).maybeRecording (ch := ch) (k := k) (records := records)
  have before := detectBalanced_of_kept balanced recorded
  have busy := recorded.busy hk used
  generalize (if records then startRecording ch k s else s) = t at before busy ⊢
  split
  · exact detectBalanced_holdSlot before hk busy
  · exact before

/-- A pending capture abandons or holds one of two receptions in progress (R132). -/
theorem detectBalanced_pendingCapture (used : slotState s ch k ≠ 0) : detectBalanced (pendingCapture ch k s) c := by
  have counted : ∀ mode seq, ReceptionsKept s (trace ch 5 (1 - k) mode seq false (count ch 7 s)) := fun _ _ =>
    ((ReceptionsKept.refl s).count (by omega) (by omega)).trace
  have marked : ∀ mode seq v w, ReceptionsKept s (setSlot ch k w (setSlot ch (1 - k) v (trace ch 5 (1 - k) mode seq false (count ch 7 s)))) :=
    fun _ _ _ _ => (counted _ _).setSlot.setSlot
  unfold pendingCapture
  simp only
  split
  next captured =>
    have other : slotState s ch (1 - k) ≠ 0 := by
      rw [Bool.and_eq_true, bne_iff_ne] at captured
      exact captured.1
    split
    · exact detectBalanced_abandonSlot (detectBalanced_of_kept balanced (counted _ _)) (by omega) ((counted _ _).busy (by omega) other)
    · have before := fun mode seq v w => detectBalanced_of_kept balanced (marked mode seq v w)
      split
      · exact detectBalanced_abandonSlot (before ..) hk ((marked ..).busy hk used)
      · exact detectBalanced_holdRecorded (before ..) hk ((marked ..).busy hk used)
  · exact balanced

/-- A reception goes on to its payload (R128, R133). -/
theorem detectBalanced_startPayload {records : Prop} [Decidable records] (used : slotState s ch k ≠ 0) :
    detectBalanced (pendingCapture ch k (if records then startRecording ch k (setSlotState ch k 2 s) else setSlotState ch k 2 s)) c := by
  have payload := detectBalanced_setSlotState (v := 2) balanced hk used (by omega) (by omega)
  have inPayload : slotState (setSlotState ch k 2 s) ch k ≠ 0 := by
    rw [slotState_setSlotState_same hk (by omega)]
    decide
  have recorded := (ReceptionsKept.refl (setSlotState ch k 2 s)).maybeRecording (ch := ch) (k := k) (records := records)
  exact detectBalanced_pendingCapture (detectBalanced_of_kept payload recorded) hk (recorded.busy hk inPayload)

theorem detectBalanced_endDecoded {soft : List Byte} (used : slotState s ch k ≠ 0) : detectBalanced (endDecoded ch k soft s) c := by
  unfold endDecoded
  simp only
  split <;> exact detectBalanced_endReception balanced hk (by omega) used

theorem detectBalanced_enterRedecode (used : slotState s ch k ≠ 0) : detectBalanced (enterRedecode ch k s) c := by
  have start := ReceptionsKept.refl s
  unfold enterRedecode
  simp only
  split
  · exact detectBalanced_of_kept (detectBalanced_setSlotState (detectBalanced_of_kept balanced start.setSlot) hk used (by omega) (by omega))
      (ReceptionsKept.refl _).trace
  · exact detectBalanced_setSlotState balanced hk used (by omega) (by omega)

end

section
variable {c : Nat} {ch : Fin 64} {s : State} (balanced : detectBalanced s c)
include balanced

theorem detectBalanced_holdCatchUp : detectBalanced (holdCatchUp s) c := detectBalanced_of_kept balanced (ReceptionsKept.refl s).holdCatchUp

theorem detectBalanced_syncMatch {found : List Match} : detectBalanced (syncMatch ch found s) c := by
  have seen : ReceptionsKept s (agcSeen ch.val found (holdCatchUp s)) := (ReceptionsKept.refl s).holdCatchUp.agcSeen
  have before := detectBalanced_of_kept balanced seen
  unfold syncMatch
  simp only
  split
  · exact before
  · split
    · exact detectBalanced_of_kept balanced (seen.count (by omega) (by omega)).trace
    · split
      next free => exact detectBalanced_placeMatch before (by omega) free
      · split
        next free => exact detectBalanced_placeMatch before (by omega) free
        · exact detectBalanced_of_kept balanced (seen.count (by omega) (by omega)).trace

theorem detectBalanced_headerCheck {slot : Fin 2} {header : Word} : detectBalanced (headerCheck ch slot header s) c := by
  have before := detectBalanced_holdCatchUp balanced
  have hk := slot.isLt
  unfold headerCheck
  generalize holdCatchUp s = s at before
  have valid : ∀ v mode seq, ReceptionsKept s (trace ch.val 2 slot.val mode seq false (setSlot ch.val slot.val v s)) := fun _ _ _ =>
    (ReceptionsKept.refl s).setSlot.trace
  simp only
  split
  · exact before
  next inHeader =>
    have used : slotState s ch.val slot.val ≠ 0 := by omega
    split
    · exact detectBalanced_endReception before hk (by omega) used
    · split
      · exact detectBalanced_endReception before hk (by omega) used
      · split
        · have counted := fun v mode seq => (valid v mode seq).count (ch := ch.val) (k := 12) (by omega) (by omega)
          exact detectBalanced_endReception (detectBalanced_of_kept before (counted ..)) hk (by omega) ((counted ..).busy hk used)
        · exact detectBalanced_startPayload (detectBalanced_of_kept before (valid ..)) hk ((valid ..).busy hk used)

theorem detectBalanced_payloadCrc {slot : Fin 2} {soft : List Byte} : detectBalanced (payloadCrc ch slot soft s) c := by
  have before := detectBalanced_holdCatchUp balanced
  unfold payloadCrc
  generalize holdCatchUp s = s at before
  simp only
  split
  · exact detectBalanced_endDecoded before slot.isLt (by omega)
  · split
    · split
      · exact detectBalanced_endDecoded before slot.isLt (by omega)
      · exact detectBalanced_of_kept before (ReceptionsKept.refl s).setSlot
    · exact before

theorem detectBalanced_powerStep {slot : Fin 2} {power : BitVec 16} : detectBalanced (powerStep ch slot power s) c := by
  have caught := (ReceptionsKept.refl s).holdCatchUp
  refine detectBalanced_of_kept balanced ?_
  unfold powerStep
  simp only
  split
  · exact caught.setSlot.stepSeenUpdate.maybeRecording
  · exact caught

theorem detectBalanced_powerStepClear {slot : Fin 2} {power : BitVec 16} : detectBalanced (powerStepClear ch slot power s) c :=
  have caught := (ReceptionsKept.refl s).holdCatchUp
  detectBalanced_of_kept balanced (.ite caught.setSlot.stepSeenUpdate caught)

theorem detectBalanced_subtractStart : detectBalanced (subtractStart ch s) c := by
  have before := detectBalanced_holdCatchUp balanced
  unfold subtractStart
  generalize holdCatchUp s = s at before
  have held : ∀ k, waitingHeld s ch.val k = true → slotState s ch.val k ≠ 0 := fun k waits => by
    simp only [waitingHeld, Bool.and_eq_true, beq_iff_eq] at waits
    omega
  simp only
  split
  next waits => exact detectBalanced_enterRedecode before (by omega) (held _ waits)
  · split
    next waits => exact detectBalanced_enterRedecode before (by omega) (held _ waits)
    · exact before

theorem detectBalanced_redecodeEnd {slot : Fin 2} {soft : List Byte} : detectBalanced (redecodeEnd ch slot soft s) c := by
  have before := detectBalanced_holdCatchUp balanced
  unfold redecodeEnd
  generalize holdCatchUp s = s at before
  simp only
  split
  · exact before
  next redecodes =>
    have used : slotState s ch.val slot.val ≠ 0 := by omega
    split
    · have counted := ((ReceptionsKept.refl s).flagSlot (ch := ch.val) (k := slot.val) (bit := 7)).count (ch := ch.val) (k := 9) (by omega) (by omega)
      exact detectBalanced_endDecoded (detectBalanced_of_kept before counted) slot.isLt (counted.busy slot.isLt used)
    · exact detectBalanced_endDecoded before slot.isLt used

/-- What follows a record changes no channel. -/
theorem detectBalanced_recorded {n : Nat} (hc : c < 64) : detectBalanced (recorded n s) c := by
  have kept := (ChannelsKept.refl s).recorded (before := n)
  refine detectBalanced_of_same balanced (fun _ _ => liveCount_eq_of_live kept.live) fun _ _ => ?_
  rw [slotState_eq_of_rd (kept.regs _ (by unfold OffChannels chBase; omega))]

end

/-! ### The balance at reset -/

theorem liveCount_reset (c j : Nat) : liveCount State.reset c j = 0 := rfl

theorem slotState_reset {c j : Nat} (hc : c < 64) (hj : j < 2) : slotState State.reset c j = 0 := by
  have all : ∀ (c : Fin 64) (j : Fin 2), slotState State.reset c.val j.val = 0 := by decide +kernel
  exact all ⟨c, hc⟩ ⟨j, hj⟩

theorem detectBalanced_reset {c : Nat} (hc : c < 64) : detectBalanced State.reset c := by
  simp [detectBalanced, inProgress, liveCount_reset, slotState_reset hc]

/-- Settles O22: every row counts DETECT with the slot it takes and an outcome with the slot it frees, and what follows a record keeps both. -/
theorem detectBalanceKept : Obligations.DetectBalanceKept := by
  refine ⟨fun c x s hc balanced _ _ reception => ?_, fun _ => detectBalanced_reset⟩
  match x, reception with
  | .syncMatch .., _ => exact ⟨_, rfl, detectBalanced_syncMatch balanced⟩
  | .headerCheck .., _ => exact ⟨_, rfl, detectBalanced_recorded (detectBalanced_headerCheck balanced) hc⟩
  | .payloadCrc .., _ => exact ⟨_, rfl, detectBalanced_recorded (detectBalanced_payloadCrc balanced) hc⟩
  | .powerStep .., _ => exact ⟨_, rfl, detectBalanced_powerStep balanced⟩
  | .powerStepClear .., _ => exact ⟨_, rfl, detectBalanced_powerStepClear balanced⟩
  | .subtractStart .., _ => exact ⟨_, rfl, detectBalanced_subtractStart balanced⟩
  | .redecodeEnd .., _ => exact ⟨_, rfl, detectBalanced_recorded (detectBalanced_redecodeEnd balanced) hc⟩

end Sys2Proof.Machine
end

section
/-! SUPPORT. The refutations of O21, O24 and O57: each has a clause by which its row changes nothing, or nothing but what an answer changes, in
a quiet state. The settling in the row gives the grant that an arbiter owes the other radio (R111), which a quiet state does not exclude. The
state is that of the refutation of O9. -/

namespace Sys2Proof.Machine

/-! ### Receptions with nothing to do -/

theorem headerCheck_of_idle {ch : Fin 64} {k : Fin 2} {h : Word} {s : State} (due : blockDue s = none) (idle : slotState s ch.val k.val = 0) :
    headerCheck ch k h s = s := by
  unfold headerCheck
  simp only [holdCatchUp_of_noneDue due, idle]
  exact if_pos (by decide)

theorem recorded_of_noRecord {s : State} (none' : s.intake = []) : recorded 0 s = settle s := by
  unfold recorded
  rw [none']
  rfl

/-! ### The refutations -/

theorem requestUngranted_slotIdle : slotState requestUngranted (0 : Fin 64).val (0 : Fin 2).val = 0 := by decide +kernel

/-- Refutes O21, by its clause on a slot that is IDLE: HEADER_CHECK finds no reception, and the settling gives the grant that the arbiter owes
(R111). -/
theorem not_receptionOutcomes : ¬ Obligations.ReceptionOutcomes := by
  rintro ⟨-, -, -, -, -, -, -, idleSlot, -⟩
  have nothing : headerCheck 0 0 0 requestUngranted = requestUngranted := headerCheck_of_idle rfl requestUngranted_slotIdle
  have row : exec (.headerCheck 0 0 0) requestUngranted = .next (settle requestUngranted) := by
    change Host.Outcome.next (recorded 0 (headerCheck 0 0 0 requestUngranted)) = _
    rw [nothing, recorded_of_noRecord rfl]
  exact exec_ne_of_settles row rfl
    (idleSlot 0 0 0 [] requestUngranted requestUngranted_quiet rfl requestUngranted_slotIdle).1

/-- Refutes O24, by its clause on MIC_RESULT with no check waiting: the settling gives the grant that the arbiter owes (R111). -/
theorem not_uplinkIntake : ¬ Obligations.UplinkIntake := by
  rintro ⟨-, -, -, noCheck, -⟩
  exact exec_ne_of_settles (c := .micResult) (t := micOne requestUngranted) rfl rfl
    (noCheck requestUngranted requestUngranted_quiet rfl)

/-- A CANCEL of this device's own host that names a tag which no command holds (R357). -/
def cancelUnheld : Req := { win := 0, target := 0x1E, tag := 1, counter := 0, payload := [2, 0, 0, 0] }

/-- What is due is settled before the tag is looked up. -/
theorem cancel_requestUngranted : getB (cancel cancelUnheld requestUngranted) 0x48008 3 = true := by decide +kernel

/-- Refutes O57, by its clause on a CANCEL that names a tag not held: besides the answer, the settling before it gives the grant that the
arbiter owes (R111), in a register of the coexistence block. -/
theorem not_nodeCommands : ¬ Obligations.NodeCommands := by
  rintro ⟨-, -, -, -, -, -, -, notHeld, -⟩
  obtain ⟨t, step, -, same, -⟩ :=
    (notHeld cancelUnheld requestUngranted (by decide +kernel) rfl rfl (by decide +kernel) rfl requestUngranted_quiet).1 rfl
  obtain rfl : cancel cancelUnheld requestUngranted = t := Host.Outcome.next.inj step
  have unchanged : (cancel cancelUnheld requestUngranted).reg = requestUngranted.reg := by
    have := congrArg State.reg same; exact this
  have granted := cancel_requestUngranted
  rw [getB, rd, unchanged] at granted
  exact absurd granted (by decide +kernel)

end Sys2Proof.Machine
end

section
/-! SUPPORT. The refutation of O23: a node event that is not this device's to schedule, in a quiet state whose arbiter owes the other radio a
grant, which the settling of the row gives (R111). The state is that of the refutation of O9. -/

namespace Sys2Proof.Machine

theorem nodeEventSchedule_of_not_schedulable {x : BitVec 16} {s : State} (h : schedulable s x.toNat = false) :
    nodeEventSchedule x s = s :=
  if_pos (by rw [h]; rfl)

/-- Only a home schedules the events of a node (R208). -/
theorem schedulable_of_not_home {n : Nat} {s : State} (h : (getCtx s n).role ≠ 1) : schedulable s n = false := by
  simp [schedulable, h]

/-- After reset every context is empty. -/
theorem requestUngranted_notSchedulable : schedulable requestUngranted (0 : BitVec 16).toNat = false :=
  schedulable_of_not_home (by decide)

/-- Refutes O23, by its clause on NODE_EVENT_SCHEDULE of a node this device may not schedule: it says that the state stays as it was, and the
settling gives the grant that the arbiter owes (R111). -/
theorem not_scheduledActivities : ¬ Obligations.ScheduledActivities := by
  rintro ⟨-, -, -, -, -, -, notSchedulable, -⟩
  exact exec_ne_of_settles (c := .nodeEventSchedule 0) rfl
    (nodeEventSchedule_of_not_schedulable requestUngranted_notSchedulable)
    (notSchedulable 0 requestUngranted requestUngranted_quiet requestUngranted_notSchedulable).1

end Sys2Proof.Machine
end

section
/-! SUPPORT. The refutation of O19: OPQ_CANCEL of an entry that is neither armed nor active, in a quiet state whose arbiter owes the other radio
a grant, which the settling of the row gives (R111). The state is that of the refutation of O9. -/

namespace Sys2Proof.Machine

/-- CANCEL acts on an armed or an active entry only (R224). -/
theorem opqCancel_of_not_live {n : Fin 128} {s : State} (idle : opLive s n.val = false) : opqCancel n s = s :=
  if_pos (by rw [idle]; rfl)

theorem requestUngranted_notLive : opLive requestUngranted (0 : Fin 128).val = false := by decide +kernel

/-- Refutes O19, by its clause on OPQ_CANCEL of an entry that is neither armed nor active: it says that the state stays as it was, and the
settling gives the grant that the arbiter owes (R111). -/
theorem not_operationQueue : ¬ Obligations.OperationQueue := by
  rintro ⟨-, -, notLive, -⟩
  exact exec_ne_of_settles (c := .opqCancel 0) rfl (opqCancel_of_not_live requestUngranted_notLive)
    (notLive 0 requestUngranted requestUngranted_quiet requestUngranted_notLive)

end Sys2Proof.Machine
end

section
/-! SUPPORT. What the frames of the chain and the events of this device leave as it was: the contexts, what runs for the nodes, the time, the
cipher, the topology, and every register but the counters of the ports and the indices of the trouble log (R261-R264, R272, R450). -/

namespace Sys2Proof.Machine

/-- A counter of a Mooring port, or an index of the trouble log. -/
def TrafficReg (o : Nat) : Prop := 0xA0000 ≤ o ∧ 0x20 ≤ o % 0x8000 ∧ o % 0x8000 ≤ 0x48

/-- What the chain's topology is read from is in `t` as in `s`. -/
structure SameTopology (s t : State) : Prop where
  peers : t.chain.peers = s.chain.peers
  regs : ∀ o, 0xA0000 ≤ o → ¬ TrafficReg o → rd t o = rd s o

/-- `t` differs from `s` in no more than frames, events and completions on their way. -/
structure TrafficKept (s t : State) : Prop where
  ctx : t.ctx = s.ctx
  nodes : t.nodes = s.nodes
  cipher : t.cipher = s.cipher
  ntb : t.ntb = s.ntb
  peers : t.chain.peers = s.chain.peers
  regs : ∀ o, ¬ TrafficReg o → rd t o = rd s o

theorem trafficReg_mooring (p : Nat) {d : Nat} (low : 0x20 ≤ d) (high : d ≤ 0x48) : TrafficReg (mrBase p + d) := by
  unfold TrafficReg mrBase
  omega

namespace TrafficKept

theorem refl (s : State) : TrafficKept s s := ⟨rfl, rfl, rfl, rfl, rfl, fun _ _ => rfl⟩

section
variable {s t : State} (h : TrafficKept s t)
include h

theorem trans {u : State} (h' : TrafficKept t u) : TrafficKept s u :=
  ⟨h'.ctx.trans h.ctx, h'.nodes.trans h.nodes, h'.cipher.trans h.cipher, h'.ntb.trans h.ntb, h'.peers.trans h.peers,
    fun o apart => (h'.regs o apart).trans (h.regs o apart)⟩

/-- A change of anything else. -/
theorem frame {u : State} (ctx : u.ctx = t.ctx := by rfl) (nodes : u.nodes = t.nodes := by rfl) (cipher : u.cipher = t.cipher := by rfl)
    (ntb : u.ntb = t.ntb := by rfl) (peers : u.chain.peers = t.chain.peers := by rfl) (reg : u.reg = t.reg := by rfl) : TrafficKept s u :=
  h.trans ⟨ctx, nodes, cipher, ntb, peers, fun o _ => by rw [rd, reg, rd]⟩

theorem wr {off : Nat} {v : Word} (counts : TrafficReg off) : TrafficKept s (wr off v t) :=
  h.trans ⟨rfl, rfl, rfl, rfl, rfl, fun _ apart => rd_wr_other _ _ fun here => apart (here ▸ counts)⟩

theorem incW {off : Nat} (counts : TrafficReg off) : TrafficKept s (incW off t) := h.wr counts

omit h in
theorem ite {c : Prop} [Decidable c] {a b : State} (ha : TrafficKept s a) (hb : TrafficKept s b) : TrafficKept s (if c then a else b) := by
  split
  · exact ha
  · exact hb

theorem forAll {α : Type} {xs : List α} {f : α → State → State} (hf : ∀ x t, TrafficKept s t → TrafficKept s (f x t)) :
    TrafficKept s (forAll xs f t) := by
  induction xs generalizing t with
  | nil => exact h
  | cons x xs ih => exact ih (hf x t h)

/-! ### Events and frames (R262, R263, R272, R351) -/

theorem raiseEvt {source code : Nat} {args : List Byte} : TrafficKept s (raiseEvt source code args t) := by
  have regs : ∀ o, ¬ TrafficReg o → rd (Machine.raiseEvt source code args t) o = rd t o := fun o apart =>
    rd_raiseEvt _ _ _ _ (by unfold TrafficReg at apart; omega) (by unfold TrafficReg at apart; omega)
  obtain ⟨l, k, r, same⟩ := raiseEvt_eq source code args t
  rw [same] at regs ⊢
  exact h.trans ⟨rfl, rfl, rfl, rfl, rfl, regs⟩

theorem completion {tag target opcode status : Nat} {b : List Byte} : TrafficKept s (completion tag target opcode status b t) := by
  have logged : ∀ u source code args, TrafficKept u (logWrite source code args u) := fun u source code args => by
    have regs : ∀ o, ¬ TrafficReg o → rd (logWrite source code args u) o = rd u o := fun o apart =>
      rd_logWrite _ _ _ _ (by unfold TrafficReg at apart; omega) (by unfold TrafficReg at apart; omega)
    obtain ⟨l, k, r, same⟩ := logWrite_eq source code args u
    rw [same] at regs ⊢
    exact ⟨rfl, rfl, rfl, rfl, rfl, regs⟩
  have sent : ∀ u m, TrafficKept u (sendEvent m u) := fun u m => by
    obtain ⟨l, k, same⟩ := sendEvent_eq m u
    rw [same]
    exact (refl u).frame
  exact (h.frame.trans (sent _ _)).trans (logged _ _ _ _)

theorem setPort {q : Nat} {x : MrPort} : TrafficKept s (setPort q x t) := h.frame
theorem setCls {q c : Nat} {v : MrClass} : TrafficKept s (setCls q c v t) := h.frame
theorem emit {q c n : Nat} {m : MrMsg} : TrafficKept s (emit q c n m t) :=
  incW h.frame (trafficReg_mooring q (by omega) (by omega))
theorem pump {q c : Nat} : TrafficKept s (pump q c t) := forAll h.setCls fun _ _ h => h.emit

theorem queueFrame {q c : Nat} {m : MrMsg} : TrafficKept s (queueFrame q c m t) :=
  ite h.setCls.pump (ite h.setPort.emit (ite (h.incW (trafficReg_mooring q (by omega) (by omega))) h.setPort.emit))

theorem sendMr {c typ dst : Nat} {b : List Byte} : TrafficKept s (sendMr c typ dst b t) := by
  unfold Machine.sendMr routeFrame routeSince
  split
  · exact h.queueFrame
  · exact ite h.frame h

theorem noteSeen {src b : Nat} : TrafficKept s (noteSeen src b t) := h.frame

theorem forwardOn {f : MFrame} : TrafficKept s (forwardOn f t) :=
  ite (ite h.queueFrame h) (ite h.queueFrame (ite h.frame (ite (h.incW (trafficReg_mooring _ (by omega) (by omega))) h)))

/-! ### Frames about contexts (R245, R247, R264, R300) -/

theorem sendContext {n role dest : Nat} : TrafficKept s (sendContext n role dest t) := by
  unfold Machine.sendContext
  split
  · exact h.raiseEvt
  · exact h.sendMr

theorem sendDownlinks {n dest : Nat} : TrafficKept s (sendDownlinks n dest t) := h.forAll fun _ _ h => h.sendMr
theorem tellHolders {n : Nat} : TrafficKept s (tellHolders n t) := h.forAll fun _ _ h => h.sendMr

/-! ### Completions (R264, R334) -/

theorem askAnswer {dev tag status : Nat} {b : List Byte} : TrafficKept s (askAnswer dev tag status b t) := by
  unfold Machine.askAnswer
  split
  · exact h
  · exact ite (completion h.frame) h.frame

theorem completeFor {p : Pend} {status : Nat} {b : List Byte} : TrafficKept s (completeFor p status b t) :=
  ite (ite h.askAnswer h.completion) (sendMr h.frame)

theorem finishPend {test : Pend → Bool} {status : Nat} {b : List Byte} : TrafficKept s (finishPend test status b t) := by
  unfold Machine.finishPend
  split
  · exact h
  · exact completeFor h.frame

theorem serviceSettle : TrafficKept s (serviceSettle t) := h.forAll fun _ _ h => ite h.finishPend h

/-! ### What they leave the same -/

theorem getCtx (n : Nat) : getCtx t n = getCtx s n := by rw [Machine.getCtx, h.ctx, Machine.getCtx]
theorem getRun (n : Nat) : getRun t n = getRun s n := by rw [Machine.getRun, h.nodes, Machine.getRun]
theorem isHome (n : Nat) : isHome t n = isHome s n := by rw [Machine.isHome, h.getCtx, Machine.isHome]
theorem findNode (addr : Nat) : findNode t addr = findNode s addr := by rw [Machine.findNode, h.ctx, Machine.findNode]
theorem chainKey : chainKey t = chainKey s := by
  have slot : getKey t 0 = getKey s 0 := by rw [getKey, h.cipher, getKey]
  rw [Machine.chainKey, slot, Machine.chainKey]
theorem getF {o : Nat} (hi lo : Nat) (apart : ¬ TrafficReg o) : getF t o hi lo = getF s o hi lo := getF_eq_of_rd (h.regs o apart) hi lo
theorem devOf : devOf t = devOf s := h.getF 3 0 (by unfold TrafficReg; omega)
theorem topology : SameTopology s t := ⟨h.peers, fun o _ => h.regs o⟩

end
end TrafficKept

/-! ### The way to a device (R269-R271) -/

section
variable {s t : State} (h : SameTopology s t)
include h

theorem devOf_congr : devOf t = devOf s := getF_eq_of_rd (h.regs _ (by omega) (by unfold TrafficReg; omega)) 3 0

theorem reachable_congr (d : Nat) : reachable t d = reachable s d := by
  rw [reachable, devOf_congr h, getB_eq_of_rd (h.regs _ (by omega) (by unfold TrafficReg; omega)), reachable]

theorem walkFrom_congr (n prev cur : Nat) : walkFrom t n prev cur = walkFrom s n prev cur := by
  have next : ∀ prev cur, beyond t prev cur = beyond s prev cur := fun prev cur => by
    have peer : getPeer t cur = getPeer s cur := by rw [getPeer, h.peers, getPeer]
    rw [beyond, peer, beyond]
  induction n generalizing prev cur with
  | zero => rfl
  | succ n ih => simp only [walkFrom, devOf_congr h, reachable_congr h, next, ih]

theorem sideOf_congr (p : Nat) : sideOf t p = sideOf s p := by
  have up : portUp t p = portUp s p := by
    rw [portUp, lstate, getF_eq_of_rd (h.regs _ (by unfold mrBase; omega) (by unfold TrafficReg mrBase; omega)), portUp, lstate]
  have peer : peerDev t p = peerDev s p := by
    have field := getF_eq_of_rd (h.regs (mrBase p + 0x1C) (by unfold mrBase; omega) (by unfold TrafficReg mrBase; omega))
    rw [peerDev, field, field, peerDev]
  simp only [sideOf, up, peer, devOf_congr h, walkFrom_congr h]

theorem portTo_congr (d : Nat) : portTo t d = portTo s d := by
  simp only [portTo, sideOf_congr h]

end

/-! ### The queues of a port's classes (R263) -/

theorem getCls_setCls_same (p c : Nat) (v : MrClass) (s : State) : getCls (setCls p c v s) p c = v := by
  rw [getCls, setCls, getPort_setPort_same, tabGet_set_same]

theorem getCls_setCls_other {p p' c c' : Nat} (v : MrClass) (s : State) (other : c' ≠ c) :
    getCls (setCls p' c v s) p c' = getCls s p c' := by
  by_cases here : p = p'
  · subst here
    rw [getCls, setCls, getPort_setPort_same, tabGet_set_other _ _ _ other, getCls]
  · rw [getCls, setCls, getPort_setPort_other _ _ here, getCls]

theorem getCls_emitRange (p' c' i j p c : Nat) (s : State) : getCls (emitRange p' c' i j s) p c = getCls s p c := by
  rw [emitRange]
  generalize (List.range j).drop i = ks
  induction ks generalizing s with
  | nil => rfl
  | cons k ks ih => exact (ih _).trans (getCls_congr (ports_emit ..) p c)

/-- Sending what the window lets leave keeps the queue of the class and what it expects. -/
theorem getCls_pump (p c : Nat) (s : State) :
    (getCls (pump p c s) p c).q = (getCls s p c).q ∧ (getCls (pump p c s) p c).rxNext = (getCls s p c).rxNext := by
  rw [pump, getCls_emitRange, getCls_setCls_same]
  exact ⟨rfl, rfl⟩

theorem getCls_pump_other {p p' c c' : Nat} (s : State) (other : c' ≠ c) : getCls (pump p' c s) p c' = getCls s p c' := by
  rw [pump, getCls_emitRange, getCls_setCls_other _ _ other]

/-- A frame of an acknowledged class sent through a port ends the queue of its class there. -/
theorem queue_sendMr {c p dst : Nat} {s : State} (acked : ackedClass c = true) (way : portTo s dst = some p) (typ : Nat) (b : List Byte) :
    (getCls (sendMr c typ dst b s) p c).q = (getCls s p c).q ++ [⟨typ, dst, devOf s, b⟩] := by
  simp only [sendMr, routeFrame, routeSince, way, queueFrame, acked, if_true]
  rw [(getCls_pump ..).1, getCls_setCls_same]

/-- A frame of class 4 leaves the queues of the other classes. -/
theorem getCls_sendMr_other {c : Nat} (other : c ≠ 4) (p typ dst : Nat) (b : List Byte) (s : State) :
    getCls (sendMr 4 typ dst b s) p c = getCls s p c := by
  simp only [sendMr, routeFrame, routeSince]
  split
  · exact (getCls_pump_other _ other).trans (getCls_setCls_other _ _ other)
  · rfl

theorem getCls_sendDownlinks {c : Nat} (other : c ≠ 4) (p n dest : Nat) (s : State) :
    getCls (sendDownlinks n dest s) p c = getCls s p c := by
  rw [sendDownlinks]
  generalize (getRun s n).dls = ds
  induction ds generalizing s with
  | nil => rfl
  | cons d ds ih => exact (ih _).trans (getCls_sendMr_other other _ _ _ _ s)

end Sys2Proof.Machine
end

section
/-! SUPPORT. A frame of an acknowledged class that a port takes whole and in sequence (R261-R263): what taking it in changes, and that its
row then acts on it. -/

namespace Sys2Proof.Machine

section
variable (f : MFrame) (s : State)

/-- The frame counted, and what its ACK field acknowledges taken from the queue. -/
def frameCounted : State := mrAcked f.port.val (mrClassOf f) f.ack.toNat (incW (mrBase f.port.val + 0x48) (fecCount f s))

/-- The frame counted and acknowledged, and the next of its class expected. -/
def frameIn : State :=
  let x := getCls (frameCounted f s) f.port.val (mrClassOf f)
  mrAckOnly f.port.val (mrClassOf f)
    (setCls f.port.val (mrClassOf f) { x with rxNext := (x.rxNext + 1) % 65536 } (frameCounted f s))

/-- A broadcast taken in, remembered, and passed on by a port that is neither FOREIGN nor in CONFLICT. -/
def broadcastIn : State :=
  if lstate (frameIn f s) f.port.val == 10 || lstate (frameIn f s) f.port.val == 11 then frameIn f s
  else forwardOn f (noteSeen (mrSrc f) (leAt f.payload 0 2) (frameIn f s))

theorem frameCounted_kept : TrafficKept s (frameCounted f s) := by
  have counter : ∀ {d}, 0x20 ≤ d → d ≤ 0x48 → TrafficReg (mrBase f.port.val + d) := trafficReg_mooring f.port.val
  have judged : TrafficKept s (fecCount f s) :=
    .setPort (.wr (.wr (.refl s) (counter (by omega) (by omega))) (counter (by omega) (by omega)))
  have counted := judged.incW (counter (d := 0x48) (by omega) (by omega))
  exact .ite counted counted.setCls.pump

theorem frameIn_kept : TrafficKept s (frameIn f s) := (frameCounted_kept f s).setCls.emit

theorem broadcastIn_kept : TrafficKept s (broadcastIn f s) := .ite (frameIn_kept f s) (frameIn_kept f s).noteSeen.forwardOn

/-- What the port expects next is as before until the frame is acknowledged. -/
theorem rxNext_frameCounted :
    (getCls (frameCounted f s) f.port.val (mrClassOf f)).rxNext = (getCls s f.port.val (mrClassOf f)).rxNext := by
  have judged : getCls (incW (mrBase f.port.val + 0x48) (fecCount f s)) f.port.val (mrClassOf f) = getCls s f.port.val (mrClassOf f) := by
    rw [getCls, incW, getPort_wr, fecCount, countUncorr, getPort_setPort_same]
    rfl
  rw [← judged, frameCounted, mrAcked]
  split
  · rfl
  · rw [(getCls_pump ..).2, getCls_setCls_same]

theorem seen_pump (p c : Nat) : (pump p c s).chain.seen = s.chain.seen := by
  have each : ∀ (ks : List Nat) (u : State),
      (forAll ks (fun k s => emit p c ((getCls s p c).base + k) ((getCls s p c).q.getD k ⟨0, 0, 0, []⟩) s) u).chain.seen = u.chain.seen := by
    intro ks
    induction ks with
    | nil => exact fun _ => rfl
    | cons k ks ih => exact fun u => ih _
  exact each _ _

theorem seen_frameIn : (frameIn f s).chain.seen = s.chain.seen := by
  have counted : (frameCounted f s).chain.seen = s.chain.seen := by
    rw [frameCounted, mrAcked]
    split
    · rfl
    · exact seen_pump _ _ _
  exact counted

end

section
variable {cls typ : Nat} {f : MFrame} {s : State} (acked : ackedClass cls = true)
include acked

/-- A frame that arrives is taken in, and reaches its row where it is for this device. -/
theorem mrRow_arrives (handle : State → State) (h : arrives cls typ f s = true) : mrRow cls typ f handle s =
    if mrDst f = 0x1F then
      (if mrSrc f = devOf s ∨ s.chain.seen.contains (mrSrc f, leAt f.payload 0 2) then frameIn f s else handle (broadcastIn f s))
    else if mrDst f = 0x1E ∨ mrDst f = devOf s then handle (frameIn f s)
    else forwardOn f (frameIn f s) := by
  simp only [arrives, Bool.and_eq_true, Bool.not_eq_true', beq_iff_eq, bne_iff_ne, Bool.or_eq_true, acked, Bool.true_eq_false, false_or]
    at h
  obtain ⟨⟨⟨⟨⟨takes, whole⟩, cls'⟩, typ'⟩, some'⟩, next⟩ := h
  have typed : f.typ ≠ 0 := fun none' => some' (by rw [← typ', none']; rfl)
  have expected := rxNext_frameCounted f s
  rw [frameCounted, cls'] at expected
  simp only [mrRow, mrReceive, takes, whole, cls', acked, typed, expected, next, typ', and_self, if_true, if_false, bne_self_eq_false,
    Bool.and_false, Bool.not_true, Bool.false_eq_true]
  rw [← (frameIn_kept f s).devOf, ← seen_frameIn f s]
  simp only [broadcastIn, frameIn, frameCounted, cls', expected]

/-- The row of a frame for this device acts on a state that the frame's traffic alone has changed. -/
theorem mrRow_here (h : arrivesHere cls typ f s = true) : ∃ u, TrafficKept s u ∧ ∀ handle, mrRow cls typ f handle s = handle u := by
  simp only [arrivesHere, Bool.and_eq_true, beq_iff_eq] at h
  obtain ⟨arrived, mine⟩ := h
  have dev : devOf s < 16 := fieldOf_lt ..
  refine ⟨_, frameIn_kept f s, fun handle => ?_⟩
  rw [mrRow_arrives acked _ arrived, if_neg (by omega), if_pos (.inr mine)]

/-- The same of a new broadcast of another device. -/
theorem mrRow_forAll (h : arrivesForAll cls typ f s = true) : ∃ u, TrafficKept s u ∧ ∀ handle, mrRow cls typ f handle s = handle u := by
  simp only [arrivesForAll, Bool.and_eq_true, beq_iff_eq, bne_iff_ne, Bool.not_eq_true'] at h
  obtain ⟨⟨⟨arrived, everyone⟩, other⟩, new⟩ := h
  refine ⟨_, broadcastIn_kept f s, fun handle => ?_⟩
  rw [mrRow_arrives acked _ arrived, if_pos everyone, if_neg (not_or.mpr ⟨other, ne_true_of_eq_false new⟩)]

end

end Sys2Proof.Machine
end

section
/-! SUPPORT. Election and hand-over (R241-R250, R264): what each row leaves in the context and the run of its node, and in the queue of the
port towards the other device (O26). -/

namespace Sys2Proof.Machine

@[simp] theorem getCtx_setCtx_same (n : Nat) (c : Ctx) (s : State) : getCtx (setCtx n c s) n = c := tabGet_set_same _ _ _ _
@[simp] theorem getRun_setRun_same (n : Nat) (r : NodeRun) (s : State) : getRun (setRun n r s) n = r := tabGet_set_same _ _ _ _
@[simp] theorem getCtx_setRun (n : Nat) (r : NodeRun) (s : State) (m : Nat) : getCtx (setRun n r s) m = getCtx s m := rfl

theorem isHome_iff {s : State} {n : Nat} : isHome s n = true ↔ (getCtx s n).role = 1 := beq_iff_eq

theorem not_isHome_iff {s : State} {n : Nat} : isHome s n = false ↔ (getCtx s n).role ≠ 1 := beq_eq_false_iff_ne

/-! ### Challengers (R242) -/

section
variable {d : Nat} {m hyst : Int} {c : Ctx}

/-- The first report, or a greater one of another device. -/
theorem chalReport_replaces (h : c.chalValid = false ∨ (d ≠ c.chalDev ∧ c.chalMargin < m)) : chalReport d m hyst c =
    { c with chalDev := d, chalValid := true, chalMargin := m, chalRun := if c.marginOwn + hyst ≤ m then 1 else 0 } := by
  unfold chalReport
  rw [if_pos (by simpa using h)]
  rfl

/-- A report of the challenger. -/
theorem chalReport_again (valid : c.chalValid = true) (same : d = c.chalDev) : chalReport d m hyst c =
    { c with chalMargin := m, chalRun := if c.marginOwn + hyst ≤ m then min (c.chalRun + 1) 3 else 0 } := by
  unfold chalReport
  rw [if_neg (by simp [valid, same]), if_neg (by simp [same])]

/-- A report of another device that is not greater. -/
theorem chalReport_lower (valid : c.chalValid = true) (other : d ≠ c.chalDev) (low : m ≤ c.chalMargin) : chalReport d m hyst c = c := by
  unfold chalReport
  rw [if_neg (by simp [valid, low]), if_pos other]

end

theorem ctx_handDecide (n : Nat) (s : State) : (handDecide n s).ctx = s.ctx := by
  unfold handDecide
  simp only
  split
  · split
    · exact (TrafficKept.refl s).raiseEvt.ctx
    · rfl
  · rfl

/-- A report of one entry is judged at the home, whose commit moves GEN. -/
theorem marginReport_judges {f : MFrame} {n : Nat} {s : State} (arrived : arrivesHere 1 0x10 f s = true) (one : leAt f.payload 0 2 = 1)
    (length : f.payload.length = 7) (found : findNode s (leAt f.payload 2 3) = some n) (home : isHome s n = true) :
    ∃ g, getCtx (marginReport f s) n =
      { chalReport (mrSrc f) (signedOf 16 (leAt f.payload 5 2)) (4 * getF s 0xB0000 27 24) (getCtx s n) with gen := g } := by
  obtain ⟨u, kept, row⟩ := mrRow_here rfl arrived
  rw [marginReport, row, one]
  simp only [forAll, List.range_one, List.foldl_cons, List.foldl_nil, Nat.mul_zero, Nat.add_zero, kept.findNode, found, kept.isHome, home,
    length, Bool.not_true, Bool.false_eq_true, false_or, Nat.lt_irrefl, if_false]
  generalize known : (if (getCtx u n).replDev = mrSrc f then u else addGuest n (mrSrc f) u) = v
  have context : getCtx v n = getCtx s n := by
    subst known
    split <;> exact kept.getCtx n
  have hyst : getF v 0xB0000 27 24 = getF s 0xB0000 27 24 := by
    subst known
    split <;> exact kept.getF _ _ (by unfold TrafficReg; omega)
  rw [context, hyst, getCtx, ctx_handDecide, ← getCtx, commitCtx, getCtx_setCtx_same]
  exact ⟨_, rfl⟩

/-! ### FINAL goes out (R245) -/

/-- The node in transit, with the FINAL of its next event sent. -/
def inTransit (n : Nat) (h : HandOver) (s : State) : State :=
  setRun n { getRun s n with hand := some { h with k := (getCtx s n).k, sent := true, clk := s.ntb.clk } }
    (commitCtx n { getCtx s n with transit := true } s)

/-- The payload of FINAL (R264). -/
def finalOf (c : Ctx) : List Byte := leBytes 3 c.addr ++ leBytes 4 c.k ++ leBytes 4 c.gen

theorem getCtx_inTransit (n : Nat) (h : HandOver) (s : State) :
    getCtx (inTransit n h s) n = { getCtx s n with transit := true, gen := ((getCtx s n).gen + 1) % 2 ^ 32 } := by
  rw [inTransit, getCtx_setRun, commitCtx, getCtx_setCtx_same]

theorem getRun_inTransit (n : Nat) (h : HandOver) (s : State) : getRun (inTransit n h s) n =
    { getRun s n with hand := some { h with k := (getCtx s n).k, sent := true, clk := s.ntb.clk } } := getRun_setRun_same ..

theorem topology_inTransit (n : Nat) (h : HandOver) (s : State) : SameTopology s (inTransit n h s) := ⟨rfl, fun _ _ _ => rfl⟩

section
variable {x : BitVec 16} {h : HandOver} {s : State}

theorem finalSend_idle (hand : (getRun s x.toNat).hand = some h)
    (idle : h.sent = true ∨ isHome s x.toNat = false ∨ handReady s x.toNat h = false) : finalSend x s = s := by
  unfold finalSend
  simp only [hand]
  exact if_pos (idle.imp id (Or.imp not_isHome_iff.mp (by simp)))

theorem finalSend_none (hand : (getRun s x.toNat).hand = none) : finalSend x s = s := by
  unfold finalSend
  simp only [hand]

section
variable (hand : (getRun s x.toNat).hand = some h) (unsent : h.sent = false) (home : isHome s x.toNat = true)
  (ready : handReady s x.toNat h = true) (conn : (getRun s x.toNat).conn = none)
include hand unsent home ready conn

theorem finalSend_sends : finalSend x s = sendDownlinks x.toNat h.dest
    (sendMr 1 0x13 h.dest (finalOf (getCtx (inTransit x.toNat h s) x.toNat)) (sendContext x.toNat 1 h.dest (inTransit x.toNat h s))) := by
  have same : connHanded x.toNat s = s := by rw [connHanded, conn]
  unfold finalSend
  simp only [hand]
  rw [if_neg (by simp [unsent, isHome_iff.mp home, ready]), same]
  rfl

theorem finalSend_kept : TrafficKept (inTransit x.toNat h s) (finalSend x s) := by
  rw [finalSend_sends hand unsent home ready conn]
  exact (TrafficKept.refl _).sendContext.sendMr.sendDownlinks

/-- FINAL is the last frame of its class towards the new home. -/
theorem finalSend_queues {p : Nat} (way : portTo s h.dest = some p) : (getCls (finalSend x s) p 1).q.getLast? =
    some ⟨0x13, h.dest, devOf s, finalOf (getCtx (finalSend x s) x.toNat)⟩ := by
  have carried : TrafficKept (inTransit x.toNat h s) (sendContext x.toNat 1 h.dest (inTransit x.toNat h s)) :=
    (TrafficKept.refl _).sendContext
  have same := topology_inTransit x.toNat h s
  have way' := (portTo_congr carried.topology _).trans ((portTo_congr same _).trans way)
  rw [(finalSend_kept hand unsent home ready conn).getCtx, finalSend_sends hand unsent home ready conn,
    getCls_sendDownlinks (by decide), queue_sendMr rfl way', carried.devOf, devOf_congr same]
  exact List.getLast?_concat

end

/-! ### The new home does not answer (R245) -/

section
variable (hand : (getRun s x.toNat).hand = some h) (sent : h.sent = true) (transit : (getCtx s x.toNat).transit = true)
include hand sent transit

theorem finalAckTimeout_asks : finalAckTimeout x s =
    sendMr 1 0x15 h.dest (leBytes 3 (getCtx s x.toNat).addr ++ leBytes 4 (getCtx s x.toNat).gen)
      (reachClk (h.clk + clocksOfNs 50000000) s) := by
  simp [finalAckTimeout, hand, sent, transit]

theorem finalAckTimeout_queues {p : Nat} (way : portTo s h.dest = some p) : (getCls (finalAckTimeout x s) p 1).q =
    (getCls s p 1).q ++ [⟨0x15, h.dest, devOf s, leBytes 3 (getCtx s x.toNat).addr ++ leBytes 4 (getCtx s x.toNat).gen⟩] := by
  have later : SameTopology s (reachClk (h.clk + clocksOfNs 50000000) s) :=
    ⟨by rw [reachClk, chain_clocks], fun o high _ => rd_reachClk _ _ (by omega)⟩
  rw [finalAckTimeout_asks hand sent transit, queue_sendMr rfl ((portTo_congr later _).trans way), devOf_congr later, getCls,
    getPort_reachClk, getCls]

/-- 50 ms have passed since FINAL. -/
theorem finalAckTimeout_waits (run : coreRuns s = true) : h.clk + clocksOfNs 50000000 ≤ (finalAckTimeout x s).ntb.clk := by
  rw [finalAckTimeout_asks hand sent transit, (TrafficKept.refl _).sendMr.ntb]
  exact le_clk_reachClk _ run

end

theorem finalAckTimeout_none (hand : (getRun s x.toNat).hand = none) : finalAckTimeout x s = s := by
  unfold finalAckTimeout
  simp only [hand]

end

theorem nodes_clocks (n : Nat) (s : State) : (clocks n s).nodes = s.nodes := by
  have := congrArg State.nodes (clocks_only n s); exact this

theorem finalAckTimeout_leaves (x : BitVec 16) (s : State) :
    (finalAckTimeout x s).ctx = s.ctx ∧ (finalAckTimeout x s).nodes = s.nodes := by
  unfold finalAckTimeout
  simp only
  split
  · exact ⟨rfl, rfl⟩
  · split
    · rw [(TrafficKept.refl _).sendMr.ctx, (TrafficKept.refl _).sendMr.nodes, reachClk]
      exact ⟨clocks_ctx _ s, nodes_clocks _ s⟩
    · exact ⟨rfl, rfl⟩

/-! ### FINAL comes in (R245, R247) -/

/-- `t` is as `s` but for frames and events on their way, REPLICA_NONE, and the device of the replica of node `n` with its GEN. -/
structure ReplicaMade (n : Nat) (s t : State) : Prop where
  context : ∃ g r, getCtx t n = { getCtx s n with gen := g, replDev := r }
  regs : ∀ o, ¬ TrafficReg o → o ≠ 0xB0010 → rd t o = rd s o

theorem TrafficKept.replicaMade {s t : State} (h : TrafficKept s t) (n : Nat) : ReplicaMade n s t :=
  ⟨⟨_, _, h.getCtx n⟩, fun o apart _ => h.regs o apart⟩

namespace ReplicaMade

theorem trans {n : Nat} {s t u : State} (h : ReplicaMade n s t) (h' : ReplicaMade n t u) : ReplicaMade n s u := by
  obtain ⟨⟨g, r, context⟩, regs⟩ := h
  obtain ⟨⟨g', r', context'⟩, regs'⟩ := h'
  exact ⟨⟨g', r', by rw [context', context]⟩, fun o apart other => (regs' o apart other).trans (regs o apart other)⟩

theorem commit (n r : Nat) (s : State) : ReplicaMade n s (commitCtx n { getCtx s n with replDev := r } s) :=
  ⟨⟨_, r, getCtx_setCtx_same ..⟩, fun _ _ _ => rfl⟩

/-- The run of a node changed. -/
theorem run (n m : Nat) (r : NodeRun) (s : State) : ReplicaMade n s (setRun m r s) := ⟨⟨_, _, rfl⟩, fun _ _ _ => rfl⟩

/-- The hand-over reported and answered. -/
theorem answered {n typ addr gen dest source code : Nat} {args : List Byte} {r : NodeRun} {s : State} :
    ReplicaMade n s (finalReply typ addr gen dest (setRun n r (raiseEvt source code args s))) :=
  (((TrafficKept.refl s).raiseEvt.replicaMade n).trans (run ..)).trans ((TrafficKept.refl _).sendMr.replicaMade n)

theorem noReplica (n : Nat) (s : State) : ReplicaMade n s (noReplica n s) := by
  have marked : ∀ u, ReplicaMade n u (setB 0xB0010 9 true u) := fun u => ⟨⟨_, _, rfl⟩, fun o _ other => rd_setB_other _ _ _ other⟩
  exact ((commit n (devOf s) s).trans (marked _)).trans ((TrafficKept.refl _).raiseEvt.replicaMade n)

theorem makeReplica (n : Nat) (holders : List Nat) (s : State) : ReplicaMade n s (makeReplica n holders s) := by
  unfold Machine.makeReplica
  split
  · exact commit n (devOf s) s
  · split
    · exact noReplica n s
    · split
      · exact (noReplica n s).trans ((TrafficKept.refl _).raiseEvt.replicaMade n)
      · exact ((commit n _ s).trans (run ..)).trans ((TrafficKept.refl _).sendContext.replicaMade n)

end ReplicaMade

/-- The copy of node `n` made the home's, with what it forgets of challengers. -/
def homeAt (k : Nat) (s : State) (c : Ctx) : Ctx :=
  { c with role := 1, transit := false, homeSince := secOf s.ntb.net % 2 ^ 32, chalDev := 0, chalRun := 0, chalValid := false,
           chalMargin := 0, homeDev := devOf s, k := k }

/-- A new home holds its copy as the home's, GEN and the device of the replica aside, and counts HANDOVER_IN. -/
theorem commitFinal_commits (n k gen src : Nat) (s : State) :
    (∃ g r, getCtx (commitFinal n k gen src s) n = { homeAt k s (getCtx s n) with gen := g, replDev := r }) ∧
      rd (commitFinal n k gen src s) 0xB007C = rd s 0xB007C + 1 := by
  let u := incW 0xB007C (commitCtx n (homeAt k s (getCtx s n)) (dropFinal (getCtx s n).addr s))
  have made : ReplicaMade n u (commitFinal n k gen src s) := by
    unfold commitFinal
    simp only
    refine .trans ?_ ((TrafficKept.refl _).tellHolders.replicaMade n)
    split
    · exact .trans .answered (.commit n src _)
    · exact .trans .answered (.makeReplica n _ _)
  obtain ⟨⟨g, r, context⟩, regs⟩ := made
  have own : getCtx u n = { homeAt k s (getCtx s n) with gen := ((getCtx s n).gen + 1) % 2 ^ 32 } := getCtx_setCtx_same ..
  refine ⟨⟨g, r, by rw [context, own]⟩, ?_⟩
  rw [regs _ (by unfold TrafficReg; omega) (by omega)]
  exact rd_wr_same _ _ _

section
variable {f : MFrame} {n : Nat} {s : State} (arrived : arrivesHere 1 0x13 f s = true) (found : findNode s (leAt f.payload 0 3) = some n)
  (away : isHome s n = false)
include arrived found away

theorem finalFrame_commits (same : (getCtx s n).gen = leAt f.payload 7 4) :
    (∃ g r, getCtx (finalFrame f s) n = { homeAt (leAt f.payload 3 4) s (getCtx s n) with gen := g, replDev := r }) ∧
      rd (finalFrame f s) 0xB007C = rd s 0xB007C + 1 := by
  obtain ⟨u, kept, row⟩ := mrRow_here rfl arrived
  have act : finalFrame f s = commitFinal n (leAt f.payload 3 4) (leAt f.payload 7 4) (mrSrc f) u := by
    rw [finalFrame, row]
    simp [kept.findNode, found, kept.isHome, away, kept.getCtx, same]
  have own : homeAt (leAt f.payload 3 4) u (getCtx u n) = homeAt (leAt f.payload 3 4) s (getCtx s n) := by
    rw [homeAt, kept.ntb, kept.devOf, kept.getCtx, homeAt]
  rw [act, ← own, ← kept.regs _ (by unfold TrafficReg; omega)]
  exact commitFinal_commits ..

theorem finalFrame_waits (other : (getCtx s n).gen ≠ leAt f.payload 7 4) :
    (finalFrame f s).ctx = s.ctx ∧ (finalFrame f s).nodes.runs = s.nodes.runs ∧
      (leAt f.payload 0 3, leAt f.payload 3 4, leAt f.payload 7 4, mrSrc f) ∈ (finalFrame f s).nodes.finals := by
  obtain ⟨u, kept, row⟩ := mrRow_here rfl arrived
  have act : finalFrame f s = keepFinal (leAt f.payload 0 3) (leAt f.payload 3 4) (leAt f.payload 7 4) (mrSrc f) u := by
    rw [finalFrame, row]
    simp [kept.findNode, found, kept.isHome, away, kept.getCtx, other]
  rw [act]
  exact ⟨kept.ctx, (congrArg NodeSpace.runs kept.nodes : u.nodes.runs = _), List.mem_append_right _ (List.mem_singleton_self _)⟩

end

/-! ### The answers (R245-R247) -/

/-- The node that a hand-over has left: no home here, and neither a hand-over nor a downlink is left of it. -/
structure HandedOver (n : Nat) (s : State) : Prop where
  role : (getCtx s n).role ≠ 1
  transit : (getCtx s n).transit = false
  dls : (getRun s n).dls = []
  hand : (getRun s n).hand = none

theorem TrafficKept.handedOver {s t : State} (h : TrafficKept s t) {n : Nat} (gone : HandedOver n s) : HandedOver n t := by
  obtain ⟨role, transit, dls, hand⟩ := gone
  rw [← h.getCtx] at role transit
  rw [← h.getRun] at dls hand
  exact ⟨role, transit, dls, hand⟩

theorem rd_setCtx (n : Nat) (c : Ctx) (s : State) (o : Nat) : rd (setCtx n c s) o = rd s o := rfl
theorem rd_setRun (n : Nat) (r : NodeRun) (s : State) (o : Nat) : rd (setRun n r s) o = rd s o := rfl
theorem rd_movePends (n dest : Nat) (s : State) (o : Nat) : rd (movePends n dest s) o = rd s o := rfl

/-- The old home's last step: its context FREE, or kept as a copy. -/
theorem handedOver_unpark {n dest o : Nat} {c : Ctx} {r : NodeRun} {s : State} {v : Word} (role : c.role ≠ 1) (transit : c.transit = false)
    (dls : r.dls = []) (hand : r.hand = none) (reg : rd s o = v) {free : Prop} [Decidable free] :
    let t := unpark n (if free then setCtx n {} (setRun n {} (movePends n dest (setRun n r s)))
      else setCtx n c (movePends n dest (setRun n r s)))
    HandedOver n t ∧ rd t o = v := by
  have unparked : ∀ u, HandedOver n u ∧ rd u o = v → HandedOver n (unpark n u) ∧ rd (unpark n u) o = v :=
    fun u ⟨⟨role, transit, dls, hand⟩, reg⟩ => ⟨⟨role, transit, dls, hand⟩, reg⟩
  refine unparked _ ?_
  split
  · have context : ∀ u, getCtx (setCtx n {} u) n = {} := getCtx_setCtx_same n {}
    have run : ∀ u, getRun (setCtx n {} (setRun n {} u)) n = {} := fun u => getRun_setRun_same n {} u
    refine ⟨⟨?_, ?_, ?_, ?_⟩, ?_⟩
    · rw [context]
      decide
    · rw [context]
    · rw [run]
    · rw [run]
    · rwa [rd_setCtx, rd_setRun, rd_movePends, rd_setRun]
  · have context : ∀ u, getCtx (setCtx n c u) n = c := getCtx_setCtx_same n c
    have run : getRun (setCtx n c (movePends n dest (setRun n r s))) n = r := getRun_setRun_same n r s
    exact ⟨⟨by rwa [context], by rwa [context], by rwa [run], by rwa [run]⟩, by rwa [rd_setCtx, rd_movePends, rd_setRun]⟩

section
variable {f : MFrame} {n : Nat} {h : HandOver} {s : State} (found : findNode s (leAt f.payload 0 3) = some n)
  (hand : (getRun s n).hand = some h) (sent : h.sent = true) (transit : (getCtx s n).transit = true)
include found hand sent transit

theorem finalAck_leaves (arrived : arrivesHere 1 0x14 f s = true) :
    HandedOver n (finalAckRow f s) ∧ rd (finalAckRow f s) 0xB0078 = rd s 0xB0078 + 1 := by
  obtain ⟨u, kept, row⟩ := mrRow_here rfl arrived
  have settled := (TrafficKept.refl (finalAck f s)).serviceSettle
  suffices done : HandedOver n (finalAck f s) ∧ rd (finalAck f s) 0xB0078 = rd s 0xB0078 + 1 from
    ⟨settled.handedOver done.1, (settled.regs _ (by unfold TrafficReg; omega)).trans done.2⟩
  rw [finalAck, row]
  simp only [kept.findNode, found, kept.getRun, hand, kept.getCtx, transit, sent, Bool.not_true, Bool.false_eq_true, or_self, if_false]
  refine handedOver_unpark ?_ rfl rfl rfl ?_
  · show (if _ then 2 else if _ then 3 else 0) ≠ 1
    split
    · decide
    · split <;> decide
  · have counted : rd (incW 0xB0078 u) 0xB0078 = rd s 0xB0078 + 1 := by
      rw [incW, rd_wr_same, kept.regs _ (by unfold TrafficReg; omega)]
    split
    · exact ((TrafficKept.refl _).sendMr.regs _ (by unfold TrafficReg; omega)).trans counted
    · exact counted

/-- The old home stays home, from the event after the one that FINAL named. -/
theorem finalNak_keeps (arrived : arrivesHere 1 0x16 f s = true) :
    (∃ g, getCtx (finalNak f s) n =
      { getCtx s n with transit := false, k := (h.k + 1) % 2 ^ 32, missed := min 65535 ((getCtx s n).missed + 1), gen := g }) ∧
      getRun (finalNak f s) n = { getRun s n with hand := none } := by
  obtain ⟨u, kept, row⟩ := mrRow_here rfl arrived
  rw [finalNak, row]
  simp only [kept.findNode, found, kept.getRun, hand, kept.getCtx, transit, sent, Bool.not_true, Bool.false_eq_true, or_self, if_false]
  exact ⟨⟨_, getCtx_setCtx_same ..⟩, getRun_setRun_same ..⟩

end

/-- FINAL_QUERY is answered by what the node is here, and a FINAL that waits for it is dropped. -/
theorem finalQuery_replies {f : MFrame} {s : State} (arrived : arrivesHere 1 0x15 f s = true) : ∃ u typ, TrafficKept s u ∧
    finalQuery f s = finalReply typ (leAt f.payload 0 3) (leAt f.payload 3 4) (mrSrc f) (dropFinal (leAt f.payload 0 3) u) ∧
    ∀ n, findNode s (leAt f.payload 0 3) = some n → typ = if isHome s n then 0x14 else 0x16 := by
  obtain ⟨u, kept, row⟩ := mrRow_here rfl arrived
  refine ⟨u, _, kept, row _, fun n found => ?_⟩
  simp only [kept.findNode, found, kept.isHome]

theorem finalQuery_leaves {f : MFrame} {s : State} (arrived : arrivesHere 1 0x15 f s = true) :
    (finalQuery f s).ctx = s.ctx ∧ (finalQuery f s).nodes.runs = s.nodes.runs ∧
      (∀ x ∈ (finalQuery f s).nodes.finals, x.1 ≠ leAt f.payload 0 3) ∧
      ∀ n p, portTo s (mrSrc f) = some p → findNode s (leAt f.payload 0 3) = some n → (getCls (finalQuery f s) p 1).q.getLast? =
        some ⟨if isHome s n then 0x14 else 0x16, mrSrc f, devOf s, leBytes 3 (leAt f.payload 0 3) ++ leBytes 4 (leAt f.payload 3 4)⟩ := by
  obtain ⟨u, typ, kept, row, answer⟩ := finalQuery_replies arrived
  have sent : TrafficKept (dropFinal (leAt f.payload 0 3) u) (finalQuery f s) := row ▸ (TrafficKept.refl _).sendMr
  have dropped : SameTopology s (dropFinal (leAt f.payload 0 3) u) := ⟨kept.peers, fun o _ => kept.regs o⟩
  refine ⟨sent.ctx.trans kept.ctx, ?_, fun x listed => ?_, fun n p way found => ?_⟩
  · rw [sent.nodes, ← kept.nodes]
    rfl
  · rw [sent.nodes] at listed
    simpa using (List.mem_filter.mp listed).2
  · rw [row, answer n found, finalReply, queue_sendMr rfl ((portTo_congr dropped _).trans way), devOf_congr dropped]
    exact List.getLast?_concat

/-! ### Copies and guests (R233, R243, R248, R250) -/

section
variable {f : MFrame} {n : Nat} {s : State} (arrived : arrivesHere 1 0x18 f s = true) (found : findNode s (leAt f.payload 0 3) = some n)
include arrived found

theorem counterUpdate_follows (away : isHome s n = false) : getCtx (counterUpdate f s) n =
    { getCtx s n with gen := leAt f.payload 3 4, homeDev := mrSrc f, upFcnt := leAt f.payload 7 4, upWin := leAt f.payload 11 4,
                      dnFcnt := leAt f.payload 15 4 } := by
  obtain ⟨u, kept, row⟩ := mrRow_here rfl arrived
  rw [counterUpdate, row]
  simp only [kept.findNode, found, kept.getCtx, if_neg (not_isHome_iff.mp away), getCtx_setCtx_same]

theorem counterUpdate_yields (home : isHome s n = true) (newer : newerGen (leAt f.payload 3 4) (getCtx s n).gen = true) :
    (getCtx (counterUpdate f s) n).role = 3 ∧ (getCtx (counterUpdate f s) n).homeDev = mrSrc f ∧ (getRun (counterUpdate f s) n).dls = [] ∧
      (getCtx (counterUpdate f s) n).dlPend = 0 := by
  obtain ⟨u, kept, row⟩ := mrRow_here rfl arrived
  rw [counterUpdate, row]
  simp only [kept.findNode, found, kept.getCtx, if_pos (isHome_iff.mp home), newer, if_true, yieldTo, getCtx_setCtx_same]
  have run : ∀ c r v, getRun (setCtx n c (movePends n (mrSrc f) (setRun n r v))) n = r := fun c r v => getRun_setRun_same n r v
  rw [run]
  exact ⟨trivial, trivial, rfl, trivial⟩

theorem counterUpdate_older (home : isHome s n = true) (older : newerGen (leAt f.payload 3 4) (getCtx s n).gen = false) :
    (counterUpdate f s).ctx = s.ctx := by
  obtain ⟨u, kept, row⟩ := mrRow_here rfl arrived
  rw [counterUpdate, row]
  simp only [kept.findNode, found, kept.getCtx, if_pos (isHome_iff.mp home), older, Bool.false_eq_true, if_false]
  exact kept.ctx

end

section
variable {f : MFrame} {n : Nat} {s : State} (arrived : arrivesForAll 1 0x11 f s = true) (one : leAt f.payload 2 2 = 1)
  (length : f.payload.length = 10) (found : findNode s (leAt f.payload 4 3) = some n) (home : isHome s n = true)
include arrived one length found home

/-- The one entry of a heard table, judged at the home. -/
theorem heardTable_judges : ∃ u, TrafficKept s u ∧ heardTable f s =
    if signedOf 16 (leAt f.payload 8 2) < 4 * signedOf 8 (getF s 0xB000C 23 16) then u
    else if (chainKey s).isNone then chainKeyMissing u
    else sendContext n 3 (mrSrc f) (addGuest n (mrSrc f) u) := by
  obtain ⟨u, kept, row⟩ := mrRow_forAll rfl arrived
  have limit : getF u 0xB000C 23 16 = getF s 0xB000C 23 16 := kept.getF _ _ (by unfold TrafficReg; omega)
  refine ⟨u, kept, ?_⟩
  rw [heardTable, row, one]
  simp only [forAll, List.range_one, List.foldl_cons, List.foldl_nil, Nat.mul_zero, Nat.add_zero, kept.findNode, found, kept.isHome, home,
    length, kept.chainKey, limit, Bool.not_true, Bool.false_eq_true, false_or, Nat.lt_irrefl]

theorem heardTable_adds (loud : 4 * signedOf 8 (getF s 0xB000C 23 16) ≤ signedOf 16 (leAt f.payload 8 2))
    (key : (chainKey s).isSome = true) : mrSrc f ∈ (getRun (heardTable f s) n).guests ∧ (heardTable f s).ctx = s.ctx := by
  obtain ⟨u, kept, act⟩ := heardTable_judges arrived one length found home
  rw [if_neg (by omega), if_neg (by simpa using Option.isSome_iff_ne_none.mp key)] at act
  have sent : TrafficKept (addGuest n (mrSrc f) u) (heardTable f s) := act ▸ (TrafficKept.refl _).sendContext
  rw [sent.getRun, addGuest, getRun_setRun_same, sent.ctx]
  exact ⟨List.mem_append_right _ (List.mem_singleton_self _), kept.ctx⟩

theorem heardTable_faint (faint : signedOf 16 (leAt f.payload 8 2) < 4 * signedOf 8 (getF s 0xB000C 23 16)) :
    (heardTable f s).ctx = s.ctx ∧ (heardTable f s).nodes = s.nodes := by
  obtain ⟨u, kept, act⟩ := heardTable_judges arrived one length found home
  rw [if_pos faint] at act
  rw [act]
  exact ⟨kept.ctx, kept.nodes⟩

end

/-- Settles O26: the report's three outcomes by `chalReport`, and each hand-over row by what it leaves of the node beside the traffic. -/
theorem homeElectionAndHandover : Obligations.HomeElectionAndHandover := by
  refine ⟨fun f n s arrived one length found home => ?_, fun x h s hand => ⟨fun unsent home ready conn => ?_, fun idle => ?_,
      fun p unsent home ready conn way => ?_, fun p sent transit way => ?_, ?_⟩, fun x s none' => ?_,
    fun f n s arrived found away => ⟨fun same => ?_, fun other => ?_⟩, fun f n h s arrived found hand sent transit => ?_,
    fun f n h s arrived found hand sent transit => ?_, fun f s arrived => ?_,
    fun f n s arrived found => ⟨fun away => ?_, fun home newer => ?_, fun home older => ?_⟩,
    fun f n s arrived one length found home => ⟨fun loud key => ?_, fun faint => ?_⟩⟩
  · obtain ⟨g, judged⟩ := marginReport_judges arrived one length found home
    refine ⟨_, rfl, fun replaced => ?_, fun valid same => ?_, fun valid other low => ?_⟩
    · rw [judged, chalReport_replaces replaced]
      exact ⟨rfl, rfl, rfl, rfl⟩
    · rw [judged, chalReport_again valid same]
      exact ⟨rfl, rfl, rfl⟩
    · rw [judged, chalReport_lower valid other low]
      exact ⟨rfl, rfl, rfl⟩
  · have kept := finalSend_kept hand unsent home ready conn
    refine ⟨_, rfl, ?_⟩
    beta_reduce
    rw [kept.getCtx, kept.getRun, getCtx_inTransit, getRun_inTransit]
    exact ⟨rfl, rfl, rfl⟩
  · exact congrArg Host.Outcome.next (finalSend_idle hand idle)
  · exact ⟨_, rfl, finalSend_queues hand unsent home ready conn way⟩
  · obtain ⟨ctx, nodes⟩ := finalAckTimeout_leaves x s
    exact ⟨_, rfl, finalAckTimeout_queues hand sent transit way, ctx, nodes, finalAckTimeout_waits hand sent transit⟩
  · exact ⟨_, rfl, finalAckTimeout_leaves x s⟩
  · exact ⟨congrArg Host.Outcome.next (finalSend_none none'), congrArg Host.Outcome.next (finalAckTimeout_none none')⟩
  · obtain ⟨⟨g, r, context⟩, counted⟩ := finalFrame_commits arrived found away same
    refine ⟨_, rfl, ?_⟩
    beta_reduce
    rw [context]
    exact ⟨rfl, rfl, rfl, rfl, rfl, rfl, rfl, counted⟩
  · exact ⟨_, rfl, finalFrame_waits arrived found away other⟩
  · obtain ⟨⟨role, transit, dls, ended⟩, counted⟩ := finalAck_leaves found hand sent transit arrived
    exact ⟨_, rfl, role, transit, dls, ended, counted⟩
  · obtain ⟨⟨g, context⟩, run⟩ := finalNak_keeps found hand sent transit arrived
    refine ⟨_, rfl, ?_⟩
    beta_reduce
    rw [context, run]
    exact ⟨rfl, rfl, rfl, rfl, rfl, rfl⟩
  · exact ⟨_, rfl, finalQuery_leaves arrived⟩
  · exact ⟨_, rfl, counterUpdate_follows arrived found away⟩
  · exact ⟨_, rfl, counterUpdate_yields arrived found home newer⟩
  · exact ⟨_, rfl, counterUpdate_older arrived found home older⟩
  · exact ⟨_, rfl, heardTable_adds arrived one length found home loud key⟩
  · exact ⟨_, rfl, heardTable_faint arrived one length found home faint⟩

end Sys2Proof.Machine
end

section
/-! SUPPORT. The refutation of O29: a frame that fails its CRC, in whose codewords the line's error correction has corrected symbols. -/

namespace Sys2Proof.Machine

/-- Error correction works on codewords and not on frames: MRx_FEC_CORR counts the symbols corrected in those of any frame (R258, R275). -/
theorem rd_fecCount_corrected (f : MFrame) (s : State) :
    rd (fecCount f s) (mrBase f.port.val + 0x28) = rd s (mrBase f.port.val + 0x28) + BitVec.ofNat 32 f.corr := by
  rw [fecCount, rd_countUncorr _ _ _ (by omega), rd_wr_same]

section
variable {f : MFrame} {s : State} (takes : mrTakes s f = true) (bad : mrBad s f = true)
include takes bad

/-- A bad frame is counted with what its codewords met, and the port is judged by them (R258, R260, R261). -/
theorem acknowledgementOnlyFrame_bad : acknowledgementOnlyFrame f s =
    fallbackJudge f.port.val (incW (mrBase f.port.val + 0x30) (fecCount f s)) := by
  rw [acknowledgementOnlyFrame, mrReceive, takes, bad]
  rfl

/-- The symbols corrected in a bad frame are counted where the port does not fall back. -/
theorem rd_acknowledgementOnlyFrame_corrected (lowest : rateOfPort s f.port.val ≤ rateMinOf s f.port.val) :
    rd (acknowledgementOnlyFrame f s) (mrBase f.port.val + 0x28) = rd s (mrBase f.port.val + 0x28) + BitVec.ofNat 32 f.corr := by
  have other : ∀ {o}, o ≠ mrBase f.port.val + 0x28 → o ≠ mrBase f.port.val + 0x2C → o ≠ mrBase f.port.val + 0x30 →
      rd (incW (mrBase f.port.val + 0x30) (fecCount f s)) o = rd s o := fun corr uncorr crc => by
    rw [incW, rd_wr_other _ _ crc, fecCount, rd_countUncorr _ _ _ uncorr, rd_wr_other _ _ corr]
  have stays : rateOfPort (incW (mrBase f.port.val + 0x30) (fecCount f s)) f.port.val ≤
      rateMinOf (incW (mrBase f.port.val + 0x30) (fecCount f s)) f.port.val := by
    rw [rateOfPort, rateMinOf, getF_eq_of_rd (other (by omega) (by omega) (by omega)), getF_eq_of_rd (other (by omega) (by omega) (by omega))]
    exact lowest
  rw [acknowledgementOnlyFrame_bad takes bad, fallbackJudge_stays (.inr stays), incW, rd_wr_other _ _ (by omega), rd_fecCount_corrected]

end

/-- This device's port 0 is UP, at the lowest rate. -/
def upAtLowestRate : State := { State.reset with reg := [(0xA0010, 8)] }

/-- An acknowledgement-only frame from device 2 with the wrong CRC 0, in whose codewords one symbol was corrected. -/
def wrongCrcCorrected : MFrame :=
  { port := 0, cls := 1, typ := 0, dst := 0x1E, src := 2, len := 0, chainId := 0, seq := 0, ack := 0, payload := [], crc := 0, corr := 1 }

theorem wrongCrcCorrected_taken : mrTakes upAtLowestRate wrongCrcCorrected = true := by decide +kernel

theorem wrongCrcCorrected_bad : mrBad upAtLowestRate wrongCrcCorrected = true := by decide +kernel

theorem upAtLowestRate_rates : rateOfPort upAtLowestRate 0 = 0 ∧ rd upAtLowestRate (mrBase 0 + 0x28) = 0 := by decide +kernel

/-- Refutes O29, by its clause on a frame that fails its CRC: it says that MRx_CRC_ERR counts the frame and nothing else changes, but the
symbols corrected in the frame's codewords are counted in MRx_FEC_CORR (R258, R275, log entry 155). -/
theorem not_mooringTimeAndChain : ¬ Obligations.MooringTimeAndChain := by
  rintro ⟨-, -, -, -, -, -, -, -, -, -, -, -, wrongCrc, -⟩
  obtain ⟨step, -, -⟩ := wrongCrc wrongCrcCorrected upAtLowestRate wrongCrcCorrected_taken wrongCrcCorrected_bad
  have onlyCounted : acknowledgementOnlyFrame wrongCrcCorrected upAtLowestRate = incW (mrBase 0 + 0x30) upAtLowestRate :=
    Host.Outcome.next.inj step
  obtain ⟨lowest, uncounted⟩ := upAtLowestRate_rates
  have corrected : rd (acknowledgementOnlyFrame wrongCrcCorrected upAtLowestRate) (mrBase 0 + 0x28) =
      rd upAtLowestRate (mrBase 0 + 0x28) + 1 :=
    rd_acknowledgementOnlyFrame_corrected wrongCrcCorrected_taken wrongCrcCorrected_bad (lowest.trans_le (Nat.zero_le _))
  rw [onlyCounted, incW, rd_wr_other _ _ (by decide), uncounted] at corrected
  exact absurd corrected (by decide)

end Sys2Proof.Machine
end

section
/-! SUPPORT. The refutation of O30: the clock between a write of EVF_SWTRIG and its sources is the last clock of a slew. -/

namespace Sys2Proof.Machine

/-- The sources that a write of EVF_SWTRIG raises leave the registers as the clock before them leaves them (R281). -/
theorem evfSwtrig_reg (v : Word) (s : State) : (evfSwtrig v s).reg = (clocks 1 s).reg :=
  List.foldlRecOn (motive := fun t => State.reg t = (clocks 1 s).reg) _ _ rfl fun _ kept _ _ => (raiseSrc_reg _ _).trans kept

/-- Clocks in which a slew removes the rest of its offset clear SLEWING (R46, R51). -/
theorem slewing_clocks_ended {n : Nat} {s : State} (run : coreRuns s = true) (slews : slewRate s ≠ 0) (ends : slewClocks s ≤ n) :
    getB (clocks n s) 0x20024 4 = false := by
  have last : clocks n s = plainClocks (n - slewClocks s) (endSlew (plainClocks (slewClocks s) s)) := by
    rw [clocks, if_neg (by simp [slews, run]), if_neg (by omega)]
  rw [last, getB, rd, plainClocks_reg, ← rd, endSlew, rd_setB_same, bitOf_withBit_same _ _ _ (by decide)]

/-- LOCKED to MOORING, with a slew in effect for the offset that one core clock at 500 ppm removes (R46, R56). -/
def slewsForOneClock : State :=
  beginSlew (-(100000 * rateMax)) { State.reset with reg := [(0x20024, 5)] }

theorem slewsForOneClock_runs : coreRuns slewsForOneClock = true := by decide +kernel

theorem slewsForOneClock_slewing : getB slewsForOneClock 0x20024 4 = true := by decide +kernel

theorem slewsForOneClock_ends : slewRate slewsForOneClock ≠ 0 ∧ slewClocks slewsForOneClock = 1 := by decide +kernel

/-- Refutes O30, by its clause on EVF_SWTRIG: it says that the registers stay as they were, but the sources fire one clock after the write
(R281), and where a slew removes the rest of its offset in that clock, SLEWING of NTB_STATUS is cleared (R46, R51). -/
theorem not_rhizomeFabric : ¬ Obligations.RhizomeFabric := by
  rintro ⟨-, -, -, swtrig, -⟩
  obtain ⟨t, step, same, -⟩ := swtrig 1 slewsForOneClock slewsForOneClock_runs
  obtain rfl : evfSwtrig 1 slewsForOneClock = t := Host.Outcome.next.inj step
  obtain ⟨slews, ends⟩ := slewsForOneClock_ends
  have cleared := slewing_clocks_ended slewsForOneClock_runs slews ends.le
  have stays : getB (clocks 1 slewsForOneClock) 0x20024 4 = getB slewsForOneClock 0x20024 4 := by
    rw [getB, rd, ← evfSwtrig_reg 1, same, ← rd, ← getB]
  rw [stays, slewsForOneClock_slewing] at cleared
  exact absurd cleared (by decide)

end Sys2Proof.Machine
end

section
/-! SUPPORT. The front of the queue (O1), and that every command but a register access has a next state from every state (O2). -/

namespace Sys2Proof.Machine

/-- Settles O1: `step` is defined by the front of the queue. -/
theorem frontCommandRuns : Obligations.FrontCommandRuns := fun _ _ _ => rfl

/-- Only an access to a single register can end in a fault: the meaning of every other command is a next state. -/
theorem exec_answers (c : Instr) (s : State) (write : ∀ d a z v, c ≠ .registerWrite d a z v)
    (latch : ∀ d a z, c ≠ .lowWordLatchRead d a z) : ∃ t, exec c s = .next t := by
  cases c with
  | registerWrite d a z v => exact absurd rfl (write d a z v)
  | lowWordLatchRead d a z => exact absurd rfl (latch d a z)
  | _ => exact ⟨_, rfl⟩

theorem step_idle (s : State) (none_waits : s.pending = []) : step s = .next (idle s) := by
  simp [step, none_waits]

/-- With nothing due the nearest instant is the next clock. -/
theorem idle_nothing_due (s : State) (standby : standbyReady s = false) (poll : s.keeper.run = none) (boot : s.boot.due = 0)
    (ponr : s.power.ponrDue = none) : idle s = clocks 1 s := by
  simp [idle, nearest, standby, poll, boot, ponr]

/-- Settles O2. -/
theorem everyCommandAnswers : Obligations.EveryCommandAnswers := ⟨exec_answers, step_idle, idle_nothing_due⟩

end Sys2Proof.Machine
end

section
/-! SUPPORT. The host die's registers by bit and field: what a read of one gives after a write of another, and which registers a run of
writes can have changed. -/

namespace Sys2Proof.Machine

/-! ### Reads after writes -/

theorem hgetB_hwr (s : State) (off o j : Nat) (v : Word) : hgetB (hwr off v s) o j = if o = off then bitOf v j else hgetB s o j := by
  rw [hgetB, hrd_hwr]
  split <;> rfl

theorem hgetF_hwr (s : State) (off o hi lo : Nat) (v : Word) :
    hgetF (hwr off v s) o hi lo = if o = off then fieldOf v hi lo else hgetF s o hi lo := by
  rw [hgetF, hrd_hwr]
  split <;> rfl

theorem hgetB_hsetB (s : State) (off i o : Nat) {j : Nat} (b : Bool) (h : j < 32) :
    hgetB (hsetB off i b s) o j = if o = off ∧ j = i then b else hgetB s o j := by
  rw [hsetB, hgetB_hwr, bitOf_withBit _ _ h]
  by_cases same : o = off <;> simp [same, hgetB]

theorem hgetF_hsetB (s : State) {off i o hi lo : Nat} (b : Bool) (h : hi < 32) (apart : o ≠ off ∨ hi < i ∨ i < lo) :
    hgetF (hsetB off i b s) o hi lo = hgetF s o hi lo := by
  rw [hsetB, hgetF_hwr]
  split
  · next same => subst same; exact fieldOf_withBit_other _ _ h (apart.resolve_left (· rfl))
  · rfl

theorem hgetB_hsetF (s : State) {off hi lo o j : Nat} (v : Nat) (h : j < 32) (apart : o ≠ off ∨ j < lo ∨ hi < j) :
    hgetB (hsetF off hi lo v s) o j = hgetB s o j := by
  rw [hsetF, hgetB_hwr]
  split
  · next same => subst same; exact bitOf_withField_other _ _ h (apart.resolve_left (· rfl))
  · rfl

theorem hgetF_hsetF_same (s : State) (off : Nat) {hi lo : Nat} (v : Nat) (h : hi < 32) :
    hgetF (hsetF off hi lo v s) off hi lo = v % 2 ^ (hi + 1 - lo) := by
  rw [hsetF, hgetF_hwr, if_pos rfl, fieldOf_withField _ _ _ _ h]

theorem hgetF_hsetF_other (s : State) {off hi lo o hi' lo' : Nat} (v : Nat) (h : hi' < 32) (apart : o ≠ off ∨ hi' < lo ∨ hi < lo') :
    hgetF (hsetF off hi lo v s) o hi' lo' = hgetF s o hi' lo' := by
  rw [hsetF, hgetF_hwr]
  split
  · next same => subst same; exact fieldOf_withField_other _ _ h (apart.resolve_left (· rfl))
  · rfl

theorem hgetB_eq_of_hrd {s t : State} {o : Nat} (h : hrd t o = hrd s o) (j : Nat) : hgetB t o j = hgetB s o j := by rw [hgetB, h, hgetB]

theorem hgetF_eq_of_hrd {s t : State} {o : Nat} (h : hrd t o = hrd s o) (hi lo : Nat) : hgetF t o hi lo = hgetF s o hi lo := by
  rw [hgetF, h, hgetF]

/-! ### Which registers a run of writes changes -/

theorem onlyHregs_refl (ks : List Nat) (s : State) : onlyHregs ks s s := ⟨rfl, fun _ _ => rfl⟩

theorem onlyHregs.hwr {ks : List Nat} {s t : State} (h : onlyHregs ks s t) {off : Nat} (v : Word) (listed : off ∈ ks) :
    onlyHregs ks s (hwr off v t) :=
  ⟨h.1, fun o ho => (hrd_hwr_other t v (by rintro rfl; exact ho listed)).trans (h.2 o ho)⟩

theorem onlyHregs.hsetB {ks : List Nat} {s t : State} (h : onlyHregs ks s t) {off : Nat} (i : Nat) (b : Bool) (listed : off ∈ ks) :
    onlyHregs ks s (hsetB off i b t) := h.hwr _ listed

theorem onlyHregs.hsetF {ks : List Nat} {s t : State} (h : onlyHregs ks s t) {off : Nat} (hi lo v : Nat) (listed : off ∈ ks) :
    onlyHregs ks s (hsetF off hi lo v t) := h.hwr _ listed

theorem onlyHregs.when {ks : List Nat} {s t u : State} {p : Prop} [Decidable p] (yes : p → onlyHregs ks s t) (no : ¬ p → onlyHregs ks s u) :
    onlyHregs ks s (if p then t else u) := by
  split
  · next h => exact yes h
  · next h => exact no h

theorem onlyHregs_hsetB (off i : Nat) (b : Bool) (s : State) : onlyHregs [off] s (hsetB off i b s) := onlyHregs_hwr _ _ _

/-! ### Interrupt sources -/

/-- A source is shown in its own bit. -/
theorem hgetB_irq_same (n : Nat) (s : State) : hgetB (irq n s) (0x4D00 + n / 32 * 4) (n % 32) = true := by
  by_cases pendings : 0x4D00 + n / 32 * 4 = 0x4800
  · omega
  · rw [hgetB, hrd_irq n s pendings, hrd_hsetB_same, bitOf_withBit_same _ _ _ (Nat.mod_lt _ (by omega))]

/-- A source leaves every register but its own and the pending vectors. -/
theorem hrd_irq_other (n : Nat) (s : State) {o : Nat} (vectors : o ≠ 0x4800) (sources : o ≠ 0x4D00 + n / 32 * 4) :
    hrd (irq n s) o = hrd s o := by
  rw [hrd_irq n s vectors, hrd_hsetB_other _ _ _ sources]

theorem irq_keeps {α : Type} (f : State → α) (framed : ∀ (u : State) (r : Tab Word) (d : Tender), f { u with hreg := r, tender := d } = f u)
    (n : Nat) (s : State) : f (irq n s) = f s := by
  rw [← framed (irq n s) s.hreg s.tender, irq_only]

end Sys2Proof.Machine
end

section
/-! SUPPORT. The real-time clock (O36, O37): the advance of the calendar, a load, the alarm, the shadow and the backup supply (R374-R384). -/

namespace Sys2Proof.Machine

/-! ### The calendar (R375) -/

theorem daysIn_february (y : Nat) : daysIn y 2 = if y % 4 = 0 ∧ (y % 100 ≠ 0 ∨ y % 400 = 0) then 29 else 28 := by
  simp [daysIn, leapYear]

section
variable {c : Civil}

theorem civilNext_second (sec : c.sec < 59) : civilNext c = ({ c with sec := c.sec + 1 }, false) := by simp [civilNext, sec]

theorem civilNext_minute (sec : c.sec = 59) (min : c.min < 59) : civilNext c = ({ c with sec := 0, min := c.min + 1 }, false) := by
  simp [civilNext, sec, min]

theorem civilNext_hour (sec : c.sec = 59) (min : c.min = 59) (hour : c.hour < 23) :
    civilNext c = ({ c with sec := 0, min := 0, hour := c.hour + 1 }, false) := by
  simp [civilNext, sec, min, hour]

/-- The day ends. -/
theorem civilNext_midnight (sec : c.sec = 59) (min : c.min = 59) (hour : c.hour = 23) : civilNext c =
    if c.day < daysIn c.year c.month then ({ c with sec := 0, min := 0, hour := 0, day := c.day + 1 }, false)
    else if c.month < 12 then ({ c with sec := 0, min := 0, hour := 0, day := 1, month := c.month + 1 }, false)
    else if c.year < 3999 then ({ c with sec := 0, min := 0, hour := 0, day := 1, month := 1, year := c.year + 1 }, false)
    else ({ sec := 0, min := 0, hour := 0, day := 1, month := 1, year := 2000 }, true) := by
  simp [civilNext, sec, min, hour]

end

/-! ### The advance -/

/-- The weekday after a second. -/
def weekdayNext (c : Civil) (wd : Nat) : Nat :=
  if (civilNext c).2 then 6
  else if (civilNext c).1.day = c.day ∧ (civilNext c).1.month = c.month ∧ (civilNext c).1.year = c.year then wd
  else if wd = 7 then 1 else wd + 1

/-- The running clock of a state as a civil time. -/
def clockOf (s : State) : Civil := civilOf (hrd s 0x5000) (hrd s 0x5004)

theorem rtcAdvance_eq (s : State) : rtcAdvance s =
    if (civilNext (clockOf s)).2 then
      hsetB 0x5010 2 true (hwr 0x5004 (dateWord (civilNext (clockOf s)).1)
        (hwr 0x5000 (timeWord (civilNext (clockOf s)).1 (weekdayNext (clockOf s) (hgetF s 0x5000 26 24))) s))
    else hwr 0x5004 (dateWord (civilNext (clockOf s)).1)
        (hwr 0x5000 (timeWord (civilNext (clockOf s)).1 (weekdayNext (clockOf s) (hgetF s 0x5000 26 24))) s) := rfl

theorem rtcAdvance_date (s : State) : hrd (rtcAdvance s) 0x5004 = dateWord (civilNext (clockOf s)).1 := by
  rw [rtcAdvance_eq]
  split <;> simp [hsetB, hrd_hwr]

theorem rtcAdvance_time (s : State) :
    hrd (rtcAdvance s) 0x5000 = timeWord (civilNext (clockOf s)).1 (weekdayNext (clockOf s) (hgetF s 0x5000 26 24)) := by
  rw [rtcAdvance_eq]
  split <;> simp [hsetB, hrd_hwr]

theorem rtcAdvance_status (s : State) {j : Nat} (h : j < 32) :
    hgetB (rtcAdvance s) 0x5010 j = if j = 2 ∧ (civilNext (clockOf s)).2 = true then true else hgetB s 0x5010 j := by
  rw [rtcAdvance_eq]
  split
  · next wrap => simp [hgetB_hsetB _ _ _ _ _ h, hgetB_hwr, wrap]
  · next wrap => simp [hgetB_hwr, wrap]

theorem rtcAdvance_only (s : State) : onlyHregs [0x5000, 0x5004, 0x5010] s (rtcAdvance s) := by
  have written := ((onlyHregs_refl [0x5000, 0x5004, 0x5010] s).hwr
    (timeWord (civilNext (clockOf s)).1 (weekdayNext (clockOf s) (hgetF s 0x5000 26 24))) (off := 0x5000) (by decide)).hwr
    (dateWord (civilNext (clockOf s)).1) (off := 0x5004) (by decide)
  rw [rtcAdvance_eq]
  exact onlyHregs.when (fun _ => written.hsetB 2 true (by decide)) (fun _ => written)

/-! ### The load (R379) -/

theorem rtcSet_only (t d : Word) (s : State) : onlyHregs [0x5000, 0x5004, 0x5010] s (rtcSet t d s) :=
  ((onlyHregs_refl _ s).hwr _ (by decide)).hwr _ (by decide)

/-- LOAD_PENDING and DIRTY cleared. -/
def loadTaken (s : State) : State := hsetB 0x5010 9 false (hsetB 0x5010 8 false s)

theorem loadTaken_only (s : State) : onlyHregs [0x5000, 0x5004, 0x5010] s (loadTaken s) :=
  ((onlyHregs_refl _ s).hsetB 8 false (by decide)).hsetB 9 false (by decide)

theorem hgetB_loadTaken (s : State) {j : Nat} (h : j < 32) :
    hgetB (loadTaken s) 0x5010 j = if j = 8 ∨ j = 9 then false else hgetB s 0x5010 j := by
  simp only [loadTaken, hgetB_hsetB _ _ _ _ _ h]
  by_cases pending : j = 8 <;> by_cases dirty : j = 9 <;> simp [pending, dirty]

theorem onlyHregs.trans {ks : List Nat} {s t u : State} (h : onlyHregs ks s t) (k : onlyHregs ks t u) : onlyHregs ks s u := by
  refine ⟨?_, fun o ho => (k.2 o ho).trans (h.2 o ho)⟩
  have same := h.1
  rw [← k.1] at same
  exact same

/-! ### The alarm (R380, R381) -/

/-- The alarm is at or before the clock. -/
def alarmReached (s : State) : Bool := decide (civilKey (hrd s 0x5014) (hrd s 0x5018) ≤ civilKey (hrd s 0x5000) (hrd s 0x5004))

/-- The alarm's status after it fires: `jumped` where a load went over it. -/
def alarmFired (jumped : Bool) (s : State) : State :=
  if jumped then hsetB 0x501C 9 true (hsetB 0x501C 8 true (hsetB 0x501C 0 false s)) else hsetB 0x501C 8 true (hsetB 0x501C 0 false s)

theorem rtcAlarm_eq (before : Option Nat) (s : State) : rtcAlarm before s =
    if hgetB s 0x501C 0 && alarmReached s then
      rtcAlarmIrq (alarmFired (match before with
        | some t1 => decide (t1 < civilKey (hrd s 0x5014) (hrd s 0x5018))
        | none => false) s)
    else s := by
  cases before <;> rfl

theorem rtcAlarm_idle {before : Option Nat} {s : State} (idle : (hgetB s 0x501C 0 && alarmReached s) = false) : rtcAlarm before s = s := by
  rw [rtcAlarm_eq, idle]
  rfl

theorem alarmFired_only (jumped : Bool) (s : State) : onlyHregs [0x501C] s (alarmFired jumped s) := by
  have fired := ((onlyHregs_refl [0x501C] s).hsetB 0 false (off := 0x501C) (by decide)).hsetB 8 true (off := 0x501C) (by decide)
  exact onlyHregs.when (fun _ => fired.hsetB 9 true (by decide)) (fun _ => fired)

theorem alarmFired_status (jumped : Bool) (s : State) : hgetB (alarmFired jumped s) 0x501C 0 = false ∧
    hgetB (alarmFired jumped s) 0x501C 8 = true ∧ (jumped = true → hgetB (alarmFired jumped s) 0x501C 9 = true) := by
  cases jumped <;> simp [alarmFired, hgetB_hsetB]

theorem hrd_rtcAlarmIrq (s : State) {o : Nat} (vectors : o ≠ 0x4800) (sources : o ≠ 0x4D00) : hrd (rtcAlarmIrq s) o = hrd s o := by
  unfold rtcAlarmIrq
  split
  · exact hrd_irq_other 13 s vectors sources
  · rfl

theorem hostRuns_of_hrd {s t : State} (h : hrd t 0x1000 = hrd s 0x1000) : hostRuns t = hostRuns s := by
  rw [hostRuns, hostPower, hgetF_eq_of_hrd h, hostRuns, hostPower]

/-- An alarm that fires leaves every register but its status and the interrupts. -/
theorem hrd_rtcAlarm (before : Option Nat) (s : State) {o : Nat} (status : o ≠ 0x501C) (vectors : o ≠ 0x4800) (sources : o ≠ 0x4D00) :
    hrd (rtcAlarm before s) o = hrd s o := by
  rw [rtcAlarm_eq]
  split
  · rw [hrd_rtcAlarmIrq _ vectors sources, (alarmFired_only _ s).2 o (by simpa using status)]
  · rfl

/-- The alarm reaches a host die that is ON, and is owed to any other. -/
theorem rtcAlarm_tells {before : Option Nat} {s : State} (fires : (hgetB s 0x501C 0 && alarmReached s) = true) :
    (hostRuns s = true → hgetB (rtcAlarm before s) 0x4D00 13 = true) ∧
      (hostRuns s = false → (rtcAlarm before s).rtc.owedAlarm = true ∧ hrd (rtcAlarm before s) 0x4D00 = hrd s 0x4D00) := by
  rw [rtcAlarm_eq, if_pos fires]
  generalize alarmFired _ s = u, alarmFired_only _ s = same
  have power := hostRuns_of_hrd (same.2 0x1000 (by decide))
  rw [rtcAlarmIrq, power]
  refine ⟨fun on => ?_, fun off => ?_⟩
  · rw [if_pos on]
    exact hgetB_irq_same 13 u
  · rw [if_neg (by simp [off])]
    exact ⟨rfl, same.2 0x4D00 (by decide)⟩

theorem rtcAlarm_status {before : Option Nat} {s : State} (fires : (hgetB s 0x501C 0 && alarmReached s) = true) :
    hgetB (rtcAlarm before s) 0x501C 0 = false ∧ hgetB (rtcAlarm before s) 0x501C 8 = true ∧
      (∀ t1, before = some t1 → t1 < civilKey (hrd s 0x5014) (hrd s 0x5018) → hgetB (rtcAlarm before s) 0x501C 9 = true) := by
  rw [rtcAlarm_eq, if_pos fires]
  simp only [hgetB_eq_of_hrd (hrd_rtcAlarmIrq _ (o := 0x501C) (by decide) (by decide))]
  obtain ⟨disarmed, fired, adjusted⟩ := alarmFired_status (match before with
        | some t1 => decide (t1 < civilKey (hrd s 0x5014) (hrd s 0x5018))
        | none => false) s
  refine ⟨disarmed, fired, fun t1 jumped earlier => adjusted ?_⟩
  subst jumped
  exact decide_eq_true earlier

/-! ### The tick (R379) -/

section
variable {s : State} (runs : s.rtc.stopped = false) (onTime : s.rtc.tickDue = none)
include runs onTime

theorem rtcTick_advances (load : hgetB s 0x5010 8 = false) : rtcTick s = rtcAlarm none (rtcAdvance s) := by
  simp [rtcTick, runs, onTime, rtcBit, rtcStatus, load]

theorem rtcTick_loads (load : hgetB s 0x5010 8 = true) (ok : civilOk s.rtc.time s.rtc.date = true) :
    rtcTick s = rtcAlarm (some (civilKey (hrd s 0x5000) (hrd s 0x5004))) (rtcSet s.rtc.time s.rtc.date (loadTaken s)) := by
  simp [rtcTick, runs, onTime, rtcBit, rtcStatus, load, ok]
  rfl

theorem rtcTick_rejects (load : hgetB s 0x5010 8 = true) (bad : civilOk s.rtc.time s.rtc.date = false) :
    rtcTick s = rtcAlarm none (rtcAdvance (hsetB 0x5010 1 true (loadTaken s))) := by
  simp [rtcTick, runs, onTime, rtcBit, rtcStatus, load, bad]
  rfl

/-- Every tick is a change of the clock alone, and then the judgement of the alarm. -/
theorem rtcTick_cases : ∃ before u, rtcTick s = rtcAlarm before u ∧ onlyHregs [0x5000, 0x5004, 0x5010] s u ∧
    (hgetB s 0x5010 8 = true → civilOk s.rtc.time s.rtc.date = true → before = some (civilKey (hrd s 0x5000) (hrd s 0x5004))) := by
  cases load : hgetB s 0x5010 8 with
  | false => exact ⟨_, _, rtcTick_advances runs onTime load, rtcAdvance_only s, fun armed => absurd armed (by decide)⟩
  | true =>
    cases ok : civilOk s.rtc.time s.rtc.date with
    | false =>
      exact ⟨_, _, rtcTick_rejects runs onTime load ok, ((loadTaken_only s).hsetB 1 true (by decide)).trans (rtcAdvance_only _),
        fun _ passes => absurd passes (by decide)⟩
    | true => exact ⟨_, _, rtcTick_loads runs onTime load ok, (loadTaken_only s).trans (rtcSet_only _ _ _), fun _ _ => rfl⟩

end

/-- The advance at a tick with no load and no alarm armed, case by case of the calendar. -/
theorem rtcAdvance_calendar (s : State) :
    let c := clockOf s
    let t := rtcAdvance s
    (c.sec < 59 → hrd t 0x5000 = timeWord { c with sec := c.sec + 1 } (hgetF s 0x5000 26 24) ∧ hrd t 0x5004 = dateWord c) ∧
    (c.sec = 59 → c.min < 59 → hrd t 0x5000 = timeWord { c with sec := 0, min := c.min + 1 } (hgetF s 0x5000 26 24) ∧ hrd t 0x5004 = dateWord c) ∧
    (c.sec = 59 → c.min = 59 → c.hour < 23 →
      hrd t 0x5000 = timeWord { c with sec := 0, min := 0, hour := c.hour + 1 } (hgetF s 0x5000 26 24) ∧ hrd t 0x5004 = dateWord c) ∧
    (c.sec = 59 → c.min = 59 → c.hour = 23 →
      (c.day < daysIn c.year c.month → hrd t 0x5000 = timeWord { c with sec := 0, min := 0, hour := 0 } (hgetF s 0x5000 26 24 % 7 + 1) ∧
        hrd t 0x5004 = dateWord { c with day := c.day + 1 }) ∧
      (c.day = daysIn c.year c.month → c.month < 12 → hrd t 0x5004 = dateWord { c with day := 1, month := c.month + 1 }) ∧
      (c.day = daysIn c.year c.month → c.month = 12 → c.year < 3999 → hrd t 0x5004 = dateWord { c with day := 1, month := 1, year := c.year + 1 }) ∧
      (c.day = daysIn c.year c.month → c.month = 12 → c.year = 3999 →
        hrd t 0x5000 = 0x06000000 ∧ hrd t 0x5004 = 0x20000101 ∧ hgetB t 0x5010 2 = true)) := by
  simp only [rtcAdvance_time, rtcAdvance_date, rtcAdvance_status s (show 2 < 32 by decide)]
  generalize clockOf s = c
  have weekday : hgetF s 0x5000 26 24 < 8 := fieldOf_lt _ 26 24
  refine ⟨fun sec => ?_, fun sec min => ?_, fun sec min hour => ?_, fun sec min hour => ⟨fun day => ?_, fun last month => ?_,
    fun last month year => ?_, fun last month year => ?_⟩⟩
  · simp [weekdayNext, civilNext_second sec, dateWord]
  · simp [weekdayNext, civilNext_minute sec min, dateWord]
  · simp [weekdayNext, civilNext_hour sec min hour, dateWord]
  · have next : (if hgetF s 0x5000 26 24 = 7 then 1 else hgetF s 0x5000 26 24 + 1) = hgetF s 0x5000 26 24 % 7 + 1 := by split <;> omega
    simp [weekdayNext, civilNext_midnight sec min hour, day, dateWord, timeWord, next]
  · simp [civilNext_midnight sec min hour, last, month, dateWord]
  · simp [civilNext_midnight sec min hour, last, month, year, dateWord]
  · simp [weekdayNext, civilNext_midnight sec min hour, last, month, year, timeWord, dateWord, toBcd]

theorem rtcTimeRead_on (b : BitVec 15) {s : State} (on : hostRuns s = true) : rtcTimeRead b s = hwr 0x5008 (BitVec.ofNat 32 b.toNat)
    { s with lastRead := hrd s 0x5000, hlatch := tabSet (fun _ => none) s.hlatch 0x5004 (some (hrd s 0x5004)) } := by
  rw [rtcTimeRead, on]
  rfl

/-- Settles O36. -/
theorem rtcCalendar : Obligations.RtcCalendar := by
  refine ⟨fun s stopped => ?stopped, fun s => ?stop, fun s => ⟨_, rfl, rfl⟩, fun s runs onTime load alarm => ?advance, fun y _ _ => ?leap,
    fun s runs onTime load alarm => ?load, fun s runs onTime alarm => ?alarm, fun b s => ?read⟩
  case stopped =>
    change Host.Outcome.next (rtcTick s) = .next s
    rw [rtcTick, if_pos stopped]
  case stop => exact ⟨_, rfl, rfl, by simp [crystalStop, setRtcBit, rtcStatus, hgetB_hsetB], onlyHregs_hsetB _ _ _ _⟩
  case advance =>
    have unarmed : hgetB (rtcAdvance s) 0x501C 0 = false := (hgetB_eq_of_hrd ((rtcAdvance_only s).2 _ (by decide)) 0).trans alarm
    have ticked : rtcTick s = rtcAdvance s := by rw [rtcTick_advances runs onTime load, rtcAlarm_idle (by rw [unarmed]; rfl)]
    obtain ⟨second, minute, hour, midnight⟩ := rtcAdvance_calendar s
    have only := rtcAdvance_only s
    have reg := congrArg State.reg only.1
    have rtc := congrArg State.rtc only.1
    exact ⟨rtcAdvance s, congrArg Host.Outcome.next ticked, second, minute, hour, midnight, only, reg, rtc⟩
  case leap =>
    rw [daysIn_february]
    split <;> simp_all
  case load =>
    cases ok : civilOk s.rtc.time s.rtc.date with
    | true =>
      have unarmed : hgetB (rtcSet s.rtc.time s.rtc.date (loadTaken s)) 0x501C 0 = false :=
        (hgetB_eq_of_hrd (((loadTaken_only s).trans (rtcSet_only _ _ _)).2 _ (by decide)) 0).trans alarm
      have ticked := rtcTick_loads runs onTime load ok
      rw [rtcAlarm_idle (by rw [unarmed]; rfl)] at ticked
      refine ⟨_, congrArg Host.Outcome.next ticked, ?_, ?_, fun _ => ⟨?_, ?_, ?_⟩, fun bad => absurd bad (by decide)⟩
      all_goals simp [rtcSet, rtcTime, rtcDate, hgetB_hwr, hgetB_loadTaken, hrd_hwr]
    | false =>
      have only := ((loadTaken_only s).hsetB 1 true (off := 0x5010) (by decide)).trans (rtcAdvance_only _)
      have unarmed := (hgetB_eq_of_hrd (only.2 0x501C (by decide)) 0).trans alarm
      have ticked := rtcTick_rejects runs onTime load ok
      rw [rtcAlarm_idle (by rw [unarmed]; rfl)] at ticked
      have clock : clockOf (hsetB 0x5010 1 true (loadTaken s)) = clockOf s := by simp [clockOf, loadTaken, hsetB, hrd_hwr]
      refine ⟨_, congrArg Host.Outcome.next ticked, ?_, ?_, fun passes => absurd passes (by decide), fun _ => ⟨?_, ?_⟩⟩
      · simp [rtcAdvance_status, hgetB_hsetB, hgetB_loadTaken]
      · simp [rtcAdvance_status, hgetB_hsetB, hgetB_loadTaken]
      · simp [rtcAdvance_status, hgetB_hsetB]
      · rw [rtcAdvance_date, clock]
        rfl
  case alarm =>
    obtain ⟨before, u, ticked, only, jumped⟩ := rtcTick_cases runs onTime
    have kept {o : Nat} (ho : o ∉ [0x5000, 0x5004, 0x5010]) : hrd u o = hrd s o := only.2 o ho
    have armed : hgetB u 0x501C 0 = true := (hgetB_eq_of_hrd (kept (by decide)) 0).trans alarm
    have runsU := hostRuns_of_hrd (kept (o := 0x1000) (by decide))
    refine ⟨_, congrArg Host.Outcome.next ticked, ?_⟩
    simp only [hrd_rtcAlarm before u (o := 0x5000) (by decide) (by decide) (by decide),
      hrd_rtcAlarm before u (o := 0x5004) (by decide) (by decide) (by decide), ← kept (o := 0x5014) (by decide),
      ← kept (o := 0x5018) (by decide), ← kept (o := 0x4D00) (by decide), ← runsU]
    change (alarmReached u = false → _) ∧ (alarmReached u = true → _)
    refine ⟨fun early => ?_, fun due => ?_⟩
    · rw [rtcAlarm_idle (by rw [early, Bool.and_false])]
      exact ⟨kept (by decide), by have := congrArg State.tender only.1; exact this⟩
    · have fires : (hgetB u 0x501C 0 && alarmReached u) = true := by rw [armed, due]; rfl
      obtain ⟨disarmed, fired, adjusted⟩ := rtcAlarm_status (before := before) fires
      obtain ⟨on, off⟩ := rtcAlarm_tells (before := before) fires
      exact ⟨disarmed, fired, fun load ok earlier => adjusted _ (jumped load ok) earlier, on, off⟩
  case read =>
    refine ⟨fun off => ?_, fun on => ?_⟩
    · change Host.Outcome.next (rtcTimeRead b s) = .next s
      simp [rtcTimeRead, off]
    · exact ⟨_, congrArg Host.Outcome.next (rtcTimeRead_on b on), rfl, tabGet_set_same (fun _ => none) s.hlatch 0x5004 (some (hrd s 0x5004)), hrd_hwr_same _ _ _, onlyHregs_hwr _ _ _⟩

end Sys2Proof.Machine
end

section
/-! SUPPORT. The refutation of O37: the host die loses its supply with a word in the flash whose program has begun, while the controller's
status shows no operation. -/

namespace Sys2Proof.Machine

/-- The reset state with a word of the flash left as FLASH_PROGRAM leaves it before its end: begun, and without data. The status register
of the controller is 0. -/
def begunWordIdle : State := { State.reset with flash := { words := [(0, some { data := [] })] } }

/-- The word, cut short, reads as a free value and no longer as a program that has begun (R393). -/
theorem switchToVbat_begunWordIdle : (switchToVbat begunWordIdle).flash.words = [(0, some { data := [0] })] := by decide +kernel

/-- Refutes O37, by its clause on SWITCH_TO_VBAT: it says that the flash is as it was where FLC_STATUS is 0. The loss of the supply cuts
short every word whose program has begun, and it knows such a word by its data and not by BUSY; no hypothesis of the clause ties the two
to each other. -/
theorem not_rtcRegistersAndSupply : ¬ Obligations.RtcRegistersAndSupply := by
  rintro ⟨-, -, -, -, -, -, -, switched, -⟩
  obtain ⟨t, step, -, -, -, -, -, -, -, -, -, -, kept, -⟩ := switched begunWordIdle (by decide +kernel)
  obtain rfl : switchToVbat begunWordIdle = t := Host.Outcome.next.inj step
  exact absurd (switchToVbat_begunWordIdle.symm.trans (kept (by decide +kernel))) (by decide)

end Sys2Proof.Machine
end

section
/-! SUPPORT. The refutation of O43: the Tender, newly started, waits for a radio die that runs all the while and whose slew ends in the
wait. -/

namespace Sys2Proof.Machine

/-- The host die has restarted beside a radio die that slews: the Tender runs, and no stage of the boot has reached it yet. -/
def tenderWaitsForSlewing : State := { slewsForOneClock with boot := { mode := 1 } }

theorem tenderWaitsForSlewing_waits : tenderRuns tenderWaitsForSlewing = true ∧ coreRuns tenderWaitsForSlewing = true ∧
    getB tenderWaitsForSlewing 0x20024 4 = true := by decide +kernel

theorem tenderWaitsForSlewing_ends : slewRate tenderWaitsForSlewing ≠ 0 ∧ slewClocks tenderWaitsForSlewing ≤ clocksOfNs 1000000000 := by decide +kernel

theorem waitImageTimeout_tenderWaitsForSlewing :
    waitImageTimeout tenderWaitsForSlewing = clocks (clocksOfNs 1000000000) tenderWaitsForSlewing := by
  have start : tenderWaitsForSlewing.boot.startAge + clocksOfNs 1000000000 - tenderWaitsForSlewing.age = clocksOfNs 1000000000 :=
    Nat.zero_add _
  rw [waitImageTimeout, tenderWaitsForSlewing_waits.1, reachAge, start]
  rfl

/-- Refutes O43, by its clause on WAIT_IMAGE_TIMEOUT of a running Tender at stage 0: it says that the registers of the radio die stay as
they were, but a slew that removes its offset within the second clears SLEWING of NTB_STATUS (R46, R51). -/
theorem not_bootSequence : ¬ Obligations.BootSequence := by
  rintro ⟨-, -, -, -, wait, -⟩
  obtain ⟨waits, runs, slewing⟩ := tenderWaitsForSlewing_waits
  obtain ⟨t, step, -, -, same, -⟩ := (wait tenderWaitsForSlewing).2 waits rfl
  obtain rfl : waitImageTimeout tenderWaitsForSlewing = t := Host.Outcome.next.inj step
  obtain ⟨slews, ends⟩ := tenderWaitsForSlewing_ends
  have cleared := slewing_clocks_ended runs slews ends
  rw [← waitImageTimeout_tenderWaitsForSlewing, getB, rd, same, ← rd, ← getB, slewing] at cleared
  exact absurd cleared (by decide)

end Sys2Proof.Machine
end

section
/-! SUPPORT. The refutation of O40: WATCH is reached while path S serves for a path under test. -/

namespace Sys2Proof.Machine

/-- A transition from RUN to WATCH past its point of no return, with path S serving for path 1, which is enabled and out for a PATH_TEST
(R80). -/
def testedIntoWatch : State := { State.reset with reg := [(0x10000, 0x310), (0x31000, 1), (0x34004, 0x212)] }

theorem testedIntoWatch_begun : getB testedIntoWatch 0x10000 8 = true ∧ getB testedIntoWatch 0x10000 9 = true ∧
    getB testedIntoWatch 0x10000 14 = false ∧ getF testedIntoWatch 0x10000 5 4 = 1 := by decide +kernel

/-- The paths sleep first, and then path S is freed: the path under test comes back, to CAL as its synthesiser is not locked. -/
theorem transitionDone_testedIntoWatch : pathState (transitionDone 0 0 testedIntoWatch) 1 = 1 := by decide +kernel

/-- Refutes O40, by its clause on a TRANSITION_DONE that reaches WATCH: it says that paths 1 to 3 sleep, but the end of a PATH_TEST that path S
serves puts the path under test back after the paths went to sleep. -/
theorem not_powerStateRequests : ¬ Obligations.PowerStateRequests := by
  rintro ⟨-, -, -, -, -, done, -⟩
  obtain ⟨busy, past, none_pending, target⟩ := testedIntoWatch_begun
  obtain ⟨t, step, -, -, asleep, -⟩ :=
    done 0 0 testedIntoWatch busy past rfl (by decide) rfl none_pending (by rw [target]; decide)
  obtain rfl : transitionDone 0 0 testedIntoWatch = t := Host.Outcome.next.inj step
  exact absurd (transitionDone_testedIntoWatch.symm.trans (asleep target).1) (by decide)

end Sys2Proof.Machine
end

section
/-! SUPPORT. The watchdogs (O45): what a count up to a kick leaves as it was, how a kick is judged, and the resets that the watchdog of the
radio die makes (R446-R449). -/

namespace Sys2Proof.Machine

/-! ### The resets -/

theorem causeWord_sub (w : Word) {code sub : Nat} (hc : code ≤ 9) (hs : sub ≤ 3) :
    fieldOf (causeWord w false false code sub) 23 20 = sub := by
  obtain ⟨seen, hseen, -, e⟩ := causeWord_parts w code sub hc hs
  simp only [fieldOf, e, Nat.shiftRight_eq_div_pow]
  omega

/-- A reset of the die in a clock of its own, with a sub-cause. -/
theorem radioDieReset_sub {code sub : Nat} (h : code ≠ causePowerOn) (hc : code ≤ 9) (hs : sub ≤ 3) {s : State}
    (once : resetEarlier s.linkR s = true) :
    radioWasReset code s (radioDieReset code sub s) ∧ fieldOf (rd (radioDieReset code sub s) 4) 23 20 = sub := by
  have before : rd (radioRestarted s) 4 = rd s 4 := by simp [rd_radioRestarted]
  rw [radioDieReset_eq h, sameClock_of_earlier once, before, rd_wr_same]
  exact ⟨radioRestarted_wasReset s (causeWord_last _ hc hs) (causeWord_seen _ hc hs) (causeWord_count _ hc hs), causeWord_sub _ hc hs⟩

/-- What a reset by the watchdog leaves: its cause and sub-cause, and nothing of the Keeper. -/
theorem radioDieReset_watchdog {sub : Nat} (hs : sub ≤ 3) {s : State} (once : resetEarlier s.linkR s = true) :
    fieldOf (rd (radioDieReset causeWatchdog sub s) 4) 19 16 = 6 ∧ fieldOf (rd (radioDieReset causeWatchdog sub s) 4) 23 20 = sub ∧
      (radioDieReset causeWatchdog sub s).keeper = {} ∧ (radioDieReset causeWatchdog sub s).ctx = [] ∧
      (radioDieReset causeWatchdog sub s).hreg = s.hreg := by
  obtain ⟨⟨-, -, ctx, -, -, keeper, -, -, -, cause, -, -, -, -, -, hreg, -⟩, subCause⟩ :=
    radioDieReset_sub (code := causeWatchdog) (by decide) (by decide) hs once
  exact ⟨cause, subCause, keeper, ctx, hreg⟩

/-! ### The count -/

/-- `t` is as `s` in what the watchdog goes by, but for the clock and the warning: a later instant of the same count. -/
structure CountKept (s t : State) : Prop where
  config : t.keeper.wdtCfg = s.keeper.wdtCfg
  kick : t.keeper.kickClk = s.keeper.kickClk
  runs : coreRuns t = coreRuns s
  age : s.age ≤ t.age
  resetAt : t.linkR.resetAt = s.linkR.resetAt
  hreg : t.hreg = s.hreg
  expected : getB t 0xC0048 16 = getB s 0xC0048 16
  next : rd t 0xC0040 = rd s 0xC0040

namespace CountKept

theorem refl (s : State) : CountKept s s := ⟨rfl, rfl, rfl, Nat.le_refl _, rfl, rfl, rfl, rfl⟩

theorem trans {s t u : State} (h : CountKept s t) (k : CountKept t u) : CountKept s u :=
  ⟨k.config.trans h.config, k.kick.trans h.kick, k.runs.trans h.runs, h.age.trans k.age, k.resetAt.trans h.resetAt, k.hreg.trans h.hreg,
    k.expected.trans h.expected, k.next.trans h.next⟩

theorem clocks (n : Nat) (s : State) : CountKept s (clocks n s) := by
  have same := clocks_only n s
  have keeper : (Machine.clocks n s).keeper = s.keeper := by have := congrArg State.keeper same; exact this
  have linkR : (Machine.clocks n s).linkR = s.linkR := by have := congrArg State.linkR same; exact this
  have hreg : (Machine.clocks n s).hreg = s.hreg := by have := congrArg State.hreg same; exact this
  exact ⟨by rw [keeper], by rw [keeper], coreRuns_congr (clocks_power n s) (rd_clocks n s (by decide)), age_le_clocks n s, by rw [linkR], hreg,
    by rw [getB, rd_clocks n s (by decide), getB], rd_clocks n s (by decide)⟩

theorem logWrite (source code : Nat) (args : List Byte) (s : State) : CountKept s (logWrite source code args s) := by
  have power : (Machine.logWrite source code args s).power = s.power := by
    have := congrArg State.power (logWrite_only source code args s); exact this
  have age : (Machine.logWrite source code args s).age = s.age := by
    have := congrArg State.age (logWrite_only source code args s); exact this
  have hreg : (Machine.logWrite source code args s).hreg = s.hreg := by
    have := congrArg State.hreg (logWrite_only source code args s); exact this
  have others {o : Nat} (index : o ≠ 0xC0020) (oldest : o ≠ 0xC0024) := rd_logWrite source code args s index oldest
  have kept : (Machine.logWrite source code args s).keeper.wdtCfg = s.keeper.wdtCfg ∧
      (Machine.logWrite source code args s).keeper.kickClk = s.keeper.kickClk ∧
      (Machine.logWrite source code args s).linkR.resetAt = s.linkR.resetAt := by
    unfold Machine.logWrite
    simp only
    split
    · exact ⟨rfl, rfl, rfl⟩
    · refine ⟨rfl, rfl, ?_⟩
      simp only [sendR, LinkEnd.pump, LinkEnd.push]
      split <;> rfl
  exact ⟨kept.1, kept.2.1, coreRuns_congr power (others (by decide) (by decide)), age.ge, kept.2.2, hreg,
    by rw [getB, others (by decide) (by decide), getB], others (by decide) (by decide)⟩

theorem earlier {s t : State} (h : CountKept s t) (once : resetEarlier s.linkR s = true) : resetEarlier t.linkR t = true := by
  have age := h.age
  unfold resetEarlier at *
  rw [h.resetAt]
  cases at' : s.linkR.resetAt with
  | none => rfl
  | some a =>
    rw [at'] at once
    simp only [Option.all_some, decide_eq_true_eq] at *
    omega

end CountKept

theorem clk_reachClk {s : State} (c : Nat) (runs : coreRuns s = true) : (reachClk c s).ntb.clk = max c s.ntb.clk := by
  rw [reachClk, clk_clocks _ runs]
  omega

/-! ### The warning (R447) -/

theorem watchdogWarn_done {s : State} (done : s.keeper.warned = true) : watchdogWarn s = s := by simp [watchdogWarn, done]

/-- The warning noted at its instant, before its entry is written. -/
def warningNoted (s : State) : State :=
  let u := reachClk (s.keeper.kickClk + wdtWarnMs s * wdtMs) s
  setB 0xC0048 17 true { u with keeper := { u.keeper with warned := true } }

theorem watchdogWarn_due {s : State} (counts : wdtCounts s = true) (due : s.keeper.warned = false) :
    watchdogWarn s = logWrite 0xD 0x16A [] (warningNoted s) := by
  simp [watchdogWarn, counts, due, warningNoted]

theorem warningNoted_kept (s : State) : CountKept s (warningNoted s) := by
  obtain ⟨config, kick, runs, age, resetAt, hreg, expected, next⟩ :=
    CountKept.clocks (s.keeper.kickClk + wdtWarnMs s * wdtMs - s.ntb.clk) s
  have others {o : Nat} (ho : o ≠ 0xC0048) : rd (warningNoted s) o = rd (reachClk (s.keeper.kickClk + wdtWarnMs s * wdtMs) s) o :=
    rd_setB_other _ _ _ ho
  have stillRuns : coreRuns (warningNoted s) = coreRuns (reachClk (s.keeper.kickClk + wdtWarnMs s * wdtMs) s) :=
    coreRuns_congr rfl (others (by decide))
  refine ⟨config, kick, stillRuns.trans runs, age, resetAt, hreg, Eq.trans ?_ expected,
    (others (by decide)).trans next⟩
  exact getB_setB_apart 0xC0048 true _ (by decide) (by decide)

/-- The warning writes its entry and its flag, no earlier than its instant. -/
theorem watchdogWarn_warns {s : State} (counts : wdtCounts s = true) (due : s.keeper.warned = false) :
    getB (watchdogWarn s) 0xC0048 17 = true ∧ (watchdogWarn s).keeper.logNext = (s.keeper.logNext + 1) % 2 ^ 32 ∧
      (watchdogWarn s).ntb.clk = max (s.keeper.kickClk + wdtWarnMs s * wdtMs) s.ntb.clk := by
  have runs : coreRuns s = true := (Bool.and_eq_true _ _ ▸ counts : s.keeper.wdtOn = true ∧ coreRuns s = true).2
  have keeper : (reachClk (s.keeper.kickClk + wdtWarnMs s * wdtMs) s).keeper = s.keeper := by
    have := congrArg State.keeper (clocks_only (s.keeper.kickClk + wdtWarnMs s * wdtMs - s.ntb.clk) s); exact this
  rw [watchdogWarn_due counts due]
  refine ⟨?_, ?_, ?_⟩
  · rw [getB, rd_logWrite _ _ _ _ (by decide) (by decide), ← getB]
    exact getB_setB_same 0xC0048 17 true _ (by decide)
  · rw [(logWrite_logged 0xD 0x16A [] (warningNoted s)).2]
    change ((reachClk (s.keeper.kickClk + wdtWarnMs s * wdtMs) s).keeper.logNext + 1) % 2 ^ 32 = _
    rw [keeper]
  · have ntb : (logWrite 0xD 0x16A [] (warningNoted s)).ntb = (warningNoted s).ntb := by
      have := congrArg State.ntb (logWrite_only 0xD 0x16A [] (warningNoted s)); exact this
    rw [ntb]
    exact clk_reachClk _ runs

theorem watchdogWarn_kept (s : State) : CountKept s (watchdogWarn s) := by
  cases counts : wdtCounts s with
  | false =>
    rw [watchdogWarn, counts]
    exact .refl s
  | true =>
    cases due : s.keeper.warned with
    | true =>
      rw [watchdogWarn_done due]
      exact .refl s
    | false =>
      rw [watchdogWarn_due counts due]
      exact (warningNoted_kept s).trans (.logWrite _ _ _ _)

/-! ### Kicks (R446) -/

/-- A kick `n` ms after the count began is judged in the clock `n` ms on, or at TIMEOUT; the warning on the way has been given. -/
theorem wdtKick_judges {s : State} (w : Word) (n : Nat) (counts : wdtCounts s = true) (fresh : s.keeper.kickClk = s.ntb.clk) :
    ∃ v, CountKept s v ∧ wdtKick w n s = wdtJudge w (min n (wdtTimeout s) * wdtMs) v ∧
      (n < wdtWarnMs s → v = clocks (min n (wdtTimeout s) * wdtMs) s) ∧
      (wdtWarnMs s ≤ n → s.keeper.warned = false → getB v 0xC0048 17 = true) := by
  have runs : coreRuns s = true := (Bool.and_eq_true _ _ ▸ counts : s.keeper.wdtOn = true ∧ coreRuns s = true).2
  have lead : wdtWarnMs s ≤ wdtTimeout s := Nat.sub_le _ _
  have judged {u : State} (kept : CountKept s u) (clk : u.ntb.clk ≤ s.keeper.kickClk + min n (wdtTimeout s) * wdtMs) :
      (reachClk (u.keeper.kickClk + min n (wdtTimeout u) * wdtMs) u).ntb.clk -
        (reachClk (u.keeper.kickClk + min n (wdtTimeout u) * wdtMs) u).keeper.kickClk = min n (wdtTimeout s) * wdtMs := by
    have timeout : wdtTimeout u = wdtTimeout s := by rw [wdtTimeout, kept.config, wdtTimeout]
    rw [clk_reachClk _ (kept.runs.trans runs), reachClk, (CountKept.clocks _ u).kick, kept.kick, timeout]
    omega
  by_cases warns : wdtWarnMs s ≤ n
  · have bound : wdtWarnMs s * wdtMs ≤ min n (wdtTimeout s) * wdtMs := Nat.mul_le_mul_right _ (by omega)
    have clk : (watchdogWarn s).ntb.clk ≤ s.keeper.kickClk + min n (wdtTimeout s) * wdtMs := by
      cases due : s.keeper.warned with
      | true => rw [watchdogWarn_done due]; omega
      | false => rw [(watchdogWarn_warns counts due).2.2]; omega
    refine ⟨reachClk ((watchdogWarn s).keeper.kickClk + min n (wdtTimeout (watchdogWarn s)) * wdtMs) (watchdogWarn s),
      (watchdogWarn_kept s).trans (.clocks _ _), ?_, fun short => absurd warns (by omega), fun _ due => ?_⟩
    · simp only [wdtKick, counts, Bool.not_true, Bool.false_eq_true, if_false, warns, decide_true, onlyIf, if_true,
        judged (watchdogWarn_kept s) clk]
    · rw [getB, reachClk, rd_clocks _ _ (by decide), ← getB]
      exact (watchdogWarn_warns counts due).1
  · refine ⟨_, .clocks (min n (wdtTimeout s) * wdtMs) s, ?_, fun _ => rfl, fun late => absurd late warns⟩
    simp only [wdtKick, counts, Bool.not_true, Bool.false_eq_true, if_false, warns, decide_false, onlyIf,
      judged (.refl s) (by omega)]
    rw [reachClk, fresh, Nat.add_sub_cancel_left]

section
variable {w : Word} {e : Nat} {v : State}

theorem wdtJudge_late (late : wdtTimeout v * wdtMs ≤ e) : wdtJudge w e v = radioDieReset causeWatchdog 3 v := if_pos late

theorem wdtJudge_early (inTime : e < wdtTimeout v * wdtMs) (early : e < wdtOpen v * wdtMs) :
    wdtJudge w e v = radioDieReset causeWatchdog 1 v := by
  rw [wdtJudge, if_neg (by omega), if_pos early]

theorem wdtJudge_wrong (inTime : e < wdtTimeout v * wdtMs) (opened : wdtOpen v * wdtMs ≤ e) (wrong : w ≠ wdtExpected v) :
    wdtJudge w e v = radioDieReset causeWatchdog 2 v := by
  rw [wdtJudge, if_neg (by omega), if_neg (by omega), if_pos wrong]

theorem wdtJudge_accepts (inTime : e < wdtTimeout v * wdtMs) (opened : wdtOpen v * wdtMs ≤ e) (right : w = wdtExpected v) :
    wdtJudge w e v = setB 0xC0048 16 (!getB v 0xC0048 16)
      { v with keeper := { v.keeper with kickClk := v.ntb.clk, wdtCfg := rd v 0xC0040, warned := false } } := by
  rw [wdtJudge, if_neg (by omega), if_neg (by omega), if_neg (by simp [right])]

end

/-! ### The rows -/

section
variable {s : State} (w : Word) (n : Nat) (counts : wdtCounts s = true) (fresh : s.keeper.kickClk = s.ntb.clk)
include counts fresh

/-- The four judgements of a kick, by the configuration in force as the count began. -/
theorem wdtKick_cases : ∃ v, CountKept s v ∧
    (wdtTimeout s ≤ n → wdtKick w n s = radioDieReset causeWatchdog 3 v) ∧
    (n < wdtTimeout s → n < wdtOpen s → wdtKick w n s = radioDieReset causeWatchdog 1 v) ∧
    (n < wdtTimeout s → wdtOpen s ≤ n → w ≠ wdtExpected s → wdtKick w n s = radioDieReset causeWatchdog 2 v) ∧
    (n < wdtTimeout s → wdtOpen s ≤ n → w = wdtExpected s → wdtKick w n s = setB 0xC0048 16 (!getB v 0xC0048 16)
      { v with keeper := { v.keeper with kickClk := v.ntb.clk, wdtCfg := rd v 0xC0040, warned := false } }) ∧
    (n < wdtWarnMs s → v = clocks (min n (wdtTimeout s) * wdtMs) s) ∧
    (wdtWarnMs s ≤ n → s.keeper.warned = false → getB v 0xC0048 17 = true) := by
  obtain ⟨v, kept, judged, unwarned, warned⟩ := wdtKick_judges w n counts fresh
  have timeout : wdtTimeout v = wdtTimeout s := by rw [wdtTimeout, kept.config, wdtTimeout]
  have opens : wdtOpen v = wdtOpen s := by rw [wdtOpen, kept.config, wdtOpen]
  have expected : wdtExpected v = wdtExpected s := by rw [wdtExpected, kept.expected, wdtExpected]
  refine ⟨v, kept, fun late => ?_, fun inTime early => ?_, fun inTime opened wrong => ?_, fun inTime opened right => ?_, unwarned, warned⟩
  all_goals rw [judged]
  · exact wdtJudge_late (by rw [timeout]; exact Nat.mul_le_mul_right _ (by omega))
  all_goals rw [Nat.min_eq_left (by omega : n ≤ wdtTimeout s)]
  · exact wdtJudge_early (by unfold wdtMs; omega) (by unfold wdtMs; omega)
  · exact wdtJudge_wrong (by unfold wdtMs; omega) (by unfold wdtMs; omega) (by rw [expected]; exact wrong)
  · exact wdtJudge_accepts (by unfold wdtMs; omega) (by unfold wdtMs; omega) (by rw [expected]; exact right)

end

/-- With no slew in effect clocks that pass change no register. -/
theorem clocks_noSlew {s : State} (n : Nat) (still : s.ntb.slew = 0) : clocks n s = plainClocks n s := by
  have rate : slewRate s = 0 := by rw [slewRate, rateOf, still, Int.add_zero, Int.sub_self]
  rw [clocks, if_pos (.inl rate)]

/-- Clocks with no slew change the instants and the read latches alone. -/
theorem plainClocks_frame (n : Nat) (s : State) :
    { s with ntb := (plainClocks n s).ntb, age := (plainClocks n s).age, regWas := (plainClocks n s).regWas,
             hregWas := (plainClocks n s).hregWas } = plainClocks n s := by
  unfold plainClocks
  simp only
  repeat' split
  all_goals rfl

/-- An accepted kick changes the Keeper's count and KPR_WDT_STATUS alone. -/
theorem kickAccepted_only (b : Bool) (k : Keeper) {s v t : State}
    (frame : { s with ntb := v.ntb, age := v.age, regWas := v.regWas, hregWas := v.hregWas } = v)
    (accepted : t = setB 0xC0048 16 b { v with keeper := k }) :
    onlyRegs [0xC0048] { s with keeper := t.keeper, ntb := t.ntb, age := t.age, regWas := t.regWas, hregWas := t.hregWas } t := by
  subst accepted
  have same : { s with keeper := k, ntb := v.ntb, age := v.age, regWas := v.regWas, hregWas := v.hregWas } = { v with keeper := k } :=
    congrArg (fun u : State => { u with keeper := k }) frame
  have only : onlyRegs [0xC0048] { s with keeper := k, ntb := v.ntb, age := v.age, regWas := v.regWas, hregWas := v.hregWas }
      (setB 0xC0048 16 b { v with keeper := k }) := same ▸ onlyRegs_wr _ _ _
  exact only

/-- An accepted write of KPR_WDT_CFG is stored or only flagged (R448). -/
theorem kprWdtCfg_pair {w : Word} {s : State} (held : s.guard = some (0xC0040, ~~~w)) (inTime : guardInTimeR s = true) :
    kprWdtCfg w s = wdtCfgEffect 0xC0040 (~~~w) { s with guard := none } := by
  have pair := guardTwinR_match 0xC0040 (~~~w) wdtCfgEffect s held inTime
  rwa [BitVec.not_not] at pair

/-- Settles O45. -/
theorem watchdogs : Obligations.Watchdogs := by
  refine ⟨fun w n s stopped => ?stopped, fun w n s on runs fresh still once => ?kick, fun s on runs due early => ?warn,
    fun s on runs once => ?expiry, fun w s held inTime => ?config, fun s => ?tender⟩
  case stopped =>
    have idle : wdtCounts s = false := by rw [wdtCounts]; rcases stopped with off | off <;> simp [off]
    refine ⟨congrArg Host.Outcome.next ?_, congrArg Host.Outcome.next ?_, congrArg Host.Outcome.next ?_⟩
    · simp [wdtKick, idle]
    · simp [watchdogWarn, idle]
    · simp [watchdogExpiry, idle]
  case kick =>
    have counts : wdtCounts s = true := by rw [wdtCounts, on, runs]; rfl
    obtain ⟨v, kept, late, early, wrong, right, unwarned, warned⟩ := wdtKick_cases w n counts fresh
    have resets {sub : Nat} (hs : sub ≤ 3) := radioDieReset_watchdog hs (kept.earlier once)
    refine ⟨fun passed => ⟨_, congrArg Host.Outcome.next (late passed), ?_⟩, fun inTime tooEarly => ⟨_, congrArg Host.Outcome.next (early inTime tooEarly), ?_⟩,
      fun inTime opened other => ⟨_, congrArg Host.Outcome.next (wrong inTime opened other), ?_⟩,
      fun inTime before opened same => ⟨_, congrArg Host.Outcome.next (right inTime opened same), ?_⟩,
      fun inTime after opened same => ⟨_, congrArg Host.Outcome.next (right inTime opened same), ?_⟩⟩
    · obtain ⟨cause, sub, keeper, ctx, -⟩ := resets (sub := 3) (by decide)
      exact ⟨cause, sub, keeper, ctx⟩
    · obtain ⟨cause, sub, keeper, -, -⟩ := resets (sub := 1) (by decide)
      exact ⟨cause, sub, keeper⟩
    · obtain ⟨cause, sub, keeper, -, -⟩ := resets (sub := 2) (by decide)
      exact ⟨cause, sub, keeper⟩
    · obtain rfl := unwarned before
      have clk : (clocks (min n (wdtTimeout s) * wdtMs) s).ntb.clk = s.keeper.kickClk + n * 655360 := by
        rw [clk_clocks _ runs, Nat.min_eq_left (show n ≤ wdtTimeout s from inTime.le), wdtMs, fresh]
      refine ⟨?_, clk.trans (by rw [fresh]), kept.next, ?_⟩
      · rw [getB_setB_same _ _ _ _ (by decide)]
        exact congrArg Bool.not kept.expected
      · rw [clocks_noSlew _ still]
        exact kickAccepted_only _ _ (plainClocks_frame _ s) rfl
    · refine ⟨?_, kept.next, rfl, fun due => ?_⟩
      · rw [getB_setB_same _ _ _ _ (by decide)]
        exact congrArg Bool.not kept.expected
      · rw [getB_setB_apart _ _ _ (by decide) (by decide)]
        exact warned after due
  case warn =>
    have counts : wdtCounts s = true := by rw [wdtCounts, on, runs]; rfl
    obtain ⟨flag, entry, -⟩ := watchdogWarn_warns counts due
    exact ⟨_, rfl, flag, entry, (watchdogWarn_kept s).kick⟩
  case expiry =>
    have counts : wdtCounts s = true := by rw [wdtCounts, on, runs]; rfl
    have kept := (watchdogWarn_kept s).trans (.clocks (s.keeper.kickClk + wdtTimeout s * wdtMs - (watchdogWarn s).ntb.clk) _)
    have row : watchdogExpiry s = radioDieReset causeWatchdog 3 (reachClk (s.keeper.kickClk + wdtTimeout s * wdtMs) (watchdogWarn s)) := by
      simp [watchdogExpiry, counts]
    obtain ⟨cause, sub, keeper, ctx, hreg⟩ := radioDieReset_watchdog (sub := 3) (by decide) (kept.earlier once)
    exact ⟨_, congrArg Host.Outcome.next row, cause, sub, keeper, ctx, hreg.trans kept.hreg⟩
  case config =>
    have row := kprWdtCfg_pair held inTime
    refine ⟨fun bad => ⟨_, congrArg Host.Outcome.next (row.trans (if_pos bad)), rfl, onlyRegs_wr _ _ _, rd_setB_same _ _ _ _⟩, fun floor opens lead => ?_⟩
    exact ⟨_, congrArg Host.Outcome.next (row.trans (if_neg (by omega))), rfl, onlyRegs_wr _ _ _, rd_wr_same _ _ _⟩
  case tender =>
    refine ⟨fun off => congrArg Host.Outcome.next (by simp [tenderWdogWarn, off]), fun on => ?_⟩
    have row : tenderWdogWarn s = irq 19 s := if_pos on
    refine ⟨_, congrArg Host.Outcome.next row, hgetB_irq_same 19 s, irq_reg 19 s, fun shown => ?_⟩
    have shown' : hgetB s (0x4D00 + 19 / 32 * 4) (19 % 32) = true := shown
    simp only [irq, shown', Bool.not_true, Bool.false_and, Bool.false_eq_true, if_false]

end Sys2Proof.Machine
end

section
/-! SUPPORT. The messages that the Tender hands to its host: what an entry in the hold of a class changes beside the hold (R319, R320). -/

namespace Sys2Proof.Machine

/-- An interrupt source posts at most a message to host memory and changes host registers. -/
theorem irq_eq (n : Nat) (s : State) : ∃ r q, irq n s = { s with hreg := r, tender := { s.tender with posted := q } } := by
  unfold irq vectorPend
  simp only
  split
  · split
    · exact ⟨_, s.tender.posted, rfl⟩
    · exact ⟨_, _, rfl⟩
  · exact ⟨_, s.tender.posted, rfl⟩

/-- What the hand-over to the host leaves of the host die's registers: all but MBX_STATUS and the sources and vectors of an interrupt. -/
def sameButHeld (s t : State) : Prop := ∀ o, o ≠ 0x3008 → o ≠ 0x4800 → o ≠ 0x4D00 → hrd t o = hrd s o

theorem sameButHeld.trans {s t u : State} (h : sameButHeld s t) (k : sameButHeld t u) : sameButHeld s u :=
  fun o held vectors sources => (k o held vectors sources).trans (h o held vectors sources)

/-- The hold's class in XOFF and MBX_STATUS, and the interrupt of a class newly held. -/
theorem xoffUpdate_cases (cls : Nat) (s : State) : ∃ shown x, xoffUpdate cls s = irq 9 (hsetB 0x3008 (8 + cls) shown { s with linkH := { s.linkH with xoff := x } }) ∨
    xoffUpdate cls s = hsetB 0x3008 (8 + cls) shown { s with linkH := { s.linkH with xoff := x } } :=
  ⟨_, _, ite_eq_or_eq _ _ _⟩

theorem xoffUpdate_eq (cls : Nat) (s : State) :
    ∃ r q x, xoffUpdate cls s = { s with hreg := r, tender := { s.tender with posted := q }, linkH := { s.linkH with xoff := x } } := by
  obtain ⟨shown, x, raised | quiet⟩ := xoffUpdate_cases cls s
  · obtain ⟨r, q, e⟩ := irq_eq 9 (hsetB 0x3008 (8 + cls) shown { s with linkH := { s.linkH with xoff := x } })
    exact ⟨r, q, x, raised.trans e⟩
  · exact ⟨_, s.tender.posted, x, quiet⟩

theorem sameButHeld_xoffUpdate (cls : Nat) (s : State) : sameButHeld s (xoffUpdate cls s) := by
  intro o held vectors sources
  obtain ⟨shown, x, raised | quiet⟩ := xoffUpdate_cases cls s
  · rw [raised, hrd_irq_other 9 _ vectors sources, hrd_hsetB_other _ _ _ held]
    rfl
  · rw [quiet, hrd_hsetB_other _ _ _ held]
    rfl

/-- A message enters the hold of its class; beside the hold only the class's XOFF and its interrupt follow. -/
theorem toHost_eq (cls : Nat) (m : List Byte) (s : State) :
    ∃ r q x, toHost cls m s =
      { s with hreg := r, linkH := { s.linkH with xoff := x },
               tender := { setHold s.tender cls (holdOf s.tender cls ++ [m]) with posted := q } } := xoffUpdate_eq cls _

theorem sameButHeld_toHost (cls : Nat) (m : List Byte) (s : State) : sameButHeld s (toHost cls m s) := sameButHeld_xoffUpdate cls _

/-- The Tender's own event: two messages in the LOG class. -/
theorem tenderEvtMsg_eq (code target tag status : Nat) (args : List Byte) (s : State) :
    ∃ r q x a b, tenderEvtMsg code target tag status args s =
      { s with hreg := r, linkH := { s.linkH with xoff := x },
               tender := { s.tender with hold3 := s.tender.hold3 ++ [a, b], posted := q } } := by
  obtain ⟨r, q, x, logged⟩ := toHost_eq 3 (logBytes 0xFFFFFFFF (tenderTime s) s.tender.netStep 0x20 code args) s
  obtain ⟨r', q', x', told⟩ := toHost_eq 3 (eventMsg code target tag status 0xFFFFFFFF (tenderTime s) s.tender.netStep 0 args)
    (toHost 3 (logBytes 0xFFFFFFFF (tenderTime s) s.tender.netStep 0x20 code args) s)
  rw [tenderEvtMsg, told, logged]
  simp only [setHold, holdOf, List.append_assoc, List.cons_append, List.nil_append]
  exact ⟨_, _, _, _, _, rfl⟩

theorem sameButHeld_tenderEvtMsg (code target tag status : Nat) (args : List Byte) (s : State) :
    sameButHeld s (tenderEvtMsg code target tag status args s) := (sameButHeld_toHost _ _ _).trans (sameButHeld_toHost _ _ _)

end Sys2Proof.Machine
end

section
/-! SUPPORT. Flash reads and programs (O38): the guarded pair of the flash controller, the three stages of a read, and which words of the
flash an operation leaves (R387-R395). -/

namespace Sys2Proof.Machine

/-! ### The guarded pair of the flash controller (R33-R36, R391) -/

theorem guardFaultH_flash (cause off : Nat) (s : State) : (guardFaultH cause off s).flash = s.flash := by
  obtain ⟨r, noted⟩ := faultNotedH_only cause off s
  rw [guardFaultH_eq, irq_keeps State.flash (fun _ _ _ => rfl), noted]

/-- A guard fault shows FAULT and counts. -/
theorem guardFaultH_counted (cause off : Nat) (s : State) :
    hgetB (guardFaultH cause off s) 0x1050 0 = true ∧
      hgetF (guardFaultH cause off s) 0x1050 15 8 = min (hgetF s 0x1050 15 8 + 1) 255 := by
  have word : hrd (guardFaultH cause off s) 0x1050 = faultWord cause (hrd s 0x1050) := by
    rw [hrd_guardFaultH _ _ _ (by omega) (by omega), hrd_faultNotedH, if_pos rfl]
  exact ⟨by rw [hgetB, word, faultWord_fault], by rw [hgetF, word, faultWord_count, hgetF]⟩

section
variable {op : Word} {act : State → State} {s : State} (free : s.hguard = none)
include free

/-- The pending value of the controller's pair, just written. -/
theorem flcPending (op : Word) : guardValueH 0x8040 op s = { s with hguard := some (0x8040, op), hguardAge := s.age } :=
  guardValueH_none free

omit free in
theorem guardInTimeH_fresh (p : Option (Nat × Word)) : guardInTimeH { s with hguard := p, hguardAge := s.age } = true := by
  simp [guardInTimeH]

/-- The exact complement makes the operation act. -/
theorem flcCommand_acts : flcCommand op (~~~op) act s = act (hwr 0x8040 op { s with hguardAge := s.age }) := by
  have same : { s with hguard := none, hguardAge := s.age } = { s with hguardAge := s.age } := by rw [← free]
  rw [flcCommand, flcPending free, ← same]
  simp [guardTwinH, guardInTimeH_fresh]

/-- Any other twin is a mismatch. -/
theorem flcCommand_mismatch {twin : Word} (differs : twin ≠ ~~~op) :
    hostGuardRecorded 1 0x40 s (flcCommand op twin act s) ∧ (flcCommand op twin act s).flash = s.flash := by
  have row : flcCommand op twin act s = guardFaultH 1 0x8040 { s with hguard := none, hguardAge := s.age } := by
    rw [flcCommand, flcPending free]
    simp [guardTwinH, guardInTimeH_fresh, differs]
  rw [row]
  exact ⟨guardFaultH_recorded (s := { s with hguard := none, hguardAge := s.age }) 0x8040 (by decide) rfl, guardFaultH_flash _ _ _⟩

end

/-- A pair begun while another value is pending is two faults. -/
theorem flcCommand_overlaps (op twin : Word) (act : State → State) {p : Nat × Word} {s : State} (held : s.hguard = some p)
    (inTime : guardInTimeH s = true) :
    (flcCommand op twin act s).hguard = none ∧ (flcCommand op twin act s).flash = s.flash ∧ hgetB (flcCommand op twin act s) 0x1050 0 = true ∧
      hgetF (flcCommand op twin act s) 0x1050 15 8 = min (hgetF s 0x1050 15 8 + 2) 255 := by
  have dropped : (guardFaultH 4 0x8040 { s with hguard := none }).hguard = none := guardFaultH_hguard _ _ _
  have row : flcCommand op twin act s = guardFaultH 3 0x8040 (guardFaultH 4 0x8040 { s with hguard := none }) := by
    rw [flcCommand, guardValueH_overlap held inTime]
    simp [guardTwinH, guardLateH_none dropped, dropped]
  obtain ⟨-, first⟩ := guardFaultH_counted 4 0x8040 { s with hguard := none }
  obtain ⟨fault, second⟩ := guardFaultH_counted 3 0x8040 (guardFaultH 4 0x8040 { s with hguard := none })
  rw [row]
  refine ⟨(guardFaultH_hguard _ _ _).trans dropped, by rw [guardFaultH_flash, guardFaultH_flash], fault, ?_⟩
  rw [second, first]
  change min (min (hgetF s 0x1050 15 8 + 1) 255 + 1) 255 = _
  omega

/-! ### Reads (R389, R390) -/

/-- A read answered, its bits in error shown. -/
def readAnswered (a : Nat) (errs : Nat) (s : State) : State :=
  let free := errs == 3 || !readSure s
  let data := if free then freeBlock s.free else wordBytes s (a / 16)
  let s := if free then drawFree s else s
  hsetF flStat 17 16 errs { s with flash := { s.flash with read := data } }

/-- Its bits in error counted. -/
def readCounted (a : Nat) (errs : Nat) (s : State) : State :=
  if errs = 3 then setErrAddr a (setFlBit 10 true (hincW 0x804C s)) else if errs ≠ 0 then hincW 0x8048 s else s

theorem flashRead_eq {a : BitVec 24} {e : Fin 4} {s : State} (running : ¬ (hgetB s 0x8004 1 = true ∧ hgetB s 0x8004 0 = true))
    (open_ : ¬ (hgetB s 0x8004 2 = true ∧ flSector a.toNat = s.flash.sector)) :
    flashRead a e s =
      let u := readCounted a.toNat e.val (readAnswered a.toNat e.val s)
      if (hgetF u 0x8000 9 8 ≠ 0 ∧ hgetF u 0x8000 9 8 ≤ e.val) ∨ e.val = 3 then flWarn (a.toNat / 16) e.val u else u := by
  have first : ¬ (flBit s 1 && flBit s 0) = true := by simpa [flBit, flStat] using running
  have second : ¬ (flBit s 2 && flSector a.toNat == s.flash.sector) = true := by simpa [flBit, flStat] using open_
  unfold flashRead
  rw [if_neg first, if_neg second]
  rfl

theorem readAnswered_eq (a errs : Nat) (s : State) : ∃ f d, readAnswered a errs s =
    hsetF 0x8004 17 16 errs { s with free := f, flash := { s.flash with read := d } } ∧
      (errs ≠ 3 → readSure s = true → d = wordBytes s (a / 16)) := by
  unfold readAnswered
  simp only
  split
  · next free => exact ⟨_, _, rfl, fun h sure => by simp [h, sure] at free⟩
  · exact ⟨_, _, rfl, fun _ _ => rfl⟩

section
variable (a errs : Nat) (s : State)

theorem readAnswered_keeps : (readAnswered a errs s).tender = s.tender ∧ (readAnswered a errs s).flash.words = s.flash.words ∧
    (readAnswered a errs s).flash.warned = s.flash.warned ∧ (∀ o, o ≠ 0x8004 → hrd (readAnswered a errs s) o = hrd s o) ∧
    (errs ≠ 3 → readSure s = true → (readAnswered a errs s).flash.read = wordBytes s (a / 16)) := by
  obtain ⟨f, d, e, read⟩ := readAnswered_eq a errs s
  rw [e]
  exact ⟨rfl, rfl, rfl, fun o ho => (hrd_hwr_other _ _ ho).trans rfl, read⟩

theorem readAnswered_errs (small : errs < 4) : hgetF (readAnswered a errs s) 0x8004 17 16 = errs := by
  obtain ⟨f, d, e, -⟩ := readAnswered_eq a errs s
  rw [e, hgetF_hsetF_same _ _ _ (by decide)]
  omega

theorem readCounted_uncorrected : readCounted a 3 s = setErrAddr a (setFlBit 10 true (hincW 0x804C s)) := rfl

theorem readCounted_corrected {errs : Nat} (three : errs ≠ 3) (some : errs ≠ 0) : readCounted a errs s = hincW 0x8048 s := by
  rw [readCounted, if_neg three, if_pos some]

theorem readCounted_clean : readCounted a 0 s = s := rfl

theorem readCounted_only : ∃ r, readCounted a errs s = { s with hreg := r } := by
  by_cases three : errs = 3
  · rw [three]
    exact hwr_only _ _ (hwr_only _ _ (hwr_only _ _ ⟨s.hreg, rfl⟩))
  · by_cases some : errs = 0
    · rw [some]
      exact ⟨s.hreg, rfl⟩
    · exact ⟨_, readCounted_corrected a s three some⟩

theorem readCounted_keeps : hgetF (readCounted a errs s) 0x8004 17 16 = hgetF s 0x8004 17 16 ∧
    (∀ o, o ≠ 0x8004 → o ≠ 0x8048 → o ≠ 0x804C → o ≠ 0x800C → hrd (readCounted a errs s) o = hrd s o) := by
  by_cases three : errs = 3
  · rw [three, readCounted_uncorrected]
    refine ⟨?_, fun o h4 _ h4C hC => ?_⟩
    · rw [setErrAddr, hgetF_hwr, if_neg (by decide), setFlBit, hgetF_hsetB _ _ (by decide) (by decide), hincW, hgetF_hwr, if_neg (by decide)]
    · rw [setErrAddr, hrd_hwr_other _ _ hC, setFlBit, flStat, hrd_hsetB_other _ _ _ h4, hincW, hrd_hwr_other _ _ h4C]
  · by_cases some : errs = 0
    · rw [some, readCounted_clean]
      exact ⟨rfl, fun _ _ _ _ _ => rfl⟩
    · rw [readCounted_corrected a s three some, hincW]
      exact ⟨by rw [hgetF_hwr, if_neg (by decide)], fun o _ h48 _ _ => hrd_hwr_other _ _ h48⟩

theorem readCounted_counts (small : errs < 4) :
    hrd (readCounted a errs s) 0x8048 = (if errs = 1 ∨ errs = 2 then hrd s 0x8048 + 1 else hrd s 0x8048) ∧
      hrd (readCounted a errs s) 0x804C = (if errs = 3 then hrd s 0x804C + 1 else hrd s 0x804C) := by
  by_cases three : errs = 3
  · subst three
    rw [readCounted_uncorrected]
    simp [setErrAddr, setFlBit, flStat, hincW, hrd_hwr, hrd_hsetB_other]
  · by_cases none : errs = 0
    · subst none
      simp [readCounted_clean]
    · rw [readCounted_corrected a s three none, if_pos (by omega), if_neg three]
      simp [hincW, hrd_hwr]

theorem readCounted_uncorrectable : hgetB (readCounted a 3 s) 0x8004 10 = true ∧ hrd (readCounted a 3 s) 0x800C = BitVec.ofNat 32 a := by
  rw [readCounted, if_pos rfl, setErrAddr]
  refine ⟨?_, hrd_hwr_same _ _ _⟩
  rw [hgetB_hwr, if_neg (by decide), setFlBit, flStat, hgetB_hsetB _ _ _ _ _ (by decide), if_pos ⟨rfl, rfl⟩]

end

/-! ### The warning (R390) -/

/-- A warning shown, before its event. -/
def warningShown (w errs : Nat) (s : State) : State := setFlBit 11 true (hwr 0x8010 (BitVec.ofNat 32 (16 * w + 2 ^ 28 * errs)) s)

theorem hrd_warningShown_other (w errs : Nat) (s : State) {o : Nat} (h4 : o ≠ 0x8004) (h10 : o ≠ 0x8010) :
    hrd (warningShown w errs s) o = hrd s o := by
  rw [warningShown, setFlBit, flStat, hrd_hsetB_other _ _ _ h4, hrd_hwr_other _ _ h10]

/-- The event of a warning once for a word among the last 64, and what the warning leaves. -/
theorem flWarn_told (w errs : Nat) (s : State) : sameButHeld (warningShown w errs s) (flWarn w errs s) ∧
    (flWarn w errs s).flash.words = s.flash.words ∧ (flWarn w errs s).flash.read = s.flash.read ∧
    (s.flash.warned.contains w = true → (flWarn w errs s).tender = s.tender) ∧
    (s.flash.warned.contains w = false → (flWarn w errs s).tender.hold3.length = s.tender.hold3.length + 2) := by
  have same : (warningShown w errs s).flash = s.flash := rfl
  cases told : s.flash.warned.contains w with
  | true =>
    have row : flWarn w errs s = warningShown w errs s := if_pos told
    rw [row]
    exact ⟨fun _ _ _ _ => rfl, rfl, rfl, fun _ => rfl, fun h => absurd h (by simp)⟩
  | false =>
    have row : flWarn w errs s = tenderEvt 0x170 (leBytes 4 (16 * w) ++ leBytes 1 errs)
        { warningShown w errs s with flash := { (warningShown w errs s).flash with
          warned := (s.flash.warned ++ [w]).drop ((s.flash.warned ++ [w]).length - 64) } } :=
      if_neg (by rw [← Bool.not_eq_true] at told; exact told)
    obtain ⟨r, q, x, m, n, e⟩ := tenderEvtMsg_eq 0x170 0x1E 0 0 (leBytes 4 (16 * w) ++ leBytes 1 errs)
      { warningShown w errs s with flash := { (warningShown w errs s).flash with
        warned := (s.flash.warned ++ [w]).drop ((s.flash.warned ++ [w]).length - 64) } }
    refine ⟨?_, ?_, ?_, fun h => absurd h (by simp), fun _ => ?_⟩
    · rw [row]
      exact fun o a b c => sameButHeld_tenderEvtMsg _ _ _ _ _ _ o a b c
    all_goals rw [row, tenderEvt, e]
    · rfl
    · rfl
    · simp [warningShown, setFlBit, hsetB, hwr]

theorem flWarn_shows (w errs : Nat) (s : State) :
    hgetB (flWarn w errs s) 0x8004 11 = true ∧ hrd (flWarn w errs s) 0x8010 = BitVec.ofNat 32 (16 * w + 2 ^ 28 * errs) := by
  obtain ⟨same, -⟩ := flWarn_told w errs s
  refine ⟨?_, ?_⟩
  · rw [hgetB_eq_of_hrd (same _ (by decide) (by decide) (by decide)), warningShown, setFlBit, flStat, hgetB_hsetB _ _ _ _ _ (by decide),
      if_pos ⟨rfl, rfl⟩]
  · rw [same _ (by decide) (by decide) (by decide), warningShown, setFlBit, hrd_hsetB_other _ _ _ (by decide), hrd_hwr_same]

/-- What a warning leaves of the error status. -/
theorem flWarn_leaves (w errs : Nat) (s : State) : hgetF (flWarn w errs s) 0x8004 17 16 = hgetF s 0x8004 17 16 ∧
    hgetB (flWarn w errs s) 0x8004 10 = hgetB s 0x8004 10 ∧
    ∀ o, o ≠ 0x8004 → o ≠ 0x8010 → o ≠ 0x3008 → o ≠ 0x4800 → o ≠ 0x4D00 → hrd (flWarn w errs s) o = hrd s o := by
  obtain ⟨same, -⟩ := flWarn_told w errs s
  have status := same 0x8004 (by decide) (by decide) (by decide)
  refine ⟨?_, ?_, fun o h4 h10 held vectors sources => ?_⟩
  · rw [hgetF_eq_of_hrd status, warningShown, setFlBit, hgetF_hsetB _ _ (by decide) (by decide), hgetF_hwr, if_neg (by decide)]
  · rw [hgetB_eq_of_hrd status, warningShown, setFlBit, flStat, hgetB_hsetB _ _ _ _ _ (by decide), if_neg (by decide), hgetB_hwr, if_neg (by decide)]
  · rw [same o held vectors sources, hrd_warningShown_other _ _ _ h4 h10]

/-- A read that is made: its answer and counts, and the warning at the threshold. -/
theorem flashRead_made (a : BitVec 24) (e : Fin 4) (s : State) (running : hgetB s 0x8004 1 = false)
    (open_ : hgetB s 0x8004 2 = false ∨ flSector a.toNat ≠ s.flash.sector) :
    Completes (.flashRead a e) s fun t =>
      (e.val < 3 → readSure s = true → t.flash.read = wordBytes s (a.toNat / 16)) ∧ t.flash.words = s.flash.words ∧ hgetF t 0x8004 17 16 = e.val ∧
      hrd t 0x8048 = (if e.val = 1 ∨ e.val = 2 then hrd s 0x8048 + 1 else hrd s 0x8048) ∧ hrd t 0x804C = (if e.val = 3 then hrd s 0x804C + 1 else hrd s 0x804C) ∧
      (e.val = 3 → hgetB t 0x8004 10 = true ∧ hrd t 0x800C = BitVec.ofNat 32 a.toNat) ∧
      (e.val = 3 ∨ (hgetF s 0x8000 9 8 ≠ 0 ∧ hgetF s 0x8000 9 8 ≤ e.val) → hgetB t 0x8004 11 = true ∧
        hrd t 0x8010 = BitVec.ofNat 32 (a.toNat / 16 * 16 + 2 ^ 28 * e.val) ∧
        (s.flash.warned.contains (a.toNat / 16) = true → t.tender = s.tender) ∧
        (s.flash.warned.contains (a.toNat / 16) = false → t.tender.hold3.length = s.tender.hold3.length + 2)) ∧
      (e.val < 3 → (hgetF s 0x8000 9 8 = 0 ∨ e.val < hgetF s 0x8000 9 8) → t.tender = s.tender ∧ hrd t 0x8010 = hrd s 0x8010 ∧ t.flash.warned = s.flash.warned) := by
  obtain ⟨tender₁, words₁, warned₁, regs₁, read₁⟩ := readAnswered_keeps a.toNat e.val s
  have errs₁ := readAnswered_errs a.toNat e.val s e.isLt
  generalize answered : readAnswered a.toNat e.val s = u at *
  obtain ⟨errs₂, regs₂⟩ := readCounted_keeps a.toNat e.val u
  obtain ⟨corrected, uncorrected⟩ := readCounted_counts a.toNat e.val u e.isLt
  obtain ⟨r, only⟩ := readCounted_only a.toNat e.val u
  have failed : e.val = 3 → hgetB (readCounted a.toNat e.val u) 0x8004 10 = true ∧ hrd (readCounted a.toNat e.val u) 0x800C = BitVec.ofNat 32 a.toNat :=
    fun three => by rw [three]; exact readCounted_uncorrectable _ _
  have tender₂ : (readCounted a.toNat e.val u).tender = s.tender := by rw [only]; exact tender₁
  have flash₂ : (readCounted a.toNat e.val u).flash = u.flash := by rw [only]
  generalize counted : readCounted a.toNat e.val u = v at *
  have threshold : hgetF v 0x8000 9 8 = hgetF s 0x8000 9 8 :=
    hgetF_eq_of_hrd ((regs₂ _ (by decide) (by decide) (by decide) (by decide)).trans (regs₁ _ (by decide))) 9 8
  rw [regs₁ _ (by decide)] at corrected uncorrected
  have row : flashRead a e s = if (hgetF s 0x8000 9 8 ≠ 0 ∧ hgetF s 0x8000 9 8 ≤ e.val) ∨ e.val = 3 then flWarn (a.toNat / 16) e.val v else v := by
    rw [flashRead_eq (by simp [running]) (by rintro ⟨two, same⟩; rcases open_ with h | h <;> simp_all)]
    simp only [answered, counted, threshold]
  by_cases warns : (hgetF s 0x8000 9 8 ≠ 0 ∧ hgetF s 0x8000 9 8 ≤ e.val) ∨ e.val = 3
  · rw [if_pos warns] at row
    obtain ⟨-, words₃, read₃, again, once⟩ := flWarn_told (a.toNat / 16) e.val v
    obtain ⟨shown, word⟩ := flWarn_shows (a.toNat / 16) e.val v
    obtain ⟨errs₃, bit₃, regs₃⟩ := flWarn_leaves (a.toNat / 16) e.val v
    rw [flash₂, warned₁] at again once
    rw [tender₂] at again once
    refine ⟨_, congrArg Host.Outcome.next row, fun few sure => ?_, ?_, ?_, ?_, ?_, fun three => ?_, fun _ => ⟨shown, ?_, again, once⟩,
      fun few low => absurd warns (by omega)⟩
    · rw [read₃, flash₂]; exact read₁ (by omega) sure
    · rw [words₃, flash₂, words₁]
    · rw [errs₃, errs₂, errs₁]
    · rw [regs₃ _ (by decide) (by decide) (by decide) (by decide) (by decide), corrected]
    · rw [regs₃ _ (by decide) (by decide) (by decide) (by decide) (by decide), uncorrected]
    · rw [bit₃, regs₃ _ (by decide) (by decide) (by decide) (by decide) (by decide)]
      exact failed three
    · rw [word, Nat.mul_comm 16]
  · rw [if_neg warns] at row
    refine ⟨_, congrArg Host.Outcome.next row, fun few sure => ?_, ?_, ?_, corrected, uncorrected, failed, fun shown => absurd shown (by omega),
      fun _ _ => ⟨tender₂, ?_, ?_⟩⟩
    · rw [flash₂]; exact read₁ (by omega) sure
    · rw [flash₂, words₁]
    · rw [errs₂, errs₁]
    · rw [regs₂ _ (by decide) (by decide) (by decide) (by decide), regs₁ _ (by decide)]
    · rw [flash₂, warned₁]

/-- A read in the sector of a suspended erase. -/
theorem flashRead_suspended (a : BitVec 24) (e : Fin 4) {s : State} (idle : hgetB s 0x8004 0 = false) (suspended : hgetB s 0x8004 2 = true)
    (within : flSector a.toNat = s.flash.sector) :
    flashRead a e s = setErrAddr a.toNat (setFlBit 14 true { s with flash := { s.flash with read := List.replicate 16 0xFF } }) := by
  simp [flashRead, flBit, flStat, idle, suspended, within]

/-! ### Code words -/

theorem flWord_congr {s t : State} (h : t.flash.words = s.flash.words) (w : Nat) : flWord t w = flWord s w := by rw [flWord, h, flWord]

/-! ### Programs (R391, R392) -/

section
variable {a : BitVec 24} {d : BitVec 128} {s : State}

theorem programStart_busy (busy : hgetB s 0x8004 0 = true) : programStart a d s = setFlBit 13 true s := if_pos busy

theorem programStart_locked (idle : hgetB s 0x8004 0 = false) (locked : flLocked (16 * (a.toNat / 16)) = true) :
    programStart a d s = setErrAddr (16 * (a.toNat / 16)) (setFlBit 9 true s) := by
  rw [Nat.mul_comm] at locked ⊢
  simp [programStart, flBit, flStat, idle, locked]

theorem programStart_notBlank (idle : hgetB s 0x8004 0 = false) (opened : flLocked (16 * (a.toNat / 16)) = false)
    (erasing : hgetB s 0x8004 2 = false) (used : (flWord s (a.toNat / 16)).isSome = true) :
    programStart a d s = setErrAddr (16 * (a.toNat / 16)) (setFlBit 8 true s) := by
  rw [Nat.mul_comm] at opened ⊢
  simp [programStart, flBit, flStat, idle, opened, erasing, used]

/-- The data registers loaded with the word to program. -/
def programLoaded (a : BitVec 24) (d : BitVec 128) (s : State) : State :=
  forAll [0, 1, 2, 3] (fun i => hwr (0x8020 + 4 * i) (BitVec.ofNat 32 (d.toNat / 2 ^ (32 * i)))) (setFlAddr (16 * (a.toNat / 16)) s)

theorem programLoaded_only (a : BitVec 24) (d : BitVec 128) (s : State) : ∃ r, programLoaded a d s = { s with hreg := r } :=
  hwr_only _ _ (hwr_only _ _ (hwr_only _ _ (hwr_only _ _ (hwr_only _ _ ⟨s.hreg, rfl⟩))))

/-- The word of the loaded registers begun: not blank from now on, its bytes free until the program ends. -/
def programBegun (w : Nat) (p : State) : State :=
  setFlBit 0 true (setFlWord w (some { data := [], cut := some p.free }) (drawFree { p with flash := { p.flash with op := 1, opAge := p.age } }))

theorem programStart_begins (idle : hgetB s 0x8004 0 = false) (opened : flLocked (16 * (a.toNat / 16)) = false)
    (erasing : hgetB s 0x8004 2 = false) (blank : flWord s (a.toNat / 16) = none) :
    programStart a d s = programBegun (a.toNat / 16) (programLoaded a d s) := by
  rw [Nat.mul_comm] at opened
  simp only [programStart, flBit, flStat, idle, opened, erasing, blank, Nat.mul_div_cancel _ (show 0 < 16 by decide), Bool.false_eq_true, if_false,
    Bool.false_and, Option.isSome_none, programLoaded, Nat.mul_comm 16 (a.toNat / 16), programBegun]

theorem programLoaded_address : hrd (programLoaded a d s) 0x8008 = BitVec.ofNat 32 (16 * (a.toNat / 16)) := by
  simp only [programLoaded, forAll, List.foldl_cons, List.foldl_nil]
  rw [hrd_hwr_other _ _ (by decide), hrd_hwr_other _ _ (by decide), hrd_hwr_other _ _ (by decide), hrd_hwr_other _ _ (by decide), setFlAddr,
    hrd_hwr_same, Nat.mul_div_cancel_left _ (by decide), Nat.mul_comm]

theorem programLoaded_data {i : Nat} (h : i < 4) : hrd (programLoaded a d s) (0x8020 + 4 * i) = BitVec.ofNat 32 (d.toNat / 2 ^ (32 * i)) := by
  simp only [programLoaded, forAll, List.foldl_cons, List.foldl_nil, hrd_hwr]
  interval_cases i <;> rfl

end

/-- Time that passes reads as before on the host die. -/
theorem hrd_reachAge (x : Nat) (s : State) (o : Nat) : hrd (reachAge x s) o = hrd s o := by
  have hreg : (reachAge x s).hreg = s.hreg := by have := congrArg State.hreg (clocks_only (x - s.age) s); exact this
  rw [hrd, hreg, hrd]

theorem reachAge_flash (x : Nat) (s : State) : (reachAge x s).flash = s.flash := by
  have := congrArg State.flash (clocks_only (x - s.age) s); exact this

theorem flProgramming_congr {s t : State} (h : t.flash.words = s.flash.words) : flProgramming t = flProgramming s := by
  rw [flProgramming, h, flProgramming]

/-- The program of a word ended, with the data of the registers. -/
def programEnded (w : Nat) (s : State) : State :=
  let t := setFlWord w (some { data := [0, 1, 2, 3].flatMap (fun i => leBytes 4 (hrd s (0x8020 + 4 * i)).toNat) }) s
  setFlBit 0 false { t with flash := { t.flash with op := if flBit t 2 then 2 else 0 } }

/-- The end of a program (R391). -/
theorem flashProgramDone_eq {s : State} {w : Nat} (runs : s.flash.op = 1) (word : flProgramming s = some w) :
    flashProgramDone s = programEnded w (reachAge (s.flash.opAge + clkUs 20) s) := by
  have going : flProgramming (reachAge (s.flash.opAge + clkUs 20) s) = some w := (flProgramming_congr (by rw [reachAge_flash])).trans word
  rw [flashProgramDone, if_neg (by simp [runs])]
  simp only [going]
  rfl

/-! ### The obligation -/

section
variable (op : Word) (g : State) {i : Nat} (a : Nat) (small : i < 32)
include small

/-- An error of the controller shown alone. -/
theorem flError_shown : hgetB (setFlBit i true (hwr 0x8040 op g)) 0x8004 i = true ∧
    onlyHregs [0x8004, 0x8040] g (setFlBit i true (hwr 0x8040 op g)) :=
  ⟨by rw [setFlBit, flStat, hgetB_hsetB _ _ _ _ _ small, if_pos ⟨rfl, rfl⟩], ((onlyHregs_refl _ g).hwr op (by simp)).hsetB i true (by simp [flStat])⟩

/-- An error of the controller shown with its address. -/
theorem flError_addressed : hgetB (setErrAddr a (setFlBit i true (hwr 0x8040 op g))) 0x8004 i = true ∧
    hrd (setErrAddr a (setFlBit i true (hwr 0x8040 op g))) 0x800C = BitVec.ofNat 32 a ∧
    onlyHregs [0x8004, 0x800C, 0x8040] g (setErrAddr a (setFlBit i true (hwr 0x8040 op g))) := by
  refine ⟨?_, hrd_hwr_same _ _ _, (((onlyHregs_refl _ g).hwr op (by simp)).hsetB i true (by simp [flStat])).hwr _ (by simp)⟩
  rw [setErrAddr, hgetB_hwr, if_neg (by decide)]
  exact (flError_shown op g small).1

end

theorem programBegun_words (w : Nat) (p : State) :
    (programBegun w p).flash.words = tabSet (fun _ => none) p.flash.words w (some { data := [], cut := some p.free }) := rfl

theorem programEnded_words (w : Nat) (s : State) : (programEnded w s).flash.words =
    tabSet (fun _ => none) s.flash.words w (some { data := [0, 1, 2, 3].flatMap (fun i => leBytes 4 (hrd s (0x8020 + 4 * i)).toNat) }) := rfl

/-- A program that begins: its registers loaded, its word taken, no other word changed. -/
theorem programBegun_loaded (a : BitVec 24) (d : BitVec 128) (s : State) :
    let t := programBegun (a.toNat / 16) (programLoaded a d s)
    hgetB t 0x8004 0 = true ∧ t.flash.op = 1 ∧ t.flash.opAge = s.age ∧ hrd t 0x8008 = BitVec.ofNat 32 (16 * (a.toNat / 16)) ∧
      (∀ i, i < 4 → hrd t (0x8020 + 4 * i) = BitVec.ofNat 32 (d.toNat / 2 ^ (32 * i))) ∧
      (∀ v, v ≠ a.toNat / 16 → flWord t v = flWord s v) ∧ (flWord t (a.toNat / 16)).isSome = true := by
  have others {o : Nat} (ho : o ≠ 0x8004) : hrd (programBegun (a.toNat / 16) (programLoaded a d s)) o = hrd (programLoaded a d s) o :=
    (hrd_hsetB_other _ _ _ ho).trans rfl
  obtain ⟨r, only⟩ := programLoaded_only a d s
  have age : (programLoaded a d s).age = s.age := by rw [only]
  have words : (programLoaded a d s).flash = s.flash := by rw [only]
  refine ⟨?_, rfl, age, (others (by decide)).trans programLoaded_address, fun i hi => (others (by omega)).trans (programLoaded_data hi), fun v hv => ?_, ?_⟩
  · rw [programBegun, setFlBit, flStat, hgetB_hsetB _ _ _ _ _ (by decide), if_pos ⟨rfl, rfl⟩]
  · rw [flWord, programBegun_words, tabGet_set_other _ _ _ hv, words, flWord]
  · rw [flWord, programBegun_words, tabGet_set_same]
    rfl

theorem programEnded_stored (w : Nat) (s : State) :
    wordBytes (programEnded w s) w = [0, 1, 2, 3].flatMap (fun i => leBytes 4 (hrd s (0x8020 + 4 * i)).toNat) ∧
      (∀ v, v ≠ w → flWord (programEnded w s) v = flWord s v) ∧ hgetB (programEnded w s) 0x8004 0 = false ∧
      (programEnded w s).flash.op = (if hgetB s 0x8004 2 then 2 else 0) := by
  refine ⟨?_, fun v hv => ?_, ?_, rfl⟩
  · have stored : flWord (programEnded w s) w = some { data := [0, 1, 2, 3].flatMap (fun i => leBytes 4 (hrd s (0x8020 + 4 * i)).toNat) } :=
      by rw [flWord, programEnded_words, tabGet_set_same]
    simp only [wordBytes, stored]
  · rw [flWord, programEnded_words, tabGet_set_other _ _ _ hv, flWord]
  · rw [programEnded, setFlBit, flStat, hgetB_hsetB _ _ _ _ _ (by decide), if_pos ⟨rfl, rfl⟩]

/-- Settles O38. -/
theorem flashReadsAndPrograms : Obligations.FlashReadsAndPrograms := by
  refine ⟨flashRead_made, fun s w blank => by simp only [wordBytes, blank], fun a e s idle suspended within => ?suspended, fun a d s free => ?program,
    fun a d x p s held inTime => ?overlap, fun s none => congrArg Host.Outcome.next (if_pos none), fun s runs w word => ?done⟩
  case suspended =>
    refine ⟨_, congrArg Host.Outcome.next (flashRead_suspended a e idle suspended within), rfl, ?_, hrd_hwr_same _ _ _, rfl⟩
    rw [setErrAddr, hgetB_hwr, if_neg (by decide), setFlBit, flStat, hgetB_hsetB _ _ _ _ _ (by decide), if_pos ⟨rfl, rfl⟩]
  case program =>
    have bit (j : Nat) : hgetB (hwr 0x8040 1 { s with hguardAge := s.age }) 0x8004 j = hgetB s 0x8004 j := by
      rw [hgetB_hwr, if_neg (by decide)]; rfl
    have acts : flashProgram a d (~~~1) s = programStart a d (hwr 0x8040 1 { s with hguardAge := s.age }) := flcCommand_acts free
    refine ⟨fun x differs => ⟨_, rfl, flcCommand_mismatch free differs⟩, fun busy => ?_, fun idle locked => ?_, fun idle opened erasing used => ?_,
      fun idle opened erasing blank => ?_⟩
    · exact ⟨_, congrArg Host.Outcome.next (acts.trans (programStart_busy ((bit 0).trans busy))), flError_shown _ _ (by decide)⟩
    · exact ⟨_, congrArg Host.Outcome.next (acts.trans (programStart_locked ((bit 0).trans idle) locked)), flError_addressed _ _ _ (by decide)⟩
    · exact ⟨_, congrArg Host.Outcome.next (acts.trans (programStart_notBlank ((bit 0).trans idle) opened ((bit 2).trans erasing) used)),
        flError_addressed _ _ _ (by decide)⟩
    · exact ⟨_, congrArg Host.Outcome.next (acts.trans (programStart_begins ((bit 0).trans idle) opened ((bit 2).trans erasing) blank)),
        programBegun_loaded a d _⟩
  case overlap =>
    exact ⟨⟨_, rfl, flcCommand_overlaps _ _ _ held inTime⟩, ⟨_, rfl, flcCommand_overlaps _ _ _ held inTime⟩,
      ⟨_, rfl, flcCommand_overlaps _ _ _ held inTime⟩⟩
  case done =>
    obtain ⟨stored, others, idle, op⟩ := programEnded_stored w (reachAge (s.flash.opAge + clkUs 20) s)
    simp only [hrd_reachAge] at stored
    rw [hgetB_eq_of_hrd (hrd_reachAge _ _ _)] at op
    exact ⟨_, congrArg Host.Outcome.next (flashProgramDone_eq runs word), stored,
      fun v hv => (others v hv).trans (flWord_congr (by rw [reachAge_flash]) v), idle, op⟩

end Sys2Proof.Machine
end

section
/-! SUPPORT. Flash erases (O39): what the controller's status shows along an erase, its suspends and the blank checks, and what the
compaction of the settings keeps (R392-R397, R416, R417). -/

namespace Sys2Proof.Machine

/-! ### The status of the controller -/

theorem hgetB_setFlBit (i : Nat) (b : Bool) (s : State) {j : Nat} (h : j < 32) :
    hgetB (setFlBit i b s) 0x8004 j = if j = i then b else hgetB s 0x8004 j := by
  rw [setFlBit, flStat, hgetB_hsetB _ _ _ _ _ h]
  simp

theorem hgetB_setErrAddr (a : Nat) (s : State) (j : Nat) : hgetB (setErrAddr a s) 0x8004 j = hgetB s 0x8004 j := by
  rw [setErrAddr, hgetB_hwr, if_neg (by decide)]

theorem setFlBit_flash (i : Nat) (b : Bool) (s : State) : (setFlBit i b s).flash = s.flash := rfl

theorem setFlBit_age (i : Nat) (b : Bool) (s : State) : (setFlBit i b s).age = s.age := rfl

/-- A change of the flash alone leaves the status. -/
theorem hgetB_flash (s : State) (f : Flash) (o j : Nat) : hgetB { s with flash := f } o j = hgetB s o j := rfl

theorem heldReadDone_none {s : State} (none : s.flash.heldRead = none) : heldReadDone s = s := by rw [heldReadDone, none]

/-! ### Time -/

theorem age_plainClocks (n : Nat) (s : State) : (plainClocks n s).age = s.age + n := by
  unfold plainClocks
  simp only
  repeat' split
  all_goals rfl

theorem age_endSlew (s : State) : (endSlew s).age = s.age := rfl

theorem age_clocks (n : Nat) (s : State) : (clocks n s).age = s.age + n := by
  unfold clocks
  split
  · exact age_plainClocks n s
  · split
    · exact age_plainClocks n _
    · rw [age_plainClocks, age_endSlew, age_plainClocks]
      omega

theorem age_reachAge (a : Nat) (s : State) : (reachAge a s).age = max a s.age := by
  rw [reachAge, age_clocks]
  omega

theorem clkUs_lt {m n : Nat} (h : m < n) : clkUs m < clkUs n := by
  unfold clkUs clocksOfNs ceilDiv
  omega

theorem clkUs_le {m n : Nat} (h : m ≤ n) : clkUs m ≤ clkUs n := by
  unfold clkUs clocksOfNs ceilDiv
  omega

/-! ### An erase begins (R392, R394) -/

section
variable {a : BitVec 24} {s : State}

theorem eraseStart_busy (busy : hgetB s 0x8004 0 = true ∨ hgetB s 0x8004 2 = true) : eraseStart a s = setFlBit 13 true s := if_pos busy

theorem eraseStart_locked (idle : hgetB s 0x8004 0 = false) (resumed : hgetB s 0x8004 2 = false) (locked : flLocked a.toNat = true) :
    eraseStart a s = setErrAddr (a.toNat / 16 * 16) (setFlBit 9 true s) := by
  simp [eraseStart, flBit, flStat, idle, resumed, locked]

theorem eraseStart_begins (idle : hgetB s 0x8004 0 = false) (resumed : hgetB s 0x8004 2 = false) (opened : flLocked a.toNat = false) :
    eraseStart a s = beginErase (setFlAddr a.toNat { s with flash := { s.flash with again := 0, sector := flSector a.toNat } }) := by
  simp [eraseStart, flBit, flStat, idle, resumed, opened]

theorem blankStart_busy (busy : hgetB s 0x8004 0 = true ∨ (hgetB s 0x8004 2 = true ∧ flSector a.toNat = s.flash.sector)) :
    blankStart a s = setFlBit 13 true s := if_pos (by simpa [flBit, flStat] using busy)

/-- The blank check of a sector begun. -/
def blankBegun (a : BitVec 24) (s : State) : State :=
  setFlBit 0 true (setFlAddr a.toNat { s with flash := { s.flash with
    op := 3, erased := s.flash.erased && flSector a.toNat == s.flash.sector, checkSec := flSector a.toNat, opAge := s.age } })

theorem blankStart_begins (idle : hgetB s 0x8004 0 = false) (apart : ¬ (hgetB s 0x8004 2 = true ∧ flSector a.toNat = s.flash.sector)) :
    blankStart a s = blankBegun a s := if_neg (by simpa [flBit, flStat, idle] using apart)

end

theorem beginErase_flags (s : State) : hgetB (beginErase s) 0x8004 0 = true ∧ hgetB (beginErase s) 0x8004 1 = true ∧
    ∀ j, j < 32 → j ≠ 0 → j ≠ 1 → hgetB (beginErase s) 0x8004 j = hgetB s 0x8004 j := by
  have flag {j : Nat} (h : j < 32) : hgetB (beginErase s) 0x8004 j = if j = 0 then true else if j = 1 then true else hgetB s 0x8004 j := by
    rw [beginErase, hgetB_setFlBit _ _ _ h, hgetB_setFlBit _ _ _ h, hgetB_flash]
  exact ⟨flag (by decide), flag (by decide), fun j h zero one => by rw [flag h, if_neg zero, if_neg one]⟩

/-- An erase begun on the state of an accepted command. -/
theorem eraseBegun_shown (a : BitVec 24) (op : Word) (g : State) :
    let t := beginErase (setFlAddr a.toNat { hwr 0x8040 op g with flash := { g.flash with again := 0, sector := flSector a.toNat } })
    hgetB t 0x8004 0 = true ∧ hgetB t 0x8004 1 = true ∧ t.flash.op = 2 ∧ t.flash.sector = a.toNat / 8192 ∧ t.flash.opAge = g.age ∧
      t.flash.words = g.flash.words ∧ onlyHregs [0x8004, 0x8008, 0x8040] { g with flash := t.flash } t := by
  obtain ⟨busy, erasing, -⟩ := beginErase_flags (setFlAddr a.toNat { hwr 0x8040 op g with flash := { g.flash with again := 0, sector := flSector a.toNat } })
  refine ⟨busy, erasing, rfl, rfl, rfl, rfl, ?_⟩
  exact (((onlyHregs_refl _ _).hwr op (by simp)).hwr (off := 0x8008) _ (by simp)).hsetB (off := flStat) 1 true (by simp [flStat]) |>.hsetB 0 true (by simp [flStat])

theorem blankBegun_shown (a : BitVec 24) (op : Word) (g : State) :
    let t := blankBegun a (hwr 0x8040 op g)
    hgetB t 0x8004 0 = true ∧ t.flash.op = 3 ∧ t.flash.checkSec = a.toNat / 8192 ∧ t.flash.words = g.flash.words ∧
      onlyHregs [0x8004, 0x8008, 0x8040] { g with flash := t.flash } t := by
  refine ⟨?_, rfl, rfl, rfl, ?_⟩
  · rw [blankBegun, hgetB_setFlBit _ _ _ (by decide), if_pos rfl]
  · exact ((onlyHregs_refl _ _).hwr op (by simp)).hwr (off := 0x8008) _ (by simp) |>.hsetB 0 true (by simp [flStat])

/-! ### An erase ends, stops or goes on (R394, R395) -/

theorem flWord_dropSector (sec w : Nat) (s : State) : flWord (dropSector sec s) w = if w / 512 = sec then none else flWord s w := by
  have kept := tabGet_filter (fun _ => none) (fun k => k / 512 != sec) s.flash.words w
  by_cases h : w / 512 = sec
  · rw [if_pos h]
    exact kept.trans (by simp [h])
  · rw [if_neg h]
    exact kept.trans (by simp [h, flWord])

/-- The state of an erase that has ended. -/
def eraseEnded (u : State) : State :=
  setFlBit 0 false (setFlBit 1 false (setFlBit 3 false
    { u with flash := { u.flash with words := (dropSector u.flash.sector u).flash.words, op := 0, erased := true } }))

theorem flashEraseDone_eq {s : State} (runs : s.flash.op = 2) (going : hgetB s 0x8004 2 = false) (unread : s.flash.heldRead = none) :
    flashEraseDone s = eraseEnded (reachAge (s.flash.opAge + s.flash.left) s) := by
  have flash := reachAge_flash (s.flash.opAge + s.flash.left) s
  rw [flashEraseDone, if_neg (by simp [runs, flBit, flStat, going])]
  refine heldReadDone_none (Eq.trans (b := (reachAge (s.flash.opAge + s.flash.left) s).flash.heldRead) rfl ?_)
  rw [flash, unread]

theorem eraseEnded_words (u : State) : (eraseEnded u).flash.words = (dropSector u.flash.sector u).flash.words := rfl

theorem eraseEnded_over (u : State) : (eraseEnded u).flash.op = 0 ∧ (eraseEnded u).age = u.age := ⟨rfl, rfl⟩

theorem eraseEnded_flags (u : State) :
    hgetB (eraseEnded u) 0x8004 0 = false ∧ hgetB (eraseEnded u) 0x8004 1 = false ∧ hgetB (eraseEnded u) 0x8004 3 = false := by
  simp only [eraseEnded, hgetB_setFlBit, show (0 : Nat) < 32 by decide, show (1 : Nat) < 32 by decide, show (3 : Nat) < 32 by decide]
  exact ⟨rfl, rfl, rfl⟩

/-- The state of an erase that has stopped, with its progress. -/
def eraseStopped (u : State) : State :=
  setFlBit 3 false (setFlBit 0 false (setFlBit 2 true { u with flash := { u.flash with left := u.flash.left - (u.age - u.flash.opAge) } }))

theorem eraseStops_eq {u : State} (unread : u.flash.heldRead = none) : eraseStops u = eraseStopped u :=
  heldReadDone_none (s := eraseStopped u) unread

theorem eraseStopped_flash (u : State) : (eraseStopped u).flash = { u.flash with left := u.flash.left - ((eraseStopped u).age - u.flash.opAge) } := rfl

theorem eraseStopped_age (u : State) : (eraseStopped u).age = u.age := rfl

theorem eraseStopped_flags (u : State) :
    hgetB (eraseStopped u) 0x8004 2 = true ∧ hgetB (eraseStopped u) 0x8004 3 = false ∧ hgetB (eraseStopped u) 0x8004 0 = false := by
  simp only [eraseStopped, hgetB_setFlBit, show (0 : Nat) < 32 by decide, show (2 : Nat) < 32 by decide, show (3 : Nat) < 32 by decide]
  exact ⟨rfl, rfl, rfl⟩

section
variable {s : State} (n : Nat)

theorem flashSuspend_stops (going : hgetB s 0x8004 2 = false) (unread : s.flash.heldRead = none)
    (due : 200 ≤ n ∨ s.flash.opAge + clkUs 200 ≤ s.age) (runs : s.flash.op = 2) :
    flashSuspend n s = eraseStopped (reachAge (s.flash.opAge + clkUs n) s) := by
  have flash := reachAge_flash (s.flash.opAge + clkUs n) s
  have reached : s.flash.opAge + clkUs 200 ≤ (reachAge (s.flash.opAge + clkUs n) s).age := by
    rw [age_reachAge]
    rcases due with late | late
    · have := clkUs_le late
      omega
    · omega
  rw [flashSuspend, if_neg (by simp [runs, flBit, flStat, going])]
  simp only [flash, reached, if_true]
  exact eraseStops_eq (by rw [flash, unread])

theorem flashSuspend_held (going : hgetB s 0x8004 2 = false) (early : n < 200) (short : s.age < s.flash.opAge + clkUs 200) (runs : s.flash.op = 2) :
    flashSuspend n s = setFlBit 3 true (reachAge (s.flash.opAge + clkUs n) s) := by
  have flash := reachAge_flash (s.flash.opAge + clkUs n) s
  have before : ¬ s.flash.opAge + clkUs 200 ≤ (reachAge (s.flash.opAge + clkUs n) s).age := by
    rw [age_reachAge]
    have := clkUs_lt early
    omega
  rw [flashSuspend, if_neg (by simp [runs, flBit, flStat, going])]
  simp only [flash, before, if_false]

end

theorem suspendTakeEffect_eq {s : State} (held : hgetB s 0x8004 3 = true) (runs : s.flash.op = 2) (unread : s.flash.heldRead = none) :
    suspendTakeEffect s = eraseStopped (reachAge (s.flash.opAge + clkUs 200) s) := by
  rw [suspendTakeEffect, if_pos ⟨held, runs⟩]
  exact eraseStops_eq (by rw [reachAge_flash, unread])

/-! ### Blank checks (R397) -/

/-- A blank check over, before its finding. -/
def checkOver (s : State) : State :=
  let u := reachAge (s.flash.opAge + clkUs 100) s
  setFlBit 0 false { u with flash := { u.flash with op := if flBit u 2 then 2 else 0 } }

theorem checkOver_status (s : State) : hgetB (checkOver s) 0x8004 0 = false ∧ (∀ j, j < 32 → j ≠ 0 → hgetB (checkOver s) 0x8004 j = hgetB s 0x8004 j) ∧
    (checkOver s).flash = { s.flash with op := if hgetB s 0x8004 2 then 2 else 0 } ∧ s.flash.opAge + clkUs 100 ≤ (checkOver s).age := by
  have bit (j : Nat) : hgetB (reachAge (s.flash.opAge + clkUs 100) s) 0x8004 j = hgetB s 0x8004 j := hgetB_eq_of_hrd (hrd_reachAge _ _ _) j
  refine ⟨?_, fun j h apart => ?_, ?_, ?_⟩
  · simp only [checkOver, hgetB_setFlBit _ _ _ (show 0 < 32 by decide), if_true]
  · simp only [checkOver, hgetB_setFlBit _ _ _ h, if_neg apart, hgetB_flash, bit]
  · simp only [checkOver, setFlBit_flash, reachAge_flash, flBit, flStat, bit]
  · simp only [checkOver, setFlBit_age, age_reachAge]
    omega

theorem notBlank_congr {s t : State} (h : t.flash.words = s.flash.words) (sec : Nat) : notBlank t sec = notBlank s sec := by
  rw [notBlank, h, notBlank]

section
variable {ws : List Nat} {s : State} (runs : s.flash.op = 3)
include runs

theorem blankCheckDone_blank (clean : ws.filter (· < 512) ++ notBlank s s.flash.checkSec = []) :
    blankCheckDone ws s = { checkOver s with flash := { (checkOver s).flash with erased := false, again := 0 } } := by
  have flash := reachAge_flash (s.flash.opAge + clkUs 100) s
  have same : notBlank (reachAge (s.flash.opAge + clkUs 100) s) s.flash.checkSec = notBlank s s.flash.checkSec := notBlank_congr (by rw [flash]) _
  rw [blankCheckDone, if_neg (by simp [runs])]
  simp only [flash, same, clean]
  simp only [checkOver, setFlBit_flash, flash]

/-- A blank check that finds a word: its error with an address, and what follows for a sector just erased. -/
theorem blankCheckDone_bad (found : ws.filter (· < 512) ++ notBlank s s.flash.checkSec ≠ []) :
    ∃ u a, u = setErrAddr a (setFlBit 15 true (checkOver s)) ∧ blankCheckDone ws s =
      if !u.flash.erased then u
      else if u.flash.again < 3 then beginErase { u with flash := { u.flash with again := u.flash.again + 1 } }
      else setFlBit 12 true { u with flash := { u.flash with erased := false, again := 0 } } := by
  have flash := reachAge_flash (s.flash.opAge + clkUs 100) s
  have same : notBlank (reachAge (s.flash.opAge + clkUs 100) s) (reachAge (s.flash.opAge + clkUs 100) s).flash.checkSec = notBlank s s.flash.checkSec := by
    rw [notBlank_congr (congrArg Flash.words flash), flash]
  obtain ⟨w, rest, bad⟩ := List.exists_cons_of_ne_nil found
  refine ⟨_, (reachAge (s.flash.opAge + clkUs 100) s).flash.checkSec * 0x2000 + 16 * rest.foldl max w, rfl, ?_⟩
  rw [blankCheckDone, if_neg (by simp [runs])]
  simp only [same, bad]
  rfl

end

/-! ### The settings compaction (R416, R417) -/

/-- `t` is `s` but for the flash. -/
def onlyFlash (s t : State) : Prop := ∃ f, t = { s with flash := f }

namespace onlyFlash

theorem refl (s : State) : onlyFlash s s := ⟨s.flash, rfl⟩

theorem trans {s t u : State} (h : onlyFlash s t) (k : onlyFlash t u) : onlyFlash s u := by
  obtain ⟨f, rfl⟩ := h
  obtain ⟨g, rfl⟩ := k
  exact ⟨g, rfl⟩

theorem flProg (addr : Nat) (data : List Byte) (s : State) : onlyFlash s (flProg addr data s) := ⟨_, rfl⟩

theorem dropSector (sec : Nat) (s : State) : onlyFlash s (dropSector sec s) := ⟨_, rfl⟩

theorem journalPut (r : List Byte) (s : State) : onlyFlash s (journalPut r s) := flProg _ _ s

theorem journalIntent (sec : Nat) (s : State) : onlyFlash s (journalIntent sec s) := by
  unfold Machine.journalIntent journalSwitch
  simp only
  split
  · exact (dropSector _ s).trans (flProg _ _ _)
  · exact journalPut _ s

theorem flErase (sec : Nat) (s : State) : onlyFlash s (flErase sec s) :=
  ((journalIntent sec s).trans (dropSector sec _)).trans (journalPut _ _)

theorem flProgAll (n : Nat) : ∀ (addr : Nat) (bs : List Byte) (s : State), onlyFlash s (flProgAll addr n bs s) := by
  induction n with
  | zero => exact fun _ _ s => refl s
  | succ n ih => exact fun addr bs s => (flProg addr bs s).trans (ih _ _ _)

theorem forAll {α : Type} {f : α → State → State} (each : ∀ x s, onlyFlash s (f x s)) (xs : List α) : ∀ s : State, onlyFlash s (forAll xs f s) := by
  induction xs with
  | nil => exact refl
  | cons x xs ih => exact fun s => (each x s).trans (ih _)

theorem onlyIf {s t u : State} {p : Prop} [Decidable p] (h : onlyFlash s t) (k : onlyFlash s u) : onlyFlash s (if p then t else u) := by
  split
  · exact h
  · exact k

end onlyFlash

/-- The core records a formatted bank begins with. -/
def coreCopied (s : State) (items : List Nat) (t : Tab (Option CoreRec)) : Tab (Option CoreRec) :=
  items.foldl (fun t i => tabSet (fun _ => none) t i (coreRec s i)) t

theorem tabGet_coreCopied (s : State) (k : Nat) (items : List Nat) : ∀ t : Tab (Option CoreRec),
    tabGet (fun _ => none) (coreCopied s items t) k = if k ∈ items then coreRec s k else tabGet (fun _ => none) t k := by
  induction items with
  | nil => exact fun t => by simp [coreCopied]
  | cons i items ih =>
    intro t
    rw [coreCopied, List.foldl_cons, ← coreCopied, ih]
    by_cases later : k ∈ items
    · simp [later]
    · by_cases this : k = i
      · subst this; simp [later]
      · simp [later, this, tabGet_set_other]

theorem tabGet_unlisted {α : Type} (d : Nat → α) {t : Tab α} {k : Nat} (h : k ∉ t.map (fun p => p.1)) : tabGet d t k = d k := by
  have none : tabFind t k = none := by
    induction t with
    | nil => rfl
    | cons p t ih =>
      obtain ⟨a, v⟩ := p
      simp only [List.map_cons, List.mem_cons, not_or] at h
      have apart : ¬ a = k := fun e => h.1 e.symm
      simp [tabFind, apart, ih h.2]
  rw [tabGet, none]
  rfl

/-- The items that a formatted bank looks up. -/
def coreItems (s : State) : List Nat := (((getBank s 0).core ++ (getBank s 1).core).map (fun p => p.1)).eraseDups

/-- A formatted bank holds every core item's newest record. -/
theorem coreCopied_all (s : State) (k : Nat) : tabGet (fun _ => none) (coreCopied s (coreItems s) []) k = coreRec s k := by
  rw [tabGet_coreCopied]
  by_cases listed : k ∈ coreItems s
  · rw [if_pos listed]
  · rw [if_neg listed]
    simp only [coreItems, List.mem_eraseDups, List.map_append, List.mem_append, not_or] at listed
    obtain ⟨zero, one⟩ := listed
    simp only [coreRec, tabGet_unlisted _ zero, tabGet_unlisted _ one]
    rfl

/-- A bank as the format leaves it. -/
def formattedBank (format seq : Nat) (s : State) : SetBank :=
  { valid := true, format := format, seq := seq, core := coreCopied s (coreItems s) [] }

/-- A bank formatted: its header and records, the flash aside. -/
theorem formatBank_eq (b format seq : Nat) (s : State) : ∃ f, formatBank b format seq s =
    setBank b (formattedBank format seq s)
      { s with flash := f, settings := { s.settings with active := b } } := by
  obtain ⟨f, only⟩ := (onlyFlash.forAll (fun i s => onlyFlash.onlyIf (p := (notBlank s (flSector (bankBase b) + i)).isEmpty = true)
    (onlyFlash.refl s) (onlyFlash.flErase (flSector (bankBase b) + i) s)) (List.range 128) s).trans
    (onlyFlash.flProg (bankBase b) (crcRecord ([0x48, 0x4C, 0x44, 0x53] ++ leBytes 2 format ++ leBytes 2 0 ++ leBytes 4 seq)) _)
  refine ⟨f, ?_⟩
  unfold formatBank
  simp only [only]
  rfl

theorem getBank_setBank_same (b : Nat) (v : SetBank) (s : State) : getBank (setBank b v s) b = v := tabGet_set_same _ _ _ _

theorem getBank_setBank_other {b c : Nat} (v : SetBank) (s : State) (h : c ≠ b) : getBank (setBank b v s) c = getBank s c :=
  tabGet_set_other _ _ _ h

/-- The other bank after the compaction. -/
def compactedBank (s : State) : SetBank :=
  let x := getBank s s.settings.active
  { valid := true, format := x.format, seq := x.seq + 1, core := coreCopied s (coreItems s) [], config := x.config, extra := x.extra }

/-- The compaction replaces the other bank and makes it the active one. -/
theorem settingsCompact_eq (s : State) : ∃ f y, settingsCompact s = setBank (1 - s.settings.active) (compactedBank s)
    { s with flash := f, settings := { s.settings with banks := y, active := 1 - s.settings.active, kept := none } } ∧
      ∀ c, c ≠ 1 - s.settings.active → tabGet (fun _ => {}) y c = getBank s c := by
  obtain ⟨f, formatted⟩ := formatBank_eq (1 - s.settings.active) (getBank s s.settings.active).format ((getBank s s.settings.active).seq + 1) s
  refine ⟨f, tabSet (fun _ => {}) s.settings.banks (1 - s.settings.active)
    (formattedBank (getBank s s.settings.active).format ((getBank s s.settings.active).seq + 1) s), ?_, fun c hc => tabGet_set_other _ _ _ hc⟩
  unfold settingsCompact
  simp only [formatted, getBank_setBank_same]
  rfl

/-- With the newest record of an item in the other bank, the newest record stays the same. -/
theorem coreRec_compacted {s t : State} {b k : Nat} (banks : b < 2) (other : getBank t (1 - b) = compactedBank s) (own : getBank t b = getBank s b) :
    coreRec t k = coreRec s k := by
  have copied : tabGet (fun _ => none) (getBank t (1 - b)).core k = coreRec s k := by rw [other]; exact coreCopied_all s k
  interval_cases b
  · simp only [coreRec, own, show getBank t 1 = getBank t (1 - 0) from rfl, copied]
    rcases tabGet (fun _ => none) (getBank s 0).core k with _ | x <;> rcases tabGet (fun _ => none) (getBank s 1).core k with _ | y
    · rfl
    · rfl
    · simp
    · by_cases newer : x.cseq < y.cseq <;> simp [newer]
  · simp only [coreRec, own, show getBank t 0 = getBank t (1 - 1) from rfl, copied]
    rcases tabGet (fun _ => none) (getBank s 0).core k with _ | x <;> rcases tabGet (fun _ => none) (getBank s 1).core k with _ | y
    · rfl
    · simp
    · rfl
    · by_cases newer : x.cseq < y.cseq <;> simp [newer]

/-! ### The obligation -/

/-- The ends of a blank check (R397): what it found, and what follows for a sector just erased. -/
theorem blankCheckDone_ends (ws : List Nat) (s : State) : (s.flash.op ≠ 3 → exec (.blankCheckDone ws) s = .next s) ∧
    (s.flash.op = 3 → ws.filter (· < 512) ++ notBlank s s.flash.checkSec = [] → Completes (.blankCheckDone ws) s fun t => hgetB t 0x8004 0 = false ∧
      t.flash.op = (if hgetB s 0x8004 2 then 2 else 0) ∧ t.flash.erased = false ∧ s.flash.opAge + clkUs 100 ≤ t.age) ∧
    (s.flash.op = 3 → ws.filter (· < 512) ++ notBlank s s.flash.checkSec ≠ [] → Completes (.blankCheckDone ws) s fun t => hgetB t 0x8004 15 = true ∧ t.flash.words = s.flash.words ∧
      (s.flash.erased = false → hgetB t 0x8004 0 = false ∧ hgetB t 0x8004 12 = hgetB s 0x8004 12) ∧
      (s.flash.erased = true → s.flash.again < 3 → t.flash.op = 2 ∧ hgetB t 0x8004 0 = true ∧ hgetB t 0x8004 1 = true ∧ t.flash.again = s.flash.again + 1) ∧
      (s.flash.erased = true → 3 ≤ s.flash.again → hgetB t 0x8004 12 = true ∧ hgetB t 0x8004 0 = false)) := by
  obtain ⟨idle, others, flash, age⟩ := checkOver_status s
  refine ⟨fun none => congrArg Host.Outcome.next (if_pos none), fun runs clean => ?_, fun runs found => ?_⟩
  · refine ⟨_, congrArg Host.Outcome.next (blankCheckDone_blank runs clean), idle, ?_, rfl, age⟩
    rw [flash]
  · obtain ⟨u, a, shown, row⟩ := blankCheckDone_bad runs found
    have status (j : Nat) (h : j < 32) : hgetB u 0x8004 j = if j = 15 then true else hgetB (checkOver s) 0x8004 j := by
      rw [shown, hgetB_setErrAddr, hgetB_setFlBit _ _ _ h]
    have same : u.flash = { s.flash with op := if hgetB s 0x8004 2 then 2 else 0 } := by rw [shown]; exact flash
    have error : hgetB u 0x8004 15 = true := status 15 (by decide)
    have ended : hgetB u 0x8004 0 = false := (status 0 (by decide)).trans idle
    have words : u.flash.words = s.flash.words := by rw [same]
    have left : u.flash.again = s.flash.again := by rw [same]
    have sector : u.flash.erased = s.flash.erased := by rw [same]
    cases erased : s.flash.erased with
    | false =>
      rw [if_pos (by rw [sector, erased]; rfl)] at row
      exact ⟨_, congrArg Host.Outcome.next row, error, words, fun _ => ⟨ended, (status 12 (by decide)).trans (others 12 (by decide) (by decide))⟩,
        fun h => absurd h (by decide), fun h => absurd h (by decide)⟩
    | true =>
      rw [if_neg (by rw [sector, erased]; decide)] at row
      by_cases again : s.flash.again < 3
      · rw [if_pos (by rwa [left])] at row
        obtain ⟨busy, erasing, rest⟩ := beginErase_flags { u with flash := { u.flash with again := u.flash.again + 1 } }
        exact ⟨_, congrArg Host.Outcome.next row, (rest 15 (by decide) (by decide) (by decide)).trans error, words, fun h => absurd h (by decide),
          fun _ _ => ⟨rfl, busy, erasing, congrArg (· + 1) left⟩, fun _ h => absurd h (by omega)⟩
      · rw [if_neg (by rwa [left])] at row
        refine ⟨_, congrArg Host.Outcome.next row, ?_, words, fun h => absurd h (by decide), fun _ h => absurd h again, fun _ _ => ⟨?_, ?_⟩⟩
        · rw [hgetB_setFlBit _ _ _ (by decide), if_neg (by decide)]
          exact error
        · rw [hgetB_setFlBit _ _ _ (by decide), if_pos rfl]
        · rw [hgetB_setFlBit _ _ _ (by decide), if_neg (by decide)]
          exact ended

/-- Settles O39. -/
theorem flashErases : Obligations.FlashErases := by
  refine ⟨fun a s free => ?pairs, fun s => ?done, fun n s => ?suspend, fun s => ?effect, fun s => ?resume, fun ws s => ?check, fun s banks => ?compact⟩
  case pairs =>
    have bit (op : Word) (j : Nat) : hgetB (hwr 0x8040 op { s with hguardAge := s.age }) 0x8004 j = hgetB s 0x8004 j := by
      rw [hgetB_hwr, if_neg (by decide)]; rfl
    have erase : flashErase a (~~~2) s = eraseStart a (hwr 0x8040 2 { s with hguardAge := s.age }) := flcCommand_acts free
    have check : blankCheck a (~~~3) s = blankStart a (hwr 0x8040 3 { s with hguardAge := s.age }) := flcCommand_acts free
    refine ⟨fun x differs => ⟨_, rfl, flcCommand_mismatch free differs⟩, fun x differs => ⟨_, rfl, flcCommand_mismatch free differs⟩,
      fun busy => ?_, fun busy => ?_, fun idle resumed locked => ?_, fun idle resumed opened => ?_, fun idle apart => ?_⟩
    · exact ⟨_, congrArg Host.Outcome.next (erase.trans (eraseStart_busy (by rwa [bit, bit]))), flError_shown _ _ (by decide)⟩
    · exact ⟨_, congrArg Host.Outcome.next (check.trans (blankStart_busy (by rwa [bit, bit]))), flError_shown _ _ (by decide)⟩
    · exact ⟨_, congrArg Host.Outcome.next (erase.trans (eraseStart_locked ((bit 2 0).trans idle) ((bit 2 2).trans resumed) locked)),
        flError_addressed _ _ _ (by decide)⟩
    · exact ⟨_, congrArg Host.Outcome.next (erase.trans (eraseStart_begins ((bit 2 0).trans idle) ((bit 2 2).trans resumed) opened)),
        eraseBegun_shown a 2 _⟩
    · exact ⟨_, congrArg Host.Outcome.next (check.trans (blankStart_begins ((bit 3 0).trans idle) (by rwa [bit]))), blankBegun_shown a 3 _⟩
  case done =>
    refine ⟨fun other => congrArg Host.Outcome.next (if_pos other), fun runs going unread => ?_⟩
    have flash := reachAge_flash (s.flash.opAge + s.flash.left) s
    have words (w : Nat) := flWord_congr (eraseEnded_words (reachAge (s.flash.opAge + s.flash.left) s)) w
    obtain ⟨busy, erasing, held⟩ := eraseEnded_flags (reachAge (s.flash.opAge + s.flash.left) s)
    obtain ⟨op, age⟩ := eraseEnded_over (reachAge (s.flash.opAge + s.flash.left) s)
    refine ⟨_, congrArg Host.Outcome.next (flashEraseDone_eq runs going unread), fun w within => ?_, fun w apart => ?_, busy, erasing, held, op, ?_⟩
    · rw [words, flWord_dropSector, flash, if_pos within]
    · rw [words, flWord_dropSector, flash, if_neg apart, flWord, flash, flWord]
    · rw [age, age_reachAge]
      exact Nat.le_max_left _ _
  case suspend =>
    refine ⟨fun other => congrArg Host.Outcome.next (if_pos other), fun runs going unread due => ?_, fun runs going early short => ?_⟩
    · obtain ⟨suspended, -, busy⟩ := eraseStopped_flags (reachAge (s.flash.opAge + clkUs n) s)
      have stopped := eraseStopped_flash (reachAge (s.flash.opAge + clkUs n) s)
      rw [reachAge_flash] at stopped
      exact ⟨_, congrArg Host.Outcome.next (flashSuspend_stops n going unread due runs), suspended, busy, stopped⟩
    · refine ⟨_, congrArg Host.Outcome.next (flashSuspend_held n going early short runs), ?_, ?_, (setFlBit_flash _ _ _).trans (reachAge_flash _ _)⟩
      · rw [hgetB_setFlBit _ _ _ (by decide), if_pos rfl]
      · rw [hgetB_setFlBit _ _ _ (by decide), if_neg (by decide)]
        exact hgetB_eq_of_hrd (hrd_reachAge _ _ _) 0
  case effect =>
    refine ⟨fun none => congrArg Host.Outcome.next (if_neg fun held => ?_), fun held runs unread => ?_⟩
    · exact absurd held.1 (by simp [flBit, flStat, none])
    · obtain ⟨suspended, taken, busy⟩ := eraseStopped_flags (reachAge (s.flash.opAge + clkUs 200) s)
      have stopped := eraseStopped_flash (reachAge (s.flash.opAge + clkUs 200) s)
      rw [reachAge_flash] at stopped
      refine ⟨_, congrArg Host.Outcome.next (suspendTakeEffect_eq held runs unread), suspended, taken, busy, stopped, ?_⟩
      rw [eraseStopped_age, age_reachAge]
      exact Nat.le_max_left _ _
  case resume =>
    refine ⟨fun suspended idle => ?_, fun suspended busy => congrArg Host.Outcome.next ?_, fun resumed => ?_⟩
    · have row : flashResume s =
          setFlBit 0 true (setFlBit 2 false { s with flash := { s.flash with opAge := s.age, left := s.flash.left + clkUs 50 } }) := by
        simp [flashResume, flBit, flStat, suspended, idle]
      have flash := (setFlBit_flash 0 true _).trans
        (setFlBit_flash 2 false { s with flash := { s.flash with opAge := s.age, left := s.flash.left + clkUs 50 } })
      refine ⟨_, congrArg Host.Outcome.next row, ?_, ?_, flash, ?_⟩
      · rw [hgetB_setFlBit _ _ _ (by decide), if_neg (by decide), hgetB_setFlBit _ _ _ (by decide), if_pos rfl]
      · rw [hgetB_setFlBit _ _ _ (by decide), if_pos rfl]
      · rw [flash]
        exact ((onlyHregs_refl _ _).hsetB (off := flStat) 2 false (by simp [flStat])).hsetB 0 true (by simp [flStat])
    · simp [flashResume, flBit, flStat, suspended, busy]
    · have row : flashResume s = setFlBit 3 false s := by simp [flashResume, flBit, flStat, resumed]
      refine ⟨_, congrArg Host.Outcome.next row, ?_, ?_, (onlyHregs_refl _ _).hsetB 3 false (by simp [flStat])⟩
      · rw [hgetB_setFlBit _ _ _ (by decide), if_pos rfl]
      · rw [hgetB_setFlBit _ _ _ (by decide), if_neg (by decide)]
  case check => exact blankCheckDone_ends ws s
  case compact =>
    obtain ⟨f, y, row, own⟩ := settingsCompact_eq s
    have new : getBank (settingsCompact s) (1 - s.settings.active) = compactedBank s := by rw [row, getBank_setBank_same]
    have old : getBank (settingsCompact s) s.settings.active = getBank s s.settings.active := by
      rw [row, getBank_setBank_other _ _ (by omega)]
      exact own _ (by omega)
    have kept (k : Nat) : coreGet (settingsCompact s) k = coreGet s k := by rw [coreGet, coreRec_compacted banks new old, coreGet]
    refine ⟨_, rfl, by rw [row]; rfl, by rw [row]; rfl, by rw [new]; rfl, by rw [new]; rfl, by rw [new]; rfl, kept, by rw [row]; rfl, by rw [row]; rfl⟩

end Sys2Proof.Machine
end

section
/-! SUPPORT. The refutation of O48: a page written once its current copy holds the last sequence number. -/

namespace Sys2Proof.Machine

/-- A field write of page 1, whose current copy has the greatest SEQ of 32 bits (R468). -/
def lastSeqWrite : State :=
  { State.reset with tag := { copies := [(2, { valid := true, seq := 2 ^ 32 - 1 })], fieldWrite := some { cmd := 1, page := 1, data := [1] } } }

/-- The new copy's SEQ wraps to 0, below that of the old copy, which so stays the current one. -/
theorem pageSeq_lastSeqWrite : pageSeq (pageWriteDone 1 true false lastSeqWrite) 1 = 2 ^ 32 - 1 := by decide +kernel

theorem pageSeq_lastSeqWrite_before : pageSeq lastSeqWrite 1 = 2 ^ 32 - 1 := by decide +kernel

/-- Refutes O48, by its clause on the end of a field write: it says that the page then has the write's data with the next sequence number modulo
2^32, but after 0xFFFF_FFFF the next one is 0, and of two valid copies the one with the higher sequence number is current (R468). -/
theorem not_tagPagesAndHost : ¬ Obligations.TagPagesAndHost := by
  rintro ⟨-, fieldDone, -⟩
  obtain ⟨-, ends⟩ := fieldDone 1 false lastSeqWrite { cmd := 1, page := 1, data := [1] } rfl
  obtain ⟨t, step, -, -, written, -, -⟩ := ends rfl rfl
  obtain rfl : pageWriteDone 1 true false lastSeqWrite = t := Host.Outcome.next.inj step
  obtain ⟨-, next⟩ := written rfl
  exact absurd (pageSeq_lastSeqWrite.symm.trans (next.trans (by rw [show (1 : Fin 65).val = 1 from rfl, pageSeq_lastSeqWrite_before]))) (by decide)

end Sys2Proof.Machine
end

section
/-! SUPPORT. The commissioning tag: what each of its operations changes of the tag and of the host's TAG registers (R459-R473). -/

namespace Sys2Proof.Machine

/-! ### Small parts -/

theorem irq_tag (n : Nat) (s : State) : (irq n s).tag = s.tag := irq_keeps State.tag (fun _ _ _ => rfl) n s

theorem tagShow_eq (s : State) : ∃ r, tagShow s = { s with hreg := r } :=
  hwr_only _ _ (hwr_only _ _ (hwr_only _ _ (hwr_only _ _ ⟨s.hreg, rfl⟩)))

theorem hrd_tagShow (s : State) {o : Nat} (h : o ≠ 0x6004) : hrd (tagShow s) o = hrd s o := by
  simp only [tagShow, hrd_hsetB_other _ _ _ h]

theorem tagShow_quiet (s : State) : hgetB (tagShow s) 0x6004 4 = s.tag.quiet := by
  rw [tagShow, hgetB_hsetB _ _ _ _ _ (by decide), if_pos ⟨rfl, rfl⟩]

@[simp] theorem tagShow_tag (s : State) : (tagShow s).tag = s.tag := by
  obtain ⟨r, e⟩ := tagShow_eq s
  rw [e]

@[simp] theorem tagShow_reg (s : State) : (tagShow s).reg = s.reg := by
  obtain ⟨r, e⟩ := tagShow_eq s
  rw [e]

@[simp] theorem tagTo_tag (st : Nat) (s : State) : (tagTo st s).tag = { s.tag with st := st } := tagShow_tag _

@[simp] theorem tagTo_reg (st : Nat) (s : State) : (tagTo st s).reg = s.reg := tagShow_reg _

theorem hrd_tagTo (st : Nat) (s : State) {o : Nat} (h : o ≠ 0x6004) : hrd (tagTo st s) o = hrd s o := hrd_tagShow _ h

@[simp] theorem tagSend_tag (bs : List Byte) (s : State) : (tagSend bs s).tag = { s.tag with sent := s.tag.sent ++ [bs] } := rfl

theorem hostUp_congr {s t : State} (h : hrd t 0x1000 = hrd s 0x1000) : hostUp t = hostUp s := by
  rw [hostUp, hostPower, hgetF, h, ← hgetF, ← hostPower, ← hostUp]

/-! ### The field, and the end of a session (R459, R461, R462) -/

theorem tagField_tag (s : State) : ∃ b, (tagField s).tag = { s.tag with raised := b } := by
  unfold tagField
  split
  · exact ⟨s.tag.raised, rfl⟩
  · exact ⟨true, irq_tag _ _⟩

theorem tagField_reg (s : State) : (tagField s).reg = s.reg := by
  unfold tagField
  split
  · rfl
  · exact irq_reg _ _

/-- TAG_FIELD is raised where the host has power and the field is a new one. -/
theorem tagField_raises {s : State} (fresh : s.tag.raised = false) (up : hostUp s = true) :
    hgetB (tagField s) 0x4D00 15 = true ∧ hgetB (tagField s) 0x6004 17 = true := by
  have row : tagField s = irq 15 (hsetB 0x6004 17 true { s with tag := { s.tag with raised := true } }) := if_neg (by simp [fresh, up])
  rw [row]
  refine ⟨hgetB_irq_same 15 _, ?_⟩
  rw [hgetB_eq_of_hrd (hrd_irq_other 15 _ (by decide) (by decide)), hgetB_hsetB _ _ _ _ _ (by decide), if_pos ⟨rfl, rfl⟩]

/-- A served session sets the quiet latch and is counted, where the host has power. -/
def sessionServed (s : State) : State :=
  drawFree (onlyIf (hostUp s) (hincW 0x6060) { s with tag := { s.tag with quiet := true, quietEnd := s.age + quietTime s } })

/-- The session's end in the tag itself. -/
def sessionOver (st : Nat) (s : State) : State :=
  tagTo st { s with tag := { s.tag with served := false, rt := none, sk := [], ctrIn := 0, ctrOut := 0 } }

theorem hrd_sessionOver (st : Nat) (s : State) {o : Nat} (h : o ≠ 0x6004) : hrd (sessionOver st s) o = hrd s o := by
  rw [sessionOver, hrd_tagTo _ _ h]
  rfl

/-- The session's end told to a host that has power. -/
def sessionTold (s : State) : State := onlyIf (hostUp s) (fun s => irq 16 (hsetB 0x6004 18 true s)) s

theorem sessionEnd_eq (st : Nat) (s : State) :
    sessionEnd st s = sessionTold (sessionOver st (if s.tag.served then sessionServed s else s)) := rfl

theorem sessionTold_tag (s : State) : (sessionTold s).tag = s.tag := by
  unfold sessionTold onlyIf
  split
  · exact irq_tag _ _
  · rfl

theorem sessionTold_reg (s : State) : (sessionTold s).reg = s.reg := by
  unfold sessionTold onlyIf
  split
  · exact irq_reg _ _
  · rfl

theorem hrd_sessionTold (s : State) {o : Nat} (status : o ≠ 0x6004) (vectors : o ≠ 0x4800) (sources : o ≠ 0x4D00) :
    hrd (sessionTold s) o = hrd s o := by
  unfold sessionTold onlyIf
  split
  · rw [hrd_irq_other 16 _ vectors sources, hrd_hsetB_other _ _ _ status]
  · rfl

theorem sessionServed_tag (s : State) : (sessionServed s).tag = { s.tag with quiet := true, quietEnd := s.age + quietTime s } := by
  unfold sessionServed onlyIf
  split <;> rfl

theorem sessionServed_reg (s : State) : (sessionServed s).reg = s.reg := by
  unfold sessionServed onlyIf
  split <;> rfl

theorem hrd_sessionServed (s : State) {o : Nat} (h : o ≠ 0x6060) : hrd (sessionServed s) o = hrd s o := by
  unfold sessionServed onlyIf
  split
  · exact (hrd_hwr_other _ _ h).trans rfl
  · rfl

theorem hrd_sessionServed_count {s : State} (up : hostUp s = true) : hrd (sessionServed s) 0x6060 = hrd s 0x6060 + 1 := by
  simp only [sessionServed, up, onlyIf, if_true]
  exact hrd_hwr_same _ _ _

theorem sessionOver_tag (st : Nat) (s : State) : (sessionOver st s).tag =
    { s.tag with served := false, rt := none, sk := [], ctrIn := 0, ctrOut := 0, st := st } := tagTo_tag _ _

/-- The tag after the end of a session. -/
theorem sessionEnd_tag (st : Nat) (s : State) : ∃ e, (sessionEnd st s).tag =
    { s.tag with served := false, rt := none, sk := [], ctrIn := 0, ctrOut := 0, st := st, quiet := s.tag.served || s.tag.quiet, quietEnd := e } := by
  rw [sessionEnd_eq, sessionTold_tag, sessionOver_tag]
  cases served : s.tag.served with
  | true =>
    rw [if_pos rfl, sessionServed_tag]
    exact ⟨s.age + quietTime s, rfl⟩
  | false => exact ⟨s.tag.quietEnd, rfl⟩

theorem sessionEnd_reg (st : Nat) (s : State) : (sessionEnd st s).reg = s.reg := by
  rw [sessionEnd_eq, sessionTold_reg, sessionOver, tagTo_reg]
  split
  · exact sessionServed_reg s
  · rfl

/-- The registers at the end of a session: TAG_STATUS, the interrupt and the count alone. -/
theorem hrd_sessionEnd (st : Nat) (s : State) {o : Nat} (status : o ≠ 0x6004) (vectors : o ≠ 0x4800) (sources : o ≠ 0x4D00) :
    hrd (sessionEnd st s) o = hrd (if s.tag.served then sessionServed s else s) o := by
  rw [sessionEnd_eq, hrd_sessionTold _ status vectors sources, hrd_sessionOver _ _ status]

theorem sessionEnd_counts (st : Nat) {s : State} (up : hostUp s = true) :
    hrd (sessionEnd st s) 0x6060 = (if s.tag.served then hrd s 0x6060 + 1 else hrd s 0x6060) ∧ hgetB (sessionEnd st s) 0x4D00 16 = true := by
  refine ⟨?_, ?_⟩
  · rw [hrd_sessionEnd st s (by decide) (by decide) (by decide)]
    cases s.tag.served with
    | true => exact hrd_sessionServed_count up
    | false => rfl
  · have power : hrd (if s.tag.served then sessionServed s else s) 0x1000 = hrd s 0x1000 := by
      split
      · exact hrd_sessionServed s (by decide)
      · rfl
    have still : hostUp (sessionOver st (if s.tag.served then sessionServed s else s)) = true :=
      (hostUp_congr ((hrd_sessionOver _ _ (by decide)).trans power)).trans up
    rw [sessionEnd_eq, sessionTold, still]
    exact hgetB_irq_same 16 _

/-! ### Writes of the host that a field's loss lets go (R471) -/

theorem heldStart_tag (s : State) : ∃ c h, (heldStart s).tag = { s.tag with copies := c, hostWrite := h, held := none } := by
  unfold heldStart
  split
  · exact ⟨_, _, rfl⟩
  · next none => exact ⟨s.tag.copies, s.tag.hostWrite, by rw [← none]⟩

theorem heldStart_reg (s : State) : (heldStart s).reg = s.reg := by
  unfold heldStart
  split <;> rfl

end Sys2Proof.Machine
end

section
/-! SUPPORT. The tag's states on the air (O46): a lemma per frame, from the states it is heard in (R459, R461, R462). -/

namespace Sys2Proof.Machine

/-! ### Frames that leave a state -/

theorem tagFallBack_other {s : State} (ready : s.tag.st ≠ 2) (active : s.tag.st ≠ 3) : tagFallBack s = s := by simp [tagFallBack, ready, active]

/-- The state that a frame which does not fit falls back to. -/
theorem tagFallBack_tag {s : State} (h : s.tag.st = 2 ∨ s.tag.st = 3) :
    (tagFallBack s).tag.st = (if s.tag.fromHalt then 4 else 1) ∧ (tagFallBack s).tag.sent = s.tag.sent := by
  rw [tagFallBack, if_pos h, tagTo_tag]
  exact ⟨rfl, rfl⟩

theorem sendAtqa_tag (fromHalt : Bool) (s : State) :
    (sendAtqa fromHalt s).tag = { s.tag with st := 2, fromHalt := fromHalt, sent := s.tag.sent ++ [[0x44, 0x00]] } := by
  rw [sendAtqa, tagSend_tag, tagTo_tag]

section
variable {s : State}

theorem reqa_idle (idle : s.tag.st = 1) (free : s.tag.quiet = false) : reqa s = sendAtqa false s := by simp [reqa, idle, free]

theorem reqa_quiet (idle : s.tag.st = 1) (quiet : s.tag.quiet = true) : reqa s = s := by simp [reqa, idle, quiet]

theorem reqa_other (h : s.tag.st ≠ 1) : reqa s = tagFallBack s := if_neg h

theorem wupa_free (h : s.tag.st = 1 ∨ s.tag.st = 4) (free : s.tag.quiet = false) : wupa s = sendAtqa (s.tag.st == 4) s := by simp [wupa, h, free]

theorem wupa_quiet (h : s.tag.st = 1 ∨ s.tag.st = 4) (quiet : s.tag.quiet = true) : wupa s = s := by simp [wupa, h, quiet]

theorem wupa_other (idle : s.tag.st ≠ 1) (halt : s.tag.st ≠ 4) : wupa s = tagFallBack s := if_neg (by omega)

theorem hlta_other (h : s.tag.st ≠ 3) : hlta s = tagFallBack s := if_neg h

theorem rats_other (h : s.tag.st ≠ 3) : rats s = tagFallBack s := if_pos h

theorem sDeselect_other (h : s.tag.st ≠ 5) : sDeselect s = tagFallBack s := if_neg h

theorem anticollisionSelect_other {u : BitVec 56} (h : ¬ (s.tag.st = 2 ∧ u = Config.tagUid)) : anticollisionSelect u s = tagFallBack s := if_neg h

theorem anticollisionSelect_own {u : BitVec 56} (ready : s.tag.st = 2) (own : u = Config.tagUid) :
    (anticollisionSelect u s).tag = { s.tag with st := 3, sent := s.tag.sent ++ [[0x04], [0x20]] } := by
  rw [anticollisionSelect, if_pos ⟨ready, own⟩, tagSend_tag, tagSend_tag, tagTo_tag]
  simp

/-- RATS in ACTIVE: a new session with the record as it stands. -/
theorem rats_active (active : s.tag.st = 3) : ∃ b sent, (rats s).tag =
    { s.tag with st := 5, cfg := tagRecord s, served := false, rt := none, sk := [], ctrIn := 0, ctrOut := 0, sent := sent, raised := b } := by
  rw [rats, if_neg (by simp [active])]
  obtain ⟨b, e⟩ := tagField_tag (tagSend [0x05, 0x78, 0x00, 0x81, 0x00]
    (tagTo 5 { s with tag := { s.tag with cfg := tagRecord s, served := false, rt := none, sk := [], ctrIn := 0, ctrOut := 0 } }))
  rw [tagSend_tag, tagTo_tag] at e
  exact ⟨b, _, e⟩

/-! ### The field (R461) -/

/-- The tag as a new field finds it. -/
def fieldFound (s : State) : State :=
  tagTo 1 { s with tag := { s.tag with
    cfg := tagRecord s, raised := s.tag.raised && decide (s.age < s.tag.fdLow), quiet := s.tag.quiet && decide (s.age < s.tag.quietDrop) } }

theorem fieldOn_off (off : s.tag.st = 0) : fieldOn s = tagField (fieldFound s) := if_neg (by simp [off])

theorem fieldFound_tag (s : State) : (fieldFound s).tag = { s.tag with
    st := 1, cfg := tagRecord s, raised := s.tag.raised && decide (s.age < s.tag.fdLow),
    quiet := s.tag.quiet && decide (s.age < s.tag.quietDrop) } := tagTo_tag _ _

theorem fieldFound_up (s : State) : hostUp (fieldFound s) = hostUp s := hostUp_congr ((hrd_tagTo _ _ (by decide)).trans rfl)

/-- The loss of the field before a held host write starts. -/
def fieldGone (s : State) : State :=
  let s := if s.tag.st = 5 then sessionEnd 0 s else tagTo 0 s
  drawFree { s with tag := { s.tag with
    fieldWrite := none, fieldWait := none, fromHalt := false, fdLow := s.age + tagMs
    quietDrop := s.age + 500 * tagMs + Config.freeDraw s.free % (150 * tagMs) + 1 } }

theorem fieldLost_on (on : s.tag.st ≠ 0) : fieldLost s = heldStart (fieldGone s) := if_neg on

theorem fieldGone_reg (s : State) : (fieldGone s).reg = s.reg := by
  unfold fieldGone
  simp only [drawFree_reg]
  split
  · exact sessionEnd_reg 0 s
  · exact tagTo_reg 0 s

/-- The tag after the loss of the field; a served session sets the latch. -/
theorem fieldGone_tag (s : State) : (fieldGone s).tag.st = 0 ∧ (fieldGone s).tag.fieldWrite = none ∧ (fieldGone s).tag.fieldWait = none ∧
    (s.tag.served = true → s.tag.st = 5 → (fieldGone s).tag.quiet = true) := by
  have ended : (if s.tag.st = 5 then sessionEnd 0 s else tagTo 0 s).tag.st = 0 ∧
      (s.tag.served = true → s.tag.st = 5 → (if s.tag.st = 5 then sessionEnd 0 s else tagTo 0 s).tag.quiet = true) := by
    by_cases session : s.tag.st = 5
    · obtain ⟨e, tag⟩ := sessionEnd_tag 0 s
      rw [if_pos session, tag]
      exact ⟨rfl, fun served _ => by simp [served]⟩
    · rw [if_neg session, tagTo_tag]
      exact ⟨rfl, fun _ h => absurd h session⟩
  unfold fieldGone
  generalize (if s.tag.st = 5 then sessionEnd 0 s else tagTo 0 s) = u at *
  exact ⟨ended.1, rfl, rfl, ended.2⟩

/-! ### The quiet latch (R462) -/

/-- The instant of the latch's end. -/
def quietOver (s : State) : Nat := if s.tag.st = 0 then min s.tag.quietEnd s.tag.quietDrop else s.tag.quietEnd

theorem reachAge_tag (x : Nat) (s : State) : (reachAge x s).tag = s.tag := by
  have := congrArg State.tag (clocks_only (x - s.age) s); exact this

/-- The latch over. -/
def quietCleared (s : State) : State := tagShow { s with tag := { s.tag with quiet := false } }

theorem quietExpiry_set (set : s.tag.quiet = true) : quietExpiry s = quietCleared (reachAge (quietOver s) s) := by
  simp [quietExpiry, set, quietCleared, quietOver]

theorem quietCleared_eq (s : State) : (quietCleared s).tag = { s.tag with quiet := false } ∧ hgetB (quietCleared s) 0x6004 4 = false ∧
    (∀ o, o ≠ 0x6004 → hrd (quietCleared s) o = hrd s o) ∧ (quietCleared s).age = s.age := by
  refine ⟨tagShow_tag _, tagShow_quiet _, fun o ho => (hrd_tagShow _ ho).trans rfl, ?_⟩
  obtain ⟨r, e⟩ := tagShow_eq { s with tag := { s.tag with quiet := false } }
  rw [quietCleared, e]

end

/-! ### The obligation -/

/-- A field met, by a tag that was off. -/
theorem fieldOn_new {s : State} (off : s.tag.st = 0) : Completes .fieldOn s fun t =>
    t.tag.st = 1 ∧ t.tag.cfg = tagRecord s ∧ t.tag.copies = s.tag.copies ∧ t.reg = s.reg ∧
      (hostPower s < 2 → s.tag.raised = false ∨ s.tag.fdLow ≤ s.age → hgetB t 0x4D00 15 = true ∧ hgetB t 0x6004 17 = true) := by
  obtain ⟨b, e⟩ := tagField_tag (fieldFound s)
  rw [fieldFound_tag] at e
  refine ⟨_, congrArg Host.Outcome.next (fieldOn_off off), by rw [e], by rw [e], by rw [e], (tagField_reg _).trans (tagTo_reg _ _), fun up fresh => ?_⟩
  refine tagField_raises ?_ ((fieldFound_up s).trans (decide_eq_true up))
  rw [fieldFound_tag]
  rcases fresh with cold | late
  · simp [cold]
  · simp [late]

theorem fieldLost_off {s : State} (on : s.tag.st ≠ 0) : Completes .fieldLost s fun t =>
    t.tag.st = 0 ∧ t.tag.fieldWrite = none ∧ t.tag.fieldWait = none ∧ t.tag.held = none ∧ t.reg = s.reg ∧
      (s.tag.served = true → s.tag.st = 5 → t.tag.quiet = true) := by
  obtain ⟨st, write, wait, quiet⟩ := fieldGone_tag s
  obtain ⟨c, h, e⟩ := heldStart_tag (fieldGone s)
  refine ⟨_, congrArg Host.Outcome.next (fieldLost_on on), ?_⟩
  beta_reduce
  rw [e]
  exact ⟨st, write, wait, rfl, (heldStart_reg _).trans (fieldGone_reg s), quiet⟩

/-- Settles O46. -/
theorem tagAirInterface : Obligations.TagAirInterface := by
  refine ⟨fun s => ⟨fun on => congrArg Host.Outcome.next (if_pos on), fieldOn_new⟩,
    fun s => ⟨fun off => congrArg Host.Outcome.next (if_pos off), fieldLost_off⟩, fun s => ?request, fun s fitting => ?fallBack, fun u s => ?select,
    fun s ready active => ?other, fun s session => ?deselect, fun s => ?latch⟩
  case request =>
    have still (h : s.tag.st ≠ 2 ∧ s.tag.st ≠ 3) : tagFallBack s = s := tagFallBack_other h.1 h.2
    refine ⟨fun quiet idle => ⟨congrArg Host.Outcome.next (reqa_quiet idle quiet), congrArg Host.Outcome.next (wupa_quiet (.inl idle) quiet)⟩,
      fun quiet halt => congrArg Host.Outcome.next (wupa_quiet (.inr halt) quiet),
      fun halt => congrArg Host.Outcome.next ((reqa_other (by omega)).trans (still (by omega))),
      fun away => ⟨congrArg Host.Outcome.next ((reqa_other (by omega)).trans (still (by omega))),
        congrArg Host.Outcome.next ((wupa_other (by omega) (by omega)).trans (still (by omega)))⟩,
      fun free idle => ⟨⟨_, congrArg Host.Outcome.next (reqa_idle idle free), ?_⟩, ⟨_, congrArg Host.Outcome.next (wupa_free (.inl idle) free), ?_⟩⟩,
      fun free halt => ⟨_, congrArg Host.Outcome.next (wupa_free (.inr halt) free), ?_⟩⟩
    · beta_reduce
      rw [sendAtqa_tag]
      exact ⟨rfl, rfl, rfl⟩
    · beta_reduce
      rw [sendAtqa_tag, idle]
      exact ⟨rfl, rfl, rfl⟩
    · beta_reduce
      rw [sendAtqa_tag, halt]
      exact ⟨rfl, rfl, rfl⟩
  case fallBack =>
    have back := tagFallBack_tag fitting
    refine ⟨⟨_, congrArg Host.Outcome.next (reqa_other (by omega)), back⟩, ⟨_, congrArg Host.Outcome.next (wupa_other (by omega) (by omega)), back⟩,
      ⟨_, rfl, back⟩, ⟨_, congrArg Host.Outcome.next (sDeselect_other (by omega)), back⟩,
      fun ready => ⟨⟨_, congrArg Host.Outcome.next (hlta_other (by omega)), back.1⟩, ⟨_, congrArg Host.Outcome.next (rats_other (by omega)), back.1⟩⟩,
      fun active => ⟨⟨_, congrArg Host.Outcome.next (if_pos active), ?_⟩, ⟨_, rfl, ?_⟩⟩⟩
    · beta_reduce
      rw [tagTo_tag]
      exact ⟨rfl, rfl⟩
    · obtain ⟨b, sent, e⟩ := rats_active active
      rw [e]
      exact ⟨rfl, rfl, rfl, rfl, rfl, rfl, rfl⟩
  case select =>
    refine ⟨fun ready own => ⟨_, rfl, ?_⟩, fun other => ⟨_, congrArg Host.Outcome.next (anticollisionSelect_other ?_), tagFallBack_tag (by omega)⟩,
      fun ready active => congrArg Host.Outcome.next ((anticollisionSelect_other fun h => ready h.1).trans (tagFallBack_other ready active))⟩
    · beta_reduce
      rw [anticollisionSelect_own ready own]
      exact ⟨rfl, rfl⟩
    · rintro ⟨ready, own⟩
      rcases other with active | ⟨-, foreign⟩
      · omega
      · exact foreign own
  case other =>
    have still := tagFallBack_other ready active
    exact ⟨congrArg Host.Outcome.next ((hlta_other active).trans still), congrArg Host.Outcome.next ((rats_other active).trans still),
      congrArg Host.Outcome.next still, fun session => congrArg Host.Outcome.next ((sDeselect_other session).trans still)⟩
  case deselect =>
    obtain ⟨e, tag⟩ := sessionEnd_tag 4 (tagSend [0xC2] s)
    refine ⟨_, congrArg Host.Outcome.next (if_pos session), ?_⟩
    beta_reduce
    rw [tag]
    refine ⟨rfl, rfl, rfl, rfl, rfl, rfl, rfl, rfl, (sessionEnd_reg _ _).trans rfl, fun up => ?_⟩
    exact sessionEnd_counts 4 (s := tagSend [0xC2] s) (decide_eq_true up)
  case latch =>
    refine ⟨fun clear => congrArg Host.Outcome.next (if_pos (by simp [clear])), fun set => ?_⟩
    obtain ⟨tag, shown, regs, age⟩ := quietCleared_eq (reachAge (quietOver s) s)
    rw [reachAge_tag] at tag
    refine ⟨_, congrArg Host.Outcome.next (quietExpiry_set set), tag, shown, fun o ho => (regs o ho).trans (hrd_reachAge _ _ _), ?_⟩
    rw [age, age_reachAge, quietOver]
    split <;> omega

end Sys2Proof.Machine
end

section
/-! SUPPORT. Tag commands (O47): how a command's INF is judged in a plain and in a secured session, and the authentication (R463-R469). -/

namespace Sys2Proof.Machine

/-! ### Answers -/

/-- The state after a command took the challenge of an AUTH_BEGIN from the session (R465). -/
def unchallenged (s : State) : State := { s with tag := { s.tag with rt := none } }

theorem tagPlain_refuses {status : Nat} (bs : List Byte) (s : State) (h : status ≠ 0) : tagPlain status bs s = tagSend (leBytes 1 status ++ bs) s := by
  rw [tagPlain, if_neg h]

theorem tagPlain_ok (bs : List Byte) (s : State) :
    (tagPlain 0 bs s).tag = { s.tag with served := true, sent := s.tag.sent ++ [leBytes 1 0 ++ bs] } := rfl

theorem tagAnswer_plain (status : Nat) (bs : List Byte) {s : State} (plain : s.tag.sk = []) : tagAnswer status bs s = tagPlain status bs s := by
  simp [tagAnswer, secured, plain]

/-- `t` is `s` with a status told in plain, and no challenge kept. -/
def toldStatus (status : Nat) (s t : State) : Prop :=
  t.tag = { s.tag with rt := none, sent := s.tag.sent ++ [leBytes 1 status] }

theorem toldStatus_plain {status : Nat} (s : State) (h : status ≠ 0) : toldStatus status s (tagPlain status [] (unchallenged s)) := by
  rw [tagPlain_refuses _ _ h, List.append_nil]
  rfl

theorem toldStatus_answer {status : Nat} {s : State} (plain : s.tag.sk = []) (h : status ≠ 0) :
    toldStatus status s (tagAnswer status [] (unchallenged s)) := by
  rw [tagAnswer_plain (s := unchallenged s) status [] plain]
  exact toldStatus_plain s h

/-- What a refusal in a session leaves. -/
theorem toldStatus.answers {status : Nat} {s t : State} (h : toldStatus status s t) (session : s.tag.st = 5) :
    decide (t.tag.sent = s.tag.sent ++ [leBytes 1 status] ∧ t.tag.rt = none ∧ t.tag.copies = s.tag.copies ∧ t.tag.st = 5) = true := by
  refine decide_eq_true ?_
  rw [h]
  exact ⟨rfl, rfl, rfl, session⟩

/-! ### A command's INF (R464) -/

section
variable {code n : Nat} {inf : List Byte} {body : State → State} {s : State}

theorem tagRun_empty : tagRun code n [] body s = tagAnswer 4 [] (unchallenged s) := rfl

theorem tagRun_unknown (some : inf ≠ []) (unknown : tagCodes.contains (leAt inf 0 1) = false) :
    tagRun code n inf body s = tagAnswer 11 [] (unchallenged s) := by
  have filled : inf.isEmpty = false := by simpa using some
  simp only [tagRun, filled, unknown, Bool.false_eq_true, if_false, Bool.not_false, if_true]
  rfl

theorem nonempty_of_code (known : tagCodes.contains code = true) (own : leAt inf 0 1 = code) : inf.isEmpty = false := by
  rcases inf with _ | ⟨b, bs⟩
  · rw [← own] at known
    exact absurd known (by decide)
  · rfl

section
variable (known : tagCodes.contains code = true) (own : leAt inf 0 1 = code)
include known own

theorem tagRun_length (wrong : inf.length ≠ n) : tagRun code n inf body s = tagAnswer 4 [] (unchallenged s) := by
  simp only [tagRun, nonempty_of_code known own, own, known, Bool.false_eq_true, if_false, Bool.not_true, ne_eq, not_true_eq_false, wrong,
    not_false_eq_true, if_true]
  rfl

theorem tagRun_runs (right : inf.length = n) : tagRun code n inf body s = body (unchallenged s) := by
  simp only [tagRun, nonempty_of_code known own, own, known, Bool.false_eq_true, if_false, Bool.not_true, ne_eq, not_true_eq_false, right]
  rfl

end

section
variable {body : List Byte → State → State} (session : s.tag.st = 5) (write : s.tag.fieldWrite = none) (wait : s.tag.fieldWait = none)

theorem tagCmd_away (h : s.tag.st ≠ 5 ∨ s.tag.fieldWrite.isSome = true ∨ s.tag.fieldWait.isSome = true) : tagCmd code n inf body s = s := if_pos h

theorem tagAuth_away (h : s.tag.st ≠ 5 ∨ s.tag.fieldWrite.isSome = true ∨ s.tag.fieldWait.isSome = true) : tagAuth s = false := by
  rcases h with st | w | w
  · simp [tagAuth, st]
  · simp [tagAuth, ← Option.not_isSome, w]
  · simp [tagAuth, ← Option.not_isSome, w]

include session write wait

theorem tagCmd_present : ¬ (s.tag.st ≠ 5 ∨ s.tag.fieldWrite.isSome = true ∨ s.tag.fieldWait.isSome = true) := by
  simp [session, write, wait]

theorem tagCmd_plain (plain : s.tag.sk = []) : tagCmd code n inf body s = tagRun code n inf (body inf) s := by
  rw [tagCmd, if_neg (tagCmd_present session write wait), if_pos (by simp [secured, plain])]

theorem tagAuth_session : tagAuth s = true := by simp [tagAuth, session, write, wait]

/-- The INF of a message of a secured session, where its MIC is right (R466). -/
def tagOpened (inf : List Byte) (s : State) : Option (List Nat) :=
  ccmOpen (natsOf s.tag.sk) (tagNonce s.tag.ctrIn 0) [] (natsOf (inf.take (inf.length - 8))) (natsOf (inf.drop (inf.length - 8)))

/-- The state that has taken a message of a secured session. -/
def messageTaken (s : State) : State := { s with tag := { s.tag with ctrIn := (s.tag.ctrIn + 1) % 2 ^ 32 } }

section
variable (keyed : s.tag.sk ≠ []) (long : 8 ≤ inf.length)
include keyed long

/-- A message whose MIC fails ends the session. -/
theorem tagCmd_forged (forged : tagOpened inf s = none) : tagCmd code n inf body s = tagAuthFail s := by
  rw [tagCmd, if_neg (tagCmd_present session write wait), if_neg (by simp [secured, keyed]), if_neg (by omega)]
  rw [tagOpened] at forged
  simp only [forged]

/-- A message of its own code runs. -/
theorem tagCmd_opened {p : List Nat} (opened : tagOpened inf s = some p) (own : leAt (bytesOf p) 0 1 = code) :
    tagCmd code n inf body s = tagRun code n (bytesOf p) (body (bytesOf p)) (messageTaken s) := by
  rw [tagCmd, if_neg (tagCmd_present session write wait), if_neg (by simp [secured, keyed]), if_neg (by omega)]
  rw [tagOpened] at opened
  simp only [opened, own, ne_eq, not_true_eq_false, and_false, if_false]
  rfl

end

end

end

/-! ### The end of a session that failed (R459) -/

theorem tagAuthFail_tag (s : State) : ∃ e, (tagAuthFail s).tag = { s.tag with
    served := false, rt := none, sk := [], ctrIn := 0, ctrOut := 0, st := 4, quiet := s.tag.served || s.tag.quiet, quietEnd := e,
    sent := s.tag.sent ++ [leBytes 1 1] } := by
  obtain ⟨e, tag⟩ := sessionEnd_tag 4 (tagPlain 1 [] s)
  rw [tagPlain_refuses [] s (by decide), List.append_nil] at tag
  rw [tagAuthFail, show sAuth = 1 from rfl, tagPlain_refuses [] s (by decide), List.append_nil, tag]
  exact ⟨e, rfl⟩

theorem tagAuthFail_ends (s : State) : (tagAuthFail s).tag.st = 4 ∧ (tagAuthFail s).tag.sk = [] ∧
    (tagAuthFail s).tag.sent = s.tag.sent ++ [leBytes 1 1] ∧ (tagAuthFail s).tag.copies = s.tag.copies := by
  obtain ⟨e, tag⟩ := tagAuthFail_tag s
  rw [tag]
  exact ⟨rfl, rfl, rfl, rfl⟩

theorem hrd_tagAuthFail (s : State) {o : Nat} (status : o ≠ 0x6004) (vectors : o ≠ 0x4800) (sources : o ≠ 0x4D00) (count : o ≠ 0x6060) :
    hrd (tagAuthFail s) o = hrd s o := by
  rw [tagAuthFail, hrd_sessionEnd 4 _ status vectors sources]
  split
  · rw [hrd_sessionServed _ count]
    rfl
  · rfl

/-! ### The commands in a plain session -/

section
variable {bs : List Byte} {s : State} (session : s.tag.st = 5) (write : s.tag.fieldWrite = none) (wait : s.tag.fieldWait = none)

section
variable (plain : s.tag.sk = [])
include plain

theorem unsecured_unchallenged : secured (unchallenged s) = false := by simp [secured, unchallenged, plain]

/-- An answer OK in plain. -/
theorem answeredOk_tag (bs : List Byte) : (tagAnswer 0 bs (unchallenged s)).tag =
    { s.tag with rt := none, served := true, sent := s.tag.sent ++ [leBytes 1 0 ++ bs] } := by
  rw [tagAnswer_plain (s := unchallenged s) 0 bs plain, tagPlain_ok]
  rfl

end

include session write wait

/-- A command of no known code, or of none, is refused in plain. -/
theorem getInfo_refused (plain : s.tag.sk = []) {status : Nat} (h : status ≠ 0)
    (judged : ∀ body, tagRun 0x01 1 bs body s = tagAnswer status [] (unchallenged s)) : toldStatus status s (getInfo bs s) := by
  rw [getInfo, tagCmd_plain session write wait plain, judged]
  exact toldStatus_answer plain h

theorem authBegin_refused (plain : s.tag.sk = []) {status : Nat} (h : status ≠ 0)
    (judged : ∀ body, tagRun 0x10 1 bs body s = tagAnswer status [] (unchallenged s)) : toldStatus status s (authBegin bs s) := by
  rw [authBegin, tagAuth_session session write wait, judged]
  exact toldStatus_answer plain h

theorem authFinish_refused (plain : s.tag.sk = []) {status : Nat} (h : status ≠ 0)
    (judged : ∀ body, tagRun 0x11 33 bs body s = tagAnswer status [] (unchallenged s)) : toldStatus status s (authFinish bs s) := by
  rw [authFinish, tagAuth_session session write wait]
  simp only [judged, Bool.not_true, Bool.false_eq_true, if_false]
  exact toldStatus_answer plain h

/-- GET_INFO in plain: the identity of an OPEN tag, of a SECURED one its UID. -/
theorem getInfo_runs (plain : s.tag.sk = []) (own : leAt bs 0 1 = 1) (right : bs.length = 1) : (getInfo bs s).tag = { s.tag with
    rt := none, served := true,
    sent := s.tag.sent ++ [leBytes 1 0 ++ if tagSecured s then leBytes 1 1 ++ leBytes 7 Config.tagUid.toNat else tagIdentity s] } := by
  rw [getInfo, tagCmd_plain session write wait plain, tagRun_runs (by decide) own right, unsecured_unchallenged plain]
  have same : tagSecured (unchallenged s) = tagSecured s := rfl
  cases closed : tagSecured s with
  | true =>
    rw [if_pos ⟨rfl, same.trans closed⟩]
    exact answeredOk_tag plain _
  | false =>
    rw [if_neg (by simp [same, closed])]
    exact answeredOk_tag plain _

/-- READ_PAGE in plain (R464). -/
theorem readPage_length (plain : s.tag.sk = []) (own : leAt bs 0 1 = 0x20) (wrong : bs.length ≠ 2) : toldStatus 4 s (readPage bs s) := by
  rw [readPage, tagCmd_plain session write wait plain, tagRun_length (by decide) own wrong]
  exact toldStatus_answer plain (by decide)

theorem readPage_runs (plain : s.tag.sk = []) (own : leAt bs 0 1 = 0x20) (right : bs.length = 2) : readPage bs s =
    if 63 < leAt bs 1 1 then tagAnswer 12 [] (unchallenged s)
    else if tagSecured s = true ∨ fread s (leAt bs 1 1) = true then tagAnswer 17 [] (unchallenged s)
    else tagAnswer 0 (leBytes 4 (pageSeq s (leAt bs 1 1)) ++ pageData s (leAt bs 1 1)) (unchallenged s) := by
  rw [readPage, tagCmd_plain session write wait plain, tagRun_runs (by decide) own right]
  simp only [unsecured_unchallenged plain, Bool.not_false, true_and]
  rfl

theorem writePage_runs (plain : s.tag.sk = []) (own : leAt bs 0 1 = 0x21) (right : bs.length = 130) :
    toldStatus (if 63 < leAt bs 1 1 then 12 else 17) s (writePage bs s) := by
  rw [writePage, tagCmd_plain session write wait plain, tagRun_runs (by decide) own right]
  simp only [unsecured_unchallenged plain, Bool.not_false, if_true]
  split
  · exact toldStatus_answer plain (by decide)
  · exact toldStatus_answer plain (by decide)

theorem setConfig_runs (plain : s.tag.sk = []) (own : leAt bs 0 1 = 0x30) (right : bs.length = 3) :
    toldStatus (if 1 < leAt bs 1 1 ∨ leAt bs 2 1 < 2 ∨ 20 < leAt bs 2 1 then 12 else 17) s (setConfig bs s) := by
  rw [setConfig, tagCmd_plain session write wait plain, tagRun_runs (by decide) own right]
  simp only [unsecured_unchallenged plain, Bool.not_false, if_true]
  split
  · exact toldStatus_answer plain (by decide)
  · exact toldStatus_answer plain (by decide)

/-! ### Authentication (R465) -/

theorem authBegin_runs (plain : s.tag.sk = []) (own : leAt bs 0 1 = 0x10) (right : bs.length = 1) : ∃ ek,
    authBegin bs s = tagPlain 0 ek (drawFree { s with tag := { s.tag with rt := some (leBytes 16 (Config.freeBytes s.free).toNat) } }) := by
  rw [authBegin, tagAuth_session session write wait]
  simp only [Bool.not_true, Bool.false_eq_true, if_false, tagRun_runs (show tagCodes.contains 0x10 = true by decide) own right,
    unsecured_unchallenged plain]
  exact ⟨_, rfl⟩

/-- The session key that both sides reach. -/
def sessionKey (bs : List Byte) (rt : List Byte) (s : State) : List Byte :=
  let ks := roundKeys (natsOf (tagKey s))
  bytesOf (aesEnc ks ((aesDec ks ((natsOf (bs.drop 1)).take 16)).take 8 ++ (natsOf rt).take 8))

/-- The session secured with its key. -/
def keyTaken (key : List Byte) (s : State) : State := { s with tag := { s.tag with sk := key, ctrIn := 0, ctrOut := 0 } }

/-- The reader's answer to the challenge is right. -/
def challengeMet (bs : List Byte) (rt : List Byte) (s : State) : Prop :=
  let ks := roundKeys (natsOf (tagKey s))
  let c := natsOf (bs.drop 1)
  xorL (aesDec ks (c.drop 16)) (c.take 16) = rotByte (natsOf rt)

theorem authFinish_unasked (plain : s.tag.sk = []) (own : leAt bs 0 1 = 0x11) (right : bs.length = 33) (none : s.tag.rt = none) :
    toldStatus 22 s (authFinish bs s) := by
  rw [authFinish, tagAuth_session session write wait]
  simp only [Bool.not_true, Bool.false_eq_true, if_false, tagRun_runs (show tagCodes.contains 0x11 = true by decide) own right,
    unsecured_unchallenged plain, none]
  exact toldStatus_plain s (by decide)

theorem authFinish_wrong (plain : s.tag.sk = []) (own : leAt bs 0 1 = 0x11) (right : bs.length = 33) {rt : List Byte} (asked : s.tag.rt = some rt)
    (wrong : ¬ challengeMet bs rt s) :
    authFinish bs s = tagAuthFail (onlyIf (hostUp (unchallenged s)) (hincW 0x6064) (unchallenged s)) := by
  rw [authFinish, tagAuth_session session write wait]
  simp only [Bool.not_true, Bool.false_eq_true, if_false, tagRun_runs (show tagCodes.contains 0x11 = true by decide) own right,
    unsecured_unchallenged plain, asked]
  exact if_pos wrong

theorem authFinish_right (plain : s.tag.sk = []) (own : leAt bs 0 1 = 0x11) (right : bs.length = 33) {rt : List Byte} (asked : s.tag.rt = some rt)
    (met : challengeMet bs rt s) : (authFinish bs s).tag = { s.tag with
      rt := none, served := true, sk := sessionKey bs rt s, ctrIn := 0, ctrOut := 0,
      sent := s.tag.sent ++ [leBytes 1 0 ++ bytesOf (aesEnc (roundKeys (natsOf (tagKey s)))
        (rotByte (aesDec (roundKeys (natsOf (tagKey s))) ((natsOf (bs.drop 1)).take 16))))] } := by
  have row : authFinish bs s = tagShow (keyTaken (sessionKey bs rt s) (tagPlain 0 (bytesOf (aesEnc (roundKeys (natsOf (tagKey s)))
      (rotByte (aesDec (roundKeys (natsOf (tagKey s))) ((natsOf (bs.drop 1)).take 16))))) (unchallenged s))) := by
    rw [authFinish, tagAuth_session session write wait]
    simp only [Bool.not_true, Bool.false_eq_true, if_false, tagRun_runs (show tagCodes.contains 0x11 = true by decide) own right,
      unsecured_unchallenged plain, asked]
    exact if_neg (not_not.mpr met)
  rw [row, tagShow_tag]
  rfl

/-! ### A secured session (R466) -/

omit session write wait in
theorem secured_taken (keyed : s.tag.sk ≠ []) : secured (unchallenged (messageTaken s)) = true := by
  simp [secured, unchallenged, messageTaken, keyed]

omit session write wait in
/-- A field write begins where no host write runs. -/
theorem fieldStart_begins (hostIdle : s.tag.hostWrite = none) (w : TagWrite) : ∃ c, (fieldStart w (unchallenged (messageTaken s))).tag = { s.tag with
    rt := none, ctrIn := (s.tag.ctrIn + 1) % 2 ^ 32, copies := c, fieldWait := none,
    fieldWrite := some { w with asked := s.age, since := s.age } } := by
  have idle : (unchallenged (messageTaken s)).tag.hostWrite = none := hostIdle
  unfold fieldStart
  simp only [idle]
  exact ⟨_, rfl⟩

section
variable (keyed : s.tag.sk ≠ []) (long : 8 ≤ bs.length)
include keyed long

theorem writePage_begins {p : List Nat} (opened : tagOpened bs s = some p) (own : leAt (bytesOf p) 0 1 = 0x21) (right : (bytesOf p).length = 130)
    (within : leAt (bytesOf p) 1 1 ≤ 63) (allowed : fwrite s (leAt (bytesOf p) 1 1) = true) :
    writePage bs s = fieldStart { cmd := 1, page := leAt (bytesOf p) 1 1, data := (bytesOf p).drop 2 } (unchallenged (messageTaken s)) := by
  have permits : fwrite (unchallenged (messageTaken s)) (leAt (bytesOf p) 1 1) = true := allowed
  rw [writePage, tagCmd_opened session write wait keyed long opened own, tagRun_runs (by decide) own right]
  simp only [secured_taken keyed, permits, show ¬ 63 < leAt (bytesOf p) 1 1 by omega, if_false, Bool.not_true, Bool.false_eq_true]

theorem setConfig_begins {p : List Nat} (opened : tagOpened bs s = some p) (own : leAt (bytesOf p) 0 1 = 0x30) (right : (bytesOf p).length = 3)
    (inRange : ¬ (1 < leAt (bytesOf p) 1 1 ∨ leAt (bytesOf p) 2 1 < 2 ∨ 20 < leAt (bytesOf p) 2 1)) :
    setConfig bs s = fieldStart { cmd := 3, page := 64, data := (bytesOf p).drop 1 } (unchallenged (messageTaken s)) := by
  rw [setConfig, tagCmd_opened session write wait keyed long opened own, tagRun_runs (by decide) own right]
  simp only [secured_taken keyed, inRange, if_false, Bool.not_true, Bool.false_eq_true]
  rfl

end

end

/-! ### The obligation -/

/-- Settles O47. -/
theorem tagCommands : Obligations.TagCommands := by
  refine ⟨fun bs s away => ?away, fun bs s session write wait plain => ?reads, fun bs s session write wait plain => ?writes,
    fun bs s session write wait plain own right asked => ?wrong, fun bs s session write wait plain own right asked => ?right,
    fun bs s session write wait hostIdle keyed long => ?secured⟩
  case away =>
    have absent := tagAuth_away away
    exact ⟨congrArg Host.Outcome.next (tagCmd_away away), congrArg Host.Outcome.next (tagCmd_away away), congrArg Host.Outcome.next (tagCmd_away away),
      congrArg Host.Outcome.next (tagCmd_away away), congrArg Host.Outcome.next (if_pos (by simp [absent])),
      congrArg Host.Outcome.next (if_pos (by simp [absent]))⟩
  case reads =>
    intro answers
    have identified := getInfo_runs (bs := bs) session write wait plain
    have read := readPage_runs (bs := bs) session write wait plain
    refine ⟨fun none => ?_, fun some unknown => ?_, fun own right open_ => ⟨_, rfl, ?_⟩, fun own right closed => ⟨_, rfl, ?_⟩,
      fun own wrong => ⟨_, rfl, (readPage_length session write wait plain own wrong).answers session⟩, fun own right beyond => ⟨_, rfl, ?_⟩,
      fun own right within closed => ⟨_, rfl, ?_⟩, fun own right within open_ free => ⟨_, rfl, ?_⟩⟩
    · subst none
      exact ⟨⟨_, rfl, (getInfo_refused session write wait plain (by decide) fun _ => tagRun_empty).answers session⟩,
        ⟨_, rfl, (authBegin_refused session write wait plain (by decide) fun _ => tagRun_empty).answers session⟩⟩
    · exact ⟨⟨_, rfl, (getInfo_refused session write wait plain (by decide) fun _ => tagRun_unknown some unknown).answers session⟩,
        ⟨_, rfl, (authFinish_refused session write wait plain (by decide) fun _ => tagRun_unknown some unknown).answers session⟩⟩
    · beta_reduce
      rw [identified own right, open_]
      exact ⟨rfl, rfl⟩
    · beta_reduce
      rw [identified own right, closed, List.append_assoc]
      rfl
    · rw [read own right, if_pos beyond]
      exact (toldStatus_answer plain (by decide)).answers session
    · rw [read own right, if_neg (by omega), if_pos closed]
      exact (toldStatus_answer plain (by decide)).answers session
    · beta_reduce
      rw [read own right, if_neg (by omega), if_neg (by simp [open_, free]), answeredOk_tag plain]
      exact ⟨rfl, rfl, rfl⟩
  case writes =>
    intro answers
    refine ⟨fun own right => ⟨_, rfl, (writePage_runs session write wait plain own right).answers session⟩,
      fun own right => ⟨_, rfl, (setConfig_runs session write wait plain own right).answers session⟩, fun own right => ?_,
      fun own right none => ⟨_, rfl, (authFinish_unasked session write wait plain own right none).answers session⟩⟩
    obtain ⟨ek, row⟩ := authBegin_runs session write wait plain own right
    refine ⟨_, congrArg Host.Outcome.next row, ?_⟩
    exact ⟨rfl, session, plain, rfl, rfl, rfl⟩
  case wrong =>
    obtain ⟨rt, asked⟩ := Option.isSome_iff_exists.mp asked
    rw [asked, Option.getD_some]
    intro ks c wrong
    have fails := authFinish_wrong session write wait plain own right asked wrong
    obtain ⟨st, sk, sent, -⟩ := tagAuthFail_ends (onlyIf (hostUp (unchallenged s)) (hincW 0x6064) (unchallenged s))
    have same : (onlyIf (hostUp (unchallenged s)) (hincW 0x6064) (unchallenged s)).tag.sent = s.tag.sent := by
      unfold onlyIf
      split <;> rfl
    refine ⟨_, congrArg Host.Outcome.next fails, st, sk, sent.trans (by rw [same]), fun up => ?_⟩
    have power : hostUp (unchallenged s) = true := decide_eq_true up
    rw [hrd_tagAuthFail _ (by decide) (by decide) (by decide) (by decide), power]
    exact hrd_hwr_same _ _ _
  case right =>
    obtain ⟨rt, asked⟩ := Option.isSome_iff_exists.mp asked
    rw [asked, Option.getD_some]
    intro ks c rt' met
    refine ⟨_, rfl, ?_⟩
    beta_reduce
    rw [authFinish_right session write wait plain own right asked met]
    exact ⟨session, rfl, rfl, rfl, rfl, rfl⟩
  case secured =>
    intro p q
    have forged {code n : Nat} {body : List Byte → State → State} (h : p = none) := tagCmd_forged (code := code) (n := n) (body := body) session write wait keyed long h
    obtain ⟨st, sk, sent, copies⟩ := tagAuthFail_ends s
    refine ⟨⟨_, rfl, fun none => ?_, fun opened own right within allowed => ?_⟩, ⟨_, rfl, fun none => ?_⟩, ⟨_, rfl, fun opened own right access low high => ?_⟩⟩
    · rw [show writePage bs s = tagAuthFail s from forged none]
      exact ⟨st, sk, sent, copies⟩
    · obtain ⟨x, opened⟩ := Option.isSome_iff_exists.mp opened
      have inner : q = bytesOf x := by rw [show q = bytesOf (p.getD []) from rfl, opened, Option.getD_some]
      rw [inner] at own right within allowed ⊢
      obtain ⟨c, begun⟩ := fieldStart_begins hostIdle { cmd := 1, page := leAt (bytesOf x) 1 1, data := (bytesOf x).drop 2 }
      rw [writePage_begins session write wait keyed long opened own right within allowed, begun]
      exact ⟨rfl, rfl, rfl, session⟩
    · rw [show readPage bs s = tagAuthFail s from forged none]
      exact ⟨st, sk, sent⟩
    · obtain ⟨x, opened⟩ := Option.isSome_iff_exists.mp opened
      have inner : q = bytesOf x := by rw [show q = bytesOf (p.getD []) from rfl, opened, Option.getD_some]
      rw [inner] at own right access low high ⊢
      obtain ⟨c, begun⟩ := fieldStart_begins hostIdle { cmd := 3, page := 64, data := (bytesOf x).drop 1 }
      rw [setConfig_begins session write wait keyed long opened own right (by omega), begun]
      exact ⟨rfl, rfl, rfl⟩

end Sys2Proof.Machine
end

section
/-! SUPPORT. Request windows (O34): the window states, the writes and doorbells, and the Tender's copy check by check (R317, R318, R339-R342). -/

namespace Sys2Proof.Machine

/-! ### Bytes written -/

theorem tabGet_writeBytes_within (d : Nat → Byte) (bs : List Byte) : ∀ (t : Tab Byte) (a : Nat) {k : Nat}, k < bs.length →
    tabGet d (tabWriteBytes d t a bs) (a + k) = bs.getD k 0 := by
  induction bs with
  | nil => exact fun _ _ _ h => absurd h (Nat.not_lt_zero _)
  | cons b bs ih =>
    intro t a k h
    rw [tabWriteBytes]
    cases k with
    | zero => rw [tabGet_writeBytes_other _ _ _ _ _ (by omega), Nat.add_zero, tabGet_set_same]; rfl
    | succ k => rw [show a + (k + 1) = a + 1 + k by omega, ih _ _ (by simpa using h)]; rfl

/-! ### Window states (R317) -/

theorem winState_congr {s t : State} (h : hrd t 0x3004 = hrd s 0x3004) (w : Nat) : winState t w = winState s w := hgetF_eq_of_hrd h _ _

theorem winState_set_same {w : Nat} (h : w < 16) (v : Nat) (s : State) : winState (setWinState w v s) w = v % 4 := by
  rw [winState, setWinState, hgetF_hsetF_same _ _ _ (by omega), show 2 * w + 1 + 1 - 2 * w = 2 by omega]
  rfl

theorem winState_set_other {w x : Nat} (h : x < 16) (v : Nat) (s : State) (apart : x ≠ w) : winState (setWinState w v s) x = winState s x :=
  hgetF_hsetF_other _ _ (by omega) (.inr (by omega))

theorem hrd_setWinState (w v : Nat) (s : State) {o : Nat} (h : o ≠ 0x3004) : hrd (setWinState w v s) o = hrd s o := hrd_hwr_other _ _ h

/-- A doorbell or a write refused: its bit, the window and its source (R318, R322). -/
theorem refuseWin_shown {bit w : Nat} (small : bit < 4) (win : w < 16) (s : State) :
    hrd (refuseWin bit w s) 0x3004 = hrd s 0x3004 ∧ hgetB (refuseWin bit w s) 0x3008 bit = true ∧ hgetF (refuseWin bit w s) 0x3008 7 4 = w ∧
      hgetB (refuseWin bit w s) 0x4D00 8 = true ∧ (refuseWin bit w s).reqMem = s.reqMem := by
  have kept {o : Nat} (vectors : o ≠ 0x4800) (sources : o ≠ 0x4D00) := hrd_irq_other 8 (hsetF 0x3008 7 4 w (hsetB 0x3008 bit true s)) vectors sources
  refine ⟨?_, ?_, ?_, hgetB_irq_same 8 _, irq_keeps State.reqMem (fun _ _ _ => rfl) 8 _⟩
  · rw [refuseWin, kept (by decide) (by decide), hsetF, hrd_hwr_other _ _ (by decide), hrd_hsetB_other _ _ _ (by decide)]
  · rw [refuseWin, hgetB_eq_of_hrd (kept (by decide) (by decide)), hgetB_hsetF _ _ (by omega) (.inr (.inl small)),
      hgetB_hsetB _ _ _ _ _ (by omega), if_pos ⟨rfl, rfl⟩]
  · rw [refuseWin, hgetF_eq_of_hrd (kept (by decide) (by decide)), hgetF_hsetF_same _ _ _ (by decide)]
    omega

/-! ### The copy (R317, R339-R342) -/

/-- A critical request's counter taken; any other leaves the state. -/
def counterTaken (p : Posted) (s : State) : State := if p.critical then takeCounter p.counter s else s

/-- The copy of a POSTED window, check by check. -/
theorem tenderCopy_eq {w : Fin 16} {s : State} (posted : winState s w.val = 1) (free : s.linkH.xoff.testBit 0 = false)
    (runs : s.boot.mode = 1 ∨ s.boot.mode = 2) : tenderCopy w s =
      let p := postedIn s w.val
      let u := setWinState w.val 0 s
      if formCheck s p ≠ 0 then refuseReq p (formCheck s p) u
      else if authCheck s p ≠ 0 then refuseReq p (authCheck s p) u
      else if p.critical && counterFails s p.counter then refuseReq p 24 u
      else if lateCheck (counterTaken p u) p ≠ 0 then refuseReq p (lateCheck (counterTaken p u) p) (counterTaken p u)
      else passOn p (counterTaken p u) := by
  rw [tenderCopy, if_neg (by simp only [posted, free]; rintro (h | h | h) <;> simp_all)]
  rfl

theorem takeCounter_only (c : Nat) (s : State) : ∃ b, takeCounter c s =
    { s with settings := b, tender := { s.tender with last := c, persisted := (takeCounter c s).tender.persisted } } := by
  unfold takeCounter corePut setBank
  simp only
  split
  · exact ⟨_, rfl⟩
  · exact ⟨s.settings, rfl⟩

theorem counterTaken_only (p : Posted) (s : State) : ∃ b n, counterTaken p s =
    { s with settings := b, tender := { s.tender with last := if p.critical then p.counter else s.tender.last, persisted := n } } := by
  unfold counterTaken
  cases p.critical with
  | true =>
    obtain ⟨b, e⟩ := takeCounter_only p.counter s
    exact ⟨b, _, e⟩
  | false => exact ⟨s.settings, s.tender.persisted, rfl⟩

theorem lateCheck_counterTaken (p q : Posted) (s : State) : lateCheck (counterTaken p s) q = lateCheck s q := by
  obtain ⟨b, n, e⟩ := counterTaken_only p s
  rw [e]
  rfl

theorem lateCheck_setWinState (w v : Nat) (s : State) (p : Posted) : lateCheck (setWinState w v s) p = lateCheck s p := by
  have power : hgetF (setWinState w v s) 0x1000 5 4 = hgetF s 0x1000 5 4 := hgetF_eq_of_hrd (hrd_setWinState w v s (by decide)) 5 4
  have up : upH (setWinState w v s) = upH s := by
    rw [upH, hgetF_eq_of_hrd (hrd_setWinState w v s (by decide)), ← upH]
  have served : tenderPower (setWinState w v s) p.opcode = tenderPower s p.opcode := by rw [tenderPower, power, up, ← tenderPower]
  rw [lateCheck, served, power, up]
  rfl

/-- A request refused by a check: its answer enters the ANSWER class, and nothing else of the Tender changes. -/
theorem refuseReq_refused (p : Posted) (status : Nat) (s : State) :
    (refuseReq p status s).tender.hold0 = s.tender.hold0 ++ [leBytes 1 p.win ++ leBytes 3 0 ++ eskelHeader p.opcode 1 (p.f 3 1) p.tag 0 p.counter status] ∧
      (refuseReq p status s).tender.tags = s.tender.tags ∧ (refuseReq p status s).tender.reqs = s.tender.reqs ∧
      (refuseReq p status s).tender.last = s.tender.last ∧ (refuseReq p status s).linkH.q = s.linkH.q ∧ (refuseReq p status s).reqMem = s.reqMem ∧
      hrd (refuseReq p status s) 0x3004 = hrd s 0x3004 := by
  have regs := sameButHeld_toHost 0 (leBytes 1 p.win ++ leBytes 3 0 ++ eskelHeader p.opcode 1 (p.f 3 1) p.tag 0 p.counter status) s 0x3004
    (by decide) (by decide) (by decide)
  obtain ⟨r, q, x, e⟩ := toHost_eq 0 (leBytes 1 p.win ++ leBytes 3 0 ++ eskelHeader p.opcode 1 (p.f 3 1) p.tag 0 p.counter status) s
  refine ⟨?_, ?_, ?_, ?_, ?_, ?_, regs⟩
  all_goals simp only [refuseReq, e, setHold, holdOf]

/-- A refusal before the counter is taken. -/
theorem refusedAt_check (w : Fin 16) (status : Nat) (s : State) :
    requestRefused w.val status s (refuseReq (postedIn s w.val) status (setWinState w.val 0 s)) ∧
      (refuseReq (postedIn s w.val) status (setWinState w.val 0 s)).tender.last = s.tender.last := by
  obtain ⟨hold, tags, reqs, last, q, mem, win⟩ := refuseReq_refused (postedIn s w.val) status (setWinState w.val 0 s)
  exact ⟨⟨(winState_congr win _).trans (winState_set_same w.isLt 0 s), hold, tags, reqs, q, mem⟩, last⟩

/-- A refusal once the counter is taken. -/
theorem refusedAt_tag (w : Fin 16) (status : Nat) (s : State) :
    let t := refuseReq (postedIn s w.val) status (counterTaken (postedIn s w.val) (setWinState w.val 0 s))
    requestRefused w.val status s t ∧ t.tender.last = if (postedIn s w.val).critical then (postedIn s w.val).counter else s.tender.last := by
  obtain ⟨b, n, e⟩ := counterTaken_only (postedIn s w.val) (setWinState w.val 0 s)
  rw [e]
  obtain ⟨hold, tags, reqs, last, q, mem, win⟩ := refuseReq_refused (postedIn s w.val) status { setWinState w.val 0 s with
    settings := b, tender := { (setWinState w.val 0 s).tender with
      last := if (postedIn s w.val).critical then (postedIn s w.val).counter else (setWinState w.val 0 s).tender.last, persisted := n } }
  exact ⟨⟨(winState_congr win _).trans (winState_set_same w.isLt 0 s), hold, tags, reqs, q, mem⟩, last⟩

/-- A message to the radio die enters the queue of the host end. -/
theorem sendH_queue (typ : Nat) (payload : List Byte) (s : State) :
    (sendH typ payload s).linkH.q = s.linkH.q ++ [(typ, payload)] ∧ (sendH typ payload s).tender = s.tender ∧
      (∀ o, o ≠ 0x2004 → hrd (sendH typ payload s) o = hrd s o) := by
  refine ⟨?_, rfl, fun o ho => (hrd_hwr_other _ _ ho).trans rfl⟩
  change ((s.linkH.push typ s.age payload).pump (upH s)).q = _
  rw [LinkEnd.pump]
  split <;> rfl

/-- What a request that passed leaves of its tag. -/
def taken (p : Posted) (s : State) : State := { s with tender := { s.tender with tags := s.tender.tags ++
  [{ tag := p.tag, opcode := p.opcode, target := p.f 3 1, counter := p.counter, win := p.win, pend := false, radio := !hostCodes.contains p.opcode }] } }

theorem passOn_here {p : Posted} {s : State} (here : (hostCodes.contains p.opcode || tenderPower s p.opcode || p.opcode == 0x8B01) = true) :
    passOn p s = { taken p s with tender := { (taken p s).tender with reqs := s.tender.reqs ++ [(p.win, p.bytes.take (16 + p.len))] } } := if_pos here

theorem passOn_forwards {p : Posted} {s : State} (there : (hostCodes.contains p.opcode || tenderPower s p.opcode || p.opcode == 0x8B01) = false) :
    passOn p s = sendH 2 (leBytes 1 p.win ++ leBytes 3 0 ++ p.bytes.take (16 + p.len)) (taken p s) := if_neg (by rw [there]; decide)

theorem passOn_passed (p : Posted) (s : State) : hrd (passOn p s) 0x3004 = hrd s 0x3004 ∧ (passOn p s).tender.hold0 = s.tender.hold0 ∧
    (passOn p s).tender.last = s.tender.last ∧
    (passOn p s).tender.tags.map (fun g => (g.tag, g.opcode, g.win, g.pend)) =
      s.tender.tags.map (fun g => (g.tag, g.opcode, g.win, g.pend)) ++ [(p.tag, p.opcode, p.win, false)] ∧
    (hostCodes.contains p.opcode = true → (passOn p s).tender.reqs = s.tender.reqs ++ [(p.win, p.bytes.take (16 + p.len))] ∧
      (passOn p s).linkH.q = s.linkH.q) ∧
    (hostCodes.contains p.opcode = false → p.opcode ≠ 0x8A01 → p.opcode ≠ 0x8B01 → (passOn p s).tender.reqs = s.tender.reqs ∧
      (passOn p s).linkH.q = s.linkH.q ++ [(2, leBytes 1 p.win ++ leBytes 3 0 ++ p.bytes.take (16 + p.len))]) := by
  have tags : (taken p s).tender.tags.map (fun g => (g.tag, g.opcode, g.win, g.pend)) =
      s.tender.tags.map (fun g => (g.tag, g.opcode, g.win, g.pend)) ++ [(p.tag, p.opcode, p.win, false)] := by simp [taken]
  cases here : (hostCodes.contains p.opcode || tenderPower s p.opcode || p.opcode == 0x8B01) with
  | true =>
    rw [passOn_here here]
    refine ⟨rfl, rfl, rfl, tags, fun _ => ⟨rfl, rfl⟩, fun radio power key => absurd here ?_⟩
    rw [radio, show tenderPower s p.opcode = false by simp [tenderPower, power], show (p.opcode == 0x8B01) = false by simp [key]]
    decide
  | false =>
    obtain ⟨q, tender, regs⟩ := sendH_queue 2 (leBytes 1 p.win ++ leBytes 3 0 ++ p.bytes.take (16 + p.len)) (taken p s)
    rw [passOn_forwards here, tender]
    exact ⟨(regs _ (by decide)).trans rfl, rfl, rfl, tags, fun host => absurd here (by rw [host]; simp), fun _ _ _ => ⟨rfl, q⟩⟩

/-! ### The obligation -/

theorem accAddr_lt (z : AccSize) (o : Nat) (h : o < 65536) : accAddr z o < 65536 := by
  cases z <;> simp only [accAddr] <;> omega

section
variable {w : Fin 16} {s : State} (posted : winState s w.val = 1) (free : s.linkH.xoff.testBit 0 = false) (runs : s.boot.mode = 1 ∨ s.boot.mode = 2)
include posted free runs

/-- A malformed, overlong or unknown request (checks 1 to 3). -/
theorem tenderCopy_malformed {status : Nat} (form : formCheck s (postedIn s w.val) = status) (bad : status ≠ 0) :
    Completes (.tenderCopy w) s fun t => requestRefused w.val status s t ∧ t.tender.last = s.tender.last := by
  refine ⟨_, congrArg Host.Outcome.next ((tenderCopy_eq posted free runs).trans (if_pos (by rw [form]; exact bad))), ?_⟩
  rw [form]
  exact refusedAt_check w status s

variable (form : formCheck s (postedIn s w.val) = 0)
include form

/-- A critical request that fails its authentication (checks 4 and 5). -/
theorem tenderCopy_unauthentic {status : Nat} (auth : authCheck s (postedIn s w.val) = status) (bad : status ≠ 0) :
    Completes (.tenderCopy w) s fun t => requestRefused w.val status s t ∧ t.tender.last = s.tender.last := by
  refine ⟨_, congrArg Host.Outcome.next ((tenderCopy_eq posted free runs).trans ((if_neg (by simp [form])).trans (if_pos (by rw [auth]; exact bad)))), ?_⟩
  rw [auth]
  exact refusedAt_check w status s

variable (auth : authCheck s (postedIn s w.val) = 0)
include auth

/-- A counter that cannot be persisted (R340). -/
theorem tenderCopy_unpersisted (critical : (postedIn s w.val).critical = true) (fails : counterFails s (postedIn s w.val).counter = true) :
    Completes (.tenderCopy w) s fun t => requestRefused w.val 24 s t ∧ t.tender.last = s.tender.last := by
  refine ⟨_, congrArg Host.Outcome.next ((tenderCopy_eq posted free runs).trans ((if_neg (by simp [form])).trans ((if_neg (by simp [auth])).trans
    (if_pos (by rw [critical, fails]; rfl))))), ?_⟩
  exact refusedAt_check w 24 s

variable (counts : (postedIn s w.val).critical = true → counterFails s (postedIn s w.val).counter = false)
include counts

theorem tenderCopy_counted : tenderCopy w s =
    if lateCheck s (postedIn s w.val) ≠ 0 then
      refuseReq (postedIn s w.val) (lateCheck s (postedIn s w.val)) (counterTaken (postedIn s w.val) (setWinState w.val 0 s))
    else passOn (postedIn s w.val) (counterTaken (postedIn s w.val) (setWinState w.val 0 s)) := by
  have persists : ((postedIn s w.val).critical && counterFails s (postedIn s w.val).counter) = false := by
    cases critical : (postedIn s w.val).critical with
    | true => rw [counts critical]; rfl
    | false => rfl
  rw [tenderCopy_eq posted free runs]
  simp only [form, auth, persists, lateCheck_counterTaken, lateCheck_setWinState, ne_eq, not_true_eq_false, if_false, Bool.false_eq_true]

/-- A tag in use, or the radio die away (checks 6 and 7). -/
theorem tenderCopy_late {status : Nat} (late : lateCheck s (postedIn s w.val) = status) (bad : status ≠ 0) :
    Completes (.tenderCopy w) s fun t => requestRefused w.val status s t ∧
      t.tender.last = if (postedIn s w.val).critical then (postedIn s w.val).counter else s.tender.last := by
  refine ⟨_, congrArg Host.Outcome.next ((tenderCopy_counted posted free runs form auth counts).trans (if_pos (by rw [late]; exact bad))), ?_⟩
  rw [late]
  exact refusedAt_tag w status s

/-- A request that passes every check. -/
theorem tenderCopy_passes (late : lateCheck s (postedIn s w.val) = 0) : Completes (.tenderCopy w) s fun t =>
    t = passOn (postedIn s w.val) (counterTaken (postedIn s w.val) (setWinState w.val 0 s)) :=
  ⟨_, congrArg Host.Outcome.next ((tenderCopy_counted posted free runs form auth counts).trans (if_neg (by simp [late]))), rfl⟩

end

theorem formCheck_malformed {s : State} {p : Posted} (bad : p.f 2 1 ≠ 0 ∨ p.f 0xE 1 ≠ 1 ∨ p.f 0xC 2 ≠ 0 ∨ p.f 0xF 1 ≠ 0 ∨ 32 ≤ p.f 3 1) :
    formCheck s p = 12 := if_pos bad

section
variable {s : State} {p : Posted} (good : ¬ (p.f 2 1 ≠ 0 ∨ p.f 0xE 1 ≠ 1 ∨ p.f 0xC 2 ≠ 0 ∨ p.f 0xF 1 ≠ 0 ∨ 32 ≤ p.f 3 1))
include good

theorem formCheck_long (long : 4080 < p.len) : formCheck s p = 4 := by rw [formCheck, if_neg good, if_pos (.inl long)]

theorem formCheck_unknown (fits : p.len ≤ 4072) (unknown : inCatalogue p.opcode = false) : formCheck s p = 11 := by
  rw [formCheck, if_neg good, if_neg (by omega), if_pos (.inl (by simp [unknown]))]

end

section
variable {s : State} {p : Posted} (critical : p.critical = true)
include critical

theorem authCheck_forged (wrong : cmacOk s p = false) : authCheck s p = 1 := by simp [authCheck, critical, wrong]

variable (right : cmacOk s p = true)
include right

theorem authCheck_exhausted (used : s.tender.last = 0xFFFFFFFF) : authCheck s p = 14 := by simp [authCheck, critical, right, used]

theorem authCheck_replayed (left : s.tender.last ≠ 0xFFFFFFFF) (old : p.counter ≤ s.tender.last) : authCheck s p = 13 := by
  simp [authCheck, critical, right, left, old]

end

/-- Settles O34. -/
theorem requestWindows : Obligations.RequestWindows := by
  refine ⟨fun o z v s free => ?write, fun o z v s busy => ?refusedWrite, fun v s free runs awake plain => ?ring, fun v s refused => ?refusedRing,
    fun w s away => congrArg Host.Outcome.next (if_pos ?away), fun w s posted free runs => ?copy⟩
  case write =>
    refine ⟨_, congrArg Host.Outcome.next (if_neg (by simpa using free)), fun k hk => tabGet_writeBytes_within _ _ _ _ hk,
      fun a ha => tabGet_writeBytes_other _ _ _ _ _ ha, rfl, rfl, rfl⟩
  case refusedWrite =>
    have win : accAddr z (o.toNat % 65536) / 4096 < 16 := by
      have := accAddr_lt z (o.toNat % 65536) (Nat.mod_lt _ (by decide))
      omega
    obtain ⟨states, bit, shown, source, mem⟩ := refuseWin_shown (bit := 1) (by decide) win s
    exact ⟨_, congrArg Host.Outcome.next (if_pos busy), mem, bit, shown, source, states⟩
  case ring =>
    have win : fieldOf v 3 0 < 16 := fieldOf_lt v 3 0
    have taken : ¬ (winState s (fieldOf v 3 0) ≠ 0 ∨ (spiMode s = true ∧ (14 ≤ fieldOf v 3 0 ∨ hgetB s 0x3010 (fieldOf v 3 0) = true)) ∨
        (s.boot.mode ≠ 1 ∧ s.boot.mode ≠ 2) ∨ s.boot.standby = true) := by
      rintro (busy | ⟨spi, held⟩ | stopped | waits)
      · exact busy free
      · rcases plain with off | ⟨low, empty⟩
        · rw [off] at spi; exact absurd spi (by decide)
        · rcases held with high | set
          · omega
          · rw [empty] at set; exact absurd set (by decide)
      · omega
      · rw [awake] at waits; exact absurd waits (by decide)
    exact ⟨_, congrArg Host.Outcome.next (if_neg taken), winState_set_same win 1 s, fun w hw apart => winState_set_other hw 1 s apart, rfl,
      fun o ho => hrd_setWinState _ _ _ ho⟩
  case refusedRing =>
    obtain ⟨states, bit, shown, source, mem⟩ := refuseWin_shown (bit := 0) (by decide) (fieldOf_lt v 3 0) s
    refine ⟨_, congrArg Host.Outcome.next (if_pos ?_), states, bit, shown, source, mem⟩
    rcases refused with busy | stopped | waits
    · exact .inl busy
    · exact .inr (.inr (.inl stopped))
    · exact .inr (.inr (.inr waits))
  case away =>
    rcases away with busy | held
    · exact .inl busy
    · exact .inr (.inl held)
  case copy =>
    intro p bad
    have judged {q : Prop} [Decidable q] (h : decide q = false) : ¬ q := of_decide_eq_false h
    refine ⟨fun malformed => tenderCopy_malformed posted free runs (formCheck_malformed (of_decide_eq_true malformed)) (by decide),
      fun good long => tenderCopy_malformed posted free runs (formCheck_long (judged good) long) (by decide),
      fun good fits unknown => tenderCopy_malformed posted free runs (formCheck_unknown (judged good) fits unknown) (by decide),
      fun form critical wrong => tenderCopy_unauthentic posted free runs form (authCheck_forged critical wrong) (by decide),
      fun form critical right used => tenderCopy_unauthentic posted free runs form (authCheck_exhausted critical right used) (by decide),
      fun form critical right left old => tenderCopy_unauthentic posted free runs form (authCheck_replayed critical right left old) (by decide),
      fun form auth critical fails => tenderCopy_unpersisted posted free runs form auth critical fails,
      fun form auth counts => ?_, fun form auth counts used => ?_, fun form auth counts unused radio power away => ?_, fun form auth counts late => ?_⟩
    · by_cases late : lateCheck s p = 0
      · obtain ⟨t, row, e⟩ := tenderCopy_passes posted free runs form auth counts late
        obtain ⟨b, n, taken⟩ := counterTaken_only p (setWinState w.val 0 s)
        refine ⟨t, row, ?_⟩
        obtain ⟨-, -, last, -⟩ := passOn_passed p (counterTaken p (setWinState w.val 0 s))
        rw [e, last, taken]
        rfl
      · obtain ⟨t, row, -, last⟩ := tenderCopy_late posted free runs form auth counts rfl late
        exact ⟨t, row, last⟩
    · obtain ⟨t, row, refused, -⟩ := tenderCopy_late posted free runs form auth counts (status := 15) (if_pos used) (by decide)
      exact ⟨t, row, refused⟩
    · have late : lateCheck s p = 10 := by
        rw [lateCheck, if_neg (by rw [unused]; decide), if_neg (by rw [radio, power]; decide), if_pos]
        rcases away with down | unready
        · exact .inl (by simp [down])
        · exact .inr (.inl (by simp [unready]))
      obtain ⟨t, row, refused, -⟩ := tenderCopy_late posted free runs form auth counts late (by decide)
      exact ⟨t, row, refused⟩
    · obtain ⟨t, row, e⟩ := tenderCopy_passes posted free runs form auth counts late
      obtain ⟨states, hold, -, tags, host, away⟩ := passOn_passed p (counterTaken p (setWinState w.val 0 s))
      obtain ⟨b, n, taken⟩ := counterTaken_only p (setWinState w.val 0 s)
      refine ⟨t, row, ?_⟩
      rw [e]
      refine ⟨(winState_congr states _).trans ?_, hold.trans ?_, tags.trans ?_, fun h => ?_, fun h power key => ?_⟩
      · rw [taken]; exact winState_set_same w.isLt 0 s
      · rw [taken]; rfl
      · rw [taken]; rfl
      · obtain ⟨reqs, q⟩ := host h
        exact ⟨reqs.trans (by rw [taken]; rfl), q.trans (by rw [taken]; rfl)⟩
      · obtain ⟨reqs, q⟩ := away h power key
        exact ⟨reqs.trans (by rw [taken]; rfl), q.trans (by rw [taken]; rfl)⟩

end Sys2Proof.Machine
end

section
/-! SUPPORT. The refutation of O33: a request whose ACK field makes room for the event that tells of events lost. -/

namespace Sys2Proof.Machine

/-- A request of the host's, in sequence, that acknowledges one message; its CRC as R308 gives it. -/
def acknowledgingReq : BMsg :=
  let m : BMsg := { typ := 2, rsv := 0, len := 20, seq := 0, ack := 1, payload := List.replicate 20 0, crc := 0 }
  { m with crc := BitVec.ofNat 32 (crc32 (bmsgBytes m)) }

/-- The link UP with one message in flight, and an event of the Keeper lost (R314). -/
def eventLostUp : State :=
  { wr 0x10 2 State.reset with linkR := { q := [(1, [])], sent := 1 }, keeper := { evLost := 1 } }

theorem acknowledgingReq_comesThrough : comesThrough 2 .radio acknowledgingReq eventLostUp = true := by decide +kernel

/-- EVENTS_LOST enters the trouble log, whose index is a register. -/
theorem rd_eskelReq_eventLostUp : rd (eskelReq acknowledgingReq eventLostUp) 0xC0020 ≠ rd eventLostUp 0xC0020 := by decide +kernel

/-- Refutes O33, by its clause on ESKEL_REQ: it says that no register of the radio die changes, but the message's ACK field makes room on the link,
and with events lost the Keeper then writes EVENTS_LOST into its log, whose index KPR_LOG_INDEX shows (R310, R314). -/
theorem not_barrierMessages : ¬ Obligations.BarrierMessages := by
  rintro ⟨request, -⟩
  obtain ⟨t, step, -, same, -⟩ := request acknowledgingReq eventLostUp acknowledgingReq_comesThrough
  obtain rfl : eskelReq acknowledgingReq eventLostUp = t := Host.Outcome.next.inj step
  exact rd_eskelReq_eventLostUp (by rw [rd, same, rd])

end Sys2Proof.Machine
end

section
/-! SUPPORT. The barrier link (O32): what leaves for the host once there is room, what each step of the link leaves of its state shown on both
dies, and the messages that an end takes (R307-R314). -/

namespace Sys2Proof.Machine

/-! ### What waits for the link (R314) -/

/-- `t` is `s` after messages of the Keeper left or were logged: its queues, its log and its end of the link, none of what the end knows of its
peer. -/
structure Drained (s t : State) : Prop where
  frame : ∃ l k r, t = { s with linkR := l, keeper := k, reg := r }
  regs : ∀ o, o ≠ 0xC0020 → o ≠ 0xC0024 → rd t o = rd s o
  xoff : t.linkR.xoff = s.linkR.xoff
  peerResets : t.linkR.peerResets = s.linkR.peerResets
  rxNext : t.linkR.rxNext = s.linkR.rxNext

namespace Drained

theorem refl (s : State) : Drained s s := ⟨⟨s.linkR, s.keeper, s.reg, rfl⟩, fun _ _ _ => rfl, rfl, rfl, rfl⟩

theorem trans {s t u : State} (h : Drained s t) (k : Drained t u) : Drained s u := by
  obtain ⟨l, e, r, rfl⟩ := h.frame
  obtain ⟨l', e', r', rfl⟩ := k.frame
  exact ⟨⟨l', e', r', rfl⟩, fun o index oldest => (k.regs o index oldest).trans (h.regs o index oldest), k.xoff.trans h.xoff,
    k.peerResets.trans h.peerResets, k.rxNext.trans h.rxNext⟩

theorem keeper (s : State) (k : Keeper) : Drained s { s with keeper := k } := ⟨⟨s.linkR, k, s.reg, rfl⟩, fun _ _ _ => rfl, rfl, rfl, rfl⟩

theorem sendR (typ : Nat) (payload : List Byte) (s : State) : Drained s (sendR typ payload s) := by
  have kept (up : Bool) : ((s.linkR.push typ s.age payload).pump up).xoff = s.linkR.xoff ∧
      ((s.linkR.push typ s.age payload).pump up).peerResets = s.linkR.peerResets ∧ ((s.linkR.push typ s.age payload).pump up).rxNext = s.linkR.rxNext := by
    unfold LinkEnd.pump
    split <;> exact ⟨rfl, rfl, rfl⟩
  obtain ⟨xoff, peer, next⟩ := kept (upR s)
  exact ⟨⟨_, s.keeper, s.reg, rfl⟩, fun _ _ _ => rfl, xoff, peer, next⟩

theorem logWrite (source code : Nat) (args : List Byte) (s : State) : Drained s (logWrite source code args s) := by
  have regs (o : Nat) (index : o ≠ 0xC0020) (oldest : o ≠ 0xC0024) := rd_logWrite source code args s index oldest
  unfold Machine.logWrite at regs ⊢
  simp only at regs ⊢
  split
  · next held =>
    simp only [held, if_true] at regs
    exact ⟨⟨_, _, _, rfl⟩, regs, rfl, rfl, rfl⟩
  · next free =>
    simp only [free] at regs
    obtain ⟨⟨l, k, r, e⟩, -, xoff, peer, next⟩ := sendR 6 (logBytes s.keeper.logNext s.ntb.net (stepByte s) source code args)
      (wr 0xC0024 (BitVec.ofNat 32 ((s.keeper.logNext + 1) % 2 ^ 32) -
          BitVec.ofNat 32 (ringPush s.keeper.log (logBytes s.keeper.logNext s.ntb.net (stepByte s) source code args)).length)
        (wr 0xC0020 (BitVec.ofNat 32 ((s.keeper.logNext + 1) % 2 ^ 32)) { s with keeper := { s.keeper with
          log := ringPush s.keeper.log (logBytes s.keeper.logNext s.ntb.net (stepByte s) source code args), logNext := (s.keeper.logNext + 1) % 2 ^ 32 } }))
    exact ⟨⟨l, k, r, e⟩, regs, xoff, peer, next⟩

theorem sendEvent (m : List Byte) (s : State) : Drained s (sendEvent m s) := by
  unfold Machine.sendEvent
  split
  · exact sendR 4 m s
  · split
    · exact keeper s _
    · exact keeper s _

theorem raiseEvt (source code : Nat) (args : List Byte) (s : State) : Drained s (raiseEvt source code args s) :=
  ((keeper s _).trans (sendEvent _ _)).trans (logWrite _ _ _ _)

theorem eventsLost (s : State) : Drained s (eventsLost s) := by
  unfold Machine.eventsLost
  split
  · exact refl s
  · exact (keeper s _).trans (raiseEvt _ _ _ _)

theorem forAll {α : Type} {f : α → State → State} (each : ∀ x s, Drained s (f x s)) (xs : List α) : ∀ s, Drained s (forAll xs f s) := by
  induction xs with
  | nil => exact refl
  | cons x xs ih => exact fun s => (each x s).trans (ih _)

theorem drainEvents (s : State) : Drained s (drainEvents s) := by
  unfold Machine.drainEvents
  split
  · have sent := (keeper s { s.keeper with evHold := s.keeper.evHold.drop (linkWindow - s.linkR.q.length) }).trans
      (forAll (fun e s => sendR 4 e s) (s.keeper.evHold.take (linkWindow - s.linkR.q.length)) _)
    simp only [onlyIf]
    split
    · exact sent.trans (eventsLost _)
    · exact sent
  · exact refl s

theorem drainUp (s : State) : Drained s (drainUp s) := by
  unfold Machine.drainUp
  split
  · exact (keeper s _).trans (forAll (fun e s => sendR 5 e s) _ _)
  · exact refl s

theorem drainHeld (s : State) : Drained s (drainHeld s) := (drainEvents s).trans (drainUp _)

end Drained

/-! ### The link's state as both dies show it (R307) -/

/-- `t` shows the link as `s` does: BAR_STATUS of the radio die, and of the host die all but the mark of a radio reset. -/
structure LinkShown (s t : State) : Prop where
  radio : rd t 0x10 = rd s 0x10
  host : ∀ hi lo, hi < 18 → hgetF t 0x2000 hi lo = hgetF s 0x2000 hi lo
  degraded : hgetB t 0x2000 17 = hgetB s 0x2000 17

namespace LinkShown

theorem of_regs {s t : State} (radio : rd t 0x10 = rd s 0x10) (host : hrd t 0x2000 = hrd s 0x2000) : LinkShown s t :=
  ⟨radio, fun hi lo _ => hgetF_eq_of_hrd host hi lo, hgetB_eq_of_hrd host 17⟩

theorem of_same {s t : State} (reg : t.reg = s.reg) (hreg : t.hreg = s.hreg) : LinkShown s t :=
  of_regs (by rw [rd, reg, rd]) (by rw [hrd, hreg, hrd])

theorem refl (s : State) : LinkShown s s := of_regs rfl rfl

theorem trans {s t u : State} (h : LinkShown s t) (k : LinkShown t u) : LinkShown s u :=
  ⟨k.radio.trans h.radio, fun hi lo low => (k.host hi lo low).trans (h.host hi lo low), k.degraded.trans h.degraded⟩

theorem drained {s t : State} (h : Drained s t) : LinkShown s t := by
  obtain ⟨l, k, r, e⟩ := h.frame
  exact of_regs (h.regs _ (by decide) (by decide)) (by rw [e]; rfl)

theorem hwr (off : Nat) (v : Word) (s : State) (h : off ≠ 0x2000) : LinkShown s (hwr off v s) := of_regs rfl (hrd_hwr_other _ _ h.symm)

theorem wr (off : Nat) (v : Word) (s : State) (h : off ≠ 0x10) : LinkShown s (wr off v s) := of_regs (rd_wr_other _ _ h.symm) rfl

theorem irq (n : Nat) (s : State) : LinkShown s (irq n s) :=
  of_regs (by rw [rd, irq_reg, rd]) (hrd_irq_other n s (by decide) (by omega))

theorem toHost (cls : Nat) (m : List Byte) (s : State) : LinkShown s (toHost cls m s) := by
  have regs := sameButHeld_toHost cls m s 0x2000 (by decide) (by decide) (by decide)
  obtain ⟨r, q, x, e⟩ := toHost_eq cls m s
  exact of_regs (by rw [e]; rfl) regs

theorem sendH (typ : Nat) (payload : List Byte) (s : State) : LinkShown s (sendH typ payload s) :=
  (of_same rfl rfl : LinkShown s { s with linkH := (s.linkH.push typ s.age payload).pump (upH s) }).trans (hwr _ _ _ (by decide))

theorem onlyIf {s t : State} {f : State → State} (c : Bool) (h : LinkShown s t) (each : LinkShown t (f t)) : LinkShown s (onlyIf c f t) := by
  unfold Machine.onlyIf
  split
  · exact h.trans each
  · exact h

theorem ite {s t u : State} {p : Prop} [Decidable p] (h : LinkShown s t) (k : LinkShown s u) : LinkShown s (if p then t else u) := by
  split
  · exact h
  · exact k

theorem forAll {α : Type} {f : α → State → State} (each : ∀ x s, LinkShown s (f x s)) (xs : List α) : ∀ s, LinkShown s (forAll xs f s) := by
  induction xs with
  | nil => exact refl
  | cons x xs ih => exact fun s => (each x s).trans (ih _)

theorem tagDown (g : TagUse) (s : State) : LinkShown s (tagDown g s) := by
  have ended : LinkShown s { s with tender := { s.tender with tags := s.tender.tags.filter (fun x => x.tag != g.tag) } } := of_same rfl rfl
  exact ite ((ended.trans (toHost _ _ _)).trans (toHost _ _ _)) (ended.trans (toHost _ _ _))

/-- The mark of a radio reset is the one bit that a new RESETS sets. -/
theorem radioResetSeen (s : State) : LinkShown s (radioResetSeen s) := by
  have marked (u : State) : LinkShown u (hsetB 0x2000 18 true u) :=
    ⟨rfl, fun hi lo low => hgetF_hsetB _ _ (by omega) (.inr (.inl low)), by rw [hgetB_hsetB _ _ _ _ _ (by decide), if_neg (by decide)]⟩
  unfold Machine.radioResetSeen
  simp only
  refine LinkShown.trans ?_ (forAll tagDown _ _)
  refine LinkShown.trans ?_ (irq 11 _)
  refine LinkShown.trans ?_ (marked _)
  exact of_same rfl rfl

theorem takeResetsH (n : Nat) (s : State) : LinkShown s (takeResetsH n s) := by
  have noted : LinkShown s { s with linkH := { s.linkH with peerResets := some n } } := of_same rfl rfl
  exact ite (noted.trans (radioResetSeen _)) noted

theorem takeResetsR (n : Nat) (s : State) : LinkShown s (takeResetsR n s) := ite (of_same rfl rfl) (of_same rfl rfl)

theorem pumpEnd (d : Die) (s : State) : LinkShown s (pumpEnd d s) := by
  cases d with
  | radio => exact of_same rfl rfl
  | host =>
    have sent : LinkShown s (setEnd .host ((getEnd s .host).pump (upEnd s .host)) s) := of_same rfl rfl
    exact sent.trans (hwr 0x2004 _ _ (by decide))

theorem resumeEnd (d : Die) (n : Nat) (s : State) : LinkShown s (resumeEnd d n s) := by
  have moved (l : LinkEnd) : LinkShown s (setEnd d l s) := by cases d <;> exact of_same rfl rfl
  exact (onlyIf _ (moved _) (hwr 0x2010 _ _ (by decide))).trans (pumpEnd _ _)

theorem showPower (n : Nat) (s : State) : LinkShown s (showPower n s) := hwr _ _ _ (by decide)

theorem sendStage (n result arg : Nat) (s : State) : LinkShown s (sendStage n result arg s) := drained (.sendR _ _ _)

theorem stageReached (n arg : Nat) (s : State) : LinkShown s (stageReached n arg s) := (wr _ _ _ (by decide)).trans (sendStage _ _ _ _)

end LinkShown

/-! ### Training (R307) -/

/-- Both ends UP with their lanes, as a training that succeeds first shows them. -/
def linkUp (h r : BitVec 4) (degraded : Bool) (s : State) : State :=
  let s := setF 0x10 1 0 2 (setF 0x10 7 4 h.toNat (setF 0x10 11 8 r.toNat s))
  hsetF 0x2000 1 0 2 (hsetF 0x2000 7 4 r.toNat (hsetF 0x2000 11 8 h.toNat (hsetB 0x2000 17 degraded s)))

theorem linkUp_shown (h r : BitVec 4) (degraded : Bool) (s : State) :
    let t := linkUp h r degraded s
    getF t 0x10 1 0 = 2 ∧ hgetF t 0x2000 1 0 = 2 ∧ getF t 0x10 7 4 = h.toNat ∧ getF t 0x10 11 8 = r.toNat ∧
      hgetF t 0x2000 7 4 = r.toNat ∧ hgetF t 0x2000 11 8 = h.toNat ∧ hgetB t 0x2000 17 = degraded := by
  have out := h.isLt
  have in_ := r.isLt
  have radio (hi lo : Nat) : getF (linkUp h r degraded s) 0x10 hi lo = getF (setF 0x10 1 0 2 (setF 0x10 7 4 h.toNat (setF 0x10 11 8 r.toNat s))) 0x10 hi lo := rfl
  refine ⟨?_, ?_, ?_, ?_, ?_, ?_, ?_⟩
  · rw [radio, getF_setF_same _ _ _ _ _ (by decide)]
    rfl
  · rw [linkUp, hgetF_hsetF_same _ _ _ (by decide)]
    rfl
  · rw [radio, getF_setF_apart _ _ _ (by decide) (by decide), getF_setF_same _ _ _ _ _ (by decide)]
    exact Nat.mod_eq_of_lt out
  · rw [radio, getF_setF_apart _ _ _ (by decide) (by decide), getF_setF_apart _ _ _ (by decide) (by decide), getF_setF_same _ _ _ _ _ (by decide)]
    exact Nat.mod_eq_of_lt in_
  · rw [linkUp, hgetF_hsetF_other _ _ (by decide) (by decide), hgetF_hsetF_same _ _ _ (by decide)]
    exact Nat.mod_eq_of_lt in_
  · rw [linkUp, hgetF_hsetF_other _ _ (by decide) (by decide), hgetF_hsetF_other _ _ (by decide) (by decide), hgetF_hsetF_same _ _ _ (by decide)]
    exact Nat.mod_eq_of_lt out
  · rw [linkUp, hgetB_hsetF _ _ (by decide) (by decide), hgetB_hsetF _ _ (by decide) (by decide), hgetB_hsetF _ _ (by decide) (by decide),
      hgetB_hsetB _ _ _ _ _ (by decide), if_pos ⟨rfl, rfl⟩]

/-- Registers of both dies that time leaves. -/
theorem linkShown_reachAge (x : Nat) (s : State) : LinkShown s (reachAge x s) :=
  .of_regs (rd_clocks _ _ (by decide)) (hrd_reachAge _ _ _)

theorem upR_eq {s t : State} (h : rd t 0x10 = rd s 0x10) : upR t = upR s := by rw [upR, getF_eq_of_rd h, ← upR]

theorem upH_eq {s t : State} (h : hgetF t 0x2000 1 0 = hgetF s 0x2000 1 0) : upH t = upH s := by rw [upH, h, ← upH]

theorem LinkShown.upR {s t : State} (h : LinkShown s t) : upR t = Machine.upR s := upR_eq h.radio

theorem LinkShown.upH {s t : State} (h : LinkShown s t) : upH t = Machine.upH s := upH_eq (h.host 1 0 (by decide))

theorem islandOnly_reachAge (x : Nat) (s : State) : islandOnly (reachAge x s) = islandOnly s := by
  have same : rd (reachAge x s) 0x10000 = rd s 0x10000 := rd_clocks _ _ (by decide)
  rw [islandOnly, radioPower, getF_eq_of_rd same, ← radioPower, ← islandOnly]

/-- Both ends learn of their peer from the LINK_STATE messages of a training. -/
def peersLearn (s : State) : State :=
  let s := endHeard .host (endHeard .radio s)
  let s := takeResetsR s.linkH.resets (takeResetsH s.linkR.resets s)
  { s with linkR := { s.linkR with xoff := s.linkH.xoff } }

/-- The host is told of a link that came UP. -/
def upTold (degraded : Bool) (s : State) : State := onlyIf degraded (irq 6) (irq 4 (showPower (radioPower s) s))

/-- Both ends resume. -/
def endsResume (s : State) : State := resumeEnd .host s.linkR.rxNext (resumeEnd .radio s.linkH.rxNext s)

/-- A RADIO_RESET that waited for the link leaves (R313). -/
def resetFollows (s : State) : State :=
  if s.tender.resetHeld then sendH 0xC (leBytes 4 1) { s with tender := { s.tender with resetHeld := false } } else s

namespace LinkShown

theorem peersLearn (s : State) : LinkShown s (peersLearn s) := by
  have heard : LinkShown s (endHeard .host (endHeard .radio s)) := of_same rfl rfl
  exact ((heard.trans (takeResetsH _ _)).trans (takeResetsR _ _)).trans (of_same rfl rfl)

theorem upTold (degraded : Bool) (s : State) : LinkShown s (upTold degraded s) :=
  onlyIf _ ((showPower _ _).trans (irq 4 _)) (irq 6 _)

theorem endsResume (s : State) : LinkShown s (endsResume s) := (resumeEnd _ _ _).trans (resumeEnd _ _ _)

theorem resetFollows (s : State) : LinkShown s (resetFollows s) := by
  have taken : LinkShown s { s with tender := { s.tender with resetHeld := false } } := of_same rfl rfl
  exact ite (taken.trans (sendH _ _ _)) (refl s)

end LinkShown

section
variable {h r : BitVec 4} {s : State} (downR : upR s = false) (downH : upH s = false)
include downR downH

/-- The state after 100 us of training. -/
def trainedFor (s : State) : State := reachAge (s.linkH.train + clocksOfNs 100000) s

theorem barrierTraining_fails (none : h = 0 ∨ r = 0) :
    barrierTraining h r s = linkTrains (hincW 0x201C (hsetF 0x2000 1 0 0 (setF 0x10 1 0 0 (trainedFor s)))) := by
  have radio : upR (trainedFor s) = false := (linkShown_reachAge _ s).upR.trans downR
  have host : upH (trainedFor s) = false := (linkShown_reachAge _ s).upH.trans downH
  unfold barrierTraining
  simp only [trainedFor] at radio host
  simp only [radio, host, none, if_true]
  rfl

/-- A training that succeeds, in its steps. -/
theorem barrierTraining_up (out : h ≠ 0) (in_ : r ≠ 0) : barrierTraining h r s =
    let degraded := !(lanesFull h && lanesFull r) && !islandOnly s
    drainHeld (resetFollows (endsResume (upTold degraded (peersLearn (linkUp h r degraded (trainedFor s)))))) := by
  have radio : upR (trainedFor s) = false := (linkShown_reachAge _ s).upR.trans downR
  have host : upH (trainedFor s) = false := (linkShown_reachAge _ s).upH.trans downH
  have island : islandOnly (trainedFor s) = islandOnly s := islandOnly_reachAge _ s
  rw [← island, barrierTraining]
  refine (if_neg (c := upR (trainedFor s) || upH (trainedFor s)) (by rw [radio, host]; decide)).trans ?_
  exact if_neg fun e => e.elim out in_

/-- A training that succeeds shows both ends UP with their lanes. -/
theorem barrierTraining_succeeds (out : h ≠ 0) (in_ : r ≠ 0) :
    LinkShown (linkUp h r (!(lanesFull h && lanesFull r) && !islandOnly s) (trainedFor s)) (barrierTraining h r s) := by
  rw [barrierTraining_up downR downH out in_]
  exact ((((LinkShown.peersLearn _).trans (.upTold _ _)).trans (.endsResume _)).trans (.resetFollows _)).trans (.drained (.drainHeld _))

end

/-- What the radio die reports over a link just up (R479, R480). -/
def upReported (was : Option Nat) (s : State) : State :=
  if !upR s then s
  else
    let s := if s.tender.radioReady then { s with boot := { s.boot with readyAge := s.age } } else s
    if islandOnly s then s
    else if bootStage s = 0 then stageReached 1 0 s
    else if was.isSome ∧ was ≠ s.linkR.peerResets then sendStage (bootStage s) sOk 0 s
    else s

theorem LinkShown.upReported (was : Option Nat) (s : State) : LinkShown s (upReported was s) := by
  have dated : LinkShown s (if s.tender.radioReady then { s with boot := { s.boot with readyAge := s.age } } else s) :=
    ite (of_same rfl rfl) (refl s)
  exact ite (refl s) (dated.trans (ite (refl _) (ite (stageReached _ _ _) (ite (sendStage _ _ _ _) (refl _)))))

section
variable {h r : BitVec 4} {s : State} (downR : upR s = false) (downH : upH s = false)
include downR downH

theorem barrierTrainingRow_runs (runs : hostRuns s = true) (powered : s.power.dead = false) :
    barrierTrainingRow h r s = upReported s.linkR.peerResets (barrierTraining h r s) := by
  rw [barrierTrainingRow, if_neg (by rw [downR, downH]; decide), if_neg (by rw [runs, powered]; decide)]
  rfl

theorem barrierTrainingRow_dead (dead : s.power.dead = true) (runs : hostRuns s = true) (training : hgetF s 0x2000 1 0 ≠ 0) :
    barrierTrainingRow h r s = hincW 0x201C (hsetF 0x2000 1 0 0 s) := by
  rw [barrierTrainingRow, if_neg (by rw [downR, downH]; decide), if_pos (.inr dead), if_pos dead, if_pos ⟨runs, training⟩]

theorem barrierTrainingRow_hostAway (alive : s.power.dead = false) (away : hostRuns s = false) :
    barrierTrainingRow h r s = setF 0x10 1 0 0 s := by
  have still : hostRuns (setF 0x10 1 0 0 s) = false := away
  rw [barrierTrainingRow, if_neg (by rw [downR, downH]; decide), if_pos (.inl (by rw [away]; rfl))]
  simp only [alive, Bool.false_eq_true, if_false]
  exact if_neg fun e => absurd e.1 (by rw [still]; decide)

omit downR downH in
theorem trainingFailed_shown : getF (linkTrains (hincW 0x201C (hsetF 0x2000 1 0 0 (setF 0x10 1 0 0 (trainedFor s))))) 0x10 1 0 = 0 ∧
    hgetF (linkTrains (hincW 0x201C (hsetF 0x2000 1 0 0 (setF 0x10 1 0 0 (trainedFor s))))) 0x2000 1 0 = 0 ∧
    hrd (linkTrains (hincW 0x201C (hsetF 0x2000 1 0 0 (setF 0x10 1 0 0 (trainedFor s))))) 0x201C = hrd s 0x201C + 1 := by
  refine ⟨?_, ?_, ?_⟩
  · exact (getF_setF_same 0x10 1 0 0 (trainedFor s) (by decide)).trans rfl
  · exact (hgetF_hwr _ 0x201C 0x2000 1 0 _).trans ((if_neg (by decide)).trans ((hgetF_hsetF_same _ _ _ (by decide)).trans rfl))
  · refine (hrd_hwr_same _ _ _).trans ?_
    rw [hsetF, hrd_hwr_other _ _ (by decide)]
    exact congrArg (· + 1) (hrd_reachAge _ s 0x201C)

/-- Clauses of a training with both dies running. -/
theorem training_bothRun (runs : hostRuns s = true) (powered : s.power.dead = false) :
    (h = 0 ∨ r = 0 → Completes (.barrierTraining h r) s fun t => getF t 0x10 1 0 = 0 ∧ hgetF t 0x2000 1 0 = 0 ∧ hrd t 0x201C = hrd s 0x201C + 1) ∧
    (h ≠ 0 → r ≠ 0 → Completes (.barrierTraining h r) s fun t => getF t 0x10 1 0 = 2 ∧ hgetF t 0x2000 1 0 = 2 ∧ getF t 0x10 7 4 = h.toNat ∧ getF t 0x10 11 8 = r.toNat ∧
      hgetF t 0x2000 7 4 = r.toNat ∧ hgetF t 0x2000 11 8 = h.toNat ∧ hgetB t 0x2000 17 = (!(h == 15 && r == 15) && !islandOnly s)) := by
  have row := barrierTrainingRow_runs (h := h) (r := r) downR downH runs powered
  refine ⟨fun none => ?_, fun out in_ => ?_⟩
  · have shown := trainingFailed_shown (s := s)
    rw [barrierTraining_fails downR downH none] at row
    have down : upR (linkTrains (hincW 0x201C (hsetF 0x2000 1 0 0 (setF 0x10 1 0 0 (trainedFor s))))) = false := by
      rw [upR, shown.1]; rfl
    rw [upReported, down] at row
    exact ⟨_, congrArg Host.Outcome.next row, shown⟩
  · obtain ⟨radio, host, degraded⟩ := (barrierTraining_succeeds downR downH out in_).trans (.upReported s.linkR.peerResets _)
    obtain ⟨radioUp, hostUp, radioOut, radioIn, hostOut, hostIn, mark⟩ := linkUp_shown h r (!(lanesFull h && lanesFull r) && !islandOnly s) (trainedFor s)
    refine ⟨_, congrArg Host.Outcome.next row, ?_, ?_, ?_, ?_, ?_, ?_, degraded.trans mark⟩
    · rw [getF_eq_of_rd radio]; exact radioUp
    · rw [host _ _ (by decide)]; exact hostUp
    · rw [getF_eq_of_rd radio]; exact radioOut
    · rw [getF_eq_of_rd radio]; exact radioIn
    · rw [host _ _ (by decide)]; exact hostOut
    · rw [host _ _ (by decide)]; exact hostIn

end

/-! ### The link goes down, sends again and retries (R307, R310) -/

/-- BARRIER_RETRY's end of the radio die and of the host die. -/
def retried (s : State) : State :=
  let u := linkTrains (reachAge (s.linkH.train + clocksOfNs 10000000) s)
  let v := if getF u 0x10 1 0 = 0 then setF 0x10 1 0 1 u else u
  if hgetF v 0x2000 1 0 = 0 then hsetF 0x2000 1 0 1 v else v

theorem barrierRetry_eq (s : State) : barrierRetry s = if getF s 0x10 1 0 ≠ 0 ∧ hgetF s 0x2000 1 0 ≠ 0 then s else retried s := rfl

theorem retried_shown (s : State) : (getF s 0x10 1 0 = 0 → getF (retried s) 0x10 1 0 = 1) ∧ (getF s 0x10 1 0 ≠ 0 → rd (retried s) 0x10 = rd s 0x10) ∧
    (hgetF s 0x2000 1 0 = 0 → hgetF (retried s) 0x2000 1 0 = 1) ∧ (hgetF s 0x2000 1 0 ≠ 0 → hrd (retried s) 0x2000 = hrd s 0x2000) := by
  have radio : rd (linkTrains (reachAge (s.linkH.train + clocksOfNs 10000000) s)) 0x10 = rd s 0x10 := rd_clocks _ _ (by decide)
  have host : hrd (linkTrains (reachAge (s.linkH.train + clocksOfNs 10000000) s)) 0x2000 = hrd s 0x2000 := hrd_reachAge _ s _
  unfold retried
  generalize linkTrains (reachAge (s.linkH.train + clocksOfNs 10000000) s) = u at *
  have radioDown (v : State) (e : rd v 0x10 = rd (if getF u 0x10 1 0 = 0 then setF 0x10 1 0 1 u else u) 0x10) :
      (getF s 0x10 1 0 = 0 → getF v 0x10 1 0 = 1) ∧ (getF s 0x10 1 0 ≠ 0 → rd v 0x10 = rd s 0x10) := by
    rw [getF_eq_of_rd radio] at e
    refine ⟨fun down => ?_, fun up => ?_⟩
    · rw [getF_eq_of_rd e, if_pos down, getF_setF_same _ _ _ _ _ (by decide)]
      rfl
    · rw [e, if_neg up, radio]
  have same : hrd (if getF u 0x10 1 0 = 0 then setF 0x10 1 0 1 u else u) 0x2000 = hrd s 0x2000 := by
    split
    · exact host
    · exact host
  simp only
  generalize (if getF u 0x10 1 0 = 0 then setF 0x10 1 0 1 u else u) = v at *
  rw [← hgetF_eq_of_hrd same, ← same]
  by_cases down : hgetF v 0x2000 1 0 = 0
  · rw [if_pos down]
    obtain ⟨one, two⟩ := radioDown (hsetF 0x2000 1 0 1 v) rfl
    exact ⟨one, two, fun _ => (hgetF_hsetF_same _ _ _ (by decide)).trans rfl, fun up => absurd down up⟩
  · rw [if_neg down]
    obtain ⟨one, two⟩ := radioDown v rfl
    exact ⟨one, two, fun h => absurd h down, fun _ => rfl⟩

/-- The host is told that the link left UP. -/
def downTold (s : State) : State := irq 5 (showPower 3 (hincW 0x201C (hsetF 0x2000 1 0 1 s)))

theorem downTold_only (s : State) : ∃ r q, downTold s = { s with hreg := r, tender := { s.tender with posted := q } } := by
  obtain ⟨r, shown⟩ : ∃ r, showPower 3 (hincW 0x201C (hsetF 0x2000 1 0 1 s)) = { s with hreg := r } :=
    hwr_only _ _ (hwr_only _ _ (hwr_only _ _ ⟨s.hreg, rfl⟩))
  obtain ⟨r', q, e⟩ := irq_eq 5 { s with hreg := r }
  exact ⟨r', q, by rw [downTold, shown, e]⟩

theorem downTold_eq (s : State) : (downTold s).reg = s.reg ∧ (downTold s).linkR = s.linkR ∧ (downTold s).linkH = s.linkH ∧ (downTold s).age = s.age ∧
    hgetF (downTold s) 0x2000 1 0 = 1 ∧ hrd (downTold s) 0x201C = hrd s 0x201C + 1 ∧ hgetB (downTold s) 0x4D00 5 = true := by
  have others {o : Nat} (vectors : o ≠ 0x4800) (sources : o ≠ 0x4D00) := hrd_irq_other 5 (showPower 3 (hincW 0x201C (hsetF 0x2000 1 0 1 s))) vectors sources
  obtain ⟨r, q, only⟩ := downTold_only s
  refine ⟨by rw [only], by rw [only], by rw [only], by rw [only], ?_, ?_, hgetB_irq_same 5 _⟩
  · rw [downTold, hgetF_eq_of_hrd (others (by decide) (by decide)), showPower, hgetF_hsetF_other _ _ (by decide) (by decide), hincW, hgetF_hwr,
      if_neg (by decide), hgetF_hsetF_same _ _ _ (by decide)]
    rfl
  · rw [downTold, others (by decide) (by decide), showPower, hsetF, hrd_hwr_other _ _ (by decide), hincW, hrd_hwr_same, hsetF,
      hrd_hwr_other _ _ (by decide)]

/-- The radio end in training. -/
theorem barrierDown_eq (s : State) : barrierDown s =
    let u := onlyIf (upR s || upH s) linkTrains s
    let v := if upR s then setF 0x10 1 0 1 u else u
    if upH s then downTold v else v := by
  have trains : upR (onlyIf (upR s || upH s) linkTrains s) = upR s ∧ upH (onlyIf (upR s || upH s) linkTrains s) = upH s := by
    unfold onlyIf
    split <;> exact ⟨rfl, rfl⟩
  have host : upH (if upR s then setF 0x10 1 0 1 (onlyIf (upR s || upH s) linkTrains s) else onlyIf (upR s || upH s) linkTrains s) = upH s := by
    split
    · exact trains.2
    · exact trains.2
  unfold barrierDown
  simp only [trains.1, host]
  rfl

/-- Neither end is UP after the link went down, and the queues stay. -/
theorem barrierDown_down (s : State) : upR (barrierDown s) = false ∧ upH (barrierDown s) = false ∧
    (barrierDown s).linkR = s.linkR ∧ (barrierDown s).linkH.q = s.linkH.q := by
  have trains : (onlyIf (upR s || upH s) linkTrains s).reg = s.reg ∧ (onlyIf (upR s || upH s) linkTrains s).hreg = s.hreg ∧
      (onlyIf (upR s || upH s) linkTrains s).linkR = s.linkR ∧ (onlyIf (upR s || upH s) linkTrains s).linkH.q = s.linkH.q := by
    unfold onlyIf
    split <;> exact ⟨rfl, rfl, rfl, rfl⟩
  rw [barrierDown_eq]
  generalize onlyIf (upR s || upH s) linkTrains s = u at *
  obtain ⟨reg, hreg, linkR, q⟩ := trains
  have radio : upR (if upR s then setF 0x10 1 0 1 u else u) = false ∧ (if upR s then setF 0x10 1 0 1 u else u).linkR = s.linkR ∧
      (if upR s then setF 0x10 1 0 1 u else u).linkH.q = s.linkH.q ∧ (if upR s then setF 0x10 1 0 1 u else u).hreg = s.hreg := by
    cases up : upR s with
    | true =>
      rw [if_pos rfl]
      refine ⟨?_, linkR, q, hreg⟩
      rw [upR, getF_setF_same _ _ _ _ _ (by decide)]
      rfl
    | false =>
      rw [if_neg (by decide)]
      refine ⟨?_, linkR, q, hreg⟩
      rw [← up]
      exact upR_eq (by rw [rd, reg, rd])
  simp only
  generalize (if upR s then setF 0x10 1 0 1 u else u) = v at *
  obtain ⟨down, linkR', q', hreg'⟩ := radio
  cases up : upH s with
  | true =>
    obtain ⟨reg₂, linkR₂, linkH₂, -, training, -⟩ := downTold_eq v
    rw [if_pos rfl]
    refine ⟨(upR_eq (by rw [rd, reg₂, rd])).trans down, ?_, linkR₂.trans linkR', by rw [linkH₂, q']⟩
    rw [upH, training]
    rfl
  | false =>
    rw [if_neg (by decide)]
    refine ⟨down, ?_, linkR', q'⟩
    rw [← up]
    exact upH_eq (by rw [hgetF, hrd, hreg', ← hrd, ← hgetF])

/-- A link UP at both ends that goes down. -/
theorem barrierDown_both {s : State} (radio : upR s = true) (host : upH s = true) : barrierDown s = downTold (setF 0x10 1 0 1 (linkTrains s)) := by
  rw [barrierDown_eq, radio, host]
  rfl

/-- BARRIER_SILENCE of a link UP at both ends (R307). -/
theorem barrierSilence_up {s : State} (radio : upR s = true) (host : upH s = true) : Completes .barrierSilence s fun t =>
    getF t 0x10 1 0 = 1 ∧ hgetF t 0x2000 1 0 = 1 ∧ t.linkH.train = t.age ∧ min s.linkR.heard s.linkH.heard + clocksOfNs 3000000 ≤ t.age ∧
      t.linkR.q = s.linkR.q ∧ t.linkH.q = s.linkH.q ∧ hrd t 0x201C = hrd s 0x201C + 1 ∧ hgetB t 0x4D00 5 = true := by
  have shown := linkShown_reachAge (min s.linkR.heard s.linkH.heard + clocksOfNs 3000000) s
  have age := age_reachAge (min s.linkR.heard s.linkH.heard + clocksOfNs 3000000) s
  have linkR : (reachAge (min s.linkR.heard s.linkH.heard + clocksOfNs 3000000) s).linkR = s.linkR := by
    have := congrArg State.linkR (clocks_only (min s.linkR.heard s.linkH.heard + clocksOfNs 3000000 - s.age) s); exact this
  have linkH : (reachAge (min s.linkR.heard s.linkH.heard + clocksOfNs 3000000) s).linkH = s.linkH := by
    have := congrArg State.linkH (clocks_only (min s.linkR.heard s.linkH.heard + clocksOfNs 3000000 - s.age) s); exact this
  have count := hrd_reachAge (min s.linkR.heard s.linkH.heard + clocksOfNs 3000000) s 0x201C
  have row : barrierSilence s = barrierDown (reachAge (min s.linkR.heard s.linkH.heard + clocksOfNs 3000000) s) := if_pos (by rw [radio]; rfl)
  rw [barrierDown_both (shown.upR.trans radio) (shown.upH.trans host)] at row
  generalize reachAge (min s.linkR.heard s.linkH.heard + clocksOfNs 3000000) s = u at *
  obtain ⟨reg, linkR', linkH', age', training, counted, source⟩ := downTold_eq (setF 0x10 1 0 1 (linkTrains u))
  refine ⟨_, congrArg Host.Outcome.next row, ?_, training, ?_, ?_, ?_, ?_, ?_, source⟩
  · rw [getF, rd, reg, ← rd, ← getF, getF_setF_same _ _ _ _ _ (by decide)]
    rfl
  · rw [linkH', age']
    rfl
  · rw [age']
    change _ ≤ u.age
    omega
  · rw [linkR']
    change u.linkR.q = _
    rw [linkR]
  · rw [linkH']
    change u.linkH.q = _
    rw [linkH]
  · rw [counted]
    exact congrArg (· + 1) count

/-- The messages in flight sent once more. -/
def resentBy (d : Die) (s : State) : State :=
  let u := reachAge ((getEnd s d).since + clocksOfNs 10000) s
  let v := setEnd d { getEnd s d with tries := (getEnd s d).tries + 1, since := u.age } u
  if d = .host then hwr 0x2010 (hrd v 0x2010 + BitVec.ofNat 32 (getEnd s d).sent) v else v

theorem getEnd_setEnd (d : Die) (l : LinkEnd) (s : State) : getEnd (setEnd d l s) d = l := by cases d <;> rfl

theorem resentBy_eq (d : Die) (s : State) : getEnd (resentBy d s) d = { getEnd s d with tries := (getEnd s d).tries + 1, since := (resentBy d s).age } ∧
    (getEnd s d).since + clocksOfNs 10000 ≤ (resentBy d s).age ∧ upEnd (resentBy d s) d = upEnd s d ∧
    (d = .host → hrd (resentBy d s) 0x2010 = hrd s 0x2010 + BitVec.ofNat 32 (getEnd s d).sent) := by
  have shown := linkShown_reachAge ((getEnd s d).since + clocksOfNs 10000) s
  have age := age_reachAge ((getEnd s d).since + clocksOfNs 10000) s
  have count := hrd_reachAge ((getEnd s d).since + clocksOfNs 10000) s 0x2010
  unfold resentBy
  generalize reachAge ((getEnd s d).since + clocksOfNs 10000) s = u at *
  have late : (getEnd s d).since + clocksOfNs 10000 ≤ u.age := by omega
  cases d with
  | radio => exact ⟨rfl, late, shown.upR, fun h => absurd h (by decide)⟩
  | host =>
    simp only [if_true]
    refine ⟨rfl, late, ?_, fun _ => ?_⟩
    · exact (LinkShown.hwr 0x2010 _ _ (by decide)).upH.trans shown.upH
    · rw [hrd_hwr_same]
      exact congrArg (· + BitVec.ofNat 32 s.linkH.sent) count

theorem barrierRetxTimeout_sends {d : Die} {s : State} (up : upEnd s d = true) (sent : (getEnd s d).sent ≠ 0) (few : (getEnd s d).tries < 15) :
    barrierRetxTimeout d s = resentBy d s := by
  rw [barrierRetxTimeout, if_neg (by rw [up]; simpa using sent), if_neg (by omega)]
  rfl

theorem barrierRetxTimeout_gives {d : Die} {s : State} (up : upEnd s d = true) (sent : (getEnd s d).sent ≠ 0) (many : 15 ≤ (getEnd s d).tries) :
    barrierRetxTimeout d s = barrierDown (reachAge ((getEnd s d).since + clocksOfNs 10000) s) := by
  rw [barrierRetxTimeout, if_neg (by rw [up]; simpa using sent), if_pos many]

/-! ### Messages taken (R310, R311) -/

theorem ackEnd_nothing {d : Die} {ack : Nat} {s : State}
    (nothing : (ack + 65536 - (getEnd s d).base) % 65536 = 0 ∨ (getEnd s d).sent < (ack + 65536 - (getEnd s d).base) % 65536) : ackEnd d ack s = s :=
  if_pos nothing

/-- An end whose oldest `n` messages are acknowledged. -/
def acked (n : Nat) (s : State) (l : LinkEnd) : LinkEnd :=
  { l with q := l.q.drop n, base := (l.base + n) % 65536, sent := l.sent - n, tries := 0, since := s.age }

theorem ackEnd_some {d : Die} {ack n : Nat} {s : State} (e : (ack + 65536 - (getEnd s d).base) % 65536 = n) (some : n ≠ 0)
    (sent : n ≤ (getEnd s d).sent) : ackEnd d ack s = onlyIf (d == .radio) drainHeld (pumpEnd d (setEnd d (acked n s (getEnd s d)) s)) := by
  rw [ackEnd, if_neg (by rw [e]; omega), e]
  rfl

/-- What the window lets leave changes only the count of messages sent. -/
theorem pumpEnd_end (d : Die) (s : State) : ∃ n, getEnd (pumpEnd d s) d = { getEnd s d with sent := n } := by
  have pumped (l : LinkEnd) (up : Bool) : ∃ n, l.pump up = { l with sent := n } := by
    unfold LinkEnd.pump
    split
    · exact ⟨_, rfl⟩
    · exact ⟨l.sent, rfl⟩
  cases d with
  | radio => exact pumped s.linkR (upR s)
  | host => exact pumped s.linkH (upH s)

/-- With nothing held nothing leaves. -/
theorem drainHeld_empty {s : State} (events : s.keeper.evHold = []) (uplinks : s.keeper.upHold = []) (lost : s.keeper.evLost = 0) :
    (drainHeld s).linkR = s.linkR := by
  have evs : (drainEvents s).linkR = s.linkR ∧ (drainEvents s).keeper.upHold = [] := by
    unfold drainEvents
    split
    · simp only [events, List.take_nil, List.drop_nil, forAll, List.foldl_nil, onlyIf, List.isEmpty_nil, if_true, eventsLost, lost]
      exact ⟨trivial, uplinks⟩
    · exact ⟨rfl, uplinks⟩
  unfold drainHeld drainUp
  split
  · simp only [evs.2, List.take_nil, List.drop_nil, forAll, List.foldl_nil]
    exact evs.1
  · exact evs.1

theorem getEnd_endHeard (d : Die) (s : State) : getEnd (endHeard d s) d = { getEnd s d with heard := s.age } := getEnd_setEnd d _ s

/-- A message that names its own row's type, or none that fits. -/
theorem barrierRow_own {typ : Nat} {d : Die} {m : BMsg} {handle : State → State} {s : State} (own : m.typ.toNat = typ ∨ bCause s d m ≠ 0) :
    barrierRow typ d m handle s = barrierTake d m handle s := if_neg (by omega)

theorem ackMsg_eq {d : Die} {m : BMsg} {s : State} (up : upEnd s d = true) (crc : bmsgCrcOk m = true) (typ : m.typ = 0) (len : m.len = 0)
    (empty : m.payload = []) : ackMsg d m s = ackEnd d m.ack.toNat (endHeard d s) := by
  rw [ackMsg, barrierRow_own (.inl (by rw [typ]; rfl)), barrierTake, if_neg (by rw [up]; decide), if_neg (by rw [crc]; decide), if_pos typ,
    if_pos ⟨len, empty⟩]

/-- The state that has taken a message in sequence, before its form is judged. -/
def tookIn (d : Die) (m : BMsg) (s : State) : State :=
  ackEnd d m.ack.toNat (setEnd d { getEnd (endHeard d s) d with rxNext := ((getEnd (endHeard d s) d).rxNext + 1) % 65536 } (endHeard d s))

section
variable {d : Die} {m : BMsg} {handle : State → State} {s : State} (up : upEnd s d = true) (crc : bmsgCrcOk m = true) (typ : m.typ ≠ 0)
include up crc typ

theorem barrierTake_outOfSequence (other : m.seq.toNat ≠ (getEnd s d).rxNext) : barrierTake d m handle s = endHeard d s := by
  rw [barrierTake, if_neg (by rw [up]; decide), if_neg (by rw [crc]; decide), if_neg typ]
  simp only [getEnd_endHeard]
  exact if_pos other

theorem barrierTake_inSequence (next : m.seq.toNat = (getEnd s d).rxNext) : barrierTake d m handle s =
    if bCause (tookIn d m s) d m ≠ 0 then rejectMsg d (bCause (tookIn d m s) d m) m (tookIn d m s)
    else handle (onlyIf (d == .host) (hincW 0x2008) (tookIn d m s)) := by
  rw [barrierTake, if_neg (by rw [up]; decide), if_neg (by rw [crc]; decide), if_neg typ]
  simp only [tookIn, getEnd_endHeard]
  exact if_neg (not_not.mpr next)

end

/-- The form of a message is judged by the state of the radio die alone. -/
theorem bCause_congr {s t : State} (h : rd t 0x10000 = rd s 0x10000) (d : Die) (m : BMsg) : bCause t d m = bCause s d m := by
  have island : islandOnly t = islandOnly s := by rw [islandOnly, radioPower, getF_eq_of_rd h, ← radioPower, ← islandOnly]
  have fields : bFieldsOk t m = bFieldsOk s m := by rw [bFieldsOk, island, ← bFieldsOk]
  rw [bCause, fields, island, ← bCause]

theorem rd_ackEnd (d : Die) (ack : Nat) (s : State) {o : Nat} (index : o ≠ 0xC0020) (oldest : o ≠ 0xC0024) : rd (ackEnd d ack s) o = rd s o := by
  unfold ackEnd
  simp only
  split
  · rfl
  · cases d with
    | radio => exact ((Drained.drainHeld _).regs o index oldest).trans rfl
    | host => rfl

theorem rd_tookIn (d : Die) (m : BMsg) (s : State) {o : Nat} (index : o ≠ 0xC0020) (oldest : o ≠ 0xC0024) : rd (tookIn d m s) o = rd s o := by
  rw [tookIn, rd_ackEnd _ _ _ index oldest]
  cases d <;> rfl

theorem bCause_tookIn (d : Die) (m : BMsg) (s : State) : bCause (tookIn d m s) d m = bCause s d m :=
  bCause_congr (rd_tookIn d m s (by decide) (by decide)) d m

/-- A message that acknowledges nothing new leaves its mark in the end's numbers alone. -/
theorem tookIn_unacknowledging {d : Die} {m : BMsg} {s : State} (same : m.ack.toNat = (getEnd s d).base) (_small : (getEnd s d).base < 65536) :
    tookIn d m s = setEnd d { getEnd s d with heard := s.age, rxNext := ((getEnd s d).rxNext + 1) % 65536 } (endHeard d s) := by
  rw [tookIn, getEnd_endHeard]
  exact ackEnd_nothing (.inl (by rw [getEnd_setEnd]; dsimp only; omega))

/-- The host die's record of a message that fits no type. -/
theorem rejectMsg_host {cause : Nat} (small : cause < 8) (m : BMsg) (s : State) :
    let t := rejectMsg .host cause m s
    hrd t 0x2014 = hrd s 0x2014 + 1 ∧ hgetB t 0x2000 16 = true ∧ hgetF t 0x2018 7 0 = m.typ.toNat ∧ hgetF t 0x2018 10 8 = cause ∧
      hgetF t 0x2018 31 16 = m.len.toNat ∧ hgetB t 0x4D00 7 = true ∧ t.linkH = s.linkH ∧ t.tender.hold1 = s.tender.hold1 := by
  have typ := m.typ.isLt
  have len := m.len.isLt
  have others {o : Nat} (vectors : o ≠ 0x4800) (sources : o ≠ 0x4D00) := hrd_irq_other 7 (hsetB 0x2000 16 true (hincW 0x2014
    (hwr 0x2018 (BitVec.ofNat 32 (m.typ.toNat + 256 * cause + 65536 * m.len.toNat)) s))) vectors sources
  have info (hi lo : Nat) : hgetF (rejectMsg .host cause m s) 0x2018 hi lo =
      fieldOf (BitVec.ofNat 32 (m.typ.toNat + 256 * cause + 65536 * m.len.toNat)) hi lo := by
    rw [rejectMsg, hgetF_eq_of_hrd (others (by decide) (by decide)), hgetF, hrd_hsetB_other _ _ _ (by decide), hincW, hrd_hwr_other _ _ (by decide), hrd_hwr_same]
  have word : (BitVec.ofNat 32 (m.typ.toNat + 256 * cause + 65536 * m.len.toNat)).toNat = m.typ.toNat + 256 * cause + 65536 * m.len.toNat := by
    rw [BitVec.toNat_ofNat]
    exact Nat.mod_eq_of_lt (by omega)
  obtain ⟨r, noted⟩ : ∃ r, hsetB 0x2000 16 true (hincW 0x2014 (hwr 0x2018 (BitVec.ofNat 32 (m.typ.toNat + 256 * cause + 65536 * m.len.toNat)) s)) =
      { s with hreg := r } := hwr_only _ _ (hwr_only _ _ (hwr_only _ _ ⟨s.hreg, rfl⟩))
  obtain ⟨r', q, told⟩ := irq_eq 7 { s with hreg := r }
  have only : rejectMsg .host cause m s = { s with hreg := r', tender := { s.tender with posted := q } } := by rw [rejectMsg, noted, told]
  refine ⟨?_, ?_, ?_, ?_, ?_, hgetB_irq_same 7 _, by rw [only], by rw [only]⟩
  · rw [rejectMsg, others (by decide) (by decide), hrd_hsetB_other _ _ _ (by decide), hincW, hrd_hwr_same, hrd_hwr_other _ _ (by decide)]
  · rw [rejectMsg, hgetB_eq_of_hrd (others (by decide) (by decide)), hgetB_hsetB _ _ _ _ _ (by decide), if_pos ⟨rfl, rfl⟩]
  · rw [info, fieldOf, Nat.shiftRight_eq_div_pow, word]
    omega
  · rw [info, fieldOf, Nat.shiftRight_eq_div_pow, word]
    omega
  · rw [info, fieldOf, Nat.shiftRight_eq_div_pow, word]
    omega

theorem logWrite_reqs (source code : Nat) (args : List Byte) (s : State) : (logWrite source code args s).keeper.reqs = s.keeper.reqs := by
  unfold logWrite
  simp only
  split <;> rfl

/-! ### LINK_STATE (R309, R312, R314) -/

/-- The numbering of the other end, which a LINK_STATE beside the queues moves. -/
theorem noteLinkState_other (d : Die) (m : BMsg) (s : State) :
    getEnd (noteLinkState d m s) d = getEnd s d ∧ upEnd (noteLinkState d m s) d = upEnd s d ∧ (noteLinkState d m s).reg = s.reg := by
  unfold noteLinkState
  simp only
  split
  · cases d <;> exact ⟨rfl, rfl, rfl⟩
  · exact ⟨rfl, rfl, rfl⟩

theorem comesThrough_parts {typ : Nat} {d : Die} {m : BMsg} {s : State} (through : comesThrough typ d m s = true) :
    upEnd s d = true ∧ bmsgCrcOk m = true ∧ m.typ.toNat = typ ∧ m.typ ≠ 0 ∧ m.seq.toNat = (getEnd s d).rxNext ∧ bCause s d m = 0 := by
  simp only [comesThrough, Bool.and_eq_true, beq_iff_eq, bne_iff_ne] at through
  obtain ⟨⟨⟨⟨⟨up, crc⟩, typ'⟩, some⟩, next⟩, fits⟩ := through
  exact ⟨up, crc, typ', fun zero => some (by rw [← typ', zero]; rfl), next, fits⟩

/-- A LINK_STATE that comes through is handled. -/
theorem linkState_through {d : Die} {m : BMsg} {s : State} (through : comesThrough 1 d m s = true) (handle : State → State) :
    barrierRow 1 d m handle (noteLinkState d m s) = handle (onlyIf (d == .host) (hincW 0x2008) (tookIn d m (noteLinkState d m s))) := by
  obtain ⟨up, crc, typ, some, next, fits⟩ := comesThrough_parts through
  obtain ⟨own, ups, reg⟩ := noteLinkState_other d m s
  have cause : bCause (tookIn d m (noteLinkState d m s)) d m = 0 :=
    ((bCause_tookIn d m _).trans (bCause_congr (by rw [rd, reg, rd]) d m)).trans fits
  rw [barrierRow_own (.inl typ), barrierTake_inSequence (ups.trans up) crc some (by rw [own]; exact next), if_neg (not_not.mpr cause)]

/-- `t` shows the same radio-die state as `s` and knows the same of the host die's peer. -/
structure PeerKept (s t : State) : Prop where
  power : hrd t 0x1000 = hrd s 0x1000
  peer : t.linkH.peerResets = s.linkH.peerResets

namespace PeerKept

theorem refl (s : State) : PeerKept s s := ⟨rfl, rfl⟩

theorem trans {s t u : State} (h : PeerKept s t) (k : PeerKept t u) : PeerKept s u := ⟨k.power.trans h.power, k.peer.trans h.peer⟩

theorem tenderEvtMsg (code target tag status : Nat) (args : List Byte) (s : State) : PeerKept s (tenderEvtMsg code target tag status args s) := by
  refine ⟨sameButHeld_tenderEvtMsg code target tag status args s 0x1000 (by decide) (by decide) (by decide), ?_⟩
  obtain ⟨r, q, x, a, b, e⟩ := tenderEvtMsg_eq code target tag status args s
  rw [e]

theorem wakeEnds (g : TagUse) (status st : Nat) (s : State) : PeerKept s (wakeEnds g status st s) := by
  unfold Machine.wakeEnds
  generalize leBytes 2 g.opcode ++ leBytes 2 0 ++ (if status = 0 ∨ status = 7 then leBytes 1 st ++ leBytes 3 0 else []) = args
  have freed (tags : List TagUse) : PeerKept s { s with tender := { s.tender with tags := tags } } := ⟨rfl, rfl⟩
  exact (freed _).trans (tenderEvtMsg _ _ _ _ _ _)

theorem forAll {α : Type} {f : α → State → State} (each : ∀ x s, PeerKept s (f x s)) (xs : List α) : ∀ s, PeerKept s (forAll xs f s) := by
  induction xs with
  | nil => exact refl
  | cons x xs ih => exact fun s => (each x s).trans (ih _)

theorem wakeReached (st : Nat) (s : State) : PeerKept s (wakeReached st s) := by
  unfold Machine.wakeReached
  split
  · exact refl s
  · have dropped (w : List (TagUse × Nat)) : PeerKept s { s with tender := { s.tender with wakeWait := w } } := ⟨rfl, rfl⟩
    have ended (done : List (TagUse × Nat)) (u : State) : PeerKept u (Machine.forAll done (fun w => Machine.wakeEnds w.1 0 st) u) :=
      forAll (α := TagUse × Nat) (fun w v => wakeEnds w.1 0 st v) done u
    exact (dropped _).trans (ended _ _)

end PeerKept

theorem takeResetsH_known {n : Nat} {s : State} (known : s.linkH.peerResets = none ∨ s.linkH.peerResets = some n) :
    takeResetsH n s = { s with linkH := { s.linkH with peerResets := some n } } :=
  if_neg (by rcases known with e | e <;> simp [e])

theorem peerResets_tookIn_host (m : BMsg) (s : State) : (tookIn .host m s).linkH.peerResets = s.linkH.peerResets := by
  have pumped (v : State) : (pumpEnd .host v).linkH.peerResets = v.linkH.peerResets := by
    obtain ⟨n, e⟩ := pumpEnd_end .host v
    have told := congrArg LinkEnd.peerResets e
    exact told
  have kept (ack : Nat) (u : State) : (ackEnd .host ack u).linkH.peerResets = u.linkH.peerResets := by
    unfold ackEnd
    simp only
    split
    · rfl
    · exact (pumped _).trans rfl
  exact (kept _ _).trans rfl

/-- A state of the radio die told to the host (R326). -/
theorem linkState_toHost {m : BMsg} {s : State} (through : comesThrough 1 .host m s = true)
    (known : s.linkH.peerResets = none ∨ s.linkH.peerResets = some (leAt m.payload 0 2)) : Completes (.linkState .host m) s fun t =>
    hgetF t 0x1000 5 4 = leAt m.payload 4 1 ∧ t.linkH.peerResets = some (leAt m.payload 0 2) := by
  obtain ⟨-, -, typ, -, -, fits⟩ := comesThrough_parts through
  have state : leAt m.payload 4 1 < 4 := by
    by_contra high
    have wrong : bStateOk .host m = false := by
      have over3 : decide (bAt m 4 1 < 4) = false := decide_eq_false high
      rw [bStateOk, over3, Bool.false_and]
    have bad : ¬ bCause s .host m = 0 := by
      rw [bCause]
      simp only [typ, wrong, show ¬ (0xD ≤ 1) by decide, if_false]
      repeat' split
      all_goals simp_all
    exact bad fits
  have counted : (onlyIf (Die.host == Die.host) (hincW 0x2008) (tookIn .host m (noteLinkState .host m s))).linkH.peerResets = s.linkH.peerResets :=
    (peerResets_tookIn_host m _).trans (congrArg LinkEnd.peerResets (noteLinkState_other .host m s).1)
  refine ⟨_, congrArg Host.Outcome.next (linkState_through through _), ?_⟩
  generalize onlyIf (Die.host == Die.host) (hincW 0x2008) (tookIn .host m (noteLinkState .host m s)) = u at *
  rw [← counted] at known
  obtain ⟨power, peer⟩ := PeerKept.wakeReached (bAt m 4 1) (showPower (bAt m 4 1) (takeResetsH (bAt m 0 2) u))
  refine ⟨?_, peer.trans ?_⟩
  · rw [hgetF_eq_of_hrd power, showPower, hgetF_hsetF_same _ _ _ (by decide)]
    exact Nat.mod_eq_of_lt state
  · rw [takeResetsH_known (n := bAt m 0 2) known]
    rfl

/-- The state of the host die told to the radio die, with its XOFF bits (R314). -/
theorem linkState_toRadio {m : BMsg} {s : State} (through : comesThrough 1 .radio m s = true) : Completes (.linkState .radio m) s fun t =>
    t.linkR.xoff = leAt m.payload 5 1 ∧ t.linkR.peerResets = some (leAt m.payload 0 2) := by
  refine ⟨_, congrArg Host.Outcome.next (linkState_through through _), ?_⟩
  generalize onlyIf (Die.radio == Die.host) (hincW 0x2008) (tookIn .radio m (noteLinkState .radio m s)) = u
  have learnt : (takeResetsR (bAt m 0 2) u).linkR.peerResets = some (leAt m.payload 0 2) := by
    unfold takeResetsR
    simp only
    split <;> rfl
  generalize takeResetsR (bAt m 0 2) u = v at *
  have drained := Drained.drainHeld { v with linkR := { v.linkR with xoff := bAt m 5 1 } }
  exact ⟨drained.xoff, drained.peerResets.trans learnt⟩

/-! ### The obligation -/

/-- Settles O32. -/
theorem barrierLink : Obligations.BarrierLink := by
  refine ⟨fun h r s runs powered downR downH => training_bothRun downR downH runs powered, fun h r s => ?training, fun s => ?retry, fun s => ?silence,
    fun d s => ?resend, fun d m s up crc typ len empty => ?ack, fun m s typ up => ?discard, fun m s up crc typ next bad small same base => ?rejectHost,
    fun m s up crc typ next bad same base => ?rejectRadio, fun m s through known => linkState_toHost through known,
    fun m s through => linkState_toRadio through⟩
  case training =>
    refine ⟨fun up => congrArg Host.Outcome.next (if_pos up), fun downR downH dead runs trains => ?_, fun downR downH alive away => ?_⟩
    · refine ⟨_, congrArg Host.Outcome.next (barrierTrainingRow_dead downR downH dead runs trains), ?_, ?_, ?_⟩
      · exact ((onlyHregs_refl _ s).hsetF 1 0 0 (by decide)).hwr _ (by decide)
      · rw [hincW, hgetF_hwr, if_neg (by decide), hgetF_hsetF_same _ _ _ (by decide)]
        rfl
      · rw [hincW, hrd_hwr_same, hsetF, hrd_hwr_other _ _ (by decide)]
    · refine ⟨_, congrArg Host.Outcome.next (barrierTrainingRow_hostAway downR downH alive away), onlyRegs_wr _ _ _, ?_⟩
      rw [getF_setF_same _ _ _ _ _ (by decide)]
      rfl
  case retry =>
    by_cases up : getF s 0x10 1 0 ≠ 0 ∧ hgetF s 0x2000 1 0 ≠ 0
    · exact ⟨_, congrArg Host.Outcome.next ((barrierRetry_eq s).trans (if_pos up)), fun down => absurd down up.1, fun _ => rfl,
        fun down => absurd down up.2, fun _ => rfl⟩
    · exact ⟨_, congrArg Host.Outcome.next ((barrierRetry_eq s).trans (if_neg up)), retried_shown s⟩
  case silence =>
    refine ⟨barrierSilence_up, fun downR downH => congrArg Host.Outcome.next ?_⟩
    rw [barrierSilence, downR, downH]
    rfl
  case resend =>
    refine ⟨fun idle => congrArg Host.Outcome.next (if_pos ?_), fun up sent few => ?_, fun up sent many => ?_⟩
    · rcases idle with down | none
      · exact .inl (by rw [down]; rfl)
      · exact .inr none
    · obtain ⟨l, late, still, count⟩ := resentBy_eq d s
      exact ⟨_, congrArg Host.Outcome.next (barrierRetxTimeout_sends up sent few), l, late, still.trans up, count⟩
    · obtain ⟨radio, host, linkR, queue⟩ := barrierDown_down (reachAge ((getEnd s d).since + clocksOfNs 10000) s)
      have same : (reachAge ((getEnd s d).since + clocksOfNs 10000) s).linkR = s.linkR ∧ (reachAge ((getEnd s d).since + clocksOfNs 10000) s).linkH = s.linkH :=
        ⟨by have := congrArg State.linkR (clocks_only ((getEnd s d).since + clocksOfNs 10000 - s.age) s); exact this,
          by have := congrArg State.linkH (clocks_only ((getEnd s d).since + clocksOfNs 10000 - s.age) s); exact this⟩
      refine ⟨_, congrArg Host.Outcome.next (barrierRetxTimeout_gives up sent many), ?_⟩
      cases d with
      | radio => exact ⟨radio, congrArg LinkEnd.q (linkR.trans same.1)⟩
      | host => exact ⟨host, queue.trans (congrArg LinkEnd.q same.2)⟩
  case ack =>
    intro n
    have row := ackMsg_eq up crc typ len empty
    refine ⟨fun nothing => congrArg Host.Outcome.next (row.trans (ackEnd_nothing ?_)), fun some sent free => ?_⟩
    · rw [getEnd_endHeard]
      exact nothing
    · rw [ackEnd_some (n := n) (by rw [getEnd_endHeard]) some (by rw [getEnd_endHeard]; exact sent), getEnd_endHeard] at row
      refine ⟨_, congrArg Host.Outcome.next row, ?_⟩
      obtain ⟨k, pumped⟩ := pumpEnd_end d (setEnd d (acked n (endHeard d s) { getEnd s d with heard := s.age }) (endHeard d s))
      rw [getEnd_setEnd] at pumped
      have drained : getEnd (onlyIf (d == .radio) drainHeld (pumpEnd d (setEnd d (acked n (endHeard d s) { getEnd s d with heard := s.age }) (endHeard d s)))) d =
          getEnd (pumpEnd d (setEnd d (acked n (endHeard d s) { getEnd s d with heard := s.age }) (endHeard d s))) d := by
        cases d with
        | radio =>
          obtain ⟨events, uplinks, lost⟩ := free.resolve_left (by decide)
          exact drainHeld_empty events uplinks lost
        | host => rfl
      rw [drained, pumped]
      exact ⟨rfl, rfl, rfl, rfl⟩
  case discard =>
    refine ⟨fun wrong => congrArg Host.Outcome.next ?_, fun crc other => congrArg Host.Outcome.next ?_⟩
    · rw [eskelEvent, barrierRow_own (.inl typ), barrierTake, if_neg (by rw [up]; decide), if_pos (by rw [wrong]; rfl)]
      rfl
    · rw [eskelEvent, barrierRow_own (.inl typ), barrierTake_outOfSequence up crc (by intro zero; rw [zero] at typ; exact absurd typ (by decide)) other]
      rfl
  case rejectHost =>
    have row : eskelEvent m s = rejectMsg .host (bCause s .host m) m (tookIn .host m s) := by
      rw [eskelEvent, barrierRow_own (.inr bad), barrierTake_inSequence (d := .host) up crc typ next, if_pos (by rw [bCause_tookIn]; exact bad), bCause_tookIn]
    obtain ⟨count, rejected, shownTyp, shownCause, shownLen, source, linkH, hold⟩ := rejectMsg_host small m (tookIn .host m s)
    rw [tookIn_unacknowledging (d := .host) same base] at row count rejected shownTyp shownCause shownLen source linkH hold
    refine ⟨_, congrArg Host.Outcome.next row, count, rejected, shownTyp, shownCause, shownLen, source, ?_, hold⟩
    rw [linkH]
    rfl
  case rejectRadio =>
    have row : eskelReq m s = rejectMsg .radio (bCause s .radio m) m (tookIn .radio m s) := by
      rw [eskelReq, barrierRow_own (.inr bad), barrierTake_inSequence (d := .radio) up crc typ next, if_pos (by rw [bCause_tookIn]; exact bad), bCause_tookIn]
    rw [tookIn_unacknowledging (d := .radio) same base] at row
    refine ⟨_, congrArg Host.Outcome.next row, ?_⟩
    generalize taken : setEnd .radio { getEnd s .radio with heard := s.age, rxNext := ((getEnd s .radio).rxNext + 1) % 65536 } (endHeard .radio s) = u
    have keeper : u.keeper = s.keeper := by rw [← taken]; rfl
    have number : u.linkR.rxNext = (s.linkR.rxNext + 1) % 65536 := by rw [← taken]; rfl
    refine ⟨(logWrite_reqs _ _ _ u).trans (by rw [keeper]), ?_, (Drained.logWrite _ _ _ u).rxNext.trans number⟩
    rw [← keeper]
    exact (logWrite_logged _ _ _ u).2

end Sys2Proof.Machine
end

section
/-! SUPPORT. The reading commands of the Keeper (O53): a request that is taken and answered at once, here or at a node's home, and the two reads
that latch before they answer (R142, R332, R354, R358-R372). -/

namespace Sys2Proof.Machine

/-! ### Requests answered at once -/

section
variable {c : Instr} {op status : Nat} {q : Req} {b : List Byte} {s : State}

theorem callerDirect (h : forKeeper op q s = true) : direct s (callerOf s op q) = true := direct_callerOf h rfl rfl

/-- A request answered at once through a window of this device, whether a device or a node is named. -/
theorem reply_direct (h : direct s (callerOf s op q) = true) (status : Nat) (b : List Byte) :
    keeperOnlyAnswered op q status b s (reply (callerOf s op q) status b (takeReq op q s)) := by
  obtain ⟨rq, taken⟩ : ∃ rq, takeReq op q s = withReqs rq s := ⟨_, takeReq_eq op q s⟩
  have same : direct (withReqs rq s) (callerOf s op q) = true := h
  rw [taken, reply, if_pos same]
  exact ⟨⟨sendR_q _ _ _, by rw [taken]; rfl, rfl⟩, rfl, by rw [taken]; rfl⟩

/-- The state with the request taken differs from `s` in the requests that wait alone. -/
theorem answered_of_taken {f : State → State} (h : direct s (callerOf s op q) = true)
    (ends : ∀ rq, f (withReqs rq s) = reply (callerOf s op q) status b (withReqs rq s)) : keeperOnlyAnswered op q status b s (f (takeReq op q s)) := by
  obtain ⟨rq, taken⟩ : ∃ rq, takeReq op q s = withReqs rq s := ⟨_, takeReq_eq op q s⟩
  have replied := reply_direct h status b
  rw [taken] at replied ⊢
  rw [ends]
  exact replied

/-- A reading command of another length than its own (R354). -/
theorem readWrongLength {n : Nat} {body : Caller → State → State} (row : exec c s = .next (runCmd op q (fun c => fixed n q c (body c)) s))
    (h : forKeeper op q s = true) (len : q.payload.length ≠ n) : Completes c s (keeperOnlyAnswered op q sBadLength [] s) :=
  ⟨_, row, by rw [runCmd_keeper h, fixed, if_neg len]; exact reply_takeReq h _ _⟩

/-- A reading command of its own length answers what its body does (R332). -/
theorem readAnswers {n : Nat} {body : Caller → State → State} (row : exec c s = .next (runCmd op q (fun c => fixed n q c (body c)) s))
    (h : forKeeper op q s = true) (len : q.payload.length = n)
    (ends : ∀ rq, body (callerOf s op q) (withReqs rq s) = reply (callerOf s op q) status b (withReqs rq s)) :
    Completes c s (keeperOnlyAnswered op q status b s) :=
  ⟨_, row, by rw [runCmd_keeper h, fixed, if_pos len]; exact answered_of_taken (callerDirect h) ends⟩

/-- A command that names a node runs at its home (R246, R332). -/
theorem runNode_home {n : Nat} (h : forNode op q n s = true) (body : Nat → Caller → State → State) :
    direct s (callerOf s op q) = true ∧ runNode op q body s = body n (callerOf s op q) (takeReq op q s) := by
  simp only [forNode, Bool.and_eq_true, beq_iff_eq, decide_eq_true_eq, Bool.not_eq_true'] at h
  obtain ⟨⟨⟨⟨⟨origin, share⟩, named⟩, found⟩, home⟩, settled⟩ := h
  constructor
  · rw [direct, origin, show (callerOf s op q).tag = q.tag.toNat from rfl, share]
    rfl
  · obtain ⟨rq, taken⟩ : ∃ rq, takeReq op q s = withReqs rq s := ⟨_, takeReq_eq op q s⟩
    have found' : findNode (withReqs rq s) (fld q 0 3) = some n := found
    have here : (getCtx (withReqs rq s) n).role = 1 ∧ (!(getCtx (withReqs rq s) n).transit) = true := ⟨home, by rw [Bool.not_eq_true']; exact settled⟩
    rw [taken]
    unfold runNode
    simp only [taken, found', if_neg (show ¬ q.payload.length < 3 by omega)]
    exact if_pos here

/-- A reading command of a node whose home is here. -/
theorem nodeAnswers {n m : Nat} {body : Nat → Caller → State → State}
    (row : exec c s = .next (runNode op q (fun n c => fixed m q c (body n c)) s)) (h : forNode op q n s = true) (len : q.payload.length = m)
    (ends : ∀ rq, body n (callerOf s op q) (withReqs rq s) = reply (callerOf s op q) status b (withReqs rq s)) :
    Completes c s (keeperOnlyAnswered op q status b s) := by
  obtain ⟨told, run⟩ := runNode_home h (fun n c => fixed m q c (body n c))
  exact ⟨_, row, by rw [run, fixed, if_pos len]; exact answered_of_taken told ends⟩

/-- An answer sent after the read latched what it shows: the messages sent and the requests are as the answer leaves them. -/
theorem keeperAnswered_of_latched {t : State} (h : forKeeper op q s = true) (asked : t.chain.asked = s.chain.asked)
    (dev : rd t 0xA00C0 = rd s 0xA00C0) (sent : t.linkR = s.linkR) (keeper : t.keeper = (takeReq op q s).keeper) :
    keeperAnswered op q status b s (reply (callerOf s op q) status b t) := by
  have answer := reply_keeper h asked dev status b
  have pend : (takeReq op q s).keeper.pend = s.keeper.pend := by rw [takeReq_eq]; rfl
  refine ⟨?_, ?_, ?_⟩
  · rw [answer, sendR_q, sent]
    rfl
  · have := congrArg (fun u : State => u.keeper.reqs) answer
    exact this.trans (congrArg Keeper.reqs keeper)
  · have := congrArg (fun u : State => u.keeper.pend) answer
    exact this.trans ((congrArg Keeper.pend keeper).trans pend)

end

/-! ### Fields of a request of four bytes -/

theorem fld_one_three {q : Req} (len : q.payload.length = 4) :
    fld q 1 3 = fld q 1 1 + 256 * fld q 2 2 := by
  rcases e : q.payload with _ | ⟨a, _ | ⟨b, _ | ⟨c, _ | ⟨d, _ | ⟨f, rest⟩⟩⟩⟩⟩ <;> rw [e] at len <;> simp at len
  simp [fld, e, leAt, leNat]

theorem zeros_iff {q : Req} {o n : Nat} : zeros q o n = true ↔ fld q o n = 0 := beq_iff_eq

/-! ### The reads that latch (R49, R142) -/

/-- A live counter of a channel copied to its read register. -/
def latchOne (ch k : Nat) (s : State) : State := wr (chBase ch + 0x40 + 4 * k) (tabGet (fun _ => 0) s.live (16 * ch + k)) s

theorem latches_only (ch : Nat) (ks : List Nat) : ∀ s : State, { forAll ks (latchOne ch) s with reg := s.reg } = s := by
  induction ks with
  | nil => exact fun s => rfl
  | cons k ks ih => exact fun s => congrArg (fun t : State => { t with reg := s.reg }) (ih (latchOne ch k s))

theorem rd_latches_other {ch o : Nat} (far : 0x60000 ≤ o) (within : ch < 64) (ks : List Nat) :
    ∀ s : State, (∀ k ∈ ks, k < 15) → rd (forAll ks (latchOne ch) s) o = rd s o := by
  induction ks with
  | nil => exact fun s _ => rfl
  | cons k ks ih =>
    intro s counters
    have k15 := counters k (List.mem_cons_self ..)
    have rest := ih (latchOne ch k s) (fun j mem => counters j (List.mem_cons_of_mem _ mem))
    exact rest.trans (rd_wr_other _ _ (by unfold chBase; omega))

theorem rd_latches {ch k : Nat} (ks : List Nat) :
    ∀ s : State, k ∈ ks ∨ rd s (chBase ch + 0x40 + 4 * k) = liveCount s ch k → rd (forAll ks (latchOne ch) s) (chBase ch + 0x40 + 4 * k) = liveCount s ch k := by
  induction ks with
  | nil => exact fun s held => held.resolve_left (List.not_mem_nil)
  | cons j ks ih =>
    intro s held
    have rest : rd (latchOne ch j s) (chBase ch + 0x40 + 4 * k) = liveCount s ch k ∨ k ∈ ks := by
      by_cases same : j = k
      · subst same
        exact .inl (rd_wr_same _ _ _)
      · rcases held with mem | shown
        · exact .inr ((List.mem_cons.mp mem).resolve_left (Ne.symm same))
        · exact .inl ((rd_wr_other _ _ (by omega)).trans shown)
    exact ih (latchOne ch j s) rest.symm

theorem rd_latchStats {ch k : Nat} (counter : k < 15) (s : State) : rd (latchStats ch s) (chBase ch + 0x40 + 4 * k) = liveCount s ch k :=
  rd_latches _ s (.inl (List.mem_range.mpr counter))

/-- Registers from NTB_CTRL (0x20020) on are no words of a time read. -/
theorem rd_ntbTimeRead {o : Nat} (far : 0x20020 ≤ o) (s : State) : rd (ntbTimeRead s) o = rd s o := by
  have words : rd (wrAll 0x20000 (timeWords s.ntb.net ++ timeWords s.ntb.anch) s) o = rd s o := by
    simp only [timeWords, List.cons_append, List.nil_append, wrAll]
    repeat rw [rd_wr_other _ _ (by omega)]
  exact words

theorem ntbTimeRead_only (s : State) : { ntbTimeRead s with reg := s.reg, lastRead := s.lastRead } = s :=
  congrArg (fun t : State => { t with lastRead := s.lastRead }) (wrAll_only (timeWords s.ntb.net ++ timeWords s.ntb.anch) 0x20000 s)

theorem holdBound_congr {s t : State} (ntb : t.ntb = s.ntb) (state : rd t 0x20024 = rd s 0x20024) (temp : rd t 0xD0000 = rd s 0xD0000) :
    holdBound t = holdBound s := by
  have st : ntbState t = ntbState s := getF_eq_of_rd state 1 0
  have sensor : refTemp t = refTemp s := congrArg (signedOf 16) (getF_eq_of_rd temp 15 0)
  rw [holdBound, holdNs, holdRate, holdDt, st, sensor, ntb]
  rfl

/-! ### The commands with a choice -/

section
variable {q : Req} {s : State}

theorem timeGet_answers (h : forKeeper 0x0701 q s = true) (len : q.payload.length = 0) : Completes (.timeGet q) s fun t =>
    keeperAnswered 0x0701 q 0 (leBytes 8 (secOf s.ntb.net) ++ leBytes 4 (nanoOf s.ntb.net) ++ leBytes 2 (fracOf s.ntb.net) ++
      leBytes 1 (stepByte s) ++ leBytes 1 (getF s 0x20024 1 0) ++ leBytes 8 (secOf s.ntb.anch) ++ leBytes 4 (nanoOf s.ntb.anch) ++ leBytes 2 (fracOf s.ntb.anch) ++
      leBytes 1 (ntbSource s) ++ leBytes 1 0 ++ leBytes 4 (holdBound s)) s t ∧ t.ntb.net = s.ntb.net ∧ t.ntb.anch = s.ntb.anch := by
  have row : timeGet q s = reply (callerOf s 0x0701 q) sOk _ (ntbTimeRead (takeReq 0x0701 q s)) := (runCmd_keeper h _).trans (if_pos len)
  obtain ⟨rq, taken⟩ : ∃ rq, takeReq 0x0701 q s = withReqs rq s := ⟨_, takeReq_eq 0x0701 q s⟩
  rw [taken] at row
  have only := ntbTimeRead_only (withReqs rq s)
  have ntb : (ntbTimeRead (withReqs rq s)).ntb = s.ntb := by have := congrArg State.ntb only; exact this
  have regs {o : Nat} (far : 0x20020 ≤ o) : rd (ntbTimeRead (withReqs rq s)) o = rd s o := rd_ntbTimeRead far _
  have step : stepByte (ntbTimeRead (withReqs rq s)) = stepByte s := by rw [stepByte, regs (by decide), stepByte]
  have state : ntbState (ntbTimeRead (withReqs rq s)) = getF s 0x20024 1 0 := getF_eq_of_rd (regs (by decide)) 1 0
  have source : ntbSource (ntbTimeRead (withReqs rq s)) = ntbSource s := getF_eq_of_rd (regs (by decide)) 3 2
  have bound : holdBound (ntbTimeRead (withReqs rq s)) = holdBound s := holdBound_congr ntb (regs (by decide)) (regs (by decide))
  rw [step, state, source, bound, ntb] at row
  have answered := keeperAnswered_of_latched (t := ntbTimeRead (withReqs rq s)) (status := sOk)
    (b := timeBytes s.ntb.net ++ leBytes 1 (stepByte s) ++ leBytes 1 (getF s 0x20024 1 0) ++ timeBytes s.ntb.anch ++
      leBytes 1 (ntbSource s) ++ leBytes 1 0 ++ leBytes 4 (holdBound s)) h
    (by have := congrArg (fun u : State => u.chain.asked) only; exact this) (regs (by decide))
    (by have := congrArg State.linkR only; exact this) (by rw [taken]; have := congrArg State.keeper only; exact this)
  rw [← row] at answered
  have kept : (timeGet q s).ntb = s.ntb := by
    rw [row, reply_keeper h (by have := congrArg (fun u : State => u.chain.asked) only; exact this) (regs (by decide))]
    exact ntb
  refine ⟨timeGet q s, rfl, ?_, by rw [kept], by rw [kept]⟩
  simpa only [timeBytes, List.append_assoc] using answered

theorem chStats_latched (h : forKeeper 0x0304 q s = true) (len : q.payload.length = 4) (ch : fld q 0 1 < 64) (flags : fld q 1 1 = 1)
    (blank : fld q 2 2 = 0) : Completes (.chStats q) s fun t =>
      keeperAnswered 0x0304 q 0 ((List.range 15).flatMap (fun k => leBytes 4 (liveCount s (fld q 0 1) k).toNat)) s t ∧ t.live = s.live := by
  obtain ⟨rq, taken⟩ : ∃ rq, takeReq 0x0304 q s = withReqs rq s := ⟨_, takeReq_eq 0x0304 q s⟩
  have fits : ¬ (64 ≤ fld q 0 1 ∨ 4 ≤ fld q 1 1 ∨ (!zeros q 2 2) = true) := by simp [zeros_iff.mpr blank, flags, ch]
  have row : chStats q s = reply (callerOf s 0x0304 q) sOk
      (wordsOf (latchStats (fld q 0 1) (withReqs rq s)) ((List.range 15).map (fun k => chBase (fld q 0 1) + 0x40 + 4 * k)))
      (latchStats (fld q 0 1) (withReqs rq s)) := by
    refine (runCmd_keeper h _).trans ((if_pos len).trans ((if_neg fits).trans ?_))
    rw [taken, flags]
    rfl
  have words : wordsOf (latchStats (fld q 0 1) (withReqs rq s)) ((List.range 15).map (fun k => chBase (fld q 0 1) + 0x40 + 4 * k)) =
      (List.range 15).flatMap (fun k => leBytes 4 (liveCount s (fld q 0 1) k).toNat) := by
    rw [wordsOf, List.flatMap_map]
    refine List.flatMap_congr fun k counter => ?_
    rw [rd_latchStats (List.mem_range.mp counter)]
    rfl
  rw [words] at row
  have only := latches_only (fld q 0 1) (List.range 15) (withReqs rq s)
  have dev : rd (latchStats (fld q 0 1) (withReqs rq s)) 0xA00C0 = rd s 0xA00C0 :=
    rd_latches_other (by decide) ch _ _ (fun k counter => List.mem_range.mp counter)
  have asked : (latchStats (fld q 0 1) (withReqs rq s)).chain.asked = s.chain.asked := by
    have := congrArg (fun u : State => u.chain.asked) only; exact this
  have answered := keeperAnswered_of_latched (status := sOk)
    (b := (List.range 15).flatMap (fun k => leBytes 4 (liveCount s (fld q 0 1) k).toNat)) h asked dev
    (by have := congrArg State.linkR only; exact this) (by rw [taken]; have := congrArg State.keeper only; exact this)
  refine ⟨_, congrArg Host.Outcome.next row, answered, ?_⟩
  rw [reply_keeper h asked dev]
  have := congrArg State.live only
  exact this

theorem chStats_shows (h : forKeeper 0x0304 q s = true) (len : q.payload.length = 4) (ch : fld q 0 1 < 64) (blank : fld q 1 3 = 0) :
    Completes (.chStats q) s (keeperOnlyAnswered 0x0304 q 0 (wordsOf s ((List.range 15).map (fun k => 0x50040 + 0x400 * fld q 0 1 + 4 * k))) s) := by
  have split := fld_one_three len
  have flags : fld q 1 1 = 0 := by omega
  have fits : ¬ (64 ≤ fld q 0 1 ∨ 4 ≤ fld q 1 1 ∨ (!zeros q 2 2) = true) := by simp [zeros_iff.mpr (show fld q 2 2 = 0 by omega), flags, ch]
  have regs : (List.range 15).map (fun k => 0x50040 + 0x400 * fld q 0 1 + 4 * k) = (List.range 15).map (fun k => chBase (fld q 0 1) + 0x40 + 4 * k) :=
    List.map_congr_left fun k _ => by unfold chBase; omega
  rw [regs]
  refine readAnswers rfl h len fun rq => (if_neg fits).trans ?_
  rw [flags]
  rfl

theorem chTrace_shows (h : forKeeper 0x0305 q s = true) (len : q.payload.length = 4) (ch : fld q 0 1 < 64) (blank : fld q 1 3 = 0) :
    Completes (.chTrace q) s (keeperOnlyAnswered 0x0305 q 0
      (wordsOf s ((0x50180 + 0x400 * fld q 0 1) :: (List.range 32).map (fun k => 0x50100 + 0x400 * fld q 0 1 + 4 * k))) s) := by
  have fits : ¬ (64 ≤ fld q 0 1 ∨ (!zeros q 1 3) = true) := by simp [zeros_iff.mpr blank, ch]
  have regs : (0x50180 + 0x400 * fld q 0 1) :: (List.range 32).map (fun k => 0x50100 + 0x400 * fld q 0 1 + 4 * k) =
      (chBase (fld q 0 1) + 0x180) :: (List.range 32).map (fun k => chBase (fld q 0 1) + 0x100 + 4 * k) :=
    congrArg₂ List.cons (by unfold chBase; omega) (List.map_congr_left fun k _ => by unfold chBase; omega)
  rw [regs]
  exact readAnswers rfl h len fun rq => if_neg fits

theorem evcGet_shows (h : forKeeper 0x0902 q s = true) (len : q.payload.length = 4) (ch : fld q 0 1 < 96) (blank : fld q 1 3 = 0) :
    Completes (.evcGet q) s (keeperOnlyAnswered 0x0902 q 0
      (wordsOf s [0x80000 + 16 * fld q 0 1, 0x80004 + 16 * fld q 0 1, 0x80008 + 16 * fld q 0 1, 0x8000C + 16 * fld q 0 1]) s) := by
  have fits : ¬ (96 ≤ fld q 0 1 ∨ (!zeros q 1 3) = true) := by simp [zeros_iff.mpr blank, ch]
  have regs : [0x80000 + 16 * fld q 0 1, 0x80004 + 16 * fld q 0 1, 0x80008 + 16 * fld q 0 1, 0x8000C + 16 * fld q 0 1] =
      [evcBase (fld q 0 1), evcBase (fld q 0 1) + 4, evcBase (fld q 0 1) + 8, evcBase (fld q 0 1) + 0xC] := by
    unfold evcBase
    simp only [List.cons.injEq, and_true]
    omega
  rw [regs]
  exact readAnswers rfl h len fun rq => if_neg fits

theorem nodeList_shows (h : forKeeper 0x0504 q s = true) (len : q.payload.length = 4) (roles : fld q 0 1 < 8) (blank : fld q 1 1 = 0) :
    let all := s.ctx.filter (fun p => p.2.role != 0 && decide (fld q 2 2 ≤ p.1) && (fld q 0 1 == 0 || (fld q 0 1).testBit (p.2.role - 1)))
    let got := if fld q 0 1 = 0 then [] else all.take 678
    Completes (.nodeList q) s (keeperOnlyAnswered 0x0504 q 0 (leBytes 2 got.length ++ leBytes 2 0 ++
      leBytes 4 (((all.drop got.length).head?.map (fun p => p.1)).getD 0xFFFFFFFF) ++
      got.flatMap (fun p => leBytes 2 p.1 ++ leBytes 3 p.2.addr ++ ((ctxBytes p.2).drop 3).take 1)) s) := by
  intro all got
  have fits : ¬ (8 ≤ fld q 0 1 ∨ (!zeros q 1 1) = true) := by simp [zeros_iff.mpr blank, roles]
  have next : (match (all.drop got.length).head? with
      | some p => p.1
      | none => 0xFFFFFFFF) = ((all.drop got.length).head?.map (fun p => p.1)).getD 0xFFFFFFFF := by
    cases (all.drop got.length).head? <;> rfl
  rw [← next]
  exact readAnswers rfl h len fun rq => if_neg fits

end

/-! ### The obligation -/

/-- Settles O53. -/
theorem keeperReadCommands : Obligations.KeeperReadCommands := by
  unfold Obligations.KeeperReadCommands
  refine ⟨fun q s => ⟨?_, ?_, ?_, ?_, ?_, ?_, ?_, ?_, ?_, ?_, ?_, ?_, ?_⟩, fun q s empty => ?_, fun q s len => ?_, fun q s len h roles blank => ?_,
    fun q s len => ⟨fun h size blank within => ?_, fun h size blank beyond => ?_, fun h size blank => ?_⟩,
    fun q n s len blank => ⟨fun h => ?_, fun h => ?_⟩⟩
  iterate 13 exact fun h len => readWrongLength rfl h len
  · have len : q.payload.length = 0 := by rw [empty]; rfl
    exact ⟨fun h => readAnswers rfl h len fun _ => rfl, fun h => readAnswers rfl h len fun _ => rfl, fun h => readAnswers rfl h len fun _ => rfl,
      fun h => readAnswers rfl h len fun _ => rfl, fun h => readAnswers rfl h len fun _ => rfl, fun h => timeGet_answers h len⟩
  · refine ⟨fun h ch blank => chTrace_shows h len ch blank, fun h ch => readAnswers rfl h len fun _ => if_pos (.inl ch),
      fun h ch blank => evcGet_shows h len ch blank, fun h ch => readAnswers rfl h len fun _ => if_pos (.inl ch),
      fun h blank some within => readAnswers rfl h len fun _ => if_neg ?_, fun h ch blank => chStats_shows h len ch blank,
      fun h ch flags blank => chStats_latched h len ch flags blank⟩
    simp [zeros_iff.mpr blank, some, within]
  · exact nodeList_shows h len roles blank
  · have fits : ¬ (4076 < fld q 4 2 ∨ (!zeros q 6 2) = true) := by simp [zeros_iff.mpr blank, size]
    exact readAnswers rfl h len fun _ => (if_neg fits).trans (if_neg (by exact not_lt.mpr within))
  · have fits : ¬ (4076 < fld q 4 2 ∨ (!zeros q 6 2) = true) := by simp [zeros_iff.mpr blank, size]
    exact readAnswers rfl h len fun _ => (if_neg fits).trans (if_pos beyond)
  · have fits : ¬ (127 < fld q 4 1 ∨ (!zeros q 5 3) = true) := by simp [zeros_iff.mpr blank, size]
    exact readAnswers rfl h len fun _ => if_neg fits
  · have fits : ¬ (!zeros q 3 1) = true := by simp [zeros_iff.mpr blank]
    exact nodeAnswers rfl h len fun _ => if_neg fits
  · have fits : ¬ (!zeros q 3 1) = true := by simp [zeros_iff.mpr blank]
    exact nodeAnswers rfl h len fun _ => if_neg fits

end Sys2Proof.Machine
end

section
/-! SUPPORT. The refutation of O50: an operator command key replaced where the active settings bank is neither of the two that hold core records. -/

namespace Sys2Proof.Machine

/-- A machine whose settings name a third bank as the active one: valid, but of no place in the flash (R415). -/
def thirdBank : State :=
  { State.reset with settings := { banks := [(2, { valid := true })], active := 2, ock := some (leBytes 16 1) } }

/-- OCK_REPLACE with a key wrapped under the key transport key of `thirdBank` (R369). -/
def newOck : Req :=
  { win := 0, target := 0x1E, tag := 0, counter := 0
    payload := [94, 234, 32, 194, 19, 65, 167, 165, 234, 192, 88, 118, 56, 100, 81, 140, 250, 93, 35, 6, 32, 39, 227, 145] }

theorem newOck_unwraps : kwUnwrap (natsOf (ktOf thirdBank)) (natsOf newOck.payload) ≠ none := by decide +kernel

theorem newOck_forTender : forTender newOck thirdBank = true := by decide +kernel

theorem thirdBank_valid : ¬ (getBank thirdBank thirdBank.settings.active).valid = false := by decide +kernel

/-- The counter record went to the third bank, and a read looks at banks 0 and 1 (R416). -/
theorem coreGet_thirdBank : coreGet (ockReplace newOck thirdBank) 256 = none := by decide +kernel

/-- Refutes O50, by its clause on OCK_REPLACE: it says of every state with a valid active bank that the counter's core record can be read back,
but where the active bank is neither 0 nor 1 the record written there is of no bank that a read looks at. The clause lacks the premise that the
active bank is 0 or 1. -/
theorem not_tenderCommands : ¬ Obligations.TenderCommands := by
  rintro ⟨-, -, -, -, -, -, -, replaces, -⟩
  obtain ⟨t, ends⟩ := replaces newOck thirdBank newOck_forTender rfl
  beta_reduce at ends
  rw [if_neg newOck_unwraps, if_neg thirdBank_valid] at ends
  obtain ⟨step, -, -, -, -, readBack⟩ := ends
  obtain rfl : ockReplace newOck thirdBank = t := Host.Outcome.next.inj step
  exact readBack coreGet_thirdBank

end Sys2Proof.Machine
end

section
/-! SUPPORT. AES decryption undoes encryption (FIPS 197), and key unwrap undoes key wrap (SP 800-38F): what a flash that holds a wrapped key needs
(O51). -/

namespace Sys2Proof.Machine

/-! ### Bytes as numbers -/

/-- `n` bytes as numbers. -/
structure IsBytes (n : Nat) (b : List Nat) : Prop where
  length : b.length = n
  small : ∀ x ∈ b, x < 256

theorem xor_lt_256 {x y : Nat} (hx : x < 256) (hy : y < 256) : x ^^^ y < 256 := Nat.xor_lt_two_pow (n := 8) hx hy

namespace IsBytes

theorem xorL {n : Nat} {a b : List Nat} (ha : IsBytes n a) (hb : IsBytes n b) : IsBytes n (xorL a b) := by
  refine ⟨by rw [Machine.xorL, List.length_zipWith, ha.length, hb.length, Nat.min_self], fun x mem => ?_⟩
  obtain ⟨i, lt, rfl⟩ := List.mem_iff_getElem.mp mem
  simp only [Machine.xorL, List.getElem_zipWith]
  exact xor_lt_256 (ha.small _ (List.getElem_mem _)) (hb.small _ (List.getElem_mem _))

theorem append {m n : Nat} {a b : List Nat} (ha : IsBytes m a) (hb : IsBytes n b) : IsBytes (m + n) (a ++ b) :=
  ⟨by rw [List.length_append, ha.length, hb.length], fun x mem => (List.mem_append.mp mem).elim (ha.small x) (hb.small x)⟩

theorem take {m n : Nat} {a : List Nat} (ha : IsBytes n a) (h : m ≤ n) : IsBytes m (a.take m) :=
  ⟨by rw [List.length_take, ha.length, Nat.min_eq_left h], fun x mem => ha.small x (List.mem_of_mem_take mem)⟩

theorem drop {m n : Nat} {a : List Nat} (ha : IsBytes n a) : IsBytes (n - m) (a.drop m) :=
  ⟨by rw [List.length_drop, ha.length], fun x mem => ha.small x (List.mem_of_mem_drop mem)⟩

theorem natsOf (b : List Byte) : IsBytes b.length (natsOf b) := by
  refine ⟨List.length_map _, fun x mem => ?_⟩
  obtain ⟨w, -, rfl⟩ := List.mem_map.mp mem
  exact w.isLt

theorem beNats (n v : Nat) : IsBytes n (beNats n v) := by
  have bytes := IsBytes.natsOf (leBytes n v)
  rw [leBytes_length] at bytes
  exact ⟨by rw [Machine.beNats, List.length_reverse, bytes.length], fun x mem => bytes.small x (List.mem_reverse.mp mem)⟩

theorem natsOf_bytesOf {n : Nat} {a : List Nat} (ha : IsBytes n a) : Machine.natsOf (bytesOf a) = a := by
  rw [Machine.natsOf, bytesOf, List.map_map]
  refine (List.map_congr_left fun x mem => ?_).trans (List.map_id a)
  exact (BitVec.toNat_ofNat x 8).trans (Nat.mod_eq_of_lt (ha.small x mem))

end IsBytes

theorem bytesOf_length (a : List Nat) : (bytesOf a).length = a.length := List.length_map _

/-- Adding a string of bytes twice leaves the other. -/
theorem xorL_xorL {n : Nat} {a b : List Nat} (ha : IsBytes n a) (hb : IsBytes n b) : xorL (xorL a b) b = a := by
  refine List.ext_getElem (by rw [((ha.xorL hb).xorL hb).length, ha.length]) fun i lt lt' => ?_
  simp only [xorL, List.getElem_zipWith]
  rw [Nat.xor_assoc, Nat.xor_self, Nat.xor_zero]

/-! ### The layers of a round -/

theorem subByte_lt {x : Nat} (h : x < 256) : subByte x < 256 := by
  revert h; revert x; decide +kernel

theorem invSbox_subByte {x : Nat} (h : x < 256) : boxAt invSbox (subByte x) = x := by
  revert h; revert x; decide +kernel

/-- A string of `n` bytes is its entries in order. -/
theorem range_getD {n : Nat} {b : List Nat} (h : b.length = n) : (List.range n).map (fun i => b.getD i 0) = b := by
  refine List.ext_getElem (by rw [List.length_map, List.length_range, h]) fun i lt lt' => ?_
  rw [List.getElem_map, List.getElem_range, List.getD_eq_getElem _ _ lt']

theorem invShiftRows_shiftRows {b : List Nat} (h : b.length = 16) : invShiftRows (shiftRows b) = b :=
  (show invShiftRows (shiftRows b) = (List.range 16).map (fun i => b.getD i 0) from rfl).trans (range_getD h)

theorem getD_lt {n : Nat} {b : List Nat} (hb : IsBytes n b) (i : Nat) : b.getD i 0 < 256 := by
  rcases lt_or_ge i b.length with lt | ge
  · rw [List.getD_eq_getElem _ _ lt]
    exact hb.small _ (List.getElem_mem _)
  · rw [List.getD_eq_default _ _ ge]
    decide

theorem IsBytes.shiftRows {b : List Nat} (hb : IsBytes 16 b) : IsBytes 16 (shiftRows b) :=
  ⟨rfl, fun x mem => by obtain ⟨i, -, rfl⟩ := List.mem_map.mp mem; exact getD_lt hb i⟩

theorem IsBytes.subBytes {n : Nat} {b : List Nat} (hb : IsBytes n b) : IsBytes n (b.map subByte) :=
  ⟨by rw [List.length_map, hb.length], fun x mem => by obtain ⟨y, mem', rfl⟩ := List.mem_map.mp mem; exact subByte_lt (hb.small y mem')⟩

theorem xtime_eq (a : Nat) : xtime a = (2 * a) ^^^ (if 128 ≤ a then 0x11B else 0) := by
  unfold xtime
  split
  · rw [if_neg (by omega), Nat.xor_zero]
  · rw [if_pos (by omega)]

theorem high_iff_testBit {a : Nat} (h : a < 256) : 128 ≤ a ↔ a.testBit 7 = true := by
  revert h; revert a; decide +kernel

theorem xtime_lt {a : Nat} (h : a < 256) : xtime a < 256 := by
  revert h; revert a; decide +kernel

theorem two_mul_xor (a b : Nat) : 2 * (a ^^^ b) = 2 * a ^^^ 2 * b := by
  have doubled (c : Nat) : 2 * c = c <<< 1 := by rw [Nat.shiftLeft_eq, pow_one, Nat.mul_comm]
  rw [doubled, doubled, doubled, Nat.shiftLeft_xor_distrib]

theorem xtime_xor {a b : Nat} (ha : a < 256) (hb : b < 256) : xtime (a ^^^ b) = xtime a ^^^ xtime b := by
  rw [xtime_eq, xtime_eq, xtime_eq, two_mul_xor]
  simp only [high_iff_testBit ha, high_iff_testBit hb, high_iff_testBit (xor_lt_256 ha hb), Nat.testBit_xor]
  cases a.testBit 7 <;> cases b.testBit 7
  · simp
  · simp [Nat.xor_assoc]
  · simp only [Bool.xor_false, if_true, if_false, Bool.false_eq_true, Nat.xor_zero]
    ac_rfl
  · have cancel : 2 * a ^^^ 283 ^^^ (2 * b ^^^ 283) = 2 * a ^^^ 2 * b ^^^ (283 ^^^ 283) := by ac_rfl
    simpa using cancel.symm

theorem gmul_lt {a : Nat} (h : a < 256) (k : Nat) : gmul a k < 256 := by
  have part {p : Bool} {x : Nat} (hx : x < 256) : (if p = true then x else 0) < 256 := by split <;> omega
  have h1 := xtime_lt h
  have h2 := xtime_lt h1
  exact xor_lt_256 (xor_lt_256 (xor_lt_256 (part h) (part h1)) (part h2)) (part (xtime_lt h2))

theorem gmul_xor {a b : Nat} (ha : a < 256) (hb : b < 256) (k : Nat) : gmul (a ^^^ b) k = gmul a k ^^^ gmul b k := by
  have part (p : Bool) (x y : Nat) : (if p = true then x ^^^ y else 0) = (if p = true then x else 0) ^^^ (if p = true then y else 0) := by
    cases p <;> simp
  unfold gmul
  rw [xtime_xor ha hb, xtime_xor (xtime_lt ha) (xtime_lt hb), xtime_xor (xtime_lt (xtime_lt ha)) (xtime_lt (xtime_lt hb)), part, part, part, part]
  ac_rfl

/-- What a byte at place `i` of a column gives at place `r` once the column is mixed and unmixed. -/
def unmixed (x r i : Nat) : Nat :=
  let fwd := fun j => [2, 3, 1, 1].getD ((4 + i - j) % 4) 0
  let back := fun j => [14, 11, 13, 9].getD ((4 + j - r) % 4) 0
  gmul (gmul x (fwd 0)) (back 0) ^^^ gmul (gmul x (fwd 1)) (back 1) ^^^ gmul (gmul x (fwd 2)) (back 2) ^^^ gmul (gmul x (fwd 3)) (back 3)

/-- The matrices are inverse to each other. -/
theorem unmixed_eq {x : Nat} (h : x < 256) : ∀ r < 4, ∀ i < 4, unmixed x r i = if r = i then x else 0 := by
  revert h; revert x; decide +kernel

/-- The row of a mixed column, for the four entries of the matrix that meet its bytes. -/
def mixedRow (k0 k1 k2 k3 a b c d : Nat) : Nat := gmul a k0 ^^^ gmul b k1 ^^^ gmul c k2 ^^^ gmul d k3

theorem mixColumn_eq (m0 m1 m2 m3 a b c d : Nat) : mixColumn [m0, m1, m2, m3] [a, b, c, d] =
    [mixedRow m0 m1 m2 m3 a b c d, mixedRow m3 m0 m1 m2 a b c d, mixedRow m2 m3 m0 m1 a b c d, mixedRow m1 m2 m3 m0 a b c d] := by
  simp [mixColumn, mixedRow, List.range_succ]

theorem mixedRow_lt {k0 k1 k2 k3 a b c d : Nat} (ha : a < 256) (hb : b < 256) (hc : c < 256) (hd : d < 256) : mixedRow k0 k1 k2 k3 a b c d < 256 :=
  xor_lt_256 (xor_lt_256 (xor_lt_256 (gmul_lt ha _) (gmul_lt hb _)) (gmul_lt hc _)) (gmul_lt hd _)

theorem gmul_mixedRow {k0 k1 k2 k3 a b c d : Nat} (ha : a < 256) (hb : b < 256) (hc : c < 256) (hd : d < 256) (k : Nat) :
    gmul (mixedRow k0 k1 k2 k3 a b c d) k = gmul (gmul a k0) k ^^^ gmul (gmul b k1) k ^^^ gmul (gmul c k2) k ^^^ gmul (gmul d k3) k := by
  have hab := xor_lt_256 (gmul_lt ha k0) (gmul_lt hb k1)
  rw [mixedRow, gmul_xor (xor_lt_256 hab (gmul_lt hc k2)) (gmul_lt hd k3), gmul_xor hab (gmul_lt hc k2), gmul_xor (gmul_lt ha k0) (gmul_lt hb k1)]

/-- Four sums of four, taken by their first, second, third and fourth terms. -/
theorem xor_transpose (a1 a2 a3 a4 b1 b2 b3 b4 c1 c2 c3 c4 d1 d2 d3 d4 : Nat) :
    (a1 ^^^ b1 ^^^ c1 ^^^ d1) ^^^ (a2 ^^^ b2 ^^^ c2 ^^^ d2) ^^^ (a3 ^^^ b3 ^^^ c3 ^^^ d3) ^^^ (a4 ^^^ b4 ^^^ c4 ^^^ d4) =
      (a1 ^^^ a2 ^^^ a3 ^^^ a4) ^^^ (b1 ^^^ b2 ^^^ b3 ^^^ b4) ^^^ (c1 ^^^ c2 ^^^ c3 ^^^ c4) ^^^ (d1 ^^^ d2 ^^^ d3 ^^^ d4) := by
  ac_rfl

theorem mixedRow_mixed {a b c d : Nat} (ha : a < 256) (hb : b < 256) (hc : c < 256) (hd : d < 256) (k0 k1 k2 k3 : Nat) :
    mixedRow k0 k1 k2 k3 (mixedRow 2 3 1 1 a b c d) (mixedRow 1 2 3 1 a b c d) (mixedRow 1 1 2 3 a b c d) (mixedRow 3 1 1 2 a b c d) =
      (gmul (gmul a 2) k0 ^^^ gmul (gmul a 1) k1 ^^^ gmul (gmul a 1) k2 ^^^ gmul (gmul a 3) k3) ^^^
      (gmul (gmul b 3) k0 ^^^ gmul (gmul b 2) k1 ^^^ gmul (gmul b 1) k2 ^^^ gmul (gmul b 1) k3) ^^^
      (gmul (gmul c 1) k0 ^^^ gmul (gmul c 3) k1 ^^^ gmul (gmul c 2) k2 ^^^ gmul (gmul c 1) k3) ^^^
      (gmul (gmul d 1) k0 ^^^ gmul (gmul d 1) k1 ^^^ gmul (gmul d 3) k2 ^^^ gmul (gmul d 2) k3) := by
  rw [mixedRow.eq_1 k0, gmul_mixedRow ha hb hc hd, gmul_mixedRow ha hb hc hd, gmul_mixedRow ha hb hc hd, gmul_mixedRow ha hb hc hd]
  exact xor_transpose ..

theorem unmixColumn {c : List Nat} (hc : IsBytes 4 c) : mixColumn [14, 11, 13, 9] (mixColumn [2, 3, 1, 1] c) = c := by
  obtain ⟨len, small⟩ := hc
  match c, len with
  | [a, b, d, e], _ =>
    have ha : a < 256 := small a (by simp)
    have hb : b < 256 := small b (by simp)
    have hd : d < 256 := small d (by simp)
    have he : e < 256 := small e (by simp)
    have row (r : Nat) (hr : r < 4) : unmixed a r 0 ^^^ unmixed b r 1 ^^^ unmixed d r 2 ^^^ unmixed e r 3 = [a, b, d, e].getD r 0 := by
      rw [unmixed_eq ha r hr 0 (by decide), unmixed_eq hb r hr 1 (by decide), unmixed_eq hd r hr 2 (by decide), unmixed_eq he r hr 3 (by decide)]
      interval_cases r <;> simp
    simp only [mixColumn_eq, mixedRow_mixed ha hb hd he]
    exact congrArg₂ List.cons (row 0 (by decide)) (congrArg₂ List.cons (row 1 (by decide)) (congrArg₂ List.cons (row 2 (by decide))
      (congrArg₂ List.cons (row 3 (by decide)) rfl)))

theorem IsBytes.mixColumn {m0 m1 m2 m3 : Nat} {c : List Nat} (hc : IsBytes 4 c) : IsBytes 4 (mixColumn [m0, m1, m2, m3] c) := by
  obtain ⟨len, small⟩ := hc
  match c, len with
  | [a, b, d, e], _ =>
    have row (k0 k1 k2 k3 : Nat) : mixedRow k0 k1 k2 k3 a b d e < 256 :=
      mixedRow_lt (small a (by simp)) (small b (by simp)) (small d (by simp)) (small e (by simp))
    rw [mixColumn_eq]
    exact ⟨rfl, by simp [row]⟩

/-! ### Pieces of a string -/

theorem chunks_flatten (k : Nat) (ls : List (List Nat)) (h : ∀ l ∈ ls, l.length = k) : chunks k ls.length ls.flatten = ls := by
  induction ls with
  | nil => rfl
  | cons l ls ih =>
    have len : l.length = k := h l (List.mem_cons_self ..)
    rw [List.length_cons, chunks, List.flatten_cons, List.take_left' len, List.drop_left' len, ih fun x mem => h x (List.mem_cons_of_mem _ mem)]

theorem flatten_chunks (k n : Nat) (xs : List Nat) (h : xs.length = k * n) : (chunks k n xs).flatten = xs := by
  induction n generalizing xs with
  | zero => exact (List.eq_nil_of_length_eq_zero h).symm
  | succ n ih =>
    rw [chunks, List.flatten_cons, ih _ (by rw [List.length_drop, h, Nat.mul_succ]; omega), List.take_append_drop]

theorem chunks_length (k n : Nat) (xs : List Nat) : (chunks k n xs).length = n := by
  induction n generalizing xs with
  | zero => rfl
  | succ n ih => rw [chunks, List.length_cons, ih]

theorem chunks_isBytes {k n : Nat} {xs : List Nat} (h : IsBytes (k * n) xs) : ∀ c ∈ chunks k n xs, IsBytes k c := by
  induction n generalizing xs with
  | zero => exact fun c mem => absurd mem List.not_mem_nil
  | succ n ih =>
    intro c mem
    rw [Nat.mul_succ] at h
    rcases List.mem_cons.mp mem with rfl | mem
    · exact h.take (by omega)
    · exact ih (by have rest := h.drop (m := k); rwa [Nat.add_sub_cancel] at rest) c mem

theorem IsBytes.flatten {k : Nat} {ls : List (List Nat)} (h : ∀ l ∈ ls, IsBytes k l) : IsBytes (k * ls.length) ls.flatten := by
  induction ls with
  | nil => exact ⟨rfl, fun x mem => absurd mem List.not_mem_nil⟩
  | cons l ls ih =>
    have both := (h l (List.mem_cons_self ..)).append (ih fun x mem => h x (List.mem_cons_of_mem _ mem))
    rwa [Nat.add_comm, ← Nat.mul_succ] at both

/-! ### The rounds -/

theorem IsBytes.mixColumns {m0 m1 m2 m3 : Nat} {b : List Nat} (hb : IsBytes 16 b) : IsBytes 16 (mixColumns [m0, m1, m2, m3] b) := by
  have columns := IsBytes.flatten (k := 4) (ls := (chunks 4 4 b).map (Machine.mixColumn [m0, m1, m2, m3])) fun c mem => by
    obtain ⟨x, mem', rfl⟩ := List.mem_map.mp mem
    exact (chunks_isBytes (n := 4) hb x mem').mixColumn
  rwa [List.length_map, chunks_length] at columns

theorem unmixColumns {b : List Nat} (hb : IsBytes 16 b) : mixColumns [14, 11, 13, 9] (mixColumns [2, 3, 1, 1] b) = b := by
  have columns := chunks_isBytes (k := 4) (n := 4) hb
  have pieces : chunks 4 4 (mixColumns [2, 3, 1, 1] b) = (chunks 4 4 b).map (mixColumn [2, 3, 1, 1]) := by
    have cut := chunks_flatten 4 ((chunks 4 4 b).map (mixColumn [2, 3, 1, 1])) fun c mem => by
      obtain ⟨x, mem', rfl⟩ := List.mem_map.mp mem
      exact (columns x mem').mixColumn.length
    rwa [List.length_map, chunks_length] at cut
  have unmixed : ((chunks 4 4 b).map (mixColumn [2, 3, 1, 1])).map (mixColumn [14, 11, 13, 9]) = chunks 4 4 b := by
    rw [List.map_map]
    exact (List.map_congr_left fun c mem => unmixColumn (columns c mem)).trans (List.map_id _)
  rw [mixColumns, pieces, unmixed, flatten_chunks 4 4 b hb.length]

/-- The substitution and the shift of a round. -/
def subShift (b : List Nat) : List Nat := shiftRows (b.map subByte)
def unSubShift (b : List Nat) : List Nat := (invShiftRows b).map (boxAt invSbox)

theorem IsBytes.subShift {b : List Nat} (hb : IsBytes 16 b) : IsBytes 16 (subShift b) := hb.subBytes.shiftRows

theorem unSubShift_subShift {b : List Nat} (hb : IsBytes 16 b) : unSubShift (subShift b) = b := by
  rw [unSubShift, subShift, invShiftRows_shiftRows hb.subBytes.length, List.map_map]
  exact (List.map_congr_left fun x mem => invSbox_subByte (hb.small x mem)).trans (List.map_id b)

theorem decRounds_step (k : List Nat) {rest : List (List Nat)} (some : rest ≠ []) (b : List Nat) :
    decRounds (k :: rest) b = decRounds rest (mixColumns [14, 11, 13, 9] (xorL (unSubShift b) k)) := by
  cases rest with
  | nil => exact absurd rfl some
  | cons k' rest => rfl

theorem IsBytes.encRounds {ks : List (List Nat)} (hk : ∀ k ∈ ks, IsBytes 16 k) : ∀ {b : List Nat}, IsBytes 16 b → IsBytes 16 (encRounds ks b) := by
  induction ks with
  | nil => exact fun hb => hb
  | cons k ks ih =>
    intro b hb
    have own := hk k (List.mem_cons_self ..)
    cases ks with
    | nil => exact hb.subShift.xorL own
    | cons k' ks => exact ih (fun x mem => hk x (List.mem_cons_of_mem _ mem)) (hb.subShift.mixColumns.xorL own)

/-- The last rounds of a decryption undo those of the encryption, one key after the other. -/
theorem decRounds_encRounds {rest : List (List Nat)} (some : rest ≠ []) (k : List Nat) (ks : List (List Nat)) :
    ∀ (b : List Nat), (∀ x ∈ k :: ks, IsBytes 16 x) → IsBytes 16 b →
      decRounds ((k :: ks).reverse.drop 1 ++ rest) (xorL (encRounds (k :: ks) b) ((k :: ks).reverse.headD [])) = decRounds rest (subShift b) := by
  induction ks generalizing k rest with
  | nil => exact fun b hk hb => congrArg (decRounds rest) (xorL_xorL hb.subShift (hk k (List.mem_cons_self ..)))
  | cons k' ks ih =>
    intro b hk hb
    have own := hk k (List.mem_cons_self ..)
    have mixed := hb.subShift.mixColumns (m0 := 2) (m1 := 3) (m2 := 1) (m3 := 1)
    obtain ⟨z, zs, last⟩ : ∃ z zs, (k' :: ks).reverse = z :: zs := List.exists_cons_of_ne_nil (by simp)
    have inner := ih (rest := k :: rest) (by simp) k' (xorL (mixColumns [2, 3, 1, 1] (subShift b)) k)
      (fun x mem => hk x (List.mem_cons_of_mem _ mem)) (mixed.xorL own)
    rw [last] at inner
    rw [List.reverse_cons, last]
    refine (Eq.trans ?_ inner).trans ?_
    · simp [encRounds, subShift]
    · rw [decRounds_step k some, unSubShift_subShift (mixed.xorL own), xorL_xorL mixed own, unmixColumns hb.subShift]

/-- Round keys with which a block can be encrypted: at least two, of 16 bytes each. -/
structure RoundKeys (ks : List (List Nat)) : Prop where
  two : 2 ≤ ks.length
  bytes : ∀ k ∈ ks, IsBytes 16 k

theorem RoundKeys.aesEnc {ks : List (List Nat)} (hk : RoundKeys ks) {b : List Nat} (hb : IsBytes 16 b) : IsBytes 16 (aesEnc ks b) := by
  obtain ⟨two, bytes⟩ := hk
  match ks, two with
  | k0 :: ks, _ => exact .encRounds (fun k mem => bytes k (List.mem_cons_of_mem _ mem)) (hb.xorL (bytes k0 (List.mem_cons_self ..)))

theorem RoundKeys.aesDec_aesEnc {ks : List (List Nat)} (hk : RoundKeys ks) {b : List Nat} (hb : IsBytes 16 b) : aesDec ks (Machine.aesEnc ks b) = b := by
  obtain ⟨two, bytes⟩ := hk
  match ks, two with
  | k0 :: k1 :: ks, _ =>
    have first := bytes k0 (List.mem_cons_self ..)
    have start := hb.xorL first
    have rounds := decRounds_encRounds (rest := [k0]) (by simp) k1 ks (xorL b k0) (fun x mem => bytes x (List.mem_cons_of_mem _ mem)) start
    obtain ⟨z, zs, last⟩ : ∃ z zs, (k1 :: ks).reverse = z :: zs := List.exists_cons_of_ne_nil (by simp)
    have whole : decRounds [k0] (subShift (xorL b k0)) = b := by
      rw [show decRounds [k0] (subShift (xorL b k0)) = xorL (unSubShift (subShift (xorL b k0))) k0 from rfl, unSubShift_subShift start,
        xorL_xorL hb first]
    rw [last] at rounds
    unfold aesDec
    rw [List.reverse_cons, last]
    exact rounds.trans whole

/-! ### The round keys of a 32-byte key -/

theorem IsBytes.getD_word {ws : List (List Nat)} (h : ∀ w ∈ ws, IsBytes 4 w) {i : Nat} (lt : i < ws.length) : IsBytes 4 (ws.getD i []) := by
  rw [List.getD_eq_getElem _ _ lt]
  exact h _ (List.getElem_mem lt)

/-- The word that a new word of the expanded key is added to (FIPS 197, 5.2). -/
theorem expandedWord_isBytes {nk i rcon : Nat} {prev : List Nat} (hp : IsBytes 4 prev) (hr : rcon < 256) :
    IsBytes 4 (if i % nk = 0 then xorL ((prev.drop 1 ++ prev.take 1).map subByte) [rcon, 0, 0, 0]
      else if nk = 8 ∧ i % nk = 4 then prev.map subByte else prev) := by
  have rotated : IsBytes 4 (prev.drop 1 ++ prev.take 1) := (hp.drop (m := 1)).append (hp.take (m := 1) (by decide))
  split
  · exact rotated.subBytes.xorL ⟨rfl, by simp [hr]⟩
  · split
    · exact hp.subBytes
    · exact hp

theorem expandKey_isBytes {nk n : Nat} (some : 0 < nk) : ∀ {i rcon : Nat} {ws : List (List Nat)}, nk ≤ i → ws.length = i → rcon < 256 → (∀ w ∈ ws, IsBytes 4 w) →
    (expandKey nk n i rcon ws).length = i + n ∧ ∀ w ∈ expandKey nk n i rcon ws, IsBytes 4 w := by
  induction n with
  | zero => exact fun from' len hr hw => ⟨len, hw⟩
  | succ n ih =>
    intro i rcon ws from' len hr hw
    have prev := IsBytes.getD_word hw (i := i - 1) (by omega)
    have old := IsBytes.getD_word hw (i := i - nk) (by omega)
    have new := old.xorL (expandedWord_isBytes (nk := nk) (i := i) prev hr)
    have longer := ih (i := i + 1) (rcon := if i % nk = 0 then xtime rcon else rcon) (ws := ws ++ [_]) (Nat.le_succ_of_le from') (by rw [List.length_append, len]; rfl)
      (by split; exacts [xtime_lt hr, hr]) (fun w mem => (List.mem_append.mp mem).elim (hw w) fun own => by
        rw [List.mem_singleton] at own
        rw [own]
        exact new)
    rw [Nat.add_assoc, Nat.add_comm 1 n] at longer
    exact longer

theorem roundKeys_of_long {key : List Nat} (hk : IsBytes 32 key) : RoundKeys (roundKeys key) := by
  obtain ⟨len, words⟩ := expandKey_isBytes (nk := 8) (n := 52) (i := 8) (rcon := 1) (ws := chunks 4 8 key) (by decide) (by decide)
    (chunks_length 4 8 key) (by decide) (chunks_isBytes hk)
  have flat := IsBytes.flatten words
  rw [len] at flat
  have shape : roundKeys key = chunks 16 15 (expandKey 8 52 8 1 (chunks 4 8 key)).flatten := by
    rw [roundKeys, if_pos hk.length]
    rfl
  rw [shape]
  exact ⟨by rw [chunks_length]; decide, chunks_isBytes flat⟩

/-! ### Key wrap -/

/-- The semiblocks of a key and the value that travels through them. -/
structure Semiblocks (n : Nat) (q : List Nat × List (List Nat)) : Prop where
  value : IsBytes 8 q.1
  count : q.2.length = n
  blocks : ∀ r ∈ q.2, IsBytes 8 r

theorem kwUnpass_append (ks : List (List Nat)) (xs ys : List (List Nat)) : ∀ (t : Nat) (a : List Nat),
    kwUnpass ks t a (xs ++ ys) = ((kwUnpass ks (t - xs.length) (kwUnpass ks t a xs).1 ys).1,
      (kwUnpass ks t a xs).2 ++ (kwUnpass ks (t - xs.length) (kwUnpass ks t a xs).1 ys).2) := by
  induction xs with
  | nil => exact fun t a => rfl
  | cons x xs ih =>
    intro t a
    simp only [List.cons_append, kwUnpass, ih, List.length_cons]
    rw [Nat.sub_sub, Nat.add_comm 1]

section
variable {ks : List (List Nat)} (hk : RoundKeys ks)
include hk

theorem kwPass_semiblocks (rs : List (List Nat)) : ∀ (t : Nat) (a : List Nat), IsBytes 8 a → (∀ r ∈ rs, IsBytes 8 r) →
    Semiblocks rs.length (kwPass ks t a rs) := by
  induction rs with
  | nil => exact fun t a ha _ => ⟨ha, rfl, fun r mem => absurd mem List.not_mem_nil⟩
  | cons r rs ih =>
    intro t a ha hr
    have block := hk.aesEnc (ha.append (hr r (List.mem_cons_self ..)))
    have rest := ih (t + 1) _ ((block.take (m := 8) (by decide)).xorL (.beNats 8 t)) fun x mem => hr x (List.mem_cons_of_mem _ mem)
    exact ⟨rest.value, congrArg Nat.succ rest.count, fun x mem => (List.mem_cons.mp mem).elim (fun own => own ▸ block.drop (m := 8)) (rest.blocks x)⟩

theorem kwUnpass_kwPass (rs : List (List Nat)) : ∀ (t : Nat) (a : List Nat), IsBytes 8 a → (∀ r ∈ rs, IsBytes 8 r) →
    kwUnpass ks (t + rs.length - 1) (kwPass ks t a rs).1 (kwPass ks t a rs).2.reverse = (a, rs.reverse) := by
  induction rs with
  | nil => exact fun t a _ _ => rfl
  | cons r rs ih =>
    intro t a ha hr
    have own := hr r (List.mem_cons_self ..)
    have others : ∀ x ∈ rs, IsBytes 8 x := fun x mem => hr x (List.mem_cons_of_mem _ mem)
    have block := hk.aesEnc (ha.append own)
    have value := (block.take (m := 8) (by decide)).xorL (.beNats 8 t)
    have inner := ih (t + 1) _ value others
    have count := (kwPass_semiblocks hk rs (t + 1) _ value others).count
    rw [show t + 1 + rs.length - 1 = t + (r :: rs).length - 1 from by rw [List.length_cons]; omega] at inner
    simp only [kwPass, List.reverse_cons]
    rw [kwUnpass_append, inner, List.length_reverse, count, show t + (r :: rs).length - 1 - rs.length = t from by rw [List.length_cons]; omega]
    simp only [kwUnpass]
    rw [xorL_xorL (block.take (m := 8) (by decide)) (.beNats 8 t), List.take_append_drop, hk.aesDec_aesEnc (ha.append own),
      List.take_left' ha.length, List.drop_left' ha.length]

/-- Pass `j` of a wrap, and the one that undoes it. -/
def wrapPass (ks : List (List Nat)) (n j : Nat) (q : List Nat × List (List Nat)) : List Nat × List (List Nat) := kwPass ks (n * j + 1) q.1 q.2
def unwrapPass (ks : List (List Nat)) (n j : Nat) (q : List Nat × List (List Nat)) : List Nat × List (List Nat) :=
  let r := kwUnpass ks (n * (j + 1)) q.1 q.2.reverse
  (r.1, r.2.reverse)

theorem Semiblocks.wrapPass {n : Nat} {q : List Nat × List (List Nat)} (h : Semiblocks n q) (j : Nat) : Semiblocks n (wrapPass ks n j q) := by
  obtain ⟨value, rfl, blocks⟩ := h
  exact kwPass_semiblocks hk q.2 _ q.1 value blocks

theorem unwrapPass_wrapPass {n : Nat} {q : List Nat × List (List Nat)} (h : Semiblocks n q) (j : Nat) : unwrapPass ks n j (Machine.wrapPass ks n j q) = q := by
  obtain ⟨value, rfl, blocks⟩ := h
  have undone := kwUnpass_kwPass hk q.2 (q.2.length * j + 1) q.1 value blocks
  rw [show q.2.length * j + 1 + q.2.length - 1 = q.2.length * (j + 1) from by rw [Nat.mul_succ]; omega] at undone
  rw [unwrapPass, Machine.wrapPass, undone, List.reverse_reverse]

/-- The first `m` passes of a wrap, and what undoes them. -/
def wrapPasses (ks : List (List Nat)) (n : Nat) : Nat → List Nat × List (List Nat) → List Nat × List (List Nat)
  | 0, q => q
  | m + 1, q => Machine.wrapPass ks n m (wrapPasses ks n m q)
def unwrapPasses (ks : List (List Nat)) (n : Nat) : Nat → List Nat × List (List Nat) → List Nat × List (List Nat)
  | 0, q => q
  | m + 1, q => unwrapPasses ks n m (unwrapPass ks n m q)

theorem Semiblocks.wrapPasses {n : Nat} {q : List Nat × List (List Nat)} (h : Semiblocks n q) (m : Nat) : Semiblocks n (wrapPasses ks n m q) := by
  induction m with
  | zero => exact h
  | succ m ih => exact ih.wrapPass hk m

theorem unwrapPasses_wrapPasses {n : Nat} {q : List Nat × List (List Nat)} (h : Semiblocks n q) (m : Nat) :
    unwrapPasses ks n m (Machine.wrapPasses ks n m q) = q := by
  induction m with
  | zero => rfl
  | succ m ih => exact (congrArg (unwrapPasses ks n m) (unwrapPass_wrapPass hk (h.wrapPasses hk m) m)).trans ih

end

/-- A wrapped key in the form in which it is written down: the value, then the semiblocks. -/
theorem Semiblocks.written {n : Nat} {q : List Nat × List (List Nat)} (h : Semiblocks n q) :
    IsBytes (8 + 8 * n) (q.1 ++ q.2.flatten) ∧ (q.1 ++ q.2.flatten).take 8 = q.1 ∧ chunks 8 n ((q.1 ++ q.2.flatten).drop 8) = q.2 := by
  obtain ⟨value, rfl, blocks⟩ := h
  refine ⟨value.append (.flatten blocks), List.take_left' value.length, ?_⟩
  rw [List.drop_left' value.length, chunks_flatten 8 q.2 fun r mem => (blocks r mem).length]

/-- A wrapped key unwraps under the same key. -/
theorem kwUnwrap_kwWrap {key msg : List Nat} {n : Nat} (hk : RoundKeys (roundKeys key)) (hm : IsBytes (8 * n) msg) :
    IsBytes (8 + 8 * n) (kwWrap key msg) ∧ kwUnwrap key (kwWrap key msg) = some msg := by
  have start : Semiblocks n (List.replicate 8 0xA6, chunks 8 n msg) := ⟨⟨rfl, by simp⟩, chunks_length 8 n msg, chunks_isBytes hm⟩
  obtain ⟨bytes, first, rest⟩ := (start.wrapPasses hk 6).written
  have wrapped : kwWrap key msg = (wrapPasses (roundKeys key) n 6 (List.replicate 8 0xA6, chunks 8 n msg)).1 ++
      (wrapPasses (roundKeys key) n 6 (List.replicate 8 0xA6, chunks 8 n msg)).2.flatten := by
    rw [kwWrap, show msg.length / 8 = n by rw [hm.length]; omega]
    rfl
  rw [← wrapped] at bytes first rest
  have unwrapped : kwUnwrap key (kwWrap key msg) =
      if (unwrapPasses (roundKeys key) n 6 (wrapPasses (roundKeys key) n 6 (List.replicate 8 0xA6, chunks 8 n msg))).1 = List.replicate 8 0xA6 then
        some (unwrapPasses (roundKeys key) n 6 (wrapPasses (roundKeys key) n 6 (List.replicate 8 0xA6, chunks 8 n msg))).2.flatten else none := by
    rw [kwUnwrap, show (kwWrap key msg).length / 8 - 1 = n by rw [bytes.length]; omega, first, rest]
    rfl
  refine ⟨bytes, ?_⟩
  rw [unwrapped, unwrapPasses_wrapPasses hk start, if_pos rfl, flatten_chunks 8 n msg hm.length]

end Sys2Proof.Machine
end

section
/-! SUPPORT. What flash words spell (R387, R388): the words that a programming leaves, strings read from words, and the records of a slot. -/

namespace Sys2Proof.Machine

/-! ### Words programmed and read -/

theorem flWord_flProg (addr : Nat) (d : List Byte) (s : State) (w : Nat) :
    flWord (flProg addr d s) w = if w = addr / 16 then some { data := padTo 16 d } else flWord s w := by
  have words : (flProg addr d s).flash.words = tabSet (fun _ => none) s.flash.words (addr / 16) (some { data := padTo 16 d }) := rfl
  rw [flWord, words]
  split
  · next own => rw [own, tabGet_set_same]
  · next other => exact tabGet_set_other _ _ _ other

theorem flWord_flProgAll (n : Nat) : ∀ (a : Nat) (bs : List Byte) (s : State) (w : Nat), flWord (flProgAll (16 * a) n bs s) w =
    if a ≤ w ∧ w < a + n then some { data := padTo 16 (bs.drop (16 * (w - a))) } else flWord s w := by
  induction n with
  | zero => exact fun a bs s w => (if_neg (by omega)).symm
  | succ n ih =>
    intro a bs s w
    have later := ih (a + 1) (bs.drop 16) (flProg (16 * a) bs s) w
    rw [flWord_flProg, Nat.mul_div_cancel_left a (by decide : 0 < 16)] at later
    refine later.trans ?_
    rcases lt_trichotomy w a with before | own | past
    · rw [if_neg (by omega), if_neg (by omega), if_neg (by omega)]
    · rw [if_neg (by omega), if_pos own, if_pos (by omega), own, Nat.sub_self]
      rfl
    · by_cases within : w < a + (n + 1)
      · rw [if_pos (by omega), if_pos (by omega), List.drop_drop, show 16 + 16 * (w - (a + 1)) = 16 * (w - a) from by omega]
      · rw [if_neg (by omega), if_neg (by omega), if_neg (by omega)]

theorem wordBytes_whole {s : State} {w : Nat} {d : List Byte} (h : flWord s w = some { data := d }) : wordBytes s w = d := by
  rw [wordBytes, h]

theorem wordsFrom_congr {s t : State} {w n : Nat} (h : ∀ i < n, flWord t (w + i) = flWord s (w + i)) : wordsFrom t w n = wordsFrom s w n :=
  List.flatMap_congr fun i mem => by rw [wordBytes, h i (List.mem_range.mp mem), wordBytes]

theorem flBytes_congr {s t : State} {a n : Nat} (h : ∀ i < ceilDiv n 16, flWord t (a / 16 + i) = flWord s (a / 16 + i)) : flBytes t a n = flBytes s a n := by
  rw [flBytes, wordsFrom_congr h, flBytes]

theorem wordsFrom_append (s : State) (w m n : Nat) : wordsFrom s w (m + n) = wordsFrom s w m ++ wordsFrom s (w + m) n := by
  rw [wordsFrom, List.range_add, List.flatMap_append, List.flatMap_map, wordsFrom, wordsFrom]
  simp only [Nat.add_assoc]

theorem padTo_long {n : Nat} {bs : List Byte} (h : n ≤ bs.length) : padTo n bs = bs.take n := List.take_append_of_le_length h

/-- A string programmed into whole words reads as it was written. -/
theorem wordsFrom_flProgAll {a n : Nat} {bs : List Byte} (len : bs.length = 16 * n) (s : State) {m : Nat} (within : m ≤ n) :
    wordsFrom (flProgAll (16 * a) n bs s) a m = bs.take (16 * m) := by
  induction m with
  | zero => rfl
  | succ m ih =>
    have word : wordBytes (flProgAll (16 * a) n bs s) (a + m) = (bs.drop (16 * m)).take 16 := by
      refine wordBytes_whole ?_
      rw [flWord_flProgAll, if_pos (by omega), Nat.add_sub_cancel_left, padTo_long (by rw [List.length_drop, len]; omega)]
    rw [wordsFrom_append, ih (by omega), Nat.mul_succ, List.take_add]
    exact congrArg _ ((List.append_nil _).trans word)

/-! ### The records of a slot (R405) -/

theorem slotHeader_congr {s t : State} {b : Nat} (h : ∀ i < 112, flWord t (slotBase b / 16 + i) = flWord s (slotBase b / 16 + i)) :
    slotHeader t b = slotHeader s b := flBytes_congr h

theorem stateWords_none {s : State} {b : Nat} (blank : flWord s (slotBase b / 16 + 0x80) = none) : stateWords s b = [] := by
  unfold stateWords
  rw [show (384 : Nat) = 383 + 1 from rfl, List.range_succ_eq_map]
  simp [blank]

theorem stateWords_one {s : State} {b : Nat} {x : FlashWord} (first : flWord s (slotBase b / 16 + 0x80) = some x)
    (blank : flWord s (slotBase b / 16 + 0x81) = none) : stateWords s b = [wordBytes s (slotBase b / 16 + 0x80)] := by
  unfold stateWords
  rw [show (384 : Nat) = 382 + 1 + 1 from rfl, List.range_succ_eq_map, List.range_succ_eq_map]
  simp [first, blank]

/-- A record programmed in a slot whose record area is not full. -/
theorem putRec_eq {s : State} {b typ chunk gen : Nat} (room : (stateWords s b).length < 384) : putRec b typ chunk gen s =
    flProg (slotBase b + 0x800 + 16 * (stateWords s b).length) (crcRecord (leBytes 1 typ ++ leBytes 1 0 ++ leBytes 2 chunk ++ leBytes 4 gen)) s :=
  if_neg (Nat.not_le.mpr room)

theorem verified_of_recs {s : State} {b : Nat} {rs : List (Nat × Nat × Nat)} (h : stateRecs s b = rs) :
    verified s b = min (hBody (slotHeader s b)) (65536 * verifiedRun rs (hChunks (slotHeader s b)) 0) := by rw [verified, h]

/-- The sealed tag of a string opens it (SP 800-38D). -/
theorem gcmOpen_gcmTag {key iv aad ct : List Nat} (hk : RoundKeys (roundKeys key)) (hi : IsBytes 12 iv) :
    IsBytes 16 (gcmTag (roundKeys key) iv aad ct) ∧ (gcmOpen key iv aad ct (gcmTag (roundKeys key) iv aad ct)).isSome = true := by
  have tag : IsBytes 16 (gcmTag (roundKeys key) iv aad ct) := (IsBytes.beNats 16 _).xorL (hk.aesEnc (hi.append (.beNats 4 1)))
  refine ⟨tag, ?_⟩
  rw [gcmOpen, if_pos (List.take_of_length_le (Nat.le_refl _))]
  rfl

end Sys2Proof.Machine
end

section
/-! SUPPORT. The refutation of O51: an update whose last write completes two chunks, the first whole one and the short one after it. -/

namespace Sys2Proof.Machine

/-! ### The image and the session -/

/-- The fields of an image header (R402): two chunks, a body of 65,552 bytes, a section for each target. -/
def imageFields : List Byte :=
  [0x48, 0x4C, 0x44, 0x49] ++ leBytes 2 1 ++ leBytes 2 0x120 ++ leBytes 2 0x6416 ++ leBytes 1 0 ++ leBytes 1 2 ++ leBytes 4 1 ++ leBytes 4 0 ++ leBytes 2 1 ++
    leBytes 1 2 ++ leBytes 1 0 ++ leBytes 4 65552 ++ leBytes 8 5 ++ leBytes 12 0 ++
    (leBytes 4 0 ++ leBytes 4 0 ++ leBytes 4 16 ++ leBytes 4 0) ++ (leBytes 4 1 ++ leBytes 4 16 ++ leBytes 4 16 ++ leBytes 4 0) ++
    (leBytes 4 2 ++ leBytes 4 32 ++ leBytes 4 16 ++ leBytes 4 0) ++ (leBytes 4 0xFF ++ leBytes 12 0)

def imageKey : List Byte := leBytes 32 1

/-- A session of which 32 bytes are still to come, with its sectors entered; slot 0 runs and slot 1 is written. -/
def sessionState : State :=
  { State.reset with boot := { State.reset.boot with session := true, slot := 0, next := 65520, entered := [0x348, 0x349] } }

/-- The last 32 bytes of the body: they end chunk 0 and are all of chunk 1. -/
def lastWrite : Req :=
  { win := 0, target := 0x1E, tag := 0, counter := 0, payload := leBytes 4 65520 ++ leBytes 4 0 ++ leBytes 32 0 }

/-- The body in flash once they are written. -/
def bodyWritten (s : State) : State := flProg 0x692000 (leBytes 16 0) (flProg 0x691FF0 (leBytes 16 0) s)

/-- Chunk 0 as it then stands. -/
def firstChunk : List Byte := bodyAt (bodyWritten sessionState) 1 0 65536

/-- The tags of chunk 0 and of the header under the image key (R403). -/
def firstTag : List Nat :=
  gcmTag (roundKeys (natsOf imageKey)) (natsOf ((imageFields.drop 0x1C).take 8 ++ leBytes 4 0)) (natsOf imageFields) (natsOf firstChunk)
def imageTags : List Byte := bytesOf firstTag ++ leBytes 16 0
def headerTag : List Nat :=
  gcmTag (roundKeys (natsOf imageKey)) (natsOf ((imageFields.drop 0x1C).take 8 ++ leBytes 4 0xFFFFFFFF)) (natsOf (imageFields ++ imageTags)) []

/-- The header as a slot holds it, with the image key wrapped under the device unique key. -/
def heldHeader : List Byte :=
  imageFields ++ (bytesOf headerTag ++ (bytesOf (kwWrap (natsOf duk) (natsOf imageKey)) ++ (leBytes 88 0 ++ imageTags)))

/-- The session, with the header in the first sector of slot 1. -/
def imageState : State := flProgAll 0x680000 18 heldHeader sessionState

/-! ### The header reads as it was built -/

theorem imageKey_bytes : IsBytes 32 (natsOf imageKey) := .natsOf imageKey

theorem imageKeys : RoundKeys (roundKeys (natsOf imageKey)) := roundKeys_of_long imageKey_bytes

theorem nonce_bytes (k : Nat) : IsBytes 12 (natsOf ((imageFields.drop 0x1C).take 8 ++ leBytes 4 k)) := by
  have bytes := IsBytes.natsOf ((imageFields.drop 0x1C).take 8 ++ leBytes 4 k)
  rwa [List.length_append, leBytes_length, show ((imageFields.drop 0x1C).take 8).length = 8 from by decide +kernel] at bytes

theorem firstTag_bytes : IsBytes 16 firstTag := (gcmOpen_gcmTag imageKeys (nonce_bytes _)).1

theorem headerTag_bytes : IsBytes 16 headerTag := (gcmOpen_gcmTag imageKeys (nonce_bytes _)).1

theorem duk_keys : RoundKeys (roundKeys (natsOf duk)) := by
  have bytes := IsBytes.natsOf duk
  rw [duk, leBytes_length] at bytes
  exact roundKeys_of_long bytes

theorem wrapped_bytes : IsBytes 40 (kwWrap (natsOf duk) (natsOf imageKey)) := (kwUnwrap_kwWrap (n := 4) duk_keys imageKey_bytes).1

theorem imageFields_length : imageFields.length = 0x70 := by decide +kernel

theorem imageTags_length : imageTags.length = 32 := by rw [imageTags, List.length_append, bytesOf_length, firstTag_bytes.length, leBytes_length]

theorem heldHeader_length : heldHeader.length = 288 := by
  simp only [heldHeader, List.length_append, bytesOf_length, imageFields_length, headerTag_bytes.length, wrapped_bytes.length, leBytes_length,
    imageTags_length]

theorem heldHeader_tags : heldHeader.drop 0x100 = imageTags := by
  rw [heldHeader, ← List.append_assoc, ← List.append_assoc, ← List.append_assoc]
  exact List.drop_left' (by simp only [List.length_append, bytesOf_length, imageFields_length, headerTag_bytes.length, wrapped_bytes.length, leBytes_length])

/-- `s` holds the header in slot 1. -/
def holdsHeader (s : State) : Prop := ∃ rest, slotHeader s 1 = (heldHeader ++ rest).take 0x700

theorem holdsHeader_image : holdsHeader imageState := by
  refine ⟨wordsFrom imageState (0x68000 + 18) 94, congrArg (List.take 0x700) ?_⟩
  have stored : wordsFrom imageState 0x68000 18 = heldHeader := by
    have words := wordsFrom_flProgAll (a := 0x68000) (n := 18) heldHeader_length sessionState (Nat.le_refl 18)
    rwa [List.take_of_length_le (by rw [heldHeader_length])] at words
  rw [← stored]
  exact wordsFrom_append imageState 0x68000 18 94

theorem holdsHeader.of_words {s : State} (h : holdsHeader s) {t : State} (same : ∀ i < 112, flWord t (0x68000 + i) = flWord s (0x68000 + i)) :
    holdsHeader t := by
  obtain ⟨rest, e⟩ := h
  exact ⟨rest, (slotHeader_congr (b := 1) same).trans e⟩

section
variable {s : State} (h : holdsHeader s)
include h

/-- A part of the header that lies within its 288 bytes. -/
theorem header_part {o n : Nat} (within : o + n ≤ 288) : ((slotHeader s 1).drop o).take n = (heldHeader.drop o).take n := by
  obtain ⟨rest, e⟩ := h
  rw [e, List.drop_take, List.take_take, Nat.min_eq_left (by omega), List.drop_append_of_le_length (by rw [heldHeader_length]; omega),
    List.take_append_of_le_length (by rw [List.length_drop, heldHeader_length]; omega)]

theorem header_fields : (slotHeader s 1).take 0x70 = imageFields := by
  have part := header_part h (o := 0) (n := 0x70) (by decide)
  rw [List.drop_zero, List.drop_zero] at part
  exact part.trans (List.take_left' imageFields_length)

theorem header_field {o n : Nat} (within : o + n ≤ 0x70) : ((slotHeader s 1).drop o).take n = (imageFields.drop o).take n := by
  rw [header_part h (by omega), heldHeader, List.drop_append_of_le_length (by rw [imageFields_length]; omega),
    List.take_append_of_le_length (by rw [List.length_drop, imageFields_length]; omega)]

theorem header_leAt {o n : Nat} (within : o + n ≤ 0x70) : leAt (slotHeader s 1) o n = leAt imageFields o n := congrArg leNat (header_field h within)

theorem header_chunks : hChunks (slotHeader s 1) = 2 := (header_leAt h (by decide)).trans (by decide +kernel)

theorem header_body : hBody (slotHeader s 1) = 65552 := (header_leAt h (by decide)).trans (by decide +kernel)

theorem header_htag : ((slotHeader s 1).drop 0x70).take 16 = bytesOf headerTag := by
  rw [header_part h (by decide), heldHeader, List.drop_left' imageFields_length, List.take_left' (by rw [bytesOf_length, headerTag_bytes.length])]

theorem header_key : ((slotHeader s 1).drop 0x80).take 40 = bytesOf (kwWrap (natsOf duk) (natsOf imageKey)) := by
  rw [header_part h (by decide), heldHeader, ← List.append_assoc,
    List.drop_left' (by rw [List.length_append, imageFields_length, bytesOf_length, headerTag_bytes.length]),
    List.take_left' (by rw [bytesOf_length, wrapped_bytes.length])]

theorem header_tags : hTags (slotHeader s 1) = imageTags := by
  rw [hTags, header_chunks h, header_part h (by decide), heldHeader_tags, List.take_of_length_le (by rw [imageTags_length])]

theorem header_firstTag : ((slotHeader s 1).drop (0x100 + 16 * 0)).take 16 = bytesOf firstTag := by
  rw [header_part h (by decide), heldHeader_tags, imageTags, List.take_left' (by rw [bytesOf_length, firstTag_bytes.length])]

theorem slotKey_image : slotKey s 1 = some imageKey := by
  rw [slotKey, header_key h, wrapped_bytes.natsOf_bytesOf, (kwUnwrap_kwWrap (n := 4) duk_keys imageKey_bytes).2]
  exact congrArg some (by decide +kernel)

theorem slotValid_image : slotValid s 1 = true := by
  rw [slotValid, slotKey_image h]
  simp only [htagOk, header_field h (o := 0x1C) (n := 8) (by decide), header_fields h, header_tags h, header_htag h, headerTag_bytes.natsOf_bytesOf]
  exact (gcmOpen_gcmTag imageKeys (nonce_bytes _)).2

/-- Chunk 0 opens where the body is as the last write leaves it. -/
theorem slotChunk_first (body : bodyAt s 1 0 65536 = firstChunk) : (slotChunk s 1 0).isSome = true := by
  rw [slotChunk]
  simp only [slotKey_image h, header_body h]
  rw [show bodyAt s 1 (65536 * 0) (min 65536 (65552 - 65536 * 0)) = firstChunk from body, chunkOpen, header_field h (by decide), header_fields h,
    header_firstTag h, firstTag_bytes.natsOf_bytesOf, Option.isSome_map]
  exact (gcmOpen_gcmTag imageKeys (nonce_bytes _)).2

end

/-! ### The flash before and after the last write -/

theorem flWord_image (w : Nat) : flWord imageState w =
    if 0x68000 ≤ w ∧ w < 0x68000 + 18 then some { data := padTo 16 (heldHeader.drop (16 * (w - 0x68000))) } else none :=
  flWord_flProgAll 18 0x68000 heldHeader sessionState w

/-- Words of slot 1 before its body. -/
theorem flWord_bodyWritten (s : State) {w : Nat} (before : w < 0x68200) : flWord (bodyWritten s) w = flWord s w := by
  rw [bodyWritten, flWord_flProg, if_neg (by omega), flWord_flProg, if_neg (by omega)]

theorem bodyWords : (slotBase 1 + 0x2000 + 0) / 16 = 0x68200 := by decide +kernel

/-- Words of the body. -/
theorem flWord_bodyWritten_body {w : Nat} (body : 0x68200 ≤ w) : flWord (bodyWritten imageState) w = flWord (bodyWritten sessionState) w := by
  have blank : flWord imageState w = flWord sessionState w := by rw [flWord_image, if_neg (by omega)]; rfl
  simp only [bodyWritten, flWord_flProg, blank]

/-- `s` holds the header, the written body, and the records `rs` from the first one on. -/
structure Written (rs : List (Nat × Nat × Nat)) (s : State) : Prop where
  header : holdsHeader s
  recs : stateRecs s 1 = rs
  body : bodyAt s 1 0 65536 = firstChunk

theorem stateRecs_image : stateRecs imageState 1 = [] := by
  rw [stateRecs, stateWords_none (show flWord imageState 0x68080 = none by rw [flWord_image, if_neg (by decide)])]
  rfl

/-- Flash words alone tell what is written. -/
theorem Written.of_words {rs : List (Nat × Nat × Nat)} {s t : State} (h : Written rs s) (same : t.flash.words = s.flash.words) : Written rs t := by
  have words (w : Nat) : flWord t w = flWord s w := flWord_congr same w
  refine ⟨h.header.of_words fun i _ => words _, ?_, ?_⟩
  · rw [← h.recs]
    simp only [stateRecs, stateWords, wordBytes, words]
  · rw [← h.body]
    exact flBytes_congr fun i _ => words _

theorem written_body : Written [] (bodyWritten imageState) := by
  have before {w : Nat} (h : w < 0x68200) := flWord_bodyWritten imageState h
  refine ⟨holdsHeader_image.of_words fun i lt => before (by omega), ?_, ?_⟩
  · rw [stateRecs, stateWords_none (show flWord (bodyWritten imageState) 0x68080 = none by
      rw [before (by decide), flWord_image, if_neg (by decide)])]
    rfl
  · have same (i : Nat) : flWord (bodyWritten imageState) (0x68200 + i) = flWord (bodyWritten sessionState) (0x68200 + i) :=
      flWord_bodyWritten_body (Nat.le_add_right _ _)
    rw [firstChunk, bodyAt, bodyAt]
    exact flBytes_congr fun i _ => by rw [bodyWords]; exact same i

section
variable {rs : List (Nat × Nat × Nat)} {s : State} (h : Written rs s)
include h

theorem Written.verified : verified s 1 = min 65552 (65536 * verifiedRun rs 2 0) := by
  rw [verified_of_recs h.recs, header_body h.header, header_chunks h.header]

end

/-- The V record of chunk `k` as a word of the record area. -/
def chunkWord (k : Nat) : FlashWord := { data := padTo 16 (crcRecord (leBytes 1 0x56 ++ leBytes 1 0 ++ leBytes 2 k ++ leBytes 4 0)) }

theorem chunkWord_rec : stateRec (chunkWord 0).data = some (0x56, 0, 0) := by decide +kernel

/-- The state with the V record of chunk 0. -/
def firstVerified (s : State) : State := putRec 1 0x56 0 0 s

section
variable {s : State} (blank : ∀ i, 0x68080 ≤ i → i < 0x68200 → flWord s i = none)
include blank

theorem firstVerified_eq : firstVerified s = flProg 0x680800 (crcRecord (leBytes 1 0x56 ++ leBytes 1 0 ++ leBytes 2 0 ++ leBytes 4 0)) s := by
  have none : stateWords s 1 = [] := stateWords_none (blank 0x68080 (by decide) (by decide))
  rw [firstVerified, putRec_eq (by rw [none]; decide), none]
  rfl

theorem flWord_firstVerified (w : Nat) : flWord (firstVerified s) w = if w = 0x68080 then some (chunkWord 0) else flWord s w := by
  rw [firstVerified_eq blank, flWord_flProg]
  rfl

theorem stateWords_firstVerified : stateWords (firstVerified s) 1 = [(chunkWord 0).data] := by
  have first : flWord (firstVerified s) 0x68080 = some (chunkWord 0) := (flWord_firstVerified blank _).trans (if_pos rfl)
  have next : flWord (firstVerified s) 0x68081 = none :=
    (flWord_firstVerified blank _).trans ((if_neg (by decide)).trans (blank _ (by decide) (by decide)))
  exact (stateWords_one (b := 1) first next).trans (congrArg (fun d => [d]) (wordBytes_whole first))

theorem written_firstVerified (h : Written [] s) : Written [(0x56, 0, 0)] (firstVerified s) := by
  refine ⟨h.header.of_words fun i lt => (flWord_firstVerified blank _).trans (if_neg (by omega)), ?_, ?_⟩
  · rw [stateRecs, stateWords_firstVerified blank, List.filterMap_cons_some chunkWord_rec]
    rfl
  · rw [← h.body]
    exact flBytes_congr fun i _ => (flWord_firstVerified blank _).trans (if_neg (by rw [bodyWords]; omega))

/-- A second V record, of chunk 1. -/
theorem flWord_secondVerified : flWord (putRec 1 0x56 1 0 (firstVerified s)) 0x68081 = some (chunkWord 1) := by
  have one := stateWords_firstVerified blank
  rw [putRec_eq (by rw [one]; decide), one, flWord_flProg]
  exact if_pos rfl

end

/-! ### The last write -/

theorem checkChunks_zero (b : Nat) (s : State) : checkChunks b 0 s = (true, s) := rfl

theorem checkChunks_opens {b n : Nat} {s : State} (done : chunkDone (slotHeader s b) (verified s b) s.boot.next = true)
    (opens : (slotChunk s b (verified s b / 65536)).isSome = true) :
    checkChunks b (n + 1) s = checkChunks b n (putRec b 0x56 (verified s b / 65536) 0 s) := by
  rw [checkChunks]
  simp only [done, Bool.not_true, Bool.false_eq_true, if_false, if_pos opens]

theorem checkChunks_fails {b n : Nat} {s : State} (done : chunkDone (slotHeader s b) (verified s b) s.boot.next = true)
    (fails : ¬ (slotChunk s b (verified s b / 65536)).isSome = true) :
    (checkChunks b (n + 1) s).1 = false ∧ (checkChunks b (n + 1) s).2.boot.next = verified s b := by
  rw [checkChunks]
  simp only [done, Bool.not_true, Bool.false_eq_true, if_false, if_neg fails, and_self]

theorem bodyWord_entered {slot ofs : Nat} {d : List Byte} {s : State} (h : s.boot.entered.contains (flSector (slotBase slot + 0x2000 + ofs)) = true) :
    bodyWord slot ofs d s = flProg (slotBase slot + 0x2000 + ofs) d s := congrArg (flProg _ d) (if_pos h)

theorem dropHostReq_none {op : Nat} {q : Req} {s : State} (idle : s.tender.reqs = []) : dropHostReq op q s = s := by
  rw [dropHostReq, idle, List.filter_nil, ← idle]

theorem hostAnswer_flash (g : TagUse) (status : Nat) (b : List Byte) (s : State) :
    (hostAnswer g status b s).flash = s.flash ∧ (hostAnswer g status b s).boot = s.boot := by
  obtain ⟨r, p, x, e⟩ := toHost_eq 0 (leBytes 1 g.win ++ leBytes 3 0 ++ eskelHeader g.opcode 1 g.target g.tag b.length g.counter status ++ b)
    { s with tender := { s.tender with tags := s.tender.tags.filter (fun x => x.tag != g.tag) } }
  rw [hostAnswer, e]
  exact ⟨rfl, rfl⟩

theorem imageState_only : onlyFlash sessionState imageState := .flProgAll 18 0x680000 heldHeader sessionState

theorem imageState_boot : imageState.boot = sessionState.boot := by
  obtain ⟨f, e⟩ := imageState_only
  rw [e]

theorem imageState_reqs : imageState.tender.reqs = [] := by
  obtain ⟨f, e⟩ := imageState_only
  rw [e]
  rfl

theorem otherSlot_image : otherSlot imageState = 1 := by
  rw [otherSlot, imageState_boot]
  rfl

theorem slotState_image : slotState' imageState 1 = 1 := by
  have last : lastRec imageState 1 = none := by rw [lastRec, stateRecs_image]; rfl
  rw [slotState', slotValid_image holdsHeader_image, last, Bool.not_true, if_neg Bool.false_ne_true]

theorem verified_image : verified imageState 1 = 0 := by
  rw [verified_of_recs stateRecs_image, header_body holdsHeader_image, header_chunks holdsHeader_image]
  decide +kernel

theorem lastWrite_fields : fld lastWrite 0 4 = 65520 ∧ fld lastWrite 4 4 = 0 ∧ lastWrite.payload.length = 40 := by decide +kernel

theorem lastWrite_forTender (s : State) : forTender lastWrite s = true := Bool.true_or _

theorem flProg_boot (a : Nat) (d : List Byte) (s : State) : (flProg a d s).boot = s.boot := rfl

theorem bodyWrite_image : bodyWrite 1 ((lastWrite.payload.length - 8) / 16) (fld lastWrite 0 4) (lastWrite.payload.drop 8) imageState = bodyWritten imageState := by
  obtain ⟨ofs, -, len⟩ := lastWrite_fields
  have data : lastWrite.payload.drop 8 = leBytes 32 0 := by decide +kernel
  have first : bodyWord 1 65520 (leBytes 16 0) imageState = flProg 0x691FF0 (leBytes 16 0) imageState := by
    rw [bodyWord_entered (by rw [imageState_boot]; decide +kernel), show slotBase 1 + 0x2000 + 65520 = 0x691FF0 by decide +kernel]
  have second : bodyWord 1 (65520 + 16) (leBytes 16 0) (flProg 0x691FF0 (leBytes 16 0) imageState) = bodyWritten imageState := by
    rw [bodyWord_entered (by rw [flProg_boot, imageState_boot]; decide +kernel), show slotBase 1 + 0x2000 + (65520 + 16) = 0x692000 by decide +kernel, bodyWritten]
  have halves : (leBytes 32 0 : List Byte).take 16 = leBytes 16 0 ∧ ((leBytes 32 0 : List Byte).drop 16).take 16 = leBytes 16 0 := by decide +kernel
  rw [ofs, len, data, show (40 - 8) / 16 = 0 + 1 + 1 from rfl, bodyWrite, bodyWrite, bodyWrite, halves.1, halves.2, first, second]

/-- The state as the chunks are looked at: the body written and the next offset at its end. -/
def lastWritten : State := { bodyWritten imageState with boot := { (bodyWritten imageState).boot with next := 65552 } }

theorem lastWritten_words : lastWritten.flash.words = (bodyWritten imageState).flash.words := rfl

theorem written_last : Written [] lastWritten := written_body.of_words lastWritten_words

theorem bodyWritten_blank (w : Nat) (from' : 0x68080 ≤ w) (before : w < 0x68200) : flWord (bodyWritten imageState) w = none := by
  rw [flWord_bodyWritten imageState before, flWord_image, if_neg (by omega)]

theorem lastWritten_blank (w : Nat) (from' : 0x68080 ≤ w) (before : w < 0x68200) : flWord lastWritten w = none := by
  rw [flWord_congr lastWritten_words, bodyWritten_blank w from' before]

theorem verified_last : verified lastWritten 1 = 0 := written_last.verified.trans (by decide +kernel)

theorem written_next : Written [(0x56, 0, 0)] (firstVerified lastWritten) := written_firstVerified lastWritten_blank written_last

theorem verified_next : verified (firstVerified lastWritten) 1 = 65536 := written_next.verified.trans (by decide +kernel)

theorem chunkDone_of {s : State} (h : holdsHeader s) {ver : Nat} (whole : ver < 65552) : chunkDone (slotHeader s 1) ver 65552 = true := by
  rw [chunkDone, header_body h, decide_eq_true (by omega), decide_eq_true whole]
  rfl

theorem firstVerified_next : (firstVerified lastWritten).boot.next = 65552 := by
  rw [firstVerified_eq lastWritten_blank]
  rfl

/-- The first look finds chunk 0 complete and good. -/
theorem checkChunks_last (n : Nat) : checkChunks 1 (n + 1) lastWritten = checkChunks 1 n (firstVerified lastWritten) := by
  have done : chunkDone (slotHeader lastWritten 1) (verified lastWritten 1) lastWritten.boot.next = true := by
    rw [verified_last]
    exact chunkDone_of written_last.header (by decide)
  rw [checkChunks_opens done (by rw [verified_last]; exact slotChunk_first written_last.header written_last.body), verified_last]
  rfl

/-- The second look finds chunk 1 complete too: its record follows, or NEXT goes back. -/
theorem checkChunks_next : ((checkChunks 1 1 (firstVerified lastWritten)).1 = true ∧ flWord (checkChunks 1 1 (firstVerified lastWritten)).2 0x68081 = some (chunkWord 1)) ∨
    ((checkChunks 1 1 (firstVerified lastWritten)).1 = false ∧ (checkChunks 1 1 (firstVerified lastWritten)).2.boot.next = 65536) := by
  have done : chunkDone (slotHeader (firstVerified lastWritten) 1) (verified (firstVerified lastWritten) 1) (firstVerified lastWritten).boot.next = true := by
    rw [verified_next, firstVerified_next]
    exact chunkDone_of written_next.header (by decide)
  by_cases opens : (slotChunk (firstVerified lastWritten) 1 (verified (firstVerified lastWritten) 1 / 65536)).isSome = true
  · have word := flWord_secondVerified lastWritten_blank
    rw [checkChunks_opens done opens, verified_next, Nat.div_self (by decide), checkChunks_zero]
    exact .inl ⟨rfl, word⟩
  · have failed := checkChunks_fails (n := 0) done opens
    rw [verified_next, Nat.zero_add] at failed
    exact .inr failed

/-- The last write stores a second record, or ends with NEXT at the end of chunk 0. -/
theorem updWrite_last : flWord (updWrite lastWrite imageState) 0x68081 = some (chunkWord 1) ∨ (updWrite lastWrite imageState).boot.next = 65536 := by
  obtain ⟨ofs, blank, len⟩ := lastWrite_fields
  have next : updNext imageState = 65520 := by
    rw [updNext, imageState_boot]
    rfl
  have session : imageState.boot.session = true := by
    rw [imageState_boot]
    rfl
  have moved : { bodyWrite 1 ((lastWrite.payload.length - 8) / 16) (fld lastWrite 0 4) (lastWrite.payload.drop 8) imageState with
      boot := { (bodyWrite 1 ((lastWrite.payload.length - 8) / 16) (fld lastWrite 0 4) (lastWrite.payload.drop 8) imageState).boot with
        next := fld lastWrite 0 4 + (lastWrite.payload.length - 8) } } = lastWritten := by
    rw [bodyWrite_image, ofs, len, lastWritten]
  have size : ¬ (lastWrite.payload.length < 8 ∨ 4064 < lastWrite.payload.length - 8 ∨ (lastWrite.payload.length - 8) % 16 ≠ 0) := by omega
  have fields : ¬ ((!zeros lastWrite 4 4) = true ∨ fld lastWrite 0 4 ≠ updNext imageState) := by simp [zeros, blank, next, ofs]
  have opened : ¬ ((!imageState.boot.session) = true ∨ slotState' imageState 1 ≠ 1) := by simp [session, slotState_image]
  have within : ¬ hBody (slotHeader imageState 1) < fld lastWrite 0 4 + (lastWrite.payload.length - 8) := by
    rw [header_body holdsHeader_image]
    omega
  have row : updWrite lastWrite imageState = (fun r : Bool × State =>
      if r.1 then hostAnswer (useOf imageState 0x0C02 lastWrite) sOk (leBytes 4 (verified r.2 1)) r.2
      else hostAnswer (useOf imageState 0x0C02 lastWrite) sImage [] r.2) (checkChunks 1 2 lastWritten) := by
    rw [updWrite, runHost, dropHostReq_none imageState_reqs, if_pos (.inl (by decide +kernel)), otherSlot_image]
    exact (if_neg size).trans ((if_neg fields).trans ((if_neg (show ¬ lastWrite.payload.length - 8 = 0 by omega)).trans ((if_neg opened).trans
      ((if_neg within).trans (congrArg (fun r : Bool × State => if r.1 then hostAnswer (useOf imageState 0x0C02 lastWrite) sOk (leBytes 4 (verified r.2 1)) r.2
        else hostAnswer (useOf imageState 0x0C02 lastWrite) sImage [] r.2) (congrArg (checkChunks 1 2) moved))))))
  rw [checkChunks_last] at row
  rcases checkChunks_next with ⟨good, word⟩ | ⟨bad, back⟩
  · left
    beta_reduce at row
    rw [row, good, if_pos rfl]
    exact (flWord_congr (congrArg Flash.words (hostAnswer_flash _ _ _ _).1) _).trans word
  · right
    beta_reduce at row
    rw [row, bad, if_neg Bool.false_ne_true, (hostAnswer_flash _ _ _ _).2]
    exact back

/-! ### The obligation -/

/-- Refutes O51, by its clause on a write that completes a chunk. The last 32 bytes of a body of 65,552 end chunk 0 and are all of chunk 1, so two
chunks are looked at (R408): if both open, two V records are stored where the clause says one; if the second does not, NEXT goes back to 65,536
where the clause says that it moved on. -/
theorem not_updateCommands : ¬ Obligations.UpdateCommands := by
  rintro ⟨-, -, -, writes, -⟩
  obtain ⟨ofs, blank, len⟩ := lastWrite_fields
  have start : imageState.boot.session = true ∧ imageState.boot.next = 65520 := by
    rw [imageState_boot]
    exact ⟨rfl, rfl⟩
  obtain ⟨-, -, -, completes⟩ := writes lastWrite imageState (lastWrite_forTender _) (by omega) (by omega) (by omega) blank (by omega) start.1
    (ofs.trans start.2.symm)
  rw [otherSlot_image, verified_image, header_body holdsHeader_image, bodyWrite_image, Nat.zero_div] at completes
  obtain ⟨t, ends⟩ := completes (by omega) (by omega) (by decide)
  have opens : (slotChunk (bodyWritten imageState) 1 0).isSome = true := slotChunk_first written_body.header written_body.body
  beta_reduce at ends
  rw [if_pos opens, slotState_image] at ends
  obtain ⟨step, answered⟩ := ends
  obtain ⟨flash, next, -⟩ := answered rfl
  obtain rfl : updWrite lastWrite imageState = t := Host.Outcome.next.inj step
  rcases updWrite_last with word | back
  · have one : flWord (firstVerified (bodyWritten imageState)) 0x68081 = none :=
      (flWord_firstVerified bodyWritten_blank _).trans ((if_neg (by decide)).trans (bodyWritten_blank _ (by decide) (by decide)))
    rw [flWord_congr (congrArg Flash.words flash), show putRec 1 0x56 0 0 (bodyWritten imageState) = firstVerified (bodyWritten imageState) from rfl,
      one] at word
    exact absurd word (by simp)
  · rw [back, ofs, len] at next
    exact absurd next (by decide)

end Sys2Proof.Machine
end
